-- ==== Sys2Proof/Word.lean ====
section
/-! DEFINITION. The word types of the part (R4, R84): bytes, halfwords, 32- and 64-bit words, register and mask numbers. -/

namespace Sys2Proof

/-- A byte of memory (R4). -/
abbrev Byte := BitVec 8
/-- A 32-bit word. -/
abbrev Word32 := BitVec 32
/-- A 64-bit doubleword: an x register, an address before translation, a CSR. -/
abbrev Word := BitVec 64
/-- The number of an x or v register (R84). -/
abbrev Reg := BitVec 5
/-- The number of a mask register (R84). -/
abbrev KReg := BitVec 3
/-- The contents of a v register: VLMAX bits of it are used, at most 65,536 (R84). -/
abbrev VReg := BitVec 65536
/-- The contents of a mask register: 8,192 bits (R84). -/
abbrev KMask := BitVec 8192
/-- The contents of an accumulator tile: 128 x 128 FP32, element (r, c) at index 128 r + c (R84). -/
abbrev Tile := BitVec 524288

end Sys2Proof
end

