-- ==== Sys2Proof/Syntax.lean ====
section
/-! DEFINITION. The instructions: one constructor of `Instr` per row of the opcode table, in the table's order.
The operands of a hart instruction are its fields, grouped by the field layouts of R68 to R74 (the letters are the
table's field names); a device step (a row without bits) carries what it acts on. Generated from the table. -/

namespace Sys2Proof

/-- Fields of ADD, SUB, AND, OR and others (R68 to R74): d [12:8], a [17:13], b [22:18]. -/
structure OpDAB where
  d : BitVec 5
  a : BitVec 5
  b : BitVec 5
  deriving DecidableEq, Repr

/-- Fields of FADD, FSUB, FMUL, FDIV (R68 to R74): d [12:8], a [17:13], b [22:18], f [28:28], r [31:29]. -/
structure OpDABFR where
  d : BitVec 5
  a : BitVec 5
  b : BitVec 5
  f : BitVec 1
  r : BitVec 3
  deriving DecidableEq, Repr

/-- Fields of FSQRT (R68 to R74): d [12:8], a [17:13], f [28:28], r [31:29]. -/
structure OpDAFR where
  d : BitVec 5
  a : BitVec 5
  f : BitVec 1
  r : BitVec 3
  deriving DecidableEq, Repr

/-- Fields of FMIN, FMAX, FSGNJ, FSGNJN and others (R68 to R74): d [12:8], a [17:13], b [22:18], f [28:28]. -/
structure OpDABF where
  d : BitVec 5
  a : BitVec 5
  b : BitVec 5
  f : BitVec 1
  deriving DecidableEq, Repr

/-- Fields of FCLASS (R68 to R74): d [12:8], a [17:13], f [28:28]. -/
structure OpDAF where
  d : BitVec 5
  a : BitVec 5
  f : BitVec 1
  deriving DecidableEq, Repr

/-- Fields of FMA, FMS, FNMA, FNMS (R68 to R74): d [12:8], a [17:13], b [22:18], e [27:23], f [30:30]. -/
structure OpDABEF where
  d : BitVec 5
  a : BitVec 5
  b : BitVec 5
  e : BitVec 5
  f : BitVec 1
  deriving DecidableEq, Repr

/-- Fields of ADDI, ANDI, ORI, XORI and others (R68 to R74): d [12:8], a [17:13], i [31:18]. -/
structure OpDAI where
  d : BitVec 5
  a : BitVec 5
  i : BitVec 14
  deriving DecidableEq, Repr

/-- Fields of SLLI, SRLI, SRAI, ROLI (R68 to R74): d [12:8], a [17:13], s [23:18]. -/
structure OpDAS where
  d : BitVec 5
  a : BitVec 5
  s : BitVec 6
  deriving DecidableEq, Repr

/-- Fields of LUI, AUIPC, JAL (R68 to R74): d [12:8], i [31:13]. -/
structure OpDI where
  d : BitVec 5
  i : BitVec 19
  deriving DecidableEq, Repr

/-- Fields of SB, SH, SW, SD (R68 to R74): s [12:8], a [17:13], i [31:18]. -/
structure OpSAI where
  s : BitVec 5
  a : BitVec 5
  i : BitVec 14
  deriving DecidableEq, Repr

/-- Fields of BEQ, BNE, BLT, BGE and others (R68 to R74): a [12:8], b [17:13], i [31:18]. -/
structure OpABI where
  a : BitVec 5
  b : BitVec 5
  i : BitVec 14
  deriving DecidableEq, Repr

/-- Fields of AMOSWAP_W, AMOADD_W, AMOAND_W, AMOOR_W and others (R68 to R74): d [12:8], a [17:13], b [22:18], o [24:23]. -/
structure OpDABO where
  d : BitVec 5
  a : BitVec 5
  b : BitVec 5
  o : BitVec 2
  deriving DecidableEq, Repr

/-- Fields of CAS (R68 to R74): d [12:8], a [17:13], b [22:18], e [27:23], w [28:28], o [30:29]. -/
structure OpDABEWO where
  d : BitVec 5
  a : BitVec 5
  b : BitVec 5
  e : BitVec 5
  w : BitVec 1
  o : BitVec 2
  deriving DecidableEq, Repr

/-- Fields of FENCE (R68 to R74): s [20:18], k [22:21]. -/
structure OpSK where
  s : BitVec 3
  k : BitVec 2
  deriving DecidableEq, Repr

/-- Fields of GBAR, GBAR_RLX, MZERO (R68 to R74): d [12:8]. -/
structure OpD where
  d : BitVec 5
  deriving DecidableEq, Repr

/-- Fields of CSRRW, CSRRS, CSRRC (R68 to R74): d [12:8], a [17:13], c [31:21]. -/
structure OpDACsr where
  d : BitVec 5
  a : BitVec 5
  c : BitVec 11
  deriving DecidableEq, Repr

/-- Fields of CSRRWI, CSRRSI, CSRRCI (R68 to R74): d [12:8], u [17:13], c [31:21]. -/
structure OpDUCsr where
  d : BitVec 5
  u : BitVec 5
  c : BitVec 11
  deriving DecidableEq, Repr

/-- Fields of TRAP, VQSAVE, VQLOAD, FINVAL and others (R68 to R74): a [17:13]. -/
structure OpA where
  a : BitVec 5
  deriving DecidableEq, Repr

/-- Fields of TLBINV, CFLUSH, CINVAL, VLOOP and others (R68 to R74): a [17:13], b [22:18]. -/
structure OpAB where
  a : BitVec 5
  b : BitVec 5
  deriving DecidableEq, Repr

/-- Fields of CLZ, CTZ, POPC, BSWAP and others (R68 to R74): d [12:8], a [17:13]. -/
structure OpDA where
  d : BitVec 5
  a : BitVec 5
  deriving DecidableEq, Repr

/-- Fields of FCVT_I32_F32, FCVT_N32_F32, FCVT_I64_F32, FCVT_N64_F32 and others (R68 to R74): d [12:8], a [17:13], r [31:29]. -/
structure OpDAR where
  d : BitVec 5
  a : BitVec 5
  r : BitVec 3
  deriving DecidableEq, Repr

/-- Fields of VFETCHW (R68 to R74): a [17:13], k [20:18]. -/
structure OpAK where
  a : BitVec 5
  k : BitVec 3
  deriving DecidableEq, Repr

/-- Fields of VADD_VV, VSUB_VV, VRSUB_VV, VMUL_VV and others (R68 to R74): d [12:8], a [17:13], b [22:18], c [23:23], e [24:24], k [27:25]. -/
structure OpDABCEK where
  d : BitVec 5
  a : BitVec 5
  b : BitVec 5
  c : BitVec 1
  e : BitVec 1
  k : BitVec 3
  deriving DecidableEq, Repr

/-- Fields of VADD_VX, VSUB_VX, VRSUB_VX, VMUL_VX and others (R68 to R74): d [12:8], a [17:13], b [22:18], c [23:23], k [27:25]. -/
structure OpDABCK where
  d : BitVec 5
  a : BitVec 5
  b : BitVec 5
  c : BitVec 1
  k : BitVec 3
  deriving DecidableEq, Repr

/-- Fields of VADD_VI, VSUB_VI, VRSUB_VI, VMUL_VI and others (R68 to R74): d [12:8], a [17:13], i [22:18], c [23:23], k [27:25]. -/
structure OpDAICK where
  d : BitVec 5
  a : BitVec 5
  i : BitVec 5
  c : BitVec 1
  k : BitVec 3
  deriving DecidableEq, Repr

/-- Fields of VABS, VNEG, VPOPC, VCLZ and others (R68 to R74): d [12:8], b [22:18], e [24:24], k [27:25]. -/
structure OpDBEK where
  d : BitVec 5
  b : BitVec 5
  e : BitVec 1
  k : BitVec 3
  deriving DecidableEq, Repr

/-- Fields of VFSQRT, VFRCP, VFRSQ, VFEXP2 and others (R68 to R74): d [12:8], b [22:18], e [24:24], k [27:25], r [31:28]. -/
structure OpDBEKR where
  d : BitVec 5
  b : BitVec 5
  e : BitVec 1
  k : BitVec 3
  r : BitVec 4
  deriving DecidableEq, Repr

/-- Fields of VCVT_I32_F32, VCVT_N32_F32, VCVT_F32_I32, VCVT_F32_N32 and others (R68 to R74): d [12:8], b [22:18], e [24:24], k [27:25], s [28:28], r [31:29]. -/
structure OpDBEKSR where
  d : BitVec 5
  b : BitVec 5
  e : BitVec 1
  k : BitVec 3
  s : BitVec 1
  r : BitVec 3
  deriving DecidableEq, Repr

/-- Fields of VCMP_EQ_VV, VCMP_NE_VV, VCMP_LT_VV, VCMP_LE_VV and others (R68 to R74): d [10:8], a [17:13], b [22:18], c [23:23], e [24:24], k [27:25]. -/
structure OpD3ABCEK where
  d : BitVec 3
  a : BitVec 5
  b : BitVec 5
  c : BitVec 1
  e : BitVec 1
  k : BitVec 3
  deriving DecidableEq, Repr

/-- Fields of VCMP_EQ_VX, VCMP_NE_VX, VCMP_LT_VX, VCMP_LE_VX and others (R68 to R74): d [10:8], a [17:13], b [22:18], c [23:23], k [27:25]. -/
structure OpD3ABCK where
  d : BitVec 3
  a : BitVec 5
  b : BitVec 5
  c : BitVec 1
  k : BitVec 3
  deriving DecidableEq, Repr

/-- Fields of KAND, KOR, KXOR, KANDN (R68 to R74): d [10:8], a [15:13], b [20:18], c [23:23], e [24:24], k [27:25]. -/
structure OpD3A3B3CEK where
  d : BitVec 3
  a : BitVec 3
  b : BitVec 3
  c : BitVec 1
  e : BitVec 1
  k : BitVec 3
  deriving DecidableEq, Repr

/-- Fields of KNOT, KMOV (R68 to R74): d [10:8], b [20:18], e [24:24], k [27:25]. -/
structure OpD3B3EK where
  d : BitVec 3
  b : BitVec 3
  e : BitVec 1
  k : BitVec 3
  deriving DecidableEq, Repr

/-- Fields of KPOP, KFIRST, KIOTA (R68 to R74): d [12:8], b [20:18], e [24:24], k [27:25]. -/
structure OpDB3EK where
  d : BitVec 5
  b : BitVec 3
  e : BitVec 1
  k : BitVec 3
  deriving DecidableEq, Repr

/-- Fields of KSETX (R68 to R74): d [10:8], a [17:13], b [22:18], k [27:25]. -/
structure OpD3ABK where
  d : BitVec 3
  a : BitVec 5
  b : BitVec 5
  k : BitVec 3
  deriving DecidableEq, Repr

/-- Fields of VEXTRACT (R68 to R74): d [12:8], a [17:13], b [22:18], c [23:23]. -/
structure OpDABC where
  d : BitVec 5
  a : BitVec 5
  b : BitVec 5
  c : BitVec 1
  deriving DecidableEq, Repr

/-- Fields of VDILV (R68 to R74): d [12:8], a [17:13], c [23:23], k [27:25]. -/
structure OpDACK where
  d : BitVec 5
  a : BitVec 5
  c : BitVec 1
  k : BitVec 3
  deriving DecidableEq, Repr

/-- Fields of VID, RDEPTH, RNKID (R68 to R74): d [12:8], k [27:25]. -/
structure OpDK where
  d : BitVec 5
  k : BitVec 3
  deriving DecidableEq, Repr

/-- Fields of VRAND (R68 to R74): d [12:8], a [17:13], k [27:25]. -/
structure OpDAK where
  d : BitVec 5
  a : BitVec 5
  k : BitVec 3
  deriving DecidableEq, Repr

/-- Fields of VMV_X, RKIDS (R68 to R74): d [12:8], b [22:18], k [27:25]. -/
structure OpDBK where
  d : BitVec 5
  b : BitVec 5
  k : BitVec 3
  deriving DecidableEq, Repr

/-- Fields of VTERNLOG (R68 to R74): d [12:8], a [17:13], b [22:18], i [30:23]. -/
structure OpDABI where
  d : BitVec 5
  a : BitVec 5
  b : BitVec 5
  i : BitVec 8
  deriving DecidableEq, Repr

/-- Fields of VLD (R68 to R74): d [12:8], a [17:13], o [24:24], k [27:25]. -/
structure OpDAOK where
  d : BitVec 5
  a : BitVec 5
  o : BitVec 1
  k : BitVec 3
  deriving DecidableEq, Repr

/-- Fields of VLDS (R68 to R74): d [12:8], a [17:13], b [22:18], o [24:24], k [27:25]. -/
structure OpDABOK where
  d : BitVec 5
  a : BitVec 5
  b : BitVec 5
  o : BitVec 1
  k : BitVec 3
  deriving DecidableEq, Repr

/-- Fields of VLDX, VSTS, VSTX (R68 to R74): d [12:8], a [17:13], b [22:18], c [23:23], o [24:24], k [27:25]. -/
structure OpDABCOK where
  d : BitVec 5
  a : BitVec 5
  b : BitVec 5
  c : BitVec 1
  o : BitVec 1
  k : BitVec 3
  deriving DecidableEq, Repr

/-- Fields of VST (R68 to R74): d [12:8], a [17:13], c [23:23], o [24:24], k [27:25]. -/
structure OpDACOK where
  d : BitVec 5
  a : BitVec 5
  c : BitVec 1
  o : BitVec 1
  k : BitVec 3
  deriving DecidableEq, Repr

/-- Fields of VST_REG (R68 to R74): d [12:8], a [17:13], c [23:23]. -/
structure OpDAC where
  d : BitVec 5
  a : BitVec 5
  c : BitVec 1
  deriving DecidableEq, Repr

/-- Fields of VLDW_E4_H, VLDW_E4_BF, VLDW_E4_B8, VLDW_Q4_H and others (R68 to R74): d [12:8], a [17:13], b [22:18], k [27:25]. -/
structure OpDABK where
  d : BitVec 5
  a : BitVec 5
  b : BitVec 5
  k : BitVec 3
  deriving DecidableEq, Repr

/-- Fields of VCELLINS, VCELLFIND (R68 to R74): d [12:8], a [17:13], b [22:18], e [24:24], k [27:25]. -/
structure OpDABEK where
  d : BitVec 5
  a : BitVec 5
  b : BitVec 5
  e : BitVec 1
  k : BitVec 3
  deriving DecidableEq, Repr

/-- Fields of RSPAWN, RRET (R68 to R74): a [17:13], c [23:23], k [27:25]. -/
structure OpACK where
  a : BitVec 5
  c : BitVec 1
  k : BitVec 3
  deriving DecidableEq, Repr

/-- Fields of C_ADDI (R68 to R74): d [10:6], i [15:11]. -/
structure OpCDI where
  d : BitVec 5
  i : BitVec 5
  deriving DecidableEq, Repr

/-- Fields of C_MV, C_ADD, C_SUB (R68 to R74): d [10:6], s [15:11]. -/
structure OpCDS where
  d : BitVec 5
  s : BitVec 5
  deriving DecidableEq, Repr

/-- Fields of C_LD, C_LW (R68 to R74): d [8:6], a [11:9], o [15:12]. -/
structure OpCDAO where
  d : BitVec 3
  a : BitVec 3
  o : BitVec 4
  deriving DecidableEq, Repr

/-- Fields of C_SD, C_SW (R68 to R74): s [8:6], a [11:9], o [15:12]. -/
structure OpCSAO where
  s : BitVec 3
  a : BitVec 3
  o : BitVec 4
  deriving DecidableEq, Repr

/-- Fields of C_J (R68 to R74): o [15:6]. -/
structure OpCO where
  o : BitVec 10
  deriving DecidableEq, Repr

/-- Fields of C_BEQZ, C_BNEZ (R68 to R74): s [8:6], o [15:9]. -/
structure OpCSO where
  s : BitVec 3
  o : BitVec 7
  deriving DecidableEq, Repr

/-- Fields of C_VFETCH (R68 to R74): a [10:6]. -/
structure OpCA where
  a : BitVec 5
  deriving DecidableEq, Repr

/-- Fields of the 64-bit tile forms (R73). -/
structure OpTile where
  zd   : BitVec 5
  vs1  : Reg
  vs2  : Reg
  fa   : BitVec 3
  fb   : BitVec 3
  arnd : BitVec 3
  xA   : Reg
  xB   : Reg
  kA   : KReg
  kB   : KReg
  kdep : BitVec 4
  chk  : BitVec 1
  deriving DecidableEq, Repr

/-- The instructions of the opcode table, and its device steps (spec/95). -/
inductive Instr where
  | powerGood  -- POWER_GOOD (R47)
  | bringupStageComplete (err : Nat)  -- BRINGUP_STAGE_COMPLETE (R47)
  | ctrlWreset (port : Nat)  -- CTRL_WRESET (R47)
  | ctrlBootretry (port : Nat)  -- CTRL_BOOTRETRY (R48)
  | ctrlModelock (port : Nat)  -- CTRL_MODELOCK (R43)
  | ctrlCfglock (port : Nat)  -- CTRL_CFGLOCK (R37)
  | ctrlWinlock (port : Nat)  -- CTRL_WINLOCK (R46)
  | hsemRead (port : Nat)  -- HSEM_READ (R44)
  | hsemRelease (port : Nat)  -- HSEM_RELEASE (R44)
  | funcmodeWrite (port : Nat) (value : Word)  -- FUNCMODE_WRITE (R36)
  | registerWrite (port : Nat) (off : Nat) (value : Word)  -- REGISTER_WRITE (R43)
  | hostLinkDown (port : Nat)  -- HOST_LINK_DOWN (R44)
  | wakeWindowWrite (port : Nat) (off : Nat) (value : Word)  -- WAKE_WINDOW_WRITE (R45)
  | evackWrite (port : Nat) (value : Word)  -- EVACK_WRITE (R45)
  | eventPost (port : Nat)  -- EVENT_POST (R45)
  | launchRequestGo (host : Bool) (n : Nat)  -- LAUNCH_REQUEST_GO (R39)
  | sealWindowSeal (port : Nat)  -- SEAL_WINDOW_SEAL (R41)
  | sealWindowRevoke (port : Nat)  -- SEAL_WINDOW_REVOKE (R41)
  | preemptTimer (die : Nat) (value : Word)  -- PREEMPT_TIMER (R356)
  | preemptHost (die : Nat) (value : Word)  -- PREEMPT_HOST (R356)
  | migrationGo (die : Nat)  -- MIGRATION_GO (R326)
  | migrationRetire (die : Nat)  -- MIGRATION_RETIRE (R325)
  | watchdogWrite (die : Nat)  -- WATCHDOG_WRITE (R37)
  | watchdogExpiry (die : Nat)  -- WATCHDOG_EXPIRY (R37)
  | backgroundInitRegion  -- BACKGROUND_INIT_REGION (R49)
  | graphSubmissionPop (ring : Nat)  -- GRAPH_SUBMISSION_POP (R30)
  | nodeStart (g : Nat) (n : Nat)  -- NODE_START (R31)
  | readyRingPost (g : Nat) (n : Nat)  -- READY_RING_POST (R40)
  | nodeFinish (g : Nat) (n : Nat)  -- NODE_FINISH (R32)
  | remoteSuccessorReady (g : Nat) (n : Nat)  -- REMOTE_SUCCESSOR_READY (R32)
  | completionPushRetry (g : Nat)  -- COMPLETION_PUSH_RETRY (R33)
  | admissionGranted (r : Nat)  -- ADMISSION_GRANTED (R12)
  | jobComplete (j : Nat)  -- JOB_COMPLETE (R15)
  | jobEndByRecovery (j : Nat)  -- JOB_END_BY_RECOVERY (R363)
  | stripBoundaryGrantChange (h : Nat)  -- STRIP_BOUNDARY_GRANT_CHANGE (R56)
  | forcedBoundary (h : Nat)  -- FORCED_BOUNDARY (R58)
  | leaseStallPreempt (h : Nat)  -- LEASE_STALL_PREEMPT (R58)
  | clusterRetire (die : Nat) (stable : Nat) (cluster : Nat)  -- CLUSTER_RETIRE (R216)
  | vectorEntryComplete (h : Nat)  -- VECTOR_ENTRY_COMPLETE (R125)
  | readQueueReturn (h : Nat)  -- READ_QUEUE_RETURN (R126)
  | blockGroupCommit (h : Nat)  -- BLOCK_GROUP_COMMIT (R138)
  | stripAssign (h : Nat)  -- STRIP_ASSIGN (R147)
  | hartHaltComplete (h : Nat)  -- HART_HALT_COMPLETE (R117)
  | trapTake (h : Nat)  -- TRAP_TAKE (R344)
  | translationFaultReply (die : Nat) (slot : Nat)  -- TRANSLATION_FAULT_REPLY (R358)
  | engineTransferStart (h : Nat) (i : Nat)  -- ENGINE_TRANSFER_START (R232)
  | engineChunkComplete (h : Nat) (i : Nat)  -- ENGINE_CHUNK_COMPLETE (R232)
  | engineTransferComplete (h : Nat) (i : Nat)  -- ENGINE_TRANSFER_COMPLETE (R232)
  | mdrainTransferComplete (h : Nat) (i : Nat)  -- MDRAIN_TRANSFER_COMPLETE (R213)
  | recursionPassComplete (h : Nat)  -- RECURSION_PASS_COMPLETE (R269)
  | directoryReadRequest (die : Nat) (agent : Nat) (line : Nat)  -- DIRECTORY_READ_REQUEST (R321)
  | directoryWriteRequest (die : Nat) (agent : Nat) (line : Nat)  -- DIRECTORY_WRITE_REQUEST (R318)
  | invalidation (die : Nat) (agent : Nat) (line : Nat)  -- INVALIDATION (R318)
  | invalidationAck (die : Nat) (agent : Nat) (line : Nat)  -- INVALIDATION_ACK (R318)
  | evictionNotice (die : Nat) (agent : Nat) (line : Nat)  -- EVICTION_NOTICE (R319)
  | forwardSnoop (die : Nat) (agent : Nat) (line : Nat)  -- FORWARD_SNOOP (R321)
  | writeBack (die : Nat) (agent : Nat) (line : Nat)  -- WRITE_BACK (R321)
  | backInvalidation (line : Nat)  -- BACK_INVALIDATION (R322)
  | uRequest (die : Nat) (agent : Nat) (line : Nat) (op : Nat)  -- U_REQUEST (R329)
  | mergeRequest (line : Nat)  -- MERGE_REQUEST (R332)
  | mergeResponse (line : Nat)  -- MERGE_RESPONSE (R332)
  | movedResponse (h : Nat) (line : Nat)  -- MOVED_RESPONSE (R327)
  | hostCxlRequest (port : Nat) (write : Bool) (addr : Nat) (value : Word)  -- HOST_CXL_REQUEST (R324)
  | bisnpResponse (port : Nat) (line : Nat)  -- BISNP_RESPONSE (R324)
  | hostSnoop (port : Nat) (line : Nat)  -- HOST_SNOOP (R323)
  | dieResetRecall (die : Nat)  -- DIE_RESET_RECALL (R324)
  | dieReturn (die : Nat)  -- DIE_RETURN (R324)
  | memoryScrub (addr : Nat)  -- MEMORY_SCRUB (R364)
  | correctedError (die : Nat) (counter : Nat)  -- CORRECTED_ERROR (R364)
  | burzerCrcReplay (link : Nat)  -- BURZER_CRC_REPLAY (R369)
  | burzerHeartbeat (link : Nat)  -- BURZER_HEARTBEAT (R369)
  | peerSilenceTimeout (dev : Nat)  -- PEER_SILENCE_TIMEOUT (R370)
  | spareAssign (dev : Nat)  -- SPARE_ASSIGN (R370)
  | checkpointRestore  -- CHECKPOINT_RESTORE (R370)
  | checkpointWrite  -- CHECKPOINT_WRITE (R370)
  | thermalShutdown  -- THERMAL_SHUTDOWN (R372)
  | coolantLossShutdown  -- COOLANT_LOSS_SHUTDOWN (R372)
  | clockThrottle (die : Nat) (level : Nat)  -- CLOCK_THROTTLE (R372)
  | wfeTimeout (h : Nat)  -- WFE_TIMEOUT (R118)
  | waitmTimeout (h : Nat)  -- WAITM_TIMEOUT (R305)
  | add (o : OpDAB)  -- ADD (R103)
  | sub (o : OpDAB)  -- SUB (R103)
  | and (o : OpDAB)  -- AND (R103)
  | or (o : OpDAB)  -- OR (R103)
  | xor (o : OpDAB)  -- XOR (R103)
  | sll (o : OpDAB)  -- SLL (R103)
  | srl (o : OpDAB)  -- SRL (R103)
  | sra (o : OpDAB)  -- SRA (R103)
  | slt (o : OpDAB)  -- SLT (R103)
  | sltn (o : OpDAB)  -- SLTN (R103)
  | min (o : OpDAB)  -- MIN (R103)
  | max (o : OpDAB)  -- MAX (R103)
  | minn (o : OpDAB)  -- MINN (R103)
  | maxn (o : OpDAB)  -- MAXN (R103)
  | andn (o : OpDAB)  -- ANDN (R103)
  | orn (o : OpDAB)  -- ORN (R103)
  | rol (o : OpDAB)  -- ROL (R103)
  | ror (o : OpDAB)  -- ROR (R103)
  | addw (o : OpDAB)  -- ADDW (R103)
  | subw (o : OpDAB)  -- SUBW (R103)
  | mul (o : OpDAB)  -- MUL (R105)
  | mulh (o : OpDAB)  -- MULH (R105)
  | mulhn (o : OpDAB)  -- MULHN (R105)
  | mulhsn (o : OpDAB)  -- MULHSN (R105)
  | div (o : OpDAB)  -- DIV (R105)
  | divn (o : OpDAB)  -- DIVN (R105)
  | rem (o : OpDAB)  -- REM (R105)
  | remn (o : OpDAB)  -- REMN (R105)
  | fadd (o : OpDABFR)  -- FADD (R110)
  | fsub (o : OpDABFR)  -- FSUB (R110)
  | fmul (o : OpDABFR)  -- FMUL (R110)
  | fdiv (o : OpDABFR)  -- FDIV (R110)
  | fsqrt (o : OpDAFR)  -- FSQRT (R110)
  | fmin (o : OpDABF)  -- FMIN (R110)
  | fmax (o : OpDABF)  -- FMAX (R110)
  | fsgnj (o : OpDABF)  -- FSGNJ (R110)
  | fsgnjn (o : OpDABF)  -- FSGNJN (R110)
  | fsgnjx (o : OpDABF)  -- FSGNJX (R110)
  | feq (o : OpDABF)  -- FEQ (R110)
  | flt (o : OpDABF)  -- FLT (R110)
  | fle (o : OpDABF)  -- FLE (R110)
  | fclass (o : OpDAF)  -- FCLASS (R110)
  | fma (o : OpDABEF)  -- FMA (R111)
  | fms (o : OpDABEF)  -- FMS (R111)
  | fnma (o : OpDABEF)  -- FNMA (R111)
  | fnms (o : OpDABEF)  -- FNMS (R111)
  | addi (o : OpDAI)  -- ADDI (R104)
  | andi (o : OpDAI)  -- ANDI (R104)
  | ori (o : OpDAI)  -- ORI (R104)
  | xori (o : OpDAI)  -- XORI (R104)
  | slti (o : OpDAI)  -- SLTI (R104)
  | sltni (o : OpDAI)  -- SLTNI (R104)
  | slli (o : OpDAS)  -- SLLI (R104)
  | srli (o : OpDAS)  -- SRLI (R104)
  | srai (o : OpDAS)  -- SRAI (R104)
  | roli (o : OpDAS)  -- ROLI (R104)
  | lui (o : OpDI)  -- LUI (R104)
  | auipc (o : OpDI)  -- AUIPC (R104)
  | lb (o : OpDAI)  -- LB (R108)
  | lh (o : OpDAI)  -- LH (R108)
  | lw (o : OpDAI)  -- LW (R108)
  | ld (o : OpDAI)  -- LD (R108)
  | lbn (o : OpDAI)  -- LBN (R108)
  | lhn (o : OpDAI)  -- LHN (R108)
  | lwn (o : OpDAI)  -- LWN (R108)
  | sb (o : OpSAI)  -- SB (R108)
  | sh (o : OpSAI)  -- SH (R108)
  | sw (o : OpSAI)  -- SW (R108)
  | sd (o : OpSAI)  -- SD (R108)
  | beq (o : OpABI)  -- BEQ (R107)
  | bne (o : OpABI)  -- BNE (R107)
  | blt (o : OpABI)  -- BLT (R107)
  | bge (o : OpABI)  -- BGE (R107)
  | bltn (o : OpABI)  -- BLTN (R107)
  | bgen (o : OpABI)  -- BGEN (R107)
  | jal (o : OpDI)  -- JAL (R107)
  | jalr (o : OpDAI)  -- JALR (R107)
  | amoswapW (o : OpDABO)  -- AMOSWAP_W (R113)
  | amoaddW (o : OpDABO)  -- AMOADD_W (R113)
  | amoandW (o : OpDABO)  -- AMOAND_W (R113)
  | amoorW (o : OpDABO)  -- AMOOR_W (R113)
  | amoxorW (o : OpDABO)  -- AMOXOR_W (R113)
  | amominW (o : OpDABO)  -- AMOMIN_W (R113)
  | amomaxW (o : OpDABO)  -- AMOMAX_W (R113)
  | amominnW (o : OpDABO)  -- AMOMINN_W (R113)
  | amomaxnW (o : OpDABO)  -- AMOMAXN_W (R113)
  | amoswapD (o : OpDABO)  -- AMOSWAP_D (R113)
  | amoaddD (o : OpDABO)  -- AMOADD_D (R113)
  | amoandD (o : OpDABO)  -- AMOAND_D (R113)
  | amoorD (o : OpDABO)  -- AMOOR_D (R113)
  | amoxorD (o : OpDABO)  -- AMOXOR_D (R113)
  | amominD (o : OpDABO)  -- AMOMIN_D (R113)
  | amomaxD (o : OpDABO)  -- AMOMAX_D (R113)
  | amominnD (o : OpDABO)  -- AMOMINN_D (R113)
  | amomaxnD (o : OpDABO)  -- AMOMAXN_D (R113)
  | cas (o : OpDABEWO)  -- CAS (R114)
  | fence (o : OpSK)  -- FENCE (R303)
  | pause  -- PAUSE (R304)
  | waitm (o : OpDAB)  -- WAITM (R305)
  | arrive (o : OpDAB)  -- ARRIVE (R307)
  | await (o : OpDAB)  -- AWAIT (R308)
  | gbar (o : OpD)  -- GBAR (R310)
  | gbarRlx (o : OpD)  -- GBAR_RLX (R310)
  | csrrw (o : OpDACsr)  -- CSRRW (R116)
  | csrrs (o : OpDACsr)  -- CSRRS (R116)
  | csrrc (o : OpDACsr)  -- CSRRC (R116)
  | csrrwi (o : OpDUCsr)  -- CSRRWI (R116)
  | csrrsi (o : OpDUCsr)  -- CSRRSI (R116)
  | csrrci (o : OpDUCsr)  -- CSRRCI (R116)
  | trap (o : OpA)  -- TRAP (R346)
  | trapBrk  -- TRAP_BRK (R346)
  | tret  -- TRET (R354)
  | halt  -- HALT (R117)
  | wfe  -- WFE (R118)
  | tlbinv (o : OpAB)  -- TLBINV (R359)
  | cflush (o : OpAB)  -- CFLUSH (R222)
  | cinval (o : OpAB)  -- CINVAL (R222)
  | pin (o : OpDAB)  -- PIN (R221)
  | unpin (o : OpDAB)  -- UNPIN (R221)
  | vqsave (o : OpA)  -- VQSAVE (R352)
  | vqload (o : OpA)  -- VQLOAD (R353)
  | finval (o : OpA)  -- FINVAL (R249)
  | clz (o : OpDA)  -- CLZ (R106)
  | ctz (o : OpDA)  -- CTZ (R106)
  | popc (o : OpDA)  -- POPC (R106)
  | bswap (o : OpDA)  -- BSWAP (R106)
  | sextb (o : OpDA)  -- SEXTB (R106)
  | sexth (o : OpDA)  -- SEXTH (R106)
  | sextw (o : OpDA)  -- SEXTW (R106)
  | zextb (o : OpDA)  -- ZEXTB (R106)
  | zexth (o : OpDA)  -- ZEXTH (R106)
  | zextw (o : OpDA)  -- ZEXTW (R106)
  | qpush (o : OpDAB)  -- QPUSH (R120)
  | qpop (o : OpDAB)  -- QPOP (R121)
  | qpeek (o : OpDAB)  -- QPEEK (R121)
  | qwake (o : OpDAB)  -- QWAKE (R122)
  | qseal (o : OpDA)  -- QSEAL (R124)
  | qrevoke (o : OpDAB)  -- QREVOKE (R124)
  | qgrow (o : OpDAB)  -- QGROW (R124)
  | cpy (o : OpDAB)  -- CPY (R233)
  | cpybt (o : OpA)  -- CPYBT (R234)
  | cpywait  -- CPYWAIT (R233)
  | nsub (o : OpDAB)  -- NSUB (R123)
  | cpyfill (o : OpDAB)  -- CPYFILL (R233)
  | fcvtI32F32 (o : OpDAR)  -- FCVT_I32_F32 (R112)
  | fcvtN32F32 (o : OpDAR)  -- FCVT_N32_F32 (R112)
  | fcvtI64F32 (o : OpDAR)  -- FCVT_I64_F32 (R112)
  | fcvtN64F32 (o : OpDAR)  -- FCVT_N64_F32 (R112)
  | fcvtF32I32 (o : OpDAR)  -- FCVT_F32_I32 (R112)
  | fcvtF32N32 (o : OpDAR)  -- FCVT_F32_N32 (R112)
  | fcvtF32I64 (o : OpDAR)  -- FCVT_F32_I64 (R112)
  | fcvtF32N64 (o : OpDAR)  -- FCVT_F32_N64 (R112)
  | fcvtI32F64 (o : OpDAR)  -- FCVT_I32_F64 (R112)
  | fcvtN32F64 (o : OpDAR)  -- FCVT_N32_F64 (R112)
  | fcvtI64F64 (o : OpDAR)  -- FCVT_I64_F64 (R112)
  | fcvtN64F64 (o : OpDAR)  -- FCVT_N64_F64 (R112)
  | fcvtF64I32 (o : OpDAR)  -- FCVT_F64_I32 (R112)
  | fcvtF64N32 (o : OpDAR)  -- FCVT_F64_N32 (R112)
  | fcvtF64I64 (o : OpDAR)  -- FCVT_F64_I64 (R112)
  | fcvtF64N64 (o : OpDAR)  -- FCVT_F64_N64 (R112)
  | fcvtF32F64 (o : OpDAR)  -- FCVT_F32_F64 (R112)
  | fcvtF64F32 (o : OpDAR)  -- FCVT_F64_F32 (R112)
  | vsetl (o : OpDAB)  -- VSETL (R141)
  | vlease (o : OpDAB)  -- VLEASE (R142)
  | vfork (o : OpDA)  -- VFORK (R143)
  | vjoin (o : OpDA)  -- VJOIN (R144)
  | vfetch (o : OpA)  -- VFETCH (R145)
  | vfetchw (o : OpAK)  -- VFETCHW (R146)
  | vloop (o : OpAB)  -- VLOOP (R147)
  | vcommit  -- VCOMMIT (R148)
  | endb  -- ENDB (R149)
  | mmode (o : OpA)  -- MMODE (R203)
  | mshape (o : OpDA)  -- MSHAPE (R205)
  | vaddVV (o : OpDABCEK)  -- VADD_VV (R171)
  | vaddVX (o : OpDABCK)  -- VADD_VX (R171)
  | vaddVI (o : OpDAICK)  -- VADD_VI (R171)
  | vsubVV (o : OpDABCEK)  -- VSUB_VV (R171)
  | vsubVX (o : OpDABCK)  -- VSUB_VX (R171)
  | vsubVI (o : OpDAICK)  -- VSUB_VI (R171)
  | vrsubVV (o : OpDABCEK)  -- VRSUB_VV (R171)
  | vrsubVX (o : OpDABCK)  -- VRSUB_VX (R171)
  | vrsubVI (o : OpDAICK)  -- VRSUB_VI (R171)
  | vmulVV (o : OpDABCEK)  -- VMUL_VV (R171)
  | vmulVX (o : OpDABCK)  -- VMUL_VX (R171)
  | vmulVI (o : OpDAICK)  -- VMUL_VI (R171)
  | vmulhVV (o : OpDABCEK)  -- VMULH_VV (R171)
  | vmulhVX (o : OpDABCK)  -- VMULH_VX (R171)
  | vmulhVI (o : OpDAICK)  -- VMULH_VI (R171)
  | vmulhnVV (o : OpDABCEK)  -- VMULHN_VV (R171)
  | vmulhnVX (o : OpDABCK)  -- VMULHN_VX (R171)
  | vmulhnVI (o : OpDAICK)  -- VMULHN_VI (R171)
  | vandVV (o : OpDABCEK)  -- VAND_VV (R171)
  | vandVX (o : OpDABCK)  -- VAND_VX (R171)
  | vandVI (o : OpDAICK)  -- VAND_VI (R171)
  | vorVV (o : OpDABCEK)  -- VOR_VV (R171)
  | vorVX (o : OpDABCK)  -- VOR_VX (R171)
  | vorVI (o : OpDAICK)  -- VOR_VI (R171)
  | vxorVV (o : OpDABCEK)  -- VXOR_VV (R171)
  | vxorVX (o : OpDABCK)  -- VXOR_VX (R171)
  | vxorVI (o : OpDAICK)  -- VXOR_VI (R171)
  | vsllVV (o : OpDABCEK)  -- VSLL_VV (R171)
  | vsllVX (o : OpDABCK)  -- VSLL_VX (R171)
  | vsllVI (o : OpDAICK)  -- VSLL_VI (R171)
  | vsrlVV (o : OpDABCEK)  -- VSRL_VV (R171)
  | vsrlVX (o : OpDABCK)  -- VSRL_VX (R171)
  | vsrlVI (o : OpDAICK)  -- VSRL_VI (R171)
  | vsraVV (o : OpDABCEK)  -- VSRA_VV (R171)
  | vsraVX (o : OpDABCK)  -- VSRA_VX (R171)
  | vsraVI (o : OpDAICK)  -- VSRA_VI (R171)
  | vminVV (o : OpDABCEK)  -- VMIN_VV (R171)
  | vminVX (o : OpDABCK)  -- VMIN_VX (R171)
  | vminVI (o : OpDAICK)  -- VMIN_VI (R171)
  | vmaxVV (o : OpDABCEK)  -- VMAX_VV (R171)
  | vmaxVX (o : OpDABCK)  -- VMAX_VX (R171)
  | vmaxVI (o : OpDAICK)  -- VMAX_VI (R171)
  | vminnVV (o : OpDABCEK)  -- VMINN_VV (R171)
  | vminnVX (o : OpDABCK)  -- VMINN_VX (R171)
  | vminnVI (o : OpDAICK)  -- VMINN_VI (R171)
  | vmaxnVV (o : OpDABCEK)  -- VMAXN_VV (R171)
  | vmaxnVX (o : OpDABCK)  -- VMAXN_VX (R171)
  | vmaxnVI (o : OpDAICK)  -- VMAXN_VI (R171)
  | vsaddVV (o : OpDABCEK)  -- VSADD_VV (R172)
  | vsaddVX (o : OpDABCK)  -- VSADD_VX (R172)
  | vssubVV (o : OpDABCEK)  -- VSSUB_VV (R172)
  | vssubVX (o : OpDABCK)  -- VSSUB_VX (R172)
  | vsaddnVV (o : OpDABCEK)  -- VSADDN_VV (R172)
  | vsaddnVX (o : OpDABCK)  -- VSADDN_VX (R172)
  | vssubnVV (o : OpDABCEK)  -- VSSUBN_VV (R172)
  | vssubnVX (o : OpDABCK)  -- VSSUBN_VX (R172)
  | vdivVV (o : OpDABCEK)  -- VDIV_VV (R172)
  | vdivVX (o : OpDABCK)  -- VDIV_VX (R172)
  | vdivnVV (o : OpDABCEK)  -- VDIVN_VV (R172)
  | vdivnVX (o : OpDABCK)  -- VDIVN_VX (R172)
  | vremVV (o : OpDABCEK)  -- VREM_VV (R172)
  | vremVX (o : OpDABCK)  -- VREM_VX (R172)
  | vremnVV (o : OpDABCEK)  -- VREMN_VV (R172)
  | vremnVX (o : OpDABCK)  -- VREMN_VX (R172)
  | vmaccVV (o : OpDABCEK)  -- VMACC_VV (R172)
  | vmaccVX (o : OpDABCK)  -- VMACC_VX (R172)
  | vnmsacVV (o : OpDABCEK)  -- VNMSAC_VV (R172)
  | vnmsacVX (o : OpDABCK)  -- VNMSAC_VX (R172)
  | vavgVV (o : OpDABCEK)  -- VAVG_VV (R172)
  | vavgVX (o : OpDABCK)  -- VAVG_VX (R172)
  | vavgnVV (o : OpDABCEK)  -- VAVGN_VV (R172)
  | vavgnVX (o : OpDABCK)  -- VAVGN_VX (R172)
  | vabs (o : OpDBEK)  -- VABS (R172)
  | vneg (o : OpDBEK)  -- VNEG (R172)
  | vpopc (o : OpDBEK)  -- VPOPC (R172)
  | vclz (o : OpDBEK)  -- VCLZ (R172)
  | vwaddVV (o : OpDABCEK)  -- VWADD_VV (R175)
  | vwaddVX (o : OpDABCK)  -- VWADD_VX (R175)
  | vwaddnVV (o : OpDABCEK)  -- VWADDN_VV (R175)
  | vwaddnVX (o : OpDABCK)  -- VWADDN_VX (R175)
  | vwsubVV (o : OpDABCEK)  -- VWSUB_VV (R175)
  | vwsubVX (o : OpDABCK)  -- VWSUB_VX (R175)
  | vwsubnVV (o : OpDABCEK)  -- VWSUBN_VV (R175)
  | vwsubnVX (o : OpDABCK)  -- VWSUBN_VX (R175)
  | vwmulVV (o : OpDABCEK)  -- VWMUL_VV (R175)
  | vwmulVX (o : OpDABCK)  -- VWMUL_VX (R175)
  | vwmulnVV (o : OpDABCEK)  -- VWMULN_VV (R175)
  | vwmulnVX (o : OpDABCK)  -- VWMULN_VX (R175)
  | vwmaccVV (o : OpDABCEK)  -- VWMACC_VV (R175)
  | vwmaccVX (o : OpDABCK)  -- VWMACC_VX (R175)
  | vwmaccnVV (o : OpDABCEK)  -- VWMACCN_VV (R175)
  | vwmaccnVX (o : OpDABCK)  -- VWMACCN_VX (R175)
  | vnsrlVV (o : OpDABCEK)  -- VNSRL_VV (R176)
  | vnsrlVX (o : OpDABCK)  -- VNSRL_VX (R176)
  | vnsraVV (o : OpDABCEK)  -- VNSRA_VV (R176)
  | vnsraVX (o : OpDABCK)  -- VNSRA_VX (R176)
  | vnclipVV (o : OpDABCEK)  -- VNCLIP_VV (R176)
  | vnclipVX (o : OpDABCK)  -- VNCLIP_VX (R176)
  | vnclipnVV (o : OpDABCEK)  -- VNCLIPN_VV (R176)
  | vnclipnVX (o : OpDABCK)  -- VNCLIPN_VX (R176)
  | vfaddVV (o : OpDABCEK)  -- VFADD_VV (R177)
  | vfaddVX (o : OpDABCK)  -- VFADD_VX (R177)
  | vfsubVV (o : OpDABCEK)  -- VFSUB_VV (R177)
  | vfsubVX (o : OpDABCK)  -- VFSUB_VX (R177)
  | vfrsubVV (o : OpDABCEK)  -- VFRSUB_VV (R177)
  | vfrsubVX (o : OpDABCK)  -- VFRSUB_VX (R177)
  | vfmulVV (o : OpDABCEK)  -- VFMUL_VV (R177)
  | vfmulVX (o : OpDABCK)  -- VFMUL_VX (R177)
  | vfdivVV (o : OpDABCEK)  -- VFDIV_VV (R177)
  | vfdivVX (o : OpDABCK)  -- VFDIV_VX (R177)
  | vfrdivVV (o : OpDABCEK)  -- VFRDIV_VV (R177)
  | vfrdivVX (o : OpDABCK)  -- VFRDIV_VX (R177)
  | vfminVV (o : OpDABCEK)  -- VFMIN_VV (R177)
  | vfminVX (o : OpDABCK)  -- VFMIN_VX (R177)
  | vfmaxVV (o : OpDABCEK)  -- VFMAX_VV (R177)
  | vfmaxVX (o : OpDABCK)  -- VFMAX_VX (R177)
  | vfsgnjVV (o : OpDABCEK)  -- VFSGNJ_VV (R177)
  | vfsgnjVX (o : OpDABCK)  -- VFSGNJ_VX (R177)
  | vfsgnjnVV (o : OpDABCEK)  -- VFSGNJN_VV (R177)
  | vfsgnjnVX (o : OpDABCK)  -- VFSGNJN_VX (R177)
  | vfsgnjxVV (o : OpDABCEK)  -- VFSGNJX_VV (R177)
  | vfsgnjxVX (o : OpDABCK)  -- VFSGNJX_VX (R177)
  | vfmaVV (o : OpDABCEK)  -- VFMA_VV (R177)
  | vfmaVX (o : OpDABCK)  -- VFMA_VX (R177)
  | vfmsVV (o : OpDABCEK)  -- VFMS_VV (R177)
  | vfmsVX (o : OpDABCK)  -- VFMS_VX (R177)
  | vfnmaVV (o : OpDABCEK)  -- VFNMA_VV (R177)
  | vfnmaVX (o : OpDABCK)  -- VFNMA_VX (R177)
  | vfnmsVV (o : OpDABCEK)  -- VFNMS_VV (R177)
  | vfnmsVX (o : OpDABCK)  -- VFNMS_VX (R177)
  | vfsqrt (o : OpDBEKR)  -- VFSQRT (R179)
  | vfrcp (o : OpDBEKR)  -- VFRCP (R180)
  | vfrsq (o : OpDBEKR)  -- VFRSQ (R180)
  | vfexp2 (o : OpDBEKR)  -- VFEXP2 (R180)
  | vflog2 (o : OpDBEKR)  -- VFLOG2 (R180)
  | vfsinp (o : OpDBEKR)  -- VFSINP (R180)
  | vfcosp (o : OpDBEKR)  -- VFCOSP (R180)
  | vftanh (o : OpDBEKR)  -- VFTANH (R180)
  | vfabs (o : OpDBEKR)  -- VFABS (R179)
  | vfneg (o : OpDBEKR)  -- VFNEG (R179)
  | vfclass (o : OpDBEKR)  -- VFCLASS (R179)
  | vffloor (o : OpDBEKR)  -- VFFLOOR (R179)
  | vfceil (o : OpDBEKR)  -- VFCEIL (R179)
  | vfround (o : OpDBEKR)  -- VFROUND (R179)
  | vcvtI32F32 (o : OpDBEKSR)  -- VCVT_I32_F32 (R182)
  | vcvtN32F32 (o : OpDBEKSR)  -- VCVT_N32_F32 (R182)
  | vcvtF32I32 (o : OpDBEKSR)  -- VCVT_F32_I32 (R182)
  | vcvtF32N32 (o : OpDBEKSR)  -- VCVT_F32_N32 (R182)
  | vcvtI64F64 (o : OpDBEKSR)  -- VCVT_I64_F64 (R182)
  | vcvtN64F64 (o : OpDBEKSR)  -- VCVT_N64_F64 (R182)
  | vcvtF64I64 (o : OpDBEKSR)  -- VCVT_F64_I64 (R182)
  | vcvtF64N64 (o : OpDBEKSR)  -- VCVT_F64_N64 (R182)
  | vcvtF64F32 (o : OpDBEKSR)  -- VCVT_F64_F32 (R182)
  | vcvtF32F64 (o : OpDBEKSR)  -- VCVT_F32_F64 (R182)
  | vcvtHF32 (o : OpDBEKSR)  -- VCVT_H_F32 (R182)
  | vcvtBfF32 (o : OpDBEKSR)  -- VCVT_BF_F32 (R182)
  | vcvtF32H (o : OpDBEKSR)  -- VCVT_F32_H (R182)
  | vcvtF32Bf (o : OpDBEKSR)  -- VCVT_F32_BF (R182)
  | vcvtB8F32 (o : OpDBEKSR)  -- VCVT_B8_F32 (R182)
  | vcvtF32B8 (o : OpDBEKSR)  -- VCVT_F32_B8 (R182)
  | vcvtB8H (o : OpDBEKSR)  -- VCVT_B8_H (R182)
  | vcvtHB8 (o : OpDBEKSR)  -- VCVT_H_B8 (R182)
  | vcvtB8Bf (o : OpDBEKSR)  -- VCVT_B8_BF (R182)
  | vcvtBfB8 (o : OpDBEKSR)  -- VCVT_BF_B8 (R182)
  | vcvtE4F32 (o : OpDBEKSR)  -- VCVT_E4_F32 (R182)
  | vcvtF32E4 (o : OpDBEKSR)  -- VCVT_F32_E4 (R182)
  | vcvtHE4 (o : OpDBEKSR)  -- VCVT_H_E4 (R182)
  | vcvtQ4F32 (o : OpDBEKSR)  -- VCVT_Q4_F32 (R182)
  | vcvtF32Q4 (o : OpDBEKSR)  -- VCVT_F32_Q4 (R182)
  | vcvtHQ4 (o : OpDBEKSR)  -- VCVT_H_Q4 (R182)
  | vcmpEqVV (o : OpD3ABCEK)  -- VCMP_EQ_VV (R183)
  | vcmpEqVX (o : OpD3ABCK)  -- VCMP_EQ_VX (R183)
  | vcmpNeVV (o : OpD3ABCEK)  -- VCMP_NE_VV (R183)
  | vcmpNeVX (o : OpD3ABCK)  -- VCMP_NE_VX (R183)
  | vcmpLtVV (o : OpD3ABCEK)  -- VCMP_LT_VV (R183)
  | vcmpLtVX (o : OpD3ABCK)  -- VCMP_LT_VX (R183)
  | vcmpLeVV (o : OpD3ABCEK)  -- VCMP_LE_VV (R183)
  | vcmpLeVX (o : OpD3ABCK)  -- VCMP_LE_VX (R183)
  | vcmpLtnVV (o : OpD3ABCEK)  -- VCMP_LTN_VV (R183)
  | vcmpLtnVX (o : OpD3ABCK)  -- VCMP_LTN_VX (R183)
  | vcmpLenVV (o : OpD3ABCEK)  -- VCMP_LEN_VV (R183)
  | vcmpLenVX (o : OpD3ABCK)  -- VCMP_LEN_VX (R183)
  | vcmpGtVV (o : OpD3ABCEK)  -- VCMP_GT_VV (R183)
  | vcmpGtVX (o : OpD3ABCK)  -- VCMP_GT_VX (R183)
  | vcmpGeVV (o : OpD3ABCEK)  -- VCMP_GE_VV (R183)
  | vcmpGeVX (o : OpD3ABCK)  -- VCMP_GE_VX (R183)
  | vcmpFeqVV (o : OpD3ABCEK)  -- VCMP_FEQ_VV (R183)
  | vcmpFeqVX (o : OpD3ABCK)  -- VCMP_FEQ_VX (R183)
  | vcmpFneVV (o : OpD3ABCEK)  -- VCMP_FNE_VV (R183)
  | vcmpFneVX (o : OpD3ABCK)  -- VCMP_FNE_VX (R183)
  | vcmpFltVV (o : OpD3ABCEK)  -- VCMP_FLT_VV (R183)
  | vcmpFltVX (o : OpD3ABCK)  -- VCMP_FLT_VX (R183)
  | vcmpFleVV (o : OpD3ABCEK)  -- VCMP_FLE_VV (R183)
  | vcmpFleVX (o : OpD3ABCK)  -- VCMP_FLE_VX (R183)
  | vcmpFgtVV (o : OpD3ABCEK)  -- VCMP_FGT_VV (R183)
  | vcmpFgtVX (o : OpD3ABCK)  -- VCMP_FGT_VX (R183)
  | vcmpFgeVV (o : OpD3ABCEK)  -- VCMP_FGE_VV (R183)
  | vcmpFgeVX (o : OpD3ABCK)  -- VCMP_FGE_VX (R183)
  | vcmpFunordVV (o : OpD3ABCEK)  -- VCMP_FUNORD_VV (R183)
  | vcmpFunordVX (o : OpD3ABCK)  -- VCMP_FUNORD_VX (R183)
  | vcmpFordVV (o : OpD3ABCEK)  -- VCMP_FORD_VV (R183)
  | vcmpFordVX (o : OpD3ABCK)  -- VCMP_FORD_VX (R183)
  | kand (o : OpD3A3B3CEK)  -- KAND (R186)
  | kor (o : OpD3A3B3CEK)  -- KOR (R186)
  | kxor (o : OpD3A3B3CEK)  -- KXOR (R186)
  | kandn (o : OpD3A3B3CEK)  -- KANDN (R186)
  | knot (o : OpD3B3EK)  -- KNOT (R186)
  | kmov (o : OpD3B3EK)  -- KMOV (R186)
  | kpop (o : OpDB3EK)  -- KPOP (R187)
  | kfirst (o : OpDB3EK)  -- KFIRST (R187)
  | kiota (o : OpDB3EK)  -- KIOTA (R188)
  | vmerge (o : OpDABCEK)  -- VMERGE (R190)
  | vcompress (o : OpDBEK)  -- VCOMPRESS (R191)
  | vexpand (o : OpDBEK)  -- VEXPAND (R191)
  | ksetx (o : OpD3ABK)  -- KSETX (R189)
  | vslideup (o : OpDABCK)  -- VSLIDEUP (R192)
  | vslidedn (o : OpDABCK)  -- VSLIDEDN (R192)
  | vpermv (o : OpDABCEK)  -- VPERMV (R192)
  | vbcast (o : OpDABCK)  -- VBCAST (R192)
  | vextract (o : OpDABC)  -- VEXTRACT (R193)
  | vinsert (o : OpDAB)  -- VINSERT (R193)
  | vilv (o : OpDABCEK)  -- VILV (R194)
  | vdilv (o : OpDACK)  -- VDILV (R194)
  | vid (o : OpDK)  -- VID (R195)
  | vrand (o : OpDAK)  -- VRAND (R196)
  | vmvV (o : OpDBEK)  -- VMV_V (R195)
  | vmvX (o : OpDBK)  -- VMV_X (R195)
  | vredsum (o : OpDABCEK)  -- VREDSUM (R197)
  | vredmin (o : OpDABCEK)  -- VREDMIN (R197)
  | vredmax (o : OpDABCEK)  -- VREDMAX (R197)
  | vredminn (o : OpDABCEK)  -- VREDMINN (R197)
  | vredmaxn (o : OpDABCEK)  -- VREDMAXN (R197)
  | vredand (o : OpDABCEK)  -- VREDAND (R197)
  | vredor (o : OpDABCEK)  -- VREDOR (R197)
  | vredxor (o : OpDABCEK)  -- VREDXOR (R197)
  | vfsum (o : OpDABCEK)  -- VFSUM (R166)
  | vfsumo (o : OpDABCEK)  -- VFSUMO (R166)
  | vfredmin (o : OpDABCEK)  -- VFREDMIN (R198)
  | vfredmax (o : OpDABCEK)  -- VFREDMAX (R198)
  | vwsum (o : OpDABCEK)  -- VWSUM (R197)
  | vbshl (o : OpDABCK)  -- VBSHL (R199)
  | vbshr (o : OpDABCK)  -- VBSHR (R199)
  | vbfun (o : OpDABCK)  -- VBFUN (R199)
  | vternlog (o : OpDABI)  -- VTERNLOG (R200)
  | vld (o : OpDAOK)  -- VLD (R226)
  | vldReg (o : OpDA)  -- VLD_REG (R228)
  | vlds (o : OpDABOK)  -- VLDS (R226)
  | vldx (o : OpDABCOK)  -- VLDX (R226)
  | vst (o : OpDACOK)  -- VST (R226)
  | vstReg (o : OpDAC)  -- VST_REG (R228)
  | vsts (o : OpDABCOK)  -- VSTS (R226)
  | vstx (o : OpDABCOK)  -- VSTX (R226)
  | vgll (o : OpDABCK)  -- VGLL (R229)
  | vscc (o : OpDABCK)  -- VSCC (R230)
  | vacc (o : OpDABCK)  -- VACC (R338)
  | vldwE4H (o : OpDABK)  -- VLDW_E4_H (R231)
  | vldwE4Bf (o : OpDABK)  -- VLDW_E4_BF (R231)
  | vldwE4B8 (o : OpDABK)  -- VLDW_E4_B8 (R231)
  | vldwQ4H (o : OpDABK)  -- VLDW_Q4_H (R231)
  | vldwQ4Bf (o : OpDABK)  -- VLDW_Q4_BF (R231)
  | vldwQ4B8 (o : OpDABK)  -- VLDW_Q4_B8 (R231)
  | gsub (o : OpDABCEK)  -- GSUB (R252)
  | gadd (o : OpDABCEK)  -- GADD (R252)
  | glen (o : OpDBEK)  -- GLEN (R254)
  | gtag (o : OpDBEK)  -- GTAG (R255)
  | gpack (o : OpDABCEK)  -- GPACK (R255)
  | gunpack (o : OpDBEK)  -- GUNPACK (R255)
  | grehome (o : OpDBEK)  -- GREHOME (R256)
  | gdot (o : OpDABCEK)  -- GDOT (R254)
  | gcvt (o : OpDABCK)  -- GCVT (R253)
  | gscl (o : OpDABCK)  -- GSCL (R254)
  | gsettag (o : OpDABCK)  -- GSETTAG (R255)
  | gmorton (o : OpDABCK)  -- GMORTON (R257)
  | gnbr (o : OpDABCK)  -- GNBR (R258)
  | vcellins (o : OpDABEK)  -- VCELLINS (R261)
  | vcellfind (o : OpDABEK)  -- VCELLFIND (R262)
  | recur (o : OpDAB)  -- RECUR (R277)
  | rspawn (o : OpACK)  -- RSPAWN (R278)
  | rret (o : OpACK)  -- RRET (R279)
  | rkids (o : OpDBK)  -- RKIDS (R280)
  | rdepth (o : OpDK)  -- RDEPTH (R281)
  | rnkid (o : OpDK)  -- RNKID (R281)
  | mzero (o : OpD)  -- MZERO (R210)
  | mrowv (o : OpDABK)  -- MROWV (R210)
  | mvrow (o : OpDABCK)  -- MVROW (R210)
  | mcolv (o : OpDABK)  -- MCOLV (R210)
  | mvcol (o : OpDABCK)  -- MVCOL (R210)
  | mdrain (o : OpDAB)  -- MDRAIN (R213)
  | mload (o : OpDAB)  -- MLOAD (R212)
  | amerge (o : OpAB)  -- AMERGE (R340)
  | sacc (o : OpAB)  -- SACC (R339)
  | opacc (o : OpTile)  -- OPACC (R208)
  | opsub (o : OpTile)  -- OPSUB (R208)
  | opaccw (o : OpTile)  -- OPACCW (R208)
  | cAddi (o : OpCDI)  -- C_ADDI (R74)
  | cMv (o : OpCDS)  -- C_MV (R74)
  | cAdd (o : OpCDS)  -- C_ADD (R74)
  | cSub (o : OpCDS)  -- C_SUB (R74)
  | cLd (o : OpCDAO)  -- C_LD (R74)
  | cSd (o : OpCSAO)  -- C_SD (R74)
  | cLw (o : OpCDAO)  -- C_LW (R74)
  | cSw (o : OpCSAO)  -- C_SW (R74)
  | cJ (o : OpCO)  -- C_J (R74)
  | cBeqz (o : OpCSO)  -- C_BEQZ (R74)
  | cBnez (o : OpCSO)  -- C_BNEZ (R74)
  | cVfetch (o : OpCA)  -- C_VFETCH (R74)
  | inboundPeerAccess (link : Nat) (write : Bool) (addr : Nat × Nat) (value : Word)  -- INBOUND_PEER_ACCESS (R369): `addr` is the address and how many bytes
  | spdmRequest (port : Nat) (req : Nat)  -- SPDM_REQUEST (R371)
  | bar2Access (port : Nat) (write : Bool) (addr : Nat) (value : Word)  -- BAR_2_ACCESS (R368)
  | ioDomainPowerLoss (port : Nat)  -- IO_DOMAIN_POWER_LOSS (R324)
  | powerLoss  -- POWER_LOSS (R18)
  | cycleCountAdvance (die : Nat) (stable : Nat) (n : Nat)  -- CYCLE_COUNT_ADVANCE (R99)
  deriving DecidableEq, Repr

end Sys2Proof
end

