-- ==== Sys2Proof/Rows.lean ====
section
/-! DEFINITION. The rows of the opcode table that have an encoding: their names alone, without operands. The decoder
finds the row first and the operands after it, and a vector queue entry (R125) holds its words and its row. -/

namespace Sys2Proof

/-- The rows of the opcode table that are instructions of a hart. -/
inductive Row where
  | add | sub | and | or | xor | sll | srl | sra
  | slt | sltn | min | max | minn | maxn | andn | orn
  | rol | ror | addw | subw | mul | mulh | mulhn | mulhsn
  | div | divn | rem | remn | fadd | fsub | fmul | fdiv
  | fsqrt | fmin | fmax | fsgnj | fsgnjn | fsgnjx | feq | flt
  | fle | fclass | fma | fms | fnma | fnms | addi | andi
  | ori | xori | slti | sltni | slli | srli | srai | roli
  | lui | auipc | lb | lh | lw | ld | lbn | lhn
  | lwn | sb | sh | sw | sd | beq | bne | blt
  | bge | bltn | bgen | jal | jalr | amoswapW | amoaddW | amoandW
  | amoorW | amoxorW | amominW | amomaxW | amominnW | amomaxnW | amoswapD | amoaddD
  | amoandD | amoorD | amoxorD | amominD | amomaxD | amominnD | amomaxnD | cas
  | fence | pause | waitm | arrive | await | gbar | gbarRlx | csrrw
  | csrrs | csrrc | csrrwi | csrrsi | csrrci | trap | trapBrk | tret
  | halt | wfe | tlbinv | cflush | cinval | pin | unpin | vqsave
  | vqload | finval | clz | ctz | popc | bswap | sextb | sexth
  | sextw | zextb | zexth | zextw | qpush | qpop | qpeek | qwake
  | qseal | qrevoke | qgrow | cpy | cpybt | cpywait | nsub | cpyfill
  | fcvtI32F32 | fcvtN32F32 | fcvtI64F32 | fcvtN64F32 | fcvtF32I32 | fcvtF32N32 | fcvtF32I64 | fcvtF32N64
  | fcvtI32F64 | fcvtN32F64 | fcvtI64F64 | fcvtN64F64 | fcvtF64I32 | fcvtF64N32 | fcvtF64I64 | fcvtF64N64
  | fcvtF32F64 | fcvtF64F32 | vsetl | vlease | vfork | vjoin | vfetch | vfetchw
  | vloop | vcommit | endb | mmode | mshape | vaddVV | vaddVX | vaddVI
  | vsubVV | vsubVX | vsubVI | vrsubVV | vrsubVX | vrsubVI | vmulVV | vmulVX
  | vmulVI | vmulhVV | vmulhVX | vmulhVI | vmulhnVV | vmulhnVX | vmulhnVI | vandVV
  | vandVX | vandVI | vorVV | vorVX | vorVI | vxorVV | vxorVX | vxorVI
  | vsllVV | vsllVX | vsllVI | vsrlVV | vsrlVX | vsrlVI | vsraVV | vsraVX
  | vsraVI | vminVV | vminVX | vminVI | vmaxVV | vmaxVX | vmaxVI | vminnVV
  | vminnVX | vminnVI | vmaxnVV | vmaxnVX | vmaxnVI | vsaddVV | vsaddVX | vssubVV
  | vssubVX | vsaddnVV | vsaddnVX | vssubnVV | vssubnVX | vdivVV | vdivVX | vdivnVV
  | vdivnVX | vremVV | vremVX | vremnVV | vremnVX | vmaccVV | vmaccVX | vnmsacVV
  | vnmsacVX | vavgVV | vavgVX | vavgnVV | vavgnVX | vabs | vneg | vpopc
  | vclz | vwaddVV | vwaddVX | vwaddnVV | vwaddnVX | vwsubVV | vwsubVX | vwsubnVV
  | vwsubnVX | vwmulVV | vwmulVX | vwmulnVV | vwmulnVX | vwmaccVV | vwmaccVX | vwmaccnVV
  | vwmaccnVX | vnsrlVV | vnsrlVX | vnsraVV | vnsraVX | vnclipVV | vnclipVX | vnclipnVV
  | vnclipnVX | vfaddVV | vfaddVX | vfsubVV | vfsubVX | vfrsubVV | vfrsubVX | vfmulVV
  | vfmulVX | vfdivVV | vfdivVX | vfrdivVV | vfrdivVX | vfminVV | vfminVX | vfmaxVV
  | vfmaxVX | vfsgnjVV | vfsgnjVX | vfsgnjnVV | vfsgnjnVX | vfsgnjxVV | vfsgnjxVX | vfmaVV
  | vfmaVX | vfmsVV | vfmsVX | vfnmaVV | vfnmaVX | vfnmsVV | vfnmsVX | vfsqrt
  | vfrcp | vfrsq | vfexp2 | vflog2 | vfsinp | vfcosp | vftanh | vfabs
  | vfneg | vfclass | vffloor | vfceil | vfround | vcvtI32F32 | vcvtN32F32 | vcvtF32I32
  | vcvtF32N32 | vcvtI64F64 | vcvtN64F64 | vcvtF64I64 | vcvtF64N64 | vcvtF64F32 | vcvtF32F64 | vcvtHF32
  | vcvtBfF32 | vcvtF32H | vcvtF32Bf | vcvtB8F32 | vcvtF32B8 | vcvtB8H | vcvtHB8 | vcvtB8Bf
  | vcvtBfB8 | vcvtE4F32 | vcvtF32E4 | vcvtHE4 | vcvtQ4F32 | vcvtF32Q4 | vcvtHQ4 | vcmpEqVV
  | vcmpEqVX | vcmpNeVV | vcmpNeVX | vcmpLtVV | vcmpLtVX | vcmpLeVV | vcmpLeVX | vcmpLtnVV
  | vcmpLtnVX | vcmpLenVV | vcmpLenVX | vcmpGtVV | vcmpGtVX | vcmpGeVV | vcmpGeVX | vcmpFeqVV
  | vcmpFeqVX | vcmpFneVV | vcmpFneVX | vcmpFltVV | vcmpFltVX | vcmpFleVV | vcmpFleVX | vcmpFgtVV
  | vcmpFgtVX | vcmpFgeVV | vcmpFgeVX | vcmpFunordVV | vcmpFunordVX | vcmpFordVV | vcmpFordVX | kand
  | kor | kxor | kandn | knot | kmov | kpop | kfirst | kiota
  | vmerge | vcompress | vexpand | ksetx | vslideup | vslidedn | vpermv | vbcast
  | vextract | vinsert | vilv | vdilv | vid | vrand | vmvV | vmvX
  | vredsum | vredmin | vredmax | vredminn | vredmaxn | vredand | vredor | vredxor
  | vfsum | vfsumo | vfredmin | vfredmax | vwsum | vbshl | vbshr | vbfun
  | vternlog | vld | vldReg | vlds | vldx | vst | vstReg | vsts
  | vstx | vgll | vscc | vacc | vldwE4H | vldwE4Bf | vldwE4B8 | vldwQ4H
  | vldwQ4Bf | vldwQ4B8 | gsub | gadd | glen | gtag | gpack | gunpack
  | grehome | gdot | gcvt | gscl | gsettag | gmorton | gnbr | vcellins
  | vcellfind | recur | rspawn | rret | rkids | rdepth | rnkid | mzero
  | mrowv | mvrow | mcolv | mvcol | mdrain | mload | amerge | sacc
  | opacc | opsub | opaccw | cAddi | cMv | cAdd | cSub | cLd
  | cSd | cLw | cSw | cJ | cBeqz | cBnez | cVfetch
  deriving DecidableEq, Repr

end Sys2Proof
end

