-- ==== Sys2Proof/Decode.lean ====
section
/-! DEFINITION. Decoding (R66 to R75) and encoding. `decode` is total on the 64 bits from the PC: it answers one
instruction, or names which of the causes 0x03, 0x00, 0x01, 0x02 (rows 1 to 4 of R75) the bits raise. `encode` writes an
instruction's bits from the same tables. Generated from the spec's encoding tables. -/

namespace Sys2Proof

/-- Why the bits are no instruction: rows 1 to 4 of R75. -/
inductive DecodeError where
  | zero      -- the halfword 0x0000: cause 0x03
  | opcode    -- reserved primary opcode, tile kind or compressed operation: 0x00
  | function  -- reserved function or field value: 0x01
  | reserved  -- a reserved or unused field is not zero: 0x02
  deriving DecidableEq, Repr

/-- The row of the opcode table that the bits belong to, or why there is none. -/
abbrev DecodedRow := Except DecodeError Row

/-- What the bits decode to. -/
abbrev Decoded := Except DecodeError Instr

/-- The field of `n` bits from bit `lo` of a 32-bit word. -/
abbrev fld (w : BitVec 32) (lo n : Nat) : BitVec n := w.extractLsb' lo n

/-- A rounding field of the scalar floating-point slots: 5 and 6 raise 0x01 (R87). -/
def badRound (r : BitVec 3) : Bool := r == 5#3 || r == 6#3

/-- The rounding override of `VFU`: with [3] = 1, 5 to 7 raise 0x01 (R89). -/
def badVfuRound (r : BitVec 4) : Bool := r == 13#4 || r == 14#4 || r == 15#4

/-- The rounding of `VCVT`: 6 raises 0x01, and so does 5 unless the destination rounds stochastically (R89). -/
def badCvtRound (r : BitVec 3) (srOk : Bool) : Bool := r == 6#3 || (r == 5#3 && !srOk)

/-- The CSR numbers that exist, each with whether it has a writer (R91). -/
def csrWriter (n : BitVec 11) : Option Bool :=
  let c := n.toNat
  if c ≤ 0x007 then some true
  else if 0x010 ≤ c ∧ c ≤ 0x01B then some true
  else if 0x030 ≤ c ∧ c ≤ 0x033 then some true
  else if 0x038 ≤ c ∧ c ≤ 0x03F then some true
  else if 0x040 ≤ c ∧ c ≤ 0x042 then some false
  else if 0x048 ≤ c ∧ c ≤ 0x049 then some true
  else if 0x050 ≤ c ∧ c ≤ 0x052 then some true
  else if 0x060 ≤ c ∧ c ≤ 0x061 then some true
  else none

/-- A CSR number that raises 0x01: unknown (R91), or written without a writer (R92). -/
def badCsr (n : BitVec 11) (writes : Bool) : Bool :=
  match csrWriter n with
  | none => true
  | some w => writes && !w

/-! ## Field layouts: reading them from a word, and placing them between the fixed bits -/

/-- The fields of a word. -/
def OpDAB.get (w : BitVec 32) : OpDAB :=
  { d := w.extractLsb' 8 5, a := w.extractLsb' 13 5, b := w.extractLsb' 18 5 }
/-- The word with these fields and fixed bits. -/
def OpDAB.pack (o : OpDAB) (g0 : BitVec 8) (g1 : BitVec 9) : BitVec 32 :=
  g1 ++ o.b ++ o.a ++ o.d ++ g0

/-- The fields of a word. -/
def OpDABFR.get (w : BitVec 32) : OpDABFR :=
  { d := w.extractLsb' 8 5, a := w.extractLsb' 13 5, b := w.extractLsb' 18 5, f := w.extractLsb' 28 1, r := w.extractLsb' 29 3 }
/-- The word with these fields and fixed bits. -/
def OpDABFR.pack (o : OpDABFR) (g0 : BitVec 8) (g1 : BitVec 5) : BitVec 32 :=
  o.r ++ o.f ++ g1 ++ o.b ++ o.a ++ o.d ++ g0

/-- The fields of a word. -/
def OpDAFR.get (w : BitVec 32) : OpDAFR :=
  { d := w.extractLsb' 8 5, a := w.extractLsb' 13 5, f := w.extractLsb' 28 1, r := w.extractLsb' 29 3 }
/-- The word with these fields and fixed bits. -/
def OpDAFR.pack (o : OpDAFR) (g0 : BitVec 8) (g1 : BitVec 10) : BitVec 32 :=
  o.r ++ o.f ++ g1 ++ o.a ++ o.d ++ g0

/-- The fields of a word. -/
def OpDABF.get (w : BitVec 32) : OpDABF :=
  { d := w.extractLsb' 8 5, a := w.extractLsb' 13 5, b := w.extractLsb' 18 5, f := w.extractLsb' 28 1 }
/-- The word with these fields and fixed bits. -/
def OpDABF.pack (o : OpDABF) (g0 : BitVec 8) (g1 : BitVec 5) (g2 : BitVec 3) : BitVec 32 :=
  g2 ++ o.f ++ g1 ++ o.b ++ o.a ++ o.d ++ g0

/-- The fields of a word. -/
def OpDAF.get (w : BitVec 32) : OpDAF :=
  { d := w.extractLsb' 8 5, a := w.extractLsb' 13 5, f := w.extractLsb' 28 1 }
/-- The word with these fields and fixed bits. -/
def OpDAF.pack (o : OpDAF) (g0 : BitVec 8) (g1 : BitVec 10) (g2 : BitVec 3) : BitVec 32 :=
  g2 ++ o.f ++ g1 ++ o.a ++ o.d ++ g0

/-- The fields of a word. -/
def OpDABEF.get (w : BitVec 32) : OpDABEF :=
  { d := w.extractLsb' 8 5, a := w.extractLsb' 13 5, b := w.extractLsb' 18 5, e := w.extractLsb' 23 5, f := w.extractLsb' 30 1 }
/-- The word with these fields and fixed bits. -/
def OpDABEF.pack (o : OpDABEF) (g0 : BitVec 8) (g1 : BitVec 2) (g2 : BitVec 1) : BitVec 32 :=
  g2 ++ o.f ++ g1 ++ o.e ++ o.b ++ o.a ++ o.d ++ g0

/-- The fields of a word. -/
def OpDAI.get (w : BitVec 32) : OpDAI :=
  { d := w.extractLsb' 8 5, a := w.extractLsb' 13 5, i := w.extractLsb' 18 14 }
/-- The word with these fields and fixed bits. -/
def OpDAI.pack (o : OpDAI) (g0 : BitVec 8) : BitVec 32 :=
  o.i ++ o.a ++ o.d ++ g0

/-- The fields of a word. -/
def OpDAS.get (w : BitVec 32) : OpDAS :=
  { d := w.extractLsb' 8 5, a := w.extractLsb' 13 5, s := w.extractLsb' 18 6 }
/-- The word with these fields and fixed bits. -/
def OpDAS.pack (o : OpDAS) (g0 : BitVec 8) (g1 : BitVec 8) : BitVec 32 :=
  g1 ++ o.s ++ o.a ++ o.d ++ g0

/-- The fields of a word. -/
def OpDI.get (w : BitVec 32) : OpDI :=
  { d := w.extractLsb' 8 5, i := w.extractLsb' 13 19 }
/-- The word with these fields and fixed bits. -/
def OpDI.pack (o : OpDI) (g0 : BitVec 8) : BitVec 32 :=
  o.i ++ o.d ++ g0

/-- The fields of a word. -/
def OpSAI.get (w : BitVec 32) : OpSAI :=
  { s := w.extractLsb' 8 5, a := w.extractLsb' 13 5, i := w.extractLsb' 18 14 }
/-- The word with these fields and fixed bits. -/
def OpSAI.pack (o : OpSAI) (g0 : BitVec 8) : BitVec 32 :=
  o.i ++ o.a ++ o.s ++ g0

/-- The fields of a word. -/
def OpABI.get (w : BitVec 32) : OpABI :=
  { a := w.extractLsb' 8 5, b := w.extractLsb' 13 5, i := w.extractLsb' 18 14 }
/-- The word with these fields and fixed bits. -/
def OpABI.pack (o : OpABI) (g0 : BitVec 8) : BitVec 32 :=
  o.i ++ o.b ++ o.a ++ g0

/-- The fields of a word. -/
def OpDABO.get (w : BitVec 32) : OpDABO :=
  { d := w.extractLsb' 8 5, a := w.extractLsb' 13 5, b := w.extractLsb' 18 5, o := w.extractLsb' 23 2 }
/-- The word with these fields and fixed bits. -/
def OpDABO.pack (o : OpDABO) (g0 : BitVec 8) (g1 : BitVec 7) : BitVec 32 :=
  g1 ++ o.o ++ o.b ++ o.a ++ o.d ++ g0

/-- The fields of a word. -/
def OpDABEWO.get (w : BitVec 32) : OpDABEWO :=
  { d := w.extractLsb' 8 5, a := w.extractLsb' 13 5, b := w.extractLsb' 18 5, e := w.extractLsb' 23 5, w := w.extractLsb' 28 1, o := w.extractLsb' 29 2 }
/-- The word with these fields and fixed bits. -/
def OpDABEWO.pack (o : OpDABEWO) (g0 : BitVec 8) (g1 : BitVec 1) : BitVec 32 :=
  g1 ++ o.o ++ o.w ++ o.e ++ o.b ++ o.a ++ o.d ++ g0

/-- The fields of a word. -/
def OpSK.get (w : BitVec 32) : OpSK :=
  { s := w.extractLsb' 18 3, k := w.extractLsb' 21 2 }
/-- The word with these fields and fixed bits. -/
def OpSK.pack (o : OpSK) (g0 : BitVec 18) (g1 : BitVec 9) : BitVec 32 :=
  g1 ++ o.k ++ o.s ++ g0

/-- The fields of a word. -/
def OpD.get (w : BitVec 32) : OpD :=
  { d := w.extractLsb' 8 5 }
/-- The word with these fields and fixed bits. -/
def OpD.pack (o : OpD) (g0 : BitVec 8) (g1 : BitVec 19) : BitVec 32 :=
  g1 ++ o.d ++ g0

/-- The fields of a word. -/
def OpDACsr.get (w : BitVec 32) : OpDACsr :=
  { d := w.extractLsb' 8 5, a := w.extractLsb' 13 5, c := w.extractLsb' 21 11 }
/-- The word with these fields and fixed bits. -/
def OpDACsr.pack (o : OpDACsr) (g0 : BitVec 8) (g1 : BitVec 3) : BitVec 32 :=
  o.c ++ g1 ++ o.a ++ o.d ++ g0

/-- The fields of a word. -/
def OpDUCsr.get (w : BitVec 32) : OpDUCsr :=
  { d := w.extractLsb' 8 5, u := w.extractLsb' 13 5, c := w.extractLsb' 21 11 }
/-- The word with these fields and fixed bits. -/
def OpDUCsr.pack (o : OpDUCsr) (g0 : BitVec 8) (g1 : BitVec 3) : BitVec 32 :=
  o.c ++ g1 ++ o.u ++ o.d ++ g0

/-- The fields of a word. -/
def OpA.get (w : BitVec 32) : OpA :=
  { a := w.extractLsb' 13 5 }
/-- The word with these fields and fixed bits. -/
def OpA.pack (o : OpA) (g0 : BitVec 13) (g1 : BitVec 14) : BitVec 32 :=
  g1 ++ o.a ++ g0

/-- The fields of a word. -/
def OpAB.get (w : BitVec 32) : OpAB :=
  { a := w.extractLsb' 13 5, b := w.extractLsb' 18 5 }
/-- The word with these fields and fixed bits. -/
def OpAB.pack (o : OpAB) (g0 : BitVec 13) (g1 : BitVec 9) : BitVec 32 :=
  g1 ++ o.b ++ o.a ++ g0

/-- The fields of a word. -/
def OpDA.get (w : BitVec 32) : OpDA :=
  { d := w.extractLsb' 8 5, a := w.extractLsb' 13 5 }
/-- The word with these fields and fixed bits. -/
def OpDA.pack (o : OpDA) (g0 : BitVec 8) (g1 : BitVec 14) : BitVec 32 :=
  g1 ++ o.a ++ o.d ++ g0

/-- The fields of a word. -/
def OpDAR.get (w : BitVec 32) : OpDAR :=
  { d := w.extractLsb' 8 5, a := w.extractLsb' 13 5, r := w.extractLsb' 29 3 }
/-- The word with these fields and fixed bits. -/
def OpDAR.pack (o : OpDAR) (g0 : BitVec 8) (g1 : BitVec 11) : BitVec 32 :=
  o.r ++ g1 ++ o.a ++ o.d ++ g0

/-- The fields of a word. -/
def OpAK.get (w : BitVec 32) : OpAK :=
  { a := w.extractLsb' 13 5, k := w.extractLsb' 18 3 }
/-- The word with these fields and fixed bits. -/
def OpAK.pack (o : OpAK) (g0 : BitVec 13) (g1 : BitVec 11) : BitVec 32 :=
  g1 ++ o.k ++ o.a ++ g0

/-- The fields of a word. -/
def OpDABCEK.get (w : BitVec 32) : OpDABCEK :=
  { d := w.extractLsb' 8 5, a := w.extractLsb' 13 5, b := w.extractLsb' 18 5, c := w.extractLsb' 23 1, e := w.extractLsb' 24 1, k := w.extractLsb' 25 3 }
/-- The word with these fields and fixed bits. -/
def OpDABCEK.pack (o : OpDABCEK) (g0 : BitVec 8) (g1 : BitVec 4) : BitVec 32 :=
  g1 ++ o.k ++ o.e ++ o.c ++ o.b ++ o.a ++ o.d ++ g0

/-- The fields of a word. -/
def OpDABCK.get (w : BitVec 32) : OpDABCK :=
  { d := w.extractLsb' 8 5, a := w.extractLsb' 13 5, b := w.extractLsb' 18 5, c := w.extractLsb' 23 1, k := w.extractLsb' 25 3 }
/-- The word with these fields and fixed bits. -/
def OpDABCK.pack (o : OpDABCK) (g0 : BitVec 8) (g1 : BitVec 1) (g2 : BitVec 4) : BitVec 32 :=
  g2 ++ o.k ++ g1 ++ o.c ++ o.b ++ o.a ++ o.d ++ g0

/-- The fields of a word. -/
def OpDAICK.get (w : BitVec 32) : OpDAICK :=
  { d := w.extractLsb' 8 5, a := w.extractLsb' 13 5, i := w.extractLsb' 18 5, c := w.extractLsb' 23 1, k := w.extractLsb' 25 3 }
/-- The word with these fields and fixed bits. -/
def OpDAICK.pack (o : OpDAICK) (g0 : BitVec 8) (g1 : BitVec 1) (g2 : BitVec 4) : BitVec 32 :=
  g2 ++ o.k ++ g1 ++ o.c ++ o.i ++ o.a ++ o.d ++ g0

/-- The fields of a word. -/
def OpDBEK.get (w : BitVec 32) : OpDBEK :=
  { d := w.extractLsb' 8 5, b := w.extractLsb' 18 5, e := w.extractLsb' 24 1, k := w.extractLsb' 25 3 }
/-- The word with these fields and fixed bits. -/
def OpDBEK.pack (o : OpDBEK) (g0 : BitVec 8) (g1 : BitVec 5) (g2 : BitVec 1) (g3 : BitVec 4) : BitVec 32 :=
  g3 ++ o.k ++ o.e ++ g2 ++ o.b ++ g1 ++ o.d ++ g0

/-- The fields of a word. -/
def OpDBEKR.get (w : BitVec 32) : OpDBEKR :=
  { d := w.extractLsb' 8 5, b := w.extractLsb' 18 5, e := w.extractLsb' 24 1, k := w.extractLsb' 25 3, r := w.extractLsb' 28 4 }
/-- The word with these fields and fixed bits. -/
def OpDBEKR.pack (o : OpDBEKR) (g0 : BitVec 8) (g1 : BitVec 5) (g2 : BitVec 1) : BitVec 32 :=
  o.r ++ o.k ++ o.e ++ g2 ++ o.b ++ g1 ++ o.d ++ g0

/-- The fields of a word. -/
def OpDBEKSR.get (w : BitVec 32) : OpDBEKSR :=
  { d := w.extractLsb' 8 5, b := w.extractLsb' 18 5, e := w.extractLsb' 24 1, k := w.extractLsb' 25 3, s := w.extractLsb' 28 1, r := w.extractLsb' 29 3 }
/-- The word with these fields and fixed bits. -/
def OpDBEKSR.pack (o : OpDBEKSR) (g0 : BitVec 8) (g1 : BitVec 5) (g2 : BitVec 1) : BitVec 32 :=
  o.r ++ o.s ++ o.k ++ o.e ++ g2 ++ o.b ++ g1 ++ o.d ++ g0

/-- The fields of a word. -/
def OpD3ABCEK.get (w : BitVec 32) : OpD3ABCEK :=
  { d := w.extractLsb' 8 3, a := w.extractLsb' 13 5, b := w.extractLsb' 18 5, c := w.extractLsb' 23 1, e := w.extractLsb' 24 1, k := w.extractLsb' 25 3 }
/-- The word with these fields and fixed bits. -/
def OpD3ABCEK.pack (o : OpD3ABCEK) (g0 : BitVec 8) (g1 : BitVec 2) (g2 : BitVec 4) : BitVec 32 :=
  g2 ++ o.k ++ o.e ++ o.c ++ o.b ++ o.a ++ g1 ++ o.d ++ g0

/-- The fields of a word. -/
def OpD3ABCK.get (w : BitVec 32) : OpD3ABCK :=
  { d := w.extractLsb' 8 3, a := w.extractLsb' 13 5, b := w.extractLsb' 18 5, c := w.extractLsb' 23 1, k := w.extractLsb' 25 3 }
/-- The word with these fields and fixed bits. -/
def OpD3ABCK.pack (o : OpD3ABCK) (g0 : BitVec 8) (g1 : BitVec 2) (g2 : BitVec 1) (g3 : BitVec 4) : BitVec 32 :=
  g3 ++ o.k ++ g2 ++ o.c ++ o.b ++ o.a ++ g1 ++ o.d ++ g0

/-- The fields of a word. -/
def OpD3A3B3CEK.get (w : BitVec 32) : OpD3A3B3CEK :=
  { d := w.extractLsb' 8 3, a := w.extractLsb' 13 3, b := w.extractLsb' 18 3, c := w.extractLsb' 23 1, e := w.extractLsb' 24 1, k := w.extractLsb' 25 3 }
/-- The word with these fields and fixed bits. -/
def OpD3A3B3CEK.pack (o : OpD3A3B3CEK) (g0 : BitVec 8) (g1 : BitVec 2) (g2 : BitVec 2) (g3 : BitVec 2) (g4 : BitVec 4) : BitVec 32 :=
  g4 ++ o.k ++ o.e ++ o.c ++ g3 ++ o.b ++ g2 ++ o.a ++ g1 ++ o.d ++ g0

/-- The fields of a word. -/
def OpD3B3EK.get (w : BitVec 32) : OpD3B3EK :=
  { d := w.extractLsb' 8 3, b := w.extractLsb' 18 3, e := w.extractLsb' 24 1, k := w.extractLsb' 25 3 }
/-- The word with these fields and fixed bits. -/
def OpD3B3EK.pack (o : OpD3B3EK) (g0 : BitVec 8) (g1 : BitVec 7) (g2 : BitVec 3) (g3 : BitVec 4) : BitVec 32 :=
  g3 ++ o.k ++ o.e ++ g2 ++ o.b ++ g1 ++ o.d ++ g0

/-- The fields of a word. -/
def OpDB3EK.get (w : BitVec 32) : OpDB3EK :=
  { d := w.extractLsb' 8 5, b := w.extractLsb' 18 3, e := w.extractLsb' 24 1, k := w.extractLsb' 25 3 }
/-- The word with these fields and fixed bits. -/
def OpDB3EK.pack (o : OpDB3EK) (g0 : BitVec 8) (g1 : BitVec 5) (g2 : BitVec 3) (g3 : BitVec 4) : BitVec 32 :=
  g3 ++ o.k ++ o.e ++ g2 ++ o.b ++ g1 ++ o.d ++ g0

/-- The fields of a word. -/
def OpD3ABK.get (w : BitVec 32) : OpD3ABK :=
  { d := w.extractLsb' 8 3, a := w.extractLsb' 13 5, b := w.extractLsb' 18 5, k := w.extractLsb' 25 3 }
/-- The word with these fields and fixed bits. -/
def OpD3ABK.pack (o : OpD3ABK) (g0 : BitVec 8) (g1 : BitVec 2) (g2 : BitVec 2) (g3 : BitVec 4) : BitVec 32 :=
  g3 ++ o.k ++ g2 ++ o.b ++ o.a ++ g1 ++ o.d ++ g0

/-- The fields of a word. -/
def OpDABC.get (w : BitVec 32) : OpDABC :=
  { d := w.extractLsb' 8 5, a := w.extractLsb' 13 5, b := w.extractLsb' 18 5, c := w.extractLsb' 23 1 }
/-- The word with these fields and fixed bits. -/
def OpDABC.pack (o : OpDABC) (g0 : BitVec 8) (g1 : BitVec 8) : BitVec 32 :=
  g1 ++ o.c ++ o.b ++ o.a ++ o.d ++ g0

/-- The fields of a word. -/
def OpDACK.get (w : BitVec 32) : OpDACK :=
  { d := w.extractLsb' 8 5, a := w.extractLsb' 13 5, c := w.extractLsb' 23 1, k := w.extractLsb' 25 3 }
/-- The word with these fields and fixed bits. -/
def OpDACK.pack (o : OpDACK) (g0 : BitVec 8) (g1 : BitVec 5) (g2 : BitVec 1) (g3 : BitVec 4) : BitVec 32 :=
  g3 ++ o.k ++ g2 ++ o.c ++ g1 ++ o.a ++ o.d ++ g0

/-- The fields of a word. -/
def OpDK.get (w : BitVec 32) : OpDK :=
  { d := w.extractLsb' 8 5, k := w.extractLsb' 25 3 }
/-- The word with these fields and fixed bits. -/
def OpDK.pack (o : OpDK) (g0 : BitVec 8) (g1 : BitVec 12) (g2 : BitVec 4) : BitVec 32 :=
  g2 ++ o.k ++ g1 ++ o.d ++ g0

/-- The fields of a word. -/
def OpDAK.get (w : BitVec 32) : OpDAK :=
  { d := w.extractLsb' 8 5, a := w.extractLsb' 13 5, k := w.extractLsb' 25 3 }
/-- The word with these fields and fixed bits. -/
def OpDAK.pack (o : OpDAK) (g0 : BitVec 8) (g1 : BitVec 7) (g2 : BitVec 4) : BitVec 32 :=
  g2 ++ o.k ++ g1 ++ o.a ++ o.d ++ g0

/-- The fields of a word. -/
def OpDBK.get (w : BitVec 32) : OpDBK :=
  { d := w.extractLsb' 8 5, b := w.extractLsb' 18 5, k := w.extractLsb' 25 3 }
/-- The word with these fields and fixed bits. -/
def OpDBK.pack (o : OpDBK) (g0 : BitVec 8) (g1 : BitVec 5) (g2 : BitVec 2) (g3 : BitVec 4) : BitVec 32 :=
  g3 ++ o.k ++ g2 ++ o.b ++ g1 ++ o.d ++ g0

/-- The fields of a word. -/
def OpDABI.get (w : BitVec 32) : OpDABI :=
  { d := w.extractLsb' 8 5, a := w.extractLsb' 13 5, b := w.extractLsb' 18 5, i := w.extractLsb' 23 8 }
/-- The word with these fields and fixed bits. -/
def OpDABI.pack (o : OpDABI) (g0 : BitVec 8) (g1 : BitVec 1) : BitVec 32 :=
  g1 ++ o.i ++ o.b ++ o.a ++ o.d ++ g0

/-- The fields of a word. -/
def OpDAOK.get (w : BitVec 32) : OpDAOK :=
  { d := w.extractLsb' 8 5, a := w.extractLsb' 13 5, o := w.extractLsb' 24 1, k := w.extractLsb' 25 3 }
/-- The word with these fields and fixed bits. -/
def OpDAOK.pack (o : OpDAOK) (g0 : BitVec 8) (g1 : BitVec 6) (g2 : BitVec 4) : BitVec 32 :=
  g2 ++ o.k ++ o.o ++ g1 ++ o.a ++ o.d ++ g0

/-- The fields of a word. -/
def OpDABOK.get (w : BitVec 32) : OpDABOK :=
  { d := w.extractLsb' 8 5, a := w.extractLsb' 13 5, b := w.extractLsb' 18 5, o := w.extractLsb' 24 1, k := w.extractLsb' 25 3 }
/-- The word with these fields and fixed bits. -/
def OpDABOK.pack (o : OpDABOK) (g0 : BitVec 8) (g1 : BitVec 1) (g2 : BitVec 4) : BitVec 32 :=
  g2 ++ o.k ++ o.o ++ g1 ++ o.b ++ o.a ++ o.d ++ g0

/-- The fields of a word. -/
def OpDABCOK.get (w : BitVec 32) : OpDABCOK :=
  { d := w.extractLsb' 8 5, a := w.extractLsb' 13 5, b := w.extractLsb' 18 5, c := w.extractLsb' 23 1, o := w.extractLsb' 24 1, k := w.extractLsb' 25 3 }
/-- The word with these fields and fixed bits. -/
def OpDABCOK.pack (o : OpDABCOK) (g0 : BitVec 8) (g1 : BitVec 4) : BitVec 32 :=
  g1 ++ o.k ++ o.o ++ o.c ++ o.b ++ o.a ++ o.d ++ g0

/-- The fields of a word. -/
def OpDACOK.get (w : BitVec 32) : OpDACOK :=
  { d := w.extractLsb' 8 5, a := w.extractLsb' 13 5, c := w.extractLsb' 23 1, o := w.extractLsb' 24 1, k := w.extractLsb' 25 3 }
/-- The word with these fields and fixed bits. -/
def OpDACOK.pack (o : OpDACOK) (g0 : BitVec 8) (g1 : BitVec 5) (g2 : BitVec 4) : BitVec 32 :=
  g2 ++ o.k ++ o.o ++ o.c ++ g1 ++ o.a ++ o.d ++ g0

/-- The fields of a word. -/
def OpDAC.get (w : BitVec 32) : OpDAC :=
  { d := w.extractLsb' 8 5, a := w.extractLsb' 13 5, c := w.extractLsb' 23 1 }
/-- The word with these fields and fixed bits. -/
def OpDAC.pack (o : OpDAC) (g0 : BitVec 8) (g1 : BitVec 5) (g2 : BitVec 8) : BitVec 32 :=
  g2 ++ o.c ++ g1 ++ o.a ++ o.d ++ g0

/-- The fields of a word. -/
def OpDABK.get (w : BitVec 32) : OpDABK :=
  { d := w.extractLsb' 8 5, a := w.extractLsb' 13 5, b := w.extractLsb' 18 5, k := w.extractLsb' 25 3 }
/-- The word with these fields and fixed bits. -/
def OpDABK.pack (o : OpDABK) (g0 : BitVec 8) (g1 : BitVec 2) (g2 : BitVec 4) : BitVec 32 :=
  g2 ++ o.k ++ g1 ++ o.b ++ o.a ++ o.d ++ g0

/-- The fields of a word. -/
def OpDABEK.get (w : BitVec 32) : OpDABEK :=
  { d := w.extractLsb' 8 5, a := w.extractLsb' 13 5, b := w.extractLsb' 18 5, e := w.extractLsb' 24 1, k := w.extractLsb' 25 3 }
/-- The word with these fields and fixed bits. -/
def OpDABEK.pack (o : OpDABEK) (g0 : BitVec 8) (g1 : BitVec 1) (g2 : BitVec 4) : BitVec 32 :=
  g2 ++ o.k ++ o.e ++ g1 ++ o.b ++ o.a ++ o.d ++ g0

/-- The fields of a word. -/
def OpACK.get (w : BitVec 32) : OpACK :=
  { a := w.extractLsb' 13 5, c := w.extractLsb' 23 1, k := w.extractLsb' 25 3 }
/-- The word with these fields and fixed bits. -/
def OpACK.pack (o : OpACK) (g0 : BitVec 13) (g1 : BitVec 5) (g2 : BitVec 1) (g3 : BitVec 4) : BitVec 32 :=
  g3 ++ o.k ++ g2 ++ o.c ++ g1 ++ o.a ++ g0

/-- The fields of a word. -/
def OpCDI.get (w : BitVec 16) : OpCDI :=
  { d := w.extractLsb' 6 5, i := w.extractLsb' 11 5 }
/-- The word with these fields and fixed bits. -/
def OpCDI.pack (o : OpCDI) (g0 : BitVec 6) : BitVec 16 :=
  o.i ++ o.d ++ g0

/-- The fields of a word. -/
def OpCDS.get (w : BitVec 16) : OpCDS :=
  { d := w.extractLsb' 6 5, s := w.extractLsb' 11 5 }
/-- The word with these fields and fixed bits. -/
def OpCDS.pack (o : OpCDS) (g0 : BitVec 6) : BitVec 16 :=
  o.s ++ o.d ++ g0

/-- The fields of a word. -/
def OpCDAO.get (w : BitVec 16) : OpCDAO :=
  { d := w.extractLsb' 6 3, a := w.extractLsb' 9 3, o := w.extractLsb' 12 4 }
/-- The word with these fields and fixed bits. -/
def OpCDAO.pack (o : OpCDAO) (g0 : BitVec 6) : BitVec 16 :=
  o.o ++ o.a ++ o.d ++ g0

/-- The fields of a word. -/
def OpCSAO.get (w : BitVec 16) : OpCSAO :=
  { s := w.extractLsb' 6 3, a := w.extractLsb' 9 3, o := w.extractLsb' 12 4 }
/-- The word with these fields and fixed bits. -/
def OpCSAO.pack (o : OpCSAO) (g0 : BitVec 6) : BitVec 16 :=
  o.o ++ o.a ++ o.s ++ g0

/-- The fields of a word. -/
def OpCO.get (w : BitVec 16) : OpCO :=
  { o := w.extractLsb' 6 10 }
/-- The word with these fields and fixed bits. -/
def OpCO.pack (o : OpCO) (g0 : BitVec 6) : BitVec 16 :=
  o.o ++ g0

/-- The fields of a word. -/
def OpCSO.get (w : BitVec 16) : OpCSO :=
  { s := w.extractLsb' 6 3, o := w.extractLsb' 9 7 }
/-- The word with these fields and fixed bits. -/
def OpCSO.pack (o : OpCSO) (g0 : BitVec 6) : BitVec 16 :=
  o.o ++ o.s ++ g0

/-- The fields of a word. -/
def OpCA.get (w : BitVec 16) : OpCA :=
  { a := w.extractLsb' 6 5 }
/-- The word with these fields and fixed bits. -/
def OpCA.pack (o : OpCA) (g0 : BitVec 6) (g1 : BitVec 5) : BitVec 16 :=
  g1 ++ o.a ++ g0

/-- The fields of a tile form (R73). -/
def OpTile.get (w : BitVec 64) : OpTile :=
  { zd := w.extractLsb' 8 5, vs1 := w.extractLsb' 13 5, vs2 := w.extractLsb' 18 5, fa := w.extractLsb' 23 3,
    fb := w.extractLsb' 26 3, arnd := w.extractLsb' 29 3, xA := w.extractLsb' 32 5, xB := w.extractLsb' 37 5,
    kA := w.extractLsb' 42 3, kB := w.extractLsb' 45 3, kdep := w.extractLsb' 48 4, chk := w.extractLsb' 52 1 }
/-- The two words of a tile form of the given kind (R73). -/
def OpTile.pack (o : OpTile) (kind : BitVec 6) : BitVec 64 :=
  0#11 ++ o.chk ++ o.kdep ++ o.kB ++ o.kA ++ o.xB ++ o.xA ++ o.arnd ++ o.fb ++ o.fa ++ o.vs2 ++ o.vs1 ++ o.zd ++ kind ++ 3#2

/-! ## The 32-bit words, opcode by opcode (R86 to R90) -/

/-- Opcode 0x01: ADD, SUB, AND and others. -/
def decodeOp01 (w : BitVec 32) : DecodedRow :=
  match (fld w 23 9).toNat with
  | 0 => .ok .add
  | 1 => .ok .sub
  | 2 => .ok .and
  | 3 => .ok .or
  | 4 => .ok .xor
  | 5 => .ok .sll
  | 6 => .ok .srl
  | 7 => .ok .sra
  | 8 => .ok .slt
  | 9 => .ok .sltn
  | 10 => .ok .min
  | 11 => .ok .max
  | 12 => .ok .minn
  | 13 => .ok .maxn
  | 14 => .ok .andn
  | 15 => .ok .orn
  | 16 => .ok .rol
  | 17 => .ok .ror
  | 18 => .ok .addw
  | 19 => .ok .subw
  | _ => .error .function

/-- Opcode 0x05: MUL, MULH, MULHN and others. -/
def decodeOp05 (w : BitVec 32) : DecodedRow :=
  match (fld w 23 9).toNat with
  | 0 => .ok .mul
  | 1 => .ok .mulh
  | 2 => .ok .mulhn
  | 3 => .ok .mulhsn
  | 4 => .ok .div
  | 5 => .ok .divn
  | 6 => .ok .rem
  | 7 => .ok .remn
  | _ => .error .function

/-- Opcode 0x09: FADD, FSUB, FMUL and others. -/
def decodeOp09 (w : BitVec 32) : DecodedRow :=
  match (fld w 23 5).toNat with
  | 0 => if badRound (fld w 29 3) then .error .function else .ok .fadd
  | 1 => if badRound (fld w 29 3) then .error .function else .ok .fsub
  | 2 => if badRound (fld w 29 3) then .error .function else .ok .fmul
  | 3 => if badRound (fld w 29 3) then .error .function else .ok .fdiv
  | 4 => if badRound (fld w 29 3) then .error .function else if (fld w 18 5) != 0#5 then .error .reserved else .ok .fsqrt
  | 5 => if (fld w 29 3) != 0#3 then .error .reserved else .ok .fmin
  | 6 => if (fld w 29 3) != 0#3 then .error .reserved else .ok .fmax
  | 7 => if (fld w 29 3) != 0#3 then .error .reserved else .ok .fsgnj
  | 8 => if (fld w 29 3) != 0#3 then .error .reserved else .ok .fsgnjn
  | 9 => if (fld w 29 3) != 0#3 then .error .reserved else .ok .fsgnjx
  | 10 => if (fld w 29 3) != 0#3 then .error .reserved else .ok .feq
  | 11 => if (fld w 29 3) != 0#3 then .error .reserved else .ok .flt
  | 12 => if (fld w 29 3) != 0#3 then .error .reserved else .ok .fle
  | 13 => if (fld w 18 5) != 0#5 || (fld w 29 3) != 0#3 then .error .reserved else .ok .fclass
  | _ => .error .function

/-- Opcode 0x0D: FMA, FMS, FNMA and others. -/
def decodeOp0D (w : BitVec 32) : DecodedRow :=
  match (fld w 28 2).toNat with
  | 0 => if (fld w 31 1) != 0#1 then .error .function else .ok .fma
  | 1 => if (fld w 31 1) != 0#1 then .error .function else .ok .fms
  | 2 => if (fld w 31 1) != 0#1 then .error .function else .ok .fnma
  | 3 => if (fld w 31 1) != 0#1 then .error .function else .ok .fnms
  | _ => .error .function

/-- Opcode 0x29: SLLI, SRLI, SRAI and others. -/
def decodeOp29 (w : BitVec 32) : DecodedRow :=
  match (fld w 24 8).toNat with
  | 0 => .ok .slli
  | 1 => .ok .srli
  | 2 => .ok .srai
  | 3 => .ok .roli
  | _ => .error .function

/-- Opcode 0x81: AMOSWAP_W, AMOADD_W, AMOAND_W and others. -/
def decodeOp81 (w : BitVec 32) : DecodedRow :=
  match (fld w 28 4).toNat with
  | 0 => if (fld w 25 3) != 0#3 then .error .reserved else .ok .amoswapW
  | 1 => if (fld w 25 3) != 0#3 then .error .reserved else .ok .amoaddW
  | 2 => if (fld w 25 3) != 0#3 then .error .reserved else .ok .amoandW
  | 3 => if (fld w 25 3) != 0#3 then .error .reserved else .ok .amoorW
  | 4 => if (fld w 25 3) != 0#3 then .error .reserved else .ok .amoxorW
  | 5 => if (fld w 25 3) != 0#3 then .error .reserved else .ok .amominW
  | 6 => if (fld w 25 3) != 0#3 then .error .reserved else .ok .amomaxW
  | 7 => if (fld w 25 3) != 0#3 then .error .reserved else .ok .amominnW
  | 8 => if (fld w 25 3) != 0#3 then .error .reserved else .ok .amomaxnW
  | _ => .error .function

/-- Opcode 0x85: AMOSWAP_D, AMOADD_D, AMOAND_D and others. -/
def decodeOp85 (w : BitVec 32) : DecodedRow :=
  match (fld w 28 4).toNat with
  | 0 => if (fld w 25 3) != 0#3 then .error .reserved else .ok .amoswapD
  | 1 => if (fld w 25 3) != 0#3 then .error .reserved else .ok .amoaddD
  | 2 => if (fld w 25 3) != 0#3 then .error .reserved else .ok .amoandD
  | 3 => if (fld w 25 3) != 0#3 then .error .reserved else .ok .amoorD
  | 4 => if (fld w 25 3) != 0#3 then .error .reserved else .ok .amoxorD
  | 5 => if (fld w 25 3) != 0#3 then .error .reserved else .ok .amominD
  | 6 => if (fld w 25 3) != 0#3 then .error .reserved else .ok .amomaxD
  | 7 => if (fld w 25 3) != 0#3 then .error .reserved else .ok .amominnD
  | 8 => if (fld w 25 3) != 0#3 then .error .reserved else .ok .amomaxnD
  | _ => .error .function

/-- Opcode 0x89: CAS. -/
def decodeOp89 (w : BitVec 32) : DecodedRow :=
  if (fld w 31 1) != 0#1 then .error .function else .ok .cas

/-- Opcode 0x8D: FENCE, PAUSE, WAITM and others. -/
def decodeOp8D (w : BitVec 32) : DecodedRow :=
  match (fld w 23 9).toNat with
  | 0 => if decide (5#3 < fld w 18 3) || (fld w 21 2) == 3#2 then .error .function else if (fld w 8 10) != 0#10 then .error .reserved else .ok .fence
  | 1 => if (fld w 8 15) != 0#15 then .error .reserved else .ok .pause
  | 2 => .ok .waitm
  | 3 => .ok .arrive
  | 4 => .ok .await
  | 5 => if (fld w 13 5) != 0#5 || (fld w 19 4) != 0#4 then .error .reserved
      else if (fld w 18 1) == 0#1 then .ok .gbar else .ok .gbarRlx
  | _ => .error .function

/-- Opcode 0x91: CSRRW, CSRRS, CSRRC and others. -/
def decodeOp91 (w : BitVec 32) : DecodedRow :=
  match (fld w 18 3).toNat with
  | 0 => if badCsr (fld w 21 11) (true) then .error .function else .ok .csrrw
  | 1 => if badCsr (fld w 21 11) ((fld w 13 5) != 0#5) then .error .function else .ok .csrrs
  | 2 => if badCsr (fld w 21 11) ((fld w 13 5) != 0#5) then .error .function else .ok .csrrc
  | 4 => if badCsr (fld w 21 11) (true) then .error .function else .ok .csrrwi
  | 5 => if badCsr (fld w 21 11) ((fld w 13 5) != 0#5) then .error .function else .ok .csrrsi
  | 6 => if badCsr (fld w 21 11) ((fld w 13 5) != 0#5) then .error .function else .ok .csrrci
  | _ => .error .function

/-- Opcode 0x95: TRAP, TRAP_BRK, TRET and others. -/
def decodeOp95 (w : BitVec 32) : DecodedRow :=
  match (fld w 23 9).toNat with
  | 0 => if (fld w 18 5) != 0#5 then .error .reserved
      else if (fld w 8 5) == 0#5 then .ok .trap
      else if (fld w 8 5) == 1#5 && (fld w 13 5) == 0#5 then .ok .trapBrk else .error .reserved
  | 1 => if (fld w 8 15) != 0#15 then .error .reserved else .ok .tret
  | 2 => if (fld w 8 15) != 0#15 then .error .reserved else .ok .halt
  | 3 => if (fld w 8 15) != 0#15 then .error .reserved else .ok .wfe
  | 4 => if (fld w 8 5) != 0#5 then .error .reserved else .ok .tlbinv
  | 5 => if (fld w 8 5) != 0#5 then .error .reserved else .ok .cflush
  | 6 => if (fld w 8 5) != 0#5 then .error .reserved else .ok .cinval
  | 7 => .ok .pin
  | 8 => .ok .unpin
  | 9 => if (fld w 8 5) != 0#5 || (fld w 18 5) != 0#5 then .error .reserved else .ok .vqsave
  | 10 => if (fld w 8 5) != 0#5 || (fld w 18 5) != 0#5 then .error .reserved else .ok .vqload
  | 11 => if (fld w 8 5) != 0#5 || (fld w 18 5) != 0#5 then .error .reserved else .ok .finval
  | _ => .error .function

/-- Opcode 0x99: CLZ, CTZ, POPC and others. -/
def decodeOp99 (w : BitVec 32) : DecodedRow :=
  match (fld w 23 9).toNat with
  | 0 => if (fld w 18 5) != 0#5 then .error .reserved else .ok .clz
  | 1 => if (fld w 18 5) != 0#5 then .error .reserved else .ok .ctz
  | 2 => if (fld w 18 5) != 0#5 then .error .reserved else .ok .popc
  | 3 => if (fld w 18 5) != 0#5 then .error .reserved else .ok .bswap
  | 4 => if (fld w 18 5) != 0#5 then .error .reserved else .ok .sextb
  | 5 => if (fld w 18 5) != 0#5 then .error .reserved else .ok .sexth
  | 6 => if (fld w 18 5) != 0#5 then .error .reserved else .ok .sextw
  | 7 => if (fld w 18 5) != 0#5 then .error .reserved else .ok .zextb
  | 8 => if (fld w 18 5) != 0#5 then .error .reserved else .ok .zexth
  | 9 => if (fld w 18 5) != 0#5 then .error .reserved else .ok .zextw
  | _ => .error .function

/-- Opcode 0x9D: QPUSH, QPOP, QPEEK and others. -/
def decodeOp9D (w : BitVec 32) : DecodedRow :=
  match (fld w 23 9).toNat with
  | 0 => .ok .qpush
  | 1 => .ok .qpop
  | 2 => .ok .qpeek
  | 3 => .ok .qwake
  | 4 => if (fld w 18 5) != 0#5 then .error .reserved else .ok .qseal
  | 5 => .ok .qrevoke
  | 6 => .ok .qgrow
  | _ => .error .function

/-- Opcode 0xA1: CPY, CPYBT, CPYWAIT and others. -/
def decodeOpA1 (w : BitVec 32) : DecodedRow :=
  match (fld w 23 9).toNat with
  | 0 => .ok .cpy
  | 1 => if (fld w 8 5) != 0#5 || (fld w 18 5) != 0#5 then .error .reserved else .ok .cpybt
  | 2 => if (fld w 8 15) != 0#15 then .error .reserved else .ok .cpywait
  | 3 => .ok .nsub
  | 4 => .ok .cpyfill
  | _ => .error .function

/-- Opcode 0xA5: FCVT_I32_F32, FCVT_N32_F32, FCVT_I64_F32 and others. -/
def decodeOpA5 (w : BitVec 32) : DecodedRow :=
  match (fld w 23 6).toNat with
  | 0 => if badRound (fld w 29 3) then .error .function else if (fld w 18 5) != 0#5 then .error .reserved else .ok .fcvtI32F32
  | 1 => if badRound (fld w 29 3) then .error .function else if (fld w 18 5) != 0#5 then .error .reserved else .ok .fcvtN32F32
  | 2 => if badRound (fld w 29 3) then .error .function else if (fld w 18 5) != 0#5 then .error .reserved else .ok .fcvtI64F32
  | 3 => if badRound (fld w 29 3) then .error .function else if (fld w 18 5) != 0#5 then .error .reserved else .ok .fcvtN64F32
  | 4 => if badRound (fld w 29 3) then .error .function else if (fld w 18 5) != 0#5 then .error .reserved else .ok .fcvtF32I32
  | 5 => if badRound (fld w 29 3) then .error .function else if (fld w 18 5) != 0#5 then .error .reserved else .ok .fcvtF32N32
  | 6 => if badRound (fld w 29 3) then .error .function else if (fld w 18 5) != 0#5 then .error .reserved else .ok .fcvtF32I64
  | 7 => if badRound (fld w 29 3) then .error .function else if (fld w 18 5) != 0#5 then .error .reserved else .ok .fcvtF32N64
  | 8 => if badRound (fld w 29 3) then .error .function else if (fld w 18 5) != 0#5 then .error .reserved else .ok .fcvtI32F64
  | 9 => if badRound (fld w 29 3) then .error .function else if (fld w 18 5) != 0#5 then .error .reserved else .ok .fcvtN32F64
  | 10 => if badRound (fld w 29 3) then .error .function else if (fld w 18 5) != 0#5 then .error .reserved else .ok .fcvtI64F64
  | 11 => if badRound (fld w 29 3) then .error .function else if (fld w 18 5) != 0#5 then .error .reserved else .ok .fcvtN64F64
  | 12 => if badRound (fld w 29 3) then .error .function else if (fld w 18 5) != 0#5 then .error .reserved else .ok .fcvtF64I32
  | 13 => if badRound (fld w 29 3) then .error .function else if (fld w 18 5) != 0#5 then .error .reserved else .ok .fcvtF64N32
  | 14 => if badRound (fld w 29 3) then .error .function else if (fld w 18 5) != 0#5 then .error .reserved else .ok .fcvtF64I64
  | 15 => if badRound (fld w 29 3) then .error .function else if (fld w 18 5) != 0#5 then .error .reserved else .ok .fcvtF64N64
  | 16 => if badRound (fld w 29 3) then .error .function else if (fld w 18 5) != 0#5 then .error .reserved else .ok .fcvtF32F64
  | 17 => if badRound (fld w 29 3) then .error .function else if (fld w 18 5) != 0#5 then .error .reserved else .ok .fcvtF64F32
  | _ => .error .function

/-- Opcode 0x02: VSETL, VLEASE, VFORK and others. -/
def decodeOp02 (w : BitVec 32) : DecodedRow :=
  match (fld w 23 9).toNat with
  | 0 => .ok .vsetl
  | 1 => .ok .vlease
  | 2 => if (fld w 18 5) != 0#5 then .error .reserved else .ok .vfork
  | 3 => if (fld w 18 5) != 0#5 then .error .reserved else .ok .vjoin
  | 4 => if (fld w 8 5) != 0#5 || (fld w 18 5) != 0#5 then .error .reserved else .ok .vfetch
  | 5 => if (fld w 18 3) == 0#3 then .error .function else if (fld w 8 5) != 0#5 || (fld w 21 2) != 0#2 then .error .reserved else .ok .vfetchw
  | 6 => if (fld w 8 5) != 0#5 then .error .reserved else .ok .vloop
  | 7 => if (fld w 8 15) != 0#15 then .error .reserved else .ok .vcommit
  | 8 => if (fld w 8 15) != 0#15 then .error .reserved else .ok .endb
  | 9 => if (fld w 8 5) != 0#5 || (fld w 18 5) != 0#5 then .error .reserved else .ok .mmode
  | 10 => if (fld w 18 5) != 0#5 then .error .reserved else .ok .mshape
  | _ => .error .function

/-- Opcode 0x06: VADD_VV, VSUB_VV, VRSUB_VV and others. -/
def decodeOp06 (w : BitVec 32) : DecodedRow :=
  match (fld w 28 4).toNat with
  | 0 => .ok .vaddVV
  | 1 => .ok .vsubVV
  | 2 => .ok .vrsubVV
  | 3 => .ok .vmulVV
  | 4 => .ok .vmulhVV
  | 5 => .ok .vmulhnVV
  | 6 => .ok .vandVV
  | 7 => .ok .vorVV
  | 8 => .ok .vxorVV
  | 9 => .ok .vsllVV
  | 10 => .ok .vsrlVV
  | 11 => .ok .vsraVV
  | 12 => .ok .vminVV
  | 13 => .ok .vmaxVV
  | 14 => .ok .vminnVV
  | 15 => .ok .vmaxnVV
  | _ => .error .function

/-- Opcode 0x0A: VADD_VX, VSUB_VX, VRSUB_VX and others. -/
def decodeOp0A (w : BitVec 32) : DecodedRow :=
  match (fld w 28 4).toNat with
  | 0 => if (fld w 24 1) != 0#1 then .error .reserved else .ok .vaddVX
  | 1 => if (fld w 24 1) != 0#1 then .error .reserved else .ok .vsubVX
  | 2 => if (fld w 24 1) != 0#1 then .error .reserved else .ok .vrsubVX
  | 3 => if (fld w 24 1) != 0#1 then .error .reserved else .ok .vmulVX
  | 4 => if (fld w 24 1) != 0#1 then .error .reserved else .ok .vmulhVX
  | 5 => if (fld w 24 1) != 0#1 then .error .reserved else .ok .vmulhnVX
  | 6 => if (fld w 24 1) != 0#1 then .error .reserved else .ok .vandVX
  | 7 => if (fld w 24 1) != 0#1 then .error .reserved else .ok .vorVX
  | 8 => if (fld w 24 1) != 0#1 then .error .reserved else .ok .vxorVX
  | 9 => if (fld w 24 1) != 0#1 then .error .reserved else .ok .vsllVX
  | 10 => if (fld w 24 1) != 0#1 then .error .reserved else .ok .vsrlVX
  | 11 => if (fld w 24 1) != 0#1 then .error .reserved else .ok .vsraVX
  | 12 => if (fld w 24 1) != 0#1 then .error .reserved else .ok .vminVX
  | 13 => if (fld w 24 1) != 0#1 then .error .reserved else .ok .vmaxVX
  | 14 => if (fld w 24 1) != 0#1 then .error .reserved else .ok .vminnVX
  | 15 => if (fld w 24 1) != 0#1 then .error .reserved else .ok .vmaxnVX
  | _ => .error .function

/-- Opcode 0x0E: VADD_VI, VSUB_VI, VRSUB_VI and others. -/
def decodeOp0E (w : BitVec 32) : DecodedRow :=
  match (fld w 28 4).toNat with
  | 0 => if (fld w 24 1) != 0#1 then .error .reserved else .ok .vaddVI
  | 1 => if (fld w 24 1) != 0#1 then .error .reserved else .ok .vsubVI
  | 2 => if (fld w 24 1) != 0#1 then .error .reserved else .ok .vrsubVI
  | 3 => if (fld w 24 1) != 0#1 then .error .reserved else .ok .vmulVI
  | 4 => if (fld w 24 1) != 0#1 then .error .reserved else .ok .vmulhVI
  | 5 => if (fld w 24 1) != 0#1 then .error .reserved else .ok .vmulhnVI
  | 6 => if (fld w 24 1) != 0#1 then .error .reserved else .ok .vandVI
  | 7 => if (fld w 24 1) != 0#1 then .error .reserved else .ok .vorVI
  | 8 => if (fld w 24 1) != 0#1 then .error .reserved else .ok .vxorVI
  | 9 => if (fld w 24 1) != 0#1 then .error .reserved else .ok .vsllVI
  | 10 => if (fld w 24 1) != 0#1 then .error .reserved else .ok .vsrlVI
  | 11 => if (fld w 24 1) != 0#1 then .error .reserved else .ok .vsraVI
  | 12 => if (fld w 24 1) != 0#1 then .error .reserved else .ok .vminVI
  | 13 => if (fld w 24 1) != 0#1 then .error .reserved else .ok .vmaxVI
  | 14 => if (fld w 24 1) != 0#1 then .error .reserved else .ok .vminnVI
  | 15 => if (fld w 24 1) != 0#1 then .error .reserved else .ok .vmaxnVI
  | _ => .error .function

/-- Opcode 0x12: VSADD_VV, VSSUB_VV, VSADDN_VV and others. -/
def decodeOp12 (w : BitVec 32) : DecodedRow :=
  match (fld w 28 4).toNat with
  | 0 => .ok .vsaddVV
  | 1 => .ok .vssubVV
  | 2 => .ok .vsaddnVV
  | 3 => .ok .vssubnVV
  | 4 => .ok .vdivVV
  | 5 => .ok .vdivnVV
  | 6 => .ok .vremVV
  | 7 => .ok .vremnVV
  | 8 => .ok .vmaccVV
  | 9 => .ok .vnmsacVV
  | 10 => .ok .vavgVV
  | 11 => .ok .vavgnVV
  | 12 => if (fld w 13 5) != 0#5 || (fld w 23 1) != 0#1 then .error .reserved else .ok .vabs
  | 13 => if (fld w 13 5) != 0#5 || (fld w 23 1) != 0#1 then .error .reserved else .ok .vneg
  | 14 => if (fld w 13 5) != 0#5 || (fld w 23 1) != 0#1 then .error .reserved else .ok .vpopc
  | 15 => if (fld w 13 5) != 0#5 || (fld w 23 1) != 0#1 then .error .reserved else .ok .vclz
  | _ => .error .function

/-- Opcode 0x16: VSADD_VX, VSSUB_VX, VSADDN_VX and others. -/
def decodeOp16 (w : BitVec 32) : DecodedRow :=
  match (fld w 28 4).toNat with
  | 0 => if (fld w 24 1) != 0#1 then .error .reserved else .ok .vsaddVX
  | 1 => if (fld w 24 1) != 0#1 then .error .reserved else .ok .vssubVX
  | 2 => if (fld w 24 1) != 0#1 then .error .reserved else .ok .vsaddnVX
  | 3 => if (fld w 24 1) != 0#1 then .error .reserved else .ok .vssubnVX
  | 4 => if (fld w 24 1) != 0#1 then .error .reserved else .ok .vdivVX
  | 5 => if (fld w 24 1) != 0#1 then .error .reserved else .ok .vdivnVX
  | 6 => if (fld w 24 1) != 0#1 then .error .reserved else .ok .vremVX
  | 7 => if (fld w 24 1) != 0#1 then .error .reserved else .ok .vremnVX
  | 8 => if (fld w 24 1) != 0#1 then .error .reserved else .ok .vmaccVX
  | 9 => if (fld w 24 1) != 0#1 then .error .reserved else .ok .vnmsacVX
  | 10 => if (fld w 24 1) != 0#1 then .error .reserved else .ok .vavgVX
  | 11 => if (fld w 24 1) != 0#1 then .error .reserved else .ok .vavgnVX
  | _ => .error .function

/-- Opcode 0x1A: VWADD_VV, VWADDN_VV, VWSUB_VV and others. -/
def decodeOp1A (w : BitVec 32) : DecodedRow :=
  match (fld w 28 4).toNat with
  | 0 => .ok .vwaddVV
  | 1 => .ok .vwaddnVV
  | 2 => .ok .vwsubVV
  | 3 => .ok .vwsubnVV
  | 4 => .ok .vwmulVV
  | 5 => .ok .vwmulnVV
  | 6 => .ok .vwmaccVV
  | 7 => .ok .vwmaccnVV
  | 8 => .ok .vnsrlVV
  | 9 => .ok .vnsraVV
  | 10 => .ok .vnclipVV
  | 11 => .ok .vnclipnVV
  | _ => .error .function

/-- Opcode 0x1E: VWADD_VX, VWADDN_VX, VWSUB_VX and others. -/
def decodeOp1E (w : BitVec 32) : DecodedRow :=
  match (fld w 28 4).toNat with
  | 0 => if (fld w 24 1) != 0#1 then .error .reserved else .ok .vwaddVX
  | 1 => if (fld w 24 1) != 0#1 then .error .reserved else .ok .vwaddnVX
  | 2 => if (fld w 24 1) != 0#1 then .error .reserved else .ok .vwsubVX
  | 3 => if (fld w 24 1) != 0#1 then .error .reserved else .ok .vwsubnVX
  | 4 => if (fld w 24 1) != 0#1 then .error .reserved else .ok .vwmulVX
  | 5 => if (fld w 24 1) != 0#1 then .error .reserved else .ok .vwmulnVX
  | 6 => if (fld w 24 1) != 0#1 then .error .reserved else .ok .vwmaccVX
  | 7 => if (fld w 24 1) != 0#1 then .error .reserved else .ok .vwmaccnVX
  | 8 => if (fld w 24 1) != 0#1 then .error .reserved else .ok .vnsrlVX
  | 9 => if (fld w 24 1) != 0#1 then .error .reserved else .ok .vnsraVX
  | 10 => if (fld w 24 1) != 0#1 then .error .reserved else .ok .vnclipVX
  | 11 => if (fld w 24 1) != 0#1 then .error .reserved else .ok .vnclipnVX
  | _ => .error .function

/-- Opcode 0x22: VFADD_VV, VFSUB_VV, VFRSUB_VV and others. -/
def decodeOp22 (w : BitVec 32) : DecodedRow :=
  match (fld w 28 4).toNat with
  | 0 => .ok .vfaddVV
  | 1 => .ok .vfsubVV
  | 2 => .ok .vfrsubVV
  | 3 => .ok .vfmulVV
  | 4 => .ok .vfdivVV
  | 5 => .ok .vfrdivVV
  | 6 => .ok .vfminVV
  | 7 => .ok .vfmaxVV
  | 8 => .ok .vfsgnjVV
  | 9 => .ok .vfsgnjnVV
  | 10 => .ok .vfsgnjxVV
  | 11 => .ok .vfmaVV
  | 12 => .ok .vfmsVV
  | 13 => .ok .vfnmaVV
  | 14 => .ok .vfnmsVV
  | _ => .error .function

/-- Opcode 0x26: VFADD_VX, VFSUB_VX, VFRSUB_VX and others. -/
def decodeOp26 (w : BitVec 32) : DecodedRow :=
  match (fld w 28 4).toNat with
  | 0 => if (fld w 24 1) != 0#1 then .error .reserved else .ok .vfaddVX
  | 1 => if (fld w 24 1) != 0#1 then .error .reserved else .ok .vfsubVX
  | 2 => if (fld w 24 1) != 0#1 then .error .reserved else .ok .vfrsubVX
  | 3 => if (fld w 24 1) != 0#1 then .error .reserved else .ok .vfmulVX
  | 4 => if (fld w 24 1) != 0#1 then .error .reserved else .ok .vfdivVX
  | 5 => if (fld w 24 1) != 0#1 then .error .reserved else .ok .vfrdivVX
  | 6 => if (fld w 24 1) != 0#1 then .error .reserved else .ok .vfminVX
  | 7 => if (fld w 24 1) != 0#1 then .error .reserved else .ok .vfmaxVX
  | 8 => if (fld w 24 1) != 0#1 then .error .reserved else .ok .vfsgnjVX
  | 9 => if (fld w 24 1) != 0#1 then .error .reserved else .ok .vfsgnjnVX
  | 10 => if (fld w 24 1) != 0#1 then .error .reserved else .ok .vfsgnjxVX
  | 11 => if (fld w 24 1) != 0#1 then .error .reserved else .ok .vfmaVX
  | 12 => if (fld w 24 1) != 0#1 then .error .reserved else .ok .vfmsVX
  | 13 => if (fld w 24 1) != 0#1 then .error .reserved else .ok .vfnmaVX
  | 14 => if (fld w 24 1) != 0#1 then .error .reserved else .ok .vfnmsVX
  | _ => .error .function

/-- Opcode 0x2A: VFSQRT, VFRCP, VFRSQ and others. -/
def decodeOp2A (w : BitVec 32) : DecodedRow :=
  match (fld w 13 5).toNat with
  | 0 => if badVfuRound (fld w 28 4) then .error .function else if (fld w 23 1) != 0#1 || (fld w 31 1) == 0#1 && (fld w 28 3) != 0#3 then .error .reserved else .ok .vfsqrt
  | 1 => if badVfuRound (fld w 28 4) then .error .function else if (fld w 23 1) != 0#1 || (fld w 31 1) == 0#1 && (fld w 28 3) != 0#3 then .error .reserved else .ok .vfrcp
  | 2 => if badVfuRound (fld w 28 4) then .error .function else if (fld w 23 1) != 0#1 || (fld w 31 1) == 0#1 && (fld w 28 3) != 0#3 then .error .reserved else .ok .vfrsq
  | 3 => if badVfuRound (fld w 28 4) then .error .function else if (fld w 23 1) != 0#1 || (fld w 31 1) == 0#1 && (fld w 28 3) != 0#3 then .error .reserved else .ok .vfexp2
  | 4 => if badVfuRound (fld w 28 4) then .error .function else if (fld w 23 1) != 0#1 || (fld w 31 1) == 0#1 && (fld w 28 3) != 0#3 then .error .reserved else .ok .vflog2
  | 5 => if badVfuRound (fld w 28 4) then .error .function else if (fld w 23 1) != 0#1 || (fld w 31 1) == 0#1 && (fld w 28 3) != 0#3 then .error .reserved else .ok .vfsinp
  | 6 => if badVfuRound (fld w 28 4) then .error .function else if (fld w 23 1) != 0#1 || (fld w 31 1) == 0#1 && (fld w 28 3) != 0#3 then .error .reserved else .ok .vfcosp
  | 7 => if badVfuRound (fld w 28 4) then .error .function else if (fld w 23 1) != 0#1 || (fld w 31 1) == 0#1 && (fld w 28 3) != 0#3 then .error .reserved else .ok .vftanh
  | 8 => if badVfuRound (fld w 28 4) then .error .function else if (fld w 23 1) != 0#1 || (fld w 31 1) == 0#1 && (fld w 28 3) != 0#3 then .error .reserved else .ok .vfabs
  | 9 => if badVfuRound (fld w 28 4) then .error .function else if (fld w 23 1) != 0#1 || (fld w 31 1) == 0#1 && (fld w 28 3) != 0#3 then .error .reserved else .ok .vfneg
  | 10 => if badVfuRound (fld w 28 4) then .error .function else if (fld w 23 1) != 0#1 || (fld w 31 1) == 0#1 && (fld w 28 3) != 0#3 then .error .reserved else .ok .vfclass
  | 11 => if badVfuRound (fld w 28 4) then .error .function else if (fld w 23 1) != 0#1 || (fld w 31 1) == 0#1 && (fld w 28 3) != 0#3 then .error .reserved else .ok .vffloor
  | 12 => if badVfuRound (fld w 28 4) then .error .function else if (fld w 23 1) != 0#1 || (fld w 31 1) == 0#1 && (fld w 28 3) != 0#3 then .error .reserved else .ok .vfceil
  | 13 => if badVfuRound (fld w 28 4) then .error .function else if (fld w 23 1) != 0#1 || (fld w 31 1) == 0#1 && (fld w 28 3) != 0#3 then .error .reserved else .ok .vfround
  | _ => .error .function

/-- Opcode 0x2E: VCVT_I32_F32, VCVT_N32_F32, VCVT_F32_I32 and others. -/
def decodeOp2E (w : BitVec 32) : DecodedRow :=
  match (fld w 13 5).toNat with
  | 0 => if badCvtRound (fld w 29 3) false then .error .function else if (fld w 23 1) != 0#1 then .error .reserved else .ok .vcvtI32F32
  | 1 => if badCvtRound (fld w 29 3) false then .error .function else if (fld w 23 1) != 0#1 then .error .reserved else .ok .vcvtN32F32
  | 2 => if badCvtRound (fld w 29 3) false then .error .function else if (fld w 23 1) != 0#1 then .error .reserved else .ok .vcvtF32I32
  | 3 => if badCvtRound (fld w 29 3) false then .error .function else if (fld w 23 1) != 0#1 then .error .reserved else .ok .vcvtF32N32
  | 4 => if badCvtRound (fld w 29 3) false then .error .function else if (fld w 23 1) != 0#1 then .error .reserved else .ok .vcvtI64F64
  | 5 => if badCvtRound (fld w 29 3) false then .error .function else if (fld w 23 1) != 0#1 then .error .reserved else .ok .vcvtN64F64
  | 6 => if badCvtRound (fld w 29 3) false then .error .function else if (fld w 23 1) != 0#1 then .error .reserved else .ok .vcvtF64I64
  | 7 => if badCvtRound (fld w 29 3) false then .error .function else if (fld w 23 1) != 0#1 then .error .reserved else .ok .vcvtF64N64
  | 8 => if badCvtRound (fld w 29 3) false then .error .function else if (fld w 23 1) != 0#1 then .error .reserved else .ok .vcvtF64F32
  | 9 => if badCvtRound (fld w 29 3) false then .error .function else if (fld w 23 1) != 0#1 then .error .reserved else .ok .vcvtF32F64
  | 10 => if badCvtRound (fld w 29 3) true then .error .function else if (fld w 23 1) != 0#1 then .error .reserved else .ok .vcvtHF32
  | 11 => if badCvtRound (fld w 29 3) true then .error .function else if (fld w 23 1) != 0#1 then .error .reserved else .ok .vcvtBfF32
  | 12 => if badCvtRound (fld w 29 3) false then .error .function else if (fld w 23 1) != 0#1 then .error .reserved else .ok .vcvtF32H
  | 13 => if badCvtRound (fld w 29 3) false then .error .function else if (fld w 23 1) != 0#1 then .error .reserved else .ok .vcvtF32Bf
  | 14 => if badCvtRound (fld w 29 3) true then .error .function else if (fld w 23 1) != 0#1 then .error .reserved else .ok .vcvtB8F32
  | 15 => if badCvtRound (fld w 29 3) false then .error .function else if (fld w 23 1) != 0#1 then .error .reserved else .ok .vcvtF32B8
  | 16 => if badCvtRound (fld w 29 3) true then .error .function else if (fld w 23 1) != 0#1 then .error .reserved else .ok .vcvtB8H
  | 17 => if badCvtRound (fld w 29 3) true then .error .function else if (fld w 23 1) != 0#1 then .error .reserved else .ok .vcvtHB8
  | 18 => if badCvtRound (fld w 29 3) true then .error .function else if (fld w 23 1) != 0#1 then .error .reserved else .ok .vcvtB8Bf
  | 19 => if badCvtRound (fld w 29 3) true then .error .function else if (fld w 23 1) != 0#1 then .error .reserved else .ok .vcvtBfB8
  | 20 => if badCvtRound (fld w 29 3) true then .error .function else if (fld w 23 1) != 0#1 then .error .reserved else .ok .vcvtE4F32
  | 21 => if badCvtRound (fld w 29 3) false then .error .function else if (fld w 23 1) != 0#1 then .error .reserved else .ok .vcvtF32E4
  | 22 => if badCvtRound (fld w 29 3) true then .error .function else if (fld w 23 1) != 0#1 then .error .reserved else .ok .vcvtHE4
  | 23 => if badCvtRound (fld w 29 3) false then .error .function else if (fld w 23 1) != 0#1 then .error .reserved else .ok .vcvtQ4F32
  | 24 => if badCvtRound (fld w 29 3) false then .error .function else if (fld w 23 1) != 0#1 then .error .reserved else .ok .vcvtF32Q4
  | 25 => if badCvtRound (fld w 29 3) true then .error .function else if (fld w 23 1) != 0#1 then .error .reserved else .ok .vcvtHQ4
  | _ => .error .function

/-- Opcode 0x32: VCMP_EQ_VV, VCMP_NE_VV, VCMP_LT_VV and others. -/
def decodeOp32 (w : BitVec 32) : DecodedRow :=
  match (fld w 28 4).toNat with
  | 0 => if (fld w 11 2) != 0#2 then .error .reserved else .ok .vcmpEqVV
  | 1 => if (fld w 11 2) != 0#2 then .error .reserved else .ok .vcmpNeVV
  | 2 => if (fld w 11 2) != 0#2 then .error .reserved else .ok .vcmpLtVV
  | 3 => if (fld w 11 2) != 0#2 then .error .reserved else .ok .vcmpLeVV
  | 4 => if (fld w 11 2) != 0#2 then .error .reserved else .ok .vcmpLtnVV
  | 5 => if (fld w 11 2) != 0#2 then .error .reserved else .ok .vcmpLenVV
  | 6 => if (fld w 11 2) != 0#2 then .error .reserved else .ok .vcmpGtVV
  | 7 => if (fld w 11 2) != 0#2 then .error .reserved else .ok .vcmpGeVV
  | 8 => if (fld w 11 2) != 0#2 then .error .reserved else .ok .vcmpFeqVV
  | 9 => if (fld w 11 2) != 0#2 then .error .reserved else .ok .vcmpFneVV
  | 10 => if (fld w 11 2) != 0#2 then .error .reserved else .ok .vcmpFltVV
  | 11 => if (fld w 11 2) != 0#2 then .error .reserved else .ok .vcmpFleVV
  | 12 => if (fld w 11 2) != 0#2 then .error .reserved else .ok .vcmpFgtVV
  | 13 => if (fld w 11 2) != 0#2 then .error .reserved else .ok .vcmpFgeVV
  | 14 => if (fld w 11 2) != 0#2 then .error .reserved else .ok .vcmpFunordVV
  | 15 => if (fld w 11 2) != 0#2 then .error .reserved else .ok .vcmpFordVV
  | _ => .error .function

/-- Opcode 0x36: VCMP_EQ_VX, VCMP_NE_VX, VCMP_LT_VX and others. -/
def decodeOp36 (w : BitVec 32) : DecodedRow :=
  match (fld w 28 4).toNat with
  | 0 => if (fld w 11 2) != 0#2 || (fld w 24 1) != 0#1 then .error .reserved else .ok .vcmpEqVX
  | 1 => if (fld w 11 2) != 0#2 || (fld w 24 1) != 0#1 then .error .reserved else .ok .vcmpNeVX
  | 2 => if (fld w 11 2) != 0#2 || (fld w 24 1) != 0#1 then .error .reserved else .ok .vcmpLtVX
  | 3 => if (fld w 11 2) != 0#2 || (fld w 24 1) != 0#1 then .error .reserved else .ok .vcmpLeVX
  | 4 => if (fld w 11 2) != 0#2 || (fld w 24 1) != 0#1 then .error .reserved else .ok .vcmpLtnVX
  | 5 => if (fld w 11 2) != 0#2 || (fld w 24 1) != 0#1 then .error .reserved else .ok .vcmpLenVX
  | 6 => if (fld w 11 2) != 0#2 || (fld w 24 1) != 0#1 then .error .reserved else .ok .vcmpGtVX
  | 7 => if (fld w 11 2) != 0#2 || (fld w 24 1) != 0#1 then .error .reserved else .ok .vcmpGeVX
  | 8 => if (fld w 11 2) != 0#2 || (fld w 24 1) != 0#1 then .error .reserved else .ok .vcmpFeqVX
  | 9 => if (fld w 11 2) != 0#2 || (fld w 24 1) != 0#1 then .error .reserved else .ok .vcmpFneVX
  | 10 => if (fld w 11 2) != 0#2 || (fld w 24 1) != 0#1 then .error .reserved else .ok .vcmpFltVX
  | 11 => if (fld w 11 2) != 0#2 || (fld w 24 1) != 0#1 then .error .reserved else .ok .vcmpFleVX
  | 12 => if (fld w 11 2) != 0#2 || (fld w 24 1) != 0#1 then .error .reserved else .ok .vcmpFgtVX
  | 13 => if (fld w 11 2) != 0#2 || (fld w 24 1) != 0#1 then .error .reserved else .ok .vcmpFgeVX
  | 14 => if (fld w 11 2) != 0#2 || (fld w 24 1) != 0#1 then .error .reserved else .ok .vcmpFunordVX
  | 15 => if (fld w 11 2) != 0#2 || (fld w 24 1) != 0#1 then .error .reserved else .ok .vcmpFordVX
  | _ => .error .function

/-- Opcode 0x3A: KAND, KOR, KXOR and others. -/
def decodeOp3A (w : BitVec 32) : DecodedRow :=
  match (fld w 28 4).toNat with
  | 0 => if (fld w 11 2) != 0#2 || (fld w 16 2) != 0#2 || (fld w 21 2) != 0#2 then .error .reserved else .ok .kand
  | 1 => if (fld w 11 2) != 0#2 || (fld w 16 2) != 0#2 || (fld w 21 2) != 0#2 then .error .reserved else .ok .kor
  | 2 => if (fld w 11 2) != 0#2 || (fld w 16 2) != 0#2 || (fld w 21 2) != 0#2 then .error .reserved else .ok .kxor
  | 3 => if (fld w 11 2) != 0#2 || (fld w 16 2) != 0#2 || (fld w 21 2) != 0#2 then .error .reserved else .ok .kandn
  | 4 => if (fld w 11 7) != 0#7 || (fld w 21 3) != 0#3 then .error .reserved else .ok .knot
  | 5 => if (fld w 11 7) != 0#7 || (fld w 21 3) != 0#3 then .error .reserved else .ok .kmov
  | 6 => if (fld w 13 5) != 0#5 || (fld w 21 3) != 0#3 then .error .reserved else .ok .kpop
  | 7 => if (fld w 13 5) != 0#5 || (fld w 21 3) != 0#3 then .error .reserved else .ok .kfirst
  | 8 => if (fld w 13 5) != 0#5 || (fld w 21 3) != 0#3 then .error .reserved else .ok .kiota
  | 9 => .ok .vmerge
  | 10 => if (fld w 13 5) != 0#5 || (fld w 23 1) != 0#1 then .error .reserved else .ok .vcompress
  | 11 => if (fld w 13 5) != 0#5 || (fld w 23 1) != 0#1 then .error .reserved else .ok .vexpand
  | 12 => if (fld w 11 2) != 0#2 || (fld w 23 2) != 0#2 then .error .reserved else .ok .ksetx
  | _ => .error .function

/-- Opcode 0x3E: VSLIDEUP, VSLIDEDN, VPERMV and others. -/
def decodeOp3E (w : BitVec 32) : DecodedRow :=
  match (fld w 28 4).toNat with
  | 0 => if (fld w 24 1) != 0#1 then .error .reserved else .ok .vslideup
  | 1 => if (fld w 24 1) != 0#1 then .error .reserved else .ok .vslidedn
  | 2 => .ok .vpermv
  | 3 => if (fld w 24 1) != 0#1 then .error .reserved else .ok .vbcast
  | 4 => if (fld w 24 4) != 0#4 then .error .reserved else .ok .vextract
  | 5 => if (fld w 23 5) != 0#5 then .error .reserved else .ok .vinsert
  | 6 => .ok .vilv
  | 7 => if (fld w 18 5) != 0#5 || (fld w 24 1) != 0#1 then .error .reserved else .ok .vdilv
  | 8 => if (fld w 13 12) != 0#12 then .error .reserved else .ok .vid
  | 9 => if (fld w 18 7) != 0#7 then .error .reserved else .ok .vrand
  | 10 => if (fld w 13 5) == 0#5 then (if (fld w 23 1) != 0#1 then .error .reserved else .ok .vmvV)
      else if (fld w 13 5) == 1#5 then (if (fld w 23 2) != 0#2 then .error .reserved else .ok .vmvX)
      else .error .function
  | _ => .error .function

/-- Opcode 0x42: VREDSUM, VREDMIN, VREDMAX and others. -/
def decodeOp42 (w : BitVec 32) : DecodedRow :=
  match (fld w 28 4).toNat with
  | 0 => .ok .vredsum
  | 1 => .ok .vredmin
  | 2 => .ok .vredmax
  | 3 => .ok .vredminn
  | 4 => .ok .vredmaxn
  | 5 => .ok .vredand
  | 6 => .ok .vredor
  | 7 => .ok .vredxor
  | 8 => .ok .vfsum
  | 9 => .ok .vfsumo
  | 10 => .ok .vfredmin
  | 11 => .ok .vfredmax
  | 12 => .ok .vwsum
  | _ => .error .function

/-- Opcode 0x46: VBSHL, VBSHR, VBFUN. -/
def decodeOp46 (w : BitVec 32) : DecodedRow :=
  match (fld w 28 4).toNat with
  | 0 => if (fld w 24 1) != 0#1 then .error .reserved else .ok .vbshl
  | 1 => if (fld w 24 1) != 0#1 then .error .reserved else .ok .vbshr
  | 2 => if (fld w 24 1) != 0#1 then .error .reserved else .ok .vbfun
  | _ => .error .function

/-- Opcode 0x4A: VTERNLOG. -/
def decodeOp4A (w : BitVec 32) : DecodedRow :=
  if (fld w 31 1) != 0#1 then .error .reserved else .ok .vternlog

/-- Opcode 0x4E: VLD, VLD_REG; `ord` belongs to the former (log 122). -/
def decodeOp4E (w : BitVec 32) : DecodedRow :=
  match (fld w 28 4).toNat with
  | 0 => if (fld w 18 6) != 0#6 then .error .reserved else .ok .vld
  | 1 => if (fld w 18 10) != 0#10 then .error .reserved else .ok .vldReg
  | _ => .error .function

/-- Opcode 0x52: VLDS. -/
def decodeOp52 (w : BitVec 32) : DecodedRow :=
  match (fld w 28 4).toNat with
  | 0 => if (fld w 23 1) != 0#1 then .error .reserved else .ok .vlds
  | _ => .error .function

/-- Opcode 0x56: VLDX. -/
def decodeOp56 (w : BitVec 32) : DecodedRow :=
  match (fld w 28 4).toNat with
  | 0 => .ok .vldx
  | _ => .error .function

/-- Opcode 0x5A: VST, VST_REG; `ord` belongs to the former (log 122). -/
def decodeOp5A (w : BitVec 32) : DecodedRow :=
  match (fld w 28 4).toNat with
  | 0 => if (fld w 18 5) != 0#5 then .error .reserved else .ok .vst
  | 1 => if (fld w 18 5) != 0#5 || (fld w 24 4) != 0#4 then .error .reserved else .ok .vstReg
  | _ => .error .function

/-- Opcode 0x5E: VSTS. -/
def decodeOp5E (w : BitVec 32) : DecodedRow :=
  match (fld w 28 4).toNat with
  | 0 => .ok .vsts
  | _ => .error .function

/-- Opcode 0x62: VSTX. -/
def decodeOp62 (w : BitVec 32) : DecodedRow :=
  match (fld w 28 4).toNat with
  | 0 => .ok .vstx
  | _ => .error .function

/-- Opcode 0x66: VGLL. -/
def decodeOp66 (w : BitVec 32) : DecodedRow :=
  match (fld w 28 4).toNat with
  | 0 => if (fld w 24 1) != 0#1 then .error .reserved else .ok .vgll
  | _ => .error .function

/-- Opcode 0x6A: VSCC. -/
def decodeOp6A (w : BitVec 32) : DecodedRow :=
  match (fld w 28 4).toNat with
  | 0 => if (fld w 25 3) == 0#3 then .error .function else if (fld w 24 1) != 0#1 then .error .reserved else .ok .vscc
  | _ => .error .function

/-- Opcode 0x6E: VACC. -/
def decodeOp6E (w : BitVec 32) : DecodedRow :=
  match (fld w 28 4).toNat with
  | 0 => if (fld w 24 1) != 0#1 then .error .reserved else .ok .vacc
  | _ => .error .function

/-- Opcode 0x72: VLDW_E4_H, VLDW_E4_BF, VLDW_E4_B8 and others. -/
def decodeOp72 (w : BitVec 32) : DecodedRow :=
  match (fld w 28 4).toNat with
  | 0 => if (fld w 23 2) != 0#2 then .error .reserved else .ok .vldwE4H
  | 1 => if (fld w 23 2) != 0#2 then .error .reserved else .ok .vldwE4Bf
  | 2 => if (fld w 23 2) != 0#2 then .error .reserved else .ok .vldwE4B8
  | 4 => if (fld w 23 2) != 0#2 then .error .reserved else .ok .vldwQ4H
  | 5 => if (fld w 23 2) != 0#2 then .error .reserved else .ok .vldwQ4Bf
  | 6 => if (fld w 23 2) != 0#2 then .error .reserved else .ok .vldwQ4B8
  | _ => .error .function

/-- Opcode 0x76: GSUB, GADD, GLEN and others. -/
def decodeOp76 (w : BitVec 32) : DecodedRow :=
  match (fld w 28 4).toNat with
  | 0 => .ok .gsub
  | 1 => .ok .gadd
  | 2 => if (fld w 13 5) != 0#5 || (fld w 23 1) != 0#1 then .error .reserved else .ok .glen
  | 3 => if (fld w 13 5) != 0#5 || (fld w 23 1) != 0#1 then .error .reserved else .ok .gtag
  | 4 => .ok .gpack
  | 5 => if (fld w 13 5) != 0#5 || (fld w 23 1) != 0#1 then .error .reserved else .ok .gunpack
  | 6 => if (fld w 13 5) != 0#5 || (fld w 23 1) != 0#1 then .error .reserved else .ok .grehome
  | 7 => .ok .gdot
  | _ => .error .function

/-- Opcode 0x7A: GCVT, GSCL, GSETTAG. -/
def decodeOp7A (w : BitVec 32) : DecodedRow :=
  match (fld w 28 4).toNat with
  | 0 => if (fld w 24 1) != 0#1 then .error .reserved else .ok .gcvt
  | 1 => if (fld w 24 1) != 0#1 then .error .reserved else .ok .gscl
  | 2 => if (fld w 24 1) != 0#1 then .error .reserved else .ok .gsettag
  | _ => .error .function

/-- Opcode 0x7E: GMORTON, GNBR, VCELLINS and others. -/
def decodeOp7E (w : BitVec 32) : DecodedRow :=
  match (fld w 28 4).toNat with
  | 0 => if (fld w 24 1) != 0#1 then .error .reserved else .ok .gmorton
  | 1 => if (fld w 24 1) != 0#1 then .error .reserved else .ok .gnbr
  | 2 => if (fld w 23 1) != 0#1 then .error .reserved else .ok .vcellins
  | 3 => if (fld w 23 1) != 0#1 then .error .reserved else .ok .vcellfind
  | _ => .error .function

/-- Opcode 0x82: RECUR, RSPAWN, RRET and others. -/
def decodeOp82 (w : BitVec 32) : DecodedRow :=
  match (fld w 28 4).toNat with
  | 0 => if (fld w 23 5) != 0#5 then .error .reserved else .ok .recur
  | 1 => if (fld w 8 5) != 0#5 || (fld w 18 5) != 0#5 || (fld w 24 1) != 0#1 then .error .reserved else .ok .rspawn
  | 2 => if (fld w 8 5) != 0#5 || (fld w 18 5) != 0#5 || (fld w 24 1) != 0#1 then .error .reserved else .ok .rret
  | 3 => if (fld w 13 5) != 0#5 || (fld w 23 2) != 0#2 then .error .reserved else .ok .rkids
  | 4 => if (fld w 13 12) != 0#12 then .error .reserved else .ok .rdepth
  | 5 => if (fld w 13 12) != 0#12 then .error .reserved else .ok .rnkid
  | _ => .error .function

/-- Opcode 0x86: MZERO, MROWV, MVROW and others. -/
def decodeOp86 (w : BitVec 32) : DecodedRow :=
  match (fld w 28 4).toNat with
  | 0 => if (fld w 13 15) != 0#15 || decide (1#5 < fld w 8 5) then .error .reserved else .ok .mzero
  | 1 => if (fld w 23 2) != 0#2 || decide (1#5 < fld w 13 5) then .error .reserved else .ok .mrowv
  | 2 => if (fld w 24 1) != 0#1 || decide (1#5 < fld w 8 5) then .error .reserved else .ok .mvrow
  | 3 => if (fld w 23 2) != 0#2 || decide (1#5 < fld w 13 5) then .error .reserved else .ok .mcolv
  | 4 => if (fld w 24 1) != 0#1 || decide (1#5 < fld w 8 5) then .error .reserved else .ok .mvcol
  | 5 => if (fld w 23 5) != 0#5 || decide (1#5 < fld w 8 5) then .error .reserved else .ok .mdrain
  | 6 => if (fld w 23 5) != 0#5 || decide (1#5 < fld w 8 5) then .error .reserved else .ok .mload
  | _ => .error .function

/-- Opcode 0x8A: AMERGE, SACC. -/
def decodeOp8A (w : BitVec 32) : DecodedRow :=
  match (fld w 28 4).toNat with
  | 0 => if (fld w 8 5) != 0#5 || (fld w 23 5) != 0#5 then .error .reserved else .ok .amerge
  | 1 => if (fld w 8 5) != 0#5 || (fld w 23 5) != 0#5 then .error .reserved else .ok .sacc
  | _ => .error .function

/-- A 32-bit word of class A or V (R68, R86, R88). -/
def decode32 (w : BitVec 32) : DecodedRow :=
  match (fld w 0 8).toNat with
  | 0x01 => decodeOp01 w
  | 0x02 => decodeOp02 w
  | 0x05 => decodeOp05 w
  | 0x06 => decodeOp06 w
  | 0x09 => decodeOp09 w
  | 0x0A => decodeOp0A w
  | 0x0D => decodeOp0D w
  | 0x0E => decodeOp0E w
  | 0x11 => .ok .addi
  | 0x12 => decodeOp12 w
  | 0x15 => .ok .andi
  | 0x16 => decodeOp16 w
  | 0x19 => .ok .ori
  | 0x1A => decodeOp1A w
  | 0x1D => .ok .xori
  | 0x1E => decodeOp1E w
  | 0x21 => .ok .slti
  | 0x22 => decodeOp22 w
  | 0x25 => .ok .sltni
  | 0x26 => decodeOp26 w
  | 0x29 => decodeOp29 w
  | 0x2A => decodeOp2A w
  | 0x2D => .ok .lui
  | 0x2E => decodeOp2E w
  | 0x31 => .ok .auipc
  | 0x32 => decodeOp32 w
  | 0x35 => .ok .lb
  | 0x36 => decodeOp36 w
  | 0x39 => .ok .lh
  | 0x3A => decodeOp3A w
  | 0x3D => .ok .lw
  | 0x3E => decodeOp3E w
  | 0x41 => .ok .ld
  | 0x42 => decodeOp42 w
  | 0x45 => .ok .lbn
  | 0x46 => decodeOp46 w
  | 0x49 => .ok .lhn
  | 0x4A => decodeOp4A w
  | 0x4D => .ok .lwn
  | 0x4E => decodeOp4E w
  | 0x51 => .ok .sb
  | 0x52 => decodeOp52 w
  | 0x55 => .ok .sh
  | 0x56 => decodeOp56 w
  | 0x59 => .ok .sw
  | 0x5A => decodeOp5A w
  | 0x5D => .ok .sd
  | 0x5E => decodeOp5E w
  | 0x61 => .ok .beq
  | 0x62 => decodeOp62 w
  | 0x65 => .ok .bne
  | 0x66 => decodeOp66 w
  | 0x69 => .ok .blt
  | 0x6A => decodeOp6A w
  | 0x6D => .ok .bge
  | 0x6E => decodeOp6E w
  | 0x71 => .ok .bltn
  | 0x72 => decodeOp72 w
  | 0x75 => .ok .bgen
  | 0x76 => decodeOp76 w
  | 0x79 => .ok .jal
  | 0x7A => decodeOp7A w
  | 0x7D => .ok .jalr
  | 0x7E => decodeOp7E w
  | 0x81 => decodeOp81 w
  | 0x82 => decodeOp82 w
  | 0x85 => decodeOp85 w
  | 0x86 => decodeOp86 w
  | 0x89 => decodeOp89 w
  | 0x8A => decodeOp8A w
  | 0x8D => decodeOp8D w
  | 0x91 => decodeOp91 w
  | 0x95 => decodeOp95 w
  | 0x99 => decodeOp99 w
  | 0x9D => decodeOp9D w
  | 0xA1 => decodeOpA1 w
  | 0xA5 => decodeOpA5 w
  | _ => .error .opcode

/-- A compressed instruction (R74). -/
def decode16 (w : BitVec 16) : DecodedRow :=
  if w = 0#16 then .error .zero
  else
    match (w.extractLsb' 2 4).toNat with
    | 1 => if w.extractLsb' 6 5 = 0#5 then .error .function else .ok .cAddi
    | 2 => if w.extractLsb' 6 5 = 0#5 then .error .function else .ok .cMv
    | 3 => if w.extractLsb' 6 5 = 0#5 then .error .function else .ok .cAdd
    | 4 => if w.extractLsb' 6 5 = 0#5 then .error .function else .ok .cSub
    | 5 => .ok .cLd
    | 6 => .ok .cSd
    | 7 => .ok .cLw
    | 8 => .ok .cSw
    | 9 => .ok .cJ
    | 10 => .ok .cBeqz
    | 11 => .ok .cBnez
    | 12 => if w.extractLsb' 11 5 = 0#5 then .ok .cVfetch else .error .reserved
    | _ => .error .opcode

/-- A 64-bit tile form (R73): kind, then the field values that raise 0x01, then the reserved ones. -/
def decode64 (w : BitVec 64) : DecodedRow :=
  let kind := (w.extractLsb' 2 6).toNat
  if 2 < kind then .error .opcode
  else if badRound (w.extractLsb' 29 3) || decide (3#3 < w.extractLsb' 26 3) || decide (3#3 < w.extractLsb' 23 3) ||
      (kind == 2 && w.extractLsb' 26 3 == 0#3) then
    .error .function
  else if decide (1#5 < w.extractLsb' 8 5) || w.extractLsb' 53 11 != 0#11 then .error .reserved
  else
    match kind with
    | 0 => .ok .opacc
    | 1 => .ok .opsub
    | _ => .ok .opaccw

/-- The length in bytes that the first halfword gives (R66). -/
def lengthOf (h : BitVec 16) : Nat :=
  match (h.extractLsb' 0 2).toNat with
  | 0 => 2
  | 3 => 8
  | _ => 4

/-- The row of the instruction in the low bits of `w`, by the length that its first halfword gives (R66, R75 rows 1 to 4). -/
def decodeRow (w : BitVec 64) : DecodedRow :=
  match (w.extractLsb' 0 2).toNat with
  | 0 => decode16 (w.extractLsb' 0 16)
  | 3 => decode64 w
  | _ => decode32 (w.extractLsb' 0 32)

/-- The instruction of a row whose bits are `w`. Lean generates no code for a type with more than 244 constructors with
fields, so what builds an `Instr` is marked noncomputable; the kernel evaluates it as any definition. -/
noncomputable def Row.instr (r : Row) (w : BitVec 64) : Instr :=
  match r with
  | .add => .add (OpDAB.get (w.extractLsb' 0 32))
  | .sub => .sub (OpDAB.get (w.extractLsb' 0 32))
  | .and => .and (OpDAB.get (w.extractLsb' 0 32))
  | .or => .or (OpDAB.get (w.extractLsb' 0 32))
  | .xor => .xor (OpDAB.get (w.extractLsb' 0 32))
  | .sll => .sll (OpDAB.get (w.extractLsb' 0 32))
  | .srl => .srl (OpDAB.get (w.extractLsb' 0 32))
  | .sra => .sra (OpDAB.get (w.extractLsb' 0 32))
  | .slt => .slt (OpDAB.get (w.extractLsb' 0 32))
  | .sltn => .sltn (OpDAB.get (w.extractLsb' 0 32))
  | .min => .min (OpDAB.get (w.extractLsb' 0 32))
  | .max => .max (OpDAB.get (w.extractLsb' 0 32))
  | .minn => .minn (OpDAB.get (w.extractLsb' 0 32))
  | .maxn => .maxn (OpDAB.get (w.extractLsb' 0 32))
  | .andn => .andn (OpDAB.get (w.extractLsb' 0 32))
  | .orn => .orn (OpDAB.get (w.extractLsb' 0 32))
  | .rol => .rol (OpDAB.get (w.extractLsb' 0 32))
  | .ror => .ror (OpDAB.get (w.extractLsb' 0 32))
  | .addw => .addw (OpDAB.get (w.extractLsb' 0 32))
  | .subw => .subw (OpDAB.get (w.extractLsb' 0 32))
  | .mul => .mul (OpDAB.get (w.extractLsb' 0 32))
  | .mulh => .mulh (OpDAB.get (w.extractLsb' 0 32))
  | .mulhn => .mulhn (OpDAB.get (w.extractLsb' 0 32))
  | .mulhsn => .mulhsn (OpDAB.get (w.extractLsb' 0 32))
  | .div => .div (OpDAB.get (w.extractLsb' 0 32))
  | .divn => .divn (OpDAB.get (w.extractLsb' 0 32))
  | .rem => .rem (OpDAB.get (w.extractLsb' 0 32))
  | .remn => .remn (OpDAB.get (w.extractLsb' 0 32))
  | .fadd => .fadd (OpDABFR.get (w.extractLsb' 0 32))
  | .fsub => .fsub (OpDABFR.get (w.extractLsb' 0 32))
  | .fmul => .fmul (OpDABFR.get (w.extractLsb' 0 32))
  | .fdiv => .fdiv (OpDABFR.get (w.extractLsb' 0 32))
  | .fsqrt => .fsqrt (OpDAFR.get (w.extractLsb' 0 32))
  | .fmin => .fmin (OpDABF.get (w.extractLsb' 0 32))
  | .fmax => .fmax (OpDABF.get (w.extractLsb' 0 32))
  | .fsgnj => .fsgnj (OpDABF.get (w.extractLsb' 0 32))
  | .fsgnjn => .fsgnjn (OpDABF.get (w.extractLsb' 0 32))
  | .fsgnjx => .fsgnjx (OpDABF.get (w.extractLsb' 0 32))
  | .feq => .feq (OpDABF.get (w.extractLsb' 0 32))
  | .flt => .flt (OpDABF.get (w.extractLsb' 0 32))
  | .fle => .fle (OpDABF.get (w.extractLsb' 0 32))
  | .fclass => .fclass (OpDAF.get (w.extractLsb' 0 32))
  | .fma => .fma (OpDABEF.get (w.extractLsb' 0 32))
  | .fms => .fms (OpDABEF.get (w.extractLsb' 0 32))
  | .fnma => .fnma (OpDABEF.get (w.extractLsb' 0 32))
  | .fnms => .fnms (OpDABEF.get (w.extractLsb' 0 32))
  | .addi => .addi (OpDAI.get (w.extractLsb' 0 32))
  | .andi => .andi (OpDAI.get (w.extractLsb' 0 32))
  | .ori => .ori (OpDAI.get (w.extractLsb' 0 32))
  | .xori => .xori (OpDAI.get (w.extractLsb' 0 32))
  | .slti => .slti (OpDAI.get (w.extractLsb' 0 32))
  | .sltni => .sltni (OpDAI.get (w.extractLsb' 0 32))
  | .slli => .slli (OpDAS.get (w.extractLsb' 0 32))
  | .srli => .srli (OpDAS.get (w.extractLsb' 0 32))
  | .srai => .srai (OpDAS.get (w.extractLsb' 0 32))
  | .roli => .roli (OpDAS.get (w.extractLsb' 0 32))
  | .lui => .lui (OpDI.get (w.extractLsb' 0 32))
  | .auipc => .auipc (OpDI.get (w.extractLsb' 0 32))
  | .lb => .lb (OpDAI.get (w.extractLsb' 0 32))
  | .lh => .lh (OpDAI.get (w.extractLsb' 0 32))
  | .lw => .lw (OpDAI.get (w.extractLsb' 0 32))
  | .ld => .ld (OpDAI.get (w.extractLsb' 0 32))
  | .lbn => .lbn (OpDAI.get (w.extractLsb' 0 32))
  | .lhn => .lhn (OpDAI.get (w.extractLsb' 0 32))
  | .lwn => .lwn (OpDAI.get (w.extractLsb' 0 32))
  | .sb => .sb (OpSAI.get (w.extractLsb' 0 32))
  | .sh => .sh (OpSAI.get (w.extractLsb' 0 32))
  | .sw => .sw (OpSAI.get (w.extractLsb' 0 32))
  | .sd => .sd (OpSAI.get (w.extractLsb' 0 32))
  | .beq => .beq (OpABI.get (w.extractLsb' 0 32))
  | .bne => .bne (OpABI.get (w.extractLsb' 0 32))
  | .blt => .blt (OpABI.get (w.extractLsb' 0 32))
  | .bge => .bge (OpABI.get (w.extractLsb' 0 32))
  | .bltn => .bltn (OpABI.get (w.extractLsb' 0 32))
  | .bgen => .bgen (OpABI.get (w.extractLsb' 0 32))
  | .jal => .jal (OpDI.get (w.extractLsb' 0 32))
  | .jalr => .jalr (OpDAI.get (w.extractLsb' 0 32))
  | .amoswapW => .amoswapW (OpDABO.get (w.extractLsb' 0 32))
  | .amoaddW => .amoaddW (OpDABO.get (w.extractLsb' 0 32))
  | .amoandW => .amoandW (OpDABO.get (w.extractLsb' 0 32))
  | .amoorW => .amoorW (OpDABO.get (w.extractLsb' 0 32))
  | .amoxorW => .amoxorW (OpDABO.get (w.extractLsb' 0 32))
  | .amominW => .amominW (OpDABO.get (w.extractLsb' 0 32))
  | .amomaxW => .amomaxW (OpDABO.get (w.extractLsb' 0 32))
  | .amominnW => .amominnW (OpDABO.get (w.extractLsb' 0 32))
  | .amomaxnW => .amomaxnW (OpDABO.get (w.extractLsb' 0 32))
  | .amoswapD => .amoswapD (OpDABO.get (w.extractLsb' 0 32))
  | .amoaddD => .amoaddD (OpDABO.get (w.extractLsb' 0 32))
  | .amoandD => .amoandD (OpDABO.get (w.extractLsb' 0 32))
  | .amoorD => .amoorD (OpDABO.get (w.extractLsb' 0 32))
  | .amoxorD => .amoxorD (OpDABO.get (w.extractLsb' 0 32))
  | .amominD => .amominD (OpDABO.get (w.extractLsb' 0 32))
  | .amomaxD => .amomaxD (OpDABO.get (w.extractLsb' 0 32))
  | .amominnD => .amominnD (OpDABO.get (w.extractLsb' 0 32))
  | .amomaxnD => .amomaxnD (OpDABO.get (w.extractLsb' 0 32))
  | .cas => .cas (OpDABEWO.get (w.extractLsb' 0 32))
  | .fence => .fence (OpSK.get (w.extractLsb' 0 32))
  | .pause => .pause
  | .waitm => .waitm (OpDAB.get (w.extractLsb' 0 32))
  | .arrive => .arrive (OpDAB.get (w.extractLsb' 0 32))
  | .await => .await (OpDAB.get (w.extractLsb' 0 32))
  | .gbar => .gbar (OpD.get (w.extractLsb' 0 32))
  | .gbarRlx => .gbarRlx (OpD.get (w.extractLsb' 0 32))
  | .csrrw => .csrrw (OpDACsr.get (w.extractLsb' 0 32))
  | .csrrs => .csrrs (OpDACsr.get (w.extractLsb' 0 32))
  | .csrrc => .csrrc (OpDACsr.get (w.extractLsb' 0 32))
  | .csrrwi => .csrrwi (OpDUCsr.get (w.extractLsb' 0 32))
  | .csrrsi => .csrrsi (OpDUCsr.get (w.extractLsb' 0 32))
  | .csrrci => .csrrci (OpDUCsr.get (w.extractLsb' 0 32))
  | .trap => .trap (OpA.get (w.extractLsb' 0 32))
  | .trapBrk => .trapBrk
  | .tret => .tret
  | .halt => .halt
  | .wfe => .wfe
  | .tlbinv => .tlbinv (OpAB.get (w.extractLsb' 0 32))
  | .cflush => .cflush (OpAB.get (w.extractLsb' 0 32))
  | .cinval => .cinval (OpAB.get (w.extractLsb' 0 32))
  | .pin => .pin (OpDAB.get (w.extractLsb' 0 32))
  | .unpin => .unpin (OpDAB.get (w.extractLsb' 0 32))
  | .vqsave => .vqsave (OpA.get (w.extractLsb' 0 32))
  | .vqload => .vqload (OpA.get (w.extractLsb' 0 32))
  | .finval => .finval (OpA.get (w.extractLsb' 0 32))
  | .clz => .clz (OpDA.get (w.extractLsb' 0 32))
  | .ctz => .ctz (OpDA.get (w.extractLsb' 0 32))
  | .popc => .popc (OpDA.get (w.extractLsb' 0 32))
  | .bswap => .bswap (OpDA.get (w.extractLsb' 0 32))
  | .sextb => .sextb (OpDA.get (w.extractLsb' 0 32))
  | .sexth => .sexth (OpDA.get (w.extractLsb' 0 32))
  | .sextw => .sextw (OpDA.get (w.extractLsb' 0 32))
  | .zextb => .zextb (OpDA.get (w.extractLsb' 0 32))
  | .zexth => .zexth (OpDA.get (w.extractLsb' 0 32))
  | .zextw => .zextw (OpDA.get (w.extractLsb' 0 32))
  | .qpush => .qpush (OpDAB.get (w.extractLsb' 0 32))
  | .qpop => .qpop (OpDAB.get (w.extractLsb' 0 32))
  | .qpeek => .qpeek (OpDAB.get (w.extractLsb' 0 32))
  | .qwake => .qwake (OpDAB.get (w.extractLsb' 0 32))
  | .qseal => .qseal (OpDA.get (w.extractLsb' 0 32))
  | .qrevoke => .qrevoke (OpDAB.get (w.extractLsb' 0 32))
  | .qgrow => .qgrow (OpDAB.get (w.extractLsb' 0 32))
  | .cpy => .cpy (OpDAB.get (w.extractLsb' 0 32))
  | .cpybt => .cpybt (OpA.get (w.extractLsb' 0 32))
  | .cpywait => .cpywait
  | .nsub => .nsub (OpDAB.get (w.extractLsb' 0 32))
  | .cpyfill => .cpyfill (OpDAB.get (w.extractLsb' 0 32))
  | .fcvtI32F32 => .fcvtI32F32 (OpDAR.get (w.extractLsb' 0 32))
  | .fcvtN32F32 => .fcvtN32F32 (OpDAR.get (w.extractLsb' 0 32))
  | .fcvtI64F32 => .fcvtI64F32 (OpDAR.get (w.extractLsb' 0 32))
  | .fcvtN64F32 => .fcvtN64F32 (OpDAR.get (w.extractLsb' 0 32))
  | .fcvtF32I32 => .fcvtF32I32 (OpDAR.get (w.extractLsb' 0 32))
  | .fcvtF32N32 => .fcvtF32N32 (OpDAR.get (w.extractLsb' 0 32))
  | .fcvtF32I64 => .fcvtF32I64 (OpDAR.get (w.extractLsb' 0 32))
  | .fcvtF32N64 => .fcvtF32N64 (OpDAR.get (w.extractLsb' 0 32))
  | .fcvtI32F64 => .fcvtI32F64 (OpDAR.get (w.extractLsb' 0 32))
  | .fcvtN32F64 => .fcvtN32F64 (OpDAR.get (w.extractLsb' 0 32))
  | .fcvtI64F64 => .fcvtI64F64 (OpDAR.get (w.extractLsb' 0 32))
  | .fcvtN64F64 => .fcvtN64F64 (OpDAR.get (w.extractLsb' 0 32))
  | .fcvtF64I32 => .fcvtF64I32 (OpDAR.get (w.extractLsb' 0 32))
  | .fcvtF64N32 => .fcvtF64N32 (OpDAR.get (w.extractLsb' 0 32))
  | .fcvtF64I64 => .fcvtF64I64 (OpDAR.get (w.extractLsb' 0 32))
  | .fcvtF64N64 => .fcvtF64N64 (OpDAR.get (w.extractLsb' 0 32))
  | .fcvtF32F64 => .fcvtF32F64 (OpDAR.get (w.extractLsb' 0 32))
  | .fcvtF64F32 => .fcvtF64F32 (OpDAR.get (w.extractLsb' 0 32))
  | .vsetl => .vsetl (OpDAB.get (w.extractLsb' 0 32))
  | .vlease => .vlease (OpDAB.get (w.extractLsb' 0 32))
  | .vfork => .vfork (OpDA.get (w.extractLsb' 0 32))
  | .vjoin => .vjoin (OpDA.get (w.extractLsb' 0 32))
  | .vfetch => .vfetch (OpA.get (w.extractLsb' 0 32))
  | .vfetchw => .vfetchw (OpAK.get (w.extractLsb' 0 32))
  | .vloop => .vloop (OpAB.get (w.extractLsb' 0 32))
  | .vcommit => .vcommit
  | .endb => .endb
  | .mmode => .mmode (OpA.get (w.extractLsb' 0 32))
  | .mshape => .mshape (OpDA.get (w.extractLsb' 0 32))
  | .vaddVV => .vaddVV (OpDABCEK.get (w.extractLsb' 0 32))
  | .vaddVX => .vaddVX (OpDABCK.get (w.extractLsb' 0 32))
  | .vaddVI => .vaddVI (OpDAICK.get (w.extractLsb' 0 32))
  | .vsubVV => .vsubVV (OpDABCEK.get (w.extractLsb' 0 32))
  | .vsubVX => .vsubVX (OpDABCK.get (w.extractLsb' 0 32))
  | .vsubVI => .vsubVI (OpDAICK.get (w.extractLsb' 0 32))
  | .vrsubVV => .vrsubVV (OpDABCEK.get (w.extractLsb' 0 32))
  | .vrsubVX => .vrsubVX (OpDABCK.get (w.extractLsb' 0 32))
  | .vrsubVI => .vrsubVI (OpDAICK.get (w.extractLsb' 0 32))
  | .vmulVV => .vmulVV (OpDABCEK.get (w.extractLsb' 0 32))
  | .vmulVX => .vmulVX (OpDABCK.get (w.extractLsb' 0 32))
  | .vmulVI => .vmulVI (OpDAICK.get (w.extractLsb' 0 32))
  | .vmulhVV => .vmulhVV (OpDABCEK.get (w.extractLsb' 0 32))
  | .vmulhVX => .vmulhVX (OpDABCK.get (w.extractLsb' 0 32))
  | .vmulhVI => .vmulhVI (OpDAICK.get (w.extractLsb' 0 32))
  | .vmulhnVV => .vmulhnVV (OpDABCEK.get (w.extractLsb' 0 32))
  | .vmulhnVX => .vmulhnVX (OpDABCK.get (w.extractLsb' 0 32))
  | .vmulhnVI => .vmulhnVI (OpDAICK.get (w.extractLsb' 0 32))
  | .vandVV => .vandVV (OpDABCEK.get (w.extractLsb' 0 32))
  | .vandVX => .vandVX (OpDABCK.get (w.extractLsb' 0 32))
  | .vandVI => .vandVI (OpDAICK.get (w.extractLsb' 0 32))
  | .vorVV => .vorVV (OpDABCEK.get (w.extractLsb' 0 32))
  | .vorVX => .vorVX (OpDABCK.get (w.extractLsb' 0 32))
  | .vorVI => .vorVI (OpDAICK.get (w.extractLsb' 0 32))
  | .vxorVV => .vxorVV (OpDABCEK.get (w.extractLsb' 0 32))
  | .vxorVX => .vxorVX (OpDABCK.get (w.extractLsb' 0 32))
  | .vxorVI => .vxorVI (OpDAICK.get (w.extractLsb' 0 32))
  | .vsllVV => .vsllVV (OpDABCEK.get (w.extractLsb' 0 32))
  | .vsllVX => .vsllVX (OpDABCK.get (w.extractLsb' 0 32))
  | .vsllVI => .vsllVI (OpDAICK.get (w.extractLsb' 0 32))
  | .vsrlVV => .vsrlVV (OpDABCEK.get (w.extractLsb' 0 32))
  | .vsrlVX => .vsrlVX (OpDABCK.get (w.extractLsb' 0 32))
  | .vsrlVI => .vsrlVI (OpDAICK.get (w.extractLsb' 0 32))
  | .vsraVV => .vsraVV (OpDABCEK.get (w.extractLsb' 0 32))
  | .vsraVX => .vsraVX (OpDABCK.get (w.extractLsb' 0 32))
  | .vsraVI => .vsraVI (OpDAICK.get (w.extractLsb' 0 32))
  | .vminVV => .vminVV (OpDABCEK.get (w.extractLsb' 0 32))
  | .vminVX => .vminVX (OpDABCK.get (w.extractLsb' 0 32))
  | .vminVI => .vminVI (OpDAICK.get (w.extractLsb' 0 32))
  | .vmaxVV => .vmaxVV (OpDABCEK.get (w.extractLsb' 0 32))
  | .vmaxVX => .vmaxVX (OpDABCK.get (w.extractLsb' 0 32))
  | .vmaxVI => .vmaxVI (OpDAICK.get (w.extractLsb' 0 32))
  | .vminnVV => .vminnVV (OpDABCEK.get (w.extractLsb' 0 32))
  | .vminnVX => .vminnVX (OpDABCK.get (w.extractLsb' 0 32))
  | .vminnVI => .vminnVI (OpDAICK.get (w.extractLsb' 0 32))
  | .vmaxnVV => .vmaxnVV (OpDABCEK.get (w.extractLsb' 0 32))
  | .vmaxnVX => .vmaxnVX (OpDABCK.get (w.extractLsb' 0 32))
  | .vmaxnVI => .vmaxnVI (OpDAICK.get (w.extractLsb' 0 32))
  | .vsaddVV => .vsaddVV (OpDABCEK.get (w.extractLsb' 0 32))
  | .vsaddVX => .vsaddVX (OpDABCK.get (w.extractLsb' 0 32))
  | .vssubVV => .vssubVV (OpDABCEK.get (w.extractLsb' 0 32))
  | .vssubVX => .vssubVX (OpDABCK.get (w.extractLsb' 0 32))
  | .vsaddnVV => .vsaddnVV (OpDABCEK.get (w.extractLsb' 0 32))
  | .vsaddnVX => .vsaddnVX (OpDABCK.get (w.extractLsb' 0 32))
  | .vssubnVV => .vssubnVV (OpDABCEK.get (w.extractLsb' 0 32))
  | .vssubnVX => .vssubnVX (OpDABCK.get (w.extractLsb' 0 32))
  | .vdivVV => .vdivVV (OpDABCEK.get (w.extractLsb' 0 32))
  | .vdivVX => .vdivVX (OpDABCK.get (w.extractLsb' 0 32))
  | .vdivnVV => .vdivnVV (OpDABCEK.get (w.extractLsb' 0 32))
  | .vdivnVX => .vdivnVX (OpDABCK.get (w.extractLsb' 0 32))
  | .vremVV => .vremVV (OpDABCEK.get (w.extractLsb' 0 32))
  | .vremVX => .vremVX (OpDABCK.get (w.extractLsb' 0 32))
  | .vremnVV => .vremnVV (OpDABCEK.get (w.extractLsb' 0 32))
  | .vremnVX => .vremnVX (OpDABCK.get (w.extractLsb' 0 32))
  | .vmaccVV => .vmaccVV (OpDABCEK.get (w.extractLsb' 0 32))
  | .vmaccVX => .vmaccVX (OpDABCK.get (w.extractLsb' 0 32))
  | .vnmsacVV => .vnmsacVV (OpDABCEK.get (w.extractLsb' 0 32))
  | .vnmsacVX => .vnmsacVX (OpDABCK.get (w.extractLsb' 0 32))
  | .vavgVV => .vavgVV (OpDABCEK.get (w.extractLsb' 0 32))
  | .vavgVX => .vavgVX (OpDABCK.get (w.extractLsb' 0 32))
  | .vavgnVV => .vavgnVV (OpDABCEK.get (w.extractLsb' 0 32))
  | .vavgnVX => .vavgnVX (OpDABCK.get (w.extractLsb' 0 32))
  | .vabs => .vabs (OpDBEK.get (w.extractLsb' 0 32))
  | .vneg => .vneg (OpDBEK.get (w.extractLsb' 0 32))
  | .vpopc => .vpopc (OpDBEK.get (w.extractLsb' 0 32))
  | .vclz => .vclz (OpDBEK.get (w.extractLsb' 0 32))
  | .vwaddVV => .vwaddVV (OpDABCEK.get (w.extractLsb' 0 32))
  | .vwaddVX => .vwaddVX (OpDABCK.get (w.extractLsb' 0 32))
  | .vwaddnVV => .vwaddnVV (OpDABCEK.get (w.extractLsb' 0 32))
  | .vwaddnVX => .vwaddnVX (OpDABCK.get (w.extractLsb' 0 32))
  | .vwsubVV => .vwsubVV (OpDABCEK.get (w.extractLsb' 0 32))
  | .vwsubVX => .vwsubVX (OpDABCK.get (w.extractLsb' 0 32))
  | .vwsubnVV => .vwsubnVV (OpDABCEK.get (w.extractLsb' 0 32))
  | .vwsubnVX => .vwsubnVX (OpDABCK.get (w.extractLsb' 0 32))
  | .vwmulVV => .vwmulVV (OpDABCEK.get (w.extractLsb' 0 32))
  | .vwmulVX => .vwmulVX (OpDABCK.get (w.extractLsb' 0 32))
  | .vwmulnVV => .vwmulnVV (OpDABCEK.get (w.extractLsb' 0 32))
  | .vwmulnVX => .vwmulnVX (OpDABCK.get (w.extractLsb' 0 32))
  | .vwmaccVV => .vwmaccVV (OpDABCEK.get (w.extractLsb' 0 32))
  | .vwmaccVX => .vwmaccVX (OpDABCK.get (w.extractLsb' 0 32))
  | .vwmaccnVV => .vwmaccnVV (OpDABCEK.get (w.extractLsb' 0 32))
  | .vwmaccnVX => .vwmaccnVX (OpDABCK.get (w.extractLsb' 0 32))
  | .vnsrlVV => .vnsrlVV (OpDABCEK.get (w.extractLsb' 0 32))
  | .vnsrlVX => .vnsrlVX (OpDABCK.get (w.extractLsb' 0 32))
  | .vnsraVV => .vnsraVV (OpDABCEK.get (w.extractLsb' 0 32))
  | .vnsraVX => .vnsraVX (OpDABCK.get (w.extractLsb' 0 32))
  | .vnclipVV => .vnclipVV (OpDABCEK.get (w.extractLsb' 0 32))
  | .vnclipVX => .vnclipVX (OpDABCK.get (w.extractLsb' 0 32))
  | .vnclipnVV => .vnclipnVV (OpDABCEK.get (w.extractLsb' 0 32))
  | .vnclipnVX => .vnclipnVX (OpDABCK.get (w.extractLsb' 0 32))
  | .vfaddVV => .vfaddVV (OpDABCEK.get (w.extractLsb' 0 32))
  | .vfaddVX => .vfaddVX (OpDABCK.get (w.extractLsb' 0 32))
  | .vfsubVV => .vfsubVV (OpDABCEK.get (w.extractLsb' 0 32))
  | .vfsubVX => .vfsubVX (OpDABCK.get (w.extractLsb' 0 32))
  | .vfrsubVV => .vfrsubVV (OpDABCEK.get (w.extractLsb' 0 32))
  | .vfrsubVX => .vfrsubVX (OpDABCK.get (w.extractLsb' 0 32))
  | .vfmulVV => .vfmulVV (OpDABCEK.get (w.extractLsb' 0 32))
  | .vfmulVX => .vfmulVX (OpDABCK.get (w.extractLsb' 0 32))
  | .vfdivVV => .vfdivVV (OpDABCEK.get (w.extractLsb' 0 32))
  | .vfdivVX => .vfdivVX (OpDABCK.get (w.extractLsb' 0 32))
  | .vfrdivVV => .vfrdivVV (OpDABCEK.get (w.extractLsb' 0 32))
  | .vfrdivVX => .vfrdivVX (OpDABCK.get (w.extractLsb' 0 32))
  | .vfminVV => .vfminVV (OpDABCEK.get (w.extractLsb' 0 32))
  | .vfminVX => .vfminVX (OpDABCK.get (w.extractLsb' 0 32))
  | .vfmaxVV => .vfmaxVV (OpDABCEK.get (w.extractLsb' 0 32))
  | .vfmaxVX => .vfmaxVX (OpDABCK.get (w.extractLsb' 0 32))
  | .vfsgnjVV => .vfsgnjVV (OpDABCEK.get (w.extractLsb' 0 32))
  | .vfsgnjVX => .vfsgnjVX (OpDABCK.get (w.extractLsb' 0 32))
  | .vfsgnjnVV => .vfsgnjnVV (OpDABCEK.get (w.extractLsb' 0 32))
  | .vfsgnjnVX => .vfsgnjnVX (OpDABCK.get (w.extractLsb' 0 32))
  | .vfsgnjxVV => .vfsgnjxVV (OpDABCEK.get (w.extractLsb' 0 32))
  | .vfsgnjxVX => .vfsgnjxVX (OpDABCK.get (w.extractLsb' 0 32))
  | .vfmaVV => .vfmaVV (OpDABCEK.get (w.extractLsb' 0 32))
  | .vfmaVX => .vfmaVX (OpDABCK.get (w.extractLsb' 0 32))
  | .vfmsVV => .vfmsVV (OpDABCEK.get (w.extractLsb' 0 32))
  | .vfmsVX => .vfmsVX (OpDABCK.get (w.extractLsb' 0 32))
  | .vfnmaVV => .vfnmaVV (OpDABCEK.get (w.extractLsb' 0 32))
  | .vfnmaVX => .vfnmaVX (OpDABCK.get (w.extractLsb' 0 32))
  | .vfnmsVV => .vfnmsVV (OpDABCEK.get (w.extractLsb' 0 32))
  | .vfnmsVX => .vfnmsVX (OpDABCK.get (w.extractLsb' 0 32))
  | .vfsqrt => .vfsqrt (OpDBEKR.get (w.extractLsb' 0 32))
  | .vfrcp => .vfrcp (OpDBEKR.get (w.extractLsb' 0 32))
  | .vfrsq => .vfrsq (OpDBEKR.get (w.extractLsb' 0 32))
  | .vfexp2 => .vfexp2 (OpDBEKR.get (w.extractLsb' 0 32))
  | .vflog2 => .vflog2 (OpDBEKR.get (w.extractLsb' 0 32))
  | .vfsinp => .vfsinp (OpDBEKR.get (w.extractLsb' 0 32))
  | .vfcosp => .vfcosp (OpDBEKR.get (w.extractLsb' 0 32))
  | .vftanh => .vftanh (OpDBEKR.get (w.extractLsb' 0 32))
  | .vfabs => .vfabs (OpDBEKR.get (w.extractLsb' 0 32))
  | .vfneg => .vfneg (OpDBEKR.get (w.extractLsb' 0 32))
  | .vfclass => .vfclass (OpDBEKR.get (w.extractLsb' 0 32))
  | .vffloor => .vffloor (OpDBEKR.get (w.extractLsb' 0 32))
  | .vfceil => .vfceil (OpDBEKR.get (w.extractLsb' 0 32))
  | .vfround => .vfround (OpDBEKR.get (w.extractLsb' 0 32))
  | .vcvtI32F32 => .vcvtI32F32 (OpDBEKSR.get (w.extractLsb' 0 32))
  | .vcvtN32F32 => .vcvtN32F32 (OpDBEKSR.get (w.extractLsb' 0 32))
  | .vcvtF32I32 => .vcvtF32I32 (OpDBEKSR.get (w.extractLsb' 0 32))
  | .vcvtF32N32 => .vcvtF32N32 (OpDBEKSR.get (w.extractLsb' 0 32))
  | .vcvtI64F64 => .vcvtI64F64 (OpDBEKSR.get (w.extractLsb' 0 32))
  | .vcvtN64F64 => .vcvtN64F64 (OpDBEKSR.get (w.extractLsb' 0 32))
  | .vcvtF64I64 => .vcvtF64I64 (OpDBEKSR.get (w.extractLsb' 0 32))
  | .vcvtF64N64 => .vcvtF64N64 (OpDBEKSR.get (w.extractLsb' 0 32))
  | .vcvtF64F32 => .vcvtF64F32 (OpDBEKSR.get (w.extractLsb' 0 32))
  | .vcvtF32F64 => .vcvtF32F64 (OpDBEKSR.get (w.extractLsb' 0 32))
  | .vcvtHF32 => .vcvtHF32 (OpDBEKSR.get (w.extractLsb' 0 32))
  | .vcvtBfF32 => .vcvtBfF32 (OpDBEKSR.get (w.extractLsb' 0 32))
  | .vcvtF32H => .vcvtF32H (OpDBEKSR.get (w.extractLsb' 0 32))
  | .vcvtF32Bf => .vcvtF32Bf (OpDBEKSR.get (w.extractLsb' 0 32))
  | .vcvtB8F32 => .vcvtB8F32 (OpDBEKSR.get (w.extractLsb' 0 32))
  | .vcvtF32B8 => .vcvtF32B8 (OpDBEKSR.get (w.extractLsb' 0 32))
  | .vcvtB8H => .vcvtB8H (OpDBEKSR.get (w.extractLsb' 0 32))
  | .vcvtHB8 => .vcvtHB8 (OpDBEKSR.get (w.extractLsb' 0 32))
  | .vcvtB8Bf => .vcvtB8Bf (OpDBEKSR.get (w.extractLsb' 0 32))
  | .vcvtBfB8 => .vcvtBfB8 (OpDBEKSR.get (w.extractLsb' 0 32))
  | .vcvtE4F32 => .vcvtE4F32 (OpDBEKSR.get (w.extractLsb' 0 32))
  | .vcvtF32E4 => .vcvtF32E4 (OpDBEKSR.get (w.extractLsb' 0 32))
  | .vcvtHE4 => .vcvtHE4 (OpDBEKSR.get (w.extractLsb' 0 32))
  | .vcvtQ4F32 => .vcvtQ4F32 (OpDBEKSR.get (w.extractLsb' 0 32))
  | .vcvtF32Q4 => .vcvtF32Q4 (OpDBEKSR.get (w.extractLsb' 0 32))
  | .vcvtHQ4 => .vcvtHQ4 (OpDBEKSR.get (w.extractLsb' 0 32))
  | .vcmpEqVV => .vcmpEqVV (OpD3ABCEK.get (w.extractLsb' 0 32))
  | .vcmpEqVX => .vcmpEqVX (OpD3ABCK.get (w.extractLsb' 0 32))
  | .vcmpNeVV => .vcmpNeVV (OpD3ABCEK.get (w.extractLsb' 0 32))
  | .vcmpNeVX => .vcmpNeVX (OpD3ABCK.get (w.extractLsb' 0 32))
  | .vcmpLtVV => .vcmpLtVV (OpD3ABCEK.get (w.extractLsb' 0 32))
  | .vcmpLtVX => .vcmpLtVX (OpD3ABCK.get (w.extractLsb' 0 32))
  | .vcmpLeVV => .vcmpLeVV (OpD3ABCEK.get (w.extractLsb' 0 32))
  | .vcmpLeVX => .vcmpLeVX (OpD3ABCK.get (w.extractLsb' 0 32))
  | .vcmpLtnVV => .vcmpLtnVV (OpD3ABCEK.get (w.extractLsb' 0 32))
  | .vcmpLtnVX => .vcmpLtnVX (OpD3ABCK.get (w.extractLsb' 0 32))
  | .vcmpLenVV => .vcmpLenVV (OpD3ABCEK.get (w.extractLsb' 0 32))
  | .vcmpLenVX => .vcmpLenVX (OpD3ABCK.get (w.extractLsb' 0 32))
  | .vcmpGtVV => .vcmpGtVV (OpD3ABCEK.get (w.extractLsb' 0 32))
  | .vcmpGtVX => .vcmpGtVX (OpD3ABCK.get (w.extractLsb' 0 32))
  | .vcmpGeVV => .vcmpGeVV (OpD3ABCEK.get (w.extractLsb' 0 32))
  | .vcmpGeVX => .vcmpGeVX (OpD3ABCK.get (w.extractLsb' 0 32))
  | .vcmpFeqVV => .vcmpFeqVV (OpD3ABCEK.get (w.extractLsb' 0 32))
  | .vcmpFeqVX => .vcmpFeqVX (OpD3ABCK.get (w.extractLsb' 0 32))
  | .vcmpFneVV => .vcmpFneVV (OpD3ABCEK.get (w.extractLsb' 0 32))
  | .vcmpFneVX => .vcmpFneVX (OpD3ABCK.get (w.extractLsb' 0 32))
  | .vcmpFltVV => .vcmpFltVV (OpD3ABCEK.get (w.extractLsb' 0 32))
  | .vcmpFltVX => .vcmpFltVX (OpD3ABCK.get (w.extractLsb' 0 32))
  | .vcmpFleVV => .vcmpFleVV (OpD3ABCEK.get (w.extractLsb' 0 32))
  | .vcmpFleVX => .vcmpFleVX (OpD3ABCK.get (w.extractLsb' 0 32))
  | .vcmpFgtVV => .vcmpFgtVV (OpD3ABCEK.get (w.extractLsb' 0 32))
  | .vcmpFgtVX => .vcmpFgtVX (OpD3ABCK.get (w.extractLsb' 0 32))
  | .vcmpFgeVV => .vcmpFgeVV (OpD3ABCEK.get (w.extractLsb' 0 32))
  | .vcmpFgeVX => .vcmpFgeVX (OpD3ABCK.get (w.extractLsb' 0 32))
  | .vcmpFunordVV => .vcmpFunordVV (OpD3ABCEK.get (w.extractLsb' 0 32))
  | .vcmpFunordVX => .vcmpFunordVX (OpD3ABCK.get (w.extractLsb' 0 32))
  | .vcmpFordVV => .vcmpFordVV (OpD3ABCEK.get (w.extractLsb' 0 32))
  | .vcmpFordVX => .vcmpFordVX (OpD3ABCK.get (w.extractLsb' 0 32))
  | .kand => .kand (OpD3A3B3CEK.get (w.extractLsb' 0 32))
  | .kor => .kor (OpD3A3B3CEK.get (w.extractLsb' 0 32))
  | .kxor => .kxor (OpD3A3B3CEK.get (w.extractLsb' 0 32))
  | .kandn => .kandn (OpD3A3B3CEK.get (w.extractLsb' 0 32))
  | .knot => .knot (OpD3B3EK.get (w.extractLsb' 0 32))
  | .kmov => .kmov (OpD3B3EK.get (w.extractLsb' 0 32))
  | .kpop => .kpop (OpDB3EK.get (w.extractLsb' 0 32))
  | .kfirst => .kfirst (OpDB3EK.get (w.extractLsb' 0 32))
  | .kiota => .kiota (OpDB3EK.get (w.extractLsb' 0 32))
  | .vmerge => .vmerge (OpDABCEK.get (w.extractLsb' 0 32))
  | .vcompress => .vcompress (OpDBEK.get (w.extractLsb' 0 32))
  | .vexpand => .vexpand (OpDBEK.get (w.extractLsb' 0 32))
  | .ksetx => .ksetx (OpD3ABK.get (w.extractLsb' 0 32))
  | .vslideup => .vslideup (OpDABCK.get (w.extractLsb' 0 32))
  | .vslidedn => .vslidedn (OpDABCK.get (w.extractLsb' 0 32))
  | .vpermv => .vpermv (OpDABCEK.get (w.extractLsb' 0 32))
  | .vbcast => .vbcast (OpDABCK.get (w.extractLsb' 0 32))
  | .vextract => .vextract (OpDABC.get (w.extractLsb' 0 32))
  | .vinsert => .vinsert (OpDAB.get (w.extractLsb' 0 32))
  | .vilv => .vilv (OpDABCEK.get (w.extractLsb' 0 32))
  | .vdilv => .vdilv (OpDACK.get (w.extractLsb' 0 32))
  | .vid => .vid (OpDK.get (w.extractLsb' 0 32))
  | .vrand => .vrand (OpDAK.get (w.extractLsb' 0 32))
  | .vmvV => .vmvV (OpDBEK.get (w.extractLsb' 0 32))
  | .vmvX => .vmvX (OpDBK.get (w.extractLsb' 0 32))
  | .vredsum => .vredsum (OpDABCEK.get (w.extractLsb' 0 32))
  | .vredmin => .vredmin (OpDABCEK.get (w.extractLsb' 0 32))
  | .vredmax => .vredmax (OpDABCEK.get (w.extractLsb' 0 32))
  | .vredminn => .vredminn (OpDABCEK.get (w.extractLsb' 0 32))
  | .vredmaxn => .vredmaxn (OpDABCEK.get (w.extractLsb' 0 32))
  | .vredand => .vredand (OpDABCEK.get (w.extractLsb' 0 32))
  | .vredor => .vredor (OpDABCEK.get (w.extractLsb' 0 32))
  | .vredxor => .vredxor (OpDABCEK.get (w.extractLsb' 0 32))
  | .vfsum => .vfsum (OpDABCEK.get (w.extractLsb' 0 32))
  | .vfsumo => .vfsumo (OpDABCEK.get (w.extractLsb' 0 32))
  | .vfredmin => .vfredmin (OpDABCEK.get (w.extractLsb' 0 32))
  | .vfredmax => .vfredmax (OpDABCEK.get (w.extractLsb' 0 32))
  | .vwsum => .vwsum (OpDABCEK.get (w.extractLsb' 0 32))
  | .vbshl => .vbshl (OpDABCK.get (w.extractLsb' 0 32))
  | .vbshr => .vbshr (OpDABCK.get (w.extractLsb' 0 32))
  | .vbfun => .vbfun (OpDABCK.get (w.extractLsb' 0 32))
  | .vternlog => .vternlog (OpDABI.get (w.extractLsb' 0 32))
  | .vld => .vld (OpDAOK.get (w.extractLsb' 0 32))
  | .vldReg => .vldReg (OpDA.get (w.extractLsb' 0 32))
  | .vlds => .vlds (OpDABOK.get (w.extractLsb' 0 32))
  | .vldx => .vldx (OpDABCOK.get (w.extractLsb' 0 32))
  | .vst => .vst (OpDACOK.get (w.extractLsb' 0 32))
  | .vstReg => .vstReg (OpDAC.get (w.extractLsb' 0 32))
  | .vsts => .vsts (OpDABCOK.get (w.extractLsb' 0 32))
  | .vstx => .vstx (OpDABCOK.get (w.extractLsb' 0 32))
  | .vgll => .vgll (OpDABCK.get (w.extractLsb' 0 32))
  | .vscc => .vscc (OpDABCK.get (w.extractLsb' 0 32))
  | .vacc => .vacc (OpDABCK.get (w.extractLsb' 0 32))
  | .vldwE4H => .vldwE4H (OpDABK.get (w.extractLsb' 0 32))
  | .vldwE4Bf => .vldwE4Bf (OpDABK.get (w.extractLsb' 0 32))
  | .vldwE4B8 => .vldwE4B8 (OpDABK.get (w.extractLsb' 0 32))
  | .vldwQ4H => .vldwQ4H (OpDABK.get (w.extractLsb' 0 32))
  | .vldwQ4Bf => .vldwQ4Bf (OpDABK.get (w.extractLsb' 0 32))
  | .vldwQ4B8 => .vldwQ4B8 (OpDABK.get (w.extractLsb' 0 32))
  | .gsub => .gsub (OpDABCEK.get (w.extractLsb' 0 32))
  | .gadd => .gadd (OpDABCEK.get (w.extractLsb' 0 32))
  | .glen => .glen (OpDBEK.get (w.extractLsb' 0 32))
  | .gtag => .gtag (OpDBEK.get (w.extractLsb' 0 32))
  | .gpack => .gpack (OpDABCEK.get (w.extractLsb' 0 32))
  | .gunpack => .gunpack (OpDBEK.get (w.extractLsb' 0 32))
  | .grehome => .grehome (OpDBEK.get (w.extractLsb' 0 32))
  | .gdot => .gdot (OpDABCEK.get (w.extractLsb' 0 32))
  | .gcvt => .gcvt (OpDABCK.get (w.extractLsb' 0 32))
  | .gscl => .gscl (OpDABCK.get (w.extractLsb' 0 32))
  | .gsettag => .gsettag (OpDABCK.get (w.extractLsb' 0 32))
  | .gmorton => .gmorton (OpDABCK.get (w.extractLsb' 0 32))
  | .gnbr => .gnbr (OpDABCK.get (w.extractLsb' 0 32))
  | .vcellins => .vcellins (OpDABEK.get (w.extractLsb' 0 32))
  | .vcellfind => .vcellfind (OpDABEK.get (w.extractLsb' 0 32))
  | .recur => .recur (OpDAB.get (w.extractLsb' 0 32))
  | .rspawn => .rspawn (OpACK.get (w.extractLsb' 0 32))
  | .rret => .rret (OpACK.get (w.extractLsb' 0 32))
  | .rkids => .rkids (OpDBK.get (w.extractLsb' 0 32))
  | .rdepth => .rdepth (OpDK.get (w.extractLsb' 0 32))
  | .rnkid => .rnkid (OpDK.get (w.extractLsb' 0 32))
  | .mzero => .mzero (OpD.get (w.extractLsb' 0 32))
  | .mrowv => .mrowv (OpDABK.get (w.extractLsb' 0 32))
  | .mvrow => .mvrow (OpDABCK.get (w.extractLsb' 0 32))
  | .mcolv => .mcolv (OpDABK.get (w.extractLsb' 0 32))
  | .mvcol => .mvcol (OpDABCK.get (w.extractLsb' 0 32))
  | .mdrain => .mdrain (OpDAB.get (w.extractLsb' 0 32))
  | .mload => .mload (OpDAB.get (w.extractLsb' 0 32))
  | .amerge => .amerge (OpAB.get (w.extractLsb' 0 32))
  | .sacc => .sacc (OpAB.get (w.extractLsb' 0 32))
  | .opacc => .opacc (OpTile.get w)
  | .opsub => .opsub (OpTile.get w)
  | .opaccw => .opaccw (OpTile.get w)
  | .cAddi => .cAddi (OpCDI.get (w.extractLsb' 0 16))
  | .cMv => .cMv (OpCDS.get (w.extractLsb' 0 16))
  | .cAdd => .cAdd (OpCDS.get (w.extractLsb' 0 16))
  | .cSub => .cSub (OpCDS.get (w.extractLsb' 0 16))
  | .cLd => .cLd (OpCDAO.get (w.extractLsb' 0 16))
  | .cSd => .cSd (OpCSAO.get (w.extractLsb' 0 16))
  | .cLw => .cLw (OpCDAO.get (w.extractLsb' 0 16))
  | .cSw => .cSw (OpCSAO.get (w.extractLsb' 0 16))
  | .cJ => .cJ (OpCO.get (w.extractLsb' 0 16))
  | .cBeqz => .cBeqz (OpCSO.get (w.extractLsb' 0 16))
  | .cBnez => .cBnez (OpCSO.get (w.extractLsb' 0 16))
  | .cVfetch => .cVfetch (OpCA.get (w.extractLsb' 0 16))

/-- The instruction in the low bits of `w`, or the cause that its bits raise (R66, R75 rows 1 to 4). -/
noncomputable def decode (w : BitVec 64) : Decoded :=
  match decodeRow w with
  | .ok r => .ok (r.instr w)
  | .error e => .error e

/-- The little-endian value of bytes, the first the lowest (R4). -/
def leBytes : List Byte → Nat
  | [] => 0
  | b :: bs => b.toNat + 256 * leBytes bs

/-- The first `n` bytes of the little-endian value `v`. -/
def bytesLe : Nat → Nat → List Byte
  | 0, _ => []
  | n + 1, v => BitVec.ofNat 8 v :: bytesLe n (v / 256)

/-- The instruction at the head of a list of bytes and the bytes after it; `none` where the list is too short. -/
noncomputable def decodeBytes (bs : List Byte) : Option (Decoded × List Byte) :=
  match bs with
  | b0 :: b1 :: _ =>
    let len := lengthOf (b1 ++ b0)
    if bs.length < len then none
    else some (decode (BitVec.ofNat 64 (leBytes (bs.take len))), bs.drop len)
  | _ => none

/-- The instruction whose bits are `w`, numbered as the opcode table numbers them; the words are laid out little-endian
(R4, R66) and given to the decoder. Bits at and above `nbits` are zero. -/
noncomputable def decodeTableWord (nbits w : Nat) : Option Instr :=
  match decodeBytes (bytesLe 8 (w % 2 ^ nbits)) with
  | some (.ok i, _) => some i
  | _ => none

/-! ## Encoding -/

/-! The bits of each instruction: its fields between the fixed bits of its row. -/

/-- `ADD`. -/
def wordAdd (o : OpDAB) : BitVec 64 := (o.pack 1#8 0#9).setWidth 64
/-- `SUB`. -/
def wordSub (o : OpDAB) : BitVec 64 := (o.pack 1#8 1#9).setWidth 64
/-- `AND`. -/
def wordAnd (o : OpDAB) : BitVec 64 := (o.pack 1#8 2#9).setWidth 64
/-- `OR`. -/
def wordOr (o : OpDAB) : BitVec 64 := (o.pack 1#8 3#9).setWidth 64
/-- `XOR`. -/
def wordXor (o : OpDAB) : BitVec 64 := (o.pack 1#8 4#9).setWidth 64
/-- `SLL`. -/
def wordSll (o : OpDAB) : BitVec 64 := (o.pack 1#8 5#9).setWidth 64
/-- `SRL`. -/
def wordSrl (o : OpDAB) : BitVec 64 := (o.pack 1#8 6#9).setWidth 64
/-- `SRA`. -/
def wordSra (o : OpDAB) : BitVec 64 := (o.pack 1#8 7#9).setWidth 64
/-- `SLT`. -/
def wordSlt (o : OpDAB) : BitVec 64 := (o.pack 1#8 8#9).setWidth 64
/-- `SLTN`. -/
def wordSltn (o : OpDAB) : BitVec 64 := (o.pack 1#8 9#9).setWidth 64
/-- `MIN`. -/
def wordMin (o : OpDAB) : BitVec 64 := (o.pack 1#8 10#9).setWidth 64
/-- `MAX`. -/
def wordMax (o : OpDAB) : BitVec 64 := (o.pack 1#8 11#9).setWidth 64
/-- `MINN`. -/
def wordMinn (o : OpDAB) : BitVec 64 := (o.pack 1#8 12#9).setWidth 64
/-- `MAXN`. -/
def wordMaxn (o : OpDAB) : BitVec 64 := (o.pack 1#8 13#9).setWidth 64
/-- `ANDN`. -/
def wordAndn (o : OpDAB) : BitVec 64 := (o.pack 1#8 14#9).setWidth 64
/-- `ORN`. -/
def wordOrn (o : OpDAB) : BitVec 64 := (o.pack 1#8 15#9).setWidth 64
/-- `ROL`. -/
def wordRol (o : OpDAB) : BitVec 64 := (o.pack 1#8 16#9).setWidth 64
/-- `ROR`. -/
def wordRor (o : OpDAB) : BitVec 64 := (o.pack 1#8 17#9).setWidth 64
/-- `ADDW`. -/
def wordAddw (o : OpDAB) : BitVec 64 := (o.pack 1#8 18#9).setWidth 64
/-- `SUBW`. -/
def wordSubw (o : OpDAB) : BitVec 64 := (o.pack 1#8 19#9).setWidth 64
/-- `MUL`. -/
def wordMul (o : OpDAB) : BitVec 64 := (o.pack 5#8 0#9).setWidth 64
/-- `MULH`. -/
def wordMulh (o : OpDAB) : BitVec 64 := (o.pack 5#8 1#9).setWidth 64
/-- `MULHN`. -/
def wordMulhn (o : OpDAB) : BitVec 64 := (o.pack 5#8 2#9).setWidth 64
/-- `MULHSN`. -/
def wordMulhsn (o : OpDAB) : BitVec 64 := (o.pack 5#8 3#9).setWidth 64
/-- `DIV`. -/
def wordDiv (o : OpDAB) : BitVec 64 := (o.pack 5#8 4#9).setWidth 64
/-- `DIVN`. -/
def wordDivn (o : OpDAB) : BitVec 64 := (o.pack 5#8 5#9).setWidth 64
/-- `REM`. -/
def wordRem (o : OpDAB) : BitVec 64 := (o.pack 5#8 6#9).setWidth 64
/-- `REMN`. -/
def wordRemn (o : OpDAB) : BitVec 64 := (o.pack 5#8 7#9).setWidth 64
/-- `FADD`. -/
def wordFadd (o : OpDABFR) : BitVec 64 := (o.pack 9#8 0#5).setWidth 64
/-- `FSUB`. -/
def wordFsub (o : OpDABFR) : BitVec 64 := (o.pack 9#8 1#5).setWidth 64
/-- `FMUL`. -/
def wordFmul (o : OpDABFR) : BitVec 64 := (o.pack 9#8 2#5).setWidth 64
/-- `FDIV`. -/
def wordFdiv (o : OpDABFR) : BitVec 64 := (o.pack 9#8 3#5).setWidth 64
/-- `FSQRT`. -/
def wordFsqrt (o : OpDAFR) : BitVec 64 := (o.pack 9#8 128#10).setWidth 64
/-- `FMIN`. -/
def wordFmin (o : OpDABF) : BitVec 64 := (o.pack 9#8 5#5 0#3).setWidth 64
/-- `FMAX`. -/
def wordFmax (o : OpDABF) : BitVec 64 := (o.pack 9#8 6#5 0#3).setWidth 64
/-- `FSGNJ`. -/
def wordFsgnj (o : OpDABF) : BitVec 64 := (o.pack 9#8 7#5 0#3).setWidth 64
/-- `FSGNJN`. -/
def wordFsgnjn (o : OpDABF) : BitVec 64 := (o.pack 9#8 8#5 0#3).setWidth 64
/-- `FSGNJX`. -/
def wordFsgnjx (o : OpDABF) : BitVec 64 := (o.pack 9#8 9#5 0#3).setWidth 64
/-- `FEQ`. -/
def wordFeq (o : OpDABF) : BitVec 64 := (o.pack 9#8 10#5 0#3).setWidth 64
/-- `FLT`. -/
def wordFlt (o : OpDABF) : BitVec 64 := (o.pack 9#8 11#5 0#3).setWidth 64
/-- `FLE`. -/
def wordFle (o : OpDABF) : BitVec 64 := (o.pack 9#8 12#5 0#3).setWidth 64
/-- `FCLASS`. -/
def wordFclass (o : OpDAF) : BitVec 64 := (o.pack 9#8 416#10 0#3).setWidth 64
/-- `FMA`. -/
def wordFma (o : OpDABEF) : BitVec 64 := (o.pack 13#8 0#2 0#1).setWidth 64
/-- `FMS`. -/
def wordFms (o : OpDABEF) : BitVec 64 := (o.pack 13#8 1#2 0#1).setWidth 64
/-- `FNMA`. -/
def wordFnma (o : OpDABEF) : BitVec 64 := (o.pack 13#8 2#2 0#1).setWidth 64
/-- `FNMS`. -/
def wordFnms (o : OpDABEF) : BitVec 64 := (o.pack 13#8 3#2 0#1).setWidth 64
/-- `ADDI`. -/
def wordAddi (o : OpDAI) : BitVec 64 := (o.pack 17#8).setWidth 64
/-- `ANDI`. -/
def wordAndi (o : OpDAI) : BitVec 64 := (o.pack 21#8).setWidth 64
/-- `ORI`. -/
def wordOri (o : OpDAI) : BitVec 64 := (o.pack 25#8).setWidth 64
/-- `XORI`. -/
def wordXori (o : OpDAI) : BitVec 64 := (o.pack 29#8).setWidth 64
/-- `SLTI`. -/
def wordSlti (o : OpDAI) : BitVec 64 := (o.pack 33#8).setWidth 64
/-- `SLTNI`. -/
def wordSltni (o : OpDAI) : BitVec 64 := (o.pack 37#8).setWidth 64
/-- `SLLI`. -/
def wordSlli (o : OpDAS) : BitVec 64 := (o.pack 41#8 0#8).setWidth 64
/-- `SRLI`. -/
def wordSrli (o : OpDAS) : BitVec 64 := (o.pack 41#8 1#8).setWidth 64
/-- `SRAI`. -/
def wordSrai (o : OpDAS) : BitVec 64 := (o.pack 41#8 2#8).setWidth 64
/-- `ROLI`. -/
def wordRoli (o : OpDAS) : BitVec 64 := (o.pack 41#8 3#8).setWidth 64
/-- `LUI`. -/
def wordLui (o : OpDI) : BitVec 64 := (o.pack 45#8).setWidth 64
/-- `AUIPC`. -/
def wordAuipc (o : OpDI) : BitVec 64 := (o.pack 49#8).setWidth 64
/-- `LB`. -/
def wordLb (o : OpDAI) : BitVec 64 := (o.pack 53#8).setWidth 64
/-- `LH`. -/
def wordLh (o : OpDAI) : BitVec 64 := (o.pack 57#8).setWidth 64
/-- `LW`. -/
def wordLw (o : OpDAI) : BitVec 64 := (o.pack 61#8).setWidth 64
/-- `LD`. -/
def wordLd (o : OpDAI) : BitVec 64 := (o.pack 65#8).setWidth 64
/-- `LBN`. -/
def wordLbn (o : OpDAI) : BitVec 64 := (o.pack 69#8).setWidth 64
/-- `LHN`. -/
def wordLhn (o : OpDAI) : BitVec 64 := (o.pack 73#8).setWidth 64
/-- `LWN`. -/
def wordLwn (o : OpDAI) : BitVec 64 := (o.pack 77#8).setWidth 64
/-- `SB`. -/
def wordSb (o : OpSAI) : BitVec 64 := (o.pack 81#8).setWidth 64
/-- `SH`. -/
def wordSh (o : OpSAI) : BitVec 64 := (o.pack 85#8).setWidth 64
/-- `SW`. -/
def wordSw (o : OpSAI) : BitVec 64 := (o.pack 89#8).setWidth 64
/-- `SD`. -/
def wordSd (o : OpSAI) : BitVec 64 := (o.pack 93#8).setWidth 64
/-- `BEQ`. -/
def wordBeq (o : OpABI) : BitVec 64 := (o.pack 97#8).setWidth 64
/-- `BNE`. -/
def wordBne (o : OpABI) : BitVec 64 := (o.pack 101#8).setWidth 64
/-- `BLT`. -/
def wordBlt (o : OpABI) : BitVec 64 := (o.pack 105#8).setWidth 64
/-- `BGE`. -/
def wordBge (o : OpABI) : BitVec 64 := (o.pack 109#8).setWidth 64
/-- `BLTN`. -/
def wordBltn (o : OpABI) : BitVec 64 := (o.pack 113#8).setWidth 64
/-- `BGEN`. -/
def wordBgen (o : OpABI) : BitVec 64 := (o.pack 117#8).setWidth 64
/-- `JAL`. -/
def wordJal (o : OpDI) : BitVec 64 := (o.pack 121#8).setWidth 64
/-- `JALR`. -/
def wordJalr (o : OpDAI) : BitVec 64 := (o.pack 125#8).setWidth 64
/-- `AMOSWAP_W`. -/
def wordAmoswapW (o : OpDABO) : BitVec 64 := (o.pack 129#8 0#7).setWidth 64
/-- `AMOADD_W`. -/
def wordAmoaddW (o : OpDABO) : BitVec 64 := (o.pack 129#8 8#7).setWidth 64
/-- `AMOAND_W`. -/
def wordAmoandW (o : OpDABO) : BitVec 64 := (o.pack 129#8 16#7).setWidth 64
/-- `AMOOR_W`. -/
def wordAmoorW (o : OpDABO) : BitVec 64 := (o.pack 129#8 24#7).setWidth 64
/-- `AMOXOR_W`. -/
def wordAmoxorW (o : OpDABO) : BitVec 64 := (o.pack 129#8 32#7).setWidth 64
/-- `AMOMIN_W`. -/
def wordAmominW (o : OpDABO) : BitVec 64 := (o.pack 129#8 40#7).setWidth 64
/-- `AMOMAX_W`. -/
def wordAmomaxW (o : OpDABO) : BitVec 64 := (o.pack 129#8 48#7).setWidth 64
/-- `AMOMINN_W`. -/
def wordAmominnW (o : OpDABO) : BitVec 64 := (o.pack 129#8 56#7).setWidth 64
/-- `AMOMAXN_W`. -/
def wordAmomaxnW (o : OpDABO) : BitVec 64 := (o.pack 129#8 64#7).setWidth 64
/-- `AMOSWAP_D`. -/
def wordAmoswapD (o : OpDABO) : BitVec 64 := (o.pack 133#8 0#7).setWidth 64
/-- `AMOADD_D`. -/
def wordAmoaddD (o : OpDABO) : BitVec 64 := (o.pack 133#8 8#7).setWidth 64
/-- `AMOAND_D`. -/
def wordAmoandD (o : OpDABO) : BitVec 64 := (o.pack 133#8 16#7).setWidth 64
/-- `AMOOR_D`. -/
def wordAmoorD (o : OpDABO) : BitVec 64 := (o.pack 133#8 24#7).setWidth 64
/-- `AMOXOR_D`. -/
def wordAmoxorD (o : OpDABO) : BitVec 64 := (o.pack 133#8 32#7).setWidth 64
/-- `AMOMIN_D`. -/
def wordAmominD (o : OpDABO) : BitVec 64 := (o.pack 133#8 40#7).setWidth 64
/-- `AMOMAX_D`. -/
def wordAmomaxD (o : OpDABO) : BitVec 64 := (o.pack 133#8 48#7).setWidth 64
/-- `AMOMINN_D`. -/
def wordAmominnD (o : OpDABO) : BitVec 64 := (o.pack 133#8 56#7).setWidth 64
/-- `AMOMAXN_D`. -/
def wordAmomaxnD (o : OpDABO) : BitVec 64 := (o.pack 133#8 64#7).setWidth 64
/-- `CAS`. -/
def wordCas (o : OpDABEWO) : BitVec 64 := (o.pack 137#8 0#1).setWidth 64
/-- `FENCE`. -/
def wordFence (o : OpSK) : BitVec 64 := (o.pack 141#18 0#9).setWidth 64
/-- `PAUSE`. -/
def wordPause : BitVec 64 := 0x80008D#64
/-- `WAITM`. -/
def wordWaitm (o : OpDAB) : BitVec 64 := (o.pack 141#8 2#9).setWidth 64
/-- `ARRIVE`. -/
def wordArrive (o : OpDAB) : BitVec 64 := (o.pack 141#8 3#9).setWidth 64
/-- `AWAIT`. -/
def wordAwait (o : OpDAB) : BitVec 64 := (o.pack 141#8 4#9).setWidth 64
/-- `GBAR`. -/
def wordGbar (o : OpD) : BitVec 64 := (o.pack 141#8 5120#19).setWidth 64
/-- `GBAR_RLX`. -/
def wordGbarRlx (o : OpD) : BitVec 64 := (o.pack 141#8 5152#19).setWidth 64
/-- `CSRRW`. -/
def wordCsrrw (o : OpDACsr) : BitVec 64 := (o.pack 145#8 0#3).setWidth 64
/-- `CSRRS`. -/
def wordCsrrs (o : OpDACsr) : BitVec 64 := (o.pack 145#8 1#3).setWidth 64
/-- `CSRRC`. -/
def wordCsrrc (o : OpDACsr) : BitVec 64 := (o.pack 145#8 2#3).setWidth 64
/-- `CSRRWI`. -/
def wordCsrrwi (o : OpDUCsr) : BitVec 64 := (o.pack 145#8 4#3).setWidth 64
/-- `CSRRSI`. -/
def wordCsrrsi (o : OpDUCsr) : BitVec 64 := (o.pack 145#8 5#3).setWidth 64
/-- `CSRRCI`. -/
def wordCsrrci (o : OpDUCsr) : BitVec 64 := (o.pack 145#8 6#3).setWidth 64
/-- `TRAP`. -/
def wordTrap (o : OpA) : BitVec 64 := (o.pack 149#13 0#14).setWidth 64
/-- `TRAP_BRK`. -/
def wordTrapBrk : BitVec 64 := 0x195#64
/-- `TRET`. -/
def wordTret : BitVec 64 := 0x800095#64
/-- `HALT`. -/
def wordHalt : BitVec 64 := 0x1000095#64
/-- `WFE`. -/
def wordWfe : BitVec 64 := 0x1800095#64
/-- `TLBINV`. -/
def wordTlbinv (o : OpAB) : BitVec 64 := (o.pack 149#13 4#9).setWidth 64
/-- `CFLUSH`. -/
def wordCflush (o : OpAB) : BitVec 64 := (o.pack 149#13 5#9).setWidth 64
/-- `CINVAL`. -/
def wordCinval (o : OpAB) : BitVec 64 := (o.pack 149#13 6#9).setWidth 64
/-- `PIN`. -/
def wordPin (o : OpDAB) : BitVec 64 := (o.pack 149#8 7#9).setWidth 64
/-- `UNPIN`. -/
def wordUnpin (o : OpDAB) : BitVec 64 := (o.pack 149#8 8#9).setWidth 64
/-- `VQSAVE`. -/
def wordVqsave (o : OpA) : BitVec 64 := (o.pack 149#13 288#14).setWidth 64
/-- `VQLOAD`. -/
def wordVqload (o : OpA) : BitVec 64 := (o.pack 149#13 320#14).setWidth 64
/-- `FINVAL`. -/
def wordFinval (o : OpA) : BitVec 64 := (o.pack 149#13 352#14).setWidth 64
/-- `CLZ`. -/
def wordClz (o : OpDA) : BitVec 64 := (o.pack 153#8 0#14).setWidth 64
/-- `CTZ`. -/
def wordCtz (o : OpDA) : BitVec 64 := (o.pack 153#8 32#14).setWidth 64
/-- `POPC`. -/
def wordPopc (o : OpDA) : BitVec 64 := (o.pack 153#8 64#14).setWidth 64
/-- `BSWAP`. -/
def wordBswap (o : OpDA) : BitVec 64 := (o.pack 153#8 96#14).setWidth 64
/-- `SEXTB`. -/
def wordSextb (o : OpDA) : BitVec 64 := (o.pack 153#8 128#14).setWidth 64
/-- `SEXTH`. -/
def wordSexth (o : OpDA) : BitVec 64 := (o.pack 153#8 160#14).setWidth 64
/-- `SEXTW`. -/
def wordSextw (o : OpDA) : BitVec 64 := (o.pack 153#8 192#14).setWidth 64
/-- `ZEXTB`. -/
def wordZextb (o : OpDA) : BitVec 64 := (o.pack 153#8 224#14).setWidth 64
/-- `ZEXTH`. -/
def wordZexth (o : OpDA) : BitVec 64 := (o.pack 153#8 256#14).setWidth 64
/-- `ZEXTW`. -/
def wordZextw (o : OpDA) : BitVec 64 := (o.pack 153#8 288#14).setWidth 64
/-- `QPUSH`. -/
def wordQpush (o : OpDAB) : BitVec 64 := (o.pack 157#8 0#9).setWidth 64
/-- `QPOP`. -/
def wordQpop (o : OpDAB) : BitVec 64 := (o.pack 157#8 1#9).setWidth 64
/-- `QPEEK`. -/
def wordQpeek (o : OpDAB) : BitVec 64 := (o.pack 157#8 2#9).setWidth 64
/-- `QWAKE`. -/
def wordQwake (o : OpDAB) : BitVec 64 := (o.pack 157#8 3#9).setWidth 64
/-- `QSEAL`. -/
def wordQseal (o : OpDA) : BitVec 64 := (o.pack 157#8 128#14).setWidth 64
/-- `QREVOKE`. -/
def wordQrevoke (o : OpDAB) : BitVec 64 := (o.pack 157#8 5#9).setWidth 64
/-- `QGROW`. -/
def wordQgrow (o : OpDAB) : BitVec 64 := (o.pack 157#8 6#9).setWidth 64
/-- `CPY`. -/
def wordCpy (o : OpDAB) : BitVec 64 := (o.pack 161#8 0#9).setWidth 64
/-- `CPYBT`. -/
def wordCpybt (o : OpA) : BitVec 64 := (o.pack 161#13 32#14).setWidth 64
/-- `CPYWAIT`. -/
def wordCpywait : BitVec 64 := 0x10000A1#64
/-- `NSUB`. -/
def wordNsub (o : OpDAB) : BitVec 64 := (o.pack 161#8 3#9).setWidth 64
/-- `CPYFILL`. -/
def wordCpyfill (o : OpDAB) : BitVec 64 := (o.pack 161#8 4#9).setWidth 64
/-- `FCVT_I32_F32`. -/
def wordFcvtI32F32 (o : OpDAR) : BitVec 64 := (o.pack 165#8 0#11).setWidth 64
/-- `FCVT_N32_F32`. -/
def wordFcvtN32F32 (o : OpDAR) : BitVec 64 := (o.pack 165#8 32#11).setWidth 64
/-- `FCVT_I64_F32`. -/
def wordFcvtI64F32 (o : OpDAR) : BitVec 64 := (o.pack 165#8 64#11).setWidth 64
/-- `FCVT_N64_F32`. -/
def wordFcvtN64F32 (o : OpDAR) : BitVec 64 := (o.pack 165#8 96#11).setWidth 64
/-- `FCVT_F32_I32`. -/
def wordFcvtF32I32 (o : OpDAR) : BitVec 64 := (o.pack 165#8 128#11).setWidth 64
/-- `FCVT_F32_N32`. -/
def wordFcvtF32N32 (o : OpDAR) : BitVec 64 := (o.pack 165#8 160#11).setWidth 64
/-- `FCVT_F32_I64`. -/
def wordFcvtF32I64 (o : OpDAR) : BitVec 64 := (o.pack 165#8 192#11).setWidth 64
/-- `FCVT_F32_N64`. -/
def wordFcvtF32N64 (o : OpDAR) : BitVec 64 := (o.pack 165#8 224#11).setWidth 64
/-- `FCVT_I32_F64`. -/
def wordFcvtI32F64 (o : OpDAR) : BitVec 64 := (o.pack 165#8 256#11).setWidth 64
/-- `FCVT_N32_F64`. -/
def wordFcvtN32F64 (o : OpDAR) : BitVec 64 := (o.pack 165#8 288#11).setWidth 64
/-- `FCVT_I64_F64`. -/
def wordFcvtI64F64 (o : OpDAR) : BitVec 64 := (o.pack 165#8 320#11).setWidth 64
/-- `FCVT_N64_F64`. -/
def wordFcvtN64F64 (o : OpDAR) : BitVec 64 := (o.pack 165#8 352#11).setWidth 64
/-- `FCVT_F64_I32`. -/
def wordFcvtF64I32 (o : OpDAR) : BitVec 64 := (o.pack 165#8 384#11).setWidth 64
/-- `FCVT_F64_N32`. -/
def wordFcvtF64N32 (o : OpDAR) : BitVec 64 := (o.pack 165#8 416#11).setWidth 64
/-- `FCVT_F64_I64`. -/
def wordFcvtF64I64 (o : OpDAR) : BitVec 64 := (o.pack 165#8 448#11).setWidth 64
/-- `FCVT_F64_N64`. -/
def wordFcvtF64N64 (o : OpDAR) : BitVec 64 := (o.pack 165#8 480#11).setWidth 64
/-- `FCVT_F32_F64`. -/
def wordFcvtF32F64 (o : OpDAR) : BitVec 64 := (o.pack 165#8 512#11).setWidth 64
/-- `FCVT_F64_F32`. -/
def wordFcvtF64F32 (o : OpDAR) : BitVec 64 := (o.pack 165#8 544#11).setWidth 64
/-- `VSETL`. -/
def wordVsetl (o : OpDAB) : BitVec 64 := (o.pack 2#8 0#9).setWidth 64
/-- `VLEASE`. -/
def wordVlease (o : OpDAB) : BitVec 64 := (o.pack 2#8 1#9).setWidth 64
/-- `VFORK`. -/
def wordVfork (o : OpDA) : BitVec 64 := (o.pack 2#8 64#14).setWidth 64
/-- `VJOIN`. -/
def wordVjoin (o : OpDA) : BitVec 64 := (o.pack 2#8 96#14).setWidth 64
/-- `VFETCH`. -/
def wordVfetch (o : OpA) : BitVec 64 := (o.pack 2#13 128#14).setWidth 64
/-- `VFETCHW`. -/
def wordVfetchw (o : OpAK) : BitVec 64 := (o.pack 2#13 20#11).setWidth 64
/-- `VLOOP`. -/
def wordVloop (o : OpAB) : BitVec 64 := (o.pack 2#13 6#9).setWidth 64
/-- `VCOMMIT`. -/
def wordVcommit : BitVec 64 := 0x3800002#64
/-- `ENDB`. -/
def wordEndb : BitVec 64 := 0x4000002#64
/-- `MMODE`. -/
def wordMmode (o : OpA) : BitVec 64 := (o.pack 2#13 288#14).setWidth 64
/-- `MSHAPE`. -/
def wordMshape (o : OpDA) : BitVec 64 := (o.pack 2#8 320#14).setWidth 64
/-- `VADD_VV`. -/
def wordVaddVV (o : OpDABCEK) : BitVec 64 := (o.pack 6#8 0#4).setWidth 64
/-- `VADD_VX`. -/
def wordVaddVX (o : OpDABCK) : BitVec 64 := (o.pack 10#8 0#1 0#4).setWidth 64
/-- `VADD_VI`. -/
def wordVaddVI (o : OpDAICK) : BitVec 64 := (o.pack 14#8 0#1 0#4).setWidth 64
/-- `VSUB_VV`. -/
def wordVsubVV (o : OpDABCEK) : BitVec 64 := (o.pack 6#8 1#4).setWidth 64
/-- `VSUB_VX`. -/
def wordVsubVX (o : OpDABCK) : BitVec 64 := (o.pack 10#8 0#1 1#4).setWidth 64
/-- `VSUB_VI`. -/
def wordVsubVI (o : OpDAICK) : BitVec 64 := (o.pack 14#8 0#1 1#4).setWidth 64
/-- `VRSUB_VV`. -/
def wordVrsubVV (o : OpDABCEK) : BitVec 64 := (o.pack 6#8 2#4).setWidth 64
/-- `VRSUB_VX`. -/
def wordVrsubVX (o : OpDABCK) : BitVec 64 := (o.pack 10#8 0#1 2#4).setWidth 64
/-- `VRSUB_VI`. -/
def wordVrsubVI (o : OpDAICK) : BitVec 64 := (o.pack 14#8 0#1 2#4).setWidth 64
/-- `VMUL_VV`. -/
def wordVmulVV (o : OpDABCEK) : BitVec 64 := (o.pack 6#8 3#4).setWidth 64
/-- `VMUL_VX`. -/
def wordVmulVX (o : OpDABCK) : BitVec 64 := (o.pack 10#8 0#1 3#4).setWidth 64
/-- `VMUL_VI`. -/
def wordVmulVI (o : OpDAICK) : BitVec 64 := (o.pack 14#8 0#1 3#4).setWidth 64
/-- `VMULH_VV`. -/
def wordVmulhVV (o : OpDABCEK) : BitVec 64 := (o.pack 6#8 4#4).setWidth 64
/-- `VMULH_VX`. -/
def wordVmulhVX (o : OpDABCK) : BitVec 64 := (o.pack 10#8 0#1 4#4).setWidth 64
/-- `VMULH_VI`. -/
def wordVmulhVI (o : OpDAICK) : BitVec 64 := (o.pack 14#8 0#1 4#4).setWidth 64
/-- `VMULHN_VV`. -/
def wordVmulhnVV (o : OpDABCEK) : BitVec 64 := (o.pack 6#8 5#4).setWidth 64
/-- `VMULHN_VX`. -/
def wordVmulhnVX (o : OpDABCK) : BitVec 64 := (o.pack 10#8 0#1 5#4).setWidth 64
/-- `VMULHN_VI`. -/
def wordVmulhnVI (o : OpDAICK) : BitVec 64 := (o.pack 14#8 0#1 5#4).setWidth 64
/-- `VAND_VV`. -/
def wordVandVV (o : OpDABCEK) : BitVec 64 := (o.pack 6#8 6#4).setWidth 64
/-- `VAND_VX`. -/
def wordVandVX (o : OpDABCK) : BitVec 64 := (o.pack 10#8 0#1 6#4).setWidth 64
/-- `VAND_VI`. -/
def wordVandVI (o : OpDAICK) : BitVec 64 := (o.pack 14#8 0#1 6#4).setWidth 64
/-- `VOR_VV`. -/
def wordVorVV (o : OpDABCEK) : BitVec 64 := (o.pack 6#8 7#4).setWidth 64
/-- `VOR_VX`. -/
def wordVorVX (o : OpDABCK) : BitVec 64 := (o.pack 10#8 0#1 7#4).setWidth 64
/-- `VOR_VI`. -/
def wordVorVI (o : OpDAICK) : BitVec 64 := (o.pack 14#8 0#1 7#4).setWidth 64
/-- `VXOR_VV`. -/
def wordVxorVV (o : OpDABCEK) : BitVec 64 := (o.pack 6#8 8#4).setWidth 64
/-- `VXOR_VX`. -/
def wordVxorVX (o : OpDABCK) : BitVec 64 := (o.pack 10#8 0#1 8#4).setWidth 64
/-- `VXOR_VI`. -/
def wordVxorVI (o : OpDAICK) : BitVec 64 := (o.pack 14#8 0#1 8#4).setWidth 64
/-- `VSLL_VV`. -/
def wordVsllVV (o : OpDABCEK) : BitVec 64 := (o.pack 6#8 9#4).setWidth 64
/-- `VSLL_VX`. -/
def wordVsllVX (o : OpDABCK) : BitVec 64 := (o.pack 10#8 0#1 9#4).setWidth 64
/-- `VSLL_VI`. -/
def wordVsllVI (o : OpDAICK) : BitVec 64 := (o.pack 14#8 0#1 9#4).setWidth 64
/-- `VSRL_VV`. -/
def wordVsrlVV (o : OpDABCEK) : BitVec 64 := (o.pack 6#8 10#4).setWidth 64
/-- `VSRL_VX`. -/
def wordVsrlVX (o : OpDABCK) : BitVec 64 := (o.pack 10#8 0#1 10#4).setWidth 64
/-- `VSRL_VI`. -/
def wordVsrlVI (o : OpDAICK) : BitVec 64 := (o.pack 14#8 0#1 10#4).setWidth 64
/-- `VSRA_VV`. -/
def wordVsraVV (o : OpDABCEK) : BitVec 64 := (o.pack 6#8 11#4).setWidth 64
/-- `VSRA_VX`. -/
def wordVsraVX (o : OpDABCK) : BitVec 64 := (o.pack 10#8 0#1 11#4).setWidth 64
/-- `VSRA_VI`. -/
def wordVsraVI (o : OpDAICK) : BitVec 64 := (o.pack 14#8 0#1 11#4).setWidth 64
/-- `VMIN_VV`. -/
def wordVminVV (o : OpDABCEK) : BitVec 64 := (o.pack 6#8 12#4).setWidth 64
/-- `VMIN_VX`. -/
def wordVminVX (o : OpDABCK) : BitVec 64 := (o.pack 10#8 0#1 12#4).setWidth 64
/-- `VMIN_VI`. -/
def wordVminVI (o : OpDAICK) : BitVec 64 := (o.pack 14#8 0#1 12#4).setWidth 64
/-- `VMAX_VV`. -/
def wordVmaxVV (o : OpDABCEK) : BitVec 64 := (o.pack 6#8 13#4).setWidth 64
/-- `VMAX_VX`. -/
def wordVmaxVX (o : OpDABCK) : BitVec 64 := (o.pack 10#8 0#1 13#4).setWidth 64
/-- `VMAX_VI`. -/
def wordVmaxVI (o : OpDAICK) : BitVec 64 := (o.pack 14#8 0#1 13#4).setWidth 64
/-- `VMINN_VV`. -/
def wordVminnVV (o : OpDABCEK) : BitVec 64 := (o.pack 6#8 14#4).setWidth 64
/-- `VMINN_VX`. -/
def wordVminnVX (o : OpDABCK) : BitVec 64 := (o.pack 10#8 0#1 14#4).setWidth 64
/-- `VMINN_VI`. -/
def wordVminnVI (o : OpDAICK) : BitVec 64 := (o.pack 14#8 0#1 14#4).setWidth 64
/-- `VMAXN_VV`. -/
def wordVmaxnVV (o : OpDABCEK) : BitVec 64 := (o.pack 6#8 15#4).setWidth 64
/-- `VMAXN_VX`. -/
def wordVmaxnVX (o : OpDABCK) : BitVec 64 := (o.pack 10#8 0#1 15#4).setWidth 64
/-- `VMAXN_VI`. -/
def wordVmaxnVI (o : OpDAICK) : BitVec 64 := (o.pack 14#8 0#1 15#4).setWidth 64
/-- `VSADD_VV`. -/
def wordVsaddVV (o : OpDABCEK) : BitVec 64 := (o.pack 18#8 0#4).setWidth 64
/-- `VSADD_VX`. -/
def wordVsaddVX (o : OpDABCK) : BitVec 64 := (o.pack 22#8 0#1 0#4).setWidth 64
/-- `VSSUB_VV`. -/
def wordVssubVV (o : OpDABCEK) : BitVec 64 := (o.pack 18#8 1#4).setWidth 64
/-- `VSSUB_VX`. -/
def wordVssubVX (o : OpDABCK) : BitVec 64 := (o.pack 22#8 0#1 1#4).setWidth 64
/-- `VSADDN_VV`. -/
def wordVsaddnVV (o : OpDABCEK) : BitVec 64 := (o.pack 18#8 2#4).setWidth 64
/-- `VSADDN_VX`. -/
def wordVsaddnVX (o : OpDABCK) : BitVec 64 := (o.pack 22#8 0#1 2#4).setWidth 64
/-- `VSSUBN_VV`. -/
def wordVssubnVV (o : OpDABCEK) : BitVec 64 := (o.pack 18#8 3#4).setWidth 64
/-- `VSSUBN_VX`. -/
def wordVssubnVX (o : OpDABCK) : BitVec 64 := (o.pack 22#8 0#1 3#4).setWidth 64
/-- `VDIV_VV`. -/
def wordVdivVV (o : OpDABCEK) : BitVec 64 := (o.pack 18#8 4#4).setWidth 64
/-- `VDIV_VX`. -/
def wordVdivVX (o : OpDABCK) : BitVec 64 := (o.pack 22#8 0#1 4#4).setWidth 64
/-- `VDIVN_VV`. -/
def wordVdivnVV (o : OpDABCEK) : BitVec 64 := (o.pack 18#8 5#4).setWidth 64
/-- `VDIVN_VX`. -/
def wordVdivnVX (o : OpDABCK) : BitVec 64 := (o.pack 22#8 0#1 5#4).setWidth 64
/-- `VREM_VV`. -/
def wordVremVV (o : OpDABCEK) : BitVec 64 := (o.pack 18#8 6#4).setWidth 64
/-- `VREM_VX`. -/
def wordVremVX (o : OpDABCK) : BitVec 64 := (o.pack 22#8 0#1 6#4).setWidth 64
/-- `VREMN_VV`. -/
def wordVremnVV (o : OpDABCEK) : BitVec 64 := (o.pack 18#8 7#4).setWidth 64
/-- `VREMN_VX`. -/
def wordVremnVX (o : OpDABCK) : BitVec 64 := (o.pack 22#8 0#1 7#4).setWidth 64
/-- `VMACC_VV`. -/
def wordVmaccVV (o : OpDABCEK) : BitVec 64 := (o.pack 18#8 8#4).setWidth 64
/-- `VMACC_VX`. -/
def wordVmaccVX (o : OpDABCK) : BitVec 64 := (o.pack 22#8 0#1 8#4).setWidth 64
/-- `VNMSAC_VV`. -/
def wordVnmsacVV (o : OpDABCEK) : BitVec 64 := (o.pack 18#8 9#4).setWidth 64
/-- `VNMSAC_VX`. -/
def wordVnmsacVX (o : OpDABCK) : BitVec 64 := (o.pack 22#8 0#1 9#4).setWidth 64
/-- `VAVG_VV`. -/
def wordVavgVV (o : OpDABCEK) : BitVec 64 := (o.pack 18#8 10#4).setWidth 64
/-- `VAVG_VX`. -/
def wordVavgVX (o : OpDABCK) : BitVec 64 := (o.pack 22#8 0#1 10#4).setWidth 64
/-- `VAVGN_VV`. -/
def wordVavgnVV (o : OpDABCEK) : BitVec 64 := (o.pack 18#8 11#4).setWidth 64
/-- `VAVGN_VX`. -/
def wordVavgnVX (o : OpDABCK) : BitVec 64 := (o.pack 22#8 0#1 11#4).setWidth 64
/-- `VABS`. -/
def wordVabs (o : OpDBEK) : BitVec 64 := (o.pack 18#8 0#5 0#1 12#4).setWidth 64
/-- `VNEG`. -/
def wordVneg (o : OpDBEK) : BitVec 64 := (o.pack 18#8 0#5 0#1 13#4).setWidth 64
/-- `VPOPC`. -/
def wordVpopc (o : OpDBEK) : BitVec 64 := (o.pack 18#8 0#5 0#1 14#4).setWidth 64
/-- `VCLZ`. -/
def wordVclz (o : OpDBEK) : BitVec 64 := (o.pack 18#8 0#5 0#1 15#4).setWidth 64
/-- `VWADD_VV`. -/
def wordVwaddVV (o : OpDABCEK) : BitVec 64 := (o.pack 26#8 0#4).setWidth 64
/-- `VWADD_VX`. -/
def wordVwaddVX (o : OpDABCK) : BitVec 64 := (o.pack 30#8 0#1 0#4).setWidth 64
/-- `VWADDN_VV`. -/
def wordVwaddnVV (o : OpDABCEK) : BitVec 64 := (o.pack 26#8 1#4).setWidth 64
/-- `VWADDN_VX`. -/
def wordVwaddnVX (o : OpDABCK) : BitVec 64 := (o.pack 30#8 0#1 1#4).setWidth 64
/-- `VWSUB_VV`. -/
def wordVwsubVV (o : OpDABCEK) : BitVec 64 := (o.pack 26#8 2#4).setWidth 64
/-- `VWSUB_VX`. -/
def wordVwsubVX (o : OpDABCK) : BitVec 64 := (o.pack 30#8 0#1 2#4).setWidth 64
/-- `VWSUBN_VV`. -/
def wordVwsubnVV (o : OpDABCEK) : BitVec 64 := (o.pack 26#8 3#4).setWidth 64
/-- `VWSUBN_VX`. -/
def wordVwsubnVX (o : OpDABCK) : BitVec 64 := (o.pack 30#8 0#1 3#4).setWidth 64
/-- `VWMUL_VV`. -/
def wordVwmulVV (o : OpDABCEK) : BitVec 64 := (o.pack 26#8 4#4).setWidth 64
/-- `VWMUL_VX`. -/
def wordVwmulVX (o : OpDABCK) : BitVec 64 := (o.pack 30#8 0#1 4#4).setWidth 64
/-- `VWMULN_VV`. -/
def wordVwmulnVV (o : OpDABCEK) : BitVec 64 := (o.pack 26#8 5#4).setWidth 64
/-- `VWMULN_VX`. -/
def wordVwmulnVX (o : OpDABCK) : BitVec 64 := (o.pack 30#8 0#1 5#4).setWidth 64
/-- `VWMACC_VV`. -/
def wordVwmaccVV (o : OpDABCEK) : BitVec 64 := (o.pack 26#8 6#4).setWidth 64
/-- `VWMACC_VX`. -/
def wordVwmaccVX (o : OpDABCK) : BitVec 64 := (o.pack 30#8 0#1 6#4).setWidth 64
/-- `VWMACCN_VV`. -/
def wordVwmaccnVV (o : OpDABCEK) : BitVec 64 := (o.pack 26#8 7#4).setWidth 64
/-- `VWMACCN_VX`. -/
def wordVwmaccnVX (o : OpDABCK) : BitVec 64 := (o.pack 30#8 0#1 7#4).setWidth 64
/-- `VNSRL_VV`. -/
def wordVnsrlVV (o : OpDABCEK) : BitVec 64 := (o.pack 26#8 8#4).setWidth 64
/-- `VNSRL_VX`. -/
def wordVnsrlVX (o : OpDABCK) : BitVec 64 := (o.pack 30#8 0#1 8#4).setWidth 64
/-- `VNSRA_VV`. -/
def wordVnsraVV (o : OpDABCEK) : BitVec 64 := (o.pack 26#8 9#4).setWidth 64
/-- `VNSRA_VX`. -/
def wordVnsraVX (o : OpDABCK) : BitVec 64 := (o.pack 30#8 0#1 9#4).setWidth 64
/-- `VNCLIP_VV`. -/
def wordVnclipVV (o : OpDABCEK) : BitVec 64 := (o.pack 26#8 10#4).setWidth 64
/-- `VNCLIP_VX`. -/
def wordVnclipVX (o : OpDABCK) : BitVec 64 := (o.pack 30#8 0#1 10#4).setWidth 64
/-- `VNCLIPN_VV`. -/
def wordVnclipnVV (o : OpDABCEK) : BitVec 64 := (o.pack 26#8 11#4).setWidth 64
/-- `VNCLIPN_VX`. -/
def wordVnclipnVX (o : OpDABCK) : BitVec 64 := (o.pack 30#8 0#1 11#4).setWidth 64
/-- `VFADD_VV`. -/
def wordVfaddVV (o : OpDABCEK) : BitVec 64 := (o.pack 34#8 0#4).setWidth 64
/-- `VFADD_VX`. -/
def wordVfaddVX (o : OpDABCK) : BitVec 64 := (o.pack 38#8 0#1 0#4).setWidth 64
/-- `VFSUB_VV`. -/
def wordVfsubVV (o : OpDABCEK) : BitVec 64 := (o.pack 34#8 1#4).setWidth 64
/-- `VFSUB_VX`. -/
def wordVfsubVX (o : OpDABCK) : BitVec 64 := (o.pack 38#8 0#1 1#4).setWidth 64
/-- `VFRSUB_VV`. -/
def wordVfrsubVV (o : OpDABCEK) : BitVec 64 := (o.pack 34#8 2#4).setWidth 64
/-- `VFRSUB_VX`. -/
def wordVfrsubVX (o : OpDABCK) : BitVec 64 := (o.pack 38#8 0#1 2#4).setWidth 64
/-- `VFMUL_VV`. -/
def wordVfmulVV (o : OpDABCEK) : BitVec 64 := (o.pack 34#8 3#4).setWidth 64
/-- `VFMUL_VX`. -/
def wordVfmulVX (o : OpDABCK) : BitVec 64 := (o.pack 38#8 0#1 3#4).setWidth 64
/-- `VFDIV_VV`. -/
def wordVfdivVV (o : OpDABCEK) : BitVec 64 := (o.pack 34#8 4#4).setWidth 64
/-- `VFDIV_VX`. -/
def wordVfdivVX (o : OpDABCK) : BitVec 64 := (o.pack 38#8 0#1 4#4).setWidth 64
/-- `VFRDIV_VV`. -/
def wordVfrdivVV (o : OpDABCEK) : BitVec 64 := (o.pack 34#8 5#4).setWidth 64
/-- `VFRDIV_VX`. -/
def wordVfrdivVX (o : OpDABCK) : BitVec 64 := (o.pack 38#8 0#1 5#4).setWidth 64
/-- `VFMIN_VV`. -/
def wordVfminVV (o : OpDABCEK) : BitVec 64 := (o.pack 34#8 6#4).setWidth 64
/-- `VFMIN_VX`. -/
def wordVfminVX (o : OpDABCK) : BitVec 64 := (o.pack 38#8 0#1 6#4).setWidth 64
/-- `VFMAX_VV`. -/
def wordVfmaxVV (o : OpDABCEK) : BitVec 64 := (o.pack 34#8 7#4).setWidth 64
/-- `VFMAX_VX`. -/
def wordVfmaxVX (o : OpDABCK) : BitVec 64 := (o.pack 38#8 0#1 7#4).setWidth 64
/-- `VFSGNJ_VV`. -/
def wordVfsgnjVV (o : OpDABCEK) : BitVec 64 := (o.pack 34#8 8#4).setWidth 64
/-- `VFSGNJ_VX`. -/
def wordVfsgnjVX (o : OpDABCK) : BitVec 64 := (o.pack 38#8 0#1 8#4).setWidth 64
/-- `VFSGNJN_VV`. -/
def wordVfsgnjnVV (o : OpDABCEK) : BitVec 64 := (o.pack 34#8 9#4).setWidth 64
/-- `VFSGNJN_VX`. -/
def wordVfsgnjnVX (o : OpDABCK) : BitVec 64 := (o.pack 38#8 0#1 9#4).setWidth 64
/-- `VFSGNJX_VV`. -/
def wordVfsgnjxVV (o : OpDABCEK) : BitVec 64 := (o.pack 34#8 10#4).setWidth 64
/-- `VFSGNJX_VX`. -/
def wordVfsgnjxVX (o : OpDABCK) : BitVec 64 := (o.pack 38#8 0#1 10#4).setWidth 64
/-- `VFMA_VV`. -/
def wordVfmaVV (o : OpDABCEK) : BitVec 64 := (o.pack 34#8 11#4).setWidth 64
/-- `VFMA_VX`. -/
def wordVfmaVX (o : OpDABCK) : BitVec 64 := (o.pack 38#8 0#1 11#4).setWidth 64
/-- `VFMS_VV`. -/
def wordVfmsVV (o : OpDABCEK) : BitVec 64 := (o.pack 34#8 12#4).setWidth 64
/-- `VFMS_VX`. -/
def wordVfmsVX (o : OpDABCK) : BitVec 64 := (o.pack 38#8 0#1 12#4).setWidth 64
/-- `VFNMA_VV`. -/
def wordVfnmaVV (o : OpDABCEK) : BitVec 64 := (o.pack 34#8 13#4).setWidth 64
/-- `VFNMA_VX`. -/
def wordVfnmaVX (o : OpDABCK) : BitVec 64 := (o.pack 38#8 0#1 13#4).setWidth 64
/-- `VFNMS_VV`. -/
def wordVfnmsVV (o : OpDABCEK) : BitVec 64 := (o.pack 34#8 14#4).setWidth 64
/-- `VFNMS_VX`. -/
def wordVfnmsVX (o : OpDABCK) : BitVec 64 := (o.pack 38#8 0#1 14#4).setWidth 64
/-- `VFSQRT`. -/
def wordVfsqrt (o : OpDBEKR) : BitVec 64 := (o.pack 42#8 0#5 0#1).setWidth 64
/-- `VFRCP`. -/
def wordVfrcp (o : OpDBEKR) : BitVec 64 := (o.pack 42#8 1#5 0#1).setWidth 64
/-- `VFRSQ`. -/
def wordVfrsq (o : OpDBEKR) : BitVec 64 := (o.pack 42#8 2#5 0#1).setWidth 64
/-- `VFEXP2`. -/
def wordVfexp2 (o : OpDBEKR) : BitVec 64 := (o.pack 42#8 3#5 0#1).setWidth 64
/-- `VFLOG2`. -/
def wordVflog2 (o : OpDBEKR) : BitVec 64 := (o.pack 42#8 4#5 0#1).setWidth 64
/-- `VFSINP`. -/
def wordVfsinp (o : OpDBEKR) : BitVec 64 := (o.pack 42#8 5#5 0#1).setWidth 64
/-- `VFCOSP`. -/
def wordVfcosp (o : OpDBEKR) : BitVec 64 := (o.pack 42#8 6#5 0#1).setWidth 64
/-- `VFTANH`. -/
def wordVftanh (o : OpDBEKR) : BitVec 64 := (o.pack 42#8 7#5 0#1).setWidth 64
/-- `VFABS`. -/
def wordVfabs (o : OpDBEKR) : BitVec 64 := (o.pack 42#8 8#5 0#1).setWidth 64
/-- `VFNEG`. -/
def wordVfneg (o : OpDBEKR) : BitVec 64 := (o.pack 42#8 9#5 0#1).setWidth 64
/-- `VFCLASS`. -/
def wordVfclass (o : OpDBEKR) : BitVec 64 := (o.pack 42#8 10#5 0#1).setWidth 64
/-- `VFFLOOR`. -/
def wordVffloor (o : OpDBEKR) : BitVec 64 := (o.pack 42#8 11#5 0#1).setWidth 64
/-- `VFCEIL`. -/
def wordVfceil (o : OpDBEKR) : BitVec 64 := (o.pack 42#8 12#5 0#1).setWidth 64
/-- `VFROUND`. -/
def wordVfround (o : OpDBEKR) : BitVec 64 := (o.pack 42#8 13#5 0#1).setWidth 64
/-- `VCVT_I32_F32`. -/
def wordVcvtI32F32 (o : OpDBEKSR) : BitVec 64 := (o.pack 46#8 0#5 0#1).setWidth 64
/-- `VCVT_N32_F32`. -/
def wordVcvtN32F32 (o : OpDBEKSR) : BitVec 64 := (o.pack 46#8 1#5 0#1).setWidth 64
/-- `VCVT_F32_I32`. -/
def wordVcvtF32I32 (o : OpDBEKSR) : BitVec 64 := (o.pack 46#8 2#5 0#1).setWidth 64
/-- `VCVT_F32_N32`. -/
def wordVcvtF32N32 (o : OpDBEKSR) : BitVec 64 := (o.pack 46#8 3#5 0#1).setWidth 64
/-- `VCVT_I64_F64`. -/
def wordVcvtI64F64 (o : OpDBEKSR) : BitVec 64 := (o.pack 46#8 4#5 0#1).setWidth 64
/-- `VCVT_N64_F64`. -/
def wordVcvtN64F64 (o : OpDBEKSR) : BitVec 64 := (o.pack 46#8 5#5 0#1).setWidth 64
/-- `VCVT_F64_I64`. -/
def wordVcvtF64I64 (o : OpDBEKSR) : BitVec 64 := (o.pack 46#8 6#5 0#1).setWidth 64
/-- `VCVT_F64_N64`. -/
def wordVcvtF64N64 (o : OpDBEKSR) : BitVec 64 := (o.pack 46#8 7#5 0#1).setWidth 64
/-- `VCVT_F64_F32`. -/
def wordVcvtF64F32 (o : OpDBEKSR) : BitVec 64 := (o.pack 46#8 8#5 0#1).setWidth 64
/-- `VCVT_F32_F64`. -/
def wordVcvtF32F64 (o : OpDBEKSR) : BitVec 64 := (o.pack 46#8 9#5 0#1).setWidth 64
/-- `VCVT_H_F32`. -/
def wordVcvtHF32 (o : OpDBEKSR) : BitVec 64 := (o.pack 46#8 10#5 0#1).setWidth 64
/-- `VCVT_BF_F32`. -/
def wordVcvtBfF32 (o : OpDBEKSR) : BitVec 64 := (o.pack 46#8 11#5 0#1).setWidth 64
/-- `VCVT_F32_H`. -/
def wordVcvtF32H (o : OpDBEKSR) : BitVec 64 := (o.pack 46#8 12#5 0#1).setWidth 64
/-- `VCVT_F32_BF`. -/
def wordVcvtF32Bf (o : OpDBEKSR) : BitVec 64 := (o.pack 46#8 13#5 0#1).setWidth 64
/-- `VCVT_B8_F32`. -/
def wordVcvtB8F32 (o : OpDBEKSR) : BitVec 64 := (o.pack 46#8 14#5 0#1).setWidth 64
/-- `VCVT_F32_B8`. -/
def wordVcvtF32B8 (o : OpDBEKSR) : BitVec 64 := (o.pack 46#8 15#5 0#1).setWidth 64
/-- `VCVT_B8_H`. -/
def wordVcvtB8H (o : OpDBEKSR) : BitVec 64 := (o.pack 46#8 16#5 0#1).setWidth 64
/-- `VCVT_H_B8`. -/
def wordVcvtHB8 (o : OpDBEKSR) : BitVec 64 := (o.pack 46#8 17#5 0#1).setWidth 64
/-- `VCVT_B8_BF`. -/
def wordVcvtB8Bf (o : OpDBEKSR) : BitVec 64 := (o.pack 46#8 18#5 0#1).setWidth 64
/-- `VCVT_BF_B8`. -/
def wordVcvtBfB8 (o : OpDBEKSR) : BitVec 64 := (o.pack 46#8 19#5 0#1).setWidth 64
/-- `VCVT_E4_F32`. -/
def wordVcvtE4F32 (o : OpDBEKSR) : BitVec 64 := (o.pack 46#8 20#5 0#1).setWidth 64
/-- `VCVT_F32_E4`. -/
def wordVcvtF32E4 (o : OpDBEKSR) : BitVec 64 := (o.pack 46#8 21#5 0#1).setWidth 64
/-- `VCVT_H_E4`. -/
def wordVcvtHE4 (o : OpDBEKSR) : BitVec 64 := (o.pack 46#8 22#5 0#1).setWidth 64
/-- `VCVT_Q4_F32`. -/
def wordVcvtQ4F32 (o : OpDBEKSR) : BitVec 64 := (o.pack 46#8 23#5 0#1).setWidth 64
/-- `VCVT_F32_Q4`. -/
def wordVcvtF32Q4 (o : OpDBEKSR) : BitVec 64 := (o.pack 46#8 24#5 0#1).setWidth 64
/-- `VCVT_H_Q4`. -/
def wordVcvtHQ4 (o : OpDBEKSR) : BitVec 64 := (o.pack 46#8 25#5 0#1).setWidth 64
/-- `VCMP_EQ_VV`. -/
def wordVcmpEqVV (o : OpD3ABCEK) : BitVec 64 := (o.pack 50#8 0#2 0#4).setWidth 64
/-- `VCMP_EQ_VX`. -/
def wordVcmpEqVX (o : OpD3ABCK) : BitVec 64 := (o.pack 54#8 0#2 0#1 0#4).setWidth 64
/-- `VCMP_NE_VV`. -/
def wordVcmpNeVV (o : OpD3ABCEK) : BitVec 64 := (o.pack 50#8 0#2 1#4).setWidth 64
/-- `VCMP_NE_VX`. -/
def wordVcmpNeVX (o : OpD3ABCK) : BitVec 64 := (o.pack 54#8 0#2 0#1 1#4).setWidth 64
/-- `VCMP_LT_VV`. -/
def wordVcmpLtVV (o : OpD3ABCEK) : BitVec 64 := (o.pack 50#8 0#2 2#4).setWidth 64
/-- `VCMP_LT_VX`. -/
def wordVcmpLtVX (o : OpD3ABCK) : BitVec 64 := (o.pack 54#8 0#2 0#1 2#4).setWidth 64
/-- `VCMP_LE_VV`. -/
def wordVcmpLeVV (o : OpD3ABCEK) : BitVec 64 := (o.pack 50#8 0#2 3#4).setWidth 64
/-- `VCMP_LE_VX`. -/
def wordVcmpLeVX (o : OpD3ABCK) : BitVec 64 := (o.pack 54#8 0#2 0#1 3#4).setWidth 64
/-- `VCMP_LTN_VV`. -/
def wordVcmpLtnVV (o : OpD3ABCEK) : BitVec 64 := (o.pack 50#8 0#2 4#4).setWidth 64
/-- `VCMP_LTN_VX`. -/
def wordVcmpLtnVX (o : OpD3ABCK) : BitVec 64 := (o.pack 54#8 0#2 0#1 4#4).setWidth 64
/-- `VCMP_LEN_VV`. -/
def wordVcmpLenVV (o : OpD3ABCEK) : BitVec 64 := (o.pack 50#8 0#2 5#4).setWidth 64
/-- `VCMP_LEN_VX`. -/
def wordVcmpLenVX (o : OpD3ABCK) : BitVec 64 := (o.pack 54#8 0#2 0#1 5#4).setWidth 64
/-- `VCMP_GT_VV`. -/
def wordVcmpGtVV (o : OpD3ABCEK) : BitVec 64 := (o.pack 50#8 0#2 6#4).setWidth 64
/-- `VCMP_GT_VX`. -/
def wordVcmpGtVX (o : OpD3ABCK) : BitVec 64 := (o.pack 54#8 0#2 0#1 6#4).setWidth 64
/-- `VCMP_GE_VV`. -/
def wordVcmpGeVV (o : OpD3ABCEK) : BitVec 64 := (o.pack 50#8 0#2 7#4).setWidth 64
/-- `VCMP_GE_VX`. -/
def wordVcmpGeVX (o : OpD3ABCK) : BitVec 64 := (o.pack 54#8 0#2 0#1 7#4).setWidth 64
/-- `VCMP_FEQ_VV`. -/
def wordVcmpFeqVV (o : OpD3ABCEK) : BitVec 64 := (o.pack 50#8 0#2 8#4).setWidth 64
/-- `VCMP_FEQ_VX`. -/
def wordVcmpFeqVX (o : OpD3ABCK) : BitVec 64 := (o.pack 54#8 0#2 0#1 8#4).setWidth 64
/-- `VCMP_FNE_VV`. -/
def wordVcmpFneVV (o : OpD3ABCEK) : BitVec 64 := (o.pack 50#8 0#2 9#4).setWidth 64
/-- `VCMP_FNE_VX`. -/
def wordVcmpFneVX (o : OpD3ABCK) : BitVec 64 := (o.pack 54#8 0#2 0#1 9#4).setWidth 64
/-- `VCMP_FLT_VV`. -/
def wordVcmpFltVV (o : OpD3ABCEK) : BitVec 64 := (o.pack 50#8 0#2 10#4).setWidth 64
/-- `VCMP_FLT_VX`. -/
def wordVcmpFltVX (o : OpD3ABCK) : BitVec 64 := (o.pack 54#8 0#2 0#1 10#4).setWidth 64
/-- `VCMP_FLE_VV`. -/
def wordVcmpFleVV (o : OpD3ABCEK) : BitVec 64 := (o.pack 50#8 0#2 11#4).setWidth 64
/-- `VCMP_FLE_VX`. -/
def wordVcmpFleVX (o : OpD3ABCK) : BitVec 64 := (o.pack 54#8 0#2 0#1 11#4).setWidth 64
/-- `VCMP_FGT_VV`. -/
def wordVcmpFgtVV (o : OpD3ABCEK) : BitVec 64 := (o.pack 50#8 0#2 12#4).setWidth 64
/-- `VCMP_FGT_VX`. -/
def wordVcmpFgtVX (o : OpD3ABCK) : BitVec 64 := (o.pack 54#8 0#2 0#1 12#4).setWidth 64
/-- `VCMP_FGE_VV`. -/
def wordVcmpFgeVV (o : OpD3ABCEK) : BitVec 64 := (o.pack 50#8 0#2 13#4).setWidth 64
/-- `VCMP_FGE_VX`. -/
def wordVcmpFgeVX (o : OpD3ABCK) : BitVec 64 := (o.pack 54#8 0#2 0#1 13#4).setWidth 64
/-- `VCMP_FUNORD_VV`. -/
def wordVcmpFunordVV (o : OpD3ABCEK) : BitVec 64 := (o.pack 50#8 0#2 14#4).setWidth 64
/-- `VCMP_FUNORD_VX`. -/
def wordVcmpFunordVX (o : OpD3ABCK) : BitVec 64 := (o.pack 54#8 0#2 0#1 14#4).setWidth 64
/-- `VCMP_FORD_VV`. -/
def wordVcmpFordVV (o : OpD3ABCEK) : BitVec 64 := (o.pack 50#8 0#2 15#4).setWidth 64
/-- `VCMP_FORD_VX`. -/
def wordVcmpFordVX (o : OpD3ABCK) : BitVec 64 := (o.pack 54#8 0#2 0#1 15#4).setWidth 64
/-- `KAND`. -/
def wordKand (o : OpD3A3B3CEK) : BitVec 64 := (o.pack 58#8 0#2 0#2 0#2 0#4).setWidth 64
/-- `KOR`. -/
def wordKor (o : OpD3A3B3CEK) : BitVec 64 := (o.pack 58#8 0#2 0#2 0#2 1#4).setWidth 64
/-- `KXOR`. -/
def wordKxor (o : OpD3A3B3CEK) : BitVec 64 := (o.pack 58#8 0#2 0#2 0#2 2#4).setWidth 64
/-- `KANDN`. -/
def wordKandn (o : OpD3A3B3CEK) : BitVec 64 := (o.pack 58#8 0#2 0#2 0#2 3#4).setWidth 64
/-- `KNOT`. -/
def wordKnot (o : OpD3B3EK) : BitVec 64 := (o.pack 58#8 0#7 0#3 4#4).setWidth 64
/-- `KMOV`. -/
def wordKmov (o : OpD3B3EK) : BitVec 64 := (o.pack 58#8 0#7 0#3 5#4).setWidth 64
/-- `KPOP`. -/
def wordKpop (o : OpDB3EK) : BitVec 64 := (o.pack 58#8 0#5 0#3 6#4).setWidth 64
/-- `KFIRST`. -/
def wordKfirst (o : OpDB3EK) : BitVec 64 := (o.pack 58#8 0#5 0#3 7#4).setWidth 64
/-- `KIOTA`. -/
def wordKiota (o : OpDB3EK) : BitVec 64 := (o.pack 58#8 0#5 0#3 8#4).setWidth 64
/-- `VMERGE`. -/
def wordVmerge (o : OpDABCEK) : BitVec 64 := (o.pack 58#8 9#4).setWidth 64
/-- `VCOMPRESS`. -/
def wordVcompress (o : OpDBEK) : BitVec 64 := (o.pack 58#8 0#5 0#1 10#4).setWidth 64
/-- `VEXPAND`. -/
def wordVexpand (o : OpDBEK) : BitVec 64 := (o.pack 58#8 0#5 0#1 11#4).setWidth 64
/-- `KSETX`. -/
def wordKsetx (o : OpD3ABK) : BitVec 64 := (o.pack 58#8 0#2 0#2 12#4).setWidth 64
/-- `VSLIDEUP`. -/
def wordVslideup (o : OpDABCK) : BitVec 64 := (o.pack 62#8 0#1 0#4).setWidth 64
/-- `VSLIDEDN`. -/
def wordVslidedn (o : OpDABCK) : BitVec 64 := (o.pack 62#8 0#1 1#4).setWidth 64
/-- `VPERMV`. -/
def wordVpermv (o : OpDABCEK) : BitVec 64 := (o.pack 62#8 2#4).setWidth 64
/-- `VBCAST`. -/
def wordVbcast (o : OpDABCK) : BitVec 64 := (o.pack 62#8 0#1 3#4).setWidth 64
/-- `VEXTRACT`. -/
def wordVextract (o : OpDABC) : BitVec 64 := (o.pack 62#8 64#8).setWidth 64
/-- `VINSERT`. -/
def wordVinsert (o : OpDAB) : BitVec 64 := (o.pack 62#8 160#9).setWidth 64
/-- `VILV`. -/
def wordVilv (o : OpDABCEK) : BitVec 64 := (o.pack 62#8 6#4).setWidth 64
/-- `VDILV`. -/
def wordVdilv (o : OpDACK) : BitVec 64 := (o.pack 62#8 0#5 0#1 7#4).setWidth 64
/-- `VID`. -/
def wordVid (o : OpDK) : BitVec 64 := (o.pack 62#8 0#12 8#4).setWidth 64
/-- `VRAND`. -/
def wordVrand (o : OpDAK) : BitVec 64 := (o.pack 62#8 0#7 9#4).setWidth 64
/-- `VMV_V`. -/
def wordVmvV (o : OpDBEK) : BitVec 64 := (o.pack 62#8 0#5 0#1 10#4).setWidth 64
/-- `VMV_X`. -/
def wordVmvX (o : OpDBK) : BitVec 64 := (o.pack 62#8 1#5 0#2 10#4).setWidth 64
/-- `VREDSUM`. -/
def wordVredsum (o : OpDABCEK) : BitVec 64 := (o.pack 66#8 0#4).setWidth 64
/-- `VREDMIN`. -/
def wordVredmin (o : OpDABCEK) : BitVec 64 := (o.pack 66#8 1#4).setWidth 64
/-- `VREDMAX`. -/
def wordVredmax (o : OpDABCEK) : BitVec 64 := (o.pack 66#8 2#4).setWidth 64
/-- `VREDMINN`. -/
def wordVredminn (o : OpDABCEK) : BitVec 64 := (o.pack 66#8 3#4).setWidth 64
/-- `VREDMAXN`. -/
def wordVredmaxn (o : OpDABCEK) : BitVec 64 := (o.pack 66#8 4#4).setWidth 64
/-- `VREDAND`. -/
def wordVredand (o : OpDABCEK) : BitVec 64 := (o.pack 66#8 5#4).setWidth 64
/-- `VREDOR`. -/
def wordVredor (o : OpDABCEK) : BitVec 64 := (o.pack 66#8 6#4).setWidth 64
/-- `VREDXOR`. -/
def wordVredxor (o : OpDABCEK) : BitVec 64 := (o.pack 66#8 7#4).setWidth 64
/-- `VFSUM`. -/
def wordVfsum (o : OpDABCEK) : BitVec 64 := (o.pack 66#8 8#4).setWidth 64
/-- `VFSUMO`. -/
def wordVfsumo (o : OpDABCEK) : BitVec 64 := (o.pack 66#8 9#4).setWidth 64
/-- `VFREDMIN`. -/
def wordVfredmin (o : OpDABCEK) : BitVec 64 := (o.pack 66#8 10#4).setWidth 64
/-- `VFREDMAX`. -/
def wordVfredmax (o : OpDABCEK) : BitVec 64 := (o.pack 66#8 11#4).setWidth 64
/-- `VWSUM`. -/
def wordVwsum (o : OpDABCEK) : BitVec 64 := (o.pack 66#8 12#4).setWidth 64
/-- `VBSHL`. -/
def wordVbshl (o : OpDABCK) : BitVec 64 := (o.pack 70#8 0#1 0#4).setWidth 64
/-- `VBSHR`. -/
def wordVbshr (o : OpDABCK) : BitVec 64 := (o.pack 70#8 0#1 1#4).setWidth 64
/-- `VBFUN`. -/
def wordVbfun (o : OpDABCK) : BitVec 64 := (o.pack 70#8 0#1 2#4).setWidth 64
/-- `VTERNLOG`. -/
def wordVternlog (o : OpDABI) : BitVec 64 := (o.pack 74#8 0#1).setWidth 64
/-- `VLD`. -/
def wordVld (o : OpDAOK) : BitVec 64 := (o.pack 78#8 0#6 0#4).setWidth 64
/-- `VLD_REG`. -/
def wordVldReg (o : OpDA) : BitVec 64 := (o.pack 78#8 1024#14).setWidth 64
/-- `VLDS`. -/
def wordVlds (o : OpDABOK) : BitVec 64 := (o.pack 82#8 0#1 0#4).setWidth 64
/-- `VLDX`. -/
def wordVldx (o : OpDABCOK) : BitVec 64 := (o.pack 86#8 0#4).setWidth 64
/-- `VST`. -/
def wordVst (o : OpDACOK) : BitVec 64 := (o.pack 90#8 0#5 0#4).setWidth 64
/-- `VST_REG`. -/
def wordVstReg (o : OpDAC) : BitVec 64 := (o.pack 90#8 0#5 16#8).setWidth 64
/-- `VSTS`. -/
def wordVsts (o : OpDABCOK) : BitVec 64 := (o.pack 94#8 0#4).setWidth 64
/-- `VSTX`. -/
def wordVstx (o : OpDABCOK) : BitVec 64 := (o.pack 98#8 0#4).setWidth 64
/-- `VGLL`. -/
def wordVgll (o : OpDABCK) : BitVec 64 := (o.pack 102#8 0#1 0#4).setWidth 64
/-- `VSCC`. -/
def wordVscc (o : OpDABCK) : BitVec 64 := (o.pack 106#8 0#1 0#4).setWidth 64
/-- `VACC`. -/
def wordVacc (o : OpDABCK) : BitVec 64 := (o.pack 110#8 0#1 0#4).setWidth 64
/-- `VLDW_E4_H`. -/
def wordVldwE4H (o : OpDABK) : BitVec 64 := (o.pack 114#8 0#2 0#4).setWidth 64
/-- `VLDW_E4_BF`. -/
def wordVldwE4Bf (o : OpDABK) : BitVec 64 := (o.pack 114#8 0#2 1#4).setWidth 64
/-- `VLDW_E4_B8`. -/
def wordVldwE4B8 (o : OpDABK) : BitVec 64 := (o.pack 114#8 0#2 2#4).setWidth 64
/-- `VLDW_Q4_H`. -/
def wordVldwQ4H (o : OpDABK) : BitVec 64 := (o.pack 114#8 0#2 4#4).setWidth 64
/-- `VLDW_Q4_BF`. -/
def wordVldwQ4Bf (o : OpDABK) : BitVec 64 := (o.pack 114#8 0#2 5#4).setWidth 64
/-- `VLDW_Q4_B8`. -/
def wordVldwQ4B8 (o : OpDABK) : BitVec 64 := (o.pack 114#8 0#2 6#4).setWidth 64
/-- `GSUB`. -/
def wordGsub (o : OpDABCEK) : BitVec 64 := (o.pack 118#8 0#4).setWidth 64
/-- `GADD`. -/
def wordGadd (o : OpDABCEK) : BitVec 64 := (o.pack 118#8 1#4).setWidth 64
/-- `GLEN`. -/
def wordGlen (o : OpDBEK) : BitVec 64 := (o.pack 118#8 0#5 0#1 2#4).setWidth 64
/-- `GTAG`. -/
def wordGtag (o : OpDBEK) : BitVec 64 := (o.pack 118#8 0#5 0#1 3#4).setWidth 64
/-- `GPACK`. -/
def wordGpack (o : OpDABCEK) : BitVec 64 := (o.pack 118#8 4#4).setWidth 64
/-- `GUNPACK`. -/
def wordGunpack (o : OpDBEK) : BitVec 64 := (o.pack 118#8 0#5 0#1 5#4).setWidth 64
/-- `GREHOME`. -/
def wordGrehome (o : OpDBEK) : BitVec 64 := (o.pack 118#8 0#5 0#1 6#4).setWidth 64
/-- `GDOT`. -/
def wordGdot (o : OpDABCEK) : BitVec 64 := (o.pack 118#8 7#4).setWidth 64
/-- `GCVT`. -/
def wordGcvt (o : OpDABCK) : BitVec 64 := (o.pack 122#8 0#1 0#4).setWidth 64
/-- `GSCL`. -/
def wordGscl (o : OpDABCK) : BitVec 64 := (o.pack 122#8 0#1 1#4).setWidth 64
/-- `GSETTAG`. -/
def wordGsettag (o : OpDABCK) : BitVec 64 := (o.pack 122#8 0#1 2#4).setWidth 64
/-- `GMORTON`. -/
def wordGmorton (o : OpDABCK) : BitVec 64 := (o.pack 126#8 0#1 0#4).setWidth 64
/-- `GNBR`. -/
def wordGnbr (o : OpDABCK) : BitVec 64 := (o.pack 126#8 0#1 1#4).setWidth 64
/-- `VCELLINS`. -/
def wordVcellins (o : OpDABEK) : BitVec 64 := (o.pack 126#8 0#1 2#4).setWidth 64
/-- `VCELLFIND`. -/
def wordVcellfind (o : OpDABEK) : BitVec 64 := (o.pack 126#8 0#1 3#4).setWidth 64
/-- `RECUR`. -/
def wordRecur (o : OpDAB) : BitVec 64 := (o.pack 130#8 0#9).setWidth 64
/-- `RSPAWN`. -/
def wordRspawn (o : OpACK) : BitVec 64 := (o.pack 130#13 0#5 0#1 1#4).setWidth 64
/-- `RRET`. -/
def wordRret (o : OpACK) : BitVec 64 := (o.pack 130#13 0#5 0#1 2#4).setWidth 64
/-- `RKIDS`. -/
def wordRkids (o : OpDBK) : BitVec 64 := (o.pack 130#8 0#5 0#2 3#4).setWidth 64
/-- `RDEPTH`. -/
def wordRdepth (o : OpDK) : BitVec 64 := (o.pack 130#8 0#12 4#4).setWidth 64
/-- `RNKID`. -/
def wordRnkid (o : OpDK) : BitVec 64 := (o.pack 130#8 0#12 5#4).setWidth 64
/-- `MZERO`. -/
def wordMzero (o : OpD) : BitVec 64 := (o.pack 134#8 0#19).setWidth 64
/-- `MROWV`. -/
def wordMrowv (o : OpDABK) : BitVec 64 := (o.pack 134#8 0#2 1#4).setWidth 64
/-- `MVROW`. -/
def wordMvrow (o : OpDABCK) : BitVec 64 := (o.pack 134#8 0#1 2#4).setWidth 64
/-- `MCOLV`. -/
def wordMcolv (o : OpDABK) : BitVec 64 := (o.pack 134#8 0#2 3#4).setWidth 64
/-- `MVCOL`. -/
def wordMvcol (o : OpDABCK) : BitVec 64 := (o.pack 134#8 0#1 4#4).setWidth 64
/-- `MDRAIN`. -/
def wordMdrain (o : OpDAB) : BitVec 64 := (o.pack 134#8 160#9).setWidth 64
/-- `MLOAD`. -/
def wordMload (o : OpDAB) : BitVec 64 := (o.pack 134#8 192#9).setWidth 64
/-- `AMERGE`. -/
def wordAmerge (o : OpAB) : BitVec 64 := (o.pack 138#13 0#9).setWidth 64
/-- `SACC`. -/
def wordSacc (o : OpAB) : BitVec 64 := (o.pack 138#13 32#9).setWidth 64
/-- `OPACC`. -/
def wordOpacc (o : OpTile) : BitVec 64 := o.pack 0#6
/-- `OPSUB`. -/
def wordOpsub (o : OpTile) : BitVec 64 := o.pack 1#6
/-- `OPACCW`. -/
def wordOpaccw (o : OpTile) : BitVec 64 := o.pack 2#6
/-- `C_ADDI`. -/
def wordCAddi (o : OpCDI) : BitVec 64 := (o.pack 4#6).setWidth 64
/-- `C_MV`. -/
def wordCMv (o : OpCDS) : BitVec 64 := (o.pack 8#6).setWidth 64
/-- `C_ADD`. -/
def wordCAdd (o : OpCDS) : BitVec 64 := (o.pack 12#6).setWidth 64
/-- `C_SUB`. -/
def wordCSub (o : OpCDS) : BitVec 64 := (o.pack 16#6).setWidth 64
/-- `C_LD`. -/
def wordCLd (o : OpCDAO) : BitVec 64 := (o.pack 20#6).setWidth 64
/-- `C_SD`. -/
def wordCSd (o : OpCSAO) : BitVec 64 := (o.pack 24#6).setWidth 64
/-- `C_LW`. -/
def wordCLw (o : OpCDAO) : BitVec 64 := (o.pack 28#6).setWidth 64
/-- `C_SW`. -/
def wordCSw (o : OpCSAO) : BitVec 64 := (o.pack 32#6).setWidth 64
/-- `C_J`. -/
def wordCJ (o : OpCO) : BitVec 64 := (o.pack 36#6).setWidth 64
/-- `C_BEQZ`. -/
def wordCBeqz (o : OpCSO) : BitVec 64 := (o.pack 40#6).setWidth 64
/-- `C_BNEZ`. -/
def wordCBnez (o : OpCSO) : BitVec 64 := (o.pack 44#6).setWidth 64
/-- `C_VFETCH`. -/
def wordCVfetch (o : OpCA) : BitVec 64 := (o.pack 48#6 0#5).setWidth 64

/-- The bits of an instruction: its fields between the fixed bits of its row. A device step has no bits. -/
def encode (i : Instr) : BitVec 64 :=
  match i with
  | .powerGood => 0#64
  | .bringupStageComplete _ => 0#64
  | .ctrlWreset _ => 0#64
  | .ctrlBootretry _ => 0#64
  | .ctrlModelock _ => 0#64
  | .ctrlCfglock _ => 0#64
  | .ctrlWinlock _ => 0#64
  | .hsemRead _ => 0#64
  | .hsemRelease _ => 0#64
  | .funcmodeWrite _ _ => 0#64
  | .registerWrite _ _ _ => 0#64
  | .hostLinkDown _ => 0#64
  | .wakeWindowWrite _ _ _ => 0#64
  | .evackWrite _ _ => 0#64
  | .eventPost _ => 0#64
  | .launchRequestGo _ _ => 0#64
  | .sealWindowSeal _ => 0#64
  | .sealWindowRevoke _ => 0#64
  | .preemptTimer _ _ => 0#64
  | .preemptHost _ _ => 0#64
  | .migrationGo _ => 0#64
  | .migrationRetire _ => 0#64
  | .watchdogWrite _ => 0#64
  | .watchdogExpiry _ => 0#64
  | .backgroundInitRegion => 0#64
  | .graphSubmissionPop _ => 0#64
  | .nodeStart _ _ => 0#64
  | .readyRingPost _ _ => 0#64
  | .nodeFinish _ _ => 0#64
  | .remoteSuccessorReady _ _ => 0#64
  | .completionPushRetry _ => 0#64
  | .admissionGranted _ => 0#64
  | .jobComplete _ => 0#64
  | .jobEndByRecovery _ => 0#64
  | .stripBoundaryGrantChange _ => 0#64
  | .forcedBoundary _ => 0#64
  | .leaseStallPreempt _ => 0#64
  | .clusterRetire _ _ _ => 0#64
  | .vectorEntryComplete _ => 0#64
  | .readQueueReturn _ => 0#64
  | .blockGroupCommit _ => 0#64
  | .stripAssign _ => 0#64
  | .hartHaltComplete _ => 0#64
  | .trapTake _ => 0#64
  | .translationFaultReply _ _ => 0#64
  | .engineTransferStart _ _ => 0#64
  | .engineChunkComplete _ _ => 0#64
  | .engineTransferComplete _ _ => 0#64
  | .mdrainTransferComplete _ _ => 0#64
  | .recursionPassComplete _ => 0#64
  | .directoryReadRequest _ _ _ => 0#64
  | .directoryWriteRequest _ _ _ => 0#64
  | .invalidation _ _ _ => 0#64
  | .invalidationAck _ _ _ => 0#64
  | .evictionNotice _ _ _ => 0#64
  | .forwardSnoop _ _ _ => 0#64
  | .writeBack _ _ _ => 0#64
  | .backInvalidation _ => 0#64
  | .uRequest _ _ _ _ => 0#64
  | .mergeRequest _ => 0#64
  | .mergeResponse _ => 0#64
  | .movedResponse _ _ => 0#64
  | .hostCxlRequest _ _ _ _ => 0#64
  | .bisnpResponse _ _ => 0#64
  | .hostSnoop _ _ => 0#64
  | .dieResetRecall _ => 0#64
  | .dieReturn _ => 0#64
  | .memoryScrub _ => 0#64
  | .correctedError _ _ => 0#64
  | .burzerCrcReplay _ => 0#64
  | .burzerHeartbeat _ => 0#64
  | .peerSilenceTimeout _ => 0#64
  | .spareAssign _ => 0#64
  | .checkpointRestore => 0#64
  | .checkpointWrite => 0#64
  | .thermalShutdown => 0#64
  | .coolantLossShutdown => 0#64
  | .clockThrottle _ _ => 0#64
  | .wfeTimeout _ => 0#64
  | .waitmTimeout _ => 0#64
  | .add o => wordAdd o
  | .sub o => wordSub o
  | .and o => wordAnd o
  | .or o => wordOr o
  | .xor o => wordXor o
  | .sll o => wordSll o
  | .srl o => wordSrl o
  | .sra o => wordSra o
  | .slt o => wordSlt o
  | .sltn o => wordSltn o
  | .min o => wordMin o
  | .max o => wordMax o
  | .minn o => wordMinn o
  | .maxn o => wordMaxn o
  | .andn o => wordAndn o
  | .orn o => wordOrn o
  | .rol o => wordRol o
  | .ror o => wordRor o
  | .addw o => wordAddw o
  | .subw o => wordSubw o
  | .mul o => wordMul o
  | .mulh o => wordMulh o
  | .mulhn o => wordMulhn o
  | .mulhsn o => wordMulhsn o
  | .div o => wordDiv o
  | .divn o => wordDivn o
  | .rem o => wordRem o
  | .remn o => wordRemn o
  | .fadd o => wordFadd o
  | .fsub o => wordFsub o
  | .fmul o => wordFmul o
  | .fdiv o => wordFdiv o
  | .fsqrt o => wordFsqrt o
  | .fmin o => wordFmin o
  | .fmax o => wordFmax o
  | .fsgnj o => wordFsgnj o
  | .fsgnjn o => wordFsgnjn o
  | .fsgnjx o => wordFsgnjx o
  | .feq o => wordFeq o
  | .flt o => wordFlt o
  | .fle o => wordFle o
  | .fclass o => wordFclass o
  | .fma o => wordFma o
  | .fms o => wordFms o
  | .fnma o => wordFnma o
  | .fnms o => wordFnms o
  | .addi o => wordAddi o
  | .andi o => wordAndi o
  | .ori o => wordOri o
  | .xori o => wordXori o
  | .slti o => wordSlti o
  | .sltni o => wordSltni o
  | .slli o => wordSlli o
  | .srli o => wordSrli o
  | .srai o => wordSrai o
  | .roli o => wordRoli o
  | .lui o => wordLui o
  | .auipc o => wordAuipc o
  | .lb o => wordLb o
  | .lh o => wordLh o
  | .lw o => wordLw o
  | .ld o => wordLd o
  | .lbn o => wordLbn o
  | .lhn o => wordLhn o
  | .lwn o => wordLwn o
  | .sb o => wordSb o
  | .sh o => wordSh o
  | .sw o => wordSw o
  | .sd o => wordSd o
  | .beq o => wordBeq o
  | .bne o => wordBne o
  | .blt o => wordBlt o
  | .bge o => wordBge o
  | .bltn o => wordBltn o
  | .bgen o => wordBgen o
  | .jal o => wordJal o
  | .jalr o => wordJalr o
  | .amoswapW o => wordAmoswapW o
  | .amoaddW o => wordAmoaddW o
  | .amoandW o => wordAmoandW o
  | .amoorW o => wordAmoorW o
  | .amoxorW o => wordAmoxorW o
  | .amominW o => wordAmominW o
  | .amomaxW o => wordAmomaxW o
  | .amominnW o => wordAmominnW o
  | .amomaxnW o => wordAmomaxnW o
  | .amoswapD o => wordAmoswapD o
  | .amoaddD o => wordAmoaddD o
  | .amoandD o => wordAmoandD o
  | .amoorD o => wordAmoorD o
  | .amoxorD o => wordAmoxorD o
  | .amominD o => wordAmominD o
  | .amomaxD o => wordAmomaxD o
  | .amominnD o => wordAmominnD o
  | .amomaxnD o => wordAmomaxnD o
  | .cas o => wordCas o
  | .fence o => wordFence o
  | .pause => wordPause
  | .waitm o => wordWaitm o
  | .arrive o => wordArrive o
  | .await o => wordAwait o
  | .gbar o => wordGbar o
  | .gbarRlx o => wordGbarRlx o
  | .csrrw o => wordCsrrw o
  | .csrrs o => wordCsrrs o
  | .csrrc o => wordCsrrc o
  | .csrrwi o => wordCsrrwi o
  | .csrrsi o => wordCsrrsi o
  | .csrrci o => wordCsrrci o
  | .trap o => wordTrap o
  | .trapBrk => wordTrapBrk
  | .tret => wordTret
  | .halt => wordHalt
  | .wfe => wordWfe
  | .tlbinv o => wordTlbinv o
  | .cflush o => wordCflush o
  | .cinval o => wordCinval o
  | .pin o => wordPin o
  | .unpin o => wordUnpin o
  | .vqsave o => wordVqsave o
  | .vqload o => wordVqload o
  | .finval o => wordFinval o
  | .clz o => wordClz o
  | .ctz o => wordCtz o
  | .popc o => wordPopc o
  | .bswap o => wordBswap o
  | .sextb o => wordSextb o
  | .sexth o => wordSexth o
  | .sextw o => wordSextw o
  | .zextb o => wordZextb o
  | .zexth o => wordZexth o
  | .zextw o => wordZextw o
  | .qpush o => wordQpush o
  | .qpop o => wordQpop o
  | .qpeek o => wordQpeek o
  | .qwake o => wordQwake o
  | .qseal o => wordQseal o
  | .qrevoke o => wordQrevoke o
  | .qgrow o => wordQgrow o
  | .cpy o => wordCpy o
  | .cpybt o => wordCpybt o
  | .cpywait => wordCpywait
  | .nsub o => wordNsub o
  | .cpyfill o => wordCpyfill o
  | .fcvtI32F32 o => wordFcvtI32F32 o
  | .fcvtN32F32 o => wordFcvtN32F32 o
  | .fcvtI64F32 o => wordFcvtI64F32 o
  | .fcvtN64F32 o => wordFcvtN64F32 o
  | .fcvtF32I32 o => wordFcvtF32I32 o
  | .fcvtF32N32 o => wordFcvtF32N32 o
  | .fcvtF32I64 o => wordFcvtF32I64 o
  | .fcvtF32N64 o => wordFcvtF32N64 o
  | .fcvtI32F64 o => wordFcvtI32F64 o
  | .fcvtN32F64 o => wordFcvtN32F64 o
  | .fcvtI64F64 o => wordFcvtI64F64 o
  | .fcvtN64F64 o => wordFcvtN64F64 o
  | .fcvtF64I32 o => wordFcvtF64I32 o
  | .fcvtF64N32 o => wordFcvtF64N32 o
  | .fcvtF64I64 o => wordFcvtF64I64 o
  | .fcvtF64N64 o => wordFcvtF64N64 o
  | .fcvtF32F64 o => wordFcvtF32F64 o
  | .fcvtF64F32 o => wordFcvtF64F32 o
  | .vsetl o => wordVsetl o
  | .vlease o => wordVlease o
  | .vfork o => wordVfork o
  | .vjoin o => wordVjoin o
  | .vfetch o => wordVfetch o
  | .vfetchw o => wordVfetchw o
  | .vloop o => wordVloop o
  | .vcommit => wordVcommit
  | .endb => wordEndb
  | .mmode o => wordMmode o
  | .mshape o => wordMshape o
  | .vaddVV o => wordVaddVV o
  | .vaddVX o => wordVaddVX o
  | .vaddVI o => wordVaddVI o
  | .vsubVV o => wordVsubVV o
  | .vsubVX o => wordVsubVX o
  | .vsubVI o => wordVsubVI o
  | .vrsubVV o => wordVrsubVV o
  | .vrsubVX o => wordVrsubVX o
  | .vrsubVI o => wordVrsubVI o
  | .vmulVV o => wordVmulVV o
  | .vmulVX o => wordVmulVX o
  | .vmulVI o => wordVmulVI o
  | .vmulhVV o => wordVmulhVV o
  | .vmulhVX o => wordVmulhVX o
  | .vmulhVI o => wordVmulhVI o
  | .vmulhnVV o => wordVmulhnVV o
  | .vmulhnVX o => wordVmulhnVX o
  | .vmulhnVI o => wordVmulhnVI o
  | .vandVV o => wordVandVV o
  | .vandVX o => wordVandVX o
  | .vandVI o => wordVandVI o
  | .vorVV o => wordVorVV o
  | .vorVX o => wordVorVX o
  | .vorVI o => wordVorVI o
  | .vxorVV o => wordVxorVV o
  | .vxorVX o => wordVxorVX o
  | .vxorVI o => wordVxorVI o
  | .vsllVV o => wordVsllVV o
  | .vsllVX o => wordVsllVX o
  | .vsllVI o => wordVsllVI o
  | .vsrlVV o => wordVsrlVV o
  | .vsrlVX o => wordVsrlVX o
  | .vsrlVI o => wordVsrlVI o
  | .vsraVV o => wordVsraVV o
  | .vsraVX o => wordVsraVX o
  | .vsraVI o => wordVsraVI o
  | .vminVV o => wordVminVV o
  | .vminVX o => wordVminVX o
  | .vminVI o => wordVminVI o
  | .vmaxVV o => wordVmaxVV o
  | .vmaxVX o => wordVmaxVX o
  | .vmaxVI o => wordVmaxVI o
  | .vminnVV o => wordVminnVV o
  | .vminnVX o => wordVminnVX o
  | .vminnVI o => wordVminnVI o
  | .vmaxnVV o => wordVmaxnVV o
  | .vmaxnVX o => wordVmaxnVX o
  | .vmaxnVI o => wordVmaxnVI o
  | .vsaddVV o => wordVsaddVV o
  | .vsaddVX o => wordVsaddVX o
  | .vssubVV o => wordVssubVV o
  | .vssubVX o => wordVssubVX o
  | .vsaddnVV o => wordVsaddnVV o
  | .vsaddnVX o => wordVsaddnVX o
  | .vssubnVV o => wordVssubnVV o
  | .vssubnVX o => wordVssubnVX o
  | .vdivVV o => wordVdivVV o
  | .vdivVX o => wordVdivVX o
  | .vdivnVV o => wordVdivnVV o
  | .vdivnVX o => wordVdivnVX o
  | .vremVV o => wordVremVV o
  | .vremVX o => wordVremVX o
  | .vremnVV o => wordVremnVV o
  | .vremnVX o => wordVremnVX o
  | .vmaccVV o => wordVmaccVV o
  | .vmaccVX o => wordVmaccVX o
  | .vnmsacVV o => wordVnmsacVV o
  | .vnmsacVX o => wordVnmsacVX o
  | .vavgVV o => wordVavgVV o
  | .vavgVX o => wordVavgVX o
  | .vavgnVV o => wordVavgnVV o
  | .vavgnVX o => wordVavgnVX o
  | .vabs o => wordVabs o
  | .vneg o => wordVneg o
  | .vpopc o => wordVpopc o
  | .vclz o => wordVclz o
  | .vwaddVV o => wordVwaddVV o
  | .vwaddVX o => wordVwaddVX o
  | .vwaddnVV o => wordVwaddnVV o
  | .vwaddnVX o => wordVwaddnVX o
  | .vwsubVV o => wordVwsubVV o
  | .vwsubVX o => wordVwsubVX o
  | .vwsubnVV o => wordVwsubnVV o
  | .vwsubnVX o => wordVwsubnVX o
  | .vwmulVV o => wordVwmulVV o
  | .vwmulVX o => wordVwmulVX o
  | .vwmulnVV o => wordVwmulnVV o
  | .vwmulnVX o => wordVwmulnVX o
  | .vwmaccVV o => wordVwmaccVV o
  | .vwmaccVX o => wordVwmaccVX o
  | .vwmaccnVV o => wordVwmaccnVV o
  | .vwmaccnVX o => wordVwmaccnVX o
  | .vnsrlVV o => wordVnsrlVV o
  | .vnsrlVX o => wordVnsrlVX o
  | .vnsraVV o => wordVnsraVV o
  | .vnsraVX o => wordVnsraVX o
  | .vnclipVV o => wordVnclipVV o
  | .vnclipVX o => wordVnclipVX o
  | .vnclipnVV o => wordVnclipnVV o
  | .vnclipnVX o => wordVnclipnVX o
  | .vfaddVV o => wordVfaddVV o
  | .vfaddVX o => wordVfaddVX o
  | .vfsubVV o => wordVfsubVV o
  | .vfsubVX o => wordVfsubVX o
  | .vfrsubVV o => wordVfrsubVV o
  | .vfrsubVX o => wordVfrsubVX o
  | .vfmulVV o => wordVfmulVV o
  | .vfmulVX o => wordVfmulVX o
  | .vfdivVV o => wordVfdivVV o
  | .vfdivVX o => wordVfdivVX o
  | .vfrdivVV o => wordVfrdivVV o
  | .vfrdivVX o => wordVfrdivVX o
  | .vfminVV o => wordVfminVV o
  | .vfminVX o => wordVfminVX o
  | .vfmaxVV o => wordVfmaxVV o
  | .vfmaxVX o => wordVfmaxVX o
  | .vfsgnjVV o => wordVfsgnjVV o
  | .vfsgnjVX o => wordVfsgnjVX o
  | .vfsgnjnVV o => wordVfsgnjnVV o
  | .vfsgnjnVX o => wordVfsgnjnVX o
  | .vfsgnjxVV o => wordVfsgnjxVV o
  | .vfsgnjxVX o => wordVfsgnjxVX o
  | .vfmaVV o => wordVfmaVV o
  | .vfmaVX o => wordVfmaVX o
  | .vfmsVV o => wordVfmsVV o
  | .vfmsVX o => wordVfmsVX o
  | .vfnmaVV o => wordVfnmaVV o
  | .vfnmaVX o => wordVfnmaVX o
  | .vfnmsVV o => wordVfnmsVV o
  | .vfnmsVX o => wordVfnmsVX o
  | .vfsqrt o => wordVfsqrt o
  | .vfrcp o => wordVfrcp o
  | .vfrsq o => wordVfrsq o
  | .vfexp2 o => wordVfexp2 o
  | .vflog2 o => wordVflog2 o
  | .vfsinp o => wordVfsinp o
  | .vfcosp o => wordVfcosp o
  | .vftanh o => wordVftanh o
  | .vfabs o => wordVfabs o
  | .vfneg o => wordVfneg o
  | .vfclass o => wordVfclass o
  | .vffloor o => wordVffloor o
  | .vfceil o => wordVfceil o
  | .vfround o => wordVfround o
  | .vcvtI32F32 o => wordVcvtI32F32 o
  | .vcvtN32F32 o => wordVcvtN32F32 o
  | .vcvtF32I32 o => wordVcvtF32I32 o
  | .vcvtF32N32 o => wordVcvtF32N32 o
  | .vcvtI64F64 o => wordVcvtI64F64 o
  | .vcvtN64F64 o => wordVcvtN64F64 o
  | .vcvtF64I64 o => wordVcvtF64I64 o
  | .vcvtF64N64 o => wordVcvtF64N64 o
  | .vcvtF64F32 o => wordVcvtF64F32 o
  | .vcvtF32F64 o => wordVcvtF32F64 o
  | .vcvtHF32 o => wordVcvtHF32 o
  | .vcvtBfF32 o => wordVcvtBfF32 o
  | .vcvtF32H o => wordVcvtF32H o
  | .vcvtF32Bf o => wordVcvtF32Bf o
  | .vcvtB8F32 o => wordVcvtB8F32 o
  | .vcvtF32B8 o => wordVcvtF32B8 o
  | .vcvtB8H o => wordVcvtB8H o
  | .vcvtHB8 o => wordVcvtHB8 o
  | .vcvtB8Bf o => wordVcvtB8Bf o
  | .vcvtBfB8 o => wordVcvtBfB8 o
  | .vcvtE4F32 o => wordVcvtE4F32 o
  | .vcvtF32E4 o => wordVcvtF32E4 o
  | .vcvtHE4 o => wordVcvtHE4 o
  | .vcvtQ4F32 o => wordVcvtQ4F32 o
  | .vcvtF32Q4 o => wordVcvtF32Q4 o
  | .vcvtHQ4 o => wordVcvtHQ4 o
  | .vcmpEqVV o => wordVcmpEqVV o
  | .vcmpEqVX o => wordVcmpEqVX o
  | .vcmpNeVV o => wordVcmpNeVV o
  | .vcmpNeVX o => wordVcmpNeVX o
  | .vcmpLtVV o => wordVcmpLtVV o
  | .vcmpLtVX o => wordVcmpLtVX o
  | .vcmpLeVV o => wordVcmpLeVV o
  | .vcmpLeVX o => wordVcmpLeVX o
  | .vcmpLtnVV o => wordVcmpLtnVV o
  | .vcmpLtnVX o => wordVcmpLtnVX o
  | .vcmpLenVV o => wordVcmpLenVV o
  | .vcmpLenVX o => wordVcmpLenVX o
  | .vcmpGtVV o => wordVcmpGtVV o
  | .vcmpGtVX o => wordVcmpGtVX o
  | .vcmpGeVV o => wordVcmpGeVV o
  | .vcmpGeVX o => wordVcmpGeVX o
  | .vcmpFeqVV o => wordVcmpFeqVV o
  | .vcmpFeqVX o => wordVcmpFeqVX o
  | .vcmpFneVV o => wordVcmpFneVV o
  | .vcmpFneVX o => wordVcmpFneVX o
  | .vcmpFltVV o => wordVcmpFltVV o
  | .vcmpFltVX o => wordVcmpFltVX o
  | .vcmpFleVV o => wordVcmpFleVV o
  | .vcmpFleVX o => wordVcmpFleVX o
  | .vcmpFgtVV o => wordVcmpFgtVV o
  | .vcmpFgtVX o => wordVcmpFgtVX o
  | .vcmpFgeVV o => wordVcmpFgeVV o
  | .vcmpFgeVX o => wordVcmpFgeVX o
  | .vcmpFunordVV o => wordVcmpFunordVV o
  | .vcmpFunordVX o => wordVcmpFunordVX o
  | .vcmpFordVV o => wordVcmpFordVV o
  | .vcmpFordVX o => wordVcmpFordVX o
  | .kand o => wordKand o
  | .kor o => wordKor o
  | .kxor o => wordKxor o
  | .kandn o => wordKandn o
  | .knot o => wordKnot o
  | .kmov o => wordKmov o
  | .kpop o => wordKpop o
  | .kfirst o => wordKfirst o
  | .kiota o => wordKiota o
  | .vmerge o => wordVmerge o
  | .vcompress o => wordVcompress o
  | .vexpand o => wordVexpand o
  | .ksetx o => wordKsetx o
  | .vslideup o => wordVslideup o
  | .vslidedn o => wordVslidedn o
  | .vpermv o => wordVpermv o
  | .vbcast o => wordVbcast o
  | .vextract o => wordVextract o
  | .vinsert o => wordVinsert o
  | .vilv o => wordVilv o
  | .vdilv o => wordVdilv o
  | .vid o => wordVid o
  | .vrand o => wordVrand o
  | .vmvV o => wordVmvV o
  | .vmvX o => wordVmvX o
  | .vredsum o => wordVredsum o
  | .vredmin o => wordVredmin o
  | .vredmax o => wordVredmax o
  | .vredminn o => wordVredminn o
  | .vredmaxn o => wordVredmaxn o
  | .vredand o => wordVredand o
  | .vredor o => wordVredor o
  | .vredxor o => wordVredxor o
  | .vfsum o => wordVfsum o
  | .vfsumo o => wordVfsumo o
  | .vfredmin o => wordVfredmin o
  | .vfredmax o => wordVfredmax o
  | .vwsum o => wordVwsum o
  | .vbshl o => wordVbshl o
  | .vbshr o => wordVbshr o
  | .vbfun o => wordVbfun o
  | .vternlog o => wordVternlog o
  | .vld o => wordVld o
  | .vldReg o => wordVldReg o
  | .vlds o => wordVlds o
  | .vldx o => wordVldx o
  | .vst o => wordVst o
  | .vstReg o => wordVstReg o
  | .vsts o => wordVsts o
  | .vstx o => wordVstx o
  | .vgll o => wordVgll o
  | .vscc o => wordVscc o
  | .vacc o => wordVacc o
  | .vldwE4H o => wordVldwE4H o
  | .vldwE4Bf o => wordVldwE4Bf o
  | .vldwE4B8 o => wordVldwE4B8 o
  | .vldwQ4H o => wordVldwQ4H o
  | .vldwQ4Bf o => wordVldwQ4Bf o
  | .vldwQ4B8 o => wordVldwQ4B8 o
  | .gsub o => wordGsub o
  | .gadd o => wordGadd o
  | .glen o => wordGlen o
  | .gtag o => wordGtag o
  | .gpack o => wordGpack o
  | .gunpack o => wordGunpack o
  | .grehome o => wordGrehome o
  | .gdot o => wordGdot o
  | .gcvt o => wordGcvt o
  | .gscl o => wordGscl o
  | .gsettag o => wordGsettag o
  | .gmorton o => wordGmorton o
  | .gnbr o => wordGnbr o
  | .vcellins o => wordVcellins o
  | .vcellfind o => wordVcellfind o
  | .recur o => wordRecur o
  | .rspawn o => wordRspawn o
  | .rret o => wordRret o
  | .rkids o => wordRkids o
  | .rdepth o => wordRdepth o
  | .rnkid o => wordRnkid o
  | .mzero o => wordMzero o
  | .mrowv o => wordMrowv o
  | .mvrow o => wordMvrow o
  | .mcolv o => wordMcolv o
  | .mvcol o => wordMvcol o
  | .mdrain o => wordMdrain o
  | .mload o => wordMload o
  | .amerge o => wordAmerge o
  | .sacc o => wordSacc o
  | .opacc o => wordOpacc o
  | .opsub o => wordOpsub o
  | .opaccw o => wordOpaccw o
  | .cAddi o => wordCAddi o
  | .cMv o => wordCMv o
  | .cAdd o => wordCAdd o
  | .cSub o => wordCSub o
  | .cLd o => wordCLd o
  | .cSd o => wordCSd o
  | .cLw o => wordCLw o
  | .cSw o => wordCSw o
  | .cJ o => wordCJ o
  | .cBeqz o => wordCBeqz o
  | .cBnez o => wordCBnez o
  | .cVfetch o => wordCVfetch o
  | .inboundPeerAccess _ _ _ _ => 0#64
  | .spdmRequest _ _ => 0#64
  | .bar2Access _ _ _ _ => 0#64
  | .ioDomainPowerLoss _ => 0#64
  | .powerLoss => 0#64
  | .cycleCountAdvance _ _ _ => 0#64

/-- The length in bytes of an instruction (R66); a device step has none. -/
def Instr.len (i : Instr) : Nat :=
  match i with
  | .powerGood => 0
  | .bringupStageComplete _ => 0
  | .ctrlWreset _ => 0
  | .ctrlBootretry _ => 0
  | .ctrlModelock _ => 0
  | .ctrlCfglock _ => 0
  | .ctrlWinlock _ => 0
  | .hsemRead _ => 0
  | .hsemRelease _ => 0
  | .funcmodeWrite _ _ => 0
  | .registerWrite _ _ _ => 0
  | .hostLinkDown _ => 0
  | .wakeWindowWrite _ _ _ => 0
  | .evackWrite _ _ => 0
  | .eventPost _ => 0
  | .launchRequestGo _ _ => 0
  | .sealWindowSeal _ => 0
  | .sealWindowRevoke _ => 0
  | .preemptTimer _ _ => 0
  | .preemptHost _ _ => 0
  | .migrationGo _ => 0
  | .migrationRetire _ => 0
  | .watchdogWrite _ => 0
  | .watchdogExpiry _ => 0
  | .backgroundInitRegion => 0
  | .graphSubmissionPop _ => 0
  | .nodeStart _ _ => 0
  | .readyRingPost _ _ => 0
  | .nodeFinish _ _ => 0
  | .remoteSuccessorReady _ _ => 0
  | .completionPushRetry _ => 0
  | .admissionGranted _ => 0
  | .jobComplete _ => 0
  | .jobEndByRecovery _ => 0
  | .stripBoundaryGrantChange _ => 0
  | .forcedBoundary _ => 0
  | .leaseStallPreempt _ => 0
  | .clusterRetire _ _ _ => 0
  | .vectorEntryComplete _ => 0
  | .readQueueReturn _ => 0
  | .blockGroupCommit _ => 0
  | .stripAssign _ => 0
  | .hartHaltComplete _ => 0
  | .trapTake _ => 0
  | .translationFaultReply _ _ => 0
  | .engineTransferStart _ _ => 0
  | .engineChunkComplete _ _ => 0
  | .engineTransferComplete _ _ => 0
  | .mdrainTransferComplete _ _ => 0
  | .recursionPassComplete _ => 0
  | .directoryReadRequest _ _ _ => 0
  | .directoryWriteRequest _ _ _ => 0
  | .invalidation _ _ _ => 0
  | .invalidationAck _ _ _ => 0
  | .evictionNotice _ _ _ => 0
  | .forwardSnoop _ _ _ => 0
  | .writeBack _ _ _ => 0
  | .backInvalidation _ => 0
  | .uRequest _ _ _ _ => 0
  | .mergeRequest _ => 0
  | .mergeResponse _ => 0
  | .movedResponse _ _ => 0
  | .hostCxlRequest _ _ _ _ => 0
  | .bisnpResponse _ _ => 0
  | .hostSnoop _ _ => 0
  | .dieResetRecall _ => 0
  | .dieReturn _ => 0
  | .memoryScrub _ => 0
  | .correctedError _ _ => 0
  | .burzerCrcReplay _ => 0
  | .burzerHeartbeat _ => 0
  | .peerSilenceTimeout _ => 0
  | .spareAssign _ => 0
  | .checkpointRestore => 0
  | .checkpointWrite => 0
  | .thermalShutdown => 0
  | .coolantLossShutdown => 0
  | .clockThrottle _ _ => 0
  | .wfeTimeout _ => 0
  | .waitmTimeout _ => 0
  | .add _ => 4
  | .sub _ => 4
  | .and _ => 4
  | .or _ => 4
  | .xor _ => 4
  | .sll _ => 4
  | .srl _ => 4
  | .sra _ => 4
  | .slt _ => 4
  | .sltn _ => 4
  | .min _ => 4
  | .max _ => 4
  | .minn _ => 4
  | .maxn _ => 4
  | .andn _ => 4
  | .orn _ => 4
  | .rol _ => 4
  | .ror _ => 4
  | .addw _ => 4
  | .subw _ => 4
  | .mul _ => 4
  | .mulh _ => 4
  | .mulhn _ => 4
  | .mulhsn _ => 4
  | .div _ => 4
  | .divn _ => 4
  | .rem _ => 4
  | .remn _ => 4
  | .fadd _ => 4
  | .fsub _ => 4
  | .fmul _ => 4
  | .fdiv _ => 4
  | .fsqrt _ => 4
  | .fmin _ => 4
  | .fmax _ => 4
  | .fsgnj _ => 4
  | .fsgnjn _ => 4
  | .fsgnjx _ => 4
  | .feq _ => 4
  | .flt _ => 4
  | .fle _ => 4
  | .fclass _ => 4
  | .fma _ => 4
  | .fms _ => 4
  | .fnma _ => 4
  | .fnms _ => 4
  | .addi _ => 4
  | .andi _ => 4
  | .ori _ => 4
  | .xori _ => 4
  | .slti _ => 4
  | .sltni _ => 4
  | .slli _ => 4
  | .srli _ => 4
  | .srai _ => 4
  | .roli _ => 4
  | .lui _ => 4
  | .auipc _ => 4
  | .lb _ => 4
  | .lh _ => 4
  | .lw _ => 4
  | .ld _ => 4
  | .lbn _ => 4
  | .lhn _ => 4
  | .lwn _ => 4
  | .sb _ => 4
  | .sh _ => 4
  | .sw _ => 4
  | .sd _ => 4
  | .beq _ => 4
  | .bne _ => 4
  | .blt _ => 4
  | .bge _ => 4
  | .bltn _ => 4
  | .bgen _ => 4
  | .jal _ => 4
  | .jalr _ => 4
  | .amoswapW _ => 4
  | .amoaddW _ => 4
  | .amoandW _ => 4
  | .amoorW _ => 4
  | .amoxorW _ => 4
  | .amominW _ => 4
  | .amomaxW _ => 4
  | .amominnW _ => 4
  | .amomaxnW _ => 4
  | .amoswapD _ => 4
  | .amoaddD _ => 4
  | .amoandD _ => 4
  | .amoorD _ => 4
  | .amoxorD _ => 4
  | .amominD _ => 4
  | .amomaxD _ => 4
  | .amominnD _ => 4
  | .amomaxnD _ => 4
  | .cas _ => 4
  | .fence _ => 4
  | .pause => 4
  | .waitm _ => 4
  | .arrive _ => 4
  | .await _ => 4
  | .gbar _ => 4
  | .gbarRlx _ => 4
  | .csrrw _ => 4
  | .csrrs _ => 4
  | .csrrc _ => 4
  | .csrrwi _ => 4
  | .csrrsi _ => 4
  | .csrrci _ => 4
  | .trap _ => 4
  | .trapBrk => 4
  | .tret => 4
  | .halt => 4
  | .wfe => 4
  | .tlbinv _ => 4
  | .cflush _ => 4
  | .cinval _ => 4
  | .pin _ => 4
  | .unpin _ => 4
  | .vqsave _ => 4
  | .vqload _ => 4
  | .finval _ => 4
  | .clz _ => 4
  | .ctz _ => 4
  | .popc _ => 4
  | .bswap _ => 4
  | .sextb _ => 4
  | .sexth _ => 4
  | .sextw _ => 4
  | .zextb _ => 4
  | .zexth _ => 4
  | .zextw _ => 4
  | .qpush _ => 4
  | .qpop _ => 4
  | .qpeek _ => 4
  | .qwake _ => 4
  | .qseal _ => 4
  | .qrevoke _ => 4
  | .qgrow _ => 4
  | .cpy _ => 4
  | .cpybt _ => 4
  | .cpywait => 4
  | .nsub _ => 4
  | .cpyfill _ => 4
  | .fcvtI32F32 _ => 4
  | .fcvtN32F32 _ => 4
  | .fcvtI64F32 _ => 4
  | .fcvtN64F32 _ => 4
  | .fcvtF32I32 _ => 4
  | .fcvtF32N32 _ => 4
  | .fcvtF32I64 _ => 4
  | .fcvtF32N64 _ => 4
  | .fcvtI32F64 _ => 4
  | .fcvtN32F64 _ => 4
  | .fcvtI64F64 _ => 4
  | .fcvtN64F64 _ => 4
  | .fcvtF64I32 _ => 4
  | .fcvtF64N32 _ => 4
  | .fcvtF64I64 _ => 4
  | .fcvtF64N64 _ => 4
  | .fcvtF32F64 _ => 4
  | .fcvtF64F32 _ => 4
  | .vsetl _ => 4
  | .vlease _ => 4
  | .vfork _ => 4
  | .vjoin _ => 4
  | .vfetch _ => 4
  | .vfetchw _ => 4
  | .vloop _ => 4
  | .vcommit => 4
  | .endb => 4
  | .mmode _ => 4
  | .mshape _ => 4
  | .vaddVV _ => 4
  | .vaddVX _ => 4
  | .vaddVI _ => 4
  | .vsubVV _ => 4
  | .vsubVX _ => 4
  | .vsubVI _ => 4
  | .vrsubVV _ => 4
  | .vrsubVX _ => 4
  | .vrsubVI _ => 4
  | .vmulVV _ => 4
  | .vmulVX _ => 4
  | .vmulVI _ => 4
  | .vmulhVV _ => 4
  | .vmulhVX _ => 4
  | .vmulhVI _ => 4
  | .vmulhnVV _ => 4
  | .vmulhnVX _ => 4
  | .vmulhnVI _ => 4
  | .vandVV _ => 4
  | .vandVX _ => 4
  | .vandVI _ => 4
  | .vorVV _ => 4
  | .vorVX _ => 4
  | .vorVI _ => 4
  | .vxorVV _ => 4
  | .vxorVX _ => 4
  | .vxorVI _ => 4
  | .vsllVV _ => 4
  | .vsllVX _ => 4
  | .vsllVI _ => 4
  | .vsrlVV _ => 4
  | .vsrlVX _ => 4
  | .vsrlVI _ => 4
  | .vsraVV _ => 4
  | .vsraVX _ => 4
  | .vsraVI _ => 4
  | .vminVV _ => 4
  | .vminVX _ => 4
  | .vminVI _ => 4
  | .vmaxVV _ => 4
  | .vmaxVX _ => 4
  | .vmaxVI _ => 4
  | .vminnVV _ => 4
  | .vminnVX _ => 4
  | .vminnVI _ => 4
  | .vmaxnVV _ => 4
  | .vmaxnVX _ => 4
  | .vmaxnVI _ => 4
  | .vsaddVV _ => 4
  | .vsaddVX _ => 4
  | .vssubVV _ => 4
  | .vssubVX _ => 4
  | .vsaddnVV _ => 4
  | .vsaddnVX _ => 4
  | .vssubnVV _ => 4
  | .vssubnVX _ => 4
  | .vdivVV _ => 4
  | .vdivVX _ => 4
  | .vdivnVV _ => 4
  | .vdivnVX _ => 4
  | .vremVV _ => 4
  | .vremVX _ => 4
  | .vremnVV _ => 4
  | .vremnVX _ => 4
  | .vmaccVV _ => 4
  | .vmaccVX _ => 4
  | .vnmsacVV _ => 4
  | .vnmsacVX _ => 4
  | .vavgVV _ => 4
  | .vavgVX _ => 4
  | .vavgnVV _ => 4
  | .vavgnVX _ => 4
  | .vabs _ => 4
  | .vneg _ => 4
  | .vpopc _ => 4
  | .vclz _ => 4
  | .vwaddVV _ => 4
  | .vwaddVX _ => 4
  | .vwaddnVV _ => 4
  | .vwaddnVX _ => 4
  | .vwsubVV _ => 4
  | .vwsubVX _ => 4
  | .vwsubnVV _ => 4
  | .vwsubnVX _ => 4
  | .vwmulVV _ => 4
  | .vwmulVX _ => 4
  | .vwmulnVV _ => 4
  | .vwmulnVX _ => 4
  | .vwmaccVV _ => 4
  | .vwmaccVX _ => 4
  | .vwmaccnVV _ => 4
  | .vwmaccnVX _ => 4
  | .vnsrlVV _ => 4
  | .vnsrlVX _ => 4
  | .vnsraVV _ => 4
  | .vnsraVX _ => 4
  | .vnclipVV _ => 4
  | .vnclipVX _ => 4
  | .vnclipnVV _ => 4
  | .vnclipnVX _ => 4
  | .vfaddVV _ => 4
  | .vfaddVX _ => 4
  | .vfsubVV _ => 4
  | .vfsubVX _ => 4
  | .vfrsubVV _ => 4
  | .vfrsubVX _ => 4
  | .vfmulVV _ => 4
  | .vfmulVX _ => 4
  | .vfdivVV _ => 4
  | .vfdivVX _ => 4
  | .vfrdivVV _ => 4
  | .vfrdivVX _ => 4
  | .vfminVV _ => 4
  | .vfminVX _ => 4
  | .vfmaxVV _ => 4
  | .vfmaxVX _ => 4
  | .vfsgnjVV _ => 4
  | .vfsgnjVX _ => 4
  | .vfsgnjnVV _ => 4
  | .vfsgnjnVX _ => 4
  | .vfsgnjxVV _ => 4
  | .vfsgnjxVX _ => 4
  | .vfmaVV _ => 4
  | .vfmaVX _ => 4
  | .vfmsVV _ => 4
  | .vfmsVX _ => 4
  | .vfnmaVV _ => 4
  | .vfnmaVX _ => 4
  | .vfnmsVV _ => 4
  | .vfnmsVX _ => 4
  | .vfsqrt _ => 4
  | .vfrcp _ => 4
  | .vfrsq _ => 4
  | .vfexp2 _ => 4
  | .vflog2 _ => 4
  | .vfsinp _ => 4
  | .vfcosp _ => 4
  | .vftanh _ => 4
  | .vfabs _ => 4
  | .vfneg _ => 4
  | .vfclass _ => 4
  | .vffloor _ => 4
  | .vfceil _ => 4
  | .vfround _ => 4
  | .vcvtI32F32 _ => 4
  | .vcvtN32F32 _ => 4
  | .vcvtF32I32 _ => 4
  | .vcvtF32N32 _ => 4
  | .vcvtI64F64 _ => 4
  | .vcvtN64F64 _ => 4
  | .vcvtF64I64 _ => 4
  | .vcvtF64N64 _ => 4
  | .vcvtF64F32 _ => 4
  | .vcvtF32F64 _ => 4
  | .vcvtHF32 _ => 4
  | .vcvtBfF32 _ => 4
  | .vcvtF32H _ => 4
  | .vcvtF32Bf _ => 4
  | .vcvtB8F32 _ => 4
  | .vcvtF32B8 _ => 4
  | .vcvtB8H _ => 4
  | .vcvtHB8 _ => 4
  | .vcvtB8Bf _ => 4
  | .vcvtBfB8 _ => 4
  | .vcvtE4F32 _ => 4
  | .vcvtF32E4 _ => 4
  | .vcvtHE4 _ => 4
  | .vcvtQ4F32 _ => 4
  | .vcvtF32Q4 _ => 4
  | .vcvtHQ4 _ => 4
  | .vcmpEqVV _ => 4
  | .vcmpEqVX _ => 4
  | .vcmpNeVV _ => 4
  | .vcmpNeVX _ => 4
  | .vcmpLtVV _ => 4
  | .vcmpLtVX _ => 4
  | .vcmpLeVV _ => 4
  | .vcmpLeVX _ => 4
  | .vcmpLtnVV _ => 4
  | .vcmpLtnVX _ => 4
  | .vcmpLenVV _ => 4
  | .vcmpLenVX _ => 4
  | .vcmpGtVV _ => 4
  | .vcmpGtVX _ => 4
  | .vcmpGeVV _ => 4
  | .vcmpGeVX _ => 4
  | .vcmpFeqVV _ => 4
  | .vcmpFeqVX _ => 4
  | .vcmpFneVV _ => 4
  | .vcmpFneVX _ => 4
  | .vcmpFltVV _ => 4
  | .vcmpFltVX _ => 4
  | .vcmpFleVV _ => 4
  | .vcmpFleVX _ => 4
  | .vcmpFgtVV _ => 4
  | .vcmpFgtVX _ => 4
  | .vcmpFgeVV _ => 4
  | .vcmpFgeVX _ => 4
  | .vcmpFunordVV _ => 4
  | .vcmpFunordVX _ => 4
  | .vcmpFordVV _ => 4
  | .vcmpFordVX _ => 4
  | .kand _ => 4
  | .kor _ => 4
  | .kxor _ => 4
  | .kandn _ => 4
  | .knot _ => 4
  | .kmov _ => 4
  | .kpop _ => 4
  | .kfirst _ => 4
  | .kiota _ => 4
  | .vmerge _ => 4
  | .vcompress _ => 4
  | .vexpand _ => 4
  | .ksetx _ => 4
  | .vslideup _ => 4
  | .vslidedn _ => 4
  | .vpermv _ => 4
  | .vbcast _ => 4
  | .vextract _ => 4
  | .vinsert _ => 4
  | .vilv _ => 4
  | .vdilv _ => 4
  | .vid _ => 4
  | .vrand _ => 4
  | .vmvV _ => 4
  | .vmvX _ => 4
  | .vredsum _ => 4
  | .vredmin _ => 4
  | .vredmax _ => 4
  | .vredminn _ => 4
  | .vredmaxn _ => 4
  | .vredand _ => 4
  | .vredor _ => 4
  | .vredxor _ => 4
  | .vfsum _ => 4
  | .vfsumo _ => 4
  | .vfredmin _ => 4
  | .vfredmax _ => 4
  | .vwsum _ => 4
  | .vbshl _ => 4
  | .vbshr _ => 4
  | .vbfun _ => 4
  | .vternlog _ => 4
  | .vld _ => 4
  | .vldReg _ => 4
  | .vlds _ => 4
  | .vldx _ => 4
  | .vst _ => 4
  | .vstReg _ => 4
  | .vsts _ => 4
  | .vstx _ => 4
  | .vgll _ => 4
  | .vscc _ => 4
  | .vacc _ => 4
  | .vldwE4H _ => 4
  | .vldwE4Bf _ => 4
  | .vldwE4B8 _ => 4
  | .vldwQ4H _ => 4
  | .vldwQ4Bf _ => 4
  | .vldwQ4B8 _ => 4
  | .gsub _ => 4
  | .gadd _ => 4
  | .glen _ => 4
  | .gtag _ => 4
  | .gpack _ => 4
  | .gunpack _ => 4
  | .grehome _ => 4
  | .gdot _ => 4
  | .gcvt _ => 4
  | .gscl _ => 4
  | .gsettag _ => 4
  | .gmorton _ => 4
  | .gnbr _ => 4
  | .vcellins _ => 4
  | .vcellfind _ => 4
  | .recur _ => 4
  | .rspawn _ => 4
  | .rret _ => 4
  | .rkids _ => 4
  | .rdepth _ => 4
  | .rnkid _ => 4
  | .mzero _ => 4
  | .mrowv _ => 4
  | .mvrow _ => 4
  | .mcolv _ => 4
  | .mvcol _ => 4
  | .mdrain _ => 4
  | .mload _ => 4
  | .amerge _ => 4
  | .sacc _ => 4
  | .opacc _ => 8
  | .opsub _ => 8
  | .opaccw _ => 8
  | .cAddi _ => 2
  | .cMv _ => 2
  | .cAdd _ => 2
  | .cSub _ => 2
  | .cLd _ => 2
  | .cSd _ => 2
  | .cLw _ => 2
  | .cSw _ => 2
  | .cJ _ => 2
  | .cBeqz _ => 2
  | .cBnez _ => 2
  | .cVfetch _ => 2
  | .inboundPeerAccess _ _ _ _ => 0
  | .spdmRequest _ _ => 0
  | .bar2Access _ _ _ _ => 0
  | .ioDomainPowerLoss _ => 0
  | .powerLoss => 0
  | .cycleCountAdvance _ _ _ => 0

end Sys2Proof
end

