-- ==== Sys2Proof/Machine/Types.lean ====
section
/-! DEFINITION. The parts of the machine's state, as plain data: control registers, vector queue, bridle, harts, jobs,
stables, dies, ports, rings and graphs. -/

namespace Sys2Proof.Machine

/-- Memory: (address, byte) pairs, addresses strictly rising, none equal to what an unlisted address reads as. -/
abbrev Memory := List Host.Cell

/-- A cause with its `tval` (R343, R344), and the PC that `tpc` or `tvpc.vpc` will name where it differs. -/
structure Stop where
  cause : Nat
  tval  : Word
  deriving DecidableEq, Repr

/-- A vector cause waiting to be taken (R343): the stop, the address that `tvpc.vpc` will name (R345). -/
structure VStop where
  stop : Stop
  vpc  : Word
  deriving DecidableEq, Repr

/-- The cause of an engine transfer that has ended, not yet taken (R343): how many transfers of the bridle are older, and how many entries at
the head of the queue were older than the transfer. -/
structure ECause where
  stop   : Stop
  before : Nat
  after  : Nat
  deriving DecidableEq, Repr

/-- The control registers of a hart, as the images that a read returns, unless said otherwise. -/
structure Csrs where
  status    : Word                    -- R93
  tvec      : Word                    -- R96
  tcause    : Word
  tval      : Word
  tpc       : Word
  tvpc      : Word
  tqpos     : Word
  tscratch  : Word
  vcfg      : Word                    -- R94
  vstart    : Word                    -- R95
  vdirty    : Word
  vsc       : Word
  bypth     : Word
  rkey      : Word
  mshape    : Word                    -- R97
  mmode     : Word
  fflags    : Word
  fen       : Word
  ftbase    : Word                    -- R98
  ftlimit   : Word
  fcfg      : Word
  cellsweep : Word
  awbase    : Vector Word 4
  awcfg     : Vector Word 4
  instret   : Word                    -- R99
  pgroot    : Word
  ctxid     : Word
  quota     : BitVec 32               -- pinquota.quota; pinquota.used is counted from the pins
  errinfo   : Word
  gang      : Nat                     -- gangid.gang
  member    : Nat                     -- gangid.member
  leaseMin  : Nat                     -- the fields of lease (R59)
  leasePref : Nat
  grant     : Nat
  target    : Nat
  frozen    : Bool
  deriving DecidableEq, Repr

/-- An entry of the vector queue (R125): its words and row, its PC, the x values captured at commit (R351), its state
and progress when a freeze or a replay gives it one (R349, R354). -/
structure QEntry where
  row     : Row
  words   : BitVec 64
  pc      : Word
  opa     : Word
  opb     : Word
  /-- x2 as captured by an entry that rounds stochastically (R164) -/
  x2      : Word
  /-- the x register that waits for this entry's value (R126) -/
  dest    : Option Reg
  /-- the value, of an entry that has completed before an older one that writes an x register: it is written after that one's (R126) -/
  ret     : Option Word
  /-- 1 not started, 2 partial (R350) -/
  state   : Nat
  /-- granules complete, for a partial entry (R349) -/
  prog    : Nat
  /-- the restart record (R351): committed groups of a block under way -/
  lrec    : Word
  /-- the words of the block of a fetch instruction, with their addresses in order (R137) -/
  block   : List (BitVec 32)
  /-- the entry has begun to execute (R56; R145 to R147, R269) -/
  begun   : Bool
  /-- VFETCHW: the group that the pass is at, and whether some group of it has had an active element (R146). VLOOP: the base that it
  started from (R147, R220), and whether a strip has been completed since a cluster last left (R56) -/
  grp     : Nat
  any     : Bool
  /-- how many release fences of its hart came before it (R303) -/
  fence   : Nat
  deriving DecidableEq, Repr

/-- A slot of a queue image (R350). -/
structure QSlot where
  w0    : BitVec 32
  w1    : BitVec 32
  pc    : Word
  prog  : Nat
  state : Nat
  opa   : Word
  opb   : Word
  deriving DecidableEq, Repr

/-- The image buffer (R347, R350): the entries in program order, `vstart` and `lrec`. -/
structure QImage where
  vstart : Nat
  lrec   : Word
  slots  : List QSlot
  deriving DecidableEq, Repr

/-- A range of bytes from `lo` on: `len` of them. -/
structure Range where
  lo  : Nat
  len : Nat
  deriving DecidableEq, Repr

/-- A row of a drain buffer (R213): its bytes, and its cells whose buffer word is failing (R365). -/
structure DrainRow where
  bytes : List Byte
  bad   : List Nat
  deriving DecidableEq, Repr

/-- What an engine transfer does (R232 to R236, R213). -/
inductive TransferKind where
  | copy (dst src len : Nat)
  | fill (dst : Nat) (byte : Byte) (len : Nat)
  | gather (table count lgbs pool data : Nat)
  | append (desc table lgbs pool data frcap rcbase entry off len : Nat)
  | drain (base stride : Nat) (rows : List DrainRow)
  /-- the unfolding engine's doublewords from `base` on (R275) -/
  | words (base : Nat) (vals : List Nat)
  deriving DecidableEq, Repr

/-- An entry of the bridle (R232, R237), or the transfer of a copy node (R34): the transfer, for whom it is performed, the
ranges it holds and its progress. -/
structure Transfer where
  kind    : TransferKind
  /-- context, page-table root and rights under which it is performed -/
  ctx     : Nat
  pgroot  : Word
  rider   : Bool
  scope   : Nat
  reads   : List Range
  writes  : List Range
  /-- the step of an append (R236), and the bytes of the present step already performed -/
  phase   : Nat
  done    : Nat
  /-- the block indices t and n of an append (R236) -/
  old     : Nat
  new     : Nat
  /-- bytes of its source as they stood before it overwrote them (R232) -/
  saved   : List (Nat × Byte)
  started : Bool
  /-- how many entries at the head of the hart's queue are older: its accesses wait for those that conflict (R232) -/
  after   : Nat
  /-- how many release fences of its hart came before it (R303) -/
  fence   : Nat
  /-- stopped by pre-emption (R357) -/
  stopped : Bool
  /-- older entries of the queue stand in an image, not in the queue: it waits for their replay (R232, R354) -/
  held    : Bool
  /-- the node of a copy node: graph and index (R34) -/
  node    : Option (Nat × Nat)
  deriving DecidableEq, Repr

/-- A translation fault offered for service (R358): the number of its record in the ring, or of its EVENT, whether an engine
transfer waits on it, address, context, write, fetch, and the answer: none pending, some true raise. A retry drops the offer. -/
structure Offer where
  record : Nat
  engine : Bool
  va     : Nat
  ctx    : Nat
  write  : Bool
  fetch  : Bool
  answer : Option Bool
  deriving DecidableEq, Repr

/-- Whether a hart fetches (R117). -/
inductive Run where
  | off       -- no hart on the core
  | running
  | halted    -- HALT committed: queue and bridle empty
  | stopped   -- a groom core after HALT, until the watchdog resets it
  deriving DecidableEq, Repr

/-- A child made by VFORK and not yet joined (R61): its member number, the clusters k and the difference d. -/
structure Fork where
  member : Nat
  k      : Nat
  d      : Nat
  deriving DecidableEq, Repr

/-- A failing word of the VRF or of a tile (R215, R364): register (or tile), element, lane. -/
structure BadWord where
  tile : Bool
  reg  : Nat
  elem : Nat
  lane : Nat
  deriving DecidableEq, Repr

/-- An accumulation of a block's group that waits for the group's commit (R330): the element, the target, the operator and
scale of its window, the window's number, the input. -/
structure AccFold where
  elem   : Nat
  pa     : Nat
  op     : Nat
  fscale : Byte
  win    : Nat
  x      : Nat
  deriving DecidableEq, Repr

/-- A virtual processor of the group of a recursion pass that runs (R268): its number, the address of its frame's record, the
frame's depth, its frame words, the bytes of stack in use, the results of its children, the frames it has spawned and the
result it has set. -/
structure RVp where
  vp     : Nat
  record : Nat
  depth  : Nat
  words  : List Nat
  used   : Nat
  kids   : List (List Nat)
  spawns : List (List Nat)
  /-- the addresses of the `RSPAWN` instructions of those frames -/
  sites  : List Word
  ret    : Option (List Nat)
  deriving DecidableEq, Repr

/-- A run of the unfolding engine (R265, R269, R274): the object and its fields, the address of the root frame, the word size in bits, P, the progress as the
save area would hold it, and in a breadth-first or combine pass the first VP that has not committed. -/
structure RecRun where
  obj    : Nat
  div    : Nat
  base   : Nat
  comb   : Nat
  nfw    : Nat
  nrw    : Nat
  fan    : Nat
  dlim   : Nat
  deovf  : Bool
  fsoff  : Nat
  fssize : Nat
  stk    : Nat
  stkb   : Nat
  root   : Nat
  rootr  : Nat
  w      : Nat
  p      : Nat
  phase  : Nat
  lvl    : Nat
  lfirst : Nat
  lcount : Nat
  rout   : Nat
  nrec   : Nat
  nproc  : Nat
  next   : Nat
  vps    : List RVp
  deriving DecidableEq, Repr

/-- A hart, or a groom core (hart id 2,304 + die: the model's numbering). -/
structure Hart where
  id      : Nat
  run     : Run
  pc      : Word
  x       : Vector Word 32
  v       : Vector VReg 32
  k       : Vector KMask 8
  z       : Vector Tile 2
  /-- the check copies of redundant mode (R214) -/
  zchk    : Vector Tile 2
  csr     : Csrs
  /-- the gang number of the job it runs -/
  job     : Option Nat
  queue   : List QEntry
  image   : QImage
  /-- the cause raised by the oldest entry, not yet taken -/
  vcause  : Option VStop
  /-- the causes of engine transfers, the oldest first (R343) -/
  ecauses : List ECause
  /-- pending 0xA0 and 0xA1, and the counters of pending 0xB1 notifications, the oldest first (R343, R366) -/
  preT    : Bool
  preH    : Bool
  softErr : List Nat
  event   : Bool                      -- the event flag (R118)
  watched : Option (Nat × Nat)        -- owner and base of the watched ring (R118)
  bridle  : List Transfer             -- oldest first (R237)
  age     : Nat                       -- the request age (R53)
  /-- a storage grant that the gang has changed and this hart takes between two vector instructions (R65) -/
  vlmaxTo : Option Nat
  /-- the arbiter forces a boundary: no further entry of the queue starts until those in execution have completed (R58) -/
  hold    : Bool
  forks   : List Fork
  bad     : List BadWord
  /-- a GBAR that has arrived and waits: the phase it waits to leave (R310) -/
  gwait   : Option Nat
  /-- the offered translation faults that accesses of this hart wait on (R358) -/
  offers  : List Offer
  /-- accesses held after moved responses: address, responses so far, whether a TLBINV is still awaited (R327) -/
  moved   : List (Nat × Nat × Bool)
  /-- WAITM has timed out (R305) -/
  timeout : Bool
  /-- the instruction at the PC has begun to wait: WFE, WAITM, AWAIT or GBAR (R118, R305, R311) -/
  waits   : Bool
  /-- the accumulations of the group of a block that runs; none outside a group -/
  group   : Option (List AccFold)
  /-- the run of `RECUR` under way (R269) -/
  recur   : Option RecRun
  /-- what the runs that this hart has claimed and not completed read of their objects at the start, with their context (R266) -/
  objects : List (Nat × RecRun)
  /-- the release fences that it has passed while earlier accesses were not yet performed (R303) -/
  fences  : Nat
  deriving DecidableEq, Repr

/-- A member of a gang: its number, the hart it runs on, whether launched (not forked), halted, joined. -/
structure Member where
  n        : Nat
  hart     : Nat
  launched : Bool
  halted   : Bool
  deriving DecidableEq, Repr

/-- A job admitted to a stable: what its image declares (R9, R14), its gang barrier (R95), its scratchpad (R219). -/
structure Job where
  gang    : Nat
  stable  : Nat                        -- global stable number
  image   : Nat
  ctx     : Nat
  pgroot  : Word
  prio    : Nat
  xdecl   : BitVec 32
  vdecl   : BitVec 32
  kdecl   : BitVec 8
  zdecl   : BitVec 2
  nbar    : Nat
  spbytes : Nat
  lmin    : Nat
  xspill  : BitVec 32
  vspill  : BitVec 32
  kspill  : BitVec 8
  zspill  : BitVec 2
  spill   : Nat
  sigaddr : Nat
  sigval  : BitVec 8
  node    : Option (Nat × Nat)         -- graph and index of the compute node
  phase   : Nat
  arrived : BitVec 8
  mask    : BitVec 8                   -- gbar.members
  members : List Member
  pad     : Memory                     -- the scratchpad allocation
  vcode   : Nat                        -- the declared VLMAX, as the code of vcfg
  ending  : Bool                       -- ended by error recovery; its signal is still to be added (R363)
  deriving DecidableEq, Repr

/-- A translation held by a stable's TLBs (R225): context, level, virtual page number, the leaf entry. -/
structure TlbEntry where
  ctx   : Nat
  level : Nat
  vpn   : Nat
  leaf  : Word
  deriving DecidableEq, Repr

/-- A link of VGLL, in the link table of a stable (R229). -/
structure Link where
  stable : Nat
  hart   : Nat
  line   : Nat
  deriving DecidableEq, Repr

/-- One stable cache's partial of a line in U (R329, R330): the targets that have folded something, by byte offset in the
line; every other target stands at the operator's identity. -/
structure UPart where
  stable : Nat
  cells  : List (Nat × Nat)
  deriving DecidableEq, Repr

/-- A line in U (R328 to R332): its number (PA / 128), operator, scale, the context and window it came through; while its merge is
under way, the dies that have given up their partials and how many of their results have arrived (R332, R333). -/
structure ULine where
  line   : Nat
  op     : Nat
  fscale : Byte
  ctx    : Nat
  win    : Nat
  parts  : List UPart
  asked  : List Nat
  got    : Nat
  deriving DecidableEq, Repr

/-- A composed transform (R244): whether it is the identity of one frame (R243), whether every entry was translation-only,
R as nine FP32 codes row by row, T in units of 2^-24. -/
structure Xform where
  ident : Bool
  tonly : Bool
  rot   : List Nat
  tr    : List Int
  deriving DecidableEq, Repr

/-- A transform held by a frame transform cache (R247): its key, the transform, the frames of its path. -/
structure FrameEntry where
  ctx    : Nat
  ftbase : Word
  src    : Nat
  dst    : Nat
  xform  : Xform
  via    : List Nat
  deriving DecidableEq, Repr

/-- A stable: what its harts share. -/
structure Stable where
  n       : Nat                        -- global stable number
  lanedis : BitVec 16
  /-- the clusters of `lanedis` that have been retired: held by no hart since (R216) -/
  retired : BitVec 16
  cycle   : Word
  tlb     : List TlbEntry
  frames  : List FrameEntry            -- least recently used first
  /-- the instruction cache: the copies of lines that it may hold, each as memory listed the line when it was fetched (R67) -/
  icache  : List (Nat × Memory)
  deriving DecidableEq, Repr

/-- A request for a line: 0 to read, 1 for write permission, 2 + t for U under operator t (R318, R321, R329). It comes from a
directory agent, or at a home from a die (0 to 5) or the host through a port (6, 7). -/
structure LineReq where
  line : Nat
  kind : Nat
  who  : Nat
  deriving DecidableEq, Repr

/-- A request that a directory or a home serves: those that an invalidation or a forwarded snoop is still on its way to, and those
whose acknowledgement is on its way back (R318, R321). -/
structure Grant where
  req  : LineReq
  due  : List Nat
  acks : List Nat
  deriving DecidableEq, Repr

/-- An entry of an L2 directory (R316); `ask` is the request that it serves, `rest` those behind it. -/
structure DirEntry where
  die  : Nat
  line : Nat
  perm : Nat                           -- 0 none, 1 shared, 2 exclusive, 3 U
  op   : Nat
  np   : Nat
  ptrs : List Nat
  crs  : Bool
  cv   : BitVec 48
  st   : Nat                           -- 0 I, 1 S, 2 E, 3 M, 4 U
  ask  : Option Grant
  rest : List LineReq
  /-- the home's recall of the line under way, whose acknowledgement it awaits where its request is for write permission (R321) -/
  recalling : Option Grant
  deriving DecidableEq, Repr

/-- The state of a line at its home (R320). -/
inductive HomeState where
  | i | s | e | m | o | u
  deriving DecidableEq, Repr

/-- A line at its home (R320, R322): the state, the die-level holders (6 is the host), the ports that stand for the host, the
owner in E, M and O, the operator in U, and when it was last used. -/
structure HomeEntry where
  line    : Nat
  state   : HomeState
  op      : Nat
  owner   : Nat
  holders : BitVec 7
  ports   : BitVec 2
  stamp   : Nat
  ask     : Option Grant
  rest    : List LineReq
  deriving DecidableEq, Repr

/-- The state of a compute die (R324, R372). -/
inductive DieRun where
  | running | reset | stopped
  deriving DecidableEq, Repr

/-- A compute die. -/
structure Die where
  n        : Nat
  pad      : Memory                    -- the groom core's scratchpad (R35)
  readyAt  : Nat                       -- records posted to the ready ring (R40)
  faultAt  : Nat                       -- records posted to the translation-fault ring (R358)
  watchdog : Bool                      -- written since the last period (R37)
  /-- causes sent to the groom core as the agent of a function (R36, R360), oldest first -/
  inbox    : List Stop
  /-- the offered translation faults of the die's units: launch reads, walkers, copy nodes (R358) -/
  offers   : List Offer
  /-- the transfers of copy nodes on the die's engines (R34) -/
  copies   : List Transfer
  run      : DieRun
  clock    : Nat                       -- the arithmetic clock in hundredths of 2.25 GHz (R372)
  /-- accesses of the die's units held after moved responses, as `Hart.moved` (R327) -/
  moved    : List (Nat × Nat × Bool)
  /-- the host-holder table: lines granted to the host while the die was absent, with the port and whether exclusively, oldest first
  (R324) -/
  table    : List (Nat × Nat × Bool)
  deriving DecidableEq, Repr

/-- The state of a line in a cache (R315): a scalar L1 holds it in S, E or M, a stable cache in U too; in an L2 it stands in the directory
entry, and in a host-line buffer M says that it is held with exclusive permission (R323). -/
inductive LineState where
  | s | e | m | u
  deriving DecidableEq, Repr

/-- A line that a cache holds (R217): scalar L1s stand under their hart's id, stable caches under 2,304 + stable, the L2s under
2,592 + die, the host-line buffers under 2,598 + port; its state, and its replacement priority, 0 the lowest, 2 the highest (R220). -/
structure CacheLine where
  cache : Nat
  line  : Nat
  prio  : Nat
  st    : LineState
  deriving DecidableEq, Repr

/-- What the caches of the part hold and know of one another (R217, R229, R315 to R324): the lines, those placed last first; the links, the
oldest first; the directory entries; the homes' records; and the number of uses that date them. -/
structure Coherence where
  caches : List CacheLine
  links  : List Link
  dir    : List DirEntry
  homes  : List HomeEntry
  uses   : Nat
  deriving DecidableEq, Repr

/-- A launch request that has been taken and is under way (R39): whether it is a host's, the die or port, its three doublewords, and the
context's entry as it was read then (R38): the page-table root if it is valid, the entry if it is usable. -/
structure TakenLaunch where
  host  : Bool
  n     : Nat
  words : List Nat
  root  : Option Word
  entry : Option (List Word)
  deriving DecidableEq, Repr

/-- The signed configuration record in package flash (R371): SKU and stepping, the retired clusters of each stable that has some, the
ceilings of the power manager (watts, and hundredths of 2.25 GHz), the coolant's inlet and flow limits (degrees, tenths of a litre a minute). -/
structure ConfigRecord where
  sku     : Nat
  step    : Nat
  retired : List (Nat × BitVec 16)
  power   : Nat
  clock   : Nat
  inlet   : Nat
  flow    : Nat
  deriving DecidableEq, Repr

/-- A record of an error report block (R366): class, cause, die, stable (63 for none), address or `tval`, context, hart
(4,095 for none), detail, and the sequence number it was given. -/
structure ErrRecord where
  cls    : Nat
  cause  : Nat
  die    : Nat
  stable : Nat
  addr   : Nat
  ctx    : Nat
  hart   : Nat
  detail : Nat
  seq    : Nat
  deriving DecidableEq, Repr

/-- A host event (R45). -/
structure EventRec where
  source : Nat
  cause  : Nat
  die    : Nat
  seq    : Nat
  value  : Word
  ctx    : Nat
  detail : Word
  deriving DecidableEq, Repr

/-- A host port. -/
structure Port where
  n        : Nat
  up       : Bool
  wake     : List Byte                 -- 64 bytes of the wake window
  launch   : List Byte                 -- 32 bytes of the LAUNCH window
  sealWin  : List Byte                 -- 64 bytes of the SEAL window
  events   : List EventRec             -- oldest first, at most 64
  waiting  : List EventRec             -- sources of events waiting for room
  seq      : Nat
  errs     : List ErrRecord            -- the newest 64 records of the log, oldest first (R366)
  errHead  : Nat
  errTail  : Nat
  errOvf   : Bool
  sramce   : Nat                       -- CECNT (R366)
  memce    : Nat
  linkce   : Nat
  cethr    : Nat
  msix     : List Nat                  -- vectors raised
  doe      : List Nat                  -- DOE mailbox: the request and the words of its answer
  /-- the request for device memory that waits for its grant: address, whether a write, value (R324) -/
  pending  : List (Nat × Bool × Word)
  /-- the write of the wake window whose wake waits for a TLBINV (R45, R327): offset, value -/
  writes   : List (Nat × Word)
  /-- requests and wake-window writes that arrived behind one that waits, oldest first (R312) -/
  behind   : List Instr
  reply    : Word                      -- what the last read through the port returned
  deriving DecidableEq, Repr

/-- A queue capability (R17). -/
structure Cap where
  tag     : Word
  zero2   : Bool                       -- bits [191:128] and [79:78] are zero
  gen     : Nat
  owner   : Nat
  type    : Nat
  ncons   : Nat
  rights  : BitVec 6                   -- push, pop, wake, grow, seal-admin, host-visible
  lgsize  : Nat
  lgslots : Nat
  base    : Nat
  deriving DecidableEq, Repr

/-- A graph in progress (R29 to R33): its die, context, node array, count, completion capability and tag. -/
structure Graph where
  n       : Nat
  die     : Nat
  ctx     : Nat
  nodes   : Nat
  count   : Nat
  compl   : Nat
  tag     : Word
  done    : Nat
  failed  : Nat
  /-- nodes made READY and not yet started, with the die they run on; those on their way to another die (R32) -/
  ready   : List (Nat × Nat)
  remote  : List (Nat × Nat)
  /-- compute nodes offered to an agent and not yet admitted, with their die (R31, R40) -/
  offered : List (Nat × Nat)
  /-- nodes that run, with the die they run on, and those whose work has ended, with whether it succeeded (R31 to R33) -/
  running : List (Nat × Nat)
  ended   : List (Nat × Bool)
  /-- the completion push waits for room -/
  retry   : Bool
  deriving DecidableEq, Repr

/-- A checkpoint (R370): the memory that it holds as it stood, the ranges that this covers, the sectors of it that were failing, the rings
and graphs in progress. -/
structure Checkpoint where
  mem     : Memory
  ranges  : List Range
  failing : List Nat
  rings  : List (Nat × Cap)
  graphs : List Graph
  deriving DecidableEq, Repr

/-- A pinned line (R221). -/
structure Pin where
  die  : Nat
  ctx  : Nat
  line : Nat
  deriving DecidableEq, Repr

/-- What moves next: a device step, a change of the hart in focus, one step of a hart, which is in focus from then on, or the
lanes of the hart in focus on the entry at a place of its queue, 0 for the oldest. -/
inductive Turn where
  | device (i : Instr)
  | focus (hart : Nat)
  | run (hart : Nat)
  | lane (entry : Nat)
  deriving DecidableEq, Repr

end Sys2Proof.Machine
end

