-- ==== Sys2Proof/Config.lean ====
section
/-! DEFINITION. What the spec leaves open: values without a body, of which nothing can be proved or computed. -/

namespace Sys2Proof

/-- The `tval` of a cause whose rules name no value (R344), for the n-th such value taken: a free value (log 10). -/
opaque Config.openTval (cause n : Nat) : Word

/-- The device seal key drawn at the n-th power good from the entropy source (R18): a free value (log 11). -/
opaque Config.sealKey (n : Nat) : BitVec 256

/-- The n-th value that a read returns where the spec states none (log 12): a free value. -/
opaque Config.openWord (n : Nat) : Word

/-- The L2 set of a line, by its number (R217, R221): the spec gives the sizes and no index function (log 14). -/
opaque Config.l2Set (line : Nat) : Nat

/-- The set of a scalar L1 or a stable cache that a line falls in (R217): the spec gives no index function (log 14). -/
opaque Config.agentSet (line : Nat) : Nat

/-- The set of a home's snoop filter that a line falls in (R322): the spec gives no index function (log 14). -/
opaque Config.filterSet (line : Nat) : Nat

/-- What `hartid` and the stable and core of `locid` read on a die's groom core (R3 numbers harts only): free values (log 21). -/
opaque Config.groomHartid (die : Nat) : Word

/-- Whether an instruction cache still holds a copy that differs from memory when the n-th fetch that meets one asks (R67): the
spec names no replacement, so both happen (log 28). -/
opaque Config.keepsCopy (n : Nat) : Bool

/-- Whether the home grants a line in I to its n-th sole reader with exclusive permission, in E (R320): the spec lets a line stand in E
and does not say when (log 102). -/
opaque Config.grantsE (n : Nat) : Bool

/-- Whether a line of a stable cache stands in a bank that the n-th move of banks to the vector registers takes (R64): the spec does not
place lines in banks (log 103). -/
opaque Config.bankMoves (n line : Nat) : Bool

/-- Of the replays of a link that have been counted, how many lie within 1 ms of the n-th (R369): the model has no clock (log 26). -/
opaque Config.recentReplays (n : Nat) : Nat

/-- The SHA3-256 digest of a firmware image that attestation reports (R371): the spec does not say which bytes of flash or of the staging
window the image is (log 24). -/
opaque Config.digest (image : Machine.Memory) : BitVec 256

/-- The SHA3-256 digest of a configuration record that attestation reports (R371): the spec does not give the record's bytes (log 24). -/
opaque Config.recordDigest (record : Machine.ConfigRecord) : BitVec 256

/-- The signature of the n-th answer of attestation (R371): a free value (log 24). -/
opaque Config.signature (n : Nat) : Nat

/-- The last valid checkpoint of another device, as its buddy holds it when this one copies it for the n-th time (R370): what other devices
have written is no part of this one (log 120). -/
opaque Config.peerCheckpoint (device n : Nat) : Option Machine.Checkpoint

end Sys2Proof
end

