-- ==== Sys2Proof/Machine/State.lean ====
section
/-! DEFINITION. The state of the part, as plain data, the reasons a step can stop, and the state right after reset. -/

namespace Sys2Proof.Machine

/-- Why a step stops with a fault: no step does. The rules give every instruction and every event an effect, a cause that is
taken as a trap, or nothing. -/
inductive Fault where
  deriving DecidableEq, Repr

/-- Why a step is refused. -/
inductive Refusal where
  /-- Raised by `exec` for an instruction that has no meaning yet. Safe. -/
  | notModelled (mnemonic : String)
  deriving DecidableEq, Repr

/-- What a step answers. -/
abbrev Out := Host.Outcome

/-- The state of the part. -/
structure State where
  /-- the hart in focus: the one whose instruction the next step runs -/
  hart      : Hart
  /-- the other harts that exist (admitted harts, groom cores); a hart not listed is off, at its reset values -/
  others    : List Hart
  /-- what moves before the hart in focus does: the model's inputs and schedule -/
  turns     : List Turn
  /-- the lanes complete an entry as soon as it enters an empty queue (the model's schedule) -/
  laneEager : Bool
  jobs      : List Job
  stables   : List Stable
  dies      : List Die
  ports     : List Port
  /-- physical memory (R223): device memory, host memory and peer windows -/
  mem       : Memory
  /-- the regions below this number have been initialised by the background initialiser (R49) -/
  initNext  : Nat
  /-- the other regions whose bit of the memory initialisation map is set (R49) -/
  initSet   : List Nat
  /-- 32-byte sectors whose data is uncorrectable (R365) -/
  failing   : List Nat
  /-- 32-byte sectors of host memory to which the host completes an access with an abort (R323) -/
  aborting  : List Nat
  /-- FUNCMODE (R43) -/
  funcmode  : Word
  /-- CTRL.modelock, cfglock, winlock (R43) -/
  modelock  : Bool
  cfglock   : Bool
  winlock   : Bool
  /-- STATUS (R43) -/
  booterr   : Nat
  stage     : Nat
  recovery  : Bool
  initdone  : Bool
  fwok      : Bool
  ready     : Bool
  /-- HSEM.owner: 0 none, else port + 1 (R44) -/
  hsem      : Nat
  /-- the outbound window table: base, limit and flags of the entries that are not zero (R46) -/
  windows   : List (Nat × Word × Word × Word)
  /-- which seal key is drawn: the number of power goods so far (R18) -/
  epoch     : Nat
  /-- generation floors that are not 0 (R19) -/
  floors    : List (Nat × Nat)
  /-- the contexts that a launch unit has found valid since power good (R38) -/
  created   : List Nat
  /-- the replay-protected security version counter (R48) -/
  secver    : Nat
  /-- graph submission rings that have been announced, as capabilities, with their home dies (R30) -/
  rings     : List (Nat × Cap)
  graphs    : List Graph
  nextGraph : Nat
  /-- gangs admitted and not yet started, oldest first (R12) -/
  pending   : List Nat
  /-- launch requests that have been taken and wait for the reads of their image (R38, R39) -/
  taken     : List TakenLaunch
  /-- the next gang number (R99) -/
  nextGang  : Nat
  pins      : List Pin
  /-- what the caches, the directories and the homes hold (R217, R229, R315 to R324) -/
  coh       : Coherence
  ulines    : List ULine
  /-- awcfg.satf of a context's windows that is set (R336) -/
  satf      : List (Nat × Nat)
  /-- pages whose lines answer moved responses: PA / 65,536 (R326) -/
  movedPages : List Nat
  /-- Burzer: links down, replays per link, the device at the far end of a link, this device's number, the numbers that other devices
  hold, those that have failed, this device's export slice (R369, R370) -/
  linkDown  : List Nat
  replays   : List (Nat × Nat)
  linkTo    : List (Nat × Nat)
  device    : Nat
  peers     : List Nat
  failedDev : List Nat
  exportSlice : Nat
  /-- PCI Express configuration: port, offset, value of what has been written (R37, R368) -/
  pcie      : List (Nat × Nat × Word)
  /-- the ranges of device memory that the host names for checkpoints, and the last valid checkpoint of each device, as their buddies
  hold them (R370) -/
  named     : List Range
  checkpts  : List (Nat × Checkpoint)
  /-- the configuration record, the image of the firmware that runs, and its security version (R371, R47, R48) -/
  record    : ConfigRecord
  firmware  : Memory
  fwver     : Nat
  /-- a stage of bring-up is under way (R47) -/
  bringup   : Bool
  /-- the staging window of a device in recovery (R48) -/
  staging   : Memory
  /-- the model's counters: free values taken, requests dated -/
  fresh     : Nat
  clock     : Nat
  deriving DecidableEq, Repr

/-- Control registers right after reset (R93 to R99). Where the maps give R12 or nothing, the value is the model's
(log 1): zero, but `vcfg` has `p8` = 4, the assembler's default of R82, since a `vcfg` with `p8` 0 is illegal (R94). -/
def Csrs.reset : Csrs :=
  { status := 0#64, tvec := 0#64, tcause := 0#64, tval := 0#64, tpc := 0#64, tvpc := 0#64, tqpos := 0#64,
    tscratch := 0#64, vcfg := 0x80000000#64, vstart := 0#64, vdirty := 0#64, vsc := 0#64, bypth := 262144#64,
    rkey := 0#64, mshape := 0#64, mmode := 0#64, fflags := 0#64, fen := 0#64, ftbase := 0#64, ftlimit := 0#64,
    fcfg := 0#64, cellsweep := 0#64, awbase := Vector.replicate 4 0#64, awcfg := Vector.replicate 4 0#64,
    instret := 0#64, pgroot := 0#64, ctxid := 0#64, quota := 0#32, errinfo := 0#64, gang := 0, member := 0,
    leaseMin := 0, leasePref := 0, grant := 0, target := 0, frozen := false }

/-- An empty image buffer. -/
def QImage.empty : QImage := { vstart := 0, lrec := 0#64, slots := [] }

/-- A hart right after reset: off, its registers at the values of log 1. -/
def Hart.reset (id : Nat) : Hart :=
  { id := id, run := .off, pc := 0#64, x := Vector.replicate 32 0#64, v := Vector.replicate 32 0#65536,
    k := (Vector.replicate 8 0#8192).set 0 (BitVec.allOnes 8192), z := Vector.replicate 2 0#524288,
    zchk := Vector.replicate 2 0#524288, csr := .reset, job := none, queue := [], image := .empty, vcause := none,
    ecauses := [], preT := false, preH := false, softErr := [], event := false, watched := none, bridle := [],
    age := 0, vlmaxTo := none, hold := false, forks := [], bad := [], gwait := none, offers := [], moved := [],
    timeout := false, waits := false, group := none, recur := none, objects := [], fences := 0 }

/-- The groom core of a die right after cold reset: running, in farrier mode (R93), VLMAX code 3 (R35). -/
def Hart.groomReset (die : Nat) : Hart :=
  { Hart.reset (2304 + die) with
    run := .running
    csr := { Csrs.reset with status := 2#64, vcfg := 0x1880000000#64 } }

/-- A stable right after reset (R50, R99). -/
def Stable.reset (n : Nat) : Stable :=
  { n := n, lanedis := 0#16, retired := 0#16, cycle := 0#64, tlb := [], frames := [], icache := [] }

/-- The configuration record of a part with nothing retired, at the figures of R2 and R372; its SKU and stepping are the model's (log 101). -/
def ConfigRecord.reset : ConfigRecord := { sku := 0, step := 0, retired := [], power := 3200, clock := 100, inlet := 40, flow := 40 }

/-- Caches, link tables, directories and homes right after reset: nothing held. -/
def Coherence.reset : Coherence := { caches := [], links := [], dir := [], homes := [], uses := 0 }

/-- A die right after reset. -/
def Die.reset (n : Nat) : Die :=
  { n := n, pad := [], readyAt := 0, faultAt := 0, watchdog := true, inbox := [], offers := [], copies := [], run := .running, clock := 100, moved := [], table := [] }

/-- A host port right after reset. -/
def Port.reset (n : Nat) : Port :=
  { n := n, up := true, wake := List.replicate 64 0#8, launch := List.replicate 32 0#8,
    sealWin := List.replicate 64 0#8, events := [], waiting := [], seq := 0, errs := [], errHead := 0, errTail := 0,
    errOvf := false, sramce := 0, memce := 0, linkce := 0, cethr := 0, msix := [], doe := [], pending := [], writes := [], behind := [], reply := 0#64 }

/-- The part right after cold reset: no hart runs but the groom cores, memory lists nothing, every register is at the
value the spec states or, where it states none, at the one that log 1 names. -/
def State.reset : State :=
  { hart := Hart.reset 0
    others := [Hart.groomReset 0, Hart.groomReset 1, Hart.groomReset 2, Hart.groomReset 3, Hart.groomReset 4,
      Hart.groomReset 5]
    turns := [], laneEager := true, jobs := [], stables := []
    dies := [Die.reset 0, Die.reset 1, Die.reset 2, Die.reset 3, Die.reset 4, Die.reset 5]
    ports := [Port.reset 0, Port.reset 1]
    mem := [], initNext := 0, initSet := [], failing := [], aborting := [], funcmode := 0#64, modelock := false, cfglock := false,
    winlock := false, booterr := 0, stage := 0, recovery := false, initdone := false, fwok := false, ready := false,
    hsem := 0, windows := [], epoch := 0, floors := [], created := [], secver := 0, rings := [], graphs := [], nextGraph := 0,
    pending := [], taken := [], nextGang := 1, pins := [], coh := Coherence.reset, ulines := [], satf := [], movedPages := [],
    linkDown := [], replays := [], linkTo := [], device := 0, peers := [], failedDev := [], exportSlice := 0, pcie := [], named := [],
    checkpts := [], record := ConfigRecord.reset, firmware := [], fwver := 0, bringup := false, staging := [], fresh := 0, clock := 0 }

end Sys2Proof.Machine
end

