-- ==== Sys2Proof/Machine/Bits.lean ====
section
/-! DEFINITION. Bit fields of words, elements of registers, and lists searched and updated by a key. -/

namespace Sys2Proof.Machine

/-- The value of the `n` bits of `w` from bit `lo`. -/
def bits {m : Nat} (w : BitVec m) (lo n : Nat) : Nat := (w.extractLsb' lo n).toNat

/-- Bit `i` of `w`. -/
def bit {m : Nat} (w : BitVec m) (i : Nat) : Bool := w.getLsbD i

/-- `w` with the `n` bits from bit `lo` replaced by the low bits of `v`. -/
def setBits {m : Nat} (w : BitVec m) (lo n v : Nat) : BitVec m :=
  (w &&& ~~~(BitVec.ofNat m (2 ^ n - 1) <<< lo)) ||| (BitVec.ofNat m (v % 2 ^ n) <<< lo)

/-- `w` with bit `i` set to `b`. -/
def setBit {m : Nat} (w : BitVec m) (i : Nat) (b : Bool) : BitVec m := setBits w i 1 b.toNat

/-- The `n`-bit two's-complement value of the low bits of `v`. -/
def sextNat (n v : Nat) : Int := (BitVec.ofNat n v).toInt

/-- Element `i` of width `w` of a register (R51, R84). -/
def elem {m : Nat} (r : BitVec m) (w i : Nat) : BitVec w := r.extractLsb' (i * w) w

/-- The register with element `i` of width `w` replaced (R84). -/
def setElem {m : Nat} (r : BitVec m) (w i : Nat) (e : BitVec w) : BitVec m :=
  (r &&& ~~~(BitVec.ofNat m (2 ^ w - 1) <<< (i * w))) ||| (BitVec.ofNat m e.toNat <<< (i * w))

/-- The first item of a list that meets `p`. -/
def findBy {α : Type} (p : α → Bool) : List α → Option α
  | [] => none
  | a :: as => if p a then some a else findBy p as

/-- The list with the first item that meets `p` replaced by `b`; `b` is added at the end if there is none. -/
def putBy {α : Type} (p : α → Bool) (b : α) : List α → List α
  | [] => [b]
  | a :: as => if p a then b :: as else a :: putBy p b as

/-- The first answer that an item gives. -/
def firstOf {α β : Type} (f : α → Option β) : List α → Option β
  | [] => none
  | a :: as => match f a with | some b => some b | none => firstOf f as

/-- The items that do not meet `p`. -/
def dropBy {α : Type} (p : α → Bool) : List α → List α
  | [] => []
  | a :: as => if p a then dropBy p as else a :: dropBy p as

/-- Whether some item meets `p`. -/
def anyBy {α : Type} (p : α → Bool) : List α → Bool
  | [] => false
  | a :: as => p a || anyBy p as

/-- The item at index `n`. -/
def nth {α : Type} : List α → Nat → Option α
  | [], _ => none
  | a :: _, 0 => some a
  | _ :: as, n + 1 => nth as n

/-- The list with index `n` replaced. -/
def setNth {α : Type} : List α → Nat → α → List α
  | [], _, _ => []
  | _ :: as, 0, b => b :: as
  | a :: as, n + 1, b => a :: setNth as n b

/-- The sum of a list. -/
def sumBy {α : Type} (f : α → Nat) : List α → Nat
  | [] => 0
  | a :: as => f a + sumBy f as

/-- 0, 1, …, n - 1, each increased by `lo`. -/
def countFrom (lo : Nat) : Nat → List Nat
  | 0 => []
  | n + 1 => lo :: countFrom (lo + 1) n

/-- The bytes of `v` from the lowest, `n` of them (R4). -/
def toBytes : Nat → Nat → List Byte
  | 0, _ => []
  | n + 1, v => BitVec.ofNat 8 v :: toBytes n (v / 256)

/-- The little-endian value of bytes (R4). -/
def ofBytes : List Byte → Nat
  | [] => 0
  | b :: bs => b.toNat + 256 * ofBytes bs

end Sys2Proof.Machine
end

