-- ==== Sys2Proof/Machine/Numbers.lean ====
section
/-! DEFINITION. Numbers: the floating-point formats, exact values, rounding, fitting, comparison, conversion and
the random stream of spec/08 (R150 to R166), the scalar results of spec/06 (R109 to R112). -/

namespace Sys2Proof.Machine

/-! ## Flags -/

/-- The flags in the order of `fflags` (R97): idz [5], nx [4], uf [3], of [2], dz [1], nv [0]. -/
abbrev Flags := BitVec 6

/-- No flag. -/
def noFlags : Flags := 0#6
/-- Invalid. -/
def flagNv : Flags := 1#6
/-- Divide by zero. -/
def flagDz : Flags := 2#6
/-- Overflow. -/
def flagOf : Flags := 4#6
/-- Underflow. -/
def flagUf : Flags := 8#6
/-- Inexact. -/
def flagNx : Flags := 16#6
/-- Integer divide by zero. -/
def flagIdz : Flags := 32#6

/-- The flag `f` when `b` holds. -/
def flagIf (b : Bool) (f : Flags) : Flags := if b then f else noFlags

/-! ## Formats -/

/-- The kinds of floating-point format (R151, R153, R154, R158). -/
inductive FpKind where
  | ieee      -- binary16, bf16, FP32, FP64
  | b8        -- binary8pP, signed variant
  | b8n       -- binary8pP, unsigned variant
  | e4m3      -- OCP E4M3
  deriving DecidableEq, Repr

/-- A format: its kind, widths of exponent and trailing significand, bias, and whether it has infinities. -/
structure FpFmt where
  kind  : FpKind
  width : Nat
  ebits : Nat
  mbits : Nat
  bias  : Nat
  inf   : Bool
  deriving DecidableEq, Repr

/-- binary16 (R151). -/
def fmtH : FpFmt := { kind := .ieee, width := 16, ebits := 5, mbits := 10, bias := 15, inf := true }
/-- bf16 (R151). -/
def fmtBf : FpFmt := { kind := .ieee, width := 16, ebits := 8, mbits := 7, bias := 127, inf := true }
/-- FP32 (R151). -/
def fmtF32 : FpFmt := { kind := .ieee, width := 32, ebits := 8, mbits := 23, bias := 127, inf := true }
/-- FP64 (R151). -/
def fmtF64 : FpFmt := { kind := .ieee, width := 64, ebits := 11, mbits := 52, bias := 1023, inf := true }
/-- E4M3 (R158). -/
def fmtE4 : FpFmt := { kind := .e4m3, width := 8, ebits := 4, mbits := 3, bias := 7, inf := false }
/-- binary8pP (R153, R154): precision `p` from 1 to 7, unsigned variant `n`, infinities `inf`. -/
def fmtB8 (p : Nat) (n inf : Bool) : FpFmt :=
  if n then { kind := .b8n, width := 8, ebits := 9 - p, mbits := p - 1, bias := 2 ^ (8 - p), inf := inf }
  else { kind := .b8, width := 8, ebits := 8 - p, mbits := p - 1, bias := 2 ^ (7 - p), inf := inf }

/-- The precision: significand bits, the hidden one included. -/
def FpFmt.prec (f : FpFmt) : Nat := f.mbits + 1
/-- The exponent of the least normal value. -/
def FpFmt.emin (f : FpFmt) : Int := 1 - (f.bias : Int)
/-- The exponent of the step of the subnormals. -/
def FpFmt.qmin (f : FpFmt) : Int := f.emin - (f.mbits : Int)

/-- The canonical quiet NaN (R151, R158). -/
def FpFmt.nan (f : FpFmt) : Nat :=
  match f.kind with
  | .ieee => (2 ^ f.ebits - 1) * 2 ^ f.mbits + 2 ^ (f.mbits - 1)
  | .b8   => 0x80
  | .b8n  => 0xFF
  | .e4m3 => 0x7F

/-- The code of +infinity, for a format that has one. -/
def FpFmt.posInf (f : FpFmt) : Nat :=
  match f.kind with
  | .ieee => (2 ^ f.ebits - 1) * 2 ^ f.mbits
  | .b8   => 0x7F
  | .b8n  => 0xFE
  | .e4m3 => 0x7F

/-- The code of the largest finite value (R155, R158). -/
def FpFmt.maxCode (f : FpFmt) : Nat :=
  match f.kind with
  | .ieee => (2 ^ f.ebits - 1) * 2 ^ f.mbits - 1
  | .b8   => if f.inf then 0x7E else 0x7F
  | .b8n  => if f.inf then 0xFD else 0xFE
  | .e4m3 => 0x7E

/-- The sign bit's weight in a code; 0 in the unsigned variant. -/
def FpFmt.signBit (f : FpFmt) : Nat :=
  match f.kind with
  | .b8n => 0
  | _    => 2 ^ (f.width - 1)

/-! ## Values -/

/-- The value of a code: a NaN (signalling or quiet), an infinity, or the finite (-1)^neg * m * 2^e. A zero has m = 0
and keeps its sign. -/
inductive FVal where
  | nan (sig : Bool)
  | inf (neg : Bool)
  | fin (neg : Bool) (m : Nat) (e : Int)
  deriving DecidableEq, Repr

/-- The finite value of an exponent field and a trailing significand (R151, R153). -/
def FpFmt.finite (f : FpFmt) (neg : Bool) (e t : Nat) : FVal :=
  if e = 0 then .fin neg t f.qmin
  else .fin neg (2 ^ f.mbits + t) ((e : Int) - (f.bias : Int) - (f.mbits : Int))

/-- The value of the code `c` (R151, R153, R154, R158). -/
def FpFmt.decode (f : FpFmt) (c : Nat) : FVal :=
  let t := c % 2 ^ f.mbits
  let e := (c / 2 ^ f.mbits) % 2 ^ f.ebits
  match f.kind with
  | .ieee =>
    let neg := c / 2 ^ (f.width - 1) % 2 == 1
    if e = 2 ^ f.ebits - 1 then
      if t = 0 then .inf neg else .nan (t < 2 ^ (f.mbits - 1))
    else f.finite neg e t
  | .b8 =>
    let neg := c / 128 % 2 == 1
    if c % 256 = 0x80 then .nan false
    else if f.inf && c % 128 == 0x7F then .inf neg
    else f.finite neg e t
  | .b8n =>
    if c % 256 = 0xFF then .nan false
    else if f.inf && c % 256 == 0xFE then .inf false
    else f.finite false e t
  | .e4m3 =>
    let neg := c / 128 % 2 == 1
    if c % 128 = 0x7F then .nan false else f.finite neg e t

/-- The code of the finite magnitude n * 2^q, where q is at least `qmin` and n has at most `prec` bits. -/
def FpFmt.encodeMag (f : FpFmt) (n : Nat) (q : Int) : Nat :=
  if n < 2 ^ f.mbits then n
  else ((q + (f.mbits : Int) + (f.bias : Int)).toNat) * 2 ^ f.mbits + (n - 2 ^ f.mbits)

/-- The code of a zero of sign `neg`: binary8pP has one zero (R153, R157). -/
def FpFmt.zero (f : FpFmt) (neg : Bool) : Nat :=
  match f.kind with
  | .b8 | .b8n => 0
  | _ => if neg then f.signBit else 0

/-- Whether the value is a subnormal of the format: finite, not zero, below the least normal. -/
def FpFmt.subnormal (f : FpFmt) (c : Nat) : Bool :=
  match f.decode c with
  | .fin _ m _ => m != 0 && (c / 2 ^ f.mbits) % 2 ^ f.ebits == 0
  | _ => false

/-! ## Rounding (R152, R160, R164) -/

/-- The rounding modes (R152). -/
inductive RMode where
  | rne | rtz | rdn | rup | rna | sr
  deriving DecidableEq, Repr

/-- The rounding of a `vcfg.rm` code (R94, R152); the codes 6 and 7 stand in no legal `vcfg`. -/
def RMode.ofCode (c : Nat) : RMode :=
  match c with
  | 1 => .rtz
  | 2 => .rdn
  | 3 => .rup
  | 4 => .rna
  | 5 => .sr
  | _ => .rne

/-- A mode where stochastic rounding is not allowed (R87, R152): SR rounds RNE. -/
def RMode.noSr : RMode → RMode
  | .sr => .rne
  | m => m

/-- Under what a result is delivered: the mode, the flushing (R161), saturation (R160), and the 16 random bits of
stochastic rounding (R164). -/
structure FpEnv where
  rm       : RMode
  flushIn  : Bool
  flushOut : Bool
  sat      : Bool
  rand     : Nat
  deriving DecidableEq, Repr

/-- Scalar floating point: subnormals kept, no saturation (R109). -/
def FpEnv.scalar (rm : RMode) : FpEnv := { rm := rm, flushIn := false, flushOut := false, sat := false, rand := 0 }

/-- The floor of m * 2^s and what is cut off. -/
def shiftFloor (m : Nat) (s : Int) : Nat :=
  if 0 ≤ s then m <<< s.toNat else m >>> (-s).toNat

/-- Rounds (m + a fraction if `sticky`) * 2^e to a multiple of 2^q: the multiple, and whether it is inexact. `sticky`
says that the exact value lies strictly between m and m + 1 in units of 2^e. -/
def roundTo (rm : RMode) (neg : Bool) (rand : Nat) (m : Nat) (e : Int) (sticky : Bool) (q : Int) : Nat × Bool :=
  let d := q - e
  if d ≤ 0 then
    let n := m <<< (-d).toNat
    let up := sticky && (match rm with | .rdn => neg | .rup => !neg | _ => false)
    (if up then n + 1 else n, sticky)
  else
    let k := d.toNat
    let n := m >>> k
    let r := m % 2 ^ k
    let half := 2 ^ (k - 1)
    let inexact := r != 0 || sticky
    let above := decide (half < r) || (r == half && sticky)
    let tie := r == half && !sticky
    let up := match rm with
      | .rne => above || (tie && n % 2 == 1)
      | .rtz => false
      | .rdn => inexact && neg
      | .rup => inexact && !neg
      | .rna => above || tie
      | .sr  => decide (2 ^ 16 ≤ (r * 2 ^ 16) / 2 ^ k + rand)
    (if up then n + 1 else n, inexact)

/-- m * 2^e exceeds n * 2^q. -/
def magLt (n : Nat) (q : Int) (m : Nat) (e : Int) : Bool :=
  let lo := min q e
  decide (n <<< (q - lo).toNat < m <<< (e - lo).toNat)

/-- Delivers an infinite result (R160, R154): `exact` marks an exact infinity, else it comes from overflow. -/
def deliverInf (f : FpFmt) (env : FpEnv) (neg exact : Bool) : Nat × Flags :=
  let fl := if exact then noFlags else flagOf ||| flagNx
  if f.kind = .b8n && neg then
    if env.sat then (0, fl) else (f.nan, if exact then flagNv else fl)
  else
    let sb := if neg then f.signBit else 0
    if env.sat then
      if exact && f.inf then (sb + f.posInf, fl) else (sb + f.maxCode, fl)
    else if f.inf then (sb + f.posInf, fl)
    else (f.nan, if exact then flagNv else fl)

/-- Delivers the exact value (-1)^neg * (m + a fraction if `sticky`) * 2^e in the format: rounding, then flush, then
overflow and fitting (R151, R152, R154, R157, R160, R161, R177). A zero (m = 0) is delivered with the sign `neg`. -/
def deliver (f : FpFmt) (env : FpEnv) (neg : Bool) (m : Nat) (e : Int) (sticky : Bool) : Nat × Flags :=
  if m = 0 then (f.zero neg, noFlags)
  else
    let top := e + (Nat.log2 m : Int)
    let qu := top - (f.mbits : Int)
    let q := max qu f.qmin
    let (n, inexact) := roundTo env.rm neg env.rand m e sticky q
    -- tininess after rounding: the value rounded with an unbounded exponent range lies below the least normal
    let (nu, _) := roundTo env.rm neg env.rand m e sticky qu
    let tiny := magLt nu qu 1 f.emin
    let nxf := flagIf inexact flagNx
    let uff := flagIf (tiny && inexact) flagUf
    let (mx, me) := match f.decode f.maxCode with
      | .fin _ m' e' => (m', e')
      | _ => (0, 0)
    if n = 0 then (f.zero neg, nxf ||| uff)
    else if env.flushOut && decide (n < 2 ^ f.mbits) then (f.zero neg, nxf ||| uff ||| flagUf ||| flagNx)
    else if f.kind = .b8n && neg then
      ((if env.sat then 0 else f.nan), flagOf ||| flagNx)
    else if magLt mx me n q then
      -- overflow: what IEEE 754 delivers in the mode
      let toMax := match env.rm with
        | .rtz => true
        | .rdn => !neg
        | .rup => neg
        | _ => false
      if toMax then ((if neg then f.signBit else 0) + f.maxCode, flagOf ||| flagNx)
      else deliverInf f env neg false
    else
      let (n', q') := if n = 2 ^ f.prec then (2 ^ f.mbits, q + 1) else (n, q)
      let sb := if neg then f.signBit else 0
      (sb + f.encodeMag n' q', nxf ||| uff)

/-- The NaN result. -/
def deliverNan (f : FpFmt) (fl : Flags) : Nat × Flags := (f.nan, fl)

/-- An operand read under `flush` (R161): a subnormal may read as zero of its sign. -/
def readFp (f : FpFmt) (env : FpEnv) (c : Nat) : FVal :=
  match f.decode c with
  | .fin neg m e => if env.flushIn && f.subnormal c then .fin neg 0 e else .fin neg m e
  | v => v

/-- Whether the value is a signalling NaN. -/
def FVal.isSig : FVal → Bool
  | .nan s => s
  | _ => false

/-- Whether the value is a NaN. -/
def FVal.isNan : FVal → Bool
  | .nan _ => true
  | _ => false

/-- The value with its sign inverted (a NaN stays). -/
def FVal.negate : FVal → FVal
  | .nan s => .nan s
  | .inf n => .inf (!n)
  | .fin n m e => .fin (!n) m e

/-- Invalid when an operand is a signalling NaN (R151). -/
def sigFlag (a b : FVal) : Flags := flagIf (a.isSig || b.isSig) flagNv

/-! ## Arithmetic (R110, R111, R177) -/

/-- The exact sum of two finite values as (sign, magnitude, exponent); a zero sum of unlike signs is +0, or -0 under
RDN, and the sum of zeros of one sign keeps it. -/
def exactAdd (rm : RMode) (n1 : Bool) (m1 : Nat) (e1 : Int) (n2 : Bool) (m2 : Nat) (e2 : Int) : Bool × Nat × Int :=
  let lo := min e1 e2
  let a := m1 <<< (e1 - lo).toNat
  let b := m2 <<< (e2 - lo).toNat
  if n1 = n2 then (n1, a + b, lo)
  else if a = b then (rm = .rdn, 0, lo)
  else if b < a then (n1, a - b, lo)
  else (n2, b - a, lo)

/-- Delivers a value. -/
def deliverVal (f : FpFmt) (env : FpEnv) (v : FVal) : Nat × Flags :=
  match v with
  | .nan s => deliverNan f (flagIf s flagNv)
  | .inf n => deliverInf f env n true
  | .fin n m e => deliver f env n m e false

/-- a + b. -/
def fpAddV (f : FpFmt) (env : FpEnv) (a b : FVal) : Nat × Flags :=
  match a, b with
  | .nan _, _ => deliverNan f (sigFlag a b)
  | _, .nan _ => deliverNan f (sigFlag a b)
  | .inf n1, .inf n2 => if n1 = n2 then deliverInf f env n1 true else deliverNan f flagNv
  | .inf n, .fin _ _ _ => deliverInf f env n true
  | .fin _ _ _, .inf n => deliverInf f env n true
  | .fin n1 m1 e1, .fin n2 m2 e2 =>
    let (n, m, e) := exactAdd env.rm n1 m1 e1 n2 m2 e2
    deliver f env n m e false

/-- a * b as an exact value; `none` for an invalid product of zero and infinity. -/
def exactMul (a b : FVal) : Option FVal :=
  match a, b with
  | .nan s, .nan t => some (.nan (s || t))
  | .nan s, _ => some (.nan s)
  | _, .nan s => some (.nan s)
  | .inf n1, .inf n2 => some (.inf (n1 != n2))
  | .inf n1, .fin n2 m _ => if m = 0 then none else some (.inf (n1 != n2))
  | .fin n1 m _, .inf n2 => if m = 0 then none else some (.inf (n1 != n2))
  | .fin n1 m1 e1, .fin n2 m2 e2 => some (.fin (n1 != n2) (m1 * m2) (e1 + e2))

/-- a * b. -/
def fpMulV (f : FpFmt) (env : FpEnv) (a b : FVal) : Nat × Flags :=
  match exactMul a b with
  | none => deliverNan f flagNv
  | some v => deliverVal f env v

/-- a * b + c with one rounding; zero times infinity is invalid even when c is a quiet NaN (R111, R177). -/
def fpFmaV (f : FpFmt) (env : FpEnv) (a b c : FVal) : Nat × Flags :=
  match exactMul a b with
  | none => deliverNan f flagNv
  | some p => fpAddV f env p c

/-- a / b (R110): the quotient is formed with more bits than any format needs, and a sticky remainder. -/
def fpDivV (f : FpFmt) (env : FpEnv) (a b : FVal) : Nat × Flags :=
  match a, b with
  | .nan _, _ => deliverNan f (sigFlag a b)
  | _, .nan _ => deliverNan f (sigFlag a b)
  | .inf _, .inf _ => deliverNan f flagNv
  | .inf n1, .fin n2 _ _ => deliverInf f env (n1 != n2) true
  | .fin n1 _ _, .inf n2 => (f.zero (n1 != n2), noFlags)
  | .fin n1 m1 e1, .fin n2 m2 e2 =>
    if m2 = 0 then
      if m1 = 0 then deliverNan f flagNv
      else
        let (c, fl) := deliverInf f env (n1 != n2) true
        (c, fl ||| flagDz)
    else if m1 = 0 then (f.zero (n1 != n2), noFlags)
    else
      let k := f.mbits + 4 + Nat.log2 m2
      let num := m1 <<< k
      deliver f env (n1 != n2) (num / m2) (e1 - e2 - (k : Int)) (num % m2 != 0)

/-- The integer square root by `fuel` bits from the top: the greatest r with r * r at most n, among r below 2^fuel. -/
def isqrtAux (n : Nat) : Nat → Nat → Nat
  | 0, r => r
  | k + 1, r =>
    let t := r + 2 ^ k
    isqrtAux n k (if t * t ≤ n then t else r)

/-- The integer square root. -/
def isqrt (n : Nat) : Nat := isqrtAux n (Nat.log2 n / 2 + 1) 0

/-- The square root (R110, R179). -/
def fpSqrtV (f : FpFmt) (env : FpEnv) (a : FVal) : Nat × Flags :=
  match a with
  | .nan s => deliverNan f (flagIf s flagNv)
  | .inf n => if n then deliverNan f flagNv else deliverInf f env false true
  | .fin n m e =>
    if m = 0 then (f.zero n, noFlags)
    else if n then deliverNan f flagNv
    else
      -- scale to an even exponent and enough bits
      let k := 2 * (f.mbits + 4) + (if (e % 2 = 0) then 0 else 1)
      let big := m <<< k
      let r := isqrt big
      deliver f env false r ((e - (k : Int)) / 2) (r * r != big)

/-- The order of two values that are no NaN: zeros are equal. -/
def cmpVal (a b : FVal) : Ordering :=
  let signed (v : FVal) : Int × Nat × Int :=
    match v with
    | .nan _ => (0, 0, 0)
    | .inf n => (if n then -2 else 2, 0, 0)
    | .fin n m e => if m = 0 then (0, 0, 0) else (if n then -1 else 1, m, e)
  let (s1, m1, e1) := signed a
  let (s2, m2, e2) := signed b
  if s1 < s2 then .lt
  else if s2 < s1 then .gt
  else if s1 = 1 then (if magLt m1 e1 m2 e2 then .lt else if magLt m2 e2 m1 e1 then .gt else .eq)
  else if s1 = -1 then (if magLt m1 e1 m2 e2 then .gt else if magLt m2 e2 m1 e1 then .lt else .eq)
  else .eq

/-- The sign of a value. -/
def FVal.neg : FVal → Bool
  | .nan _ => false
  | .inf n => n
  | .fin n _ _ => n

/-- The smaller (`isMax` false) or larger operand (R110), with -0 below +0; a lone NaN gives the other operand. -/
def pickMinMax (isMax : Bool) (a b : FVal) : FVal :=
  match a, b with
  | .nan _, _ => b
  | _, .nan _ => a
  | _, _ =>
    let aLess := match cmpVal a b with
      | .lt => true
      | .gt => false
      | .eq => a.neg
    if aLess == isMax then b else a

/-- `fmin` and `fmax` (R110): the operand chosen is delivered; it is already a value of the format. -/
def fpMinMaxV (f : FpFmt) (env : FpEnv) (isMax : Bool) (a b : FVal) : Nat × Flags :=
  match pickMinMax isMax a b with
  | .nan _ => (f.nan, sigFlag a b)
  | v => let (c, fl) := deliverVal f env v; (c, sigFlag a b ||| fl)

/-- Sign injection (R110) on an IEEE code: `x` with the sign bit `s`. -/
def withSign (f : FpFmt) (x : Nat) (s : Bool) : Nat :=
  x % f.signBit + (if s then f.signBit else 0)

/-- The kinds of sign injection. -/
inductive SgnKind where
  | same | inv | xor
  deriving DecidableEq, Repr

/-- `fsgnj`, `fsgnjn`, `fsgnjx` (R110, R178). In binary8pP zero and NaN stay, and the unsigned variant is unchanged. -/
def fpSgnj (f : FpFmt) (kind : SgnKind) (a b : Nat) : Nat :=
  match f.kind with
  | .b8n => a
  | _ =>
    if f.kind = .b8 && (a == 0 || a == 0x80) then a
    else
      let sa := a / f.signBit % 2 == 1
      let sb := b / f.signBit % 2 == 1
      withSign f a (match kind with | .same => sb | .inv => !sb | .xor => sa != sb)

/-- `vfabs` and `vfneg` (R179, R178). -/
def fpAbs (f : FpFmt) (a : Nat) : Nat :=
  match f.kind with
  | .b8n => a
  | _ => if f.kind = .b8 && (a == 0 || a == 0x80) then a else withSign f a false

/-- The code with its sign inverted (R179, R178). -/
def fpNegCode (f : FpFmt) (a : Nat) : Nat :=
  match f.kind with
  | .b8n => a
  | _ => if f.kind = .b8 && (a == 0 || a == 0x80) then a else withSign f a (a / f.signBit % 2 == 0)

/-- The one-hot class (R110): bit 0 -inf, 1 negative normal, 2 negative subnormal, 3 -0, 4 +0, 5 positive subnormal,
6 positive normal, 7 +inf, 8 signalling NaN, 9 quiet NaN. At SEW 8 the quiet-NaN bit 9 does not fit its element. -/
def fpClass (f : FpFmt) (c : Nat) : Nat :=
  match f.decode c with
  | .nan s => if s then 2 ^ 8 else 2 ^ 9
  | .inf n => if n then 1 else 2 ^ 7
  | .fin n m _ =>
    if m = 0 then (if n then 2 ^ 3 else 2 ^ 4)
    else if f.subnormal c then (if n then 2 ^ 2 else 2 ^ 5)
    else (if n then 2 else 2 ^ 6)

/-- The conditions of the floating compares (R110, R183). -/
inductive FCond where
  | feq | fne | flt | fle | fgt | fge | funord | ford
  deriving DecidableEq, Repr

/-- A floating compare: its truth and its flags (R183). -/
def fpCompareV (c : FCond) (a b : FVal) : Bool × Flags :=
  let un := a.isNan || b.isNan
  let quiet := sigFlag a b
  let loud := flagIf un flagNv
  -- binary8pP and E4M3 have no signalling NaN and raise nothing: the caller clears the flag there
  let o := cmpVal a b
  match c with
  | .feq => (!un && o == .eq, quiet)
  | .fne => (un || o != .eq, quiet)
  | .flt => (!un && o == .lt, loud)
  | .fle => (!un && o != .gt, loud)
  | .fgt => (!un && o == .gt, loud)
  | .fge => (!un && o != .lt, loud)
  | .funord => (un, quiet)
  | .ford => (!un, quiet)

/-- In the narrow formats a NaN operand raises no flag (R151). -/
def nanQuiet (f : FpFmt) (fl : Flags) : Flags :=
  match f.kind with
  | .ieee => fl
  | _ => fl &&& ~~~flagNv

/-- A compare of two codes. -/
def fpCompare (f : FpFmt) (env : FpEnv) (c : FCond) (a b : Nat) : Bool × Flags :=
  let (t, fl) := fpCompareV c (readFp f env a) (readFp f env b)
  (t, nanQuiet f fl)

/-! ## Conversions (R112, R159, R182) -/

/-- The value rounded to an integer, and whether that was inexact. -/
def toIntegral (rm : RMode) (neg : Bool) (m : Nat) (e : Int) : Int × Bool :=
  let (n, nx) := roundTo rm neg 0 m e false 0
  (if neg then -(n : Int) else (n : Int), nx)

/-- The value as an integer between lo and hi (R112): out of range and NaN raise invalid, and give the nearer extreme,
a NaN the largest positive value. -/
def fpToInt (rm : RMode) (lo hi : Int) (v : FVal) : Int × Flags :=
  match v with
  | .nan _ => (hi, flagNv)
  | .inf n => (if n then lo else hi, flagNv)
  | .fin n m e =>
    let (i, nx) := toIntegral rm n m e
    if i < lo then (lo, flagNv)
    else if hi < i then (hi, flagNv)
    else (i, flagIf nx flagNx)

/-- An integer delivered in a format with one rounding (R112). -/
def fpOfInt (f : FpFmt) (env : FpEnv) (i : Int) : Nat × Flags :=
  deliver f env (decide (i < 0)) i.natAbs 0 false

/-- From one format to another: one rounding of the exact source value (R112, R182). -/
def fpConvert (src dst : FpFmt) (env : FpEnv) (c : Nat) : Nat × Flags :=
  deliverVal dst env (readFp src env c)

/-- To q4 (R159): the rounded integer clamped to -8 to 7; the clamp raises invalid when saturation is off; a NaN gives
7 with invalid. The four bits are in two's complement. -/
def fpToQ4 (env : FpEnv) (v : FVal) : Nat × Flags :=
  let nibble (i : Int) : Nat := (i % 16).toNat
  let clampFlag := flagIf (!env.sat) flagNv
  match v with
  | .nan _ => (7, flagNv)
  | .inf n => (nibble (if n then -8 else 7), clampFlag)
  | .fin n m e =>
    let (i, nx) := toIntegral env.rm n m e
    if i < -8 then (nibble (-8), clampFlag)
    else if 7 < i then (7, clampFlag)
    else (nibble i, flagIf nx flagNx)

/-- The value of a q4 nibble (R159). -/
def q4Val (n : Nat) : FVal :=
  let n := n % 16
  if n < 8 then .fin false n 0 else .fin true (16 - n) 0

/-- An integral value in the format (R179): towards -inf, +inf or by the mode; keeps the sign of a zero result and never
raises inexact. -/
def fpIntegral (f : FpFmt) (env : FpEnv) (c : Nat) : Nat × Flags :=
  match readFp f env c with
  | .nan s => deliverNan f (flagIf s flagNv)
  | .inf n => deliverInf f env n true
  | .fin n m e =>
    if 0 ≤ e then deliver f env n m e false
    else
      let (k, _) := roundTo env.rm n 0 m e false 0
      if k = 0 then (f.zero n, noFlags)
      else
        let (r, fl) := deliver f env n k 0 false
        (r, fl &&& ~~~flagNx)

/-! ## The random stream (R165) -/

/-- One round of Philox-4x32 on four words with the round's key. -/
def philoxRound (w : Word32 × Word32 × Word32 × Word32) (k0 k1 : Word32) : Word32 × Word32 × Word32 × Word32 :=
  let (w0, w1, w2, w3) := w
  let p : Word := 0xD2511F53#64 * w0.setWidth 64
  let q : Word := 0xCD9E8D57#64 * w2.setWidth 64
  ((q >>> 32).setWidth 32 ^^^ w1 ^^^ k0, q.setWidth 32, (p >>> 32).setWidth 32 ^^^ w3 ^^^ k1, p.setWidth 32)

/-- `n` rounds, the keys advancing between them. -/
def philoxRounds : Nat → Word32 × Word32 × Word32 × Word32 → Word32 → Word32 → Word32 × Word32 × Word32 × Word32
  | 0, w, _, _ => w
  | n + 1, w, k0, k1 => philoxRounds n (philoxRound w k0 k1) (k0 + 0x9E3779B9#32) (k1 + 0xBB67AE85#32)

/-- Philox-4x32-10 under key `key` at the counter `c` (R165). -/
def philox (key c : Word) : Word32 × Word32 × Word32 × Word32 :=
  philoxRounds 10 (c.setWidth 32, (c >>> 32).setWidth 32, 0#32, 0#32) (key.setWidth 32) ((key >>> 32).setWidth 32)

/-- The 16 random bits of stochastic rounding: bits [15:0] of word 0 (R164). -/
def srBits (key c : Word) : Nat := (philox key c).1.toNat % 2 ^ 16

end Sys2Proof.Machine
end

