-- ==== Sys2Proof/Machine/Memory.lean ====
section
/-! DEFINITION. Memory as canonical lists of cells, the physical map (R223), what caches, directories and homes hold (R217, R315 to R324), and
the update-only state with its merges (R328 to R336). -/

namespace Sys2Proof.Machine

/-! ## Cells -/

/-- The byte at `k`; an unlisted address reads 0 (R49 for device memory; log 2 for the rest). -/
def Memory.read : Memory → Nat → Byte
  | [], _ => 0#8
  | (a, b) :: r, k => if a = k then b else if k < a then 0#8 else Memory.read r k

/-- The memory with the byte at `k` replaced, in canonical form. -/
def Memory.write : Memory → Nat → Byte → Memory
  | [], k, b => if b = 0#8 then [] else [(k, b)]
  | (a, c) :: r, k, b =>
    if k < a then (if b = 0#8 then (a, c) :: r else (k, b) :: (a, c) :: r)
    else if a = k then (if b = 0#8 then r else (k, b) :: r)
    else (a, c) :: Memory.write r k b

/-- The canonical form: addresses strictly rising from `lo`, no cell holding what an unlisted address reads as. -/
def Memory.wfFrom (lo : Nat) : Memory → Bool
  | [] => true
  | (a, b) :: r => decide (lo ≤ a) && b != 0#8 && Memory.wfFrom (a + 1) r

/-- The canonical form. -/
def Memory.wf (m : Memory) : Bool := Memory.wfFrom 0 m

/-- `n` bytes from `a`, little-endian (R4). -/
def Memory.readN (m : Memory) (a : Nat) : Nat → Nat
  | 0 => 0
  | n + 1 => (m.read a).toNat + 256 * Memory.readN m (a + 1) n

/-- The low `n` bytes of `v` written from `a`, little-endian (R4). -/
def Memory.writeN (m : Memory) (a : Nat) : Nat → Nat → Memory
  | 0, _ => m
  | n + 1, v => Memory.writeN (m.write a (BitVec.ofNat 8 v)) (a + 1) n (v / 256)

/-- The cells outside [lo, hi). -/
def Memory.clear (lo hi : Nat) : Memory → Memory
  | [] => []
  | (a, b) :: r => if lo ≤ a ∧ a < hi then Memory.clear lo hi r else (a, b) :: Memory.clear lo hi r

/-! ## The physical map (R223) -/

/-- One past the last byte of device memory. -/
def deviceTop : Nat := 0x012000000000
/-- The bytes of one die's device memory. -/
def dieBytes : Nat := 0x3000000000

/-- What a physical address reaches. -/
inductive Target where
  | device (die : Nat)
  | host (port : Nat)
  | peer
  | absent
  deriving DecidableEq, Repr

/-- The target of a physical address (R223). -/
def targetOf (pa : Nat) : Target :=
  if pa < deviceTop then .device (pa / dieBytes)
  else if pa < 0x8000000000000 then .absent
  else if pa < 0xA000000000000 then .host 0
  else if pa < 0xC000000000000 then .host 1
  else if pa < 0x10000000000000 then .peer
  else .absent

/-! ## Accumulation (R328, R330, R336) -/

/-- The width in bytes of an operator's target (R328). -/
def accTarget (op : Nat) : Nat := if op = 1 ∨ op = 6 ∨ op = 7 ∨ op = 8 ∨ op = 12 then 8 else 4

/-- The width in bits of an operator's input (R328). -/
def accInput (op : Nat) : Nat := if op = 1 ∨ op = 6 ∨ op = 7 ∨ op = 8 then 64 else 32

/-- An operator's identity (R328). -/
def accIdentity (op : Nat) : Nat :=
  match op with
  | 2 => 0x7FFFFFFF
  | 3 => 0x80000000
  | 4 => 0xFFFFFFFF
  | 6 => 0xFFFFFFFFFFFFFFFF
  | 9 => 0x80000000
  | 10 | 11 => 0x7FC00000
  | _ => 0

/-- An operator on two target values, and whether it overflowed as a signed addition (R328, R336). -/
def accFold (op a b : Nat) : Nat × Bool :=
  let env := FpEnv.scalar .rne
  let s32 (v : Nat) : Int := sextNat 32 v
  match op with
  | 0 => ((a + b) % 2 ^ 32, false)
  | 1 => ((a + b) % 2 ^ 64, false)
  | 2 => (if s32 b < s32 a then b else a, false)
  | 3 => (if s32 a < s32 b then b else a, false)
  | 4 => (min a b, false)
  | 5 => (max a b, false)
  | 6 => (a &&& b, false)
  | 7 => (a ||| b, false)
  | 8 => (a ^^^ b, false)
  | 9 => ((fpAddV fmtF32 env (fmtF32.decode a) (fmtF32.decode b)).1, false)
  | 10 => ((fpMinMaxV fmtF32 env false (fmtF32.decode a) (fmtF32.decode b)).1, false)
  | 11 => ((fpMinMaxV fmtF32 env true (fmtF32.decode a) (fmtF32.decode b)).1, false)
  | _ =>
    let t := sextNat 64 a + sextNat 64 b
    ((a + b) % 2 ^ 64, decide (t < -(2 ^ 63) ∨ 2 ^ 63 ≤ t))

/-- The contribution of an FP32 input to a FIXADD64 target, and whether it was clamped or a NaN (R336). -/
def fixInput (fscale : Byte) (x : Nat) : Nat × Bool :=
  let enc (i : Int) : Nat := (i % 2 ^ 64).toNat
  match fmtF32.decode x with
  | .nan _ => (0, true)
  | .inf n => (enc (if n then -(2 ^ 63) else 2 ^ 63 - 1), true)
  | .fin n m e =>
    let (k, _) := roundTo .rne n 0 m (e + fscale.toInt) false 0
    let i : Int := if n then -(k : Int) else k
    if i < -(2 ^ 63) then (enc (-(2 ^ 63)), true)
    else if 2 ^ 63 ≤ i then (enc (2 ^ 63 - 1), true)
    else (enc i, false)

/-- The partial value of a target at offset `off` of a line. -/
def UPart.value (p : UPart) (op off : Nat) : Nat :=
  match findBy (fun c => c.1 == off) p.cells with
  | some c => c.2
  | none => accIdentity op

/-- A stable's partial with `x` folded in at `off`, and whether that overflowed (R330). -/
def UPart.fold (p : UPart) (op off x : Nat) : UPart × Bool :=
  let (v, ov) := accFold op (p.value op off) x
  ({ p with cells := putBy (fun c => c.1 == off) (off, v) p.cells }, ov)

/-- The partials of a list sorted by stable number. -/
def insertPart (p : UPart) : List UPart → List UPart
  | [] => [p]
  | q :: qs => if p.stable < q.stable then p :: q :: qs else if q.stable = p.stable then p :: qs else q :: insertPart p qs

/-- The fold of a die's partials at `off` in ascending stable number (R332 step 2); `none` for a die that holds none. -/
def foldDie (op off : Nat) : List UPart → Option (Nat × Bool)
  | [] => none
  | p :: ps => some (ps.foldl (fun acc q => let (v, ov) := accFold op acc.1 (q.value op off); (v, acc.2 || ov)) (p.value op off, false))

/-- The die that holds a partial: a groom core's stands under 288 + die. -/
def UPart.die (p : UPart) : Nat := if p.stable < 288 then p.stable / 48 else p.stable - 288

/-- One target of a line merged: the dies' results in ascending order onto the memory value (R332 step 4). -/
def mergeTarget (u : ULine) (m : Nat) (off : Nat) : Nat × Bool :=
  (countFrom 0 6).foldl (fun acc d =>
    match foldDie u.op off (u.parts.filter (fun p => p.die == d)) with
    | none => acc
    | some (v, ov) => let (r, ov2) := accFold u.op acc.1 v; (r, acc.2 || ov || ov2)) (m, false)

/-- Every target of a line merged into memory (R332 step 5), and whether some fold overflowed. -/
def mergeLine (mem : Memory) (u : ULine) : Memory × Bool :=
  let t := accTarget u.op
  (countFrom 0 (128 / t)).foldl (fun acc i =>
    let a := u.line * 128 + i * t
    let (v, ov) := mergeTarget u (acc.1.readN a t) (i * t)
    (acc.1.writeN a t v, acc.2 || ov)) (mem, false)

/-! ## Caches, directories and homes (R217, R229, R315 to R324) -/

/-- What the caches hold. -/
abbrev State.caches (s : State) : List CacheLine := s.coh.caches
/-- The link tables, the oldest first. -/
abbrev State.links (s : State) : List Link := s.coh.links
/-- The directory entries. -/
abbrev State.dir (s : State) : List DirEntry := s.coh.dir
/-- The homes' records. -/
abbrev State.homes (s : State) : List HomeEntry := s.coh.homes

/-- A line of device memory: no other has an entry in a directory or at a home (R315, R323). -/
def devLine (line : Nat) : Bool := decide (line * 128 < deviceTop)

/-- The home die of a line of device memory (R320). -/
def homeDie (line : Nat) : Nat := line * 128 / dieBytes

/-- The number of a stable's cache. -/
def stableCache (stable : Nat) : Nat := 2304 + stable

/-- The number of a die's L2. -/
def l2Cache (die : Nat) : Nat := 2592 + die

/-- The number of a port's host-line buffer (R323). -/
def hostBuffer (port : Nat) : Nat := 2598 + port

/-- The cache of an agent of a die: the L1s of a stable, and after them its stable cache (R3, R315). -/
def agentCache (die agent : Nat) : Nat :=
  if agent % 9 = 8 then stableCache (die * 48 + agent / 9) else (die * 48 + agent / 9) * 8 + agent % 9

/-- The agent of its die that a core's scalar L1 is. -/
def l1Agent (hart : Nat) : Nat := hart / 8 % 48 * 9 + hart % 8

/-- The agent of its die that a stable cache is. -/
def stableAgent (stable : Nat) : Nat := stable % 48 * 9 + 8

/-- The die that a cache stands on; a host-line buffer stands on none (R323). -/
def cacheDie (cache : Nat) : Nat :=
  if cache < 2304 then cache / 384 else if cache < 2592 then (cache - 2304) / 48 else if cache < 2598 then cache - 2592 else 6

/-- The die of a stable; a groom core's number is 288 + die. -/
def stableDie (stable : Nat) : Nat := if stable < 288 then stable / 48 else stable - 288

/-- A directory entry that holds nothing. -/
def DirEntry.empty (die line : Nat) : DirEntry :=
  { die := die, line := line, perm := 0, op := 0, np := 0, ptrs := [], crs := false, cv := 0#48, st := 0, ask := none, rest := [], recalling := none }

/-- An entry emptied, which starts again in pointer mode (R317). -/
def DirEntry.cleared (e : DirEntry) : DirEntry := { e with np := 0, ptrs := [], crs := false, cv := 0#48, st := 0, op := 0 }

/-- An agent added to the sharers: the fifth makes the entry coarse (R317). -/
def DirEntry.add (e : DirEntry) (a : Nat) : DirEntry :=
  let mark (v : BitVec 48) (b : Nat) : BitVec 48 := v ||| (1#48 <<< (b / 9))
  if e.crs then { e with cv := mark e.cv a }
  else if e.ptrs.contains a then e
  else if e.np < 4 then { e with ptrs := e.ptrs ++ [a], np := e.np + 1 }
  else { e with crs := true, cv := (e.ptrs ++ [a]).foldl mark 0#48, ptrs := [], np := 0 }

/-- A line in I at its home. -/
def HomeEntry.empty (line : Nat) : HomeEntry :=
  { line := line, state := .i, op := 0, owner := 0, holders := 0#7, ports := 0#2, stamp := 0, ask := none, rest := [] }

/-- A home's record of a line that is in I, with no holder; what waits there still waits. -/
def HomeEntry.toI (e : HomeEntry) : HomeEntry := { e with state := .i, op := 0, owner := 0, holders := 0#7, ports := 0#2 }

/-- The directory entry of a line on a die. -/
def Coherence.dirAt (c : Coherence) (die line : Nat) : DirEntry :=
  (findBy (fun e : DirEntry => e.die == die && e.line == line) c.dir).getD (.empty die line)

/-- A directory entry replaced; one that holds nothing is not listed. -/
def Coherence.putDir (c : Coherence) (e : DirEntry) : Coherence :=
  let rest := dropBy (fun f : DirEntry => f.die == e.die && f.line == e.line) c.dir
  { c with dir := if e = .empty e.die e.line then rest else rest ++ [e] }

/-- The home's record of a line. -/
def Coherence.homeAt (c : Coherence) (line : Nat) : HomeEntry := (findBy (fun e : HomeEntry => e.line == line) c.homes).getD (.empty line)

/-- A home's record replaced; a line in I with nothing under way is not listed. -/
def Coherence.putHome (c : Coherence) (e : HomeEntry) : Coherence :=
  let rest := dropBy (fun f : HomeEntry => f.line == e.line) c.homes
  { c with homes := if e.state = .i ∧ e.ask = none ∧ e.rest = [] then rest else rest ++ [e] }

/-- The directory entry of a line on a die. -/
def State.dirAt (s : State) (die line : Nat) : DirEntry := s.coh.dirAt die line

/-- The state with a directory entry replaced. -/
def State.putDir (s : State) (e : DirEntry) : State := { s with coh := s.coh.putDir e }

/-- The home's record of a line. -/
def State.homeAt (s : State) (line : Nat) : HomeEntry := s.coh.homeAt line

/-- The state with a home's record replaced. -/
def State.putHome (s : State) (e : HomeEntry) : State := { s with coh := s.coh.putHome e }

/-- The holder bit of a requester at a home: the host stands at 6 for both ports (R320). -/
def holderBit (who : Nat) : BitVec 7 := 1#7 <<< min who 6

/-- Entries that hold nothing are not listed. -/
def listed (l : List DirEntry) : List DirEntry := dropBy (fun e => e == .empty e.die e.line) l

/-- A cache holds a line. -/
def Coherence.holds (c : Coherence) (cache line : Nat) : Bool := anyBy (fun l : CacheLine => l.cache == cache && l.line == line) c.caches

/-- A line leaves a cache; with one that leaves a stable cache go the links to it in that stable's table (R229). -/
def Coherence.out (c : Coherence) (cache line : Nat) : Coherence :=
  { c with
    caches := dropBy (fun l : CacheLine => l.cache == cache && l.line == line) c.caches
    links := if c.holds cache line then dropBy (fun l : Link => l.line == line && stableCache l.stable == cache) c.links else c.links }

/-- Nothing is under way for a line, at its home or at a directory. -/
def Coherence.quiet (c : Coherence) (line : Nat) : Bool :=
  !(anyBy (fun e : DirEntry => e.line == line && (e.ask.isSome || e.recalling.isSome)) c.dir) && (c.homeAt line).ask.isNone

/-- A write takes a line from whoever holds it (R229, R318, R321): every copy but the one in cache `keep`, every link but those of hart `who`,
every permission. What a directory or the home serves at the moment still stands there. -/
def Coherence.give (c : Coherence) (keep who line : Nat) : Coherence :=
  let d : Coherence :=
    { c with
      caches := dropBy (fun l : CacheLine => l.line == line && l.cache != keep) c.caches
      links := dropBy (fun l : Link => l.line == line && l.hart != who) c.links }
  if c.quiet line then
    { d with dir := dropBy (fun e : DirEntry => e.line == line) d.dir, homes := dropBy (fun e : HomeEntry => e.line == line) d.homes }
  else d

/-- A line is in I at its home, with no holder, and no directory holds it in U (R332 steps 3 and 5). -/
def Coherence.releaseU (c : Coherence) (line : Nat) : Coherence :=
  { c with
    dir := listed (c.dir.map (fun e => if e.line = line ∧ (e.st = 4 ∨ e.perm = 3) then { e.cleared with perm := 0 } else e))
    homes := dropBy (fun e : HomeEntry => e == { HomeEntry.empty e.line with stamp := e.stamp })
      (c.homes.map (fun e => if e.line = line ∧ e.state = .u then e.toI else e)) }

/-- No cache. -/
def noCache : Nat := 2600
/-- No hart. -/
def noHart : Nat := 65536

/-- A region of 2 MiB is initialised when it is first written (R49). -/
def State.touchRegion (s : State) (pa : Nat) : State :=
  let r := pa / 2097152
  if pa < deviceTop ∧ s.initNext ≤ r ∧ !(anyBy (· == r) s.initSet) then { s with initSet := r :: s.initSet } else s

/-- A line leaves U (R331, R332): its value is in memory, whose region is initialised by it (R49), no link to it stands (R229), and no
agent or die holds it; unchanged where it is not in U. -/
def State.mergeU (s : State) (line : Nat) : State :=
  match findBy (fun u : ULine => u.line == line) s.ulines with
  | none => s
  | some u =>
    let (m, ov) := mergeLine s.mem u
    let t := s.touchRegion (line * 128)
    { t with
      mem := m
      ulines := dropBy (fun v : ULine => v.line == line) s.ulines
      satf := if ov && u.op == 12 then putBy (fun p => p == (u.ctx, u.win)) (u.ctx, u.win) s.satf else s.satf
      coh := (s.coh.give noCache noHart line).releaseU line }

/-- Every line that meets [a, a + n) merged. -/
def State.mergeRange (s : State) (a n : Nat) : State :=
  if n = 0 then s
  else (s.ulines.filter (fun u => decide (a / 128 ≤ u.line ∧ u.line ≤ (a + n - 1) / 128))).foldl (fun t u => t.mergeU u.line) s

/-! ## Physical accesses -/

/-- The line numbers that meet [a, a + n). -/
def linesOf (a n : Nat) : List Nat := if n = 0 then [] else countFrom (a / 128) ((a + n - 1) / 128 + 1 - a / 128)

/-- A line placed in a cache in a state and at a replacement priority; the line placed last stands first. -/
def placeLine (cache prio : Nat) (st : LineState) (line : Nat) (l : List CacheLine) : List CacheLine :=
  let c : CacheLine := { cache := cache, line := line, prio := prio, st := st }
  if l.head? = some c then l else c :: dropBy (fun d : CacheLine => d.cache == cache && d.line == line) l

/-- A line that the buffer of a port holds with exclusive permission. -/
def State.bufferOwns (s : State) (port line : Nat) : Bool :=
  anyBy (fun c : CacheLine => c.cache == hostBuffer port && c.line == line && c.st == .m) s.caches

/-- An access to host memory goes through the port's buffer of 32,768 lines (R323): the lines are held there, exclusively for a write; a
full buffer gives up the line placed first (log 104). -/
def State.bufferHost (s : State) (pa n : Nat) (write : Bool) : State :=
  match targetOf pa with
  | .host p =>
    let put (l : List CacheLine) (k : Nat) : List CacheLine :=
      let l := placeLine (hostBuffer p) 0 (if write || s.bufferOwns p k then .m else .s) k l
      let mine := l.filter (fun c => c.cache == hostBuffer p)
      if mine.length ≤ 32768 then l
      else match mine.getLast? with | some old => dropBy (fun c : CacheLine => c == old) l | none => l
    { s with coh.caches := (linesOf pa n).foldl put s.caches }
  | _ => s

/-- Reads `n` bytes at a physical address as an ordinary read: a line in U merges first (R331). -/
def State.physRead (s : State) (pa n : Nat) : Nat × State :=
  let t := s.mergeRange pa n
  (t.mem.readN pa n, t.bufferHost pa n false)

/-- The cache and the hart whose links outlive a write, by the writer's number: those of the stable through whose cache a hart's vector
store goes (R218, R229); none for any other writer. -/
def keptBy (who : Nat) : Nat × Nat := if 8192 ≤ who then (stableCache ((who - 8192) / 8), who - 8192) else (noCache, noHart)

/-- The writer's number of a hart's vector stores. -/
def vectorWriter (hart : Nat) : Nat := 8192 + hart

/-- Writes the low `n` bytes of `v` at a physical address: lines in U merge first (R331, R334), an uninitialised region is
zeroed first (R49), links to the lines are cleared and every other cache gives its copy up (R229, R321; the writer's own is placed
anew, R220), and whole sectors written are no longer failing (R365). -/
def State.physWrite (s : State) (who pa n v : Nat) : State :=
  let t := (s.mergeRange pa n).touchRegion pa
  let k := keptBy who
  let t := ({ t with coh := (linesOf pa n).foldl (fun c l => c.give k.1 k.2 l) t.coh } : State).bufferHost pa n true
  { t with
    mem := t.mem.writeN pa n v
    failing := dropBy (fun f => decide (pa ≤ f * 32 ∧ f * 32 + 32 ≤ pa + n)) t.failing }

/-- Whether [a, a + n) meets a failing sector (R365). -/
def State.failsAt (s : State) (pa n : Nat) : Bool :=
  anyBy (fun f => decide (f * 32 < pa + n ∧ pa < f * 32 + 32)) s.failing

end Sys2Proof.Machine
end

