-- ==== Sys2Proof/Machine/Regs.lean ====
section
/-! DEFINITION. Harts, stables, dies and ports found and updated in the state; the registers of a hart and the fields of
its control registers (R84, R93 to R99). -/

namespace Sys2Proof.Machine

/-! ## Finding and updating the parts of the state -/

/-- A groom core: its record's id is 2,304 + die. -/
def Hart.isGroom (h : Hart) : Bool := decide (2304 ≤ h.id)
/-- The die of a hart (R3). -/
def Hart.die (h : Hart) : Nat := if h.isGroom then h.id - 2304 else h.id / 384
/-- The global stable number of a hart (R3); a groom core has TLBs and caches of its own, under 288 + die. -/
def Hart.stable (h : Hart) : Nat := if h.isGroom then 288 + (h.id - 2304) else h.id / 8

/-- The hart with an id, in focus or not. -/
def State.findHart (s : State) (id : Nat) : Option Hart :=
  if s.hart.id = id then some s.hart else findBy (fun h : Hart => h.id == id) s.others

/-- The state with a hart's record replaced. -/
def State.putHart (s : State) (h : Hart) : State :=
  if s.hart.id = h.id then { s with hart := h } else { s with others := putBy (fun g : Hart => g.id == h.id) h s.others }

/-- The state with the hart in focus changed. -/
def State.onHart (s : State) (f : Hart → Hart) : State := { s with hart := f s.hart }

/-- The state with the hart of an id changed, if it exists. -/
def State.onHartId (s : State) (id : Nat) (f : Hart → Hart) : State :=
  match s.findHart id with
  | some h => s.putHart (f h)
  | none => s

/-- The state with every hart changed. -/
def State.mapHarts (s : State) (f : Hart → Hart) : State := { s with hart := f s.hart, others := s.others.map f }

/-- Every hart. -/
def State.allHarts (s : State) : List Hart := s.hart :: s.others

/-- The state with the hart of that id in focus; a hart without a record comes in as it is after reset. -/
def State.focusOn (s : State) (id : Nat) : State :=
  if s.hart.id = id then s
  else
    let h := (findBy (fun h : Hart => h.id == id) s.others).getD (Hart.reset id)
    { s with hart := h, others := s.hart :: dropBy (fun h : Hart => h.id == id) s.others }

/-- The clusters of a stable that the configuration record retires (R50, R371). -/
def State.retiredByRecord (s : State) (n : Nat) : BitVec 16 :=
  match findBy (fun r : Nat × BitVec 16 => r.1 == n) s.record.retired with | some r => r.2 | none => 0#16

/-- A stable right after reset: `lanedis` is as the configuration record says (R99). -/
def State.freshStable (s : State) (n : Nat) : Stable :=
  let d := s.retiredByRecord n
  { Stable.reset n with lanedis := d, retired := d }

/-- A stable; one without a record is as after reset. -/
def State.stableAt (s : State) (n : Nat) : Stable := (findBy (fun t : Stable => t.n == n) s.stables).getD (s.freshStable n)

/-- The state with a stable's record replaced. -/
def State.putStable (s : State) (t : Stable) : State := { s with stables := putBy (fun u : Stable => u.n == t.n) t s.stables }

/-- A die. -/
def State.dieAt (s : State) (n : Nat) : Die := (findBy (fun d : Die => d.n == n) s.dies).getD (Die.reset n)

/-- The state with a die's record replaced. -/
def State.putDie (s : State) (d : Die) : State := { s with dies := putBy (fun e : Die => e.n == d.n) d s.dies }

/-- A port. -/
def State.portAt (s : State) (n : Nat) : Port := (findBy (fun p : Port => p.n == n) s.ports).getD (Port.reset n)

/-- The state with a port's record replaced. -/
def State.putPort (s : State) (p : Port) : State := { s with ports := putBy (fun q : Port => q.n == p.n) p s.ports }

/-- A job by gang number. -/
def State.jobAt (s : State) (gang : Nat) : Option Job := findBy (fun j : Job => j.gang == gang) s.jobs

/-- The state with a job's record replaced. -/
def State.putJob (s : State) (j : Job) : State := { s with jobs := putBy (fun k : Job => k.gang == j.gang) j s.jobs }

/-- The job of the hart in focus. -/
def State.job (s : State) : Option Job :=
  match s.hart.job with
  | some g => s.jobAt g
  | none => none

/-- The clusters of a 16-bit set that are not in it. -/
def clear16 (d : BitVec 16) : Nat := sumBy (fun i => if d.getLsbD i then 0 else 1) (countFrom 0 16)

/-- The live clusters N of a stable (R50): those not retired. -/
def Stable.live (t : Stable) : Nat := clear16 t.retired

/-- The live clusters that are not marked to be retired (R216). -/
def Stable.usable (t : Stable) : Nat := clear16 (t.retired ||| t.lanedis)

/-- The lines that a context has pinned (R221). -/
def State.pinsUsed (s : State) (ctx : Nat) : Nat := (s.pins.filter (fun p => p.ctx == ctx)).length

/-! ## Registers (R84) -/

/-- The value of an x register; x0 reads 0. -/
def Hart.getX (h : Hart) (r : Reg) : Word := if r = 0#5 then 0#64 else h.x[r.toNat]'(r.isLt)

/-- A write to an x register; a write to x0 is discarded. -/
def Hart.setX (h : Hart) (r : Reg) (w : Word) : Hart :=
  if r = 0#5 then h else { h with x := h.x.set r.toNat w r.isLt }

/-- The contents of a v register. -/
def Hart.getV (h : Hart) (r : Reg) : VReg := h.v[r.toNat]'(r.isLt)

/-- A write of 3 to `status.vs` when it is not 0 (R93). -/
def vsDirty (status : Word) : Word := if bits status 5 2 = 0 then status else setBits status 5 2 3

/-- A write of 3 to `status.ms` when it is not 0 (R93). -/
def msDirty (status : Word) : Word := if bits status 7 2 = 0 then status else setBits status 7 2 3

/-- A write to a v register, which sets its `vdirty` bit and `status.vs` (R93, R95). -/
def Hart.setV (h : Hart) (r : Reg) (v : VReg) : Hart :=
  { h with
    v := h.v.set r.toNat v r.isLt
    csr := { h.csr with vdirty := setBit h.csr.vdirty r.toNat true, status := vsDirty h.csr.status } }

/-- The contents of a mask register; k0 is the constant true mask. -/
def Hart.getK (h : Hart) (r : KReg) : KMask := if r = 0#3 then BitVec.allOnes 8192 else h.k[r.toNat]'(r.isLt)

/-- A write to a mask register; a write to k0 is discarded. -/
def Hart.setK (h : Hart) (r : KReg) (m : KMask) : Hart :=
  if r = 0#3 then h
  else
    { h with
      k := h.k.set r.toNat m r.isLt
      csr := { h.csr with vdirty := setBit h.csr.vdirty (31 + r.toNat) true, status := vsDirty h.csr.status } }

/-- Bit `i` of mask `r`; k0 gives true (R7). -/
def Hart.mask (h : Hart) (r : KReg) (i : Nat) : Bool := if r = 0#3 then true else (h.getK r).getLsbD i

/-- An accumulator tile. -/
def Hart.getZ (h : Hart) (n : Nat) : Tile := if n = 0 then h.z[0] else h.z[1]

/-- A tile's check copy (R214). -/
def Hart.getChk (h : Hart) (n : Nat) : Tile := if n = 0 then h.zchk[0] else h.zchk[1]

/-- A write to a tile and its check copy, which sets its `vdirty` bit and `status.ms` (R93, R95). -/
def Hart.setZ (h : Hart) (n : Nat) (t chk : Tile) : Hart :=
  let d := { h.csr with vdirty := setBit h.csr.vdirty (39 + n % 2) true, status := msDirty h.csr.status }
  if n = 0 then { h with z := h.z.set 0 t, zchk := h.zchk.set 0 chk, csr := d }
  else { h with z := h.z.set 1 t, zchk := h.zchk.set 1 chk, csr := d }

/-! ## Fields of the control registers -/

/-- `status.mode`: 0 rider, 1 groom, 2 farrier (R93). -/
def Hart.mode (h : Hart) : Nat := bits h.csr.status 0 2
/-- `status.pmode` (R93). -/
def Hart.pmode (h : Hart) : Nat := bits h.csr.status 2 2
/-- `status.ie` (R93). -/
def Hart.ie (h : Hart) : Bool := bit h.csr.status 4
/-- `status.vs` (R93). -/
def Hart.vs (h : Hart) : Nat := bits h.csr.status 5 2
/-- `status.ms` (R93). -/
def Hart.ms (h : Hart) : Nat := bits h.csr.status 7 2
/-- `status.qip` (R93). -/
def Hart.qip (h : Hart) : Bool := bit h.csr.status 9

/-- `vcfg.vl` (R94). -/
def Hart.vl (h : Hart) : Nat := bits h.csr.vcfg 0 16
/-- `vcfg.sew`, a code (R94). -/
def Hart.sew (h : Hart) : Nat := bits h.csr.vcfg 16 3
/-- `vcfg.scope` (R94). -/
def Hart.scope (h : Hart) : Nat := bits h.csr.vcfg 19 3
/-- `vcfg.flush` (R94). -/
def Hart.flush (h : Hart) : Nat := bits h.csr.vcfg 22 2
/-- `vcfg.rm` (R94). -/
def Hart.rm (h : Hart) : RMode := RMode.ofCode (bits h.csr.vcfg 24 3)
/-- `vcfg.la` (R94). -/
def Hart.la (h : Hart) : Bool := bit h.csr.vcfg 27
/-- `vcfg.sat` (R94). -/
def Hart.sat (h : Hart) : Bool := bit h.csr.vcfg 28
/-- binary8pP as `vcfg` selects it (R94, R151). -/
def Hart.fmtB8 (h : Hart) : FpFmt := Machine.fmtB8 (bits h.csr.vcfg 29 3) (bit h.csr.vcfg 32) (bit h.csr.vcfg 33)
/-- The format of SEW 16 (R94, R151). -/
def Hart.fmt16 (h : Hart) : FpFmt := if bit h.csr.vcfg 34 then fmtBf else fmtH
/-- The width in bits of a `sew` code (R51, R94). -/
def sewBits (c : Nat) : Nat := if c = 0 then 8 else if c = 1 then 16 else if c = 2 then 32 else if c = 3 then 64 else 128
/-- The element width (R51). -/
def Hart.width (h : Hart) : Nat := sewBits h.sew
/-- VLMAX in bits of a `vlmax` code (R94). -/
def vlmaxBits (c : Nat) : Nat := if c = 0 then 16384 else if c = 1 then 32768 else if c = 2 then 65536 else 512
/-- `vcfg.vlmax` in bits (R94). -/
def Hart.vlmax (h : Hart) : Nat := vlmaxBits (bits h.csr.vcfg 35 2)
/-- The floating-point format of a vector element (R151). -/
def Hart.fmt (h : Hart) : FpFmt :=
  if h.sew = 0 then h.fmtB8 else if h.sew = 1 then h.fmt16 else if h.sew = 2 then fmtF32 else fmtF64
/-- `vstart` (R95). -/
def Hart.vstart (h : Hart) : Nat := bits h.csr.vstart 0 16
/-- A write of `vstart` (R95). -/
def Hart.setVstart (h : Hart) (n : Nat) : Hart := { h with csr := { h.csr with vstart := BitVec.ofNat 64 (n % 65536) } }
/-- A write of `vcfg.vl`. -/
def Hart.setVl (h : Hart) (n : Nat) : Hart := { h with csr := { h.csr with vcfg := setBits h.csr.vcfg 0 16 n } }
/-- `mmode.on` (R97). -/
def Hart.mOn (h : Hart) : Bool := bit h.csr.mmode 0
/-- `mmode.red` (R97). -/
def Hart.mRed (h : Hart) : Bool := bit h.csr.mmode 1
/-- `mshape.m`, `n`, `ks`, `mvl` (R97). -/
def Hart.shM (h : Hart) : Nat := bits h.csr.mshape 0 8
/-- See `shM`. -/
def Hart.shN (h : Hart) : Nat := bits h.csr.mshape 8 8
/-- See `shM`. -/
def Hart.shKs (h : Hart) : Nat := bits h.csr.mshape 16 5
/-- See `shM`. -/
def Hart.shMvl (h : Hart) : Nat := bits h.csr.mshape 32 16
/-- `ctxid` (R99). -/
def Hart.ctx (h : Hart) : Nat := bits h.csr.ctxid 0 24

/-- Flags ORed into `fflags` (R97, R100). -/
def Hart.orFlags (h : Hart) (f : Flags) : Hart :=
  { h with csr := { h.csr with fflags := h.csr.fflags ||| f.setWidth 64 } }

/-- `fen` as flags (R97). -/
def Hart.fen (h : Hart) : Flags := h.csr.fen.setWidth 6

/-- The lowest-numbered enabled cause among 0x21 to 0x25 of raised flags, 0x20 for integer division by zero (R97, R163). -/
def enabledCause (fen fl : Flags) : Option Nat :=
  let e := fen &&& fl
  if e.getLsbD 5 then some 0x20
  else if e.getLsbD 0 then some 0x21
  else if e.getLsbD 1 then some 0x22
  else if e.getLsbD 2 then some 0x23
  else if e.getLsbD 3 then some 0x24
  else if e.getLsbD 4 then some 0x25
  else none

end Sys2Proof.Machine
end

