-- ==== Sys2Proof/Machine/Caches.lean ====
section
/-! DEFINITION. How an access places its lines in the caches of the part, with their states, their directory entries and the homes' records
(R217, R218, R220, R315 to R322), and what full caches give up. -/

namespace Sys2Proof.Machine

/-! ## Banks of the stable store (R63) -/

/-- The extra banks of one hart at a VLMAX code (R63). -/
def extraBanks (code : Nat) : Nat := if code = 1 then 4 else if code = 2 then 12 else 0

/-- The VLMAX code whose banks a hart holds: while it has still to take a change of its gang's grant, the larger of the two (R64, R65). -/
def Hart.bankCode (h : Hart) : Nat :=
  match h.vlmaxTo with
  | some c => max (bits h.csr.vcfg 35 2) c
  | none => bits h.csr.vcfg 35 2

/-- The harts admitted to a stable: those that run a job there, halted or not, until the job completes or they are joined. -/
def State.admitted (s : State) (t : Nat) : List Hart :=
  s.allHarts.filter (fun h => h.job.isSome && !h.isGroom && h.stable == t)

/-- The extra banks in use on a stable (R63). -/
def State.banksUsed (s : State) (t : Nat) : Nat := sumBy (fun h : Hart => extraBanks h.bankCode) (s.admitted t)

/-! ## Requests at a directory and at a home -/

/-- The port bit of a requester: 6 and 7 are the host through ports 0 and 1. -/
def portBit (who : Nat) : BitVec 2 := if who < 6 then 0#2 else 1#2 <<< (who - 6)

/-- A directory's request is granted to the agent (R318): a sole reader under exclusive permission holds the line in E, and an owner that
reads keeps what it has. -/
def DirEntry.grant (e : DirEntry) (q : LineReq) : DirEntry :=
  if q.kind = 0 then
    if e.ptrs.contains q.who then { e with ask := none }
    else ({ e with st := if e.perm = 2 ∧ e.ptrs = [] ∧ !e.crs then 2 else 1, ask := none }).add q.who
  else if q.kind = 1 then ({ e.cleared with st := 3, ask := none }).add q.who
  else ({ (if e.st = 4 then e else e.cleared) with st := 4, op := q.kind - 2, ask := none }).add q.who

/-- A requester is the owner by itself: the host only where no other port stands for it (R320). -/
def HomeEntry.ownedBy (e : HomeEntry) (who : Nat) : Bool := e.owner == min who 6 && (decide (who < 6) || e.ports &&& ~~~portBit who == 0#2)

/-- What a granted request makes of a line (R320, R321, R329); `ex` says that a sole reader gets it in E. -/
def HomeEntry.grant (e : HomeEntry) (q : LineReq) (stamp : Nat) (ex : Bool) : HomeEntry :=
  let all : HomeEntry := { e with holders := e.holders ||| holderBit q.who, ports := e.ports ||| portBit q.who, ask := none, stamp := stamp }
  let one : HomeEntry := { all with owner := min q.who 6, holders := holderBit q.who, ports := portBit q.who }
  if q.kind = 0 then
    match e.state with
    | .i => if ex then { one with state := .e } else { all with state := .s, owner := 0 }
    | .e => if e.ownedBy q.who then all else { all with state := .s, owner := 0 }
    | .m => if e.ownedBy q.who then all else { all with state := .o }
    | .o => all
    | _ => { all with state := .s, owner := 0 }
  else if q.kind = 1 then { one with state := .m }
  else if e.state = .u then all
  else { one with state := .u, op := q.kind - 2, owner := 0 }

/-- A die no longer holds a line at its home (R319, R321): what it held dirty has been written back, and an owner without another holder
has the line in M. -/
def HomeEntry.without (e : HomeEntry) (die : Nat) : HomeEntry :=
  let h := e.holders &&& ~~~holderBit die
  if h = 0#7 then { e with state := .i, holders := h, owner := 0 }
  else
    match e.state with
    | .u => { e with holders := h }
    | .o => if e.owner = die then { e with state := .s, holders := h, owner := 0 }
      else if h = holderBit e.owner then { e with state := .m, holders := h } else { e with holders := h }
    | .s => { e with holders := h }
    | _ => if e.owner = die then { e with state := .s, holders := h, owner := 0 } else { e with holders := h }

/-- A line has an entry in its home's snoop filter: another die, or a host, holds it (R322). -/
def HomeEntry.remote (e : HomeEntry) : Bool := e.holders &&& ~~~holderBit (homeDie e.line) != 0#7 || e.ports != 0#2

/-- The line with only its home die as holder, or in I (R322). -/
def HomeEntry.onlyHome (e : HomeEntry) : HomeEntry :=
  let home := homeDie e.line
  let h := e.holders &&& holderBit home
  if h = 0#7 then { e.toI with ask := none, rest := [] }
  else
    let st : HomeState := match e.state with
      | .o => if e.owner = home then .m else .s
      | st => st
    { e with state := st, owner := if e.owner = home then home else 0, holders := h, ports := 0#2, ask := none, rest := [] }

/-- The line whose entry the snoop filter of its home evicts to take in `line`: the least recently used of a full set of 16, of 33,554,432
entries (R322). -/
def Coherence.filterVictim (c : Coherence) (line : Nat) : Option Nat :=
  let home := c.homes.filter (fun e => e.remote && homeDie e.line == homeDie line)
  if home.length < 16 then none
  else
    let set (l : Nat) : Nat := Config.filterSet l % 2097152
    let inSet := home.filter (fun e => set e.line == set line)
    if inSet.length < 16 then none
    else
      match inSet with
      | [] => none
      | e :: es => some (es.foldl (fun m f => if f.stamp < m.stamp then f else m) e).line

/-! ## Lines that leave -/

/-- A line leaves every cache of a die, and its stables' links to it go (R229). -/
def Coherence.outDie (c : Coherence) (die line : Nat) : Coherence :=
  { c with
    caches := dropBy (fun l : CacheLine => cacheDie l.cache == die && l.line == line) c.caches
    links := dropBy (fun l : Link => stableDie l.stable == die && l.line == line) c.links }

/-- A die gives a line up: its caches, its directory entry and its permission; what the directory serves still stands. -/
def Coherence.recallDie (c : Coherence) (die line : Nat) : Coherence :=
  (c.outDie die line).putDir { (c.dirAt die line).cleared with perm := 0 }

/-- A line leaves the L2 of a die, and with it the die: first from every agent there, dirty data written back (R315, R321). -/
def Coherence.leaveL2 (c : Coherence) (die line : Nat) : Coherence :=
  (c.recallDie die line).putHome ((c.homeAt line).without die)

/-- A line leaves an agent's cache, and the directory takes its eviction notice: in pointer mode the agent's pointer goes, in coarse mode
nothing (R317). -/
def Coherence.leaveAgent (c : Coherence) (die agent line : Nat) : Coherence :=
  let owned := anyBy (fun l : CacheLine => l.cache == agentCache die agent && l.line == line && (l.st == .m || l.st == .e)) c.caches
  let d := c.out (agentCache die agent) line
  let e := d.dirAt die line
  if e.crs || !e.ptrs.contains agent then d
  else
    let p := e.ptrs.filter (fun b => b != agent)
    d.putDir { e with ptrs := p, np := e.np - 1, st := if p = [] then 0 else if owned && e.st != 4 then 1 else e.st }

/-- The owner on a die gives a line's data to a reader and keeps the line, shared (R321). -/
def Coherence.share (c : Coherence) (die line : Nat) : Coherence :=
  let e := c.dirAt die line
  let d := c.putDir { e with st := if e.st = 2 ∨ e.st = 3 then 1 else e.st }
  { d with
    caches := d.caches.map (fun l =>
      if l.line = line ∧ cacheDie l.cache = die ∧ (l.st = .m ∨ l.st = .e) then { l with st := .s } else l) }

/-- The dirty copies of the lines `lo` to `hi` are written back, and stay, clean (R222): an owner's line in O is shared as memory holds it. -/
def Coherence.cleaned (c : Coherence) (lo hi : Nat) : Coherence :=
  let in' (line : Nat) : Bool := decide (lo ≤ line ∧ line ≤ hi)
  { c with
    caches := c.caches.map (fun l => if in' l.line && l.st == .m && decide (l.cache < 2598) then { l with st := .e } else l)
    dir := c.dir.map (fun e => if in' e.line && e.st == 3 then { e with st := 2 } else e)
    homes := c.homes.map (fun e =>
      if in' e.line && e.state == .m then { e with state := .e }
      else if in' e.line && e.state == .o then { e with state := .s, owner := 0 } else e) }

/-- The lines `lo` to `hi` leave the scalar L1s and the stable cache of a stable, and its links to them go (R222, R229). -/
def Coherence.dropFrom (c : Coherence) (stable lo hi : Nat) : Coherence :=
  let mine (l : CacheLine) : Bool :=
    decide (lo ≤ l.line ∧ l.line ≤ hi ∧ stable < 288) &&
      (l.cache == stableCache stable || (decide (l.cache < 2304) && l.cache / 8 == stable))
  let d := (c.caches.filter mine).foldl (fun d l =>
    d.leaveAgent (stable / 48) (if l.cache < 2304 then l1Agent l.cache else stableAgent stable) l.line) c
  { d with links := dropBy (fun l : Link => l.stable == stable && decide (lo ≤ l.line ∧ l.line ≤ hi)) d.links }

/-- A remote holder's entry evicted from the snoop filter: every remote holder gives the line up (R322). -/
def Coherence.backInvalidated (c : Coherence) (line : Nat) : Coherence :=
  let d := ((countFrom 0 6).filter (fun d => d != homeDie line)).foldl (fun c d => c.recallDie d line) c
  d.putHome (d.homeAt line).onlyHome

/-! ## Room for a line (R217, R322, log 104) -/

/-- A line that is pinned in an L2 (R221). -/
def State.pinnedIn (s : State) (cache line : Nat) : Bool :=
  decide (2592 ≤ cache) && anyBy (fun p : Pin => p.die == cache - 2592 && p.line == line) s.pins

/-- What no eviction of this kind takes: a line that something is under way for, or that is in U; and in an L2 one that is pinned there. -/
def State.stays (s : State) (c : Coherence) (cache line : Nat) : Bool :=
  !c.quiet line || (c.homeAt line).state == .u || anyBy (fun u : ULine => u.line == line) s.ulines || s.pinnedIn cache line

/-- The sets of a cache (R217): 65,536 of 16 ways in an L2; of 8 ways, 64 in a scalar L1, and in a stable cache 16 for each of the banks
that the registers leave it (R63). -/
def State.setsOf (s : State) (cache : Nat) : Nat :=
  if 2592 ≤ cache then 65536 else if 2304 ≤ cache then 16 * (64 - s.banksUsed (cache - 2304)) else 64

/-- The ways of a cache's sets. -/
def waysOf (cache : Nat) : Nat := if 2592 ≤ cache then 16 else 8

/-- The set of a cache that a line falls in, of `sets`: the spec gives no index functions (log 14). -/
def setOf (cache sets line : Nat) : Nat := (if 2592 ≤ cache then Config.l2Set line else Config.agentSet line) % sets

/-- The line that a cache gives up for another of its set: of those of the lowest priority the one placed first (R220). -/
def victim : List CacheLine → Option CacheLine
  | [] => none
  | c :: cs =>
    match victim cs with
    | none => some c
    | some d => some (if c.prio < d.prio then c else d)

/-- A cache with a way for a line: a full set gives up a line, which goes as it does by an eviction; none where every line of the set stays
(R217, R315). -/
def State.wayFor (s : State) (c : Coherence) (cache line : Nat) : Option Coherence :=
  if c.holds cache line then some c
  else
    let mine := c.caches.filter (fun l => l.cache == cache)
    if mine.length < waysOf cache then some c
    else
      let n := s.setsOf cache
      let same := mine.filter (fun l => setOf cache n l.line == setOf cache n line)
      if same.length < waysOf cache then some c
      else
        match victim (same.filter (fun l => !s.stays c cache l.line)) with
        | none => none
        | some v =>
          some (if 2592 ≤ cache then c.leaveL2 (cache - 2592) v.line
            else c.leaveAgent (cacheDie cache) (if 2304 ≤ cache then stableAgent (cache - 2304) else l1Agent cache) v.line)

/-- The home's snoop filter with an entry for a line that a die asks for; none where the entry that would have to go stays (R322). -/
def State.filterFor (s : State) (c : Coherence) (die line : Nat) : Option Coherence :=
  if die = homeDie line ∨ (c.homeAt line).remote then some c
  else
    match c.filterVictim line with
    | none => some c
    | some v => if s.stays c 0 v then none else some (c.backInvalidated v)

/-- Room for a line on a die: in the home's snoop filter, in the L2, and in the cache of the agent. -/
def State.roomFor (s : State) (die : Nat) (agent : Option Nat) (line : Nat) : Option Coherence :=
  if !devLine line || s.stays s.coh 0 line then none
  else
    ((s.filterFor s.coh die line).bind (fun c => s.wayFor c (l2Cache die) line)).bind (fun c =>
      match agent with
      | none => some c
      | some a => s.wayFor c (agentCache die a) line)

/-! ## Lines placed by an access -/

/-- A die has read permission for a line from its home: an owner elsewhere keeps it, shared (R321). A line that its owner has written in E
counts as dirty. The grant to a sole reader is of shared permission (log 102). -/
def Coherence.dieReads (c : Coherence) (die line : Nat) : Coherence :=
  let e := c.dirAt die line
  if e.perm = 1 ∨ e.perm = 2 then c
  else
    let h := c.homeAt line
    let remote := decide (h.owner < 6) && (h.state == .e || h.state == .m)
    let o := c.dirAt h.owner line
    let st : HomeState := if remote && h.state == .e && o.st == 3 then .m else h.state
    let c := if remote then (let d := c.share h.owner line; d.putDir { d.dirAt h.owner line with perm := 1 }) else c
    let c := { c.putHome ({ h with state := st }.grant { line := line, kind := 0, who := die } (c.uses + 1) false) with uses := c.uses + 1 }
    c.putDir { e with perm := 1 }

/-- An agent of a die that has read permission reads a line: an owner among the die's other agents keeps it, shared. A stable cache takes
over what an L1 of its own stable holds dirty, and the L1 keeps a clean copy (R218). The answer is the state in which the agent holds it. -/
def Coherence.agentReads (c : Coherence) (die agent line : Nat) : Coherence × LineState :=
  match findBy (fun l : CacheLine => l.cache == agentCache die agent && l.line == line) c.caches with
  | some l => (c, l.st)
  | none =>
    let e := c.dirAt die line
    let dirty := agent % 9 == 8 &&
      anyBy (fun l : CacheLine => l.line == line && l.st == .m && decide (l.cache < 2304) && l.cache / 8 == die * 48 + agent / 9) c.caches
    let c := if e.st = 2 ∨ e.st = 3 then c.share die line else c
    let e' := if dirty then { e.add agent with st := 3 } else ({ e with st := if e.st = 2 ∨ e.st = 3 then 1 else e.st }).grant { line := line, kind := 0, who := agent }
    (c.putDir e', if dirty then .m else if e'.st = 2 then .e else .s)

/-- A line in U at its home into which nothing has been folded leaves U by an access or an eviction (R331). -/
def State.unfolded (s : State) (line : Nat) : Coherence :=
  if (s.homeAt line).state == .u && !(anyBy (fun u : ULine => u.line == line) s.ulines) then (s.coh.give noCache noHart line).releaseU line
  else s.coh

/-- A line placed for a read, in the L2 of a die and, where an agent is given, in the agent's cache, at a replacement priority. -/
def State.readLine (s : State) (die : Nat) (agent : Option Nat) (prio line : Nat) : State :=
  let s := { s with coh := s.unfolded line }
  match s.roomFor die agent line with
  | none => s
  | some c =>
    let c := c.dieReads die line
    match agent with
    | none => { s with coh := { c with caches := placeLine (l2Cache die) prio .s line c.caches } }
    | some a =>
      let (c, st) := c.agentReads die a line
      { s with coh := { c with caches := placeLine (agentCache die a) prio st line (placeLine (l2Cache die) prio .s line c.caches) } }

/-- A line placed for a write that has taken it from every other holder: the die's home permission is exclusive and the line dirty (R318,
R321). A stable cache that holds it already holds it on. -/
def State.wroteLine (s : State) (die : Nat) (agent : Option Nat) (keep prio line : Nat) : State :=
  let agent := if s.coh.holds keep line then some (stableAgent (keep - 2304)) else agent
  match s.roomFor die agent line with
  | none => { s with coh := s.coh.out keep line }
  | some c =>
    let q : LineReq := { line := line, kind := 1, who := die }
    let c := { c.putHome ((c.homeAt line).grant q (c.uses + 1) false) with uses := c.uses + 1 }
    let e : DirEntry := { DirEntry.empty die line with perm := 2 }
    match agent with
    | none => { s with coh := { c.putDir e with caches := placeLine (l2Cache die) prio .m line c.caches } }
    | some a =>
      { s with coh := { c.putDir (e.grant { q with who := a }) with
          caches := placeLine (agentCache die a) prio .m line (placeLine (l2Cache die) prio .m line c.caches) } }

/-- The lines of [pa, pa + n) placed for a read. -/
def State.readLines (s : State) (die : Nat) (agent : Option Nat) (prio pa n : Nat) : State :=
  if pa < deviceTop then (linesOf pa n).foldl (fun t l => t.readLine die agent prio l) s else s

/-- The lines of [pa, pa + n) placed for a write. -/
def State.wroteLines (s : State) (die : Nat) (agent : Option Nat) (keep prio pa n : Nat) : State :=
  if pa < deviceTop then (linesOf pa n).foldl (fun t l => t.wroteLine die agent keep prio l) s else s

end Sys2Proof.Machine
end

