-- ==== Sys2Proof/Machine/Access.lean ====
section
/-! DEFINITION. Error records and host events (R45, R366, R367), translation (R223 to R225), the checks of an access
(R108, R219, R227), service in place of not-present faults (R358) and moved responses (R327). -/

namespace Sys2Proof.Machine

/-! ## Records and events -/

/-- A record for the log of one port (R366): past 64 records not consumed the oldest is overwritten and `ovf` set; vector 7
is raised (R367), and vector 9 for a class 8 record. -/
def Port.logRecord (p : Port) (r : ErrRecord) : Port :=
  let full := decide (64 ≤ (p.errHead + 2 ^ 32 - p.errTail) % 2 ^ 32)
  let kept := if 64 ≤ p.errs.length then p.errs.drop (p.errs.length - 63) else p.errs
  { p with
    errs := kept ++ [{ r with seq := p.errHead }]
    errHead := (p.errHead + 1) % 2 ^ 32
    errOvf := p.errOvf || full
    msix := p.msix ++ (if r.cls = 8 then [7, 9] else [7]) }

/-- A record for one port's log. -/
def State.logPort (s : State) (port : Nat) (r : ErrRecord) : State := s.putPort ((s.portAt port).logRecord r)

/-- A record about the whole device: the logs of both ports (R366). -/
def State.logAll (s : State) (r : ErrRecord) : State := (s.logPort 0 r).logPort 1 r

/-- A record that names the hart in focus. -/
def State.hartRecord (s : State) (cls cause addr : Nat) : ErrRecord :=
  let h := s.hart
  { cls := cls, cause := cause, die := h.die, stable := if h.isGroom then 63 else h.stable % 48, addr := addr,
    ctx := h.ctx, hart := if h.isGroom then 4095 else h.id, detail := 0, seq := 0 }

/-- A record that names a die only. -/
def dieRecord (cls cause die addr detail : Nat) : ErrRecord :=
  { cls := cls, cause := cause, die := die, stable := 63, addr := addr, ctx := 0, hart := 4095, detail := detail, seq := 0 }

/-- Bit `f` of `FUNCMODE`: function `f` is host-assisted (R36). -/
def State.hostFn (s : State) (f : Nat) : Bool := bit s.funcmode f

/-- The port that receives function `f`'s host events (R43). -/
def State.fnPort (s : State) (f : Nat) : Nat := bits s.funcmode (8 + f) 1

/-- A host event: held if fewer than 64 are (R45), its vector raised (R367); else its source waits. -/
def State.postEvent (s : State) (port source cause die ctx : Nat) (value detail : Word) : State :=
  let p := s.portAt port
  let e : EventRec := { source := source, cause := cause, die := die, seq := p.seq, value := value, ctx := ctx, detail := detail }
  if p.events.length < 64 ∧ p.waiting = [] then
    s.putPort { p with events := p.events ++ [e], seq := (p.seq + 1) % 2 ^ 32, msix := p.msix ++ [source] }
  else s.putPort { p with waiting := p.waiting ++ [e] }

/-- A bit of a die's queue-pending bitmap set (R27, R35); a bit newly set sets the groom core's event flag (R118). -/
def State.setPendingBit (s : State) (die n : Nat) : State :=
  let d := s.dieAt die
  let old := d.pad.read (n / 8)
  let new := old ||| (1#8 <<< (n % 8))
  let t := s.putDie { d with pad := d.pad.write (n / 8) new }
  if old = new then t else t.onHartId (2304 + die) (fun h => { h with event := true })

/-- A cause sent to a die's groom core (R36, R360). -/
def State.toGroom (s : State) (die : Nat) (c : Stop) : State :=
  let d := s.dieAt die
  s.putDie { d with inbox := d.inbox ++ [c] }

/-- An event for the agent of a function (R36): the die's groom core, or the host by an EVENT. -/
def State.agentEvent (s : State) (fn cause die ctx : Nat) (value detail : Word) : State :=
  if s.hostFn fn then s.postEvent (s.fnPort fn) fn cause die ctx value detail
  else s.toGroom die { cause := cause, tval := value }

/-- An event for the error recovery agent (R36, R37): the host, or die 0's groom core, or die 1's for a watchdog of die 0's. -/
def State.recoveryEvent (s : State) (cause die ctx : Nat) (value : Word) : State :=
  if s.hostFn 4 then s.postEvent (s.fnPort 4) 4 cause die ctx value 0#64
  else s.toGroom (if cause = 0xB0 ∧ die = 0 then 1 else 0) { cause := cause, tval := value }

/-- A contained error (R365, R215): its record, and its event for the error recovery agent (R36). -/
def State.contain (s : State) (r : ErrRecord) : State := (s.logAll r).recoveryEvent r.cause r.die r.ctx (BitVec.ofNat 64 r.addr)

/-! ## Results of an access -/

/-- An access or an operation: it gives a value, stops with a cause, or waits (the step changes only what the state says
and is tried again). -/
inductive Res (α : Type) where
  | ok (a : α) (s : State)
  | stop (c : Stop) (s : State)
  | wait (s : State)

/-- What follows a successful operation. -/
def Res.bind {α β : Type} (r : Res α) (f : α → State → Res β) : Res β :=
  match r with
  | .ok a s => f a s
  | .stop c s => .stop c s
  | .wait s => .wait s

/-- A cause with a numeric `tval`. -/
def stopAt (cause tval : Nat) : Stop := { cause := cause, tval := BitVec.ofNat 64 tval }

/-! ## Translation (R224, R225) -/

/-- A translation: the leaf's physical address for the access and the leaf, or not present (with the malformed flag), or a table entry
that cannot be read: the cause, the class of its record (none for 0), the entry's address (R365), or an entry on a page that has moved
(R326). -/
inductive Xlat where
  | present (pa : Nat) (leaf : Word)
  | absent (malformed : Bool)
  | failed (cause cls pa : Nat)
  | moved (pa : Nat)
  deriving DecidableEq, Repr

/-- The cause of the data of [pa, pa + n), if it has one, with the class of the record that is written (0 for none): uncorrectable device
data 0x49, also for a merge that meets a failing sector (R108 row 6, R365); host data 0x4A, and 0x4B where the host aborts or the port's
link is down (R323); 0x4B where the peer has failed (R369). A write reads nothing. -/
def State.dataFault (s : State) (pa n : Nat) (write : Bool) : Option (Nat × Nat) :=
  let mergeFails := anyBy (fun u : ULine => decide (pa / 128 ≤ u.line ∧ u.line ≤ (pa + n - 1) / 128) && s.failsAt (u.line * 128) 128) s.ulines
  let bad := s.failsAt pa n && !write
  match targetOf pa with
  | .device _ => if mergeFails || bad then some (0x49, 3) else none
  | .host p =>
    if !(s.portAt p).up || anyBy (fun f => decide (f * 32 < pa + n ∧ pa < f * 32 + 32)) s.aborting then some (0x4B, 0)
    else if bad then some (0x4A, 4) else none
  | .peer =>
    if anyBy (· == (pa - 0xC000000000000) / 2 ^ 37) s.failedDev then some (0x4B, 0)
    else if mergeFails || bad then some (0x49, 3) else none
  | .absent => none

/-- A line that must leave U without an access to it: merged, or, where its merge meets a failing sector, left in U with a class 3 record
(R331, R365); one into which nothing has been folded merges nothing. The result says whether it is out of U. -/
def State.evictU (s : State) (die line : Nat) : Bool × State :=
  if !(anyBy (fun u : ULine => u.line == line) s.ulines) then (true, { s with coh := s.unfolded line })
  else
    match s.dataFault (line * 128) 128 true with
    | some (c, cls) => (false, if cls = 0 then s else s.contain (dieRecord cls c die (line * 128) 0))
    | none => (true, s.mergeU line)

/-- A virtual address is canonical when bits [63:56] are zero (R224). -/
def canonical (va : Nat) : Bool := decide (va < 2 ^ 56)

/-- The offset bits of a leaf at a level (R224). -/
def leafShift (level : Nat) : Nat := if level = 1 then 36 else if level = 2 then 26 else 16

/-- The physical base of an entry (R224). -/
def pteBase (e : Word) : Nat := bits e 13 39 * 8192

/-- A leaf keeps every rule of R224's table. -/
def leafOk (level : Nat) (e : Word) : Bool :=
  let base := pteBase e
  bits e 52 12 == 0 && !bit e 12 && level != 0 && base % 2 ^ leafShift level == 0 &&
  (!bit e 3 || bit e 2) &&
  (match targetOf base with
   | .device d => bit e 7 && bits e 8 3 == d
   | .host _ | .peer => !bit e 7 && bits e 8 3 == 0
   | .absent => false)

/-- A pointer keeps the rules that apply to it (R224): reserved bits, a node in memory that exists. -/
def pointerOk (level : Nat) (e : Word) : Bool :=
  bits e 52 12 == 0 && !bit e 12 && level != 3 && targetOf (pteBase e) != .absent

/-- Why a table entry at `a` cannot be read now (R365, R326). -/
def State.entryHeld (s : State) (a : Nat) : Option Xlat :=
  if anyBy (· == a / 65536) s.movedPages then some (.moved a) else (s.dataFault a 8 false).map fun p => .failed p.1 p.2 a

/-- The walk through the levels left, at a node (R224). -/
def walk (s : State) (va : Nat) : List Nat → Nat → Nat → Xlat × Nat × State
  | [], _, _ => (.absent true, 0, s)
  | sh :: rest, level, node =>
    let a := node + (va / 2 ^ sh % 1024) * 8
    match targetOf a with
    | .absent => (.absent true, level, s)
    | _ =>
      match s.entryHeld a with
      | some x => (x, level, s)
      | none =>
        let (v, t) := s.physRead a 8
        let e := BitVec.ofNat 64 v
        if !bit e 0 then (.absent false, level, t)
        else if bit e 1 then
          if leafOk level e then (.present (pteBase e + va % 2 ^ leafShift level) e, level, t)
          else (.absent true, level, t)
        else if pointerOk level e then walk t va rest (level + 1) (pteBase e)
        else (.absent true, level, t)

/-- A translation that a stable's TLBs hold (R225). -/
def tlbFind (tlb : List TlbEntry) (ctx va : Nat) : Option (Nat × Word) :=
  match findBy (fun t : TlbEntry => t.ctx == ctx && va / 2 ^ leafShift t.level == t.vpn) tlb with
  | some t => some (pteBase t.leaf + va % 2 ^ leafShift t.level, t.leaf)
  | none => none

/-- Translates a canonical address for a context at a stable: through its TLBs, which hold a translation until TLBINV
drops it (R225), else by a walk, whose result the TLBs keep. -/
def State.translate (s : State) (stable ctx : Nat) (pgroot : Word) (va : Nat) : Xlat × State :=
  match tlbFind (s.stableAt stable).tlb ctx va with
  | some (pa, leaf) => (.present pa leaf, s)
  | none =>
    match walk s va [46, 36, 26, 16] 0 (bits pgroot 13 39 * 8192) with
    | (.present pa leaf, level, t) =>
      let st := t.stableAt stable
      (.present pa leaf,
        t.putStable { st with tlb := { ctx := ctx, level := level, vpn := va / 2 ^ leafShift level, leaf := leaf } :: st.tlb })
    | (x, _, t) => (x, t)

/-! ## Not-present faults serviced in place (R358) -/

/-- The second doubleword of a translation-fault record (R358). -/
def faultWord (ctx hart : Nat) (write fetch malformed : Bool) : Word :=
  BitVec.ofNat 64 (ctx % 2 ^ 24 + hart % 4096 * 2 ^ 24 + write.toNat * 2 ^ 36 + fetch.toNat * 2 ^ 37 + malformed.toNat * 2 ^ 38)

/-- A translation fault offered to the agent of `FUNCMODE` bit 1: an EVENT, or a record in the groom core's ring, where a
slot is reused only once its reply is written; `none` while no slot is free (R358). The number is the record's or the EVENT's. -/
def State.offerFault (s : State) (die va ctx hart : Nat) (write fetch malformed : Bool) : Option (Nat × State) :=
  let w := faultWord ctx hart write fetch malformed
  if s.hostFn 1 then
    let p := s.portAt (s.fnPort 1)
    some ((p.seq + p.waiting.length) % 2 ^ 32, s.postEvent p.n 1 (if write then 0x42 else 0x41) die ctx (BitVec.ofNat 64 va) w)
  else
    let d := s.dieAt die
    let slot := 8192 + d.faultAt % 32 * 64
    if 32 ≤ d.faultAt ∧ d.pad.read (slot + 0x10) = 0#8 then none
    else
      let pad := ((d.pad.clear slot (slot + 64)).writeN slot 8 va).writeN (slot + 8) 8 w.toNat
      some (d.faultAt, (s.putDie { d with pad := pad, faultAt := d.faultAt + 1 }).setPendingBit die 4095)

/-- For whom an access is made: the hart in focus or a unit of a die, with the context, its page table and its rights;
`service` says that a not-present fault is serviced in place (R358), `pad` that the scratchpad window may be reached (R219),
`engine` that it is an engine transfer of the hart. -/
structure Who where
  unit    : Bool
  die     : Nat
  stable  : Nat
  ctx     : Nat
  pgroot  : Word
  rider   : Bool
  service : Bool
  pad     : Bool
  engine  : Bool := false
  deriving DecidableEq, Repr

/-- The offered faults of the one who accesses. -/
def State.offersOf (s : State) (w : Who) : List Offer := if w.unit then (s.dieAt w.die).offers else s.hart.offers

/-- The offered faults replaced. -/
def State.setOffers (s : State) (w : Who) (l : List Offer) : State :=
  if w.unit then s.putDie { s.dieAt w.die with offers := l } else s.onHart (fun h => { h with offers := l })

/-- The offered fault on which an access waits: while it has no answer, and where the answer is to raise (R358). -/
def State.offered (s : State) (w : Who) (va : Nat) (write fetch : Bool) : Option Offer :=
  if w.service then findBy (fun o : Offer => o.va == va && o.ctx == w.ctx && o.engine == w.engine && o.write == write && o.fetch == fetch) (s.offersOf w)
  else none

/-- An access that has been offered waits for the answer; on raise the cause is raised as if service did not exist (R358). -/
def State.answered {α : Type} (s : State) (w : Who) (o : Offer) : Res α :=
  if o.answer = some true then .stop (stopAt (if o.write then 0x42 else 0x41) o.va) (s.setOffers w (dropBy (· == o) (s.offersOf w)))
  else .wait s

/-- A not-present fault: it is offered and waits; where it is not serviced it raises at once (R358). -/
def State.notPresent {α : Type} (s : State) (w : Who) (va : Nat) (write fetch malformed : Bool) : Res α :=
  if !w.service then .stop (stopAt (if write then 0x42 else 0x41) va) s
  else
    match s.offerFault w.die va w.ctx (if w.unit then 0xFFF else s.hart.id) write fetch malformed with
    | some (n, t) =>
      .wait (t.setOffers w ({ record := n, engine := w.engine, va := va, ctx := w.ctx, write := write, fetch := fetch, answer := none } :: t.offersOf w))
    | none => .wait s

/-! ## Access checks -/

/-- The kinds of access. -/
inductive AKind where
  | load | store | fetch
  deriving DecidableEq, Repr

/-- Where an access that has passed its checks lands: physical memory with its leaf, or the scratchpad. -/
inductive Place where
  | phys (pa : Nat) (leaf : Word)
  | pad (off : Nat)
  deriving DecidableEq, Repr

/-- The scratchpad window (R219). -/
def inWindow (va : Nat) : Bool := decide (va / 2 ^ 48 % 256 = 0xFE ∧ va < 2 ^ 56)

/-- The bytes of the window that the hart in focus may reach: its job's `spbytes`, a groom core's 64 KiB (R219, R35). -/
def State.padSize (s : State) : Nat :=
  if s.hart.isGroom then 65536 else match s.job with | some j => j.spbytes | none => 0

/-- Page rights (R224): a rider access needs `rdr`. -/
def leafAllows (leaf : Word) (rider : Bool) (k : AKind) : Bool :=
  (!rider || bit leaf 5) && (match k with | .load => bit leaf 2 | .store => bit leaf 3 | .fetch => bit leaf 4)

/-- The cause of a permission fault (R108, R67). -/
def permCause (k : AKind) : Nat := match k with | .load => 0x43 | .store => 0x44 | .fetch => 0x45

/-- A groom access to host memory outside the outbound window table (R37, R46). -/
def State.outboundOk (s : State) (pa n : Nat) (k : AKind) : Bool :=
  anyBy (fun w : Nat × Word × Word × Word =>
    let base := bits w.2.1 12 40 * 4096
    let limit := bits w.2.2.1 12 40 * 4096 + 4096
    let fl := w.2.2.2
    bit fl 0 && (match k with | .store => bit fl 2 | _ => bit fl 1) && decide (base ≤ pa ∧ pa + n ≤ limit)) s.windows

/-- The accesses held after moved responses, of the hart in focus or of a die's units (R327). -/
def State.movedOf (s : State) (w : Who) : List (Nat × Nat × Bool) := if w.unit then (s.dieAt w.die).moved else s.hart.moved

/-- The accesses held after moved responses replaced. -/
def State.setMoved (s : State) (w : Who) (l : List (Nat × Nat × Bool)) : State :=
  if w.unit then s.putDie { s.dieAt w.die with moved := l } else s.onHart (fun h => { h with moved := l })

/-- The address under which an access is held: a unit's with its context, a transfer's with one more than its context. -/
def Who.key (w : Who) (va : Nat) : Nat := if w.unit then va + 2 ^ 64 * w.ctx else if w.engine then va + 2 ^ 64 * (w.ctx + 1) else va

/-- The access has reached the right home: a line of a page that has moved answers with a moved response, and the access is held until a
TLBINV, whether or not the page goes on to answer so; past 8 such responses it raises 0x4C (R327). -/
def State.movedCheck (s : State) (w : Who) (va pa : Nat) : Res Unit :=
  let k := w.key va
  let is (m : Nat × Nat × Bool) : Bool := m.1 / 128 == k / 128
  let moved := anyBy (· == pa / 65536) s.movedPages
  let tooMany : Res Unit := .stop (stopAt 0x4C va) (s.setMoved w (dropBy is (s.movedOf w)))
  match findBy is (s.movedOf w) with
  | some (_, n, waiting) =>
    if 8 < n then tooMany
    else if waiting then .wait s
    else if !moved then .ok () (s.setMoved w (dropBy is (s.movedOf w)))
    else if n = 8 then tooMany
    else .wait (s.setMoved w (putBy is (k, n + 1, true) (s.movedOf w)))
  | none => if moved then .wait (s.setMoved w ((k, 1, true) :: s.movedOf w)) else .ok () s

/-- The record of a data error met by an access. -/
def State.dataRecord (s : State) (w : Who) (cls cause pa : Nat) : ErrRecord :=
  if w.unit then { dieRecord cls cause w.die pa 0 with ctx := w.ctx } else s.hartRecord cls cause pa

/-- A data error stops an access; it is recorded where its class says so (R365, R366). -/
def State.dataStop {α : Type} (s : State) (w : Who) (va cause cls pa : Nat) : Res α :=
  .stop (stopAt cause va) (if cls = 0 then s else s.contain (s.dataRecord w cls cause pa))

/-- The data checks after translation and rights (R108 row 6). -/
def State.dataCheck (s : State) (w : Who) (va pa n : Nat) (k : AKind) : Res Unit :=
  match s.dataFault pa n (k == .store) with
  | some (c, cls) => s.dataStop w va c cls pa
  | none => .ok () s

/-- A peer window that names this device or a number that no device holds (R369). -/
def State.noPeer (s : State) (pa : Nat) : Bool :=
  match targetOf pa with
  | .peer =>
    let q := (pa - 0xC000000000000) / 2 ^ 37
    q == s.device || !(s.peers.contains q || s.failedDev.contains q)
  | _ => false

/-- The hart in focus as the one who accesses; only a vector access or an engine reaches the scratchpad window (R219). -/
def State.hartWho (s : State) (window : Bool) : Who :=
  let h := s.hart
  { unit := false, die := h.die, stable := h.stable, ctx := h.ctx, pgroot := h.csr.pgroot, rider := h.mode == 0,
    service := h.mode == 0, pad := window }

/-- The page of an access, which is present and grants it (R108 rows 4 and 5): the physical address and the leaf. -/
def State.pageAs (s : State) (w : Who) (va n : Nat) (k : AKind) : Res (Nat × Word) :=
  match s.offered w va (k == .store) (k == .fetch), s.translate w.stable w.ctx w.pgroot va with
  | some o, _ => s.answered w o
  | none, (.failed c cls a, t) => t.dataStop w va c cls a
  | none, (.moved a, t) => (t.movedCheck w va a).bind fun _ t => .wait t
  | none, (.absent m, t) => t.notPresent w va (k == .store) (k == .fetch) m
  | none, (.present pa leaf, t) =>
    if targetOf pa = .absent || t.noPeer pa then t.notPresent w va (k == .store) (k == .fetch) false
    else if !leafAllows leaf w.rider k then .stop (stopAt (permCause k) va) t
    else
      let hostPa := match targetOf pa with | .host _ => true | _ => false
      if !w.unit && s.hart.isGroom && hostPa && !t.outboundOk pa n k then
        .stop (stopAt (if k = .store then 0x44 else 0x43) va) (t.logAll (t.hartRecord 2 (if k = .store then 0x44 else 0x43) pa))
      else .ok (pa, leaf) t

/-- Every check of an access of `n` bytes aligned to `al`, in the order of R108. -/
def State.accessAs (s : State) (w : Who) (va n al : Nat) (k : AKind) : Res Place :=
  if !canonical va then .stop (stopAt 0x46 va) s
  else if va % al ≠ 0 then .stop (stopAt 0x40 va) s
  else if inWindow va then
    if w.pad && decide (va % 2 ^ 48 + n ≤ s.padSize) then .ok (.pad (va % 2 ^ 48)) s
    else .stop (stopAt 0x47 va) s
  else
    (s.pageAs w va n k).bind fun p t =>
      (t.movedCheck w va p.1).bind fun _ t => (t.dataCheck w va p.1 n k).bind fun _ t => .ok (.phys p.1 p.2) t

/-- The checks of an access by the hart in focus; `window` says whether the scratchpad window may be reached (R219). -/
def State.access (s : State) (va n al : Nat) (k : AKind) (window : Bool) : Res Place := s.accessAs (s.hartWho window) va n al k

/-! ## Places read and written -/

/-- The scratchpad that the hart in focus reaches. -/
def State.pad (s : State) : Memory :=
  if s.hart.isGroom then (s.dieAt s.hart.die).pad else match s.job with | some j => j.pad | none => []

/-- The device-defined registers in a groom scratchpad after a write of firmware (R38, R39, R325, R356): reserved and
read-only fields keep their values, and a written `go`, `retire` or pre-emption request makes the device's step follow. -/
def groomPadFix (die : Nat) (old new : Memory) (off n : Nat) : Memory × List Turn :=
  let touches (lo len : Nat) : Bool := decide (off < lo + len ∧ lo < off + n)
  let (m, t) := (new, ([] : List Turn))
  -- migration block: +0x10 holds go, done, retire, err
  let (m, t) :=
    if touches 528 8 then
      let w := m.readN 528 8
      let kept := old.readN 528 8 &&& 0xA
      (m.writeN 528 8 kept,
        t ++ (if w % 2 = 1 then [Turn.device (.migrationGo die)] else []) ++
          (if w / 4 % 2 = 1 then [Turn.device (.migrationRetire die)] else []))
    else (m, t)
  let m := if touches 512 16 then (m.writeN 512 8 (m.readN 512 8 / 65536 * 65536 % 2 ^ 52)).writeN 520 8 (m.readN 520 8 / 65536 * 65536 % 2 ^ 52) else m
  -- replies to fault records (R358)
  let a := (off - 8192) / 64
  let t := if touches (8192 + 64 * a + 16) 1 && decide (8192 ≤ off ∧ off < 10240) then t ++ [Turn.device (.translationFaultReply die a)] else t
  -- PREEMPT: fields are write-only
  let (m, t) :=
    if touches 544 8 then
      let w := m.readN 544 8
      (m.writeN 544 8 0,
        t ++ [if w / 4096 % 2 = 1 then Turn.device (.preemptHost die (BitVec.ofNat 64 (w % 8192)))
              else Turn.device (.preemptTimer die (BitVec.ofNat 64 (w % 8192)))])
    else (m, t)
  -- CTXTAB: [51:12], [11:7], [0]
  let m := if touches 552 8 then m.writeN 552 8 (m.readN 552 8 &&& 0xFFFFFFFFFFF81) else m
  let m := if touches 560 16 then m.writeN 560 16 0 else m
  -- launch request: +0x18 holds go, busy, result
  if touches 600 8 then
    let w := m.readN 600 8
    (m.writeN 600 8 (old.readN 600 8 &&& 0xE),
      t ++ (if w % 2 = 1 ∧ old.readN 600 8 / 2 % 2 = 0 then [Turn.device (.launchRequestGo false die)] else []))
  else (m, t)

/-- The scratchpad written. -/
def State.padWrite (s : State) (off n v : Nat) : State :=
  if s.hart.isGroom then
    let d := s.dieAt s.hart.die
    let new := d.pad.writeN off n v
    let (m, t) := if (512 ≤ off + n ∧ off < 608) ∨ (8192 ≤ off ∧ off < 10240) then groomPadFix d.n d.pad new off n else (new, [])
    let s := s.putDie { d with pad := m }
    { s with turns := s.turns ++ t }
  else
    match s.job with
    | some j => s.putJob { j with pad := j.pad.writeN off n v }
    | none => s

/-- Reads `n` bytes at a place. -/
def State.readPlace (s : State) (p : Place) (n : Nat) : Nat × State :=
  match p with
  | .phys pa _ => s.physRead pa n
  | .pad off => (s.pad.readN off n, s)

/-- Who a write comes from, as the link tables know writers (R229): a unit, an engine or the L1 of a core. -/
def State.writer (s : State) (w : Who) : Nat := if w.unit then 4096 + w.die else s.hart.id

/-- Writes `n` bytes at a place. -/
def State.writePlace (s : State) (w : Who) (p : Place) (n v : Nat) : State :=
  match p with
  | .phys pa _ => s.physWrite (s.writer w) pa n v
  | .pad off => s.padWrite off n v

/-- Every access through the leaf is performed at memory (R224). -/
def uncachedLeaf (leaf : Word) : Bool := bit leaf 11

/-- The lines of an access are placed: those of a core in its L1 and its die's L2 (R217), at a priority between the two that R220 names;
those of a transfer in the L2 at the lowest (R220); none of an uncached page (R224). For a unit's own accesses and a groom core's the
rules name no cache. -/
def State.placeAs (s : State) (w : Who) (p : Place) (n : Nat) (write : Bool) : State :=
  match p with
  | .phys pa leaf =>
    if uncachedLeaf leaf then s
    else if w.engine then (if write then s.wroteLines w.die none noCache 0 pa n else s.readLines w.die none 0 pa n)
    else if w.unit || s.hart.isGroom then s
    else
      let a := some (l1Agent s.hart.id)
      if write then s.wroteLines s.hart.die a noCache 1 pa n else s.readLines s.hart.die a 1 pa n
  | .pad _ => s

/-- A load of `n` bytes with all its checks. -/
def State.loadAs (s : State) (w : Who) (va n al : Nat) : Res Nat :=
  (s.accessAs w va n al .load).bind fun p t => let (v, t) := t.readPlace p n; .ok v (t.placeAs w p n false)

/-- A store of `n` bytes with all its checks. -/
def State.storeAs (s : State) (w : Who) (va n al v : Nat) : Res Unit :=
  (s.accessAs w va n al .store).bind fun p t => .ok () ((t.writePlace w p n v).placeAs w p n true)

/-- A load of `n` bytes by the hart in focus, with all its checks. -/
def State.loadRaw (s : State) (va n al : Nat) (window : Bool) : Res Nat := s.loadAs (s.hartWho window) va n al

/-- A store of `n` bytes by the hart in focus, with all its checks. -/
def State.storeRaw (s : State) (va n al v : Nat) (window : Bool) : Res Unit := s.storeAs (s.hartWho window) va n al v

/-- A groom scratchpad with the `n` records of another's fault ring that were posted from number `lo` on, and with its pending bit 4095
(R358). -/
def Memory.withRecords (m new : Memory) (lo : Nat) : Nat → Memory
  | 0 => m
  | n + 1 =>
    let slot := 8192 + lo % 32 * 64
    let m := (m.clear slot (slot + 64)).writeN slot 64 (new.readN slot 64)
    Memory.withRecords (m.write 511 (m.read 511 ||| 0x80#8)) new (lo + 1) n

/-- The state of an operation that takes no effect: as before, but for what the attempt recorded: error records and their events, `errinfo`,
the offers of translation faults and the held accesses, and where it waits the records of offers, with the events that they raise, and the translations. -/
def State.keepAttempt (s t : State) (waits : Bool) : State :=
  if waits then
    { s with
      ports := t.ports, fresh := t.fresh, stables := t.stables
      dies := t.dies.map (fun d => let o := s.dieAt d.n; { d with pad := o.pad.withRecords d.pad o.faultAt (d.faultAt - o.faultAt) })
      others := s.others.map (fun h => { h with event := h.event || anyBy (fun g : Hart => g.id == h.id && g.event) t.others })
      hart := { s.hart with offers := t.hart.offers, moved := t.hart.moved, event := s.hart.event || t.hart.event } }
  else
    { s with
      ports := t.ports, fresh := t.fresh
      dies := s.dies.map (fun d => let e := t.dieAt d.n; { d with offers := e.offers, moved := e.moved, inbox := e.inbox })
      hart := { s.hart with
        offers := t.hart.offers, moved := t.hart.moved, csr := { s.hart.csr with errinfo := t.hart.csr.errinfo } } }

/-- An operation that has its whole effect or none: a cause or a wait undoes what was done before it. -/
def Res.orNothing {α : Type} (r : Res α) (s : State) : Res α :=
  match r with
  | .ok a t => .ok a t
  | .stop c t => .stop c (s.keepAttempt t false)
  | .wait t => .wait (s.keepAttempt t true)

end Sys2Proof.Machine
end

