-- ==== Sys2Proof/Machine/RecState.lean ====
section
/-! DEFINITION. The records of a running recursion (R267) and the saving of a run that stops (R274). -/

namespace Sys2Proof.Machine

/-- The bytes of a record (R267). -/
def RecRun.recSize (r : RecRun) : Nat := (r.w / 8 * (r.nfw + r.nrw) + 7) / 8 * 8 + 8

/-- The address of record `i` of the frame store: the store lies in the scratchpad window (R265, R267). -/
def RecRun.recAt (r : RecRun) (i : Nat) : Nat := 0xFE * 2 ^ 48 + r.fsoff + r.recSize * i

/-- The last doubleword of a record (R267): parent, child index, children, depth, and whether it is a leaf. -/
def recTail (prec cidx nkid dep : Nat) (leaf : Bool) : Nat :=
  prec % 2 ^ 32 + cidx % 256 * 2 ^ 32 + nkid % 256 * 2 ^ 40 + dep % 128 * 2 ^ 48 + leaf.toNat * 2 ^ 55

/-- `prec` of a record's last doubleword. -/
def tailPrec (t : Nat) : Nat := t % 2 ^ 32
/-- `cidx`. -/
def tailCidx (t : Nat) : Nat := t / 2 ^ 32 % 256
/-- `nkid`. -/
def tailKids (t : Nat) : Nat := t / 2 ^ 40 % 256
/-- `dep`. -/
def tailDep (t : Nat) : Nat := t / 2 ^ 48 % 128
/-- `leaf`. -/
def tailLeaf (t : Nat) : Bool := t / 2 ^ 55 % 2 == 1

/-- The last doubleword of record `i` of the store, in the scratchpad. -/
def State.storeTail (s : State) (r : RecRun) (i : Nat) : Nat :=
  s.pad.readN (r.fsoff + r.recSize * i + r.recSize - 8) 8

/-- The last doubleword of record `i` of the store replaced. -/
def State.setStoreTail (s : State) (r : RecRun) (i t : Nat) : State :=
  s.padWrite (r.fsoff + r.recSize * i + r.recSize - 8) 8 t

/-- Whether the pass of routine `rout` runs on a frame with this last doubleword (R269). -/
def tailChosen (rout t : Nat) : Bool := if rout = 0 then true else if rout = 1 then tailLeaf t else tailKids t != 0

/-- The marks that say, in a saved record of VP 64 or above, that base or combine has committed for it (R274, log 15): a
committed base clears `leaf`, a committed combine sets it. -/
def markTail (rout t : Nat) : Nat :=
  recTail (tailPrec t) (tailCidx t) (tailKids t) (tailDep t) (if rout = 1 then false else tailLeaf t || rout == 2)

/-- The doublewords of the save area from +0x48 (R274). -/
def State.saveArea (s : State) (r : RecRun) : List Nat :=
  let level := r.phase = 1 ∨ r.phase = 3
  let map := if level then
      sumBy (fun v => if tailChosen r.rout (s.storeTail r (r.lfirst + v)) then 2 ^ v else 0)
        (countFrom 0 (min 64 (min r.next r.lcount)))
    else 0
  [r.phase % 8 + r.lvl % 128 * 2 ^ 8 + r.p % 65536 * 2 ^ 16 + s.hart.id % 4096 * 2 ^ 32, r.nproc % 2 ^ 64,
    r.lfirst % 2 ^ 32 + r.lcount % 2 ^ 32 * 2 ^ 32, r.rout % 4, map, r.nrec % 2 ^ 32, 0]

/-- The unfolding engine of the hart in focus as the one who accesses (R232, R275). -/
def State.recurWho (s : State) : Who := { s.hartWho true with engine := true, service := true }

/-- Doublewords stored in turn. -/
def State.storeAll (s : State) (w : Who) (a : Nat) : List Nat → Res Unit
  | [] => .ok () s
  | v :: vs => (s.storeAs w (a % 2 ^ 64) 8 8 v).bind fun _ t => State.storeAll t w (a + 8) vs

/-- A cause put among those of other transfers, before the first of a younger one (R343). -/
def insertCause (e : ECause) : List ECause → List ECause
  | [] => [e]
  | d :: ds => if e.before < d.before then e :: d :: ds else d :: insertCause e ds

/-- The cause of an engine transfer that ends (R232, R343); `i` transfers of the bridle are older. -/
def Hart.endedBy (h : Hart) (c : Stop) (i after : Nat) : Hart :=
  { h with ecauses := insertCause { stop := c, before := i, after := after } h.ecauses }

/-- The transfers of a hart that its oldest queue entry is younger than. -/
def Hart.beforeQueue (h : Hart) : Nat := (h.bridle.filter (fun t => t.after == 0 && !t.held)).length

/-- Doublewords that the unfolding engine writes: a transfer of their own (R275). Where an access is serviced or held after a moved response
the transfer stands in the bridle until it goes on (R232, R327); a fault ends it. -/
def State.engineWords (s : State) (a : Nat) (vals : List Nat) : State :=
  match s.storeAll s.recurWho a vals with
  | .ok _ t => t
  | .stop c t => (s.keepAttempt t false).onHart (fun h => h.endedBy c h.beforeQueue 0)
  | .wait t =>
    (s.keepAttempt t true).onHart (fun h =>
      let x : Transfer :=
        { kind := .words a vals, ctx := h.ctx, pgroot := h.csr.pgroot, rider := h.mode == 0, scope := h.scope, reads := [],
          writes := [{ lo := a, len := 8 * vals.length }], phase := 0, done := 0, old := 0, new := 0, saved := [], started := true, after := 0,
          fence := h.fences, stopped := false, held := false, node := none }
      let i := h.beforeQueue
      { h with bridle := h.bridle.take i ++ x :: h.bridle.drop i })

/-- The queue's oldest entry as the freeze records a stopped run: partial (R349). -/
def recurStopped : List QEntry → List QEntry
  | [] => []
  | e :: es => { e with state := 2, prog := 0, begun := false } :: es

/-- A running recursion stops: the engine writes the save area, marks what has committed beyond VP 63, makes the entry
partial and ends the grant freeze (R274). The stack headers in memory already hold each VP's progress. -/
def State.saveRecursion (s : State) : State :=
  match s.hart.recur with
  | none => s
  | some r =>
    let s := s.engineWords (r.obj + 0x48) (s.saveArea r)
    let s :=
      if (r.phase = 1 ∨ r.phase = 3) ∧ r.rout ≠ 0 then
        (countFrom 64 (min r.next r.lcount - 64)).foldl (fun t v =>
          let i := r.lfirst + v
          let w := t.storeTail r i
          if tailChosen r.rout w then t.setStoreTail r i (markTail r.rout w) else t) s
      else s
    s.onHart (fun h =>
      { h with recur := none, queue := recurStopped h.queue, csr := { h.csr with frozen := false } })

/-- A running recursion of an abandoned queue (R347): it does nothing more. -/
def State.dropRecursion (s : State) : State :=
  match s.hart.recur with
  | none => s
  | some _ => s.onHart (fun h => { h with recur := none, csr := { h.csr with frozen := false } })

end Sys2Proof.Machine
end

