-- ==== Sys2Proof/Machine/Ops.lean ====
section
/-! DEFINITION. The shared operations of instructions: completing, taking a trap (R343 to R349), returning from one's
freeze, and the queue image (R350, R351). -/

namespace Sys2Proof.Machine

/-- What a step answers. -/
abbrev Answer := Host.Outcome State Fault Refusal

/-- The granule of element `i` of width `w` (R51). -/
def granuleOf (w i : Nat) : Nat := i * w / 2048

/-! ## The freeze (R349) -/

/-- Word 1 of a tile form, else 0 (R350). -/
def QEntry.w1 (e : QEntry) : BitVec 32 := e.words.extractLsb' 32 32

/-- A slot of an image that holds nothing (R350). -/
def QSlot.empty : QSlot := { w0 := 0#32, w1 := 0#32, pc := 0#64, prog := 0, state := 0, opa := 0#64, opb := 0#64 }

/-- An entry as a slot of a queue image; a completed one that waits for an older to leave is empty (R349, R350). -/
def QEntry.slot (e : QEntry) : QSlot :=
  if e.state = 0 then .empty
  else { w0 := e.words.extractLsb' 0 32, w1 := e.w1, pc := e.pc, prog := e.prog, state := e.state, opa := e.opa, opb := e.opb }

/-- The restart record of an entry, which a queue image keeps for its oldest entry (R351). -/
def QEntry.restart (e : QEntry) : Word :=
  match e.row with
  | .vfetch | .cVfetch | .vloop => e.lrec
  | _ => 0#64

/-- The queue without the completed entries at its head (R349). -/
def leaveDone : List QEntry → List QEntry
  | [] => []
  | e :: es => if e.state = 0 then leaveDone es else e :: es

/-- The granule of element `i` of an entry; 32 doublewords for the whole-register forms (R348). -/
def Hart.granule (h : Hart) (r : Row) (i : Nat) : Nat := if r == .vldReg || r == .vstReg then i / 32 else granuleOf h.width i

/-- The first element of an entry's granule `g`. -/
def Hart.granuleStart (h : Hart) (r : Row) (g : Nat) : Nat :=
  if r == .vldReg || r == .vstReg then 32 * g else g * 2048 / h.width

/-- The values that completed entries may write: up to the first entry that still owes one (R126). -/
def deliverFrom : List QEntry → List QEntry × List (Reg × Word)
  | [] => ([], [])
  | e :: es =>
    match e.ret, e.dest with
    | some v, some d => let r := deliverFrom es; ({ e with ret := none } :: r.1, (d, v) :: r.2)
    | _, _ => if e.state != 0 && e.dest.isSome then (e :: es, []) else let r := deliverFrom es; (e :: r.1, r.2)

/-- The values of completed entries are written to their registers in program order (R126). -/
def Hart.deliver (h : Hart) : Hart :=
  if anyBy (fun e : QEntry => e.ret.isSome) h.queue then
    let r := deliverFrom h.queue
    r.2.foldl (fun g p => g.setX p.1 p.2) { h with queue := r.1 }
  else h

/-- Every value of a completed entry is written, before the queue freezes (R126, R349). -/
def Hart.deliverAll (h : Hart) : Hart :=
  h.queue.foldl (fun g e => match e.ret, e.dest with | some v, some d => g.setX d v | _, _ => g) h

/-- The completed entries at the head of the queue leave it (R125, R349): transfers have fewer older entries, and the progress of
an entry that becomes the oldest stands in `vstart`. -/
def Hart.leave (h : Hart) : Hart :=
  let h := h.deliver
  let q := leaveDone h.queue
  let n := h.queue.length - q.length
  if n = 0 then h
  else
    let g :=
      { h with
        queue := q
        bridle := h.bridle.map (fun t => if t.held then t else { t with after := t.after - n })
        ecauses := h.ecauses.map (fun c => { c with after := c.after - n }) }
    match q with
    | e :: _ => if e.state = 2 then g.setVstart (g.granuleStart e.row e.prog) else g
    | [] => g

/-- The image of a hart's queue (R349, R350): entries in program order, `vstart` as it stands. -/
def Hart.imageOf (h : Hart) : QImage :=
  match h.queue with
  | [] => .empty
  | e :: es => { vstart := h.vstart, lrec := e.restart, slots := (e :: es).map QEntry.slot }

/-- The freeze of a hart's vector queue: into the image buffer, with `status.qip` set if an entry is held; with `qip`
already 1 the buffer stays and the queue's own entries are abandoned (R347, R349). -/
def Hart.freeze (h : Hart) : Hart :=
  if h.qip then { h with queue := [], vcause := none }
  else
    { h with
      image := h.imageOf
      queue := []
      vcause := none
      csr := { h.csr with status := setBit h.csr.status 9 (h.queue != []) } }

/-! ## Ranges of engine transfers (R232, R237) -/

/-- Whether a range meets [a, a + n). -/
def Range.meets (r : Range) (a n : Nat) : Bool := decide (r.lo < a + n ∧ a < r.lo + r.len)

/-- Whether some range of one list meets some range of another. -/
def rangesMeet (p q : List Range) : Bool := p.any (fun r => q.any (fun t => r.meets t.lo t.len))

/-- A later access of [a, a + n) waits for the transfer: one that it may write for any access (R237), one that it may read for the order of
the accesses to each byte, reads among them (R288, R290, R292). -/
def Transfer.holds (t : Transfer) (a n : Nat) : Bool := t.reads.any (fun r => r.meets a n) || t.writes.any (fun r => r.meets a n)

/-- A younger transfer waits for an older one whose bytes it shares (R232, R290). -/
def Transfer.waitsFor (t old : Transfer) : Bool := rangesMeet (old.reads ++ old.writes) (t.reads ++ t.writes)

/-- A transfer goes on only after an older one: they share bytes (R232), or a release fence stands between them (R303). -/
def Transfer.follows (t old : Transfer) : Bool := t.waitsFor old || decide (old.fence < t.fence)

/-! ## Taking a trap (R344, R345) -/

/-- `tqpos` of a trap (R345, R96). -/
def tqposOf (qip : Bool) (count : Nat) : Word := if qip then 0#64 else BitVec.ofNat 64 (2 ^ 63 + count % 64 * 256)

/-- `tvpc` of a vector cause (R345, R96). -/
def tvpcOf (gsuf : Nat) (vpc : Word) : Word := BitVec.ofNat 64 (2 ^ 63 + gsuf % 64 * 2 ^ 56 + vpc.toNat % 2 ^ 56)

/-- The status after a trap: `pmode` from `mode`, groom at least, interrupts off (R344). -/
def trapStatus (status : Word) : Word :=
  let m := bits status 0 2
  setBit (setBits (setBits status 2 2 m) 0 2 (max m 1)) 4 false

/-- The causes that are asynchronous (R343). -/
def asyncCause (c : Nat) : Bool := c == 0xA0 || c == 0xA1 || c == 0xB1

/-- An asynchronous cause is pending (R343). -/
def Hart.asyncPending (h : Hart) : Bool := h.preT || h.preH || !h.softErr.isEmpty

/-- The transfer is the transfer phase of an `MDRAIN`. -/
def Transfer.isDrain (t : Transfer) : Bool := match t.kind with | .drain _ _ _ => true | _ => false

/-- A drain is still to finish: pre-emption waits for it (R213); not one that waits for a replay (log 97). -/
def Hart.draining (h : Hart) : Bool := h.bridle.any (fun t => t.isDrain && !t.held)

/-- The first asynchronous cause that can be taken, in the order of R343; its `tval` is 0, or the counter (R344, R366). Pre-emption waits for
drains to finish (R213). -/
def Hart.asyncFirst (h : Hart) : Option Stop :=
  if h.preT && !h.draining then some (stopAt 0xA0 0)
  else if h.preH && !h.draining then some (stopAt 0xA1 0)
  else match h.softErr with
    | c :: _ => some (stopAt 0xB1 c)
    | [] => none

/-- An asynchronous cause taken off the pending ones. -/
def Hart.dropAsync (h : Hart) (c : Nat) : Hart :=
  if c = 0xA0 then { h with preT := false } else if c = 0xA1 then { h with preH := false } else { h with softErr := h.softErr.drop 1 }

/-- A transfer when its hart freezes: the older entries of the queue that it has still to follow go into the image, or with `qip`
already 1 are abandoned (R232, R349). -/
def Transfer.frozen (t : Transfer) (qip : Bool) : Transfer :=
  if t.held then t else if qip then { t with after := 0 } else { t with held := t.after != 0 }

/-- Transfers that pre-emption stops: not the transfer phase of an `MDRAIN`, nor the save of a recursion, nor an older transfer that one that goes on follows (R213,
R274, R357). -/
def preempted : List Transfer → List Transfer
  | [] => []
  | t :: ts =>
    let us := preempted ts
    let runs := match t.kind with
      | .words _ _ => true
      | _ => t.isDrain || us.any (fun u => !u.stopped && u.follows t)
    (if runs then t else { t with stopped := true }) :: us

/-- The registers of a hart as a trap leaves them: the freeze, the saved registers, the status, the PC (R344). -/
def Hart.enterTrap (h : Hart) (c : Stop) (vpc : Option Word) : Hart :=
  let h := h.deliverAll.leave
  let qip := h.qip
  let count := h.queue.length
  let gsuf := match h.queue with | e :: _ => e.prog | [] => 0
  let f := h.freeze
  { f with
    pc := BitVec.ofNat 64 (bits f.csr.tvec 1 55 * 2)
    offers := h.offers.filter (fun o => o.engine)
    moved := h.moved.filter (fun m => decide (2 ^ 64 ≤ m.1))
    bridle := h.bridle.map (fun t => t.frozen qip)
    ecauses := h.ecauses.map (fun c => { c with after := 0 })
    timeout := false
    waits := false
    csr := { f.csr with
      tcause := BitVec.ofNat 64 (c.cause % 256 + (asyncCause c.cause).toNat * 256)
      tval := c.tval
      tpc := h.pc
      tvpc := match vpc with | some v => if qip then 0#64 else tvpcOf gsuf v | none => 0#64
      tqpos := tqposOf qip count
      status := trapStatus f.csr.status } }

/-- The hart in focus withdraws its arrival at the gang barrier (R311). -/
def State.withdrawArrival (s : State) : State :=
  match s.hart.gwait with
  | none => s
  | some p =>
    let t := s.onHart (fun h => { h with gwait := none })
    match s.job with
    | some j =>
      if j.phase = p then t.putJob { j with arrived := j.arrived &&& ~~~(1#8 <<< s.hart.csr.member) } else t
    | none => t

/-- The hart's links are cleared by a trap (R229). -/
def State.dropLinks (s : State) : State := { s with coh.links := dropBy (fun l : Link => l.hart == s.hart.id) s.links }

/-- A cause whose rules name no `tval`: a free value (log 10). Taking a trap counts the free values on. -/
def State.openStop (s : State) (cause : Nat) : Stop := { cause := cause, tval := Config.openTval cause s.fresh }

/-- Takes a trap on the hart in focus at its PC (R344): the one entry into a handler, once its oldest entry has stopped. `vpc` is
given for a vector cause. A running recursion saves itself (R274), an arrival at the gang barrier is withdrawn (R311), links are
cleared (R229), and a pre-emption stops the hart's engine transfers (R357). -/
def State.enterTrap (s : State) (c : Stop) (vpc : Option Word) : State :=
  let s := ((if s.hart.qip then s.dropRecursion else s.saveRecursion).withdrawArrival).dropLinks
  let s := { s with fresh := s.fresh + 1 }
  s.onHart (fun h =>
    let h := h.enterTrap c vpc
    if c.cause = 0xA0 ∨ c.cause = 0xA1 then { h with bridle := preempted h.bridle } else h)

/-- The registers of a hart as the return from a trap leaves them (R354): the mode before the trap, interrupts on in rider
mode, the PC from `tpc`, and nothing valid in `tvpc` and `tqpos`. -/
def Hart.leaveTrap (h : Hart) : Hart :=
  let m := h.pmode
  let st := setBits h.csr.status 0 2 m
  { h with
    pc := h.csr.tpc
    csr := { h.csr with
      status := if m = 0 then setBit st 4 true else st
      tvpc := setBit h.csr.tvpc 63 false
      tqpos := setBit h.csr.tqpos 63 false } }

/-! ## How an instruction of the control thread ends -/

/-- The control thread goes on after an instruction of `len` bytes, which counts in `instret` (R99). -/
def State.advance (s : State) (len : Nat) : State :=
  s.onHart (fun h => { h with pc := h.pc + BitVec.ofNat 64 len, timeout := false, waits := false, csr := { h.csr with instret := h.csr.instret + 1#64 } })

/-- The instruction has completed, and the next follows it. -/
def State.retire (s : State) (len : Nat) : Answer := .next (s.advance len)

/-- The instruction has completed, and the next stands at `pc`. -/
def State.retireTo (s : State) (pc : Word) : Answer :=
  .next (s.onHart (fun h => { h with pc := pc, timeout := false, waits := false, csr := { h.csr with instret := h.csr.instret + 1#64 } }))

/-- An x register written, and the instruction completed. -/
def State.writeX (s : State) (d : Reg) (w : Word) (len : Nat) : Answer := (s.onHart (fun h => h.setX d w)).retire len

end Sys2Proof.Machine
end

