-- ==== Sys2Proof/Machine/Special.lean ====
section
/-! DEFINITION. The special functions of `VFU` (R180, R181): reciprocal, reciprocal square root, 2^a, log2 a, sin(pi a),
cos(pi a) and tanh a, each the exact result rounded once. The exact result is irrational but for the operands of R181,
so it is formed in fixed point with 640 fraction bits, far beyond what the rounding of any FP32 operand needs. -/

namespace Sys2Proof.Machine

/-- The fraction bits of the fixed point. -/
def fxBits : Nat := 640
/-- One in fixed point. -/
def fxOne : Nat := 2 ^ fxBits

/-- z + z^3/3 + z^5/5 + ... over `fuel` terms: `p` is the current odd power, `k` its exponent. -/
def fxAtanhAux (z2 : Nat) : Nat → Nat → Nat → Nat → Nat
  | 0, _, _, acc => acc
  | fuel + 1, p, k, acc => fxAtanhAux z2 fuel (p * z2 / fxOne) (k + 2) (acc + p / k)

/-- The inverse hyperbolic tangent of a z of at most 1/3. -/
def fxAtanh (z : Nat) : Nat := fxAtanhAux (z * z / fxOne) 204 z 1 0

/-- The natural logarithm of 2. -/
def fxLn2 : Nat := 2 * fxAtanh (fxOne / 3)

/-- The alternating series of the arc tangent, as an integer. -/
def fxAtanAux (z2 : Nat) : Nat → Nat → Nat → Int → Bool → Int
  | 0, _, _, acc, _ => acc
  | fuel + 1, p, k, acc, plus =>
    fxAtanAux z2 fuel (p * z2 / fxOne) (k + 2) (if plus then acc + (p / k : Nat) else acc - (p / k : Nat)) (!plus)

/-- The arc tangent of 1/n, for n of at least 5. -/
def fxAtanInv (n : Nat) : Int :=
  let z := fxOne / n
  fxAtanAux (z * z / fxOne) 140 z 1 0 true

/-- The number pi, by Machin's formula. -/
def fxPi : Nat := (16 * fxAtanInv 5 - 4 * fxAtanInv 239).toNat

/-- The exponential series: `t` is the current term. -/
def fxExpAux (y : Nat) : Nat → Nat → Nat → Nat → Nat
  | 0, _, _, acc => acc
  | fuel + 1, t, k, acc => fxExpAux y fuel (t * y / fxOne / k) (k + 1) (acc + t)

/-- e^y for y in [0, 1). -/
def fxExp (y : Nat) : Nat := fxExpAux y 140 fxOne 1 0

/-- The sine series. -/
def fxSinAux (y2 : Nat) : Nat → Nat → Nat → Int → Bool → Int
  | 0, _, _, acc, _ => acc
  | fuel + 1, t, k, acc, plus =>
    fxSinAux y2 fuel (t * y2 / fxOne / ((k + 1) * (k + 2))) (k + 2) (if plus then acc + (t : Int) else acc - (t : Int)) (!plus)

/-- sin y for y in [0, pi/2]. -/
def fxSin (y : Nat) : Nat := (fxSinAux (y * y / fxOne) 80 y 1 0 true).toNat

/-- The special functions (R180). -/
inductive SpecialFn where
  | rcp | rsq | exp2 | log2 | sinp | cosp | tanh
  deriving DecidableEq, Repr

/-- The exact value (or what approximates it from below by less than 2^-600) of a special function: sign, magnitude,
exponent, sticky, with the flags that the operand alone raises; or a value that R181 fixes. -/
inductive SpecialOut where
  | fixed (v : FVal) (fl : Flags)
  | value (neg : Bool) (m : Nat) (e : Int) (sticky : Bool)
  deriving DecidableEq, Repr

/-- v in fixed point, exactly: no operand of FP32 has a bit below 2^-149. -/
def fxOfVal (neg : Bool) (m : Nat) (e : Int) : Int :=
  let x : Int := (shiftFloor m (e + (fxBits : Int)) : Nat)
  if neg then -x else x

/-- sin(pi x) for x in fixed point; an integer gives none. -/
def sinPi (x : Int) : Option (Bool × Nat × Bool) :=
  let r := (x % (2 * (fxOne : Int))).toNat
  let s := decide (fxOne ≤ r)
  let r1 := if s then r - fxOne else r
  if r1 = 0 then none
  else if 2 * r1 = fxOne then some (s, fxOne, false)
  else
    let r2 := if fxOne < 2 * r1 then fxOne - r1 else r1
    some (s, fxSin (fxPi * r2 / fxOne), true)

/-- 2^x for x in fixed point. -/
def exp2Fx (x : Int) : Nat × Int × Bool :=
  let n := x / (fxOne : Int)
  let f := (x % (fxOne : Int)).toNat
  if f = 0 then (1, n, false)
  else (fxExp (f * fxLn2 / fxOne), n - (fxBits : Int), true)

/-- A special function on a value (R180, R181). -/
def specialVal (fn : SpecialFn) (v : FVal) : SpecialOut :=
  match v with
  | .nan s => .fixed (.nan false) (flagIf s flagNv)
  | .inf n =>
    match fn with
    | .rcp => .fixed (.fin n 0 0) noFlags
    | .rsq => if n then .fixed (.nan false) flagNv else .fixed (.fin false 0 0) noFlags
    | .exp2 => if n then .fixed (.fin false 0 0) noFlags else .fixed (.inf false) noFlags
    | .log2 => if n then .fixed (.nan false) flagNv else .fixed (.inf false) noFlags
    | .sinp | .cosp => .fixed (.nan false) flagNv
    | .tanh => .fixed (.fin n 1 0) noFlags
  | .fin n m e =>
    match fn with
    | .rcp =>
      if m = 0 then .fixed (.inf n) flagDz
      else
        let k := 80 + Nat.log2 m
        .value n (2 ^ k / m) (-e - (k : Int)) (2 ^ k % m != 0)
    | .rsq =>
      if m = 0 then .fixed (.inf n) flagDz
      else if n then .fixed (.nan false) flagNv
      else
        let m' := if e % 2 = 0 then m else 2 * m
        let e' := if e % 2 = 0 then e else e - 1
        let k := 80 + Nat.log2 m'
        let r := isqrt (2 ^ (2 * k) / m')
        .value false r (-(k : Int) - e' / 2) (r * r * m' != 2 ^ (2 * k))
    | .exp2 =>
      if m = 0 then .fixed (.fin false 1 0) noFlags
      else if 9 < e + (Nat.log2 m : Int) then
        (if n then .value false 1 (-1000) true else .value false 1 1000 false)
      else
        let (r, q, st) := exp2Fx (fxOfVal n m e)
        .value false r q st
    | .log2 =>
      if m = 0 then .fixed (.inf true) flagDz
      else if n then .fixed (.nan false) flagNv
      else
        let l := Nat.log2 m
        let t := shiftFloor m ((fxBits : Int) - (l : Int))
        let p := e + (l : Int)
        if t = fxOne then .value (decide (p < 0)) p.natAbs 0 false
        else
          let z := (t - fxOne) * fxOne / (t + fxOne)
          let frac : Int := ((2 * fxAtanh z) * fxOne / fxLn2 : Nat)
          let r := p * (fxOne : Int) + frac
          .value (decide (r < 0)) r.natAbs (-(fxBits : Int)) true
    | .sinp =>
      if m = 0 then .fixed (.fin n 0 0) noFlags
      else
        match sinPi (fxOfVal n m e) with
        | none => .fixed (.fin false 0 0) noFlags
        | some (s, r, st) => .value s r (-(fxBits : Int)) st
    | .cosp =>
      match sinPi (fxOfVal n m e + (2 ^ (fxBits - 1) : Nat)) with
      | none => .fixed (.fin false 0 0) noFlags
      | some (s, r, st) => .value s r (-(fxBits : Int)) st
    | .tanh =>
      if m = 0 then .fixed (.fin n 0 0) noFlags
      else if 5 < e + (Nat.log2 m : Int) then .value n (fxOne - 1) (-(fxBits : Int)) true
      else
        -- e^(2|v|) = 2^k * e^f
        let y := 2 * (fxOfVal false m e).toNat
        let k := y / fxLn2
        let ex := fxExp (y - k * fxLn2) * 2 ^ k
        .value n ((ex - fxOne) * fxOne / (ex + fxOne)) (-(fxBits : Int)) true

/-- A special function delivered in FP32 by RNE, with its flags: inexact is never raised, overflow marks an infinite
result of a finite exact one, underflow a result below the least normal value (R180, R181). -/
def specialF32 (fn : SpecialFn) (flushOut : Bool) (v : FVal) : Nat × Flags :=
  let env : FpEnv := { rm := .rne, flushIn := false, flushOut := flushOut, sat := false, rand := 0 }
  match specialVal fn v with
  | .fixed w fl =>
    let (c, _) := deliverVal fmtF32 { env with flushOut := false } w
    (c, fl)
  | .value n m e st =>
    let (c, fl) := deliver fmtF32 env n m e st
    let tiny := m != 0 && decide (c % 2 ^ 31 < 2 ^ 23)
    (c, (fl &&& flagOf) ||| flagIf tiny flagUf)

/-- A special function at SEW 32, or at SEW 16 by way of FP32 and one more rounding (R180). `env.rm` rounds at 16 bits. -/
def fpSpecial (f : FpFmt) (env : FpEnv) (fn : SpecialFn) (c : Nat) : Nat × Flags :=
  let v := readFp f env c
  if f.width = 32 then specialF32 fn env.flushOut v
  else
    let (c32, fl) := specialF32 fn false v
    match fmtF32.decode c32 with
    | .fin n m e =>
      let (r, fl2) := deliver f env n m e false
      let mag := r % 2 ^ 15
      let tiny := decide (mag < 2 ^ f.mbits) && (m != 0 || (fl &&& flagUf) != noFlags)
      -- beyond the largest finite value it is infinite in every mode (R181)
      let r := if (fl2 &&& flagOf) != noFlags then (if n then f.signBit else 0) + f.posInf else r
      (r, (fl &&& (flagNv ||| flagDz ||| flagOf)) ||| (fl2 &&& flagOf) ||| flagIf tiny flagUf)
    | w => ((deliverVal f { env with flushOut := false } w).1, fl)

end Sys2Proof.Machine
end

