-- ==== Sys2Proof/Machine/Flags.lean ====
section
/-! DEFINITION. The floating-point flags of an instruction: how they reach `fflags`, when they trap (R97, R105, R109, R163),
and the rounding environment of the vector instructions (R87, R161, R162). -/

namespace Sys2Proof.Machine

/-- The cause that an element's enabled flags raise: its floating flags in `tval` [4:0], its index in [47:32] (R163, R173). -/
def flagStop (fen fl : Flags) (i : Nat) : Option Stop :=
  match enabledCause fen fl with
  | some c => some (stopAt c (bits fl 0 5 + i % 65536 * 2 ^ 32))
  | none => none

/-- The dynamic rounding of a scalar instruction: `vcfg.rm`, with SR read as RNE (R87, R109). -/
def Hart.dynRm (h : Hart) : RMode := h.rm.noSr

/-- The rounding of a field coded as `FPRR`'s: 7 is dynamic (R87). -/
def Hart.roundField (h : Hart) (r : Nat) : RMode := if r = 7 then h.dynRm else RMode.ofCode r

/-- The environment of a vector floating-point instruction that rounds by `rm`: the flush of R161, no saturation. -/
def Hart.vecEnv (h : Hart) (rm : RMode) : FpEnv :=
  { rm := rm, flushIn := bit h.csr.vcfg 22, flushOut := bit h.csr.vcfg 23, sat := false, rand := 0 }

end Sys2Proof.Machine
end

