-- ==== Sys2Proof/Machine/Operands.lean ====
section
/-! DEFINITION. The operand forms of the instructions: which registers each names (R84 to R90 and the chapters of the
instructions), which are privileged, matrix instructions, lane barriers, or may stand in a block; the checks of rows 5 to 9
of R75; register pairs and partial overlap (R85, R170). Generated from the spec's tables. -/

namespace Sys2Proof.Machine

/-- The register files (R84), numbered as `tval` of 0x08 numbers them (R14). -/
inductive RClass where
  | x | v | k | z
  deriving DecidableEq, Repr

/-- The number of a register class (R14). -/
def RClass.num : RClass → Nat
  | .x => 0
  | .v => 1
  | .k => 2
  | .z => 3

/-- A register that an instruction names: its file, the field that holds its number, how many registers from there it
covers, and whether it is read or written. -/
structure Use where
  cls   : RClass
  lo    : Nat
  wid   : Nat
  base  : Nat
  span  : Nat
  read  : Bool
  write : Bool
  deriving DecidableEq, Repr

/-- The number of the register. -/
def Use.reg (u : Use) (w : BitVec 64) : Nat := u.base + bits w u.lo u.wid
/-- A source in the 5-bit field at `lo`. -/
def srcAt (c : RClass) (lo : Nat) : Use := { cls := c, lo := lo, wid := 5, base := 0, span := 1, read := true, write := false }
/-- A destination in the 5-bit field at `lo`. -/
def dstAt (c : RClass) (lo : Nat) : Use := { cls := c, lo := lo, wid := 5, base := 0, span := 1, read := false, write := true }
/-- A register both read and written. -/
def Use.rw (u : Use) : Use := { u with read := true, write := true }
/-- A group of `n` registers. -/
def Use.by (u : Use) (n : Nat) : Use := { u with span := n }
/-- A 3-bit field: a mask register. -/
def Use.mask3 (u : Use) : Use := { u with wid := 3 }
/-- A 3-bit field that names x8 to x15 (R74). -/
def Use.prime (u : Use) : Use := { u with wid := 3, base := 8 }

end Sys2Proof.Machine

namespace Sys2Proof
open Sys2Proof.Machine

/-- The registers that a row names, in the order of the fields d (or store data), a, b, e, k (log 9). -/
def Row.uses (r : Row) : List Use :=
  match r with
  | .add | .sub | .and | .or | .xor | .sll | .srl | .sra | .slt | .sltn | .min | .max | .minn | .maxn | .andn | .orn
  | .rol | .ror | .addw | .subw | .mul | .mulh | .mulhn | .mulhsn | .div | .divn | .rem | .remn | .fadd | .fsub
  | .fmul | .fdiv | .fmin | .fmax | .fsgnj | .fsgnjn | .fsgnjx | .feq | .flt | .fle | .amoswapW | .amoaddW
  | .amoandW | .amoorW | .amoxorW | .amominW | .amomaxW | .amominnW | .amomaxnW | .amoswapD | .amoaddD | .amoandD
  | .amoorD | .amoxorD | .amominD | .amomaxD | .amominnD | .amomaxnD | .waitm | .arrive | .await | .pin | .unpin
  | .qpush | .qpop | .qpeek | .qwake | .qrevoke | .qgrow | .nsub | .vsetl | .vlease | .recur => [(dstAt .x 8), (srcAt .x 13), (srcAt .x 18)]
  | .fsqrt | .fclass | .addi | .andi | .ori | .xori | .slti | .sltni | .slli | .srli | .srai | .roli | .lb | .lh
  | .lw | .ld | .lbn | .lhn | .lwn | .jalr | .csrrw | .csrrs | .csrrc | .clz | .ctz | .popc | .bswap | .sextb
  | .sexth | .sextw | .zextb | .zexth | .zextw | .qseal | .fcvtI32F32 | .fcvtN32F32 | .fcvtI64F32 | .fcvtN64F32
  | .fcvtF32I32 | .fcvtF32N32 | .fcvtF32I64 | .fcvtF32N64 | .fcvtI32F64 | .fcvtN32F64 | .fcvtI64F64 | .fcvtN64F64
  | .fcvtF64I32 | .fcvtF64N32 | .fcvtF64I64 | .fcvtF64N64 | .fcvtF32F64 | .fcvtF64F32 | .vfork | .vjoin | .mshape => [(dstAt .x 8), (srcAt .x 13)]
  | .fma | .fms | .fnma | .fnms | .cas => [(dstAt .x 8), (srcAt .x 13), (srcAt .x 18), (srcAt .x 23)]
  | .lui | .auipc | .jal | .gbar | .gbarRlx | .csrrwi | .csrrsi | .csrrci => [(dstAt .x 8)]
  | .sb | .sh | .sw | .sd | .beq | .bne | .blt | .bge | .bltn | .bgen => [(srcAt .x 8), (srcAt .x 13)]
  | .fence | .pause | .trapBrk | .tret | .halt | .wfe | .cpywait | .vcommit | .endb | .cJ => []
  | .trap | .vqsave | .vqload | .finval | .cpybt | .vfetch | .mmode => [(srcAt .x 13)]
  | .tlbinv | .cflush | .cinval | .vloop | .amerge | .sacc => [(srcAt .x 13), (srcAt .x 18)]
  | .cpy | .cpyfill => [(srcAt .x 8), (srcAt .x 13), (srcAt .x 18)]
  | .vfetchw => [(srcAt .x 13), (srcAt .k 18).mask3]
  | .vaddVV | .vsubVV | .vrsubVV | .vmulVV | .vmulhVV | .vmulhnVV | .vandVV | .vorVV | .vxorVV | .vsllVV | .vsrlVV
  | .vsraVV | .vminVV | .vmaxVV | .vminnVV | .vmaxnVV | .vsaddVV | .vssubVV | .vsaddnVV | .vssubnVV | .vdivVV
  | .vdivnVV | .vremVV | .vremnVV | .vavgVV | .vavgnVV | .vfaddVV | .vfsubVV | .vfrsubVV | .vfmulVV | .vfdivVV
  | .vfrdivVV | .vfminVV | .vfmaxVV | .vfsgnjVV | .vfsgnjnVV | .vfsgnjxVV | .vmerge | .vpermv | .vredsum | .vredmin
  | .vredmax | .vredminn | .vredmaxn | .vredand | .vredor | .vredxor | .vfsum | .vfsumo | .vfredmin | .vfredmax
  | .vwsum | .gsub | .gadd | .gdot => [(dstAt .v 8), (srcAt .v 13), (srcAt .v 18), (srcAt .k 25).mask3]
  | .vaddVX | .vsubVX | .vrsubVX | .vmulVX | .vmulhVX | .vmulhnVX | .vandVX | .vorVX | .vxorVX | .vsllVX | .vsrlVX
  | .vsraVX | .vminVX | .vmaxVX | .vminnVX | .vmaxnVX | .vsaddVX | .vssubVX | .vsaddnVX | .vssubnVX | .vdivVX
  | .vdivnVX | .vremVX | .vremnVX | .vavgVX | .vavgnVX | .vfaddVX | .vfsubVX | .vfrsubVX | .vfmulVX | .vfdivVX
  | .vfrdivVX | .vfminVX | .vfmaxVX | .vfsgnjVX | .vfsgnjnVX | .vfsgnjxVX | .vslideup | .vslidedn | .vbcast | .vbshl
  | .vbshr | .gcvt | .gscl | .gsettag | .gmorton | .gnbr => [(dstAt .v 8), (srcAt .v 13), (srcAt .x 18), (srcAt .k 25).mask3]
  | .vaddVI | .vsubVI | .vrsubVI | .vmulVI | .vmulhVI | .vmulhnVI | .vandVI | .vorVI | .vxorVI | .vsllVI | .vsrlVI
  | .vsraVI | .vminVI | .vmaxVI | .vminnVI | .vmaxnVI => [(dstAt .v 8), (srcAt .v 13), (srcAt .k 25).mask3]
  | .vmaccVV | .vnmsacVV | .vfmaVV | .vfmsVV | .vfnmaVV | .vfnmsVV => [(srcAt .v 8).rw, (srcAt .v 13), (srcAt .v 18), (srcAt .k 25).mask3]
  | .vmaccVX | .vnmsacVX | .vfmaVX | .vfmsVX | .vfnmaVX | .vfnmsVX | .vbfun => [(srcAt .v 8).rw, (srcAt .v 13), (srcAt .x 18), (srcAt .k 25).mask3]
  | .vabs | .vneg | .vpopc | .vclz | .vfsqrt | .vfrcp | .vfrsq | .vfexp2 | .vflog2 | .vfsinp | .vfcosp | .vftanh
  | .vfabs | .vfneg | .vfclass | .vffloor | .vfceil | .vfround | .vcvtI32F32 | .vcvtN32F32 | .vcvtF32I32
  | .vcvtF32N32 | .vcvtI64F64 | .vcvtN64F64 | .vcvtF64I64 | .vcvtF64N64 | .vcvtF64F32 | .vcvtF32F64 | .vcvtHF32
  | .vcvtBfF32 | .vcvtF32H | .vcvtF32Bf | .vcvtB8F32 | .vcvtF32B8 | .vcvtB8H | .vcvtHB8 | .vcvtB8Bf | .vcvtBfB8
  | .vcvtE4F32 | .vcvtF32E4 | .vcvtHE4 | .vcvtQ4F32 | .vcvtF32Q4 | .vcvtHQ4 | .vcompress | .vexpand | .vmvV | .glen
  | .gtag | .grehome => [(dstAt .v 8), (srcAt .v 18), (srcAt .k 25).mask3]
  | .vwaddVV | .vwaddnVV | .vwsubVV | .vwsubnVV | .vwmulVV | .vwmulnVV | .vilv => [(dstAt .v 8).by 2, (srcAt .v 13), (srcAt .v 18), (srcAt .k 25).mask3]
  | .vwaddVX | .vwaddnVX | .vwsubVX | .vwsubnVX | .vwmulVX | .vwmulnVX => [(dstAt .v 8).by 2, (srcAt .v 13), (srcAt .x 18), (srcAt .k 25).mask3]
  | .vwmaccVV | .vwmaccnVV => [(srcAt .v 8).rw.by 2, (srcAt .v 13), (srcAt .v 18), (srcAt .k 25).mask3]
  | .vwmaccVX | .vwmaccnVX => [(srcAt .v 8).rw.by 2, (srcAt .v 13), (srcAt .x 18), (srcAt .k 25).mask3]
  | .vnsrlVV | .vnsraVV | .vnclipVV | .vnclipnVV => [(dstAt .v 8), (srcAt .v 13).by 2, (srcAt .v 18), (srcAt .k 25).mask3]
  | .vnsrlVX | .vnsraVX | .vnclipVX | .vnclipnVX => [(dstAt .v 8), (srcAt .v 13).by 2, (srcAt .x 18), (srcAt .k 25).mask3]
  | .vcmpEqVV | .vcmpNeVV | .vcmpLtVV | .vcmpLeVV | .vcmpLtnVV | .vcmpLenVV | .vcmpGtVV | .vcmpGeVV | .vcmpFeqVV
  | .vcmpFneVV | .vcmpFltVV | .vcmpFleVV | .vcmpFgtVV | .vcmpFgeVV | .vcmpFunordVV | .vcmpFordVV => [(dstAt .k 8).mask3, (srcAt .v 13), (srcAt .v 18), (srcAt .k 25).mask3]
  | .vcmpEqVX | .vcmpNeVX | .vcmpLtVX | .vcmpLeVX | .vcmpLtnVX | .vcmpLenVX | .vcmpGtVX | .vcmpGeVX | .vcmpFeqVX
  | .vcmpFneVX | .vcmpFltVX | .vcmpFleVX | .vcmpFgtVX | .vcmpFgeVX | .vcmpFunordVX | .vcmpFordVX => [(dstAt .k 8).mask3, (srcAt .v 13), (srcAt .x 18), (srcAt .k 25).mask3]
  | .kand | .kor | .kxor | .kandn => [(dstAt .k 8).mask3, (srcAt .k 13).mask3, (srcAt .k 18).mask3, (srcAt .k 25).mask3]
  | .knot | .kmov => [(dstAt .k 8).mask3, (srcAt .k 18).mask3, (srcAt .k 25).mask3]
  | .kpop | .kfirst => [(dstAt .x 8), (srcAt .k 18).mask3, (srcAt .k 25).mask3]
  | .kiota => [(dstAt .v 8), (srcAt .k 18).mask3, (srcAt .k 25).mask3]
  | .ksetx => [(dstAt .k 8).mask3, (srcAt .x 13), (srcAt .x 18), (srcAt .k 25).mask3]
  | .vextract => [(dstAt .x 8), (srcAt .v 13), (srcAt .x 18)]
  | .vinsert => [(dstAt .v 8), (srcAt .x 13), (srcAt .x 18)]
  | .vdilv => [(dstAt .v 8).by 2, (srcAt .v 13).by 2, (srcAt .k 25).mask3]
  | .vid | .rdepth | .rnkid => [(dstAt .v 8), (srcAt .k 25).mask3]
  | .vrand | .vld => [(dstAt .v 8), (srcAt .x 13), (srcAt .k 25).mask3]
  | .vmvX => [(dstAt .v 8), (srcAt .x 18), (srcAt .k 25).mask3]
  | .vternlog => [(srcAt .v 8).rw, (srcAt .v 13), (srcAt .v 18)]
  | .vldReg => [(dstAt .v 8), (srcAt .x 13)]
  | .vlds | .vldwE4H | .vldwE4Bf | .vldwE4B8 | .vldwQ4H | .vldwQ4Bf | .vldwQ4B8 => [(dstAt .v 8), (srcAt .x 13), (srcAt .x 18), (srcAt .k 25).mask3]
  | .vldx | .vgll | .vcellfind => [(dstAt .v 8), (srcAt .x 13), (srcAt .v 18), (srcAt .k 25).mask3]
  | .vst => [(srcAt .v 8), (srcAt .x 13), (srcAt .k 25).mask3]
  | .vstReg => [(srcAt .v 8), (srcAt .x 13)]
  | .vsts => [(srcAt .v 8), (srcAt .x 13), (srcAt .x 18), (srcAt .k 25).mask3]
  | .vstx | .vacc => [(srcAt .v 8), (srcAt .x 13), (srcAt .v 18), (srcAt .k 25).mask3]
  | .vscc => [(srcAt .v 8), (srcAt .x 13), (srcAt .v 18), (srcAt .k 25).rw.mask3]
  | .gpack => [(dstAt .v 8), (srcAt .v 13).by 3, (srcAt .v 18), (srcAt .k 25).mask3]
  | .gunpack => [(dstAt .v 8).by 3, (srcAt .v 18), (srcAt .k 25).mask3]
  | .vcellins => [(srcAt .v 8).rw, (srcAt .x 13), (srcAt .v 18), (srcAt .k 25).mask3]
  | .rspawn | .rret => [(srcAt .v 13), (srcAt .k 25).mask3]
  | .rkids => [(dstAt .v 8).by 2, (srcAt .x 18), (srcAt .k 25).mask3]
  | .mzero => [(dstAt .z 8)]
  | .mrowv | .mcolv => [(dstAt .v 8), (srcAt .z 13), (srcAt .x 18), (srcAt .k 25).mask3]
  | .mvrow | .mvcol => [(dstAt .z 8), (srcAt .v 13), (srcAt .x 18), (srcAt .k 25).mask3]
  | .mdrain => [(srcAt .z 8), (srcAt .x 13), (srcAt .x 18)]
  | .mload => [(dstAt .z 8), (srcAt .x 13), (srcAt .x 18)]
  | .opacc | .opsub | .opaccw => [(srcAt .z 8).rw, (srcAt .v 13), (srcAt .v 18), (srcAt .x 32), (srcAt .x 37), (srcAt .k 42).mask3, (srcAt .k 45).mask3]
  | .cAddi => [(srcAt .x 6).rw]
  | .cMv => [(dstAt .x 6), (srcAt .x 11)]
  | .cAdd | .cSub => [(srcAt .x 6).rw, (srcAt .x 11)]
  | .cLd | .cLw => [(dstAt .x 6).prime, (srcAt .x 9).prime]
  | .cSd | .cSw => [(srcAt .x 9).prime, (srcAt .x 6).prime]
  | .cBeqz | .cBnez => [(srcAt .x 6).prime]
  | .cVfetch => [(srcAt .x 6)]

/-- The instructions marked g: groom and farrier mode only (R86). -/
def Row.isGroom (r : Row) : Bool :=
  match r with
  | .tret | .tlbinv | .vqsave | .vqload | .qseal | .qrevoke | .qgrow => true
  | _ => false

/-- The matrix instructions (R202). -/
def Row.isMatrix (r : Row) : Bool :=
  match r with
  | .mmode | .mshape | .mzero | .mrowv | .mvrow | .mcolv | .mvcol | .mdrain | .mload | .opacc | .opsub | .opaccw => true
  | _ => false

/-- The lane barriers (R131, R185, R202, R277). -/
def Row.isBarrier (r : Row) : Bool :=
  match r with
  | .vsetl | .vfork | .vfetchw | .vloop | .vcommit | .mmode | .mshape | .kiota | .vcompress | .vexpand | .vslideup
  | .vslidedn | .vpermv | .vbcast | .vilv | .vdilv | .vredsum | .vredmin | .vredmax | .vredminn | .vredmaxn
  | .vredand | .vredor | .vredxor | .vfsum | .vfsumo | .vfredmin | .vfredmax | .vwsum | .vbshl | .vbshr | .vbfun
  | .recur | .mzero | .mrowv | .mvrow | .mcolv | .mvcol | .mdrain | .mload | .opacc | .opsub | .opaccw => true
  | _ => false

/-- The entries that must find `vstart` 0 when they start (R135, R184, R202, R277, R337). -/
def Row.startsAtZero (r : Row) : Bool :=
  match r with
  | .vfetchw | .vloop | .mmode | .mshape | .kpop | .kfirst | .kiota | .vcompress | .vexpand | .vslideup | .vslidedn
  | .vpermv | .vbcast | .vextract | .vilv | .vdilv | .vredsum | .vredmin | .vredmax | .vredminn | .vredmaxn
  | .vredand | .vredor | .vredxor | .vfsum | .vfsumo | .vfredmin | .vfredmax | .vwsum | .vbshl | .vbshr | .vbfun
  | .recur | .mzero | .mrowv | .mvrow | .mcolv | .mvcol | .mdrain | .mload | .amerge | .sacc | .opacc | .opsub
  | .opaccw => true
  | _ => false

/-- The instructions that may stand in a block (R136). -/
def Row.inBlock (r : Row) : Bool :=
  match r with
  | .vaddVV | .vaddVX | .vaddVI | .vsubVV | .vsubVX | .vsubVI | .vrsubVV | .vrsubVX | .vrsubVI | .vmulVV | .vmulVX
  | .vmulVI | .vmulhVV | .vmulhVX | .vmulhVI | .vmulhnVV | .vmulhnVX | .vmulhnVI | .vandVV | .vandVX | .vandVI
  | .vorVV | .vorVX | .vorVI | .vxorVV | .vxorVX | .vxorVI | .vsllVV | .vsllVX | .vsllVI | .vsrlVV | .vsrlVX
  | .vsrlVI | .vsraVV | .vsraVX | .vsraVI | .vminVV | .vminVX | .vminVI | .vmaxVV | .vmaxVX | .vmaxVI | .vminnVV
  | .vminnVX | .vminnVI | .vmaxnVV | .vmaxnVX | .vmaxnVI | .vsaddVV | .vsaddVX | .vssubVV | .vssubVX | .vsaddnVV
  | .vsaddnVX | .vssubnVV | .vssubnVX | .vdivVV | .vdivVX | .vdivnVV | .vdivnVX | .vremVV | .vremVX | .vremnVV
  | .vremnVX | .vmaccVV | .vmaccVX | .vnmsacVV | .vnmsacVX | .vavgVV | .vavgVX | .vavgnVV | .vavgnVX | .vabs | .vneg
  | .vpopc | .vclz | .vwaddVV | .vwaddVX | .vwaddnVV | .vwaddnVX | .vwsubVV | .vwsubVX | .vwsubnVV | .vwsubnVX
  | .vwmulVV | .vwmulVX | .vwmulnVV | .vwmulnVX | .vwmaccVV | .vwmaccVX | .vwmaccnVV | .vwmaccnVX | .vnsrlVV
  | .vnsrlVX | .vnsraVV | .vnsraVX | .vnclipVV | .vnclipVX | .vnclipnVV | .vnclipnVX | .vfaddVV | .vfaddVX
  | .vfsubVV | .vfsubVX | .vfrsubVV | .vfrsubVX | .vfmulVV | .vfmulVX | .vfdivVV | .vfdivVX | .vfrdivVV | .vfrdivVX
  | .vfminVV | .vfminVX | .vfmaxVV | .vfmaxVX | .vfsgnjVV | .vfsgnjVX | .vfsgnjnVV | .vfsgnjnVX | .vfsgnjxVV
  | .vfsgnjxVX | .vfmaVV | .vfmaVX | .vfmsVV | .vfmsVX | .vfnmaVV | .vfnmaVX | .vfnmsVV | .vfnmsVX | .vfsqrt
  | .vfrcp | .vfrsq | .vfexp2 | .vflog2 | .vfsinp | .vfcosp | .vftanh | .vfabs | .vfneg | .vfclass | .vffloor
  | .vfceil | .vfround | .vcvtI32F32 | .vcvtN32F32 | .vcvtF32I32 | .vcvtF32N32 | .vcvtI64F64 | .vcvtN64F64
  | .vcvtF64I64 | .vcvtF64N64 | .vcvtF64F32 | .vcvtF32F64 | .vcvtHF32 | .vcvtBfF32 | .vcvtF32H | .vcvtF32Bf
  | .vcvtB8F32 | .vcvtF32B8 | .vcvtB8H | .vcvtHB8 | .vcvtB8Bf | .vcvtBfB8 | .vcvtE4F32 | .vcvtF32E4 | .vcvtHE4
  | .vcvtQ4F32 | .vcvtF32Q4 | .vcvtHQ4 | .vcmpEqVV | .vcmpEqVX | .vcmpNeVV | .vcmpNeVX | .vcmpLtVV | .vcmpLtVX
  | .vcmpLeVV | .vcmpLeVX | .vcmpLtnVV | .vcmpLtnVX | .vcmpLenVV | .vcmpLenVX | .vcmpGtVV | .vcmpGtVX | .vcmpGeVV
  | .vcmpGeVX | .vcmpFeqVV | .vcmpFeqVX | .vcmpFneVV | .vcmpFneVX | .vcmpFltVV | .vcmpFltVX | .vcmpFleVV
  | .vcmpFleVX | .vcmpFgtVV | .vcmpFgtVX | .vcmpFgeVV | .vcmpFgeVX | .vcmpFunordVV | .vcmpFunordVX | .vcmpFordVV
  | .vcmpFordVX | .kand | .kor | .kxor | .kandn | .knot | .kmov | .vmerge | .vid | .vrand | .vld | .vldx | .vst
  | .vstx | .vacc | .gsub | .gadd | .glen | .gtag | .gpack | .gunpack | .grehome | .gdot | .gcvt | .gscl | .gsettag
  | .gmorton | .gnbr | .vcellins | .vcellfind | .rspawn | .rret | .rkids | .rdepth | .rnkid => true
  | _ => false

/-- The instruction may stand in a block: a row that R136 names, and of a load or store not its ordered form `.o`. -/
def Row.blockForm (r : Row) (w : BitVec 64) : Bool :=
  r.inBlock && !((r == .vld || r == .vldx || r == .vst || r == .vstx) && bit w 24)

/-- The rows that enter the vector queue (R125): class V, the tile forms and `c.vfetch`. -/
def Row.isVec (r : Row) (w : BitVec 64) : Bool := decide (2 ≤ bits w 0 2) || r == .cVfetch


end Sys2Proof

namespace Sys2Proof.Machine

/-- The length in bytes of the instruction whose bits are `w` (R66). -/
def lenOf (w : BitVec 64) : Nat := lengthOf (w.extractLsb' 0 16)

/-! ## Declared registers and barriers (R14) -/

/-- Whether a job declares register `n` of a class; x0 and k0 need no declaration (R14). -/
def Job.declares (j : Job) (c : RClass) (n : Nat) : Bool :=
  match c with
  | .x => n == 0 || bit j.xdecl n
  | .v => bit j.vdecl n
  | .k => n == 0 || bit j.kdecl n
  | .z => bit j.zdecl n

/-- The first register among `n`, `n + 1`, … that a job does not declare. -/
def Job.missing (j : Job) (c : RClass) (n : Nat) : Nat → Option Nat
  | 0 => none
  | k + 1 => if n < 32 && !j.declares c n then some (c.num * 32 + n) else j.missing c (n + 1) k

/-- The first undeclared register of a list of uses, as `tval` of 0x08 gives it. -/
def Job.firstMissing (j : Job) (w : BitVec 64) : List Use → Option Nat
  | [] => none
  | u :: us =>
    match j.missing u.cls (u.reg w) u.span with
    | some t => some t
    | none => j.firstMissing w us

/-- The undeclared register of an instruction; `RECUR` uses v22 to v31 and k7 too (R14, R268). A hart that runs no job
(a groom core) is bound by no declaration (log 9). -/
def State.undeclared (s : State) (r : Row) (w : BitVec 64) : Option Nat :=
  match s.job with
  | none => none
  | some j =>
    match j.firstMissing w r.uses with
    | some t => some t
    | none =>
      if r = .recur then
        match j.missing .v 22 10 with
        | some t => some t
        | none => j.missing .k 7 1
      else none

/-- The undeclared barrier of `ARRIVE`, `AWAIT` (R307, R308) or `GBAR` (R310); while the register that names it waits for a
queue entry, so does the check (R126). -/
def State.badBarrier (s : State) (r : Row) (w : BitVec 64) : Option Nat :=
  let n := match s.job with | some j => j.nbar | none => 64
  match r with
  | .arrive | .await =>
    let b := bits (s.hart.getX (w.extractLsb' 18 5)) 16 6
    let pending := anyBy (fun e : QEntry => (e.state != 0 || e.ret.isSome) && e.dest == some (w.extractLsb' 18 5)) s.hart.queue
    if (b = 0 ∨ n ≤ b) ∧ !pending then some b else none
  | .gbar | .gbarRlx => if s.job = none ∨ n = 0 then some 0 else none
  | _ => none

/-! ## Register pairs and partial overlap (R85, R170, R184, R194, R226, R251, R276) -/

/-- A cause 0x0A: destination and source numbers (R170). -/
def overlapStop (d src : Nat) : Stop := stopAt 0x0A (d * 256 + src)

/-- Whether one of the `n` registers from `a` is one of the `m` from `b`. -/
def meets (a n b m : Nat) : Bool := decide (a < b + m ∧ b < a + n)

/-- The first of the checks that finds something. -/
def firstStop : List (Bool × Stop) → Option Stop
  | [] => none
  | (b, c) :: cs => if b then some c else firstStop cs

end Sys2Proof.Machine

namespace Sys2Proof
open Sys2Proof.Machine

/-- What an instruction's register pairs and overlaps raise at decode (R85); of several, the order is log 125. -/
def Row.pairStop (r : Row) (w : BitVec 64) : Option Stop :=
  let d := bits w 8 5
  let a := bits w 13 5
  let b := bits w 18 5
  let odd (n : Nat) : Bool × Stop := (n % 2 == 1, stopAt 0x09 n)
  let ovl (s : Nat) (c : Bool) : Bool × Stop := (c, overlapStop d s)
  match r with
  | .vwaddVV | .vwaddnVV | .vwsubVV | .vwsubnVV | .vwmulVV | .vwmulnVV | .vwmaccVV | .vwmaccnVV => firstStop [odd d, ovl a (meets d 2 a 1), ovl b (meets d 2 b 1)]
  | .vwaddVX | .vwaddnVX | .vwsubVX | .vwsubnVX | .vwmulVX | .vwmulnVX | .vwmaccVX | .vwmaccnVX => firstStop [odd d, ovl a (meets d 2 a 1)]
  | .vnsrlVV | .vnsrlVX | .vnsraVV | .vnsraVX | .vnclipVV | .vnclipVX | .vnclipnVV | .vnclipnVX => firstStop [odd a, ovl a (meets d 1 a 2)]
  | .vilv => firstStop [odd d, ovl a (meets d 2 a 1), ovl b (meets d 2 b 1)]
  | .vdilv => firstStop [odd d, odd a]
  | .vldx | .vgll => firstStop [ovl b (d == b)]
  | .glen | .gtag => firstStop [ovl b (d == b)]
  | .gdot => firstStop [ovl a (d == a), ovl b (d == b)]
  | .gpack => firstStop [(decide (29 < a), stopAt 0x09 a), ovl d (meets d 1 a 3), ovl b (d == b)]
  | .gunpack => firstStop [(decide (29 < d), stopAt 0x09 d), ovl b (meets d 3 b 1)]
  | .gmorton => firstStop [ovl a (d == a)]
  | .rkids => firstStop [(d == 31, stopAt 0x09 d)]
  | _ => none

end Sys2Proof

namespace Sys2Proof.Machine

/-! ## The checks of decode (R75 rows 3 and 5 to 9) -/

/-- A cause whose `tval` is the instruction bits. -/
def bitsStop (cause : Nat) (w : BitVec 64) : Stop := { cause := cause, tval := w }

/-! ## Who may access a control register (R91, R92) -/

/-- The CSRs that only groom mode may read (R91). -/
def csrReadGroom (n : Nat) : Bool := decide (1 ≤ n ∧ n ≤ 7) || n == 0x50

/-- The CSRs that rider mode may write (R91). -/
def csrWriteRider (n : Nat) : Bool :=
  decide (0x10 ≤ n ∧ n ≤ 0x13) || n == 0x16 || n == 0x17 || n == 0x1A || n == 0x1B || n == 0x32 || n == 0x33

/-- The CSR that a row accesses, whether it reads it, and whether it writes it (R92, R116). -/
def csrAccess (r : Row) (w : BitVec 64) : Option (Nat × Bool × Bool) :=
  let n := bits w 21 11
  let d := bits w 8 5 != 0
  let a := bits w 13 5 != 0
  match r with
  | .csrrw | .csrrwi => some (n, d, true)
  | .csrrs | .csrrc | .csrrsi | .csrrci => some (n, true, a)
  | _ => none

/-- The causes of R92 that depend on the mode and on `status`. -/
def Hart.csrStop (h : Hart) (n : Nat) (reads writes : Bool) (w : BitVec 64) : Option Stop :=
  if h.mode ≠ 0 then none
  else if (reads && csrReadGroom n) || (writes && !csrWriteRider n) then some (bitsStop 0x04 w)
  else if decide (0x10 ≤ n ∧ n ≤ 0x13) && h.vs == 0 then some (bitsStop 0x60 w)
  else if (n == 0x18 || n == 0x19) && h.ms == 0 then some (bitsStop 0x61 w)
  else none

/-- What the mode and the state that is off refuse: a CSR access (R92), and row 6 of R75; a groom core has no matrix array and
always raises 0x61 (R35, R202). -/
def State.offStop (s : State) (r : Row) (w : BitVec 64) : Option Stop :=
  if !r.isVec w then
    match csrAccess r w with
    | some (n, reads, writes) => s.hart.csrStop n reads writes w
    | none => none
  else if r.isMatrix && s.hart.isGroom then some (bitsStop 0x61 w)
  else if s.hart.vs = 0 then some (bitsStop 0x60 w)
  else if r.isMatrix && s.hart.ms == 0 then some (bitsStop 0x61 w)
  else none

/-- Row 5 of R75 in a mode: privileged instructions. -/
def privStop (mode : Nat) (r : Row) (w : BitVec 64) : Option Stop :=
  if r.isGroom && mode == 0 then some (bitsStop 0x04 w)
  else if r = .vternlog ∧ mode ≠ 2 then some (bitsStop 0x07 w)
  else none

/-- Rows 8 and 9 of R75, and the checks of register pairs and overlap that follow them. -/
def State.namesStop (s : State) (r : Row) (w : BitVec 64) : Option Stop :=
  match s.undeclared r w with
  | some t => some (stopAt 0x08 t)
  | none =>
    match s.badBarrier r w with
    | some b => some (stopAt 0x0F b)
    | none => r.pairStop w

/-- What the decode of an instruction of the control thread raises beyond rows 1 to 4 of R75. -/
def State.decodeStop (s : State) (r : Row) (w : BitVec 64) : Option Stop :=
  if r = .endb then some (bitsStop 0x01 w)
  else
    match privStop s.hart.mode r w with
    | some c => some c
    | none =>
      match s.offStop r w with
      | some c => some c
      | none => s.namesStop r w

/-- What the decode of an instruction of a block raises beyond rows 1 to 4 of R75 (R75, R136). -/
def State.blockStop (s : State) (r : Row) (w : BitVec 64) : Option Stop :=
  match privStop s.hart.mode r w with
  | some c => some c
  | none =>
    match s.offStop r w with
    | some c => some c
    | none => if !r.blockForm w then some (bitsStop 0x05 w) else s.namesStop r w

/-! ## Captured operands (R125, R351) -/

end Sys2Proof.Machine

namespace Sys2Proof
open Sys2Proof.Machine

/-- The x registers whose values an entry captures as `opa` and `opb`: the fields [17:13] and [22:18], or xA and xB of a tile
form (R351). -/
def Row.captures (r : Row) (w : BitVec 64) : Option Reg × Option Reg :=
  let pick (lo : Nat) : Option Reg :=
    match findBy (fun u : Use => u.cls == .x && u.lo == lo && u.read) r.uses with
    | some u => some (BitVec.ofNat 5 (u.reg w))
    | none => none
  match r with
  | .opacc | .opsub | .opaccw => (pick 32, pick 37)
  | .cVfetch => (pick 6, none)
  | _ => (pick 13, pick 18)

/-- The x register that an instruction writes. -/
def Row.xDest (r : Row) (w : BitVec 64) : Option Reg :=
  match findBy (fun u : Use => u.cls == .x && u.write) r.uses with
  | some u => some (BitVec.ofNat 5 (u.reg w))
  | none => none

/-- The x registers that an instruction names. -/
def Row.xNames (r : Row) (w : BitVec 64) : List Reg :=
  (r.uses.filter (fun u => u.cls == .x)).map (fun u => BitVec.ofNat 5 (u.reg w))

end Sys2Proof
end

