-- ==== Sys2Proof/Machine/Fetch.lean ====
section
/-! DEFINITION. Fetching instructions and blocks (R66, R67, R75, R136). -/

namespace Sys2Proof.Machine

/-- The instruction bits of R75: those of the instruction that starts at bit 0. -/
def instrBits (w : BitVec 64) : BitVec 64 :=
  if lenOf w = 2 then (w.extractLsb' 0 16).setWidth 64 else if lenOf w = 4 then (w.extractLsb' 0 32).setWidth 64 else w

/-- The cause of bits that are no instruction (R75 rows 1 to 4). -/
def errorStop (e : DecodeError) (w : BitVec 64) : Stop :=
  match e with
  | .zero => { cause := 0x03, tval := 0#64 }
  | .opcode => { cause := 0x00, tval := instrBits w }
  | .function => { cause := 0x01, tval := instrBits w }
  | .reserved => { cause := 0x02, tval := instrBits w }

/-- The stop of bits that are no instruction, fetched by the control thread: an `ENDB` there is a row-3 cause of R75 whatever its
blank fields hold (R149). -/
def controlStop (e : DecodeError) (w : BitVec 64) : Stop :=
  if bits w 0 8 = 0x02 ∧ bits w 23 9 = 8 then { cause := 0x01, tval := instrBits w } else errorStop e w

/-- The halfword at a physical address in the copy of its line that the stable's instruction cache may hold. -/
def State.codeCopy (s : State) (pa : Nat) : Option Nat :=
  (findBy (fun c : Nat × Memory => c.1 == pa / 128) (s.stableAt s.hart.stable).icache).map fun c => c.2.readN pa 2

/-- The line of a physical address enters the stable's instruction cache as memory holds it. -/
def State.fillCode (s : State) (pa : Nat) : State :=
  let t := s.mergeRange (pa / 128 * 128) 128
  let st := t.stableAt t.hart.stable
  let copy := t.mem.filter (fun c => c.1 / 128 == pa / 128)
  t.putStable { st with icache := (pa / 128, copy) :: dropBy (fun c : Nat × Memory => c.1 == pa / 128) st.icache }

/-- A halfword of code at a physical address, through the instruction cache, which observes no store (R67): a copy that memory has
left behind is read, or the line is fetched again; which of the two is open (log 28). -/
def State.readCode (s : State) (pa : Nat) : Nat × State :=
  match s.codeCopy pa with
  | none => ((s.physRead pa 2).1, s.fillCode pa)
  | some c =>
    if c = (s.physRead pa 2).1 then (c, s)
    else
      let t := { s with fresh := s.fresh + 1 }
      if Config.keepsCopy s.fresh then (c, t) else ((s.physRead pa 2).1, t.fillCode pa)

/-- A halfword of code at a place. -/
def State.readCodeAt (s : State) (p : Place) : Nat × State :=
  match p with
  | .phys pa _ => s.readCode pa
  | .pad _ => s.readPlace p 2

/-- `n` halfwords fetched from `a`, as one value from the lowest (R67). -/
def State.fetchHalves (s : State) (a : Nat) : Nat → Res Nat
  | 0 => .ok 0 s
  | n + 1 =>
    (s.access (a % 2 ^ 64) 2 2 .fetch false).bind fun p s =>
      let (v, s) := s.readCodeAt p
      (State.fetchHalves s (a + 2) n).bind fun r s => .ok (v + 65536 * r) s

/-- The instruction at an address: its first halfword gives its length (R66). -/
def State.fetchAt (s : State) (a : Nat) : Res (BitVec 64) :=
  (s.fetchHalves a 1).bind fun h s =>
    let n := lengthOf (BitVec.ofNat 16 h) / 2
    if n ≤ 1 then .ok (BitVec.ofNat 64 h) s
    else (s.fetchHalves (a + 2) (n - 1)).bind fun r s => .ok (BitVec.ofNat 64 (h + 65536 * r)) s

/-- An odd or non-canonical target of a control transfer or block fetch (R67, R108); of one that is both, 0x40 (log 123). -/
def badTarget (a : Word) : Option Stop :=
  if bit a 0 then some { cause := 0x40, tval := a }
  else if !canonical a.toNat then some { cause := 0x46, tval := a }
  else none

/-- The instructions of a block from `a`, at most `n` of them with `ENDB`, each checked as it is fetched (R75, R136). -/
def State.readBlockFrom (s : State) (start a : Nat) : Nat → Bool → Res (List (BitVec 32))
  | 0, _ => .stop (stopAt 0x06 start) s
  | n + 1, first =>
    (s.fetchAt a).bind fun w s =>
      match decodeRow w with
      | .error e => .stop (errorStop e w) s
      | .ok r =>
        if r = .endb then
          if s.hart.vs = 0 then .stop (bitsStop 0x60 w) s
          else if first then .stop (stopAt 0x06 start) s
          else .ok [] s
        else
          match s.blockStop r w with
          | some c => .stop c s
          | none =>
            (State.readBlockFrom s start (a + lenOf w) n false).bind fun l s => .ok (w.extractLsb' 0 32 :: l) s

/-- The block at an address, without its `ENDB`. -/
def State.readBlock (s : State) (a : Word) : Res (List (BitVec 32)) :=
  match badTarget a with
  | some c => .stop c s
  | none => s.readBlockFrom a.toNat a.toNat 32 true

end Sys2Proof.Machine
end

