-- ==== Sys2Proof/Machine/VecOps.lean ====
section
/-! DEFINITION. The common loops of the vector instructions (R168): active elements, destinations of one or more registers,
operand forms, and the result of an entry's work. -/

namespace Sys2Proof.Machine

/-- The elements an entry works on: index (the VP index in a block, R137) and position in the registers. -/
abbrev Elems := List (Nat × Nat)

/-- What an entry's work comes to: it completes; it stops at an element with a cause, the elements below performed; or
it waits at an element. -/
inductive Eff where
  | done (s : State)
  | fault (i : Nat) (c : Stop) (s : State)
  | wait (i : Nat) (s : State)

/-- What follows work that completes. -/
def Eff.andThen (e : Eff) (f : State → Eff) : Eff :=
  match e with
  | .done s => f s
  | .fault i c s => .fault i c s
  | .wait i s => .wait i s

/-- The length that counts elements: `vl`, or L in matrix mode (R204). -/
def Hart.count (h : Hart) : Nat := if h.mOn then min h.shMvl (h.vlmax / h.width) else h.vl

/-- E: the elements of a register (R191). -/
def Hart.perReg (h : Hart) : Nat := h.vlmax / h.width

/-- The elements whose mask bit is 1 (R132). -/
def Hart.actives (h : Hart) (k : KReg) (els : Elems) : Elems := els.filter (fun p => h.mask k p.2)

/-- The elements [`lo`, `hi`) of an entry outside a block. -/
def rangeElems (lo hi : Nat) : Elems := (countFrom lo (hi - lo)).map (fun i => (i, i))

/-- Bits of a v register that an instruction reads or writes for one of its elements: the element, the register, the first bit
and how many. -/
structure Span where
  i   : Nat
  reg : Nat
  lo  : Nat
  len : Nat
  deriving DecidableEq, Repr

/-- The bits meet a failing word of a v register (R215). -/
def Span.meets (p : Span) (b : BadWord) : Bool :=
  !b.tile && b.reg == p.reg && decide (p.lo < 32 * b.elem + 32 ∧ 32 * b.elem < p.lo + p.len)

/-! ## Fields of an entry's words (R70, R71) -/

/-- The field [12:8]. -/
def QEntry.fd (e : QEntry) : Reg := e.words.extractLsb' 8 5
/-- The field [17:13]. -/
def QEntry.fa (e : QEntry) : Reg := e.words.extractLsb' 13 5
/-- The field [22:18]. -/
def QEntry.fb (e : QEntry) : Reg := e.words.extractLsb' 18 5
/-- The mask field [27:25]. -/
def QEntry.fk (e : QEntry) : KReg := e.words.extractLsb' 25 3
/-- The mask register in [10:8]. -/
def QEntry.kd (e : QEntry) : KReg := e.words.extractLsb' 8 3
/-- The mask register in [15:13]. -/
def QEntry.ka (e : QEntry) : KReg := e.words.extractLsb' 13 3
/-- The mask register in [20:18]. -/
def QEntry.kb (e : QEntry) : KReg := e.words.extractLsb' 18 3

/-! ## Destinations -/

/-- The registers that an instruction writes, up to three in a row, and which of them it has written. -/
structure Dst where
  r0 : VReg
  r1 : VReg
  r2 : VReg
  w0 : Bool
  w1 : Bool
  w2 : Bool

/-- The registers from `d` on, as they stand. -/
def Hart.dst (h : Hart) (d : Reg) : Dst :=
  { r0 := h.getV d, r1 := h.getV (d + 1#5), r2 := h.getV (d + 2#5), w0 := false, w1 := false, w2 := false }

/-- Element `p` of width `w` written, where each register holds `per` of them (R174). -/
def Dst.put (t : Dst) (per w p v : Nat) : Dst :=
  let e := BitVec.ofNat w v
  if p < per then { t with r0 := setElem t.r0 w p e, w0 := true }
  else if p < 2 * per then { t with r1 := setElem t.r1 w (p - per) e, w1 := true }
  else { t with r2 := setElem t.r2 w (p - 2 * per) e, w2 := true }

/-- The written registers put back. -/
def Hart.putDst (h : Hart) (d : Reg) (t : Dst) : Hart :=
  let h := if t.w0 then h.setV d t.r0 else h
  let h := if t.w1 then h.setV (d + 1#5) t.r1 else h
  if t.w2 then h.setV (d + 2#5) t.r2 else h

/-- Element `p` of width `w` of a register, as a number. -/
def Hart.el (h : Hart) (r : Reg) (w p : Nat) : Nat := (elem (h.getV r) w p).toNat

/-- Element `p` of width `w` of the group of registers from `r`, each holding `per` of them (R174). -/
def Hart.elGroup (h : Hart) (r : Reg) (per w p : Nat) : Nat :=
  (elem (h.getV (r + BitVec.ofNat 5 (p / per))) w (p % per)).toNat

/-! ## The loop of R168 -/

/-- Writes f of each element in turn, ORing flags; stops before the first element that raises an enabled flag, whose flags are
ORed too (R163, R173). -/
def mapElems (per w : Nat) (fen : Flags) (f : Nat → Nat → Nat × Flags) : Elems → Dst → Flags → Dst × Flags × Option (Nat × Stop)
  | [], t, fl => (t, fl, none)
  | (i, p) :: es, t, fl =>
    let (v, g) := f i p
    match flagStop fen g i with
    | some c => (t, fl ||| g, some (i, c))
    | none => mapElems per w fen f es (t.put per w p v) (fl ||| g)

/-- The loop of R168 for a destination of `per` elements of width `w` a register, starting from `els`, masked by `k`. -/
def State.vmap (s : State) (d : Reg) (k : KReg) (per w : Nat) (els : Elems) (f : Nat → Nat → Nat × Flags) : Eff :=
  let h := s.hart
  let (t, fl, tr) := mapElems per w h.fen f (h.actives k els) (h.dst d) noFlags
  let s := s.onHart (fun h => (h.putDst d t).orFlags fl)
  match tr with
  | none => .done s
  | some (i, c) => .fault i c s

/-- Mask bits written in turn, with the flags and traps of `mapElems`. -/
def mapBits (fen : Flags) (f : Nat → Nat → Bool × Flags) : Elems → KMask → Flags → KMask × Flags × Option (Nat × Stop)
  | [], m, fl => (m, fl, none)
  | (i, p) :: es, m, fl =>
    let (b, g) := f i p
    match flagStop fen g i with
    | some c => (m, fl ||| g, some (i, c))
    | none => mapBits fen f es (setBit m p b) (fl ||| g)

/-- The loop of R168 for a mask destination (R183, R186): kd 0 discards the result (R70), and nothing active writes nothing. -/
def State.kmap (s : State) (kd k : KReg) (els : Elems) (f : Nat → Nat → Bool × Flags) : Eff :=
  let h := s.hart
  let act := h.actives k els
  let (m, fl, tr) := mapBits h.fen f act (h.getK kd) noFlags
  let wrote := match tr, act with
    | none, a => !a.isEmpty
    | some (i, _), a => decide ((a.head?.map Prod.fst) ≠ some i)
  let s := s.onHart (fun h => (if wrote then h.setK kd m else h).orFlags fl)
  match tr with
  | none => .done s
  | some (i, c) => .fault i c s

/-! ## Causes at an instruction's start -/

/-- A cause raised at the start of an entry, before any element: `vstart` stays (R134). -/
def State.startFault (s : State) (c : Stop) : Eff := .fault s.hart.vstart c s

/-- A SEW that the instruction does not accept raises 0x0C at its start (R169). The rules give it no `tval` (log 10). -/
def State.needSew (s : State) (ok : Bool) (k : Eff) : Eff := if ok then k else s.startFault (s.openStop 0x0C)

/-- An instruction that must start at element 0 raises 0x0D when `vstart` is not 0 (R184, R202). -/
def State.needZero (s : State) (k : Eff) : Eff := if s.hart.vstart = 0 then k else s.startFault (s.openStop 0x0D)

/-! ## Operand forms (R168) -/

/-- Where opB comes from: v[vs2], xs2, imm5 sign-extended, imm5 unsigned. -/
inductive BForm where
  | v | x | i | iu
  deriving DecidableEq, Repr

/-- opB at position `p`, `w` bits wide (R168). -/
def Hart.opB (h : Hart) (e : QEntry) (b : BForm) (w p : Nat) : Nat :=
  match b with
  | .v => h.el e.fb w p
  | .x => e.opb.toNat % 2 ^ w
  | .i => (sextNat 5 (bits e.words 18 5) % 2 ^ w).toNat
  | .iu => bits e.words 18 5

/-- The value modulo 2^n. -/
def wrapTo (n : Nat) (i : Int) : Nat := (i % 2 ^ n).toNat

/-- The value clamped to [lo, hi]. -/
def clampTo (lo hi i : Int) : Int := if i < lo then lo else if hi < i then hi else i

end Sys2Proof.Machine
end

