-- ==== Sys2Proof/Machine/Footprint.lean ====
section
/-! DEFINITION. What the entries of the vector queue may do to memory: their footprints (R102), as scalar accesses, engine
transfers and fences ask for them. -/

namespace Sys2Proof.Machine

/-! ## Footprints of queue entries (R102) -/

/-- What an entry may do to memory: whether it may read, whether it may write, and the range; none is the whole address
space. -/
structure Footprint where
  reads  : Bool
  writes : Bool
  range  : Option Range

/-- Nothing in memory. -/
def Footprint.none' : Footprint := { reads := false, writes := false, range := some { lo := 0, len := 0 } }

/-- The whole address space. -/
def Footprint.all (reads writes : Bool) : Footprint := { reads := reads, writes := writes, range := none }

/-- The bytes of a unit-stride or strided entry below `n` elements of `b` bytes (R102); where the addresses wrap at 2^64 (R226), the whole
address space. -/
def strideRange (base : Nat) (stride : Int) (n b : Nat) : Option Range :=
  if n = 0 then some { lo := base, len := 0 }
  else
    let last : Int := stride * ((n : Int) - 1)
    let lo : Int := (base : Int) + min 0 last
    let len := last.natAbs + b
    if lo < 0 ∨ 2 ^ 64 < lo + len then none else some { lo := lo.toNat, len := len }

/-- Whether a row reads memory, and whether it writes it. -/
def rowMem (r : Row) : Bool × Bool :=
  match r with
  | .vld | .vlds | .vldx | .vldReg | .vldwE4H | .vldwE4Bf | .vldwE4B8 | .vldwQ4H | .vldwQ4Bf | .vldwQ4B8 | .vgll | .mload
  | .vcellfind | .gsub | .gadd | .gdot | .gcvt | .grehome | .gmorton | .gscl => (true, false)
  | .vst | .vsts | .vstx | .vstReg | .mdrain => (false, true)
  | .vscc | .vacc | .sacc | .amerge | .vcellins | .recur => (true, true)
  | _ => (false, false)

/-- What the words of a block do to memory. -/
def blockMem (ws : List (BitVec 32)) : Bool × Bool :=
  ws.foldl (fun acc w =>
    match decodeRow (w.setWidth 64) with
    | .error _ => acc
    | .ok r => (acc.1 || (rowMem r).1, acc.2 || (rowMem r).2)) (false, false)

/-- An entry that may change how many elements a younger entry works on, or their width. -/
def QEntry.resizes (e : QEntry) : Bool := e.state != 0 && (e.row == .vsetl || e.row == .mmode || e.row == .mshape)

/-- The footprint of an entry (R102, R204). `known` says that no older entry has still to set the elements that it works on;
else it counts the elements that any such setting could reach: those of 64 Ki bits, of up to 16 bytes (R94). -/
def Hart.footprint (h : Hart) (known : Bool) (e : QEntry) : Footprint :=
  let b := h.width / 8
  let base := e.opa.toNat
  let unit := if known then strideRange base b h.count b else strideRange base 1 8192 1
  let strided := if known then strideRange base e.opb.toInt h.count b else strideRange base e.opb.toInt 8192 16
  if e.state = 0 then .none'
  else
    match e.row with
    | .vld => { reads := true, writes := false, range := unit }
    | .vst => { reads := false, writes := true, range := unit }
    | .vlds => { reads := true, writes := false, range := strided }
    | .vsts => { reads := false, writes := true, range := strided }
    | .vfetch | .cVfetch | .vfetchw | .vloop =>
      if e.block.isEmpty then .all true true else let m := blockMem e.block; .all m.1 m.2
    | r => let m := rowMem r; if m = (false, false) then .none' else .all m.1 m.2

/-- The footprints of the entries of the queue, from the oldest. -/
def Hart.footprintsFrom (h : Hart) : Bool → List QEntry → List Footprint
  | _, [] => []
  | known, e :: es => h.footprint known e :: Hart.footprintsFrom h (known && !e.resizes) es

/-- The footprints of the hart's queue. -/
def Hart.footprints (h : Hart) : List Footprint := h.footprintsFrom true h.queue

/-- A footprint that a later access of [a, a + n) waits for: that of any access that may meet a byte of it, for a hart accesses each byte in
program order, reads among them (R102, R288, R290, R292). -/
def Footprint.holds (f : Footprint) (a n : Nat) : Bool :=
  (f.writes || f.reads) && (match f.range with | none => true | some r => r.meets a n)

/-- A scalar access of [a, a + n) waits for an older queue entry or engine transfer of the hart (R102, R237); not for a transfer that
waits for a replay (log 97). -/
def Hart.memHeld (h : Hart) (a n : Nat) : Bool := h.footprints.any (fun f => f.holds a n) || h.bridle.any (fun t => !t.held && t.holds a n)

/-- What an entry does to memory: whether it may read, whether it may write. -/
def QEntry.mem (e : QEntry) : Bool × Bool :=
  if e.state = 0 then (false, false)
  else
    match e.row with
    | .vfetch | .cVfetch | .vfetchw | .vloop => if e.block.isEmpty then (true, true) else blockMem e.block
    | r => rowMem r

end Sys2Proof.Machine
end

