-- ==== Sys2Proof/Machine/Seal.lean ====
section
/-! DEFINITION. Queue capabilities and their seals (R17 to R20): the fields, KMAC128 as NIST SP 800-185 defines it, and the
checks of a presented capability. -/

namespace Sys2Proof.Machine

/-! ## KMAC128 (R18) -/

/-- A lane of the Keccak state, 5 x 5 lanes in the order x + 5 y. -/
def lane (a : List Word) (i : Nat) : Word := (nth a i).getD 0#64

/-- The rotation amounts of the Keccak step rho, in the order x + 5 y. -/
def rhoOffsets : List Nat :=
  [0, 1, 62, 28, 27, 36, 44, 6, 55, 20, 3, 10, 43, 25, 39, 41, 45, 15, 21, 8, 18, 2, 61, 56, 14]

/-- The round constants of Keccak-f[1600]. -/
def keccakRounds : List Word :=
  [0x0000000000000001#64, 0x0000000000008082#64, 0x800000000000808A#64, 0x8000000080008000#64, 0x000000000000808B#64,
   0x0000000080000001#64, 0x8000000080008081#64, 0x8000000000008009#64, 0x000000000000008A#64, 0x0000000000000088#64,
   0x0000000080008009#64, 0x000000008000000A#64, 0x000000008000808B#64, 0x800000000000008B#64, 0x8000000000008089#64,
   0x8000000000008003#64, 0x8000000000008002#64, 0x8000000000000080#64, 0x000000000000800A#64, 0x800000008000000A#64,
   0x8000000080008081#64, 0x8000000000008080#64, 0x0000000080000001#64, 0x8000000080008008#64]

/-- One round: theta, rho and pi, chi, iota. -/
def keccakRound (a : List Word) (rc : Word) : List Word :=
  let c := (countFrom 0 5).map (fun x => lane a x ^^^ lane a (x + 5) ^^^ lane a (x + 10) ^^^ lane a (x + 15) ^^^ lane a (x + 20))
  let d := (countFrom 0 5).map (fun x => lane c ((x + 4) % 5) ^^^ (lane c ((x + 1) % 5)).rotateLeft 1)
  let t := (countFrom 0 25).map (fun i => (lane a i ^^^ lane d (i % 5)).rotateLeft ((nth rhoOffsets i).getD 0))
  let b := (countFrom 0 25).map (fun i => lane t ((i % 5 + 3 * (i / 5)) % 5 + 5 * (i % 5)))
  let e := (countFrom 0 25).map (fun i =>
    lane b i ^^^ (~~~ (lane b ((i + 1) % 5 + i / 5 * 5)) &&& lane b ((i + 2) % 5 + i / 5 * 5)))
  match e with
  | [] => []
  | h :: r => (h ^^^ rc) :: r

/-- Keccak-f[1600]. -/
def keccakF (a : List Word) : List Word := keccakRounds.foldl keccakRound a

/-- The state after a block of 168 bytes (rate 1,344) has been absorbed. -/
def absorb (a : List Word) (block : List Byte) : List Word :=
  keccakF ((countFrom 0 25).map (fun i => lane a i ^^^ BitVec.ofNat 64 (ofBytes ((block.drop (8 * i)).take 8))))

/-- The encodings left_encode and right_encode of lengths below 65,536. -/
def leftEncode (n : Nat) : List Byte :=
  if n < 256 then [1#8, BitVec.ofNat 8 n] else [2#8, BitVec.ofNat 8 (n / 256), BitVec.ofNat 8 n]

/-- See `leftEncode`. -/
def rightEncode (n : Nat) : List Byte :=
  if n < 256 then [BitVec.ofNat 8 n, 1#8] else [BitVec.ofNat 8 (n / 256), BitVec.ofNat 8 n, 2#8]

/-- encode_string. -/
def encodeString (m : List Byte) : List Byte := leftEncode (8 * m.length) ++ m

/-- Bytes filled up with zeros to 168. -/
def fillBlock (m : List Byte) : List Byte := m ++ List.replicate (168 - m.length) 0#8

/-- The 1,600 bits that KMAC128 squeezes for a key, a message that with its length fits one block, an output length in bits
and a customisation string. -/
def kmac128 (key msg : List Byte) (outBits : Nat) (cust : List Byte) : List Word :=
  let b0 := fillBlock (leftEncode 168 ++ encodeString [0x4B#8, 0x4D#8, 0x41#8, 0x43#8] ++ encodeString cust)
  let b1 := fillBlock (leftEncode 168 ++ encodeString key)
  let m := msg ++ rightEncode outBits ++ [0x04#8]
  let last := (m ++ List.replicate (167 - m.length) 0#8) ++ [0x80#8]
  absorb (absorb (absorb (List.replicate 25 0#64) b0) b1) last

/-- The seal of a capability's first 24 bytes under a seal key (R18): the customisation string is ZSKQCAP, the first output
byte the low byte. -/
def sealOf (key : BitVec 256) (d0 d1 d2 : Word) : Word :=
  lane (kmac128 (toBytes 32 key.toNat) (toBytes 8 d0.toNat ++ toBytes 8 d1.toNat ++ toBytes 8 d2.toNat) 64
    [0x5A#8, 0x53#8, 0x4B#8, 0x51#8, 0x43#8, 0x41#8, 0x50#8]) 0

/-! ## Capabilities (R17) -/

/-- The fields of a capability's four doublewords. -/
def capOf (d0 d1 d2 d3 : Word) : Cap :=
  { tag := d3, zero2 := d2 == 0#64 && bits d1 14 2 == 0, gen := bits d1 48 16, owner := bits d1 24 24,
    type := bits d1 20 4, ncons := bits d1 16 4, rights := d1.extractLsb' 8 6, lgsize := bits d1 0 8,
    lgslots := bits d0 56 8, base := bits d0 0 56 }

/-- The rights of a capability, as bits of `rights`. -/
inductive Right where
  | push | pop | wake | grow | admin | host
  deriving DecidableEq, Repr

/-- The bit of a right (R17). -/
def Right.bitNo : Right → Nat
  | .push => 0
  | .pop => 1
  | .wake => 2
  | .grow => 3
  | .admin => 4
  | .host => 5

/-- Whether a capability holds a right. -/
def Cap.has (c : Cap) (r : Right) : Bool := c.rights.getLsbD r.bitNo

/-- The least `lgsize` of a type (R24). -/
def minLgsize (type : Nat) : Nat := if type = 1 then 6 else if type = 2 then 5 else 4

/-- Check 1 of R20 without the seal. -/
def Cap.formOk (c : Cap) : Bool :=
  c.zero2 && c.base % 128 == 0 && decide (c.type ≤ 2) && decide (1 ≤ c.ncons ∧ c.ncons ≤ 8) &&
  decide (minLgsize c.type ≤ c.lgsize ∧ c.lgsize ≤ 12) && decide (1 ≤ c.lgslots ∧ c.lgslots ≤ 24)

/-- A context's generation floor (R19). -/
def State.floorOf (s : State) (ctx : Nat) : Nat :=
  match findBy (fun p : Nat × Nat => p.1 == ctx) s.floors with
  | some p => p.2
  | none => 0

/-- The first check of R20 that fails, for a capability with its four doublewords and the rights an operation needs. -/
def State.capFails (s : State) (d0 d1 d2 d3 : Word) (need : List Right) : Option Nat :=
  let c := capOf d0 d1 d2 d3
  if !(c.formOk && c.tag == sealOf (Config.sealKey s.epoch) d0 d1 d2) then some 0xA5
  else if c.gen < s.floorOf c.owner then some 0xA8
  else if need.all c.has then none
  else some 0xA6

end Sys2Proof.Machine
end

