-- ==== Sys2Proof/Machine/Rings.lean ====
section
/-! DEFINITION. Rings (R22 to R28): claims, pops, wakes and growth, through the page table of the owner (R17, R119). -/

namespace Sys2Proof.Machine

/-! ## Contexts (R38) -/

/-- The address of a context's entry in a die's context table, if the table is in use, holds the id and lies in device
memory (R38). -/
def State.ctxEntry (s : State) (die ctx : Nat) : Option Nat :=
  let w := BitVec.ofNat 64 ((s.dieAt die).pad.readN 552 8)
  let pa := bits w 12 40 * 4096 + 128 * ctx
  if bit w 0 && decide (ctx < 2 ^ bits w 7 5) && decide (pa + 128 ≤ deviceTop) then some pa else none

/-- `n` bytes of a context entry at `pa`; none where they cannot be read, which a class 3 record says (R365). -/
def State.entryRead (s : State) (die ctx pa n : Nat) : Option Nat × State :=
  match s.dataFault pa n false with
  | some (c, cls) => (none, if cls = 0 then s else s.contain { dieRecord cls c die pa 0 with ctx := ctx })
  | none => let (v, t) := s.physRead pa n; (some v, t)

/-- The page-table root of a context whose entry is valid (R17, R38). -/
def State.ctxRoot (s : State) (die ctx : Nat) : Option Word × State :=
  match s.ctxEntry die ctx with
  | none => (none, s)
  | some pa =>
    match s.entryRead die ctx pa 16 with
    | (none, t) => (none, t)
    | (some v, t) => (if v % 2 = 1 then some (BitVec.ofNat 64 (v / 2 ^ 64)) else none, t)

/-- A unit of a die as the one who accesses, under a context (R34): rider rights, faults serviced in place. Its translations
are held by the die's own TLB, numbered 300 + die. -/
def unitWho (die ctx : Nat) (root : Word) : Who :=
  { unit := true, die := die, stable := 300 + die, ctx := ctx, pgroot := root, rider := true, service := true, pad := false }

/-- The one who accesses a ring for `w`: under the owner's page table, with rider rights (R17, R119). -/
def Who.under (w : Who) (ctx : Nat) (root : Word) : Who := { w with ctx := ctx, pgroot := root, rider := true, pad := false }

/-! ## The ring's words -/

/-- An access of the control thread to [a, a + n) waits for what the hart has under way there (R102, R237). Addresses count as the
hart's ranges name them, whichever context a ring is of (log 100). -/
def State.holdsBack (s : State) (w : Who) (a n : Nat) : Bool := !w.unit && !w.engine && s.hart.memHeld a n

/-- A doubleword read by a unit, an engine, or the control thread once nothing holds it back. -/
def State.ringRd (s : State) (w : Who) (a : Nat) : Res Nat :=
  if s.holdsBack w (a % 2 ^ 64) 8 then .wait s else s.loadAs w (a % 2 ^ 64) 8 8

/-- A doubleword written by a unit, an engine, or the control thread once nothing holds it back. -/
def State.ringWr (s : State) (w : Who) (a v : Nat) : Res Unit :=
  if s.holdsBack w (a % 2 ^ 64) 8 then .wait s else s.storeAs w (a % 2 ^ 64) 8 8 v

/-- Doublewords read in turn. -/
def State.loadWords (s : State) (w : Who) (a : Nat) : Nat → Res (List Nat)
  | 0 => .ok [] s
  | n + 1 =>
    (s.ringRd w a).bind fun v s => (State.loadWords s w (a + 8) n).bind fun r s => .ok (v :: r) s

/-- Doublewords written in turn. -/
def State.storeWords (s : State) (w : Who) (a : Nat) : List Nat → Res Unit
  | [] => .ok () s
  | v :: vs => (s.ringWr w a v).bind fun _ s => State.storeWords s w (a + 8) vs

/-- The die whose agents receive a ring's events, from the physical address of its header (R23); for a header in a peer
window, the die that performs the action (log 13). -/
def homeOf (pa issuer : Nat) : Nat :=
  match targetOf pa with
  | .device d => d
  | .host p => 3 * p
  | _ => issuer

/-- An action on a ring begins with a read of its header's line (R23), whose home it finds. An owner without a valid context
entry stops it there: the fault is not offered (R17). -/
def State.ringOpen (s : State) (w : Who) (c : Cap) : Res (Who × Nat) :=
  match s.ctxRoot w.die c.owner with
  | (none, t) => .stop (stopAt 0x41 c.base) t
  | (some root, t) =>
    let v := w.under c.owner root
    if t.holdsBack v c.base 8 then .wait t
    else (t.accessAs v c.base 128 128 .load).bind fun p t =>
      match p with
      | .phys pa _ => .ok (v, homeOf pa w.die) t
      | .pad _ => .stop (stopAt 0x47 c.base) t

/-- The least of the first `n` cursors (R25). -/
def State.minCursor (s : State) (w : Who) (base : Nat) : Nat → Res Nat
  | 0 => .ok (2 ^ 64 - 1) s
  | n + 1 =>
    (s.ringRd w (base + 0x10 + 8 * n)).bind fun c s =>
      (State.minCursor s w base n).bind fun m s => .ok (min c m) s

/-- The slots of a segment (R22). -/
def Cap.lap (c : Cap) : Nat := 2 ^ c.lgslots

/-- The address of the slot of position `p` in a segment whose lap starts at `first` (R23). -/
def Cap.slot (c : Cap) (seg first p : Nat) : Nat := seg + 0x80 + (p - first) * 2 ^ c.lgsize

/-- The segment whose lap holds a position, with its `first`, along the chain of `n` segments (R23). Where growth has cut a lap short,
the position may lie in two: it is in the one whose lap starts last, and of two that start at one position in the one linked last, which
stands behind the other in the chain and which producers fill (R28). -/
def State.segmentOf (s : State) (w : Who) (c : Cap) (p : Nat) : Nat → Nat → Res (Option (Nat × Nat))
  | 0, _ => .ok none s
  | n + 1, seg =>
    (s.ringRd w (seg + 0x50)).bind fun first s =>
    (s.ringRd w (seg + 0x58)).bind fun next s =>
    (State.segmentOf s w c p n next).bind fun other s =>
      let here := if first ≤ p ∧ p < first + c.lap then some (seg, first) else none
      match here, other with
      | some a, some b => .ok (some (if b.2 < a.2 then a else b)) s
      | some a, none => .ok (some a) s
      | none, o => .ok o s

/-- The slot that holds a position (R23). -/
def State.slotOf (s : State) (w : Who) (c : Cap) (p n seg : Nat) : Res (Option Nat) :=
  (s.segmentOf w c p n seg).bind fun r s => .ok (r.map (fun a => c.slot a.1 a.2 p)) s

/-! ## Claims and pushes (R25, R120) -/

/-- A claim: the position and its slot, or none where the ring is full, with the growth notification of case 3 (R25). -/
def State.ringClaim (s : State) (w : Who) (c : Cap) (home : Nat) : Res (Option (Nat × Nat)) :=
  (s.ringRd w c.base).bind fun p s =>
  (s.ringRd w (c.base + 0x60)).bind fun pseg s =>
  (s.ringRd w (pseg + 0x50)).bind fun first s =>
  if p < first + c.lap then
    (s.ringWr w c.base (p + 1)).bind fun _ s => .ok (some (p, c.slot pseg first p)) s
  else
    (s.ringRd w (pseg + 0x58)).bind fun n s =>
    (s.minCursor w c.base c.ncons).bind fun m s =>
    (s.ringRd w (n + 0x50)).bind fun firstN s =>
    if firstN + c.lap ≤ m then
      (s.ringWr w (n + 0x50) p).bind fun _ s =>
      (s.ringWr w (c.base + 0x60) n).bind fun _ s =>
      (s.ringWr w c.base (p + 1)).bind fun _ s => .ok (some (p, c.slot n p p)) s
    else
      (s.ringRd w (c.base + 0x68)).bind fun g s =>
      if c.has .grow && g / 256 % 2 == 0 then
        (s.ringWr w (c.base + 0x68) (g + 256)).bind fun _ s =>
          .ok none (s.agentEvent 2 0xA4 home c.owner (BitVec.ofNat 64 c.base) 0#64)
      else .ok none s

/-- A push of a payload (R120): the claim, the payload from slot +0x08, and the sequence number last. -/
def State.ringPush (s : State) (w : Who) (c : Cap) (payload : List Nat) : Res (Option Nat) :=
  ((s.ringOpen w c).bind fun v s =>
    (s.ringClaim v.1 c v.2).bind fun r s =>
      match r with
      | none => .ok none s
      | some (p, slot) =>
        (s.storeWords v.1 (slot + 8) payload).bind fun _ s =>
          (s.ringWr v.1 slot (p + 1)).bind fun _ s => .ok (some p) s).orNothing s

/-! ## Pops (R26, R121) -/

/-- The payload that consumer `j` finds: the position, its slot and the payload, or none where the slot is not full. -/
def State.ringPeek (s : State) (w : Who) (c : Cap) (j : Nat) : Res (Option (Nat × Nat × List Nat)) :=
  (s.ringRd w (c.base + 0x10 + 8 * j)).bind fun cur s =>
  (s.ringRd w (c.base + 0x68)).bind fun g s =>
  (s.slotOf w c cur (g % 32) c.base).bind fun slot s =>
    match slot with
    | none => .ok none s
    | some a =>
      (s.ringRd w a).bind fun seq s =>
        if seq = (cur + 1) % 2 ^ 64 then
          (s.loadWords w (a + 8) (2 ^ c.lgsize / 8 - 1)).bind fun pl s => .ok (some (cur, a, pl)) s
        else .ok none s

/-- Consumer `j`'s cursor moved past the position it popped (R26). -/
def State.ringTake (s : State) (w : Who) (c : Cap) (j pos : Nat) : Res Unit := s.ringWr w (c.base + 0x10 + 8 * j) (pos + 1)

/-! ## Wakes (R27) -/

/-- Sets the event flag of every hart that watches a ring (R27, R118). -/
def State.wakeWatchers (s : State) (owner base : Nat) : State :=
  s.mapHarts (fun h => if h.watched = some (owner, base) then { h with event := true } else h)

/-- The effects of every accepted wake: the pending bit of `pbit`, the event flags (R27); a submission ring becomes known to
its walker (R30). -/
def State.wakeAccepted (s : State) (c : Cap) (home pbit : Nat) : State :=
  let s := if pbit ≤ 4093 then s.setPendingBit home pbit else s
  let s := s.wakeWatchers c.owner c.base
  if c.type = 1 then { s with rings := putBy (fun r : Nat × Cap => r.2.owner == c.owner && r.2.base == c.base) (home, c) s.rings } else s

/-- A wake with tail `t`: whether it is accepted; a refused one raises 0xA7 to the groom core of the home die (R27). -/
def State.ringWake (s : State) (w : Who) (c : Cap) (t : Nat) : Res Bool :=
  ((s.ringOpen w c).bind fun v s =>
    (s.ringRd v.1 (c.base + 8)).bind fun tail s =>
    (s.ringRd v.1 (c.base + 0x68)).bind fun g s =>
    let pbit := g / 65536 % 65536
    if t ≤ tail then .ok true (s.wakeAccepted c v.2 pbit)
    else
      (s.minCursor v.1 c.base c.ncons).bind fun m s =>
      if m + g % 32 * c.lap < t then .ok false (s.toGroom v.2 (stopAt 0xA7 c.base))
      else (s.ringWr v.1 (c.base + 8) t).bind fun _ s => .ok true (s.wakeAccepted c v.2 pbit)).orNothing s

/-! ## Growth (R28) -/

/-- Links a segment at `g`; the segment count afterwards (R28, R124). -/
def State.ringGrow (s : State) (w : Who) (c : Cap) (g : Nat) : Res Nat :=
  ((s.ringOpen w c).bind fun v s =>
    let w := v.1
    (s.ringRd w (c.base + 0x68)).bind fun f s =>
    let n := f % 32
    let cleared := f - f / 256 % 2 * 256
    if 16 ≤ n then (s.ringWr w (c.base + 0x68) cleared).bind fun _ s => .ok n s
    else
      (s.ringRd w c.base).bind fun claim s =>
      (s.ringRd w (c.base + 0x60)).bind fun pseg s =>
      (s.ringRd w (pseg + 0x58)).bind fun next s =>
      (s.ringWr w (g + 0x50) claim).bind fun _ s =>
      (s.ringWr w (g + 0x58) next).bind fun _ s =>
      (s.ringWr w (pseg + 0x58) g).bind fun _ s =>
      (s.ringWr w (c.base + 0x60) g).bind fun _ s =>
      (s.ringWr w (c.base + 0x68) (cleared + 1)).bind fun _ s => .ok (n + 1) s).orNothing s

/-- The four doublewords of the capability at an address, read as a load (R119). -/
def State.readCap (s : State) (w : Who) (a : Word) : Res (Word × Word × Word × Word) :=
  if !canonical a.toNat then .stop (stopAt 0x46 a.toNat) s
  else if a.toNat % 32 ≠ 0 then .stop (stopAt 0x40 a.toNat) s
  else
    (s.loadWords w a.toNat 4).bind fun l s =>
      match l with
      | [a, b, c, d] => .ok (BitVec.ofNat 64 a, BitVec.ofNat 64 b, BitVec.ofNat 64 c, BitVec.ofNat 64 d) s
      | _ => .ok (0#64, 0#64, 0#64, 0#64) s

/-- The capability that is presented, checked by R20 for the rights an operation needs; a failed check stops it with the
capability's address. -/
def State.presentCap (s : State) (w : Who) (a : Word) (need : List Right) : Res Cap :=
  (s.readCap w a).bind fun q s =>
    match s.capFails q.1 q.2.1 q.2.2.1 q.2.2.2 need with
    | some c => .stop { cause := c, tval := a } s
    | none => .ok (capOf q.1 q.2.1 q.2.2.1 q.2.2.2) s

/-- A capability that must be of one type as well: any other counts as a missing right (R123, R236, R33). -/
def State.presentTyped (s : State) (w : Who) (a : Word) (need : List Right) (type : Nat) : Res Cap :=
  (s.presentCap w a need).bind fun c s => if c.type = type then .ok c s else .stop { cause := 0xA6, tval := a } s

end Sys2Proof.Machine
end

