-- ==== Sys2Proof/Machine/Engine.lean ====
section
/-! DEFINITION. Engine transfers and the bridle (R232 to R237, R213, R357): chunks, their order, and stalls on their ranges. -/

namespace Sys2Proof.Machine

/-! ## Bytes of a range -/

/-- [a, a + n) cut at 32-byte sectors: at most `fuel` pieces. -/
def pieces : Nat → Nat → Nat → List (Nat × Nat)
  | 0, _, _ => []
  | f + 1, a, n =>
    if n = 0 then []
    else
      let k := min n (32 - a % 32)
      (a, k) :: pieces f (a + k) (n - k)

/-- The pieces of [a, a + n). -/
def cut (a n : Nat) : List (Nat × Nat) := pieces (n / 32 + 2) a n

/-- Bytes read piece by piece, from the lowest. -/
def State.loadPieces (s : State) (w : Who) : List (Nat × Nat) → Res (List Byte)
  | [] => .ok [] s
  | (a, k) :: ps =>
    (s.loadAs w (a % 2 ^ 64) k 1).bind fun v s => (State.loadPieces s w ps).bind fun r s => .ok (toBytes k v ++ r) s

/-- The `n` bytes from `a`. -/
def State.loadBytes (s : State) (w : Who) (a n : Nat) : Res (List Byte) := s.loadPieces w (cut a n)

/-- Bytes written piece by piece, from the lowest. -/
def State.storePieces (s : State) (w : Who) : List (Nat × Nat) → List Byte → Res Unit
  | [], _ => .ok () s
  | (a, k) :: ps, bs =>
    (s.storeAs w (a % 2 ^ 64) k 1 (ofBytes (bs.take k))).bind fun _ s => State.storePieces s w ps (bs.drop k)

/-- Bytes written from `a`. -/
def State.storeBytes (s : State) (w : Who) (a : Nat) (bs : List Byte) : Res Unit := s.storePieces w (cut a bs.length) bs

/-- The bytes that stand where a store would go. -/
def State.peekPieces (s : State) (w : Who) : List (Nat × Nat) → Res (List Byte)
  | [] => .ok [] s
  | (a, k) :: ps =>
    (s.accessAs w (a % 2 ^ 64) k 1 .store).bind fun p s =>
      let (v, s) := s.readPlace p k
      (State.peekPieces s w ps).bind fun r s => .ok (toBytes k v ++ r) s

/-! ## One chunk (R232) -/

/-- A transfer's access to a source or a destination: only there may it reach the scratchpad window (R219). -/
def Who.data (w : Who) : Who := { w with pad := w.engine && !w.unit }

/-- Bytes that a transfer reads, as they stood before it overwrote any. -/
def State.readSource (s : State) (w : Who) (t : Transfer) (a n : Nat) : Res (List Byte) :=
  (s.loadBytes w a n).bind fun bs s =>
    if t.saved.isEmpty then .ok bs s
    else
      .ok ((countFrom 0 n).zip bs |>.map (fun q =>
        match findBy (fun c : Nat × Byte => c.1 == a + q.1) t.saved with
        | some c => c.2
        | none => q.2)) s

/-- Destination bytes written; those that are source bytes too are saved first. -/
def State.writeDest (s : State) (w : Who) (t : Transfer) (a : Nat) (bs : List Byte) : Res Transfer :=
  let w := w.data
  if t.reads.any (fun r => r.meets a bs.length) then
    (s.peekPieces w (cut a bs.length)).bind fun old s =>
      let more := ((countFrom a bs.length).zip old).filter (fun c =>
        t.reads.any (fun r => r.meets c.1 1) && !(anyBy (fun d : Nat × Byte => d.1 == c.1) t.saved))
      (s.storeBytes w a bs).bind fun _ s => .ok { t with saved := more ++ t.saved } s
  else (s.storeBytes w a bs).bind fun _ s => .ok t s

/-- The part of a chunk of a gather from byte `pos` on: `n` bytes, at most `fuel` blocks of them (R235). -/
def State.gatherBytes (s : State) (w : Who) (t : Transfer) (table lgbs pool : Nat) : Nat → Nat → Nat → Res (List Byte)
  | 0, _, _ => .ok [] s
  | f + 1, pos, n =>
    if n = 0 then .ok [] s
    else
      let j := pos / 2 ^ lgbs
      let off := pos % 2 ^ lgbs
      let k := min n (2 ^ lgbs - off)
      (s.readSource w t (table + 4 * j) 4).bind fun eb s =>
        let e := ofBytes eb
        if e / 2 ^ 28 % 8 ≠ 0 then .stop (stopAt 0x6E (table + 4 * j)) s
        else
          (s.readSource w.data t (pool + e % 2 ^ 28 * 2 ^ lgbs + off) k).bind fun bs s =>
            (State.gatherBytes s w t table lgbs pool f (pos + k) (n - k)).bind fun r s => .ok (bs ++ r) s

/-- The next chunk of a plain copy within a transfer: source, destination, length in all; none when that was the last. -/
def State.copyChunk (s : State) (w : Who) (t : Transfer) (dst src len : Nat) : Res (Option Transfer) :=
  let n := min 4096 (len - t.done)
  (s.readSource w.data t (src + t.done) n).bind fun bs s =>
    (s.writeDest w t (dst + t.done) bs).bind fun t s =>
      .ok (if t.done + n < len then some { t with done := t.done + n } else none) s

/-- The next phase of an append, or its end. -/
def Transfer.goPhase (t : Transfer) (p : Nat) : Transfer := { t with phase := p, done := 0 }

/-- A step of an append (R236). Phases: 0 steps 1 to 3, 1 the write of step 2, 2 step 4, 3 step 5, 4 step 6, 5 step 7, 6
step 8, 7 its push. A payload that is no block raises 0x6E with the pop undone (log 127). -/
def State.appendChunk (s : State) (w : Who) (t : Transfer) (desc table lgbs pool data frcap rcbase entry off len : Nat) :
    Res (Option Transfer) :=
  let ea := table + 4 * entry
  let block (n : Nat) : Nat := pool + n * 2 ^ lgbs
  let cap := BitVec.ofNat 64 frcap
  match t.phase with
  | 0 =>
    (s.loadBytes w ea 4).bind fun eb s =>
      let e := ofBytes eb
      if e / 2 ^ 28 % 8 ≠ 0 then .stop (stopAt 0x6E ea) s
      else if e / 2 ^ 31 = 0 then .ok (if len = 0 then none else some { t.goPhase 1 with old := e % 2 ^ 28 }) s
      else
        (s.presentTyped w cap [.pop] 0).bind fun c s =>
          (s.ringOpen w c).bind fun v s =>
            (s.ringPeek v.1 c 0).bind fun r s =>
              match r with
              | none => .stop (stopAt 0x6C desc) s
              | some (pos, _, pl) =>
                (s.ringTake v.1 c 0 pos).bind fun _ s =>
                  let p := pl.headD 0
                  if p / 2 ^ 28 ≠ 0 then .stop (stopAt 0x6E desc) s
                  else .ok (some { t.goPhase 2 with old := e % 2 ^ 28, new := p }) s
  | 1 => s.copyChunk w t (block t.old + off) data len
  | 2 =>
    (s.copyChunk w t (block t.new) (block t.old) (2 ^ lgbs)).bind fun r s =>
      .ok (match r with | some u => some u | none => some (t.goPhase (if len = 0 then 4 else 3))) s
  | 3 =>
    (s.copyChunk w t (block t.new + off) data len).bind fun r s =>
      .ok (match r with | some u => some u | none => some (t.goPhase 4)) s
  | 4 => (s.storeBytes w (rcbase + 2 * t.new) (toBytes 2 1)).bind fun _ s => .ok (some (t.goPhase 5)) s
  | 5 => (s.storeBytes w ea (toBytes 4 t.new)).bind fun _ s => .ok (some (t.goPhase 6)) s
  | 6 =>
    (s.loadBytes w (rcbase + 2 * t.old) 2).bind fun cb s =>
      let c := ofBytes cb
      if c = 0 then .stop (stopAt 0x6D (rcbase + 2 * t.old)) s
      else
        (s.storeBytes w (rcbase + 2 * t.old) (toBytes 2 (c - 1))).bind fun _ s =>
          .ok (if c = 1 then some (t.goPhase 7) else none) s
  | _ =>
    (s.presentTyped w cap [.push] 0).bind fun c s =>
      (s.ringPush w c (t.old :: List.replicate (2 ^ c.lgsize / 8 - 2) 0)).bind fun r s =>
        match r with
        | none => .stop (stopAt 0x6C desc) s
        | some _ => .ok none s

/-- The physical address of a cell of a drain buffer's row, where it lands in memory. -/
def State.drainCell (s : State) (w : Who) (va : Nat) : Option Nat :=
  match s.accessAs w va 4 4 .store with
  | .ok (.phys pa _) _ => some pa
  | _ => none

/-- Rows of a drain buffer written, the first of them row `m` (R213); a sector that holds a failing word is written as failing (R365). -/
def State.drainRows (s : State) (w : Who) (base stride : Nat) : Nat → List DrainRow → Res Unit
  | _, [] => .ok () s
  | m, r :: rs =>
    let a := base + m * stride
    (s.storeBytes w a r.bytes).bind fun _ s =>
      let pas := r.bad.filterMap (fun c => s.drainCell w ((a + 4 * c) % 2 ^ 64))
      State.drainRows { s with failing := pas.foldl (fun f pa => putBy (· == pa / 32) (pa / 32) f) s.failing } w base stride (m + 1) rs

/-- The lowest address of a drain buffer's failing words (R365). -/
def lowestBad (base stride : Nat) (rows : List DrainRow) : Option Nat :=
  let l := ((countFrom 0 rows.length).zip rows).flatMap (fun r => r.2.bad.map (fun c => (base + r.1 * stride + 4 * c) % 2 ^ 64))
  l.foldl (fun acc a => some (match acc with | some b => min a b | none => a)) none

/-- The next chunk of a drain: as many rows as 4 KiB hold (R213, R232). A drain that ends with a failing word has written its bytes all the
same (R365). -/
def State.drainChunk (s : State) (w : Who) (t : Transfer) (base stride : Nat) (rows : List DrainRow) : Res (Option Transfer) :=
  let per := match rows with | r :: _ => max 1 (4096 / max 1 r.bytes.length) | [] => 1
  ((s.drainRows w base stride t.done ((rows.drop t.done).take per)).orNothing s).bind fun _ s =>
    if t.done + per < rows.length then .ok (some { t with done := t.done + per }) s
    else
      match lowestBad base stride rows with
      | none => .ok none s
      | some a => .stop (stopAt 0x49 a) (s.contain (s.dataRecord w 3 0x49 ((s.drainCell w a).getD 0)))

/-- The next chunk of a transfer: it goes on, it is complete, or it ends with a cause, nothing of the chunk performed (R232). -/
def State.chunk (s : State) (w : Who) (t : Transfer) : Res (Option Transfer) :=
  match t.kind with
  | .copy dst src len => (s.copyChunk w t dst src len).orNothing s
  | .fill dst byte len =>
    let n := min 4096 (len - t.done)
    ((s.storeBytes w.data (dst + t.done) (List.replicate n byte)).bind fun _ s =>
      .ok (if t.done + n < len then some { t with done := t.done + n } else none) s).orNothing s
  | .gather table count lgbs pool data =>
    let len := count * 2 ^ lgbs
    let n := min 4096 (len - t.done)
    ((s.gatherBytes w t table lgbs pool 34 t.done n).bind fun bs s =>
      (s.writeDest w t (data + t.done) bs).bind fun t s =>
        .ok (if t.done + n < len then some { t with done := t.done + n } else none) s).orNothing s
  | .append desc table lgbs pool data frcap rcbase entry off len =>
    (s.appendChunk w t desc table lgbs pool data frcap rcbase entry off len).orNothing s
  | .drain base stride rows => s.drainChunk w t base stride rows
  | .words base vals => ((s.storeAll w.data base vals).bind fun _ s => .ok none s).orNothing s

/-! ## The bridle of the hart in focus -/

/-- The hart's engine as the one who accesses, for a transfer (R232): as the hart stood when it issued it; a not-present fault of any
transfer is serviced in place (R232, R358, log 54). -/
def State.engineWho (s : State) (t : Transfer) : Who :=
  { unit := false, die := s.hart.die, stable := s.hart.stable, ctx := t.ctx, pgroot := t.pgroot, rider := t.rider,
    service := true, pad := false, engine := true }

/-- A lane access to [a, a + n) stalls on a transfer that is older than its entry (R237, R290). -/
def Hart.bars (h : Hart) (a n : Nat) : Bool := h.bridle.any (fun b => b.after == 0 && !b.held && b.holds a n)

/-- An older queue entry that a transfer has still to follow: one whose footprint meets its ranges, a `VCOMMIT`, or an access of the
far side of a release fence (R232, R148, R303). -/
def Hart.entryBefore (h : Hart) (t : Transfer) : Bool :=
  (h.queue.take t.after).any (fun e =>
    e.state != 0 && (e.row == .vcommit || (decide (e.fence < t.fence) && (e.mem.1 || e.mem.2)))) ||
  (h.footprints.take t.after).any (fun f =>
    (t.reads ++ t.writes).any (fun r => f.holds r.lo r.len))

/-- Transfer `i` of a hart may perform its next chunk: not stopped by pre-emption nor held for a replay, and no older access of the
hart that it waits for; one that waits for a replay holds back no transfer that does not (log 97). -/
def Hart.runnable (h : Hart) (i : Nat) : Bool :=
  match nth h.bridle i with
  | none => false
  | some t =>
    !t.stopped && !t.held && !((h.bridle.take i).any (fun o => !o.held && t.follows o)) && !h.entryBefore t

/-- A list without the item at an index. -/
def dropNth {α : Type} : List α → Nat → List α
  | [], _ => []
  | _ :: as, 0 => as
  | a :: as, n + 1 => a :: dropNth as n

/-- Transfer `i` leaves the bridle; the causes of younger ones have one older transfer less. -/
def Hart.without (h : Hart) (i : Nat) : Hart :=
  { h with bridle := dropNth h.bridle i, ecauses := h.ecauses.map (fun c => if i < c.before then { c with before := c.before - 1 } else c) }

/-- One chunk of transfer `i` of the hart in focus, and whether it did anything: a wait does nothing but offer its fault; an
end by a cause leaves the bridle, and the cause waits to be taken (R232, R343). -/
def State.bridleChunk (s : State) (i : Nat) : State × Bool :=
  match nth s.hart.bridle i with
  | none => (s, false)
  | some t =>
    match s.chunk (s.engineWho t) { t with started := true } with
    | .ok (some u) s => (s.onHart (fun h => { h with bridle := setNth h.bridle i u }), true)
    | .ok none s => (s.onHart (fun h => h.without i), true)
    | .stop c s => (s.onHart (fun h => (h.without i).endedBy c i t.after), true)
    | .wait s => (s, false)

/-- The first of the transfers from index `i` on that can go on performs a chunk. -/
def State.engineTry (s : State) : Nat → Nat → State
  | 0, _ => s
  | n + 1, i =>
    if s.hart.runnable i then
      let (t, did) := s.bridleChunk i
      if did then t else State.engineTry t n (i + 1)
    else State.engineTry s n (i + 1)

/-- The hart's engines perform one chunk. -/
def State.engineWork (s : State) : State := s.engineTry s.hart.bridle.length 0

/-- The hart's transfers that pre-emption stopped go on (R354, R357). -/
def State.resumeTransfers (s : State) : State :=
  s.onHart (fun h => { h with bridle := h.bridle.map (fun t => { t with stopped := false }) })

/-- A chunk towards the end of the drains of the hart in focus: of the first transfer that may go on of those that pre-emption does not
stop (R213). -/
def State.drainWork (s : State) : State :=
  let wanted (i : Nat) : Bool := s.hart.runnable i && (match nth (preempted s.hart.bridle) i with | some t => !t.stopped | none => false)
  match findBy wanted (countFrom 0 s.hart.bridle.length) with
  | some i => (s.bridleChunk i).1
  | none => s

/-- The hart's oldest entry may have to wait for a transfer that pre-emption has stopped: its bytes, a release fence, or that it is `VCOMMIT`. -/
def Hart.stoppedAhead (h : Hart) : Bool :=
  match h.queue with
  | [] => false
  | e :: _ => h.bridle.any (fun t => t.stopped && !t.held && t.after == 0 &&
      (e.row == .vcommit || decide (t.fence < e.fence) || (t.reads ++ t.writes).any (fun r => (h.footprint true e).holds r.lo r.len)))

/-- The oldest entry waits: the engines go on, and a transfer that it may have to wait for is not left stopped (log 20). -/
def State.headIdle (s : State) : State := (if s.hart.stoppedAhead then s.resumeTransfers else s).engineWork

/-- A new transfer of the hart in focus, under its context and mode, with `after` older entries in its queue and `fence` release fences
before it. -/
def State.newTransfer (s : State) (k : TransferKind) (reads writes : List Range) (after fence : Nat) : Transfer :=
  { kind := k, ctx := s.hart.ctx, pgroot := s.hart.csr.pgroot, rider := s.hart.mode == 0, scope := s.hart.scope,
    reads := reads, writes := writes, phase := 0, done := 0, old := 0, new := 0, saved := [], started := false,
    after := after, fence := fence, stopped := false, held := false, node := none }

/-- A transfer put among those of a hart in program order: before those that have more older queue entries. -/
def insertTransfer (t : Transfer) : List Transfer → List Transfer
  | [] => [t]
  | u :: us => if !u.held && decide (t.after < u.after) then t :: u :: us else u :: insertTransfer t us

/-- A bridle entry taken (R232); it stands before the causes of transfers that are younger. -/
def State.takeBridle (s : State) (t : Transfer) : State :=
  s.onHart (fun h =>
    let l := insertTransfer t h.bridle
    let i := (l.takeWhile (fun u => u != t)).length
    { h with
      bridle := l
      ecauses := h.ecauses.map (fun c => if i < c.before ∨ (i = c.before ∧ t.after < c.after) then { c with before := c.before + 1 } else c) })

end Sys2Proof.Machine
end

