-- ==== Sys2Proof/Machine/Accum.lean ====
section
/-! DEFINITION. Accumulations (R328 to R340) and the lines of an address range (R222, R340). -/

namespace Sys2Proof.Machine

/-! ## Folding (R328 to R330) -/

/-- The lowest-numbered enabled window of the hart in focus that covers an address (R98, R328). -/
def Hart.window (h : Hart) (a : Nat) : Option Nat :=
  findBy (fun n =>
    let cfg := (h.csr.awcfg.toList.drop n).headD 0#64
    let base := bits ((h.csr.awbase.toList.drop n).headD 0#64) 16 40 * 65536
    bit cfg 0 && decide (base ≤ a ∧ a < base + bits cfg 24 24 * 65536)) [0, 1, 2, 3]

/-- `awcfg` of a window. -/
def Hart.winCfg (h : Hart) (n : Nat) : Word := (h.csr.awcfg.toList.drop n).headD 0#64

/-- A target that has passed its checks: physical address, operator, scale, window. -/
structure AccTarget where
  pa     : Nat
  op     : Nat
  fscale : Byte
  win    : Nat

/-- The checks of an accumulation address in their order (R338); `w` is the element width, none for `SACC` (R339). -/
def State.accTargetAt (s : State) (w : Option Nat) (a : Nat) : Res AccTarget :=
  let who := s.hartWho false
  if !canonical a then .stop (stopAt 0x46 a) s
  else if inWindow a then .stop (stopAt 0x47 a) s
  else
    (s.pageAs who a 1 .store).bind fun p t =>
      let (pa, leaf) := p
      match s.hart.window a with
      | none => .stop (stopAt 0x48 a) t
      | some n =>
        let cfg := s.hart.winCfg n
        let op := bits cfg 4 4
        if !(bit leaf 7 && bit leaf 6 && !bit leaf 11) then .stop (stopAt 0x4F a) t
        else if w.isSome && w != some (accInput op) then .stop (stopAt 0x4E a) t
        else if a % accTarget op ≠ 0 then .stop (stopAt 0x40 a) t
        else if t.hart.bars a (accTarget op) then .wait t
        else
          (t.movedCheck who a pa).bind fun _ t =>
            .ok { pa := pa, op := op, fscale := cfg.extractLsb' 8 8, win := n } t

/-- A die's request for a line makes room in the snoop filter of the line's home: the entry evicted from a full set goes with its holders,
after the merge of a line in U (R322, R331). -/
def State.filterRoom (s : State) (die line : Nat) : State :=
  if die = homeDie line ∨ (s.homeAt line).remote then s
  else
    match s.coh.filterVictim line with
    | none => s
    | some v =>
      if !s.coh.quiet v then s
      else
        let (ok, t) := s.evictU (homeDie v) v
        if ok then { t with coh := t.coh.backInvalidated v } else t

/-- A way for a line in a cache. Where a full set holds only lines in U and lines that stay, one in U merges and leaves (R331); a set all of
whose lines stay takes in one more (log 104). -/
def State.makeWay (s : State) (cache line : Nat) : State :=
  match s.wayFor s.coh cache line with
  | some c => { s with coh := c }
  | none =>
    let set (l : Nat) : Nat := setOf cache (s.setsOf cache) l
    match victim (s.caches.filter (fun l => l.cache == cache && set l.line == set line && s.coh.quiet l.line && !s.pinnedIn cache l.line)) with
    | none => s
    | some v => (s.evictU (cacheDie cache) v.line).2

/-- The first accumulation to a line at a stable cache asks for U (R329): its directory holds it in U for that cache, its home for that
die; every copy that is not in U is recalled. A groom core is no agent of the directory. -/
def State.enterU (s : State) (die stable line op : Nat) : State :=
  let s := s.filterRoom die line
  let c := s.coh
  let h := c.homeAt line
  let c : Coherence := if h.state = .u then c else
    let d := c.give (stableCache stable) s.hart.id line
    { d with dir := listed (d.dir.map (fun e : DirEntry => if e.line = line then { e.cleared with perm := 0 } else e)) }
  let h : HomeEntry := if h.state = .u then h else { h.toI with state := .u, op := op }
  let c : Coherence := { c.putHome { h with holders := h.holders ||| holderBit die, stamp := c.uses + 1 } with uses := c.uses + 1 }
  let e : DirEntry := c.dirAt die line
  let e : DirEntry := { (if e.st = 4 then e else e.cleared) with perm := 3, op := op, st := 4 }
  let c := c.putDir (if stable < 288 then e.add (stableAgent stable) else e)
  let s := { s with coh := c }
  if stable < 288 then
    let s := (s.makeWay (l2Cache die) line).makeWay (stableCache stable) line
    { s with coh.caches := placeLine (stableCache stable) 1 .u line (placeLine (l2Cache die) 1 .s line s.caches) }
  else s

/-- The links to a line that harts other than `who` hold are cleared by a write to it (R229). -/
def State.clearLinks (s : State) (who line : Nat) : State :=
  { s with coh.links := dropBy (fun l : Link => l.line == line && l.hart != who) s.links }

/-- An input folded into the stable's partial of its line (R329, R330): the line enters U if it is not in it; a line in U
under another operator is merged first (R334), and so is one whose partial this die has given up (R333). -/
def State.fold (s : State) (g : AccFold) : State :=
  let line := g.pa / 128
  let off := g.pa % 128
  let s :=
    match findBy (fun u : ULine => u.line == line) s.ulines with
    | some u => if u.op = g.op ∧ !(u.asked.contains s.hart.die) then s else s.mergeU line
    | none => s
  let s := s.clearLinks s.hart.id line
  let new : ULine := { line := line, op := g.op, fscale := g.fscale, ctx := s.hart.ctx, win := g.win, parts := [], asked := [], got := 0 }
  let u := match findBy (fun u : ULine => u.line == line) s.ulines with | some u => if u.parts.isEmpty then new else u | none => new
  let s := if anyBy (fun p : UPart => p.stable == s.hart.stable) u.parts then s else s.enterU s.hart.die s.hart.stable line g.op
  let p := (findBy (fun p : UPart => p.stable == s.hart.stable) u.parts).getD { stable := s.hart.stable, cells := [] }
  let (x, sat) := if g.op = 12 then fixInput g.fscale (g.x % 2 ^ 32) else (g.x % 2 ^ accInput g.op, false)
  let (q, ov) := p.fold g.op off x
  let key := (s.hart.ctx, g.win)
  { s with
    ulines := putBy (fun v : ULine => v.line == line) { u with parts := insertPart q u.parts } s.ulines
    satf := if sat || (ov && g.op == 12) then putBy (fun k => k == key) key s.satf else s.satf }

/-- A merge that an operator switch needs meets a failing sector (R365). -/
def State.switchFails (s : State) (t : AccTarget) : Bool :=
  match findBy (fun u : ULine => u.line == t.pa / 128) s.ulines with
  | some u => u.op != t.op && s.failsAt (t.pa / 128 * 128) 128
  | none => false

/-- An accumulation of element `i` (R330): in a group of a block it waits for the commit (R138). -/
def State.accumulate (s : State) (i a : Nat) (t : AccTarget) (x : Nat) : Res Unit :=
  let g : AccFold := { elem := i, pa := t.pa, op := t.op, fscale := t.fscale, win := t.win, x := x }
  if s.switchFails t then .stop (stopAt 0x49 a) (s.contain (s.hartRecord 3 0x49 t.pa))
  else
    match s.hart.group with
    | some l => .ok () (s.onHart (fun h => { h with group := some (l ++ [g]) }))
    | none => .ok () (s.fold g)

/-- An accumulation put before the first of a higher element. -/
def insertFold (g : AccFold) : List AccFold → List AccFold
  | [] => [g]
  | f :: fs => if g.elem < f.elem then g :: f :: fs else f :: insertFold g fs

/-- The accumulations in ascending element order, those of one element as they came. -/
def sortFolds (l : List AccFold) : List AccFold := l.foldl (fun acc g => insertFold g acc) []

/-- The accumulations of the group that runs are folded in ascending element order (R330). -/
def State.foldGroup (s : State) : State :=
  match s.hart.group with
  | some (g :: gs) =>
    let s := s.onHart (fun h => { h with group := some [] })
    (sortFolds (g :: gs)).foldl State.fold s
  | _ => s

/-! ## The instructions -/

/-- Performs an operation on each element in turn; it stops at the first that does not succeed. -/
def State.each (f : Nat → Nat → State → Res Unit) : Elems → State → Eff
  | [], s => .done s
  | (i, p) :: es, s =>
    match f i p s with
    | .ok _ s => State.each f es s
    | .stop c s => .fault i c s
    | .wait s => .wait i s

/-- `VACC` (R338). -/
def effVacc (e : QEntry) (els : Elems) (s : State) : Eff :=
  let w := s.hart.width
  s.needSew (w == 32 || w == 64) (State.each (fun i p s =>
    let a := (e.opa.toNat + s.hart.el e.fb w p) % 2 ^ 64
    (s.accTargetAt (some w) a).bind fun t s => s.accumulate i a t (s.hart.el e.fd w p)) (s.hart.actives e.fk els) s)

/-- `SACC` (R339): one input. -/
def effSacc (e : QEntry) (_ : Elems) (s : State) : Eff :=
  s.needZero (
    let a := e.opa.toNat
    match (s.accTargetAt none a).bind fun t s => s.accumulate 0 a t (e.opb.toNat % 2 ^ accInput t.op) with
    | .ok _ s => .done s
    | .stop c s => .fault 0 c s
    | .wait s => .wait 0 s)

/-! ## Lines of a range on present pages (R222, R340) -/

/-- What the walks of a range find: the state after them, the leaves (virtual address, physical address, size), and why a table entry
could not be read (R365, R326). -/
structure Leaves where
  s    : State
  list : List (Nat × Nat × Nat)
  bad  : Option Xlat

/-- The leaves below a node whose pages meet [lo, hi); none for the scratchpad window (R340). -/
def State.leavesIn (s : State) (lo hi : Nat) : List Nat → Nat → Nat → Nat → Leaves
  | [], _, _, _ => { s := s, list := [], bad := none }
  | sh :: rest, level, node, va =>
    let i0 := if lo ≤ va then 0 else (lo - va) / 2 ^ sh
    let i1 := min 1023 ((hi - 1 - va) / 2 ^ sh)
    if hi ≤ va ∨ 1024 ≤ i0 then { s := s, list := [], bad := none }
    else
      (countFrom i0 (i1 + 1 - i0)).foldl (fun acc i =>
        let a := node + 8 * i
        if acc.bad.isSome then acc
        else
          match acc.s.entryHeld a with
          | some x => { acc with bad := some x }
          | none =>
            let (d, t) := acc.s.physRead a 8
            let e := BitVec.ofNat 64 d
            let v := va + i * 2 ^ sh
            if !bit e 0 then { acc with s := t }
            else if bit e 1 then
              if leafOk level e && !inWindow v then { acc with s := t, list := acc.list ++ [(v, pteBase e, 2 ^ leafShift level)] }
              else { acc with s := t }
            else if pointerOk level e then
              let r := State.leavesIn t lo hi rest (level + 1) (pteBase e) v
              { r with list := acc.list ++ r.list }
            else { acc with s := t }) { s := s, list := [], bad := none }

/-- The virtual address in [lo, hi) at which a line of physical memory is reached: through a translation that the TLBs hold, which go
before the tables (R225), or through a leaf of the tables. -/
def lineReached (tlb : List TlbEntry) (ctx lo hi line : Nat) (leaves : List (Nat × Nat × Nat)) : Option Nat :=
  let pl := line * 128
  let meets (q : Nat × Nat × Nat) : Option Nat :=
    let v := q.1 + (pl - q.2.1)
    if q.2.1 ≤ pl ∧ pl < q.2.1 + q.2.2 ∧ lo < v + 128 ∧ v < hi then some v else none
  let held := (tlb.filter (fun t => t.ctx == ctx)).map (fun t => let size := 2 ^ leafShift t.level; (t.vpn * size, pteBase t.leaf, size))
  match firstOf meets held with
  | some v => some v
  | none => firstOf (fun q => (meets q).bind fun v => if (tlbFind tlb ctx v).isNone then some v else none) leaves

/-- A canonical range: the address of the bound that is not canonical (R221, R222, R340); an empty range has none. -/
def badBound (lo n : Nat) : Option Nat :=
  if n = 0 then none
  else if !canonical lo then some lo
  else if !canonical (lo + n - 1) then some ((lo + n - 1) % 2 ^ 64)
  else none

/-- The lines in U that meet the virtual range on present pages, with the virtual address of each, after the walks. -/
def State.uLinesIn (s : State) (lo n : Nat) : Res (List (Nat × Nat)) :=
  if n = 0 ∨ s.ulines.isEmpty then .ok [] s
  else
    let r := s.leavesIn lo (lo + n) [46, 36, 26, 16] 0 (bits s.hart.csr.pgroot 13 39 * 8192) 0
    match r.bad with
    | some (.failed c cls a) => r.s.dataStop (s.hartWho false) lo c cls a
    | some (.moved a) => (r.s.movedCheck (s.hartWho false) lo a).bind fun _ t => .wait t
    | _ =>
      let tlb := (r.s.stableAt s.hart.stable).tlb
      .ok (r.s.ulines.filterMap (fun u => (lineReached tlb s.hart.ctx lo (lo + n) u.line r.list).map (fun v => (v, u.line)))) r.s

/-- Lines in U merged in turn, each with its virtual address; a merge that meets a failing sector does not complete and stops them (R365). -/
def State.mergeLines (s : State) : List (Nat × Nat) → Res Unit
  | [] => .ok () s
  | (v, l) :: ls =>
    match s.dataFault (l * 128) 128 true with
    | some (c, cls) => s.dataStop (s.hartWho false) v c cls (l * 128)
    | none => State.mergeLines (s.mergeU l) ls

/-- Every line in U that meets [lo, lo + n) on a present page merged, once the hart's transfers on the range are complete
(R222, R340). -/
def State.mergeVirtual (s : State) (lo n : Nat) : Res Unit :=
  match badBound lo n with
  | some a => .stop (stopAt 0x46 a) s
  | none =>
    if s.hart.bars lo n then .wait s
    else (s.uLinesIn lo n).bind fun l t => t.mergeLines l

/-- `AMERGE` (R340). -/
def effAmerge (e : QEntry) (_ : Elems) (s : State) : Eff :=
  s.needZero (
    match s.mergeVirtual e.opa.toNat e.opb.toNat with
    | .ok _ s => .done s
    | .stop c s => .fault 0 c s
    | .wait s => .wait 0 s)

end Sys2Proof.Machine
end

