-- ==== Sys2Proof/Machine/VInt.lean ====
section
/-! DEFINITION. The element-wise integer instructions (R171 to R176). -/

namespace Sys2Proof.Machine

/-! ## The functions of one element of width `w` -/

/-- a + b (R171). -/
def vAdd (w a b : Nat) : Nat := (a + b) % 2 ^ w
/-- a - b (R171). -/
def vSub (w a b : Nat) : Nat := wrapTo w ((a : Int) - (b : Int))
/-- The low half of a * b (R171). -/
def vMul (w a b : Nat) : Nat := a * b % 2 ^ w
/-- The high half of the signed product (R171). -/
def vMulh (w a b : Nat) : Nat := wrapTo w (sextNat w a * sextNat w b / 2 ^ w)
/-- The high half of the unsigned product (R171). -/
def vMulhn (w a b : Nat) : Nat := a * b / 2 ^ w
/-- a shifted left by the low log2 w bits of b (R171). -/
def vSll (w a b : Nat) : Nat := a * 2 ^ (b % w) % 2 ^ w
/-- a shifted right with zeros (R171). -/
def vSrl (w a b : Nat) : Nat := a / 2 ^ (b % w)
/-- a shifted right with copies of its sign bit (R171). -/
def vSra (w a b : Nat) : Nat := wrapTo w (sextNat w a / 2 ^ (b % w))
/-- The signed minimum (R171). -/
def vMin (w a b : Nat) : Nat := if sextNat w b < sextNat w a then b else a
/-- The signed maximum (R171). -/
def vMax (w a b : Nat) : Nat := if sextNat w a < sextNat w b then b else a
/-- A signed result clamped to w bits (R172). -/
def clampS (w : Nat) (i : Int) : Nat := wrapTo w (clampTo (-(2 ^ (w - 1))) (2 ^ (w - 1) - 1) i)
/-- An unsigned result clamped to w bits (R172). -/
def clampU (w : Nat) (i : Int) : Nat := (clampTo 0 (2 ^ w - 1) i).toNat
/-- Saturating signed a + b (R172). -/
def vSadd (w a b : Nat) : Nat := clampS w (sextNat w a + sextNat w b)
/-- Saturating signed a - b (R172). -/
def vSsub (w a b : Nat) : Nat := clampS w (sextNat w a - sextNat w b)
/-- Saturating unsigned a + b (R172). -/
def vSaddn (w a b : Nat) : Nat := clampU w ((a : Int) + (b : Int))
/-- Saturating unsigned a - b (R172). -/
def vSsubn (w a b : Nat) : Nat := clampU w ((a : Int) - (b : Int))
/-- The rounded-up signed average (R172). -/
def vAvg (w a b : Nat) : Nat := wrapTo w ((sextNat w a + sextNat w b + 1) / 2)
/-- The rounded-up unsigned average (R172). -/
def vAvgn (_ a b : Nat) : Nat := (a + b + 1) / 2
/-- The signed quotient towards zero; division by 0 gives all ones and `idz`, overflow the dividend (R150, R105). -/
def vDiv (w a b : Nat) : Nat × Flags :=
  if b = 0 then (2 ^ w - 1, flagIdz) else (wrapTo w (Int.tdiv (sextNat w a) (sextNat w b)), noFlags)
/-- The unsigned quotient (R150). -/
def vDivn (w a b : Nat) : Nat × Flags := if b = 0 then (2 ^ w - 1, flagIdz) else (a / b, noFlags)
/-- The signed remainder, with the dividend's sign; by 0 it is the dividend (R150). -/
def vRem (w a b : Nat) : Nat × Flags :=
  if b = 0 then (a, flagIdz) else (wrapTo w (Int.tmod (sextNat w a) (sextNat w b)), noFlags)
/-- The unsigned remainder (R150). -/
def vRemn (_ a b : Nat) : Nat × Flags := if b = 0 then (a, flagIdz) else (a % b, noFlags)
/-- The absolute value; the least value gives itself (R172). -/
def vAbs (w a : Nat) : Nat := (sextNat w a).natAbs
/-- The number of set bits among the low n. -/
def popCount : Nat → Nat → Nat
  | 0, _ => 0
  | n + 1, a => a % 2 + popCount n (a / 2)
/-- The zeros above the highest set bit, of w bits (R172). -/
def leadingZeros (w a : Nat) : Nat := if a = 0 then w else w - 1 - Nat.log2 a
/-- The zeros below the lowest set bit, of w bits. -/
def trailingZeros : Nat → Nat → Nat
  | 0, _ => 0
  | n + 1, a => if a % 2 = 1 then 0 else 1 + trailingZeros n (a / 2)
/-- a * 2^-s to the nearest integer, ties to even (R176). -/
def shiftRne (a : Int) (s : Nat) : Int :=
  let q := a / 2 ^ s
  let r := a % 2 ^ s
  if 2 * r < 2 ^ s then q else if 2 ^ s < 2 * r then q + 1 else if q % 2 = 0 then q else q + 1
/-- Narrowing logical shift of 2w bits (R176). -/
def vNsrl (w a s : Nat) : Nat := a / 2 ^ s % 2 ^ w
/-- Narrowing arithmetic shift (R176). -/
def vNsra (w a s : Nat) : Nat := wrapTo w (sextNat (2 * w) a / 2 ^ s)
/-- Narrowing with rounding and a signed clamp (R176). -/
def vNclip (w a s : Nat) : Nat := clampS w (shiftRne (sextNat (2 * w) a) s)
/-- Narrowing with rounding and an unsigned clamp (R176). -/
def vNclipn (w a s : Nat) : Nat := clampU w (shiftRne (a : Int) s)

/-! ## The forms -/

/-- An integer form of two sources (R168, R169, R171). -/
def State.vint (s : State) (e : QEntry) (els : Elems) (b : BForm) (f : Nat → Nat → Nat → Nat) : Eff :=
  let h := s.hart
  let w := h.width
  s.needSew (h.sew ≤ 3) (s.vmap e.fd e.fk h.perReg w els fun _ p => (f w (h.el e.fa w p) (h.opB e b w p), noFlags))

/-- A division form (R173). -/
def State.vdivide (s : State) (e : QEntry) (els : Elems) (b : BForm) (f : Nat → Nat → Nat → Nat × Flags) : Eff :=
  let h := s.hart
  let w := h.width
  s.needSew (h.sew ≤ 3) (s.vmap e.fd e.fk h.perReg w els fun _ p => f w (h.el e.fa w p) (h.opB e b w p))

/-- A form that reads vd as its accumulator (R172). -/
def State.vintAcc (s : State) (e : QEntry) (els : Elems) (b : BForm) (f : Nat → Nat → Nat → Nat → Nat) : Eff :=
  let h := s.hart
  let w := h.width
  s.needSew (h.sew ≤ 3) (s.vmap e.fd e.fk h.perReg w els fun _ p =>
    (f w (h.el e.fa w p) (h.opB e b w p) (h.el e.fd w p), noFlags))

/-- A unary form, which reads vs2 (R172). -/
def State.vunary (s : State) (e : QEntry) (els : Elems) (f : Nat → Nat → Nat) : Eff :=
  let h := s.hart
  let w := h.width
  s.needSew (h.sew ≤ 3) (s.vmap e.fd e.fk h.perReg w els fun _ p => (f w (h.el e.fb w p), noFlags))

/-- A source extended to an integer, signed or unsigned (R175). -/
def extTo (signed : Bool) (w v : Nat) : Int := if signed then sextNat w v else (v : Int)

/-- A widening form: 2w-bit results into the pair vd, from extended sources and, where it accumulates, the old pair
element (R174, R175). -/
def State.vwiden (s : State) (e : QEntry) (els : Elems) (b : BForm) (signed : Bool) (f : Int → Int → Nat → Int) : Eff :=
  let h := s.hart
  let w := h.width
  let per := h.perReg / 2
  s.needSew (h.sew ≤ 2) (s.vmap e.fd e.fk per (2 * w) els fun _ p =>
    (wrapTo (2 * w) (f (extTo signed w (h.el e.fa w p)) (extTo signed w (h.opB e b w p)) (h.elGroup e.fd per (2 * w) p)), noFlags))

/-- A narrowing form: a 2w-bit source from the pair vs1, a shift amount of log2 (2w) bits (R174, R176). -/
def State.vnarrow (s : State) (e : QEntry) (els : Elems) (b : BForm) (f : Nat → Nat → Nat → Nat) : Eff :=
  let h := s.hart
  let w := h.width
  s.needSew (h.sew ≤ 2) (s.vmap e.fd e.fk h.perReg w els fun _ p =>
    (f w (h.elGroup e.fa (h.perReg / 2) (2 * w) p) (h.opB e b w p % (2 * w)), noFlags))

/-! ## The instructions -/

/-- `VADD_VV`. -/
def effVaddVV (e : QEntry) (els : Elems) (s : State) : Eff :=
  s.vint e els .v vAdd

/-- `VADD_VX`. -/
def effVaddVX (e : QEntry) (els : Elems) (s : State) : Eff :=
  s.vint e els .x vAdd

/-- `VADD_VI`. -/
def effVaddVI (e : QEntry) (els : Elems) (s : State) : Eff :=
  s.vint e els .i vAdd

/-- `VSUB_VV`. -/
def effVsubVV (e : QEntry) (els : Elems) (s : State) : Eff :=
  s.vint e els .v vSub

/-- `VSUB_VX`. -/
def effVsubVX (e : QEntry) (els : Elems) (s : State) : Eff :=
  s.vint e els .x vSub

/-- `VSUB_VI`. -/
def effVsubVI (e : QEntry) (els : Elems) (s : State) : Eff :=
  s.vint e els .i vSub

/-- `VRSUB_VV`. -/
def effVrsubVV (e : QEntry) (els : Elems) (s : State) : Eff :=
  s.vint e els .v (fun w a b => vSub w b a)

/-- `VRSUB_VX`. -/
def effVrsubVX (e : QEntry) (els : Elems) (s : State) : Eff :=
  s.vint e els .x (fun w a b => vSub w b a)

/-- `VRSUB_VI`. -/
def effVrsubVI (e : QEntry) (els : Elems) (s : State) : Eff :=
  s.vint e els .i (fun w a b => vSub w b a)

/-- `VMUL_VV`. -/
def effVmulVV (e : QEntry) (els : Elems) (s : State) : Eff :=
  s.vint e els .v vMul

/-- `VMUL_VX`. -/
def effVmulVX (e : QEntry) (els : Elems) (s : State) : Eff :=
  s.vint e els .x vMul

/-- `VMUL_VI`. -/
def effVmulVI (e : QEntry) (els : Elems) (s : State) : Eff :=
  s.vint e els .i vMul

/-- `VMULH_VV`. -/
def effVmulhVV (e : QEntry) (els : Elems) (s : State) : Eff :=
  s.vint e els .v vMulh

/-- `VMULH_VX`. -/
def effVmulhVX (e : QEntry) (els : Elems) (s : State) : Eff :=
  s.vint e els .x vMulh

/-- `VMULH_VI`. -/
def effVmulhVI (e : QEntry) (els : Elems) (s : State) : Eff :=
  s.vint e els .i vMulh

/-- `VMULHN_VV`. -/
def effVmulhnVV (e : QEntry) (els : Elems) (s : State) : Eff :=
  s.vint e els .v vMulhn

/-- `VMULHN_VX`. -/
def effVmulhnVX (e : QEntry) (els : Elems) (s : State) : Eff :=
  s.vint e els .x vMulhn

/-- `VMULHN_VI`. -/
def effVmulhnVI (e : QEntry) (els : Elems) (s : State) : Eff :=
  s.vint e els .i vMulhn

/-- `VAND_VV`. -/
def effVandVV (e : QEntry) (els : Elems) (s : State) : Eff :=
  s.vint e els .v (fun _ a b => a &&& b)

/-- `VAND_VX`. -/
def effVandVX (e : QEntry) (els : Elems) (s : State) : Eff :=
  s.vint e els .x (fun _ a b => a &&& b)

/-- `VAND_VI`. -/
def effVandVI (e : QEntry) (els : Elems) (s : State) : Eff :=
  s.vint e els .i (fun _ a b => a &&& b)

/-- `VOR_VV`. -/
def effVorVV (e : QEntry) (els : Elems) (s : State) : Eff :=
  s.vint e els .v (fun _ a b => a ||| b)

/-- `VOR_VX`. -/
def effVorVX (e : QEntry) (els : Elems) (s : State) : Eff :=
  s.vint e els .x (fun _ a b => a ||| b)

/-- `VOR_VI`. -/
def effVorVI (e : QEntry) (els : Elems) (s : State) : Eff :=
  s.vint e els .i (fun _ a b => a ||| b)

/-- `VXOR_VV`. -/
def effVxorVV (e : QEntry) (els : Elems) (s : State) : Eff :=
  s.vint e els .v (fun _ a b => a ^^^ b)

/-- `VXOR_VX`. -/
def effVxorVX (e : QEntry) (els : Elems) (s : State) : Eff :=
  s.vint e els .x (fun _ a b => a ^^^ b)

/-- `VXOR_VI`. -/
def effVxorVI (e : QEntry) (els : Elems) (s : State) : Eff :=
  s.vint e els .i (fun _ a b => a ^^^ b)

/-- `VSLL_VV`. -/
def effVsllVV (e : QEntry) (els : Elems) (s : State) : Eff :=
  s.vint e els .v vSll

/-- `VSLL_VX`. -/
def effVsllVX (e : QEntry) (els : Elems) (s : State) : Eff :=
  s.vint e els .x vSll

/-- `VSLL_VI`. -/
def effVsllVI (e : QEntry) (els : Elems) (s : State) : Eff :=
  s.vint e els .iu vSll

/-- `VSRL_VV`. -/
def effVsrlVV (e : QEntry) (els : Elems) (s : State) : Eff :=
  s.vint e els .v vSrl

/-- `VSRL_VX`. -/
def effVsrlVX (e : QEntry) (els : Elems) (s : State) : Eff :=
  s.vint e els .x vSrl

/-- `VSRL_VI`. -/
def effVsrlVI (e : QEntry) (els : Elems) (s : State) : Eff :=
  s.vint e els .iu vSrl

/-- `VSRA_VV`. -/
def effVsraVV (e : QEntry) (els : Elems) (s : State) : Eff :=
  s.vint e els .v vSra

/-- `VSRA_VX`. -/
def effVsraVX (e : QEntry) (els : Elems) (s : State) : Eff :=
  s.vint e els .x vSra

/-- `VSRA_VI`. -/
def effVsraVI (e : QEntry) (els : Elems) (s : State) : Eff :=
  s.vint e els .iu vSra

/-- `VMIN_VV`. -/
def effVminVV (e : QEntry) (els : Elems) (s : State) : Eff :=
  s.vint e els .v vMin

/-- `VMIN_VX`. -/
def effVminVX (e : QEntry) (els : Elems) (s : State) : Eff :=
  s.vint e els .x vMin

/-- `VMIN_VI`. -/
def effVminVI (e : QEntry) (els : Elems) (s : State) : Eff :=
  s.vint e els .i vMin

/-- `VMAX_VV`. -/
def effVmaxVV (e : QEntry) (els : Elems) (s : State) : Eff :=
  s.vint e els .v vMax

/-- `VMAX_VX`. -/
def effVmaxVX (e : QEntry) (els : Elems) (s : State) : Eff :=
  s.vint e els .x vMax

/-- `VMAX_VI`. -/
def effVmaxVI (e : QEntry) (els : Elems) (s : State) : Eff :=
  s.vint e els .i vMax

/-- `VMINN_VV`. -/
def effVminnVV (e : QEntry) (els : Elems) (s : State) : Eff :=
  s.vint e els .v (fun _ a b => min a b)

/-- `VMINN_VX`. -/
def effVminnVX (e : QEntry) (els : Elems) (s : State) : Eff :=
  s.vint e els .x (fun _ a b => min a b)

/-- `VMINN_VI`. -/
def effVminnVI (e : QEntry) (els : Elems) (s : State) : Eff :=
  s.vint e els .i (fun _ a b => min a b)

/-- `VMAXN_VV`. -/
def effVmaxnVV (e : QEntry) (els : Elems) (s : State) : Eff :=
  s.vint e els .v (fun _ a b => max a b)

/-- `VMAXN_VX`. -/
def effVmaxnVX (e : QEntry) (els : Elems) (s : State) : Eff :=
  s.vint e els .x (fun _ a b => max a b)

/-- `VMAXN_VI`. -/
def effVmaxnVI (e : QEntry) (els : Elems) (s : State) : Eff :=
  s.vint e els .i (fun _ a b => max a b)

/-- `VSADD_VV`. -/
def effVsaddVV (e : QEntry) (els : Elems) (s : State) : Eff :=
  s.vint e els .v vSadd

/-- `VSADD_VX`. -/
def effVsaddVX (e : QEntry) (els : Elems) (s : State) : Eff :=
  s.vint e els .x vSadd

/-- `VSSUB_VV`. -/
def effVssubVV (e : QEntry) (els : Elems) (s : State) : Eff :=
  s.vint e els .v vSsub

/-- `VSSUB_VX`. -/
def effVssubVX (e : QEntry) (els : Elems) (s : State) : Eff :=
  s.vint e els .x vSsub

/-- `VSADDN_VV`. -/
def effVsaddnVV (e : QEntry) (els : Elems) (s : State) : Eff :=
  s.vint e els .v vSaddn

/-- `VSADDN_VX`. -/
def effVsaddnVX (e : QEntry) (els : Elems) (s : State) : Eff :=
  s.vint e els .x vSaddn

/-- `VSSUBN_VV`. -/
def effVssubnVV (e : QEntry) (els : Elems) (s : State) : Eff :=
  s.vint e els .v vSsubn

/-- `VSSUBN_VX`. -/
def effVssubnVX (e : QEntry) (els : Elems) (s : State) : Eff :=
  s.vint e els .x vSsubn

/-- `VDIV_VV`. -/
def effVdivVV (e : QEntry) (els : Elems) (s : State) : Eff :=
  s.vdivide e els .v vDiv

/-- `VDIV_VX`. -/
def effVdivVX (e : QEntry) (els : Elems) (s : State) : Eff :=
  s.vdivide e els .x vDiv

/-- `VDIVN_VV`. -/
def effVdivnVV (e : QEntry) (els : Elems) (s : State) : Eff :=
  s.vdivide e els .v vDivn

/-- `VDIVN_VX`. -/
def effVdivnVX (e : QEntry) (els : Elems) (s : State) : Eff :=
  s.vdivide e els .x vDivn

/-- `VREM_VV`. -/
def effVremVV (e : QEntry) (els : Elems) (s : State) : Eff :=
  s.vdivide e els .v vRem

/-- `VREM_VX`. -/
def effVremVX (e : QEntry) (els : Elems) (s : State) : Eff :=
  s.vdivide e els .x vRem

/-- `VREMN_VV`. -/
def effVremnVV (e : QEntry) (els : Elems) (s : State) : Eff :=
  s.vdivide e els .v vRemn

/-- `VREMN_VX`. -/
def effVremnVX (e : QEntry) (els : Elems) (s : State) : Eff :=
  s.vdivide e els .x vRemn

/-- `VMACC_VV`. -/
def effVmaccVV (e : QEntry) (els : Elems) (s : State) : Eff :=
  s.vintAcc e els .v (fun w a b c => (c + a * b) % 2 ^ w)

/-- `VMACC_VX`. -/
def effVmaccVX (e : QEntry) (els : Elems) (s : State) : Eff :=
  s.vintAcc e els .x (fun w a b c => (c + a * b) % 2 ^ w)

/-- `VNMSAC_VV`. -/
def effVnmsacVV (e : QEntry) (els : Elems) (s : State) : Eff :=
  s.vintAcc e els .v (fun w a b c => wrapTo w ((c : Int) - (a * b : Nat)))

/-- `VNMSAC_VX`. -/
def effVnmsacVX (e : QEntry) (els : Elems) (s : State) : Eff :=
  s.vintAcc e els .x (fun w a b c => wrapTo w ((c : Int) - (a * b : Nat)))

/-- `VAVG_VV`. -/
def effVavgVV (e : QEntry) (els : Elems) (s : State) : Eff :=
  s.vint e els .v vAvg

/-- `VAVG_VX`. -/
def effVavgVX (e : QEntry) (els : Elems) (s : State) : Eff :=
  s.vint e els .x vAvg

/-- `VAVGN_VV`. -/
def effVavgnVV (e : QEntry) (els : Elems) (s : State) : Eff :=
  s.vint e els .v vAvgn

/-- `VAVGN_VX`. -/
def effVavgnVX (e : QEntry) (els : Elems) (s : State) : Eff :=
  s.vint e els .x vAvgn

/-- `VABS`. -/
def effVabs (e : QEntry) (els : Elems) (s : State) : Eff :=
  s.vunary e els vAbs

/-- `VNEG`. -/
def effVneg (e : QEntry) (els : Elems) (s : State) : Eff :=
  s.vunary e els (fun w a => wrapTo w (-(a : Int)))

/-- `VPOPC`. -/
def effVpopc (e : QEntry) (els : Elems) (s : State) : Eff :=
  s.vunary e els (fun w a => popCount w a)

/-- `VCLZ`. -/
def effVclz (e : QEntry) (els : Elems) (s : State) : Eff :=
  s.vunary e els (fun w a => leadingZeros w a)

/-- `VWADD_VV`. -/
def effVwaddVV (e : QEntry) (els : Elems) (s : State) : Eff :=
  s.vwiden e els .v true (fun a b _ => a + b)

/-- `VWADD_VX`. -/
def effVwaddVX (e : QEntry) (els : Elems) (s : State) : Eff :=
  s.vwiden e els .x true (fun a b _ => a + b)

/-- `VWADDN_VV`. -/
def effVwaddnVV (e : QEntry) (els : Elems) (s : State) : Eff :=
  s.vwiden e els .v false (fun a b _ => a + b)

/-- `VWADDN_VX`. -/
def effVwaddnVX (e : QEntry) (els : Elems) (s : State) : Eff :=
  s.vwiden e els .x false (fun a b _ => a + b)

/-- `VWSUB_VV`. -/
def effVwsubVV (e : QEntry) (els : Elems) (s : State) : Eff :=
  s.vwiden e els .v true (fun a b _ => a - b)

/-- `VWSUB_VX`. -/
def effVwsubVX (e : QEntry) (els : Elems) (s : State) : Eff :=
  s.vwiden e els .x true (fun a b _ => a - b)

/-- `VWSUBN_VV`. -/
def effVwsubnVV (e : QEntry) (els : Elems) (s : State) : Eff :=
  s.vwiden e els .v false (fun a b _ => a - b)

/-- `VWSUBN_VX`. -/
def effVwsubnVX (e : QEntry) (els : Elems) (s : State) : Eff :=
  s.vwiden e els .x false (fun a b _ => a - b)

/-- `VWMUL_VV`. -/
def effVwmulVV (e : QEntry) (els : Elems) (s : State) : Eff :=
  s.vwiden e els .v true (fun a b _ => a * b)

/-- `VWMUL_VX`. -/
def effVwmulVX (e : QEntry) (els : Elems) (s : State) : Eff :=
  s.vwiden e els .x true (fun a b _ => a * b)

/-- `VWMULN_VV`. -/
def effVwmulnVV (e : QEntry) (els : Elems) (s : State) : Eff :=
  s.vwiden e els .v false (fun a b _ => a * b)

/-- `VWMULN_VX`. -/
def effVwmulnVX (e : QEntry) (els : Elems) (s : State) : Eff :=
  s.vwiden e els .x false (fun a b _ => a * b)

/-- `VWMACC_VV`. -/
def effVwmaccVV (e : QEntry) (els : Elems) (s : State) : Eff :=
  s.vwiden e els .v true (fun a b c => (c : Int) + a * b)

/-- `VWMACC_VX`. -/
def effVwmaccVX (e : QEntry) (els : Elems) (s : State) : Eff :=
  s.vwiden e els .x true (fun a b c => (c : Int) + a * b)

/-- `VWMACCN_VV`. -/
def effVwmaccnVV (e : QEntry) (els : Elems) (s : State) : Eff :=
  s.vwiden e els .v false (fun a b c => (c : Int) + a * b)

/-- `VWMACCN_VX`. -/
def effVwmaccnVX (e : QEntry) (els : Elems) (s : State) : Eff :=
  s.vwiden e els .x false (fun a b c => (c : Int) + a * b)

/-- `VNSRL_VV`. -/
def effVnsrlVV (e : QEntry) (els : Elems) (s : State) : Eff :=
  s.vnarrow e els .v vNsrl

/-- `VNSRL_VX`. -/
def effVnsrlVX (e : QEntry) (els : Elems) (s : State) : Eff :=
  s.vnarrow e els .x vNsrl

/-- `VNSRA_VV`. -/
def effVnsraVV (e : QEntry) (els : Elems) (s : State) : Eff :=
  s.vnarrow e els .v vNsra

/-- `VNSRA_VX`. -/
def effVnsraVX (e : QEntry) (els : Elems) (s : State) : Eff :=
  s.vnarrow e els .x vNsra

/-- `VNCLIP_VV`. -/
def effVnclipVV (e : QEntry) (els : Elems) (s : State) : Eff :=
  s.vnarrow e els .v vNclip

/-- `VNCLIP_VX`. -/
def effVnclipVX (e : QEntry) (els : Elems) (s : State) : Eff :=
  s.vnarrow e els .x vNclip

/-- `VNCLIPN_VV`. -/
def effVnclipnVV (e : QEntry) (els : Elems) (s : State) : Eff :=
  s.vnarrow e els .v vNclipn

/-- `VNCLIPN_VX`. -/
def effVnclipnVX (e : QEntry) (els : Elems) (s : State) : Eff :=
  s.vnarrow e els .x vNclipn

end Sys2Proof.Machine
end

