-- ==== Sys2Proof/Machine/VFloat.lean ====
section
/-! DEFINITION. The element-wise floating-point instructions, conversions and compares (R177 to R183). -/

namespace Sys2Proof.Machine

/-! ## The forms -/

/-- A floating form of two sources, rounding by `vcfg.rm` with SR read as RNE (R177). -/
def State.vfp (s : State) (e : QEntry) (els : Elems) (b : BForm) (f : FpFmt → FpEnv → Nat → Nat → Nat × Flags) : Eff :=
  let h := s.hart
  let w := h.width
  s.needSew (h.sew ≤ 3) (s.vmap e.fd e.fk h.perReg w els fun _ p =>
    f h.fmt (h.vecEnv h.dynRm) (h.el e.fa w p) (h.opB e b w p))

/-- An FMA form: the product's sign and the addend's sign are inverted as told, with one rounding (R177). -/
def State.vfma (s : State) (e : QEntry) (els : Elems) (b : BForm) (negProd negAdd : Bool) : Eff :=
  let h := s.hart
  let w := h.width
  let env := h.vecEnv h.dynRm
  let rd (c : Nat) : FVal := readFp h.fmt env c
  let sg (n : Bool) (v : FVal) : FVal := if n then v.negate else v
  s.needSew (h.sew ≤ 3) (s.vmap e.fd e.fk h.perReg w els fun _ p =>
    fpFmaV h.fmt env (sg negProd (rd (h.el e.fa w p))) (rd (h.opB e b w p)) (sg negAdd (rd (h.el e.fd w p))))

/-- The rounding of a `VFU` instruction: the override of fn4, or `vcfg.rm` with SR read as RNE (R89, R179). -/
def Hart.vfuRm (h : Hart) (e : QEntry) : RMode := if bit e.words 31 then RMode.ofCode (bits e.words 28 3) else h.dynRm

/-- A `VFU` form (R179). -/
def State.vfu (s : State) (e : QEntry) (els : Elems) (ok : Bool) (rm : RMode) (f : FpFmt → FpEnv → Nat → Nat × Flags) : Eff :=
  let h := s.hart
  let w := h.width
  s.needSew ok (s.vmap e.fd e.fk h.perReg w els fun _ p => f h.fmt (h.vecEnv rm) (h.el e.fb w p))

/-- The types that `VCVT` converts between (R90). -/
inductive CvtTy where
  | i32 | n32 | i64 | n64 | f32 | f64 | h | bf | b8 | e4 | q4
  deriving DecidableEq, Repr

/-- The width of a type in bits; binary8, E4M3 and q4 count as narrower than 16 (R90). -/
def CvtTy.width : CvtTy → Nat
  | .i32 | .n32 | .f32 => 32
  | .i64 | .n64 | .f64 => 64
  | .h | .bf => 16
  | .b8 | .e4 => 8
  | .q4 => 4

/-- The floating format of a type. -/
def Hart.cvtFmt (h : Hart) : CvtTy → Option FpFmt
  | .f32 => some fmtF32
  | .f64 => some fmtF64
  | .h => some fmtH
  | .bf => some fmtBf
  | .b8 => some h.fmtB8
  | .e4 => some fmtE4
  | .i32 | .n32 | .i64 | .n64 | .q4 => none

/-- An integer as an exact value. -/
def intVal (i : Int) : FVal := .fin (decide (i < 0)) i.natAbs 0

/-- The exact value of a source in the low bits of its slot (R182). -/
def Hart.cvtRead (h : Hart) (env : FpEnv) (t : CvtTy) (c : Nat) : FVal :=
  let raw := c % 2 ^ t.width
  match t, h.cvtFmt t with
  | _, some f => readFp f env raw
  | .q4, none => q4Val raw
  | .n32, none | .n64, none => intVal raw
  | _, none => intVal (sextNat t.width raw)

/-- The bits of the result (R182, R112, R159). -/
def Hart.cvtWrite (h : Hart) (env : FpEnv) (t : CvtTy) (v : FVal) : Nat × Flags :=
  let toInt (lo hi : Int) : Nat × Flags := let (i, fl) := fpToInt env.rm lo hi v; (wrapTo t.width i, fl)
  match t, h.cvtFmt t with
  | _, some f => deliverVal f env v
  | .q4, none => fpToQ4 env v
  | .n32, none => toInt 0 (2 ^ 32 - 1)
  | .n64, none => toInt 0 (2 ^ 64 - 1)
  | .i64, none => toInt (-(2 ^ 63)) (2 ^ 63 - 1)
  | _, none => toInt (-(2 ^ 31)) (2 ^ 31 - 1)

/-- Stochastic rounding is allowed to these destinations (R89, R152). -/
def CvtTy.srOk : CvtTy → Bool
  | .h | .bf | .b8 | .e4 => true
  | _ => false

/-- The environment of a conversion of index `i`: fn4's rounding and saturation, the random bits of R164. -/
def Hart.cvtEnv (h : Hart) (rm : RMode) (sat : Bool) (x2 : Word) (i : Nat) : FpEnv :=
  { h.vecEnv rm with sat := sat, rand := if rm = .sr then srBits h.csr.rkey (x2 + BitVec.ofNat 64 i) else 0 }

/-- `VCVT` (R182). -/
def State.vcvt (s : State) (e : QEntry) (els : Elems) (src dst : CvtTy) : Eff :=
  let h := s.hart
  let w := h.width
  let r := bits e.words 29 3
  let rm := if r = 7 then (if dst.srOk then h.rm else h.dynRm) else RMode.ofCode r
  s.needSew (w == max src.width dst.width) (s.vmap e.fd e.fk h.perReg w els fun i p =>
    let env := h.cvtEnv rm (bit e.words 28 || h.sat) e.x2 i
    h.cvtWrite env dst (h.cvtRead env src (h.el e.fb w p)))

/-- The integer conditions (R183). -/
inductive ICond where
  | eq | ne | lt | le | ltn | len | gt | ge
  deriving DecidableEq, Repr

/-- An integer condition of two elements (R183). -/
def ICond.holds (c : ICond) (w a b : Nat) : Bool :=
  let x := sextNat w a
  let y := sextNat w b
  match c with
  | .eq => a == b
  | .ne => a != b
  | .lt => decide (x < y)
  | .le => decide (x ≤ y)
  | .ltn => decide (a < b)
  | .len => decide (a ≤ b)
  | .gt => decide (y < x)
  | .ge => decide (y ≤ x)

/-- An integer compare (R183). -/
def State.vcmpInt (s : State) (e : QEntry) (els : Elems) (b : BForm) (c : ICond) : Eff :=
  let h := s.hart
  let w := h.width
  s.needSew (h.sew ≤ 3) (s.kmap e.kd e.fk els fun _ p => (c.holds w (h.el e.fa w p) (h.opB e b w p), noFlags))

/-- A floating compare (R183). -/
def State.vcmpFp (s : State) (e : QEntry) (els : Elems) (b : BForm) (c : FCond) : Eff :=
  let h := s.hart
  let w := h.width
  s.needSew (h.sew ≤ 3) (s.kmap e.kd e.fk els fun _ p =>
    fpCompare h.fmt (h.vecEnv h.dynRm) c (h.el e.fa w p) (h.opB e b w p))

/-! ## The instructions -/

/-- `VFADD_VV`. -/
def effVfaddVV (e : QEntry) (els : Elems) (s : State) : Eff :=
  s.vfp e els .v (fun f v a b => fpAddV f v (readFp f v a) (readFp f v b))

/-- `VFADD_VX`. -/
def effVfaddVX (e : QEntry) (els : Elems) (s : State) : Eff :=
  s.vfp e els .x (fun f v a b => fpAddV f v (readFp f v a) (readFp f v b))

/-- `VFSUB_VV`. -/
def effVfsubVV (e : QEntry) (els : Elems) (s : State) : Eff :=
  s.vfp e els .v (fun f v a b => fpAddV f v (readFp f v a) (readFp f v b).negate)

/-- `VFSUB_VX`. -/
def effVfsubVX (e : QEntry) (els : Elems) (s : State) : Eff :=
  s.vfp e els .x (fun f v a b => fpAddV f v (readFp f v a) (readFp f v b).negate)

/-- `VFRSUB_VV`. -/
def effVfrsubVV (e : QEntry) (els : Elems) (s : State) : Eff :=
  s.vfp e els .v (fun f v a b => fpAddV f v (readFp f v b) (readFp f v a).negate)

/-- `VFRSUB_VX`. -/
def effVfrsubVX (e : QEntry) (els : Elems) (s : State) : Eff :=
  s.vfp e els .x (fun f v a b => fpAddV f v (readFp f v b) (readFp f v a).negate)

/-- `VFMUL_VV`. -/
def effVfmulVV (e : QEntry) (els : Elems) (s : State) : Eff :=
  s.vfp e els .v (fun f v a b => fpMulV f v (readFp f v a) (readFp f v b))

/-- `VFMUL_VX`. -/
def effVfmulVX (e : QEntry) (els : Elems) (s : State) : Eff :=
  s.vfp e els .x (fun f v a b => fpMulV f v (readFp f v a) (readFp f v b))

/-- `VFDIV_VV`. -/
def effVfdivVV (e : QEntry) (els : Elems) (s : State) : Eff :=
  s.vfp e els .v (fun f v a b => fpDivV f v (readFp f v a) (readFp f v b))

/-- `VFDIV_VX`. -/
def effVfdivVX (e : QEntry) (els : Elems) (s : State) : Eff :=
  s.vfp e els .x (fun f v a b => fpDivV f v (readFp f v a) (readFp f v b))

/-- `VFRDIV_VV`. -/
def effVfrdivVV (e : QEntry) (els : Elems) (s : State) : Eff :=
  s.vfp e els .v (fun f v a b => fpDivV f v (readFp f v b) (readFp f v a))

/-- `VFRDIV_VX`. -/
def effVfrdivVX (e : QEntry) (els : Elems) (s : State) : Eff :=
  s.vfp e els .x (fun f v a b => fpDivV f v (readFp f v b) (readFp f v a))

/-- `VFMIN_VV`. -/
def effVfminVV (e : QEntry) (els : Elems) (s : State) : Eff :=
  s.vfp e els .v (fun f v a b => fpMinMaxV f v false (readFp f v a) (readFp f v b))

/-- `VFMIN_VX`. -/
def effVfminVX (e : QEntry) (els : Elems) (s : State) : Eff :=
  s.vfp e els .x (fun f v a b => fpMinMaxV f v false (readFp f v a) (readFp f v b))

/-- `VFMAX_VV`. -/
def effVfmaxVV (e : QEntry) (els : Elems) (s : State) : Eff :=
  s.vfp e els .v (fun f v a b => fpMinMaxV f v true (readFp f v a) (readFp f v b))

/-- `VFMAX_VX`. -/
def effVfmaxVX (e : QEntry) (els : Elems) (s : State) : Eff :=
  s.vfp e els .x (fun f v a b => fpMinMaxV f v true (readFp f v a) (readFp f v b))

/-- `VFSGNJ_VV`. -/
def effVfsgnjVV (e : QEntry) (els : Elems) (s : State) : Eff :=
  s.vfp e els .v (fun f _ a b => (fpSgnj f .same a b, noFlags))

/-- `VFSGNJ_VX`. -/
def effVfsgnjVX (e : QEntry) (els : Elems) (s : State) : Eff :=
  s.vfp e els .x (fun f _ a b => (fpSgnj f .same a b, noFlags))

/-- `VFSGNJN_VV`. -/
def effVfsgnjnVV (e : QEntry) (els : Elems) (s : State) : Eff :=
  s.vfp e els .v (fun f _ a b => (fpSgnj f .inv a b, noFlags))

/-- `VFSGNJN_VX`. -/
def effVfsgnjnVX (e : QEntry) (els : Elems) (s : State) : Eff :=
  s.vfp e els .x (fun f _ a b => (fpSgnj f .inv a b, noFlags))

/-- `VFSGNJX_VV`. -/
def effVfsgnjxVV (e : QEntry) (els : Elems) (s : State) : Eff :=
  s.vfp e els .v (fun f _ a b => (fpSgnj f .xor a b, noFlags))

/-- `VFSGNJX_VX`. -/
def effVfsgnjxVX (e : QEntry) (els : Elems) (s : State) : Eff :=
  s.vfp e els .x (fun f _ a b => (fpSgnj f .xor a b, noFlags))

/-- `VFMA_VV`. -/
def effVfmaVV (e : QEntry) (els : Elems) (s : State) : Eff :=
  s.vfma e els .v false false

/-- `VFMA_VX`. -/
def effVfmaVX (e : QEntry) (els : Elems) (s : State) : Eff :=
  s.vfma e els .x false false

/-- `VFMS_VV`. -/
def effVfmsVV (e : QEntry) (els : Elems) (s : State) : Eff :=
  s.vfma e els .v false true

/-- `VFMS_VX`. -/
def effVfmsVX (e : QEntry) (els : Elems) (s : State) : Eff :=
  s.vfma e els .x false true

/-- `VFNMA_VV`. -/
def effVfnmaVV (e : QEntry) (els : Elems) (s : State) : Eff :=
  s.vfma e els .v true true

/-- `VFNMA_VX`. -/
def effVfnmaVX (e : QEntry) (els : Elems) (s : State) : Eff :=
  s.vfma e els .x true true

/-- `VFNMS_VV`. -/
def effVfnmsVV (e : QEntry) (els : Elems) (s : State) : Eff :=
  s.vfma e els .v true false

/-- `VFNMS_VX`. -/
def effVfnmsVX (e : QEntry) (els : Elems) (s : State) : Eff :=
  s.vfma e els .x true false

/-- `VFSQRT`. -/
def effVfsqrt (e : QEntry) (els : Elems) (s : State) : Eff :=
  s.vfu e els (s.hart.sew ≤ 3) (s.hart.vfuRm e) (fun f v a => fpSqrtV f v (readFp f v a))

/-- `VFRCP`. -/
def effVfrcp (e : QEntry) (els : Elems) (s : State) : Eff :=
  s.vfu e els (s.hart.sew == 1 || s.hart.sew == 2) (s.hart.vfuRm e) (fun f v a => fpSpecial f v .rcp a)

/-- `VFRSQ`. -/
def effVfrsq (e : QEntry) (els : Elems) (s : State) : Eff :=
  s.vfu e els (s.hart.sew == 1 || s.hart.sew == 2) (s.hart.vfuRm e) (fun f v a => fpSpecial f v .rsq a)

/-- `VFEXP2`. -/
def effVfexp2 (e : QEntry) (els : Elems) (s : State) : Eff :=
  s.vfu e els (s.hart.sew == 1 || s.hart.sew == 2) (s.hart.vfuRm e) (fun f v a => fpSpecial f v .exp2 a)

/-- `VFLOG2`. -/
def effVflog2 (e : QEntry) (els : Elems) (s : State) : Eff :=
  s.vfu e els (s.hart.sew == 1 || s.hart.sew == 2) (s.hart.vfuRm e) (fun f v a => fpSpecial f v .log2 a)

/-- `VFSINP`. -/
def effVfsinp (e : QEntry) (els : Elems) (s : State) : Eff :=
  s.vfu e els (s.hart.sew == 1 || s.hart.sew == 2) (s.hart.vfuRm e) (fun f v a => fpSpecial f v .sinp a)

/-- `VFCOSP`. -/
def effVfcosp (e : QEntry) (els : Elems) (s : State) : Eff :=
  s.vfu e els (s.hart.sew == 1 || s.hart.sew == 2) (s.hart.vfuRm e) (fun f v a => fpSpecial f v .cosp a)

/-- `VFTANH`. -/
def effVftanh (e : QEntry) (els : Elems) (s : State) : Eff :=
  s.vfu e els (s.hart.sew == 1 || s.hart.sew == 2) (s.hart.vfuRm e) (fun f v a => fpSpecial f v .tanh a)

/-- `VFABS`. -/
def effVfabs (e : QEntry) (els : Elems) (s : State) : Eff :=
  s.vfu e els (s.hart.sew ≤ 3) .rne (fun f _ a => (fpAbs f a, noFlags))

/-- `VFNEG`. -/
def effVfneg (e : QEntry) (els : Elems) (s : State) : Eff :=
  s.vfu e els (s.hart.sew ≤ 3) .rne (fun f _ a => (fpNegCode f a, noFlags))

/-- `VFCLASS`. -/
def effVfclass (e : QEntry) (els : Elems) (s : State) : Eff :=
  s.vfu e els (s.hart.sew ≤ 3) .rne (fun f _ a => (fpClass f a, noFlags))

/-- `VFFLOOR`. -/
def effVffloor (e : QEntry) (els : Elems) (s : State) : Eff :=
  s.vfu e els (s.hart.sew ≤ 3) .rdn fpIntegral

/-- `VFCEIL`. -/
def effVfceil (e : QEntry) (els : Elems) (s : State) : Eff :=
  s.vfu e els (s.hart.sew ≤ 3) .rup fpIntegral

/-- `VFROUND`. -/
def effVfround (e : QEntry) (els : Elems) (s : State) : Eff :=
  s.vfu e els (s.hart.sew ≤ 3) (s.hart.vfuRm e) fpIntegral

/-- `VCVT_I32_F32`. -/
def effVcvtI32F32 (e : QEntry) (els : Elems) (s : State) : Eff :=
  s.vcvt e els .f32 .i32

/-- `VCVT_N32_F32`. -/
def effVcvtN32F32 (e : QEntry) (els : Elems) (s : State) : Eff :=
  s.vcvt e els .f32 .n32

/-- `VCVT_F32_I32`. -/
def effVcvtF32I32 (e : QEntry) (els : Elems) (s : State) : Eff :=
  s.vcvt e els .i32 .f32

/-- `VCVT_F32_N32`. -/
def effVcvtF32N32 (e : QEntry) (els : Elems) (s : State) : Eff :=
  s.vcvt e els .n32 .f32

/-- `VCVT_I64_F64`. -/
def effVcvtI64F64 (e : QEntry) (els : Elems) (s : State) : Eff :=
  s.vcvt e els .f64 .i64

/-- `VCVT_N64_F64`. -/
def effVcvtN64F64 (e : QEntry) (els : Elems) (s : State) : Eff :=
  s.vcvt e els .f64 .n64

/-- `VCVT_F64_I64`. -/
def effVcvtF64I64 (e : QEntry) (els : Elems) (s : State) : Eff :=
  s.vcvt e els .i64 .f64

/-- `VCVT_F64_N64`. -/
def effVcvtF64N64 (e : QEntry) (els : Elems) (s : State) : Eff :=
  s.vcvt e els .n64 .f64

/-- `VCVT_F64_F32`. -/
def effVcvtF64F32 (e : QEntry) (els : Elems) (s : State) : Eff :=
  s.vcvt e els .f32 .f64

/-- `VCVT_F32_F64`. -/
def effVcvtF32F64 (e : QEntry) (els : Elems) (s : State) : Eff :=
  s.vcvt e els .f64 .f32

/-- `VCVT_H_F32`. -/
def effVcvtHF32 (e : QEntry) (els : Elems) (s : State) : Eff :=
  s.vcvt e els .f32 .h

/-- `VCVT_BF_F32`. -/
def effVcvtBfF32 (e : QEntry) (els : Elems) (s : State) : Eff :=
  s.vcvt e els .f32 .bf

/-- `VCVT_F32_H`. -/
def effVcvtF32H (e : QEntry) (els : Elems) (s : State) : Eff :=
  s.vcvt e els .h .f32

/-- `VCVT_F32_BF`. -/
def effVcvtF32Bf (e : QEntry) (els : Elems) (s : State) : Eff :=
  s.vcvt e els .bf .f32

/-- `VCVT_B8_F32`. -/
def effVcvtB8F32 (e : QEntry) (els : Elems) (s : State) : Eff :=
  s.vcvt e els .f32 .b8

/-- `VCVT_F32_B8`. -/
def effVcvtF32B8 (e : QEntry) (els : Elems) (s : State) : Eff :=
  s.vcvt e els .b8 .f32

/-- `VCVT_B8_H`. -/
def effVcvtB8H (e : QEntry) (els : Elems) (s : State) : Eff :=
  s.vcvt e els .h .b8

/-- `VCVT_H_B8`. -/
def effVcvtHB8 (e : QEntry) (els : Elems) (s : State) : Eff :=
  s.vcvt e els .b8 .h

/-- `VCVT_B8_BF`. -/
def effVcvtB8Bf (e : QEntry) (els : Elems) (s : State) : Eff :=
  s.vcvt e els .bf .b8

/-- `VCVT_BF_B8`. -/
def effVcvtBfB8 (e : QEntry) (els : Elems) (s : State) : Eff :=
  s.vcvt e els .b8 .bf

/-- `VCVT_E4_F32`. -/
def effVcvtE4F32 (e : QEntry) (els : Elems) (s : State) : Eff :=
  s.vcvt e els .f32 .e4

/-- `VCVT_F32_E4`. -/
def effVcvtF32E4 (e : QEntry) (els : Elems) (s : State) : Eff :=
  s.vcvt e els .e4 .f32

/-- `VCVT_H_E4`. -/
def effVcvtHE4 (e : QEntry) (els : Elems) (s : State) : Eff :=
  s.vcvt e els .e4 .h

/-- `VCVT_Q4_F32`. -/
def effVcvtQ4F32 (e : QEntry) (els : Elems) (s : State) : Eff :=
  s.vcvt e els .f32 .q4

/-- `VCVT_F32_Q4`. -/
def effVcvtF32Q4 (e : QEntry) (els : Elems) (s : State) : Eff :=
  s.vcvt e els .q4 .f32

/-- `VCVT_H_Q4`. -/
def effVcvtHQ4 (e : QEntry) (els : Elems) (s : State) : Eff :=
  s.vcvt e els .q4 .h

/-- `VCMP_EQ_VV`. -/
def effVcmpEqVV (e : QEntry) (els : Elems) (s : State) : Eff :=
  s.vcmpInt e els .v .eq

/-- `VCMP_EQ_VX`. -/
def effVcmpEqVX (e : QEntry) (els : Elems) (s : State) : Eff :=
  s.vcmpInt e els .x .eq

/-- `VCMP_NE_VV`. -/
def effVcmpNeVV (e : QEntry) (els : Elems) (s : State) : Eff :=
  s.vcmpInt e els .v .ne

/-- `VCMP_NE_VX`. -/
def effVcmpNeVX (e : QEntry) (els : Elems) (s : State) : Eff :=
  s.vcmpInt e els .x .ne

/-- `VCMP_LT_VV`. -/
def effVcmpLtVV (e : QEntry) (els : Elems) (s : State) : Eff :=
  s.vcmpInt e els .v .lt

/-- `VCMP_LT_VX`. -/
def effVcmpLtVX (e : QEntry) (els : Elems) (s : State) : Eff :=
  s.vcmpInt e els .x .lt

/-- `VCMP_LE_VV`. -/
def effVcmpLeVV (e : QEntry) (els : Elems) (s : State) : Eff :=
  s.vcmpInt e els .v .le

/-- `VCMP_LE_VX`. -/
def effVcmpLeVX (e : QEntry) (els : Elems) (s : State) : Eff :=
  s.vcmpInt e els .x .le

/-- `VCMP_LTN_VV`. -/
def effVcmpLtnVV (e : QEntry) (els : Elems) (s : State) : Eff :=
  s.vcmpInt e els .v .ltn

/-- `VCMP_LTN_VX`. -/
def effVcmpLtnVX (e : QEntry) (els : Elems) (s : State) : Eff :=
  s.vcmpInt e els .x .ltn

/-- `VCMP_LEN_VV`. -/
def effVcmpLenVV (e : QEntry) (els : Elems) (s : State) : Eff :=
  s.vcmpInt e els .v .len

/-- `VCMP_LEN_VX`. -/
def effVcmpLenVX (e : QEntry) (els : Elems) (s : State) : Eff :=
  s.vcmpInt e els .x .len

/-- `VCMP_GT_VV`. -/
def effVcmpGtVV (e : QEntry) (els : Elems) (s : State) : Eff :=
  s.vcmpInt e els .v .gt

/-- `VCMP_GT_VX`. -/
def effVcmpGtVX (e : QEntry) (els : Elems) (s : State) : Eff :=
  s.vcmpInt e els .x .gt

/-- `VCMP_GE_VV`. -/
def effVcmpGeVV (e : QEntry) (els : Elems) (s : State) : Eff :=
  s.vcmpInt e els .v .ge

/-- `VCMP_GE_VX`. -/
def effVcmpGeVX (e : QEntry) (els : Elems) (s : State) : Eff :=
  s.vcmpInt e els .x .ge

/-- `VCMP_FEQ_VV`. -/
def effVcmpFeqVV (e : QEntry) (els : Elems) (s : State) : Eff :=
  s.vcmpFp e els .v .feq

/-- `VCMP_FEQ_VX`. -/
def effVcmpFeqVX (e : QEntry) (els : Elems) (s : State) : Eff :=
  s.vcmpFp e els .x .feq

/-- `VCMP_FNE_VV`. -/
def effVcmpFneVV (e : QEntry) (els : Elems) (s : State) : Eff :=
  s.vcmpFp e els .v .fne

/-- `VCMP_FNE_VX`. -/
def effVcmpFneVX (e : QEntry) (els : Elems) (s : State) : Eff :=
  s.vcmpFp e els .x .fne

/-- `VCMP_FLT_VV`. -/
def effVcmpFltVV (e : QEntry) (els : Elems) (s : State) : Eff :=
  s.vcmpFp e els .v .flt

/-- `VCMP_FLT_VX`. -/
def effVcmpFltVX (e : QEntry) (els : Elems) (s : State) : Eff :=
  s.vcmpFp e els .x .flt

/-- `VCMP_FLE_VV`. -/
def effVcmpFleVV (e : QEntry) (els : Elems) (s : State) : Eff :=
  s.vcmpFp e els .v .fle

/-- `VCMP_FLE_VX`. -/
def effVcmpFleVX (e : QEntry) (els : Elems) (s : State) : Eff :=
  s.vcmpFp e els .x .fle

/-- `VCMP_FGT_VV`. -/
def effVcmpFgtVV (e : QEntry) (els : Elems) (s : State) : Eff :=
  s.vcmpFp e els .v .fgt

/-- `VCMP_FGT_VX`. -/
def effVcmpFgtVX (e : QEntry) (els : Elems) (s : State) : Eff :=
  s.vcmpFp e els .x .fgt

/-- `VCMP_FGE_VV`. -/
def effVcmpFgeVV (e : QEntry) (els : Elems) (s : State) : Eff :=
  s.vcmpFp e els .v .fge

/-- `VCMP_FGE_VX`. -/
def effVcmpFgeVX (e : QEntry) (els : Elems) (s : State) : Eff :=
  s.vcmpFp e els .x .fge

/-- `VCMP_FUNORD_VV`. -/
def effVcmpFunordVV (e : QEntry) (els : Elems) (s : State) : Eff :=
  s.vcmpFp e els .v .funord

/-- `VCMP_FUNORD_VX`. -/
def effVcmpFunordVX (e : QEntry) (els : Elems) (s : State) : Eff :=
  s.vcmpFp e els .x .funord

/-- `VCMP_FORD_VV`. -/
def effVcmpFordVV (e : QEntry) (els : Elems) (s : State) : Eff :=
  s.vcmpFp e els .v .ford

/-- `VCMP_FORD_VX`. -/
def effVcmpFordVX (e : QEntry) (els : Elems) (s : State) : Eff :=
  s.vcmpFp e els .x .ford

end Sys2Proof.Machine
end

