-- ==== Sys2Proof/Machine/VMem.lean ====
section
/-! DEFINITION. The vector loads and stores (R226 to R231). -/

namespace Sys2Proof.Machine

/-! ## One element -/

/-- Accumulations of the running group on the lines of [a, a + n) reach memory's order before an access of the group to
those lines (R138, R290). -/
def State.settleGroup (s : State) (pa n : Nat) : State :=
  match s.hart.group with
  | some l => if l.any (fun g => decide (g.pa / 128 * 128 < pa + n ∧ pa < g.pa / 128 * 128 + 128)) then s.foldGroup else s
  | none => s

/-- Where a vector access of footprint size `f` places its lines (R220): a load in the stable cache and the L2 at the highest priority, or
nowhere where `f` is above `bypth` or `bypth` is 0; a store in the L2, and in the stable cache where `f` is not above `bypth`; none of an
uncached page (R224). -/
def State.placeVector (s : State) (f : Nat) (write : Bool) (p : Place) (n : Nat) : State :=
  match p with
  | .pad _ => s
  | .phys pa leaf =>
    let top := s.hart.csr.bypth.toNat
    let fits := decide (f ≤ top) && (write || top != 0)
    let keep := stableCache s.hart.stable
    if uncachedLeaf leaf then (if write then { s with coh := (linesOf pa n).foldl (fun c l => c.out keep l) s.coh } else s)
    else if s.hart.isGroom || !(write || fits) then s
    else
      let agent := if fits then some (stableAgent s.hart.stable) else none
      if write then s.wroteLines s.hart.die agent keep 1 pa n else s.readLines s.hart.die agent 2 pa n

/-- A vector read of footprint size `f`. -/
def State.loadVec (s : State) (f a n al : Nat) (window : Bool) : Res Nat :=
  (s.access a n al .load window).bind fun p t =>
    let t := match p with | .phys pa _ => t.settleGroup pa n | .pad _ => t
    let (v, t) := t.readPlace p n
    .ok v (t.placeVector f false p n)

/-- A vector element read: it stalls on the held ranges of the bridle (R237, R290). -/
def State.loadEl (s : State) (f a n al : Nat) (window : Bool) : Res Nat :=
  if s.hart.bars a n then .wait s else s.loadVec f a n al window

/-- The low `n` bytes of `v` written by a vector store, through the hart's stable cache (R217, R229). -/
def State.writeVec (s : State) (p : Place) (n v : Nat) : State :=
  match p with
  | .phys pa _ => s.physWrite (vectorWriter s.hart.id) pa n v
  | .pad off => s.padWrite off n v

/-- A vector element write: it stalls on the held ranges of the bridle (R237). -/
def State.storeEl (s : State) (f a n al v : Nat) (window : Bool) : Res Unit :=
  if s.hart.bars a n then .wait s
  else
    (s.access a n al .store window).bind fun p t =>
      let t := match p with | .phys pa _ => t.settleGroup pa n | .pad _ => t
      .ok () ((t.writeVec p n v).placeVector f true p n)

/-- Failing sectors that the bytes of one store cover whole, given as address and length, fail no more (R365). -/
def State.heal (s : State) (l : List (Nat × Nat)) : State :=
  if s.failing.isEmpty then s
  else
    let pas := l.filterMap (fun r => match s.access r.1 r.2 1 .store true with | .ok (.phys pa _) _ => some (pa, r.2) | _ => none)
    { s with
      failing := dropBy (fun f => (countFrom (32 * f) 32).all (fun a => pas.any (fun p => decide (p.1 ≤ a ∧ a < p.1 + p.2)))) s.failing }

/-- The elements that a store has performed, those of its earlier granules among them, once it stands below element `hi`. -/
def QEntry.performed (e : QEntry) (els : Elems) (hi : Option Nat) : Elems :=
  let before := if e.state = 2 then (match els with | q :: _ => rangeElems 0 q.1 | [] => []) else []
  before ++ els.filter (fun q => match hi with | some i => decide (q.1 < i) | none => true)

/-- What follows the work of a store: the sectors that it has covered are healed (R365). -/
def Eff.heals (r : Eff) (f : Option Nat → List (Nat × Nat)) : Eff :=
  match r with
  | .done t => .done (t.heal (f none))
  | .fault i c t => .fault i c (t.heal (f (some i)))
  | .wait i t => .wait i (t.heal (f (some i)))

/-- Element `p` of width `w` of a v register written. -/
def State.setEl (s : State) (d : Reg) (w p v : Nat) : State :=
  s.onHart (fun h => h.setV d (setElem (h.getV d) w p (BitVec.ofNat w v)))

/-! ## Addresses (R226) -/

/-- Unit stride: xs1 + i * b. -/
def addrUnit (e : QEntry) (b i : Nat) : Nat := (e.opa.toNat + i * b) % 2 ^ 64
/-- Strided: xs1 + i * xs2, xs2 signed. -/
def addrStride (e : QEntry) (i : Nat) : Nat := ((e.opa.toNat : Int) + (i : Int) * e.opb.toInt).emod (2 ^ 64) |>.toNat
/-- Indexed: xs1 + the element of vs2, unsigned at w bits, at POS its bits [63:0]. -/
def addrIndex (e : QEntry) (h : Hart) (w p : Nat) : Nat := (e.opa.toNat + h.el e.fb w p % 2 ^ 64) % 2 ^ 64

/-! ## Footprint sizes (R220) -/

/-- The elements that an access counts: those of the fetch instruction for one in a block, which under `VLOOP` are the indices of the
loop. -/
def Hart.accessCount (h : Hart) : Nat :=
  match h.group, h.queue with
  | some _, e :: _ => if e.row = .vloop then e.opb.toNat - e.grp else h.count
  | _, _ => h.count

/-- The footprint size of an access to elements, whole registers or a stride (R220). A widening load moves a byte of data an element, or
half of one (log 104). -/
def Hart.footSize (h : Hart) (e : QEntry) : Nat :=
  match e.row with
  | .vldReg | .vstReg => h.vlmax / 8
  | .vlds | .vsts => h.count * e.opb.toInt.natAbs
  | .vldwE4H | .vldwE4Bf | .vldwE4B8 => h.count
  | .vldwQ4H | .vldwQ4Bf | .vldwQ4B8 => (h.count + 1) / 2
  | _ => h.accessCount * (h.width / 8)

/-- The footprint size of an indexed access (R220): from the lowest to the highest address of an active element, wherever the access
stands. -/
def Hart.spread (h : Hart) (e : QEntry) : Nat :=
  match (h.actives e.fk (rangeElems 0 h.count)).map (fun q => addrIndex e h h.width q.2) with
  | [] => 0
  | a :: l => l.foldl max a - l.foldl min a + h.width / 8

/-- The loop of a load (R226). -/
def State.vload (s : State) (e : QEntry) (els : Elems) (f : Nat) (addr : Hart → Nat → Nat → Nat) : Eff :=
  let w := s.hart.width
  let b := w / 8
  State.each (fun i p s =>
    (s.loadEl f (addr s.hart i p) b b true).bind fun v s => .ok () (s.setEl e.fd w p v)) (s.hart.actives e.fk els) s

/-- The loop of a store (R226). -/
def State.vstore (s : State) (e : QEntry) (els : Elems) (f : Nat) (addr : Hart → Nat → Nat → Nat) : Eff :=
  let w := s.hart.width
  let b := w / 8
  let h := s.hart
  (State.each (fun i p s => s.storeEl f (addr s.hart i p) b b (s.hart.el e.fd w p) true) (h.actives e.fk els) s).heals
    fun hi => (h.actives e.fk (e.performed els hi)).map (fun q => (addr h q.1 q.2, b))

/-- `VLD` (R226). -/
def effVld (e : QEntry) (els : Elems) (s : State) : Eff := s.vload e els (s.hart.footSize e) (fun h i _ => addrUnit e (h.width / 8) i)
/-- `VLDS` (R226). -/
def effVlds (e : QEntry) (els : Elems) (s : State) : Eff := s.vload e els (s.hart.footSize e) (fun _ i _ => addrStride e i)
/-- `VLDX` (R226). -/
def effVldx (e : QEntry) (els : Elems) (s : State) : Eff := s.vload e els (s.hart.spread e) (fun h _ p => addrIndex e h h.width p)
/-- `VST` (R226). -/
def effVst (e : QEntry) (els : Elems) (s : State) : Eff := s.vstore e els (s.hart.footSize e) (fun h i _ => addrUnit e (h.width / 8) i)
/-- `VSTS` (R226). -/
def effVsts (e : QEntry) (els : Elems) (s : State) : Eff := s.vstore e els (s.hart.footSize e) (fun _ i _ => addrStride e i)
/-- `VSTX` (R226). -/
def effVstx (e : QEntry) (els : Elems) (s : State) : Eff := s.vstore e els (s.hart.spread e) (fun h _ p => addrIndex e h h.width p)

/-! ## Whole registers (R228) -/

/-- The base of a whole-register form must be a multiple of 8 (R228). -/
def State.wholeBase (s : State) (e : QEntry) (k : Eff) : Eff :=
  if e.opa.toNat % 8 ≠ 0 then s.startFault (stopAt 0x40 e.opa.toNat) else k

/-- `VLD_REG` (R228). -/
def effVldReg (e : QEntry) (els : Elems) (s : State) : Eff :=
  s.wholeBase e (State.each (fun i p s =>
    (s.loadEl (s.hart.footSize e) (addrUnit e 8 i) 8 8 true).bind fun v s => .ok () (s.setEl e.fd 64 p v)) els s)

/-- `VST_REG` (R228). -/
def effVstReg (e : QEntry) (els : Elems) (s : State) : Eff :=
  s.wholeBase e ((State.each (fun i p s => s.storeEl (s.hart.footSize e) (addrUnit e 8 i) 8 8 (s.hart.el e.fd 64 p) true) els s).heals
    fun hi => (e.performed els hi).map (fun q => (addrUnit e 8 q.1, 8)))

/-! ## Gather-linked and scatter-conditional (R229, R230) -/

/-- A link entered: one entry serves all the hart's elements of a line; with 512 entries in the stable's table the oldest leaves (R229). -/
def Coherence.link (c : Coherence) (stable hart line : Nat) : Coherence :=
  let l : Link := { stable := stable, hart := hart, line := line }
  if anyBy (fun k : Link => k == l) c.links then c
  else
    let mine := c.links.filter (fun k => k.stable == stable)
    let kept := match mine with | k :: _ => if 512 ≤ mine.length then c.links.erase k else c.links | [] => c.links
    { c with links := kept ++ [l] }

/-- The hart in focus holds a link to a line. -/
def State.linked (s : State) (line : Nat) : Bool := anyBy (fun l : Link => l.hart == s.hart.id && l.line == line) s.links

/-- `VGLL` (R229). -/
def effVgll (e : QEntry) (els : Elems) (s : State) : Eff :=
  let w := s.hart.width
  let b := w / 8
  let f := s.hart.spread e
  s.needSew (s.hart.sew ≤ 3) (State.each (fun _ p s =>
    let a := addrIndex e s.hart w p
    if s.hart.bars a b then .wait s
    else
      (s.access a b b .load false).bind fun pl s =>
        let (v, s) := s.readPlace pl b
        let s := s.placeVector f false pl b
        let s := match pl with
          | .phys pa _ => { s with coh := s.coh.link s.hart.stable s.hart.id (pa / 128) }
          | .pad _ => s
        .ok () (s.setEl e.fd w p v)) (s.hart.actives e.fk els) s)

/-- `VSCC` (R230): `seen` holds the addresses of the lower active elements. -/
def State.vscc (e : QEntry) (w f : Nat) : Elems → List Nat → State → Eff
  | [], _, s => .done s.dropLinks
  | (i, p) :: es, seen, s =>
    let b := w / 8
    let a := addrIndex e s.hart w p
    if s.hart.bars a b then .wait i s
    else
      match s.access a b b .store false with
      | .stop c s => .fault i c s
      | .wait s => .wait i s
      | .ok pl s =>
        let line := match pl with | .phys pa _ => pa / 128 | .pad _ => 0
        let win := s.linked line && !(seen.any (· == a))
        let s := if win then (s.writeVec pl b (s.hart.el e.fd w p)).placeVector f true pl b else s
        State.vscc e w f es (a :: seen) (s.onHart (fun h => h.setK e.fk (setBit (h.getK e.fk) p (!win))))

/-- `VSCC` (R230). An access that has to wait leaves nothing performed, so that the lower addresses are not lost. -/
def effVscc (e : QEntry) (els : Elems) (s : State) : Eff :=
  s.needSew (s.hart.sew ≤ 3) (match State.vscc e s.hart.width (s.hart.spread e) (s.hart.actives e.fk els) [] s with
    | .wait _ t => .wait s.hart.vstart (s.keepAttempt t true)
    | r => r)

/-! ## Widening loads (R231, R159) -/

/-- The exact value of an E8M0 scale byte: none for the NaN (R159). -/
def e8m0 (c : Nat) : Option FVal := if c = 255 then none else some (.fin false 1 ((c : Int) - 127))

/-- The exact value of a binary16 scale: none for a NaN (R159). -/
def scaleH (env : FpEnv) (c : Nat) : Option FVal :=
  match readFp fmtH env c with
  | .nan _ => none
  | v => some v

/-- An element times its block's scale, rounded once; a NaN scale gives NaN with invalid (R159). -/
def widen (f : FpFmt) (env : FpEnv) (x : FVal) (scale : Option FVal) : Nat × Flags :=
  match scale with
  | none => deliverNan f flagNv
  | some v => fpMulV f env x v

/-- `VLDW` (R231): data first, then the scale; the flags of each element as R163 says. -/
def State.vldw (s : State) (e : QEntry) (els : Elems) (q4 : Bool) (f : FpFmt) (w : Nat) : Eff :=
  s.needSew (s.hart.width == w) (State.each (fun i p s =>
    let xa := (e.opa.toNat + (if q4 then i / 2 else i)) % 2 ^ 64
    let sa := (e.opb.toNat + i / 32 * (if q4 then 2 else 1)) % 2 ^ 64
    (s.loadEl (s.hart.footSize e) xa 1 1 true).bind fun x s =>
      (s.loadEl (s.hart.footSize e) sa (if q4 then 2 else 1) (if q4 then 2 else 1) true).bind fun sc s =>
        let env := s.hart.cvtEnv s.hart.rm s.hart.sat e.x2 i
        let r :=
          if q4 then widen f env (q4Val (x / 16 ^ (i % 2))) (scaleH env sc) else widen f env (readFp fmtE4 env x) (e8m0 sc)
        let s := s.onHart (fun h => h.orFlags r.2)
        match flagStop s.hart.fen r.2 i with
        | some c => .stop c s
        | none => .ok () (s.setEl e.fd w p r.1)) (s.hart.actives e.fk els) s)

/-- `VLDW_E4_H` (R231). -/
def effVldwE4H (e : QEntry) (els : Elems) (s : State) : Eff := s.vldw e els false fmtH 16
/-- `VLDW_E4_BF` (R231). -/
def effVldwE4Bf (e : QEntry) (els : Elems) (s : State) : Eff := s.vldw e els false fmtBf 16
/-- `VLDW_E4_B8` (R231). -/
def effVldwE4B8 (e : QEntry) (els : Elems) (s : State) : Eff := s.vldw e els false s.hart.fmtB8 8
/-- `VLDW_Q4_H` (R231). -/
def effVldwQ4H (e : QEntry) (els : Elems) (s : State) : Eff := s.vldw e els true fmtH 16
/-- `VLDW_Q4_BF` (R231). -/
def effVldwQ4Bf (e : QEntry) (els : Elems) (s : State) : Eff := s.vldw e els true fmtBf 16
/-- `VLDW_Q4_B8` (R231). -/
def effVldwQ4B8 (e : QEntry) (els : Elems) (s : State) : Eff := s.vldw e els true s.hart.fmtB8 8

end Sys2Proof.Machine
end

