-- ==== Sys2Proof/Machine/Recursion.lean ====
section
/-! DEFINITION. The instructions of recursion routines (R276, R278 to R282). -/

namespace Sys2Proof.Machine

/-- The virtual processor `v` of the group of a recursion pass that runs (R268). -/
def Hart.rvp (h : Hart) (v : Nat) : Option RVp :=
  match h.recur with
  | none => none
  | some r => findBy (fun p : RVp => p.vp == v) r.vps

/-- A virtual processor replaced. -/
def State.putVp (s : State) (p : RVp) : State :=
  s.onHart (fun h =>
    match h.recur with
    | none => h
    | some r => { h with recur := some { r with vps := putBy (fun q : RVp => q.vp == p.vp) p r.vps } })

/-- A group of one of the routines `routs` runs (0 divide, 1 base, 2 combine). -/
def Hart.inRoutine (h : Hart) (routs : List Nat) : Bool :=
  match h.recur with
  | none => false
  | some r => !r.vps.isEmpty && routs.contains r.rout

/-- Outside the routines named, 0x9D at the lowest active element (R282); its `tval` is not stated (log 10). -/
def State.inRoutine (s : State) (routs : List Nat) (act : Elems) (k : RecRun → Eff) : Eff :=
  match act, s.hart.recur with
  | [], _ => .done s
  | (i, _) :: _, none => .fault i (s.openStop 0x9D) s
  | (i, _) :: _, some r => if s.hart.inRoutine routs then k r else .fault i (s.openStop 0x9D) s

/-- 0x09 at the lowest active element where the `n` registers from `a` run past v31 (R278, R279). -/
def State.regsFit (s : State) (a n : Nat) (act : Elems) (k : Eff) : Eff :=
  match act with
  | (i, _) :: _ => if 32 < a + n then .fault i (stopAt 0x09 a) s else k
  | [] => k

/-- The words that a virtual processor has in the `n` registers from `a`. -/
def Hart.vpWords (h : Hart) (a : Reg) (w p n : Nat) : List Nat :=
  (countFrom 0 n).map (fun m => h.el (a + BitVec.ofNat 5 m) w p)

/-- `RSPAWN` (R278): a child of each active frame, until the group commits. -/
def effRspawn (e : QEntry) (els : Elems) (s : State) : Eff :=
  let act := s.hart.actives e.fk els
  s.inRoutine [0] act (fun r =>
    s.regsFit e.fa.toNat r.nfw act (State.each (fun i p s =>
      match s.hart.rvp i with
      | none => .ok () s
      | some q =>
        if q.spawns.length = r.fan then .stop (stopAt 0x9A (i * 2 ^ 32)) s
        else if r.dlim < q.depth + 1 then
          if r.deovf then .ok () s else .stop (stopAt 0x98 (i * 2 ^ 32 + q.depth)) s
        else .ok () (s.putVp { q with spawns := q.spawns ++ [s.hart.vpWords e.fa r.w p r.nfw], sites := q.sites ++ [e.pc] })) act s))

/-- `RRET` (R279): the result of each active frame, until the group commits. -/
def effRret (e : QEntry) (els : Elems) (s : State) : Eff :=
  let act := s.hart.actives e.fk els
  s.inRoutine [1, 2] act (fun r =>
    if r.nrw = 0 then .done s
    else
      s.regsFit e.fa.toNat r.nrw act (State.each (fun i p s =>
        match s.hart.rvp i with
        | none => .ok () s
        | some q => .ok () (s.putVp { q with ret := some (s.hart.vpWords e.fa r.w p r.nrw) })) act s))

/-- `RKIDS` (R280): the result words of child xs2 of each active frame, and k7. -/
def effRkids (e : QEntry) (els : Elems) (s : State) : Eff :=
  let act := s.hart.actives e.fk els
  s.inRoutine [2] act (fun r => State.each (fun i p s =>
    match s.hart.rvp i with
    | none => .ok () s
    | some q =>
      let kid := if e.opb.toNat < q.kids.length then nth q.kids e.opb.toNat else none
      let word (m : Nat) : Nat := match kid with | some ws => (nth ws m).getD 0 | none => 0
      let s := (s.setEl e.fd r.w p (word 0)).setEl (e.fd + 1#5) r.w p (word 1)
      .ok () (s.onHart (fun h => h.setK 7#3 (setBit (h.getK 7#3) p kid.isSome)))) act s)

/-- `RDEPTH` (R281). -/
def effRdepth (e : QEntry) (els : Elems) (s : State) : Eff :=
  let act := s.hart.actives e.fk els
  s.inRoutine [0, 1, 2] act (fun r => State.each (fun i p s =>
    match s.hart.rvp i with
    | none => .ok () s
    | some q => .ok () (s.setEl e.fd r.w p q.depth)) act s)

/-- `RNKID` (R281): the children spawned so far in divide, none in base, all in combine. -/
def effRnkid (e : QEntry) (els : Elems) (s : State) : Eff :=
  let act := s.hart.actives e.fk els
  s.inRoutine [0, 1, 2] act (fun r => State.each (fun i p s =>
    match s.hart.rvp i with
    | none => .ok () s
    | some q => .ok () (s.setEl e.fd r.w p (if r.rout = 0 then q.spawns.length else q.kids.length))) act s)

end Sys2Proof.Machine
end

