-- ==== Sys2Proof/Machine/VCross.lean ====
section
/-! DEFINITION. Cross-lane, mask and bit-string instructions (R184 to R200). -/

namespace Sys2Proof.Machine

/-! ## Forms -/

/-- An entry that returns a value to the x register of its field [12:8] (R126). -/
def State.giveX (s : State) (e : QEntry) (v : Word) : Eff := .done (s.onHart (fun h => h.setX e.fd v))

/-- Mask logic: bit i of kd from bit i of the sources (R186). -/
def State.klogic (s : State) (e : QEntry) (els : Elems) (f : Bool → Bool → Bool) : Eff :=
  let h := s.hart
  s.kmap e.kd e.fk els fun _ p => (f (h.mask e.ka p) (h.mask e.kb p), noFlags)

/-- The active set of `kpop` and `kfirst`: bits of ks2 that are active under km (R187). -/
def Hart.kset (h : Hart) (e : QEntry) (els : Elems) : Elems := (h.actives e.fk els).filter (fun p => h.mask e.kb p.2)

/-- A lane barrier that writes element p of vd, for the active elements (R192). -/
def State.vmove (s : State) (e : QEntry) (els : Elems) (f : Hart → Nat → Nat) : Eff :=
  let h := s.hart
  s.needZero (s.vmap e.fd e.fk h.perReg h.width els fun _ p => (f h p, noFlags))

/-- Element `p` of vs1, or 0 at and above E (R192). -/
def Hart.elOr0 (h : Hart) (r : Reg) (p : Nat) : Nat := if p < h.perReg then h.el r h.width p else 0

/-- Pairs (i, p): writes v[vd].e[p] := v[vs2].e[i] (R191). -/
def State.vgatherTo (s : State) (e : QEntry) (moves : List (Nat × Nat)) : Eff :=
  let h := s.hart
  s.vmap e.fd 0#3 h.perReg h.width (moves.map (fun m => (m.1, m.2))) fun i _ => (h.el e.fb h.width i, noFlags)

/-- Each item with its position in the list. -/
def withIndex {α : Type} : List α → Nat → List (α × Nat)
  | [], _ => []
  | a :: as, n => (a, n) :: withIndex as (n + 1)

/-- An integer reduction into element 0 of vd (R197); `vstart` is looked at before the SEW (log 124). -/
def State.vreduce (s : State) (e : QEntry) (els : Elems) (f : Nat → Nat → Nat → Nat) : Eff :=
  let h := s.hart
  let w := h.width
  let act := h.actives e.fk els
  s.needZero (s.needSew (h.sew ≤ 3) (
    if act.isEmpty then .done s
    else
      let r := act.foldl (fun a p => f w a (h.el e.fb w p.2)) (h.el e.fa w 0)
      .done (s.onHart (fun h => h.setV e.fd (setElem (h.getV e.fd) w 0 (BitVec.ofNat w r))))))

/-- The end of a floating reduction: an enabled flag traps and nothing is written, with 0xFFFF for the element, its flags
as little as its result (R100, R163, R198); else element 0 of vd is written and the flags are ORed. -/
def State.fpReduced (s : State) (e : QEntry) (r : Nat × Flags) : Eff :=
  let w := s.hart.width
  match flagStop s.hart.fen r.2 0xFFFF with
  | some c => s.startFault c
  | none => .done (s.onHart (fun h => (h.setV e.fd (setElem (h.getV e.fd) w 0 (BitVec.ofNat w r.1))).orFlags r.2))

/-- A floating reduction (R198): from the start value a and the elements, inactive ones `none`. -/
def State.vfreduce (s : State) (e : QEntry) (els : Elems) (f : FpFmt → FpEnv → Bool → Nat → List (Option Nat) → Nat × Flags) : Eff :=
  let h := s.hart
  let w := h.width
  let leaves := els.map (fun p => if h.mask e.fk p.2 then some (h.el e.fb w p.2) else none)
  s.needZero (s.needSew (h.sew ≤ 3) (
    if (h.actives e.fk els).isEmpty then .done s
    else s.fpReduced e (f h.fmt (h.vecEnv h.dynRm) h.la (h.el e.fa w 0) leaves)))

/-! ## Sums (R166) -/

/-- An addition that rounds once, with flags so far. -/
def addStep (f : FpFmt) (env : FpEnv) (acc : Nat × Flags) (x : Nat) : Nat × Flags :=
  let (v, fl) := fpAddV f env (readFp f env acc.1) (readFp f env x)
  (v, acc.2 ||| fl)

/-- One level of a pairwise tree: an empty leaf combined with x gives x (R166). -/
def pairLevel (f : FpFmt) (env : FpEnv) : List (Option Nat) → List (Option Nat) × Flags
  | some a :: some b :: r =>
    let (v, fl) := fpAddV f env (readFp f env a) (readFp f env b)
    let (l, g) := pairLevel f env r
    (some v :: l, fl ||| g)
  | some a :: none :: r => let (l, g) := pairLevel f env r; (some a :: l, g)
  | none :: b :: r => let (l, g) := pairLevel f env r; (b :: l, g)
  | [a] => ([a], noFlags)
  | [] => ([], noFlags)

/-- A pairwise tree, level by level (R166). -/
def pairTree (f : FpFmt) (env : FpEnv) : Nat → List (Option Nat) → Flags → Option Nat × Flags
  | 0, l, fl => (l.head?.join, fl)
  | n + 1, l, fl =>
    match l with
    | [] => (none, fl)
    | [a] => (a, fl)
    | l => let (m, g) := pairLevel f env l; pairTree f env n m (fl ||| g)

/-- Blocks of 32 leaves, each a tree, added to acc in ascending order (R166 with `la` = 1). -/
def blockSum (f : FpFmt) (env : FpEnv) : Nat → List (Option Nat) → Nat × Flags → Nat × Flags
  | 0, _, acc => acc
  | n + 1, l, acc =>
    match l with
    | [] => acc
    | l =>
      let acc := match pairTree f env 6 (l.take 32) noFlags with
        | (some t, fl) => addStep f env (acc.1, acc.2 ||| fl) t
        | (none, fl) => (acc.1, acc.2 ||| fl)
      blockSum f env n (l.drop 32) acc

/-- `VFSUM` (R166). -/
def fpSum (f : FpFmt) (env : FpEnv) (la : Bool) (a : Nat) (l : List (Option Nat)) : Nat × Flags :=
  if la then blockSum f env (l.length / 32 + 1) l (a, noFlags)
  else
    match pairTree f env 17 l noFlags with
    | (some t, fl) => addStep f env (a, fl) t
    | (none, fl) => (a, fl)

/-- `VFSUMO` (R166). -/
def fpSumOrdered (f : FpFmt) (env : FpEnv) (_ : Bool) (a : Nat) (l : List (Option Nat)) : Nat × Flags :=
  l.foldl (fun acc x => match x with | some v => addStep f env acc v | none => acc) (a, noFlags)

/-- `VFREDMIN` and `VFREDMAX` (R198): the operands are compared as they are read, and the one chosen is delivered once, so that
neither the result nor the flags depend on an order (R166). -/
def fpRedMinMax (isMax : Bool) (f : FpFmt) (env : FpEnv) (_ : Bool) (a : Nat) (l : List (Option Nat)) : Nat × Flags :=
  let vs := (some a :: l).filterMap (fun x => x.map (readFp f env))
  let fl := flagIf (vs.any FVal.isSig) flagNv
  match vs.foldl (fun acc v => match acc with | some u => some (pickMinMax isMax u v) | none => some v) none with
  | some v => if v.isNan then (f.nan, fl) else let (c, g) := deliverVal f env v; (c, fl ||| g)
  | none => (f.nan, fl)

/-! ## Bit strings (R199) -/

/-- A bit-string instruction: B, the string of vs1, the old string of vd and s give the string written (R199). -/
def State.vstring (s : State) (e : QEntry) (els : Elems) (f : Nat → Nat → Nat → Nat → Nat) : Eff :=
  let h := s.hart
  let b := h.count * h.width
  let str (r : Reg) : Nat := (h.getV r).toNat % 2 ^ b
  let t := BitVec.ofNat 65536 (f b (str e.fa) (str e.fd) e.opb.toNat)
  s.needZero (s.vmap e.fd e.fk h.perReg h.width els fun _ p => ((elem t h.width p).toNat, noFlags))

/-- Three source bits through a truth table indexed by their complements (R200), on whole elements. -/
def ternlog (w imm d a b : Nat) : Nat :=
  let full := 2 ^ w - 1
  let inv (x : Nat) : Nat := full - x
  (countFrom 0 8).foldl (fun acc t =>
    if imm / 2 ^ t % 2 = 0 then acc
    else acc ||| ((if t / 4 % 2 = 1 then inv d else d) &&& (if t / 2 % 2 = 1 then inv a else a) &&& (if t % 2 = 1 then inv b else b))) 0

/-! ## The instructions -/

/-- `KAND` (R186). -/
def effKand (e : QEntry) (els : Elems) (s : State) : Eff := s.klogic e els (fun a b => a && b)
/-- `KOR` (R186). -/
def effKor (e : QEntry) (els : Elems) (s : State) : Eff := s.klogic e els (fun a b => a || b)
/-- `KXOR` (R186). -/
def effKxor (e : QEntry) (els : Elems) (s : State) : Eff := s.klogic e els (fun a b => a != b)
/-- `KANDN` (R186). -/
def effKandn (e : QEntry) (els : Elems) (s : State) : Eff := s.klogic e els (fun a b => a && !b)
/-- `KNOT` (R186). -/
def effKnot (e : QEntry) (els : Elems) (s : State) : Eff := s.klogic e els (fun _ b => !b)
/-- `KMOV` (R186). -/
def effKmov (e : QEntry) (els : Elems) (s : State) : Eff := s.klogic e els (fun _ b => b)

/-- `KPOP` (R187). -/
def effKpop (e : QEntry) (els : Elems) (s : State) : Eff :=
  s.needZero (s.giveX e (BitVec.ofNat 64 (s.hart.kset e els).length))

/-- `KFIRST` (R187). -/
def effKfirst (e : QEntry) (els : Elems) (s : State) : Eff :=
  s.needZero (s.giveX e (match s.hart.kset e els with | p :: _ => BitVec.ofNat 64 p.1 | [] => BitVec.allOnes 64))

/-- `KIOTA` (R188): each active element takes the number of lower active elements whose ks2 bit is 1. -/
def effKiota (e : QEntry) (els : Elems) (s : State) : Eff :=
  let h := s.hart
  s.needZero (s.needSew (h.sew ≤ 3) (s.vmap e.fd e.fk h.perReg h.width els fun i _ =>
    (((h.kset e els).filter (fun q => decide (q.1 < i))).length % 2 ^ h.width, noFlags)))

/-- `VMERGE` (R190): km selects, it does not mask. -/
def effVmerge (e : QEntry) (els : Elems) (s : State) : Eff :=
  let h := s.hart
  s.vmap e.fd 0#3 h.perReg h.width els fun _ p => (h.el (if h.mask e.fk p then e.fb else e.fa) h.width p, noFlags)

/-- `VCOMPRESS` (R191). -/
def effVcompress (e : QEntry) (els : Elems) (s : State) : Eff :=
  s.needZero (s.vgatherTo e ((withIndex (s.hart.actives e.fk els) 0).map (fun m => (m.1.2, m.2))))

/-- `VEXPAND` (R191). -/
def effVexpand (e : QEntry) (els : Elems) (s : State) : Eff :=
  s.needZero (s.vgatherTo e ((withIndex (s.hart.actives e.fk els) 0).map (fun m => (m.2, m.1.2))))

/-- `KSETX` (R189). -/
def effKsetx (e : QEntry) (els : Elems) (s : State) : Eff :=
  s.kmap e.kd e.fk (els.filter (fun p => p.1 / 64 == e.opa.toNat)) fun i _ => (bit e.opb (i % 64), noFlags)

/-- `VSLIDEUP` (R192): elements below s are undisturbed. -/
def effVslideup (e : QEntry) (els : Elems) (s : State) : Eff :=
  s.vmove e (els.filter (fun p => decide (e.opb.toNat ≤ p.1))) fun h p => h.el e.fa h.width (p - e.opb.toNat)

/-- `VSLIDEDN` (R192). -/
def effVslidedn (e : QEntry) (els : Elems) (s : State) : Eff :=
  s.vmove e els fun h p => h.elOr0 e.fa (p + e.opb.toNat)

/-- `VPERMV` (R192): at POS the index is bits [31:0]. -/
def effVpermv (e : QEntry) (els : Elems) (s : State) : Eff :=
  s.vmove e els fun h p => h.elOr0 e.fa (if h.sew = 4 then h.el e.fb 128 p % 2 ^ 32 else h.el e.fb h.width p)

/-- `VBCAST` (R192). -/
def effVbcast (e : QEntry) (els : Elems) (s : State) : Eff := s.vmove e els fun h _ => h.elOr0 e.fa e.opb.toNat

/-- `VEXTRACT` (R193): a guarded-off one, with no element below the count, returns 0. -/
def effVextract (e : QEntry) (els : Elems) (s : State) : Eff :=
  let h := s.hart
  s.needZero (s.needSew (h.sew ≤ 3) (s.giveX e (
    if els.isEmpty then 0#64 else BitVec.ofInt 64 (sextNat h.width (h.elOr0 e.fa e.opb.toNat)))))

/-- `VINSERT` (R193). -/
def effVinsert (e : QEntry) (els : Elems) (s : State) : Eff :=
  let h := s.hart
  s.needSew (h.sew ≤ 3) (s.vmap e.fd 0#3 h.perReg h.width (els.filter (fun p => p.1 == e.opa.toNat)) fun _ _ =>
    (e.opb.toNat % 2 ^ h.width, noFlags))

/-- `VILV` (R194): pair element 2i from vs1, 2i + 1 from vs2. -/
def effVilv (e : QEntry) (els : Elems) (s : State) : Eff :=
  let h := s.hart
  let act := h.actives e.fk els
  let twice := (act.map (fun p => [(p.2, 2 * p.2), (p.2, 2 * p.2 + 1)])).flatten
  s.needZero (s.vmap e.fd 0#3 h.perReg h.width twice fun i q => (h.el (if q % 2 = 0 then e.fa else e.fb) h.width i, noFlags))

/-- `VDILV` (R194): vd takes the even elements of the pair vs1, vd + 1 the odd ones. -/
def effVdilv (e : QEntry) (els : Elems) (s : State) : Eff :=
  let h := s.hart
  let per := h.perReg
  let act := h.actives e.fk els
  let twice := (act.map (fun p => [(2 * p.2, p.2), (2 * p.2 + 1, per + p.2)])).flatten
  s.needZero (s.vmap e.fd 0#3 per h.width twice fun i _ => (h.elGroup e.fa per h.width i, noFlags))

/-- `VID` (R195). -/
def effVid (e : QEntry) (els : Elems) (s : State) : Eff :=
  let h := s.hart
  s.needSew (h.sew ≤ 3) (s.vmap e.fd e.fk h.perReg h.width els fun i _ => (i % 2 ^ h.width, noFlags))

/-- `VRAND` (R196). -/
def effVrand (e : QEntry) (els : Elems) (s : State) : Eff :=
  let h := s.hart
  s.needSew (h.sew ≤ 3) (s.vmap e.fd e.fk h.perReg h.width els fun i _ =>
    let (w0, w1, _, _) := philox h.csr.rkey (e.opa + BitVec.ofNat 64 i)
    ((w0.toNat + w1.toNat * 2 ^ 32) % 2 ^ h.width, noFlags))

/-- `VMV` from vs2 (R195). -/
def effVmvV (e : QEntry) (els : Elems) (s : State) : Eff :=
  let h := s.hart
  s.vmap e.fd e.fk h.perReg h.width els fun _ p => (h.el e.fb h.width p, noFlags)

/-- `VMV` from xs2 (R195). -/
def effVmvX (e : QEntry) (els : Elems) (s : State) : Eff :=
  let h := s.hart
  s.needSew (h.sew ≤ 3) (s.vmap e.fd e.fk h.perReg h.width els fun _ _ => (e.opb.toNat % 2 ^ h.width, noFlags))

/-- `VREDSUM` (R197). -/
def effVredsum (e : QEntry) (els : Elems) (s : State) : Eff := s.vreduce e els vAdd
/-- `VREDMIN` (R197). -/
def effVredmin (e : QEntry) (els : Elems) (s : State) : Eff := s.vreduce e els vMin
/-- `VREDMAX` (R197). -/
def effVredmax (e : QEntry) (els : Elems) (s : State) : Eff := s.vreduce e els vMax
/-- `VREDMINN` (R197). -/
def effVredminn (e : QEntry) (els : Elems) (s : State) : Eff := s.vreduce e els (fun _ a b => min a b)
/-- `VREDMAXN` (R197). -/
def effVredmaxn (e : QEntry) (els : Elems) (s : State) : Eff := s.vreduce e els (fun _ a b => max a b)
/-- `VREDAND` (R197). -/
def effVredand (e : QEntry) (els : Elems) (s : State) : Eff := s.vreduce e els (fun _ a b => a &&& b)
/-- `VREDOR` (R197). -/
def effVredor (e : QEntry) (els : Elems) (s : State) : Eff := s.vreduce e els (fun _ a b => a ||| b)
/-- `VREDXOR` (R197). -/
def effVredxor (e : QEntry) (els : Elems) (s : State) : Eff := s.vreduce e els (fun _ a b => a ^^^ b)

/-- `VWSUM` (R197): the 2w-bit sum of the start value and the sign-extended elements. -/
def effVwsum (e : QEntry) (els : Elems) (s : State) : Eff :=
  let h := s.hart
  let w := h.width
  let act := h.actives e.fk els
  s.needZero (s.needSew (h.sew ≤ 2) (
    if act.isEmpty then .done s
    else
      let r := act.foldl (fun a p => wrapTo (2 * w) (sextNat (2 * w) a + sextNat w (h.el e.fb w p.2))) (h.el e.fa (2 * w) 0)
      .done (s.onHart (fun h => h.setV e.fd (setElem (h.getV e.fd) (2 * w) 0 (BitVec.ofNat (2 * w) r))))))

/-- `VFSUM` (R166, R198). -/
def effVfsum (e : QEntry) (els : Elems) (s : State) : Eff := s.vfreduce e els fpSum
/-- `VFSUMO` (R166, R198). -/
def effVfsumo (e : QEntry) (els : Elems) (s : State) : Eff := s.vfreduce e els fpSumOrdered
/-- `VFREDMIN` (R198). -/
def effVfredmin (e : QEntry) (els : Elems) (s : State) : Eff := s.vfreduce e els (fpRedMinMax false)
/-- `VFREDMAX` (R198). -/
def effVfredmax (e : QEntry) (els : Elems) (s : State) : Eff := s.vfreduce e els (fpRedMinMax true)

/-- `VBSHL` (R199). -/
def effVbshl (e : QEntry) (els : Elems) (s : State) : Eff :=
  s.vstring e els (fun b a _ n => if b ≤ n then 0 else a * 2 ^ n % 2 ^ b)
/-- `VBSHR` (R199). -/
def effVbshr (e : QEntry) (els : Elems) (s : State) : Eff :=
  s.vstring e els (fun b a _ n => if b ≤ n then 0 else a / 2 ^ n)
/-- `VBFUN` (R199). -/
def effVbfun (e : QEntry) (els : Elems) (s : State) : Eff :=
  s.vstring e els (fun b a d n => if 2 * b ≤ n then 0 else (a * 2 ^ b + d) / 2 ^ n % 2 ^ b)

/-- `VTERNLOG` (R200): no mask. -/
def effVternlog (e : QEntry) (els : Elems) (s : State) : Eff :=
  let h := s.hart
  let w := h.width
  s.vmap e.fd 0#3 h.perReg w els fun _ p =>
    (ternlog w (bits e.words 23 8) (h.el e.fd w p) (h.el e.fa w p) (h.el e.fb w p), noFlags)

end Sys2Proof.Machine
end

