-- ==== Sys2Proof/Machine/VMatrix.lean ====
section
/-! DEFINITION. The matrix unit (R201 to R216). -/

namespace Sys2Proof.Machine

/-- The live clusters of the hart's stable (R50). -/
def State.liveClusters (s : State) : Nat := (s.stableAt s.hart.stable).live

/-! ## Mode and shape (R203, R205, R206) -/

/-- `MMODE` (R203). -/
def effMmode (e : QEntry) (_ : Elems) (s : State) : Eff :=
  s.needZero (
    if e.opa.toNat / 4 ≠ 0 then s.startFault { cause := 0x62, tval := e.opa }
    else .done (s.onHart (fun h => { h with csr := { h.csr with mmode := e.opa &&& 3#64 } })))

/-- The `mshape` image that a request is granted (R205). -/
def shapeGrant (req : Word) (els live : Nat) : Word :=
  let m := min (bits req 0 8) (8 * live)
  let n := bits req 8 8
  let k := bits req 16 16
  let ks := min 16 (els / max m n)
  let ks := if k ≠ 0 then min ks k else ks
  BitVec.ofNat 64 (m + n * 2 ^ 8 + ks * 2 ^ 16 + ks * max m n * 2 ^ 32)

/-- `MSHAPE` (R205): the request is checked before the SEW. -/
def effMshape (e : QEntry) (_ : Elems) (s : State) : Eff :=
  s.needZero (
    let q := e.opa
    let m := bits q 0 8
    let n := bits q 8 8
    if m = 0 ∨ 128 < m ∨ n = 0 ∨ 128 < n ∨ bits q 32 32 ≠ 0 then s.startFault { cause := 0x62, tval := q }
    else
      s.needSew (s.hart.sew ≤ 2) (
        let w := shapeGrant q s.hart.perReg s.liveClusters
        .done (s.onHart (fun h => { h with csr := { h.csr with mshape := w } }.setX e.fd w))))

/-- The shape is unusable (R206). -/
def State.badShape (s : State) : Bool :=
  let h := s.hart
  let m := h.shM
  let n := h.shN
  let ks := h.shKs
  m == 0 || decide (128 < m) || n == 0 || decide (128 < n) || ks == 0 || decide (16 < ks) ||
  h.shMvl != ks * max m n || decide (8 * s.liveClusters < m)

/-- The stop of an unusable shape (R206). -/
def State.shapeStop (s : State) : Stop := { cause := 0x62, tval := s.hart.csr.mshape }

/-! ## Cells -/

/-- Cell (m, n) of a tile (R84). -/
def cell (t : Tile) (m n : Nat) : Nat := (elem t 32 (128 * m + n)).toNat

/-- A tile with cell (m, n) replaced. -/
def setCell (t : Tile) (m n v : Nat) : Tile := setElem t 32 (128 * m + n) (BitVec.ofNat 32 v)

/-- The cells of a region of m rows and n columns, row by row. -/
def cellsOf (m n : Nat) : List (Nat × Nat) := (countFrom 0 m).flatMap (fun r => (countFrom 0 n).map (fun c => (r, c)))

/-- The first failing word of a tile among cells (R215), with the stop it raises. -/
def Hart.badCell (h : Hart) (tile : Nat) (cs : List (Nat × Nat)) : Option BadWord :=
  if h.bad.isEmpty then none
  else
    match findBy (fun rc : Nat × Nat => h.bad.any (fun b => b.tile && b.reg == tile && b.elem == rc.2 && b.lane == rc.1)) cs with
    | some rc => some { tile := true, reg := tile, elem := rc.2, lane := rc.1 }
    | none => none

/-- A lane data error and its `tval`: a second one does not overwrite `errinfo` (R215); a class 5 record and its event (R366, R36), and the
class 3 record of R365 (log 117). -/
def State.laneError (s : State) (reg el lane tval : Nat) : State × Stop :=
  let t := s.onHart (fun h =>
    if bit h.csr.errinfo 63 then h
    else { h with csr := { h.csr with errinfo := BitVec.ofNat 64 (2 ^ 63 + reg * 2 ^ 32 + el % 8192 * 2 ^ 16 + lane) } })
  ((t.contain (t.hartRecord 5 0x69 tval)).logAll (t.hartRecord 3 0x69 tval), stopAt 0x69 tval)

/-- The stop of a failing tile cell (R215). -/
def State.cellStop (s : State) (b : BadWord) : Eff :=
  let (t, c) := s.laneError b.reg b.elem b.lane (2 ^ 63 + b.elem * 2 ^ 16 + b.lane * 2 ^ 8 + b.reg)
  t.startFault c

/-- The stop of a failing word of a v register at an element (R215). -/
def State.wordStop (s : State) (b : BadWord) (el : Nat) : State × Stop := s.laneError b.reg el b.lane (el % 65536 * 2 ^ 32)

/-- A reader of tile cells: 0x69 where one of them is failing, else what follows (R215). -/
def State.readCells (s : State) (tile : Nat) (cs : List (Nat × Nat)) (k : Eff) : Eff :=
  match s.hart.badCell tile cs with
  | some b => s.cellStop b
  | none => k

/-- Cells written are no longer failing. -/
def Hart.healCells (h : Hart) (tile : Nat) (cs : List (Nat × Nat)) : Hart :=
  if h.bad.isEmpty then h
  else { h with bad := h.bad.filter (fun b => !(b.tile && b.reg == tile && cs.any (fun rc => rc == (b.lane, b.elem)))) }

/-! ## The sum of a cell (R167, R207 to R209) -/

/-- The format of a tile form's operand code (R73, R207). -/
def Hart.tileFmt (h : Hart) (c : Nat) : FpFmt :=
  if c = 0 then fmtF32 else if c = 1 then fmtH else if c = 2 then fmtBf else h.fmtB8

/-- A scale (R209): 1 where the register field is x0. -/
def scaleOf (reg : Nat) (x : Word) : FVal := if reg = 0 then .fin false 1 0 else fmtF32.decode (x.toNat % 2 ^ 32)

/-- A scaled operand: none where it gives NaN with invalid (R167, R209). -/
def scaled (sc v : FVal) : Option FVal :=
  match sc, v with
  | .fin _ _ _, .nan _ => none
  | .fin _ _ _, _ => exactMul sc v
  | _, _ => none

/-- A product of scaled operands, with its sign (R207, R208). -/
def product (neg : Bool) (a b : Option FVal) : Option FVal :=
  match a, b with
  | some x, some y => (exactMul x y).map (fun p => if neg then p.negate else p)
  | _, _ => none

/-- An exact sum of finite values: an integer times a power of two. -/
structure ISum where
  i : Int
  e : Int

/-- The sum with ± m * 2^e added. -/
def ISum.add (t : ISum) (n : Bool) (m : Nat) (e : Int) : ISum :=
  let lo := min t.e e
  let v : Int := (m <<< (e - lo).toNat : Nat)
  { i := t.i * (2 : Int) ^ (t.e - lo).toNat + (if n then -v else v), e := lo }

/-- The addend and the products of one cell summed exactly (R167): the finite sum, whether some value is +∞ or -∞, whether
every one is -0. -/
structure WideSum where
  sum  : ISum
  pinf : Bool
  ninf : Bool
  negz : Bool

/-- A value added to a wide sum. -/
def WideSum.add (t : WideSum) (v : FVal) : WideSum :=
  match v with
  | .nan _ => t
  | .inf n => { t with pinf := t.pinf || !n, ninf := t.ninf || n, negz := false }
  | .fin n m e => { t with sum := t.sum.add n m e, negz := t.negz && n && m == 0 }

/-- z + Σ P exactly, rounded once to FP32 (R167). -/
def accumulateWide (rm : RMode) (z : FVal) (ps : List (Option FVal)) : Nat × Flags :=
  let env := FpEnv.scalar rm
  let t := ps.foldl (fun t p => match p with | some v => t.add v | none => t)
    (WideSum.add { sum := { i := 0, e := 0 }, pinf := false, ninf := false, negz := true } z)
  let bad := ps.any (fun p => p.isNone) || (t.pinf && t.ninf) || z.isSig
  if bad || z.isNan then deliverNan fmtF32 (flagIf bad flagNv)
  else if t.pinf || t.ninf then deliverInf fmtF32 env t.ninf true
  else if t.sum.i = 0 then deliver fmtF32 env (t.negz || rm == .rdn) 0 0 false
  else deliver fmtF32 env (decide (t.sum.i < 0)) t.sum.i.natAbs t.sum.e false

/-- The terms added one at a time by fused steps (R167). -/
def accumulateFused (rm : RMode) (z : Nat) (ps : List (Option FVal)) : Nat × Flags :=
  ps.foldl (fun acc p =>
    let zv := fmtF32.decode acc.1
    match p with
    | none => (fmtF32.nan, acc.2 ||| flagNv)
    | some v => let (r, fl) := fpAddV fmtF32 (FpEnv.scalar rm) zv v; (r, acc.2 ||| fl)) (z, noFlags)

/-- The layout in which B is read (R208). -/
inductive TileKind where
  | acc | sub | accw
  deriving DecidableEq, Repr

/-- The operands of a tile form, as its words and the captured scales give them (R73, R209). -/
structure TileForm where
  kind : TileKind
  zd   : Nat
  fa   : Nat
  fb   : Nat
  rm   : RMode
  kk   : Nat
  ka   : KReg
  kb   : KReg
  sa   : FVal
  sb   : FVal

/-- The form of an entry. -/
def Hart.tileForm (h : Hart) (e : QEntry) (kind : TileKind) : TileForm :=
  let kdep := bits e.words 48 4
  let r := bits e.words 29 3
  { kind := kind, zd := bits e.words 8 1, fa := bits e.words 23 3, fb := bits e.words 26 3, rm := h.roundField r,
    kk := if kdep ≠ 0 then kdep else h.shKs, ka := e.words.extractLsb' 42 3, kb := e.words.extractLsb' 45 3,
    sa := scaleOf (bits e.words 32 5) e.opa, sb := scaleOf (bits e.words 37 5) e.opb }

/-- The index of B's element (R208). -/
def TileForm.ib (f : TileForm) (n k col : Nat) : Nat :=
  match f.kind with
  | .accw => col * f.kk + k
  | _ => k * n + col

/-- The k of the terms of cell (r, c) that no mask takes out (R207). -/
def Hart.termKs (h : Hart) (f : TileForm) (r c : Nat) : List Nat :=
  (countFrom 0 f.kk).filter (fun k => h.mask f.ka (k * h.shM + r) && h.mask f.kb (f.ib h.shN k c))

/-- The terms of cell (r, c) (R207). -/
def Hart.terms (h : Hart) (f : TileForm) (va vb : VReg) (r c : Nat) : List (Option FVal) :=
  let fa := h.tileFmt f.fa
  let fb := h.tileFmt f.fb
  (h.termKs f r c).map (fun k =>
    product (f.kind == .sub)
      (scaled f.sa (fa.decode (elem va fa.width (k * h.shM + r)).toNat))
      (scaled f.sb (fb.decode (elem vb fb.width (f.ib h.shN k c)).toNat)))

/-- The first failing word that a tile form reads (R215): an element of A or B of a term, or a cell that has a term. Of a word
of a v register, the element is given with it. -/
def Hart.badTerm (h : Hart) (e : QEntry) (f : TileForm) (cs : List (Nat × Nat)) : Option (BadWord × Nat) :=
  if h.bad.isEmpty then none
  else
    let at' (reg : Reg) (w i : Nat) : Option (BadWord × Nat) :=
      (findBy ({ i := i, reg := reg.toNat, lo := i * w, len := w : Span }.meets) h.bad).map fun b => (b, i)
    firstOf (fun rc : Nat × Nat =>
      let ks := h.termKs f rc.1 rc.2
      match firstOf (fun k => (at' e.fa (h.tileFmt f.fa).width (k * h.shM + rc.1)).or
          (at' e.fb (h.tileFmt f.fb).width (f.ib h.shN k rc.2))) ks with
      | some b => some b
      | none => if ks.isEmpty then none else (h.badCell f.zd [rc]).map fun b => (b, b.elem)) cs

/-- A cell's new value and flags; none where every term is masked off (R207). -/
def Hart.cellSum (h : Hart) (f : TileForm) (va vb : VReg) (t : Tile) (r c : Nat) : Option (Nat × Flags) :=
  match h.terms f va vb r c with
  | [] => none
  | p :: ps =>
    let z := cell t r c
    some (if f.fa = 0 ∨ f.fb = 0 then accumulateFused f.rm z (p :: ps) else accumulateWide f.rm (fmtF32.decode z) (p :: ps))

/-- A tile form (R207): the shape and the operands are checked at its start (R206), a redundant form needs two live row
groups (R214, R216, log 126); then every cell of the region, in the tile and its check copy alike. -/
def State.tileOp (s : State) (e : QEntry) (kind : TileKind) : Eff :=
  s.needZero (
    let h := s.hart
    let f := h.tileForm e kind
    let redundant := h.mRed || bit e.words 52
    let big (code dim : Nat) : Bool := decide (h.vlmax / (h.tileFmt code).width < f.kk * dim)
    if s.badShape || decide (h.shKs < f.kk) || big f.fa h.shM || big f.fb h.shN ||
        (redundant && decide (s.liveClusters < 2)) then
      s.startFault s.shapeStop
    else
      let cs := cellsOf h.shM h.shN
      let t := h.getZ f.zd
      let va := h.getV e.fa
      let vb := h.getV e.fb
      match h.badTerm e f cs with
      | some (b, el) => if b.tile then s.cellStop b else let (t, c) := s.wordStop b el; t.startFault c
      | none =>
        let (u, fl, wrote) := cs.foldl (fun acc rc =>
          match h.cellSum f va vb t rc.1 rc.2 with
          | none => acc
          | some (v, g) => (setCell acc.1 rc.1 rc.2 v, acc.2.1 ||| g, true)) (t, noFlags, false)
        if !wrote then .done s
        else
          -- cells that are not written keep what their check copy held
          let chk := cs.foldl (fun acc rc =>
            match h.cellSum f va vb t rc.1 rc.2 with
            | none => acc
            | some (v, _) => setCell acc rc.1 rc.2 v) (h.getChk f.zd)
          .done (s.onHart (fun h => (h.setZ f.zd u chk).orFlags fl)))

/-- `OPACC` (R207, R208). -/
def effOpacc (e : QEntry) (_ : Elems) (s : State) : Eff := s.tileOp e .acc
/-- `OPSUB` (R207, R208). -/
def effOpsub (e : QEntry) (_ : Elems) (s : State) : Eff := s.tileOp e .sub
/-- `OPACCW` (R207, R208). -/
def effOpaccw (e : QEntry) (_ : Elems) (s : State) : Eff := s.tileOp e .accw

/-! ## Slices (R210, R211) -/

/-- `MZERO` (R211). -/
def effMzero (e : QEntry) (_ : Elems) (s : State) : Eff :=
  s.needZero (.done (s.onHart (fun h => (h.setZ (bits e.words 8 1) 0#524288 0#524288).healCells (bits e.words 8 1) (cellsOf 128 128))))

/-- The checks of a slice move (R210): SEW 32; a row or column below 128, unless it is guarded off (R134). -/
def State.slice (s : State) (e : QEntry) (els : Elems) (k : Nat → Eff) : Eff :=
  s.needZero (s.needSew (s.hart.sew == 2) (
    if (s.hart.actives e.fk els).isEmpty then .done s
    else if 128 ≤ e.opb.toNat then s.startFault { cause := 0x62, tval := e.opb } else k e.opb.toNat))

/-- The active elements of a slice move: those below 128. -/
def Hart.sliceEls (h : Hart) (e : QEntry) (els : Elems) : Elems := (h.actives e.fk els).filter (fun p => decide (p.1 < 128))

/-- Elements of a tile slice into a v register. -/
def State.fromTile (s : State) (e : QEntry) (els : Elems) (at' : Nat → Nat × Nat) : Eff :=
  let z := bits e.words 13 1
  let act := s.hart.sliceEls e els
  s.readCells z (act.map (fun p => at' p.1)) (
    .done (act.foldl (fun s p => s.setEl e.fd 32 p.2 (cell (s.hart.getZ z) (at' p.1).1 (at' p.1).2)) s))

/-- Elements of a v register into a tile slice and its check copy. -/
def State.toTile (s : State) (e : QEntry) (els : Elems) (at' : Nat → Nat × Nat) : Eff :=
  let z := bits e.words 8 1
  let act := s.hart.sliceEls e els
  if act.isEmpty then .done s
  else
    .done (s.onHart (fun h =>
      let put (t : Tile) : Tile := act.foldl (fun t p => setCell t (at' p.1).1 (at' p.1).2 (h.el e.fa 32 p.2)) t
      (h.setZ z (put (h.getZ z)) (put (h.getChk z))).healCells z (act.map (fun p => at' p.1))))

/-- `MROWV` (R210). -/
def effMrowv (e : QEntry) (els : Elems) (s : State) : Eff := s.slice e els (fun r => s.fromTile e els (fun j => (r, j)))
/-- `MVROW` (R210). -/
def effMvrow (e : QEntry) (els : Elems) (s : State) : Eff := s.slice e els (fun r => s.toTile e els (fun j => (r, j)))
/-- `MCOLV` (R210). -/
def effMcolv (e : QEntry) (els : Elems) (s : State) : Eff := s.slice e els (fun r => s.fromTile e els (fun j => (j, r)))
/-- `MVCOL` (R210). -/
def effMvcol (e : QEntry) (els : Elems) (s : State) : Eff := s.slice e els (fun r => s.toTile e els (fun j => (j, r)))

/-! ## Loading and draining a region (R212, R213) -/

/-- The address of a cell (R212, R213). -/
def cellAddr (e : QEntry) (rc : Nat × Nat) : Nat := (e.opa.toNat + rc.1 * e.opb.toNat + 4 * rc.2) % 2 ^ 64

/-- What the checks of a region find: the fault of the lowest address so far, and whether some access waits. -/
structure Checked where
  s    : State
  low  : Option (Nat × Stop)
  wait : Bool

/-- Every cell of a region checked, by `f` at its address (R212, R213). -/
def State.checkCells (s : State) (f : State → Nat → Res Nat) (as : List Nat) : Checked :=
  as.foldl (fun acc a =>
    match f acc.s a with
    | .ok _ t => { acc with s := t }
    | .wait t => { acc with s := t, wait := true }
    | .stop c t =>
      match acc.low with
      | some (b, _) => if a < b then { acc with s := t, low := some (a, c) } else { acc with s := t }
      | none => { acc with s := t, low := some (a, c) }) { s := s, low := none, wait := false }

/-- What follows when every cell passes; the fault of the lowest address else. -/
def Checked.andThen (c : Checked) (k : State → Eff) : Eff :=
  if c.wait then .wait 0 c.s
  else
    match c.low with
    | some (_, st) => .fault 0 st c.s
    | none => k c.s

/-- `MLOAD` (R212): the shape, then the alignment of base and stride, then every byte, data errors included. -/
def effMload (e : QEntry) (_ : Elems) (s : State) : Eff :=
  s.needZero (
    let h := s.hart
    let z := bits e.words 8 1
    if s.badShape then s.startFault s.shapeStop
    else if e.opa.toNat % 4 ≠ 0 then s.startFault { cause := 0x40, tval := e.opa }
    else if e.opb.toNat % 4 ≠ 0 then s.startFault { cause := 0x40, tval := e.opb }
    else
      let cs := cellsOf h.shM h.shN
      -- R220 names no footprint for a region: it is taken as a strided access (log 104)
      let f := h.shM * e.opb.toInt.natAbs
      if cs.any (fun rc => h.bars (cellAddr e rc) 4) then .wait 0 s
      else
        (s.checkCells (fun s a => s.loadVec f a 4 4 true) (cs.map (cellAddr e))).andThen fun s =>
          match cs.foldl (fun acc rc =>
            match acc with
            | .ok (t, chk) s =>
              (s.loadVec f (cellAddr e rc) 4 4 true).bind fun v s => .ok (setCell t rc.1 rc.2 v, setCell chk rc.1 rc.2 v) s
            | r => r) (Res.ok (s.hart.getZ z, s.hart.getChk z) s) with
          | .ok (t, chk) s => .done (s.onHart (fun h => (h.setZ z t chk).healCells z cs))
          | .stop c s => .fault 0 c s
          | .wait s => .wait 0 s)

/-- The bridle range of a drain (R213). -/
def drainRange (e : QEntry) (m n : Nat) : Range := { lo := e.opa.toNat, len := (m - 1) * e.opb.toNat + 4 * n }

/-- `MDRAIN`, its entry phase (R213): the checks in their order, the copy into the drain buffer, the bridle entry. -/
def effMdrain (e : QEntry) (_ : Elems) (s : State) : Eff :=
  s.needZero (
    let h := s.hart
    let z := bits e.words 8 1
    if s.badShape then s.startFault s.shapeStop
    else if e.opb.toNat < 4 * h.shN ∨ e.opb.toNat % 4 ≠ 0 then s.startFault { cause := 0x62, tval := e.opb }
    else if e.opa.toNat % 4 ≠ 0 then s.startFault { cause := 0x40, tval := e.opa }
    else
      let cs := cellsOf h.shM h.shN
      s.readCells z cs (
        match findBy (fun rc : Nat × Nat => cell (h.getZ z) rc.1 rc.2 != cell (h.getChk z) rc.1 rc.2) cs with
        | some rc => s.startFault (stopAt 0x68 (z + rc.1 * 2 ^ 8 + rc.2 * 2 ^ 16))
        | none =>
          (s.checkCells (fun s a => (s.access a 4 4 .store false).bind fun _ s => .ok 0 s) (cs.map (cellAddr e))).andThen fun s =>
            if 16 ≤ s.hart.bridle.length then .wait 0 s
            else
              let rows := (countFrom 0 h.shM).map (fun r =>
                { bytes := (countFrom 0 h.shN).flatMap (fun c => toBytes 4 (cell (h.getZ z) r c)), bad := [] : DrainRow })
              .done (s.takeBridle (s.newTransfer (.drain e.opa.toNat e.opb.toNat rows) [] [drainRange e h.shM h.shN] 0 e.fence))))

end Sys2Proof.Machine
end

