-- ==== Sys2Proof/Machine/VFrames.lean ====
section
/-! DEFINITION. Positions, frames and cell tables (R238 to R263). -/

namespace Sys2Proof.Machine

/-! ## Position elements and tags (R238, R239) -/

/-- The tag of an index, a generation and a kind (R239). -/
def mkTag (index gen kind : Nat) : Nat := index % 2 ^ 24 * 256 + gen % 128 * 2 + kind % 2
/-- `index` of a tag. -/
def tagIndex (t : Nat) : Nat := t / 256 % 2 ^ 24
/-- `gen` of a tag. -/
def tagGen (t : Nat) : Nat := t / 2 % 128
/-- `kind` of a tag: 0 point, 1 direction. -/
def tagKind (t : Nat) : Nat := t % 2

/-- A position: its three FP32 codes and its tag (R238). -/
structure Pos where
  c   : List Nat
  tag : Nat

/-- A position element. -/
def posOf (v : Nat) : Pos := { c := [v % 2 ^ 32, v / 2 ^ 32 % 2 ^ 32, v / 2 ^ 64 % 2 ^ 32], tag := v / 2 ^ 96 }

/-- The element of three codes and a tag. -/
def packPos (c : List Nat) (tag : Nat) : Nat :=
  c.headD 0 + (c.drop 1).headD 0 * 2 ^ 32 + (c.drop 2).headD 0 * 2 ^ 64 + tag % 2 ^ 32 * 2 ^ 96

/-! ## Table entries (R240 to R242) -/

/-- An entry of the frame table (R241). -/
structure Frame where
  state    : Nat
  gen      : Nat
  depth    : Nat
  tonly    : Bool
  cell     : Bool
  ext      : Int
  parent   : Nat
  rot      : List Nat
  tr       : List Int
  fwd      : Nat
  nkids    : Nat
  axes     : Nat
  plane    : List Int
  reserved : Bool

/-- The bits [lo, lo + n) of a number. -/
def nbits (v lo n : Nat) : Nat := v / 2 ^ lo % 2 ^ n

/-- An entry from its 128 bytes (R241). -/
def frameOf (v : Nat) : Frame :=
  { state := nbits v 0 2, gen := nbits v 2 7, depth := nbits v 9 5, tonly := nbits v 14 1 == 1, cell := nbits v 15 1 == 1,
    ext := sextNat 8 (nbits v 16 8), parent := nbits v 40 24,
    rot := (countFrom 0 9).map (fun k => nbits v (64 + 32 * k) 32),
    tr := (countFrom 0 3).map (fun a => sextNat 64 (nbits v (384 + 64 * a) 64)),
    fwd := nbits v 576 32, nkids := nbits v 608 8, axes := nbits v 616 3,
    plane := (countFrom 0 3).map (fun a => sextNat 64 (nbits v (640 + 64 * a) 64)),
    reserved := nbits v 24 8 != 0 || nbits v 352 32 != 0 || nbits v 619 21 != 0 || nbits v 832 192 != 0 }

/-- The frame walkers as the one who accesses: the hart's context with rider rights (R240, R358). -/
def State.walkerWho (s : State) : Who := { s.hartWho false with rider := true }

/-- Entry `n` read whole, as a read of the hart (R237, R285, R290); an index at or above `ftlimit` raises 0x86 (R240, R243). -/
def State.rawFrame (s : State) (n : Nat) : Res Frame :=
  if bits s.hart.csr.ftlimit 0 24 ≤ n then .stop (stopAt 0x86 (mkTag n 0 0)) s
  else
    let a := (bits s.hart.csr.ftbase 7 49 * 128 + 128 * n) % 2 ^ 64
    if s.hart.bars a 128 then .wait s
    else
      (s.accessAs s.walkerWho a 128 128 .load).bind fun p s =>
        let s := match p with | .phys pa _ => s.settleGroup pa 128 | .pad _ => s
        let (v, s) := s.readPlace p 128
        .ok (frameOf v) s

/-- The number of bits set among the lowest three. -/
def pop3 (n : Nat) : Nat := n % 2 + n / 2 % 2 + n / 4 % 2

/-- An FP32 code that is a NaN or an infinity. -/
def notFinite (c : Nat) : Bool := match fmtF32.decode c with | .fin _ _ _ => false | _ => true

/-- What an entry alone shows to be malformed (R242). -/
def Frame.bad (f : Frame) (limit : Nat) : Bool :=
  f.reserved || f.state == 0 || (!f.tonly && f.rot.any notFinite) ||
  (f.state == 2 && (f.axes == 0 || f.nkids != 2 ^ pop3 f.axes || decide (limit < tagIndex f.fwd + f.nkids))) ||
  (f.parent == 0 && f.depth != 0)

/-- An entry that a walker meets, checked by R242: its parent is read for it. -/
def State.frame (s : State) (n : Nat) : Res Frame :=
  (s.rawFrame n).bind fun f s =>
    let bad := stopAt 0x87 (mkTag n f.gen 0)
    if f.bad (bits s.hart.csr.ftlimit 0 24) then .stop bad s
    else if f.parent = 0 then .ok f s
    else
      (s.rawFrame f.parent).bind fun p s =>
        if p.state = 0 ∨ p.state = 3 ∨ f.depth ≠ p.depth + 1 then .stop bad s else .ok f s

/-! ## Exact sums -/

/-- An exact sum of terms, none standing for 0 × ∞: its value and the flags that IEEE 754 gives it (R245, R246). -/
def exactSum (ts : List (Option FVal)) : FVal × Flags :=
  let t := ts.foldl (fun (t : WideSum) p => match p with | some v => t.add v | none => t)
    { sum := { i := 0, e := 0 }, pinf := false, ninf := false, negz := true }
  let nan := ts.any (fun p => match p with | some v => v.isNan | none => true)
  let bad := ts.any (fun p => match p with | some v => v.isSig | none => true)
  if nan then (.nan false, flagIf bad flagNv)
  else if t.pinf && t.ninf then (.nan false, flagNv)
  else if t.pinf || t.ninf then (.inf t.ninf, noFlags)
  else if t.sum.i = 0 then (.fin t.negz 0 0, noFlags)
  else (.fin (decide (t.sum.i < 0)) t.sum.i.natAbs t.sum.e, noFlags)

/-- An exact sum rounded once to FP32 by RNE (R246). -/
def roundSum (ts : List (Option FVal)) : Nat × Flags :=
  let (v, fl) := exactSum ts
  let (r, g) := deliverVal fmtF32 (FpEnv.scalar .rne) v
  (r, fl ||| g)

/-- Entry (r, c) of a matrix of nine codes, as an exact value. -/
def rotAt (m : List Nat) (r c : Nat) : FVal := fmtF32.decode ((nth m (3 * r + c)).getD 0)

/-- The identity matrix. -/
def rotId : List Nat := [0x3F800000, 0, 0, 0, 0x3F800000, 0, 0, 0, 0x3F800000]

/-- A product of matrices, each entry a fused dot product rounded once by RNE (R244); `tr` transposes the first. -/
def rotMul (tr : Bool) (a b : List Nat) : List Nat :=
  (countFrom 0 9).map (fun i =>
    (roundSum ((countFrom 0 3).map (fun k =>
      exactMul (if tr then rotAt a k (i / 3) else rotAt a (i / 3) k) (rotAt b k (i % 3))))).1)

/-- The nearest integer of an exact value, ties to even (`round_fix` of R244 on values in units of 2^-24). -/
def roundFix (v : FVal) : Int :=
  match v with
  | .fin n m e => let (k, _) := roundTo .rne n 0 m e false 0; if n then -(k : Int) else k
  | _ => 0

/-- A row of a matrix (a column if `tr`) times an integer vector, rounded to an integer (R244). -/
def rotFix (tr : Bool) (m : List Nat) (j : Nat) (t : List Int) : Int :=
  roundFix (exactSum ((countFrom 0 3).map (fun k =>
    exactMul (if tr then rotAt m k j else rotAt m j k) (intVal ((nth t k).getD 0))))).1

/-! ## The walk and its composition (R243, R244) -/

/-- A frame on a chain. -/
structure Hop where
  index : Nat
  frame : Frame

/-- One side climbed by a hop: the parent is read (R243). -/
def State.climb (s : State) (l : List Hop) : Res (List Hop) :=
  match l with
  | [] => .ok [] s
  | h :: _ => (s.frame h.frame.parent).bind fun p s => .ok ({ index := h.frame.parent, frame := p } :: l) s

/-- The depth of the top of a chain. -/
def topDepth (l : List Hop) : Nat := match l with | h :: _ => h.frame.depth | [] => 0
/-- The index of the top of a chain. -/
def topIndex (l : List Hop) : Nat := match l with | h :: _ => h.index | [] => 0

/-- Both sides climbed to their common ancestor: the deeper side first, then both together (R243). The lists have their
tops first. At most 17 levels are climbed on each side. -/
def State.climbBoth (s : State) (vtag : Nat) : Nat → List Hop → List Hop → Res (List Hop × List Hop)
  | 0, a, b => .ok (a, b) s
  | n + 1, a, b =>
    if topDepth b < topDepth a then (s.climb a).bind fun a s => State.climbBoth s vtag n a b
    else if topDepth a < topDepth b then (s.climb b).bind fun b s => State.climbBoth s vtag n a b
    else if topIndex a = topIndex b then .ok (a, b) s
    else if topDepth a = 0 then .stop (stopAt 0x80 vtag) s
    else (s.climb a).bind fun a s => (s.climb b).bind fun b s => State.climbBoth s vtag n a b

/-- One side composed from the top down, the common ancestor left out: M, U, and whether some rounding gave an infinity or a NaN
(R244). -/
def composeSide (l : List Hop) : List Nat × List Int × Bool :=
  (l.drop 1).foldl (fun acc h =>
    let (m, u, bad) := acc
    let u := (countFrom 0 3).map (fun j => (nth u j).getD 0 + rotFix false m j h.frame.tr)
    if h.frame.tonly then (m, u, bad)
    else
      let m := rotMul false m h.frame.rot
      (m, u, bad || m.any notFinite)) (rotId, [0, 0, 0], false)

/-- The single transform from the chains of A and of B; none where it raises 0x87 (R244). It is translation-only where every entry of both
chains is, their common ancestor among them (R244, R245). -/
def compose (a b : List Hop) : Option Xform :=
  let (ma, ua, ba) := composeSide a
  let (mb, ub, bb) := composeSide b
  let d := (countFrom 0 3).map (fun j => (nth ua j).getD 0 - (nth ub j).getD 0)
  let tonly := (a ++ b).all (fun h => h.frame.tonly)
  let r := if tonly then rotId else rotMul true mb ma
  let t := if tonly then d else (countFrom 0 3).map (fun j => rotFix true mb j d)
  if ba || bb || r.any notFinite || t.any (fun x => decide (x < -(2 ^ 63) ∨ 2 ^ 63 ≤ x)) then none
  else some { ident := false, tonly := tonly, rot := r, tr := t }

/-- The transform of one frame into itself (R243). -/
def Xform.same : Xform := { ident := true, tonly := true, rot := rotId, tr := [0, 0, 0] }

/-- The transform from live frame `a` to live frame `b`, through the stable's cache of 256 (R247) or by a walk; `vtag` is the
tag of the value (R243). -/
def State.xform (s : State) (a b vtag : Nat) : Res Xform :=
  let ia := tagIndex a
  let ib := tagIndex b
  if ia = ib then .ok Xform.same s
  else
    let ctx := s.hart.ctx
    let base := s.hart.csr.ftbase
    let key (f : FrameEntry) : Bool :=
      f.ctx == ctx && f.ftbase == base && f.src == mkTag ia (tagGen a) 0 && f.dst == mkTag ib (tagGen b) 0
    let st := s.stableAt s.hart.stable
    match findBy key st.frames with
    | some f => .ok f.xform (s.putStable { st with frames := dropBy key st.frames ++ [f] })
    | none =>
      (s.frame ia).bind fun fa s =>
        if 16 < fa.depth then .stop (stopAt 0x83 (mkTag ia fa.gen 0)) s
        else
          (s.frame ib).bind fun fb s =>
            if 16 < fb.depth then .stop (stopAt 0x83 (mkTag ib fb.gen 0)) s
            else
              (s.climbBoth vtag 40 [{ index := ia, frame := fa }] [{ index := ib, frame := fb }]).bind fun l s =>
                match compose l.1 l.2 with
                | none => .stop (stopAt 0x87 vtag) s
                | some x =>
                  let e : FrameEntry :=
                    { ctx := ctx, ftbase := base, src := mkTag ia (tagGen a) 0, dst := mkTag ib (tagGen b) 0, xform := x,
                      via := (l.1 ++ l.2).map (fun h => h.index) }
                  let st := s.stableAt s.hart.stable
                  let kept := if 256 ≤ st.frames.length then st.frames.drop 1 else st.frames
                  .ok x (s.putStable { st with frames := kept ++ [e] })

/-- The terms of component `j` of a transformed offset (R245). -/
def Xform.terms (x : Xform) (c : List Nat) (point : Bool) (j : Nat) : List (Option FVal) :=
  let o (k : Nat) : FVal := fmtF32.decode ((nth c k).getD 0)
  let t := (nth x.tr j).getD 0
  let move := if point && !x.ident then [some (FVal.fin (decide (t < 0)) t.natAbs (-24))] else []
  if x.tonly then some (o j) :: move else (countFrom 0 3).map (fun k => exactMul (rotAt x.rot j k) (o k)) ++ move

/-- A transformed offset, rounded once per component, with its flags (R245). -/
def Xform.apply (x : Xform) (c : List Nat) (point : Bool) : List Nat × Flags :=
  (countFrom 0 3).foldl (fun acc j =>
    let (r, fl) := roundSum (x.terms c point j)
    (acc.1 ++ [r], acc.2 ||| fl)) ([], noFlags)

/-! ## Resolution (R250) -/

/-- A tag is live (R239). -/
def Frame.live (f : Frame) (tag : Nat) : Bool := f.state == 1 && f.gen == tagGen tag

/-- The child of a SPLIT frame in which an offset falls (R250). -/
def Frame.child (f : Frame) (c : List Nat) (point : Bool) : Nat :=
  if !point then 0
  else
    ((countFrom 0 3).foldl (fun acc a =>
      if f.axes / 2 ^ a % 2 = 0 then acc
      else
        let plane := (nth f.plane a).getD 0
        let ge := match fmtF32.decode ((nth c a).getD 0) with
          | .nan _ => false
          | .inf n => !n
          | .fin n m e =>
            let t := (ISum.mk 0 0).add n m e
            let t := t.add (decide (0 < plane)) plane.natAbs (-24)
            decide (0 ≤ t.i)
        (acc.1 + ge.toNat * 2 ^ acc.2, acc.2 + 1)) (0, 0)).1

/-- What a resolution gives: the position in a live frame, that frame's entry, the flags of the roundings, the hops. -/
structure Resolved where
  pos   : Pos
  frame : Frame
  flags : Flags
  hops  : Nat

/-- Forward records followed (R250): at most four hops, a fifth raises 0x82. The frame that a hop leaves is walked before the one that it
reaches is read (R243). A stale tag whose entry is malformed raises that first (log 129). -/
def State.follow (s : State) : Nat → Pos → Flags → Nat → Res Resolved
  | 0, p, _, _ => .stop (stopAt 0x82 p.tag) s
  | n + 1, p, fl, hops =>
    (s.frame (tagIndex p.tag)).bind fun f s =>
      if f.live p.tag then .ok { pos := p, frame := f, flags := fl, hops := hops } s
      else if !bit s.hart.csr.fcfg 0 then .stop (stopAt 0x81 p.tag) s
      else
        let point := tagKind p.tag == 0
        let dest : Option Nat :=
          if f.state = 2 then some (tagIndex f.fwd + f.child p.c point)
          else if f.state = 3 ∧ tagIndex f.fwd ≠ 0 then some (tagIndex f.fwd)
          else none
        match dest with
        | none => .stop (stopAt 0x81 p.tag) s
        | some d =>
          if n = 0 then .stop (stopAt 0x82 p.tag) s
          else if 16 < f.depth ∧ d ≠ tagIndex p.tag then .stop (stopAt 0x83 (mkTag (tagIndex p.tag) f.gen 0)) s
          else
            (s.frame d).bind fun g s =>
              (s.xform (mkTag (tagIndex p.tag) f.gen 0) (mkTag d g.gen 0) p.tag).bind fun x s =>
                let (c, g2) := x.apply p.c point
                State.follow s n { c := c, tag := mkTag d g.gen (tagKind p.tag) } (fl ||| g2) (hops + 1)

/-- An operand in a live frame (R250); a resolution of more than one hop asks for the clean-up of forward records. -/
def State.resolve (s : State) (p : Pos) : Res Resolved :=
  (s.follow 5 p noFlags 0).bind fun r s =>
    .ok r (if 1 < r.hops then s.agentEvent 3 0 s.hart.die s.hart.ctx (BitVec.ofNat 64 p.tag) 0#64 else s)

/-- The live tag of a resolved operand, with a kind. -/
def Resolved.tag (r : Resolved) (kind : Nat) : Nat := mkTag (tagIndex r.pos.tag) (tagGen r.pos.tag) kind

/-! ## The position instructions (R251 to R256) -/

/-- The causes of frames carry the element in [47:32] of `tval` (R251); causes of memory do not. -/
def frameCause (i : Nat) (c : Stop) : Stop :=
  if 0x80 ≤ c.cause ∧ c.cause ≤ 0x88 then { c with tval := c.tval + BitVec.ofNat 64 (i % 65536 * 2 ^ 32) } else c

/-- The loop of a position instruction whose results are `w` bits wide: SEW POS, flags and enabled traps as R246 says. -/
def State.gpos (s : State) (e : QEntry) (els : Elems) (w : Nat) (f : Nat → Nat → State → Res (Nat × Flags)) : Eff :=
  s.needSew (s.hart.sew == 4) (State.each (fun i p s =>
    match f i p s with
    | .wait s => .wait s
    | .stop c s => .stop (frameCause i c) s
    | .ok (v, fl) s =>
      let s := s.onHart (fun h => h.orFlags fl)
      match flagStop s.hart.fen fl i with
      | some c => .stop c s
      | none => .ok () (s.setEl e.fd w p v)) (s.hart.actives e.fk els) s)

/-- The position at position `p` of a register. -/
def Hart.pos (h : Hart) (r : Reg) (p : Nat) : Pos := posOf (h.el r 128 p)

/-- An untagged operand raises 0x85 (R251). -/
def needTag (s : State) (tags : List Nat) : Res Unit :=
  match findBy (fun t => tagIndex t == 0) tags with
  | some t => .stop (stopAt 0x85 t) s
  | none => .ok () s

/-- `GSUB` and `GADD` (R252): the converted component is formed first, with the flags of its exact sum (R245), then the two are combined with
one rounding. -/
def State.combine (s : State) (e : QEntry) (els : Elems) (sub : Bool) : Eff :=
  s.gpos e els 128 fun _ p s =>
    let a := s.hart.pos e.fa p
    let b := s.hart.pos e.fb p
    (needTag s [a.tag, b.tag]).bind fun _ s =>
      let kind : Option Nat :=
        match tagKind a.tag, tagKind b.tag, sub with
        | 0, 0, true => some 1
        | 0, 0, false => none
        | 0, _, _ => some 0
        | _, 0, true => none
        | _, 0, false => some 0
        | _, _, _ => some 1
      match kind with
      | none => .stop (stopAt 0x84 a.tag) s
      | some k =>
        (s.resolve a).bind fun ra s => (s.resolve b).bind fun rb s =>
          (s.xform (rb.tag 0) (ra.tag 0) rb.pos.tag).bind fun x s =>
            let comp (j : Nat) : Nat × Flags :=
              let (v, f) := exactSum (x.terms rb.pos.c (tagKind b.tag == 0) j)
              let (r, g) := roundSum [some (fmtF32.decode ((nth ra.pos.c j).getD 0)), some (if sub then v.negate else v)]
              (r, f ||| g)
            let (c, fl) := (countFrom 0 3).foldl (fun acc j =>
              let (r, f) := comp j
              (acc.1 ++ [r], acc.2 ||| f)) (([] : List Nat), noFlags)
            .ok (packPos c (ra.tag k), fl ||| ra.flags ||| rb.flags) s

/-- `GSUB` (R252). -/
def effGsub (e : QEntry) (els : Elems) (s : State) : Eff := s.combine e els true
/-- `GADD` (R252). -/
def effGadd (e : QEntry) (els : Elems) (s : State) : Eff := s.combine e els false

/-- `GLEN` (R254): it uses no frame. -/
def effGlen (e : QEntry) (els : Elems) (s : State) : Eff :=
  s.gpos e els 32 fun _ p s =>
    let a := s.hart.pos e.fb p
    (needTag s [a.tag]).bind fun _ s =>
      if tagKind a.tag = 0 then .stop (stopAt 0x84 a.tag) s
      else
        let o (k : Nat) : FVal := fmtF32.decode ((nth a.c k).getD 0)
        let (v, fl) := exactSum ((countFrom 0 3).map (fun k => exactMul (o k) (o k)))
        let (r, g) := fpSqrtV fmtF32 (FpEnv.scalar .rne) v
        .ok (r, fl ||| g) s

/-- `GTAG` (R255). -/
def effGtag (e : QEntry) (els : Elems) (s : State) : Eff :=
  s.gpos e els 32 fun _ p s => .ok ((s.hart.pos e.fb p).tag, noFlags) s

/-- `GPACK` (R255). -/
def effGpack (e : QEntry) (els : Elems) (s : State) : Eff :=
  s.gpos e els 128 fun _ p s =>
    let h := s.hart
    .ok (packPos [h.el e.fa 32 p, h.el (e.fa + 1#5) 32 p, h.el (e.fa + 2#5) 32 p] (h.el e.fb 32 p), noFlags) s

/-- `GUNPACK` (R255): three registers. -/
def effGunpack (e : QEntry) (els : Elems) (s : State) : Eff :=
  s.needSew (s.hart.sew == 4) (State.each (fun _ p s =>
    let a := s.hart.pos e.fb p
    let s := s.setEl e.fd 32 p ((nth a.c 0).getD 0)
    let s := s.setEl (e.fd + 1#5) 32 p ((nth a.c 1).getD 0)
    .ok () (s.setEl (e.fd + 2#5) 32 p ((nth a.c 2).getD 0))) (s.hart.actives e.fk els) s)

/-- `GREHOME` (R256): a stale element is resolved, any other copied. -/
def effGrehome (e : QEntry) (els : Elems) (s : State) : Eff :=
  s.gpos e els 128 fun _ p s =>
    let a := s.hart.pos e.fb p
    if tagIndex a.tag = 0 then .ok (packPos a.c a.tag, noFlags) s
    else (s.resolve a).bind fun r s => .ok (packPos r.pos.c r.pos.tag, r.flags) s

/-- `GDOT` (R254): the sum of the products with the exact components of the converted operand. -/
def effGdot (e : QEntry) (els : Elems) (s : State) : Eff :=
  s.gpos e els 32 fun _ p s =>
    let a := s.hart.pos e.fa p
    let b := s.hart.pos e.fb p
    (needTag s [a.tag, b.tag]).bind fun _ s =>
      if tagKind a.tag = 0 then .stop (stopAt 0x84 a.tag) s
      else if tagKind b.tag = 0 then .stop (stopAt 0x84 b.tag) s
      else
        (s.resolve a).bind fun ra s => (s.resolve b).bind fun rb s =>
          (s.xform (rb.tag 0) (ra.tag 0) rb.pos.tag).bind fun x s =>
            let c (j : Nat) := exactSum (x.terms rb.pos.c false j)
            let (r, fl) := roundSum ((countFrom 0 3).map (fun j => exactMul (fmtF32.decode ((nth ra.pos.c j).getD 0)) (c j).1))
            .ok (r, fl ||| (c 0).2 ||| (c 1).2 ||| (c 2).2 ||| ra.flags ||| rb.flags) s

/-- The target frame that xs2 names: untagged 0x85, stale 0x81 (R253). -/
def State.target (s : State) (x : Word) : Res (Nat × Frame) :=
  let t := mkTag (bits x 8 24) (bits x 1 7) (bits x 0 1)
  (s.frame (tagIndex t)).bind fun f s => if f.live t then .ok (t, f) s else .stop (stopAt 0x81 t) s

/-- `GCVT` (R253). -/
def effGcvt (e : QEntry) (els : Elems) (s : State) : Eff :=
  s.gpos e els 128 fun _ p s =>
    let a := s.hart.pos e.fa p
    (needTag s [a.tag, bits e.opb 0 32]).bind fun _ s =>
      (s.resolve a).bind fun ra s => (s.target e.opb).bind fun t s =>
        (s.xform (ra.tag 0) (mkTag (tagIndex t.1) (tagGen t.1) 0) ra.pos.tag).bind fun x s =>
          let (c, fl) := x.apply ra.pos.c (tagKind a.tag == 0)
          .ok (packPos c (mkTag (tagIndex t.1) (tagGen t.1) (tagKind a.tag)), fl ||| ra.flags) s

/-- `GSCL` (R254). -/
def effGscl (e : QEntry) (els : Elems) (s : State) : Eff :=
  s.gpos e els 128 fun _ p s =>
    let a := s.hart.pos e.fa p
    (needTag s [a.tag]).bind fun _ s =>
      if tagKind a.tag = 0 then .stop (stopAt 0x84 a.tag) s
      else
        (s.resolve a).bind fun ra s =>
          let sc := fmtF32.decode (bits e.opb 0 32)
          let (c, fl) := (countFrom 0 3).foldl (fun acc j =>
            let (r, f) := fpMulV fmtF32 (FpEnv.scalar .rne) sc (fmtF32.decode ((nth ra.pos.c j).getD 0))
            (acc.1 ++ [r], acc.2 ||| f)) (([] : List Nat), noFlags)
          .ok (packPos c (ra.tag 1), fl ||| ra.flags) s

/-- `GSETTAG` (R255). -/
def effGsettag (e : QEntry) (els : Elems) (s : State) : Eff :=
  s.gpos e els 128 fun _ p s => .ok (packPos (s.hart.pos e.fa p).c (bits e.opb 0 32), noFlags) s

/-! ## Morton keys (R257, R258) -/

/-- Three 21-bit coordinates interleaved (R257). -/
def interleave (x y z : Nat) : Nat :=
  sumBy (fun j => (x / 2 ^ j % 2) * 2 ^ (3 * j) + (y / 2 ^ j % 2) * 2 ^ (3 * j + 1) + (z / 2 ^ j % 2) * 2 ^ (3 * j + 2))
    (countFrom 0 21)

/-- The coordinate on an axis of a key (R258). -/
def deinterleave (k axis : Nat) : Nat := sumBy (fun j => (k / 2 ^ (3 * j + axis) % 2) * 2 ^ j) (countFrom 0 21)

/-- The floor of an exact value times 2^k; none for a NaN or an infinity. -/
def floorScaled (v : FVal) (k : Int) : Option Int :=
  match v with
  | .fin n m e =>
    let sh := e + k
    let i : Int := if n then -(m : Int) else m
    some (if 0 ≤ sh then i * 2 ^ sh.toNat else i / 2 ^ (-sh).toNat)
  | _ => none

/-- `GMORTON` (R257). -/
def effGmorton (e : QEntry) (els : Elems) (s : State) : Eff :=
  s.gpos e els 64 fun _ p s =>
    let a := s.hart.pos e.fa p
    (needTag s [a.tag, bits e.opb 0 32]).bind fun _ s =>
      if tagKind a.tag = 1 then .stop (stopAt 0x84 a.tag) s
      else
        (s.resolve a).bind fun ra s => (s.target e.opb).bind fun t s =>
          if !t.2.cell then .stop (stopAt 0x88 t.1) s
          else
            (s.xform (ra.tag 0) (mkTag (tagIndex t.1) (tagGen t.1) 0) ra.pos.tag).bind fun x s =>
              let q := (countFrom 0 3).map (fun j => floorScaled (exactSum (x.terms ra.pos.c true j)).1 (21 - t.2.ext))
              let key := match q with
                | [some qx, some qy, some qz] =>
                  if 0 ≤ qx ∧ qx < 2 ^ 21 ∧ 0 ≤ qy ∧ qy < 2 ^ 21 ∧ 0 ≤ qz ∧ qz < 2 ^ 21 then
                    interleave qx.toNat qy.toNat qz.toNat
                  else 2 ^ 64 - 1
                | _ => 2 ^ 64 - 1
              .ok (key, noFlags) s

/-- An offset code of `GNBR` (R258). -/
def nbrCode (c : Nat) : Option Int := if c = 0 then some 0 else if c = 1 then some 1 else if c = 3 then some (-1) else none

/-- The neighbour of a key (R258). -/
def neighbour (k level : Nat) (dx dy dz : Int) : Nat :=
  if k / 2 ^ 63 % 2 = 1 then 2 ^ 64 - 1
  else
    let q (axis : Nat) (d : Int) : Int := (deinterleave k axis : Int) + d * 2 ^ level
    let ok (i : Int) : Bool := decide (0 ≤ i ∧ i < 2 ^ 21)
    if ok (q 0 dx) && ok (q 1 dy) && ok (q 2 dz) then interleave (q 0 dx).toNat (q 1 dy).toNat (q 2 dz).toNat else 2 ^ 64 - 1

/-- `GNBR` (R258): a bad offset raises 0x88 at the first active element. -/
def effGnbr (e : QEntry) (els : Elems) (s : State) : Eff :=
  s.needSew (s.hart.sew == 3) (
    match s.hart.actives e.fk els with
    | [] => .done s
    | (i, p) :: es =>
      let o := e.opb
      match nbrCode (bits o 0 2), nbrCode (bits o 2 2), nbrCode (bits o 4 2) with
      | some dx, some dy, some dz =>
        if bits o 6 2 ≠ 0 ∨ 20 < bits o 8 5 ∨ bits o 13 51 ≠ 0 then .fault i { cause := 0x88, tval := o } s
        else State.each (fun _ p s => .ok () (s.setEl e.fd 64 p (neighbour (s.hart.el e.fa 64 p) (bits o 8 5) dx dy dz)))
          ((i, p) :: es) s
      | _, _, _ => .fault i { cause := 0x88, tval := o } s)

/-! ## Cell tables (R259 to R263) -/

/-- The header of a cell table (R259). -/
structure CellHead where
  cap   : Nat
  limit : Nat
  count : Nat
  ovf   : Nat
  seed  : Nat

/-- A power of two. -/
def isPow2 (n : Nat) : Bool := n != 0 && 2 ^ Nat.log2 n == n

/-- Doublewords read as vector elements. -/
def State.loadElWords (s : State) (a : Nat) : Nat → Res (List Nat)
  | 0 => .ok [] s
  | n + 1 => (s.loadEl (s.hart.count * 8) (a % 2 ^ 64) 8 8 true).bind fun v s => (State.loadElWords s (a + 8) n).bind fun r s => .ok (v :: r) s

/-- The header read and checked: a malformed one raises 0x91 (R259). -/
def State.cellHead (s : State) (a : Nat) : Res CellHead :=
  (s.loadElWords a 8).bind fun l s =>
    match l with
    | w0 :: w1 :: seed :: rest =>
      let h : CellHead := { cap := w0 % 2 ^ 32, limit := w0 / 2 ^ 32, count := w1 % 2 ^ 32, ovf := w1 / 2 ^ 32, seed := seed }
      if isPow2 h.cap && decide (16 ≤ h.cap ∧ h.cap ≤ 2 ^ 24) && decide (1 ≤ h.limit ∧ h.limit ≤ h.cap) && seed % 2 == 1 &&
          rest.all (fun w => w == 0) then .ok h s
      else .stop (stopAt 0x91 a) s
    | _ => .stop (stopAt 0x91 a) s

/-- What a probe finds (R260): a slot with the key, the first free slot, or neither. -/
inductive Probe where
  | held (slot : Nat) (word1 : Nat)
  | free (slot : Nat)
  | none

/-- The address of a slot (R259). -/
def slotAddr (table slot : Nat) : Nat := table + 0x40 + 16 * slot

/-- The probe sequence (R260); a malformed slot raises 0x91. -/
def State.probe (s : State) (table : Nat) (h : CellHead) (k hash : Nat) : Nat → Nat → Res Probe
  | 0, _ => .ok .none s
  | n + 1, t =>
    let slot := (hash + t) % h.cap
    (s.loadElWords (slotAddr table slot) 2).bind fun l s =>
      match l with
      | [key, w] =>
        if w / 2 ^ 56 % 2 = 0 then
          if key = 0 ∧ w = 0 then .ok (.free slot) s else .stop (stopAt 0x91 table) s
        else if key = k then .ok (.held slot w) s
        else State.probe s table h k hash n (t + 1)
      | _ => .ok .none s

/-- The hash of a key (R260). -/
def CellHead.hash (h : CellHead) (k : Nat) : Nat := k * h.seed % 2 ^ 64 / 2 ^ (64 - Nat.log2 h.cap)

/-- The checks before any element (R259, R263): alignment, then the header. -/
def State.withTable (s : State) (e : QEntry) (els : Elems) (k : Elems → State → Eff) : Eff :=
  s.needSew (s.hart.sew == 3) (
    match s.hart.actives e.fk els with
    | [] => .done s
    | (i, p) :: es =>
      if e.opa.toNat % 64 ≠ 0 then .fault i { cause := 0x40, tval := e.opa } s
      else
        match s.cellHead e.opa.toNat with
        | .ok _ s => k ((i, p) :: es) s
        | .stop c s => .fault i c s
        | .wait s => .wait i s)

/-- The action of one key of `VCELLINS` (R261). -/
def State.cellInsert (s : State) (table k i first : Nat) : Res Nat :=
  ((s.cellHead table).bind fun h s =>
    let sweep := 2 ^ bits s.hart.csr.cellsweep 0 3
    (s.probe table h k (h.hash k) (min 32 h.cap) 0).bind fun r s =>
      let overflow (s : State) : Res Nat :=
        if bit s.hart.csr.fcfg 1 then .stop (stopAt 0x90 i) s
        else
          (s.storeEl (s.hart.count * 8) (table + 8) 8 8 (h.count + min (h.ovf + 1) (2 ^ 32 - 1) * 2 ^ 32) true).bind fun _ s =>
            .ok (2 ^ 62 + 0xFFFFFFFF) (s.onHart (fun t => { t with csr := { t.csr with fcfg := setBit t.csr.fcfg 2 true } }))
      match r with
      | .held slot w =>
        let n := min (w / 2 ^ 32 % 65536 + 1) 0xFFFF
        let sw := w / 2 ^ 48 % 256 ||| sweep
        (s.storeEl (s.hart.count * 8) (slotAddr table slot + 8) 8 8 (w % 2 ^ 32 + n * 2 ^ 32 + sw * 2 ^ 48 + w / 2 ^ 56 * 2 ^ 56) true).bind fun _ s =>
          .ok (2 ^ 63 + slot) s
      | .free slot =>
        if h.count < h.limit then
          (s.storeEl (s.hart.count * 8) (slotAddr table slot) 8 8 k true).bind fun _ s =>
            (s.storeEl (s.hart.count * 8) (slotAddr table slot + 8) 8 8 (first % 2 ^ 32 + 2 ^ 32 + sweep * 2 ^ 48 + 2 ^ 56) true).bind fun _ s =>
              (s.storeEl (s.hart.count * 8) (table + 8) 8 8 (h.count + 1 + h.ovf * 2 ^ 32) true).bind fun _ s => .ok slot s
        else overflow s
      | .none => overflow s).orNothing s

/-- `VCELLINS` (R261): the active elements in ascending order. -/
def effVcellins (e : QEntry) (els : Elems) (s : State) : Eff :=
  s.withTable e els (State.each fun i p s =>
    let k := s.hart.el e.fb 64 p
    if k / 2 ^ 63 = 1 then .ok () (s.setEl e.fd 64 p (2 ^ 64 - 1))
    else (s.cellInsert e.opa.toNat k i (s.hart.el e.fd 64 p)).bind fun v s => .ok () (s.setEl e.fd 64 p v))

/-- `VCELLFIND` (R262). -/
def effVcellfind (e : QEntry) (els : Elems) (s : State) : Eff :=
  s.withTable e els (State.each fun _ p s =>
    let k := s.hart.el e.fb 64 p
    if k / 2 ^ 63 = 1 then .ok () (s.setEl e.fd 64 p (2 ^ 64 - 1))
    else
      (s.cellHead e.opa.toNat).bind fun h s =>
        (s.probe e.opa.toNat h k (h.hash k) (min 32 h.cap) 0).bind fun r s =>
          .ok () (s.setEl e.fd 64 p (match r with | .held slot _ => slot | _ => 2 ^ 64 - 1)))

end Sys2Proof.Machine
end

