-- ==== Sys2Proof/Machine/LaneEffect.lean ====
section
/-! DEFINITION. The lane work of a row of the opcode table (R125): the instructions that act on elements or on vector and
matrix state. The lane and loop instructions of R140 and `RECUR` are the subject of other files. Generated. -/

namespace Sys2Proof.Machine

/-- The work of an entry on elements: what its row's instruction does. -/
def laneWork (e : QEntry) (els : Elems) (s : State) : Eff :=
  match e.row with
  | .mmode => effMmode e els s
  | .mshape => effMshape e els s
  | .vaddVV => effVaddVV e els s
  | .vaddVX => effVaddVX e els s
  | .vaddVI => effVaddVI e els s
  | .vsubVV => effVsubVV e els s
  | .vsubVX => effVsubVX e els s
  | .vsubVI => effVsubVI e els s
  | .vrsubVV => effVrsubVV e els s
  | .vrsubVX => effVrsubVX e els s
  | .vrsubVI => effVrsubVI e els s
  | .vmulVV => effVmulVV e els s
  | .vmulVX => effVmulVX e els s
  | .vmulVI => effVmulVI e els s
  | .vmulhVV => effVmulhVV e els s
  | .vmulhVX => effVmulhVX e els s
  | .vmulhVI => effVmulhVI e els s
  | .vmulhnVV => effVmulhnVV e els s
  | .vmulhnVX => effVmulhnVX e els s
  | .vmulhnVI => effVmulhnVI e els s
  | .vandVV => effVandVV e els s
  | .vandVX => effVandVX e els s
  | .vandVI => effVandVI e els s
  | .vorVV => effVorVV e els s
  | .vorVX => effVorVX e els s
  | .vorVI => effVorVI e els s
  | .vxorVV => effVxorVV e els s
  | .vxorVX => effVxorVX e els s
  | .vxorVI => effVxorVI e els s
  | .vsllVV => effVsllVV e els s
  | .vsllVX => effVsllVX e els s
  | .vsllVI => effVsllVI e els s
  | .vsrlVV => effVsrlVV e els s
  | .vsrlVX => effVsrlVX e els s
  | .vsrlVI => effVsrlVI e els s
  | .vsraVV => effVsraVV e els s
  | .vsraVX => effVsraVX e els s
  | .vsraVI => effVsraVI e els s
  | .vminVV => effVminVV e els s
  | .vminVX => effVminVX e els s
  | .vminVI => effVminVI e els s
  | .vmaxVV => effVmaxVV e els s
  | .vmaxVX => effVmaxVX e els s
  | .vmaxVI => effVmaxVI e els s
  | .vminnVV => effVminnVV e els s
  | .vminnVX => effVminnVX e els s
  | .vminnVI => effVminnVI e els s
  | .vmaxnVV => effVmaxnVV e els s
  | .vmaxnVX => effVmaxnVX e els s
  | .vmaxnVI => effVmaxnVI e els s
  | .vsaddVV => effVsaddVV e els s
  | .vsaddVX => effVsaddVX e els s
  | .vssubVV => effVssubVV e els s
  | .vssubVX => effVssubVX e els s
  | .vsaddnVV => effVsaddnVV e els s
  | .vsaddnVX => effVsaddnVX e els s
  | .vssubnVV => effVssubnVV e els s
  | .vssubnVX => effVssubnVX e els s
  | .vdivVV => effVdivVV e els s
  | .vdivVX => effVdivVX e els s
  | .vdivnVV => effVdivnVV e els s
  | .vdivnVX => effVdivnVX e els s
  | .vremVV => effVremVV e els s
  | .vremVX => effVremVX e els s
  | .vremnVV => effVremnVV e els s
  | .vremnVX => effVremnVX e els s
  | .vmaccVV => effVmaccVV e els s
  | .vmaccVX => effVmaccVX e els s
  | .vnmsacVV => effVnmsacVV e els s
  | .vnmsacVX => effVnmsacVX e els s
  | .vavgVV => effVavgVV e els s
  | .vavgVX => effVavgVX e els s
  | .vavgnVV => effVavgnVV e els s
  | .vavgnVX => effVavgnVX e els s
  | .vabs => effVabs e els s
  | .vneg => effVneg e els s
  | .vpopc => effVpopc e els s
  | .vclz => effVclz e els s
  | .vwaddVV => effVwaddVV e els s
  | .vwaddVX => effVwaddVX e els s
  | .vwaddnVV => effVwaddnVV e els s
  | .vwaddnVX => effVwaddnVX e els s
  | .vwsubVV => effVwsubVV e els s
  | .vwsubVX => effVwsubVX e els s
  | .vwsubnVV => effVwsubnVV e els s
  | .vwsubnVX => effVwsubnVX e els s
  | .vwmulVV => effVwmulVV e els s
  | .vwmulVX => effVwmulVX e els s
  | .vwmulnVV => effVwmulnVV e els s
  | .vwmulnVX => effVwmulnVX e els s
  | .vwmaccVV => effVwmaccVV e els s
  | .vwmaccVX => effVwmaccVX e els s
  | .vwmaccnVV => effVwmaccnVV e els s
  | .vwmaccnVX => effVwmaccnVX e els s
  | .vnsrlVV => effVnsrlVV e els s
  | .vnsrlVX => effVnsrlVX e els s
  | .vnsraVV => effVnsraVV e els s
  | .vnsraVX => effVnsraVX e els s
  | .vnclipVV => effVnclipVV e els s
  | .vnclipVX => effVnclipVX e els s
  | .vnclipnVV => effVnclipnVV e els s
  | .vnclipnVX => effVnclipnVX e els s
  | .vfaddVV => effVfaddVV e els s
  | .vfaddVX => effVfaddVX e els s
  | .vfsubVV => effVfsubVV e els s
  | .vfsubVX => effVfsubVX e els s
  | .vfrsubVV => effVfrsubVV e els s
  | .vfrsubVX => effVfrsubVX e els s
  | .vfmulVV => effVfmulVV e els s
  | .vfmulVX => effVfmulVX e els s
  | .vfdivVV => effVfdivVV e els s
  | .vfdivVX => effVfdivVX e els s
  | .vfrdivVV => effVfrdivVV e els s
  | .vfrdivVX => effVfrdivVX e els s
  | .vfminVV => effVfminVV e els s
  | .vfminVX => effVfminVX e els s
  | .vfmaxVV => effVfmaxVV e els s
  | .vfmaxVX => effVfmaxVX e els s
  | .vfsgnjVV => effVfsgnjVV e els s
  | .vfsgnjVX => effVfsgnjVX e els s
  | .vfsgnjnVV => effVfsgnjnVV e els s
  | .vfsgnjnVX => effVfsgnjnVX e els s
  | .vfsgnjxVV => effVfsgnjxVV e els s
  | .vfsgnjxVX => effVfsgnjxVX e els s
  | .vfmaVV => effVfmaVV e els s
  | .vfmaVX => effVfmaVX e els s
  | .vfmsVV => effVfmsVV e els s
  | .vfmsVX => effVfmsVX e els s
  | .vfnmaVV => effVfnmaVV e els s
  | .vfnmaVX => effVfnmaVX e els s
  | .vfnmsVV => effVfnmsVV e els s
  | .vfnmsVX => effVfnmsVX e els s
  | .vfsqrt => effVfsqrt e els s
  | .vfrcp => effVfrcp e els s
  | .vfrsq => effVfrsq e els s
  | .vfexp2 => effVfexp2 e els s
  | .vflog2 => effVflog2 e els s
  | .vfsinp => effVfsinp e els s
  | .vfcosp => effVfcosp e els s
  | .vftanh => effVftanh e els s
  | .vfabs => effVfabs e els s
  | .vfneg => effVfneg e els s
  | .vfclass => effVfclass e els s
  | .vffloor => effVffloor e els s
  | .vfceil => effVfceil e els s
  | .vfround => effVfround e els s
  | .vcvtI32F32 => effVcvtI32F32 e els s
  | .vcvtN32F32 => effVcvtN32F32 e els s
  | .vcvtF32I32 => effVcvtF32I32 e els s
  | .vcvtF32N32 => effVcvtF32N32 e els s
  | .vcvtI64F64 => effVcvtI64F64 e els s
  | .vcvtN64F64 => effVcvtN64F64 e els s
  | .vcvtF64I64 => effVcvtF64I64 e els s
  | .vcvtF64N64 => effVcvtF64N64 e els s
  | .vcvtF64F32 => effVcvtF64F32 e els s
  | .vcvtF32F64 => effVcvtF32F64 e els s
  | .vcvtHF32 => effVcvtHF32 e els s
  | .vcvtBfF32 => effVcvtBfF32 e els s
  | .vcvtF32H => effVcvtF32H e els s
  | .vcvtF32Bf => effVcvtF32Bf e els s
  | .vcvtB8F32 => effVcvtB8F32 e els s
  | .vcvtF32B8 => effVcvtF32B8 e els s
  | .vcvtB8H => effVcvtB8H e els s
  | .vcvtHB8 => effVcvtHB8 e els s
  | .vcvtB8Bf => effVcvtB8Bf e els s
  | .vcvtBfB8 => effVcvtBfB8 e els s
  | .vcvtE4F32 => effVcvtE4F32 e els s
  | .vcvtF32E4 => effVcvtF32E4 e els s
  | .vcvtHE4 => effVcvtHE4 e els s
  | .vcvtQ4F32 => effVcvtQ4F32 e els s
  | .vcvtF32Q4 => effVcvtF32Q4 e els s
  | .vcvtHQ4 => effVcvtHQ4 e els s
  | .vcmpEqVV => effVcmpEqVV e els s
  | .vcmpEqVX => effVcmpEqVX e els s
  | .vcmpNeVV => effVcmpNeVV e els s
  | .vcmpNeVX => effVcmpNeVX e els s
  | .vcmpLtVV => effVcmpLtVV e els s
  | .vcmpLtVX => effVcmpLtVX e els s
  | .vcmpLeVV => effVcmpLeVV e els s
  | .vcmpLeVX => effVcmpLeVX e els s
  | .vcmpLtnVV => effVcmpLtnVV e els s
  | .vcmpLtnVX => effVcmpLtnVX e els s
  | .vcmpLenVV => effVcmpLenVV e els s
  | .vcmpLenVX => effVcmpLenVX e els s
  | .vcmpGtVV => effVcmpGtVV e els s
  | .vcmpGtVX => effVcmpGtVX e els s
  | .vcmpGeVV => effVcmpGeVV e els s
  | .vcmpGeVX => effVcmpGeVX e els s
  | .vcmpFeqVV => effVcmpFeqVV e els s
  | .vcmpFeqVX => effVcmpFeqVX e els s
  | .vcmpFneVV => effVcmpFneVV e els s
  | .vcmpFneVX => effVcmpFneVX e els s
  | .vcmpFltVV => effVcmpFltVV e els s
  | .vcmpFltVX => effVcmpFltVX e els s
  | .vcmpFleVV => effVcmpFleVV e els s
  | .vcmpFleVX => effVcmpFleVX e els s
  | .vcmpFgtVV => effVcmpFgtVV e els s
  | .vcmpFgtVX => effVcmpFgtVX e els s
  | .vcmpFgeVV => effVcmpFgeVV e els s
  | .vcmpFgeVX => effVcmpFgeVX e els s
  | .vcmpFunordVV => effVcmpFunordVV e els s
  | .vcmpFunordVX => effVcmpFunordVX e els s
  | .vcmpFordVV => effVcmpFordVV e els s
  | .vcmpFordVX => effVcmpFordVX e els s
  | .kand => effKand e els s
  | .kor => effKor e els s
  | .kxor => effKxor e els s
  | .kandn => effKandn e els s
  | .knot => effKnot e els s
  | .kmov => effKmov e els s
  | .kpop => effKpop e els s
  | .kfirst => effKfirst e els s
  | .kiota => effKiota e els s
  | .vmerge => effVmerge e els s
  | .vcompress => effVcompress e els s
  | .vexpand => effVexpand e els s
  | .ksetx => effKsetx e els s
  | .vslideup => effVslideup e els s
  | .vslidedn => effVslidedn e els s
  | .vpermv => effVpermv e els s
  | .vbcast => effVbcast e els s
  | .vextract => effVextract e els s
  | .vinsert => effVinsert e els s
  | .vilv => effVilv e els s
  | .vdilv => effVdilv e els s
  | .vid => effVid e els s
  | .vrand => effVrand e els s
  | .vmvV => effVmvV e els s
  | .vmvX => effVmvX e els s
  | .vredsum => effVredsum e els s
  | .vredmin => effVredmin e els s
  | .vredmax => effVredmax e els s
  | .vredminn => effVredminn e els s
  | .vredmaxn => effVredmaxn e els s
  | .vredand => effVredand e els s
  | .vredor => effVredor e els s
  | .vredxor => effVredxor e els s
  | .vfsum => effVfsum e els s
  | .vfsumo => effVfsumo e els s
  | .vfredmin => effVfredmin e els s
  | .vfredmax => effVfredmax e els s
  | .vwsum => effVwsum e els s
  | .vbshl => effVbshl e els s
  | .vbshr => effVbshr e els s
  | .vbfun => effVbfun e els s
  | .vternlog => effVternlog e els s
  | .vld => effVld e els s
  | .vldReg => effVldReg e els s
  | .vlds => effVlds e els s
  | .vldx => effVldx e els s
  | .vst => effVst e els s
  | .vstReg => effVstReg e els s
  | .vsts => effVsts e els s
  | .vstx => effVstx e els s
  | .vgll => effVgll e els s
  | .vscc => effVscc e els s
  | .vacc => effVacc e els s
  | .vldwE4H => effVldwE4H e els s
  | .vldwE4Bf => effVldwE4Bf e els s
  | .vldwE4B8 => effVldwE4B8 e els s
  | .vldwQ4H => effVldwQ4H e els s
  | .vldwQ4Bf => effVldwQ4Bf e els s
  | .vldwQ4B8 => effVldwQ4B8 e els s
  | .gsub => effGsub e els s
  | .gadd => effGadd e els s
  | .glen => effGlen e els s
  | .gtag => effGtag e els s
  | .gpack => effGpack e els s
  | .gunpack => effGunpack e els s
  | .grehome => effGrehome e els s
  | .gdot => effGdot e els s
  | .gcvt => effGcvt e els s
  | .gscl => effGscl e els s
  | .gsettag => effGsettag e els s
  | .gmorton => effGmorton e els s
  | .gnbr => effGnbr e els s
  | .vcellins => effVcellins e els s
  | .vcellfind => effVcellfind e els s
  | .rspawn => effRspawn e els s
  | .rret => effRret e els s
  | .rkids => effRkids e els s
  | .rdepth => effRdepth e els s
  | .rnkid => effRnkid e els s
  | .mzero => effMzero e els s
  | .mrowv => effMrowv e els s
  | .mvrow => effMvrow e els s
  | .mcolv => effMcolv e els s
  | .mvcol => effMvcol e els s
  | .mdrain => effMdrain e els s
  | .mload => effMload e els s
  | .amerge => effAmerge e els s
  | .sacc => effSacc e els s
  | .opacc => effOpacc e els s
  | .opsub => effOpsub e els s
  | .opaccw => effOpaccw e els s
  | _ => .done s

end Sys2Proof.Machine
end

