-- ==== Sys2Proof/Machine/LaneWords.lean ====
section
/-! DEFINITION. Lane data errors of vector registers (R215): which bits of the v registers an entry reads and writes, where it
stops at a failing word, and which failing words its writes repair. A failing word is known by its register and its number
among the register's 32-bit words. -/

namespace Sys2Proof.Machine

/-! ## The width of a v operand -/

/-- The width of the elements of a v register operand, given by the place of its field (8 destination or store data, 13, 18):
SEW, 64 for the whole-register forms (R228), the layouts of the frame instructions (R251, R257) and W of a recursion (R270). -/
def Hart.useWidth (h : Hart) (r : Row) (lo : Nat) : Nat :=
  match r with
  | .vldReg | .vstReg => 64
  | .glen | .gtag | .gdot => if lo = 8 then 32 else h.width
  | .gpack => if lo = 8 then h.width else 32
  | .gunpack => if lo = 8 then 32 else h.width
  | .gmorton => if lo = 8 then 64 else h.width
  | .rspawn | .rret | .rkids | .rdepth | .rnkid => match h.recur with | some q => q.w | none => h.width
  | _ => h.width

/-- The bits that a use takes of its element: all, but for the low half that a conversion from binary32 in slots of 64 bits reads (R182) and
the low 64 bits of an index at POS (R226). -/
def Hart.useLen (h : Hart) (r : Row) (lo : Nat) : Nat :=
  let w := h.useWidth r lo
  if lo != 18 then w
  else if r == .vcvtF64F32 then min w 32
  else if r == .vldx || r == .vstx then min w 64
  else w

/-- The bits of a use at element `i`, position `p`: one register, a pair of registers of double width (R174), or the same
element of each register of a group. -/
def Hart.useSpans (h : Hart) (r : Row) (words : BitVec 64) (u : Use) (i p : Nat) : List Span :=
  let w := h.useWidth r u.lo
  let reg := u.reg words
  let n := match r, h.recur with
    | .rspawn, some q => q.nfw
    | .rret, some q => q.nrw
    | .rspawn, none | .rret, none => 0
    | _, _ => u.span
  if u.span = 2 && r != .rkids then
    let q := p * (2 * w)
    [{ i := i, reg := reg + q / h.vlmax, lo := q % h.vlmax, len := 2 * w }]
  else (countFrom 0 n).map fun m => { i := i, reg := reg + m, lo := p * w, len := h.useLen r u.lo }

/-- The bits that the v register operands chosen by `f` cover at each of some elements. -/
def Hart.spansOf (h : Hart) (e : QEntry) (f : Use → Bool) (els : Elems) : List Span :=
  els.flatMap fun q => (e.row.uses.filter (fun u => u.cls == .v && f u)).flatMap fun u => h.useSpans e.row e.words u q.1 q.2

/-- One element of a register; none at and above E (R192). -/
def Hart.oneEl (h : Hart) (r : Reg) (i : Nat) : List Span :=
  if i < h.perReg then [{ i := i, reg := r.toNat, lo := i * h.width, len := h.width }] else []

/-! ## What an entry reads and writes -/

/-- The bits of v registers that an entry reads, in the order of its elements. -/
def Hart.laneReads (h : Hart) (e : QEntry) (els : Elems) : List Span :=
  let w := h.width
  let act := h.actives e.fk els
  let plain (es : Elems) : List Span := h.spansOf e (fun u => u.read) es
  match e.row with
  | .vmerge => els.flatMap fun q => h.oneEl (if h.mask e.fk q.2 then e.fb else e.fa) q.2
  | .vternlog | .vstReg => plain els
  | .vcompress => act.flatMap fun q => h.oneEl e.fb q.2
  | .vexpand => (withIndex act 0).flatMap fun m => h.oneEl e.fb m.2
  | .vslideup => (act.filter (fun q => decide (e.opb.toNat ≤ q.1))).flatMap fun q => h.oneEl e.fa (q.2 - e.opb.toNat)
  | .vslidedn => act.flatMap fun q => h.oneEl e.fa (q.2 + e.opb.toNat)
  | .vpermv => act.flatMap fun q =>
      (h.oneEl e.fb q.2).map (fun p => { p with len := min p.len (if h.sew = 4 then 32 else w) }) ++ h.oneEl e.fa (if h.sew = 4 then h.el e.fb 128 q.2 % 2 ^ 32 else h.el e.fb w q.2)
  | .vbcast => if act.isEmpty then [] else h.oneEl e.fa e.opb.toNat
  | .vextract => if els.isEmpty then [] else h.oneEl e.fa e.opb.toNat
  | .vdilv => act.flatMap fun q => (countFrom (2 * q.2) 2).map fun j =>
      { i := j % h.perReg, reg := e.fa.toNat + j / h.perReg, lo := j % h.perReg * w, len := w }
  | .vredsum | .vredmin | .vredmax | .vredminn | .vredmaxn | .vredand | .vredor | .vredxor | .vfsum | .vfsumo | .vfredmin
  | .vfredmax => if act.isEmpty then [] else h.oneEl e.fa 0 ++ act.flatMap fun q => h.oneEl e.fb q.2
  | .vwsum =>
      if act.isEmpty then []
      else { i := 0, reg := e.fa.toNat, lo := 0, len := 2 * w } :: act.flatMap fun q => h.oneEl e.fb q.2
  | .vbshl | .vbshr => if act.isEmpty then [] else els.flatMap fun q => h.oneEl e.fa q.2
  | .vbfun => if act.isEmpty then [] else els.flatMap fun q => h.oneEl e.fa q.2 ++ h.oneEl e.fd q.2
  | .mvrow | .mvcol => if e.opb.toNat < 128 then (h.sliceEls e els).flatMap fun q => h.oneEl e.fa q.2 else []
  | .opacc | .opsub | .opaccw => []
  | .rspawn => plain (act.filter fun q => match h.recur, h.rvp q.1 with
      | some r, some v => decide (v.depth < r.dlim)
      | _, _ => false)
  | .rret => plain (act.filter fun q => (h.rvp q.1).isSome)
  | _ => plain act

/-- The bits of v registers that an entry writes. -/
def Hart.laneWrites (h : Hart) (e : QEntry) (els : Elems) : List Span :=
  let w := h.width
  let act := h.actives e.fk els
  let plain (es : Elems) : List Span := h.spansOf e (fun u => u.write) es
  match e.row with
  | .vmerge | .vternlog | .vldReg => plain els
  | .vcompress => (countFrom 0 act.length).flatMap fun j => h.oneEl e.fd j
  | .vslideup => plain (act.filter (fun q => decide (e.opb.toNat ≤ q.1)))
  | .vinsert => plain (els.filter (fun q => q.1 == e.opa.toNat))
  | .vdilv => act.flatMap fun q => (countFrom 0 2).map fun m =>
      { i := q.1, reg := e.fd.toNat + m, lo := q.2 * w, len := w }
  | .vredsum | .vredmin | .vredmax | .vredminn | .vredmaxn | .vredand | .vredor | .vredxor | .vfsum | .vfsumo | .vfredmin
  | .vfredmax => if act.isEmpty then [] else h.oneEl e.fd 0
  | .vwsum => if act.isEmpty then [] else [{ i := 0, reg := e.fd.toNat, lo := 0, len := 2 * w }]
  | .mrowv | .mcolv => plain (h.sliceEls e els)
  | _ => plain act

/-- The first failing word that an entry reads, with the bits in which it reads it. -/
def Hart.badRead (h : Hart) (e : QEntry) (els : Elems) : Option (Span × BadWord) :=
  firstOf (fun p : Span => (findBy p.meets h.bad).map fun b => (p, b)) (h.laneReads e els)

/-- The failing words that writes cover whole are no longer failing. -/
def Hart.healWords (h : Hart) (ws : List Span) : Hart :=
  { h with bad := h.bad.filter fun b =>
      let hits := ws.filter (fun p => p.meets b)
      hits.isEmpty || decide (hits.length < (match hits with | p :: _ => 32 / p.len | [] => 1)) }

/-- An entry's work with the failing words that it wrote repaired. -/
def Eff.healed (x : Eff) (e : QEntry) (els : Elems) (h : Hart) : Eff :=
  let below (i : Nat) (s : State) : State :=
    if e.row.startsAtZero then s
    else s.onHart (fun g => g.healWords (h.laneWrites e (els.filter (fun q => decide (q.1 < i)))))
  match x with
  | .done s => .done (s.onHart (fun g => g.healWords (h.laneWrites e els)))
  | .fault i c s => .fault i c (below i s)
  | .wait i s => .wait i (below i s)

/-- The work of an entry, stopping before an element that reads a failing word (R215, in the manner of R163). What the entry's
configuration raises at its start comes first (R134). -/
def laneEffect (e : QEntry) (els : Elems) (s : State) : Eff :=
  if s.hart.bad.all (fun b => b.tile) then laneWork e els s
  else
    match s.hart.badRead e els with
    | none => (laneWork e els s).healed e els s.hart
    | some (p, b) =>
      match laneWork e [] s with
      | .fault i c t => .fault i c t
      | _ =>
        if e.row.startsAtZero then let (t, c) := s.wordStop b p.i; t.startFault c
        else
          let low := els.filter (fun q => decide (q.1 < p.i))
          ((laneWork e low s).healed e low s.hart).andThen fun t => let (t, c) := t.wordStop b p.i; .fault p.i c t

end Sys2Proof.Machine
end

