-- ==== Sys2Proof/Machine/Lease.lean ====
section
/-! DEFINITION. Leases, grants and register storage (R53 to R65), and the completion test of the gang barrier (R310). -/

namespace Sys2Proof.Machine

/-- Device steps that follow. -/
def State.push (s : State) (l : List Instr) : State := { s with turns := s.turns ++ l.map Turn.device }

/-- What a port keeps waiting (R312): its request, its wake, and what has arrived behind them, as device steps. -/
def Port.arrivals (p : Port) : List Instr :=
  p.pending.map (fun q => .hostCxlRequest p.n q.2.1 q.1 q.2.2) ++ p.writes.map (fun w => .wakeWindowWrite p.n w.1 w.2) ++ p.behind

/-- Something of a port waits, and what arrives waits behind it (R312). -/
def Port.blocked (p : Port) : Bool := !p.pending.isEmpty || !p.writes.isEmpty

/-- What a port keeps waiting, but for the oldest `n`, is done again, in its order and before anything else (R312). -/
def State.portAgain (s : State) (port n : Nat) : State :=
  let p := s.portAt port
  let t := s.putPort { p with pending := [], writes := [], behind := [] }
  { t with turns := (p.arrivals.drop n).map Turn.device ++ t.turns }

/-- The gangs that wait for their start are looked at again (R12, R54). -/
def State.retryPending (s : State) : State := s.push ((countFrom 0 s.pending.length).reverse.map Instr.admissionGranted)

/-! ## The arbiter's targets (R53 to R55) -/

/-- A hart is idle once it has halted and its vector queue and bridle are empty (R55, R117). -/
def Hart.idle (h : Hart) : Bool := decide (h.run = .halted ∧ h.queue = [] ∧ h.bridle = [])

/-- The sum of the minimums of the admitted harts; an idle hart's counts (R55). -/
def State.minSum (s : State) (t : Nat) : Nat := sumBy (fun h : Hart => h.csr.leaseMin) (s.admitted t)

/-- A hart before another: older request, then lower id (R53). -/
def Hart.olderThan (g h : Hart) : Bool := decide (g.age < h.age ∨ (g.age = h.age ∧ g.id < h.id))

/-- A hart put in its place in a list by request age. -/
def insertByAge (h : Hart) : List Hart → List Hart
  | [] => [h]
  | g :: gs => if h.olderThan g then h :: g :: gs else g :: insertByAge h gs

/-- The admitted harts, oldest request first. -/
def State.byAge (s : State) (t : Nat) : List Hart := (s.admitted t).foldl (fun l h => insertByAge h l) []

/-- A claim on clusters: hart, target, preferred count. -/
abbrev Claim := Nat × Nat × Nat

/-- One round of the deal: a cluster to each claim below its preferred count, in order, while some are spare (R55). -/
def dealRound : List Claim → Nat → List Claim × Nat
  | [], spare => ([], spare)
  | (h, t, p) :: cs, spare =>
    if 0 < spare ∧ t < p then
      let (r, n) := dealRound cs (spare - 1)
      ((h, t + 1, p) :: r, n)
    else
      let (r, n) := dealRound cs spare
      ((h, t, p) :: r, n)

/-- At most `n` rounds of the deal. -/
def dealAll : Nat → List Claim → Nat → List Claim
  | 0, cs, _ => cs
  | n + 1, cs, spare => let (r, left) := dealRound cs spare; dealAll n r left

/-- The arbiter recomputes the targets of a stable (R55). -/
def State.retarget (s : State) (t : Nat) : State :=
  let n := (s.stableAt t).usable
  let live := (s.byAge t).filter (fun h => !h.idle)
  let claims := live.map (fun h => (h.id, h.csr.leaseMin, h.csr.leasePref))
  let spare := n - sumBy (fun c : Claim => c.2.1) claims
  let dealt := dealAll n claims spare
  s.mapHarts (fun h =>
    if h.job.isSome && !h.isGroom && h.stable == t then
      { h with csr := { h.csr with target := match findBy (fun c : Claim => c.1 == h.id) dealt with | some c => c.2.1 | none => 0 } }
    else h)

/-! ## Requests (R53, R59) -/

/-- A request for minimum `m` and preferred count `p`, clamped (R59); a minimum that would raise the sum above N is not
applied. It dates the request and has the targets recomputed. -/
def State.requestLease (s : State) (id m p : Nat) : State :=
  match s.findHart id with
  | none => s
  | some h =>
    let n := (s.stableAt h.stable).live
    let m := max 1 (min m n)
    let old := h.csr.leaseMin
    let new := if old < m ∧ n < s.minSum h.stable - old + m then old else m
    let pref := max new (min p n)
    let s := { s with clock := s.clock + 1 }
    let s := s.putHart { h with age := s.clock, csr := { h.csr with leaseMin := new, leasePref := pref } }
    s.retarget h.stable

/-- The `lease` image (R59). -/
def Hart.leaseImage (h : Hart) : Word :=
  BitVec.ofNat 64 (h.csr.grant % 32 + h.csr.leaseMin % 32 * 2 ^ 8 + h.csr.leasePref % 32 * 2 ^ 16 + h.csr.target % 32 * 2 ^ 24 +
    h.csr.frozen.toNat * 2 ^ 32)

/-! ## Grants (R56, R57) -/

/-- An entry has begun to execute without completing. -/
def QEntry.underWay (e : QEntry) : Bool := e.state != 0 && (e.begun || e.state == 2)

/-- The hart is inside a `VLOOP` (R147). -/
def Hart.inLoop (h : Hart) : Bool := match h.queue with | e :: _ => e.row == .vloop && e.underWay | [] => false

/-- The hart is at a strip boundary (R56): inside `VLOOP`, a cluster has just completed a strip; else no entry of its queue has begun
without completing. A frozen grant does not change. -/
def Hart.atBoundary (h : Hart) : Bool :=
  !h.csr.frozen && h.vcause.isNone &&
  (if h.inLoop then (match h.queue with | e :: _ => e.any && bits e.lrec 0 4 == 0 | [] => true)
   else !(h.queue.any QEntry.underWay))

/-- The clusters of a stable that no hart holds and that are not marked to be retired. -/
def State.freeClusters (s : State) (t : Nat) : Nat :=
  (s.stableAt t).usable - sumBy (fun h : Hart => h.csr.grant) (s.admitted t)

/-- The cluster that has completed a strip of a `VLOOP` leaves: until another completes one, none may (R56). -/
def Hart.stripLeft (h : Hart) : Hart :=
  { h with queue := match h.queue with | e :: es => { e with any := false } :: es | [] => [] }

/-- The arbiter brings a hart's grant to its target as far as free clusters allow; inside `VLOOP` one cluster leaves at a time (R55, R56). -/
def State.applyGrant (s : State) (id : Nat) : State :=
  match s.findHart id with
  | none => s
  | some h =>
    let c := h.csr.grant
    let t := h.csr.target
    let new := if t ≤ c then (if h.inLoop then max t (c - 1) else t) else c + min (t - c) (s.freeClusters h.stable)
    if new = c then s
    else
      let g := { h with csr := { h.csr with grant := new } }
      s.putHart (if new < c ∧ h.inLoop then g.stripLeft else g)

/-- Freed clusters go to harts below their targets that are at a boundary, oldest request first (R55). -/
def State.dealFree (s : State) (t : Nat) : State :=
  ((s.byAge t).filter (fun h => h.atBoundary && decide (h.csr.grant < h.csr.target))).foldl (fun u h => u.applyGrant h.id) s

/-- The lowest marked clusters retired, at most `n` of `l` (R216). -/
def retireSome (marked retired : BitVec 16) : List Nat → Nat → BitVec 16
  | [], _ => retired
  | i :: l, n =>
    if n = 0 then retired
    else if marked.getLsbD i && !retired.getLsbD i then retireSome marked (retired ||| (1#16 <<< i)) l (n - 1)
    else retireSome marked retired l n

/-- The retired clusters of a stable changed: no minimum and no preferred count stands above the new N (R53, R216, log 71). -/
def State.setRetired (s : State) (t : Nat) (retired : BitVec 16) : State :=
  let s := s.putStable { s.stableAt t with retired := retired }
  let n := max 1 (s.stableAt t).live
  s.mapHarts (fun h =>
    if h.job.isSome && !h.isGroom && h.stable == t then
      { h with csr := { h.csr with leaseMin := min h.csr.leaseMin n, leasePref := min h.csr.leasePref n } }
    else h)

/-- Clusters marked in `lanedis` are retired as far as clusters that no hart holds are there to retire (R216). -/
def State.retireClusters (s : State) (t : Nat) : State :=
  let st := s.stableAt t
  if st.lanedis &&& ~~~st.retired = 0#16 then s
  else
    let free := st.live - sumBy (fun h : Hart => h.csr.grant) (s.admitted t)
    s.setRetired t (retireSome st.lanedis st.retired (countFrom 0 16) free)

/-- A hart at a strip boundary takes its target, marked clusters are retired, what else it releases is dealt, and gangs that wait for
clusters are looked at (R55, R56, R216, R54). With no entry in execution a forced boundary has been reached (R58). -/
def State.boundary (s : State) (id : Nat) : State :=
  match s.findHart id with
  | none => s
  | some h =>
    if h.atBoundary then
      let s := if h.hold && !h.inLoop then s.putHart { h with hold := false } else s
      (((s.applyGrant id).retireClusters h.stable).dealFree h.stable).retryPending
    else s

/-! ## Register storage (R63 to R65) -/

/-- A line leaves an agent's cache: one in U merges (R331), any other is written back (R319). -/
def State.evictAgent (s : State) (die agent line : Nat) : State :=
  let u := (s.dirAt die line).st == 4 || anyBy (fun l : CacheLine => l.cache == agentCache die agent && l.line == line && l.st == .u) s.caches
  if u then (s.evictU die line).2 else { s with coh := s.coh.leaveAgent die agent line }

/-- Where the extra banks in use on a stable have risen from `before`, the lines of the banks that move leave the stable cache: they are
written back, their links go, and those in U merge (R64, R229, R331); which lines they are is open (log 103). -/
def State.moveBanks (s : State) (t before : Nat) : State :=
  if s.banksUsed t ≤ before then s
  else
    let gone := (s.caches.filter (fun c => c.cache == stableCache t && Config.bankMoves s.fresh c.line)).map (fun c => c.line)
    gone.foldl (fun (v : State) l => v.evictAgent (t / 48) (stableAgent t) l) { s with fresh := s.fresh + 1 }

/-- The largest VLMAX code that any request can be granted with `n` live clusters (R216). -/
def codeLimit (n : Nat) : Nat := if 16 ≤ n then 2 else if 8 ≤ n then 1 else 0

/-- The stable cache of a stable keeps at least 16 banks when `more` extra banks are given besides those in use (R63). -/
def State.banksFit (s : State) (t more : Nat) : Bool := decide (s.banksUsed t + more + 16 ≤ 64)

/-- The VLMAX code whose banks a hart holds once its gang's grant has become `code`: with an entry under way it holds on to its own until it
takes the change (R65). -/
def Hart.codeUnder (h : Hart) (code : Nat) : Nat := if h.queue.any QEntry.underWay then max (bits h.csr.vcfg 35 2) code else code

/-- The extra banks in use on a stable once a request of the hart in focus has given its gang a code: the hart has taken it, its gang's
other harts hold what they still need (R63 to R65). -/
def State.banksUnder (s : State) (t gang code : Nat) : Nat :=
  sumBy (fun h : Hart => extraBanks (if h.job = some gang then (if h.id = s.hart.id then code else h.codeUnder code) else h.bankCode)) (s.admitted t)

/-- The code granted to a request of the hart in focus for its gang: the largest for which the stable cache keeps 16 banks (R64). -/
def State.storageGrant (s : State) (t gang code : Nat) : Nat :=
  let c := min code (codeLimit (s.stableAt t).live)
  let fits (k : Nat) : Bool := decide (k ≤ c ∧ s.banksUnder t gang k + 16 ≤ 64)
  if fits 2 then 2 else if fits 1 then 1 else 0

/-- The registers under a new VLMAX (R65): bits at or above it are discarded, and `vl` is brought within it. -/
def Hart.setVlmax (h : Hart) (code : Nat) : Hart :=
  let n := vlmaxBits code
  let cut (v : VReg) : VReg := if n < h.vlmax then v &&& BitVec.ofNat 65536 (2 ^ n - 1) else v
  let g := { h with v := h.v.map cut, vlmaxTo := none, csr := { h.csr with vcfg := setBits h.csr.vcfg 35 2 code } }
  if n / g.width < g.vl then g.setVl (n / g.width) else g

/-- The change reaches another hart of the gang between two of its vector instructions (R65). -/
def Hart.offerVlmax (h : Hart) (code : Nat) : Hart :=
  if bits h.csr.vcfg 35 2 = code then { h with vlmaxTo := none }
  else
    if h.queue.any QEntry.underWay then { h with vlmaxTo := some code } else h.setVlmax code

/-- A storage request by the hart in focus for a VLMAX code (R64, R65); a groom core keeps 512 bits (R35). -/
def State.requestStorage (s : State) (code : Nat) : State :=
  match s.job with
  | none => s
  | some j =>
    let c := s.storageGrant j.stable j.gang code
    ({ s with hart := s.hart.setVlmax c, others := s.others.map (fun h => if h.job = some j.gang then h.offerVlmax c else h) } : State).moveBanks
      j.stable (s.banksUsed j.stable)

/-- A waiting change of VLMAX is taken between two vector instructions (R65). -/
def State.takeVlmax (s : State) : State :=
  match s.hart.vlmaxTo with
  | some c => if s.hart.queue.any QEntry.underWay then s else s.onHart (fun h => h.setVlmax c)
  | none => s

/-! ## The gang barrier (R310) -/

/-- The test of completion: when every member has arrived, `phase` advances and `arrived` clears. -/
def Job.settle (j : Job) : Job :=
  if j.arrived &&& j.mask = j.mask then { j with phase := (j.phase + 1) % 65536, arrived := 0#8 } else j

/-- A member leaves the barrier: it halted, or was joined; completion is tested again (R310). -/
def Job.leave (j : Job) (member : Nat) : Job := ({ j with mask := j.mask &&& ~~~(1#8 <<< member) }).settle

end Sys2Proof.Machine
end

