-- ==== Sys2Proof/Machine/Blocks.lean ====
section
/-! DEFINITION. Queue entries and atomic instruction blocks: groups, `VFETCH`,
`VFETCHW` and `VLOOP` (R136 to R139, R145 to R147). -/

namespace Sys2Proof.Machine

/-! ## Entries (R125, R351) -/

/-- A conversion that may round by SR (R89, R152). -/
def cvtMaySr (r : Row) : Bool :=
  r == .vcvtHF32 || r == .vcvtBfF32 || r == .vcvtB8F32 || r == .vcvtB8H || r == .vcvtHB8 || r == .vcvtB8Bf || r == .vcvtBfB8 ||
  r == .vcvtE4F32 || r == .vcvtHE4 || r == .vcvtHQ4

/-- `VLDW` (R231). -/
def isVldw (r : Row) : Bool :=
  r == .vldwE4H || r == .vldwE4Bf || r == .vldwE4B8 || r == .vldwQ4H || r == .vldwQ4Bf || r == .vldwQ4B8

/-- The conversion rounds by SR under the hart's `vcfg`, and so reads x2 (R164). -/
def Hart.cvtSr (h : Hart) (r : Row) (w : BitVec 64) : Bool :=
  cvtMaySr r && (bits w 29 3 == 5 || (bits w 29 3 == 7 && h.rm == .sr))

/-- The instruction rounds by SR and so reads x2 (R164). -/
def Hart.readsX2 (h : Hart) (r : Row) (w : BitVec 64) : Bool := h.cvtSr r w || (isVldw r && h.rm == .sr)

/-- The value of a captured register, 0 for none. -/
def Hart.capture (h : Hart) : Option Reg → Word
  | some r => h.getX r
  | none => 0#64

/-- An instruction as an entry, with the values it captures (R125, R351). -/
def Hart.entry (h : Hart) (r : Row) (w : BitVec 64) (pc : Word) (block : List (BitVec 32)) : QEntry :=
  { row := r, words := w, pc := pc
    opa := if h.cvtSr r w then h.getX 2#5 else h.capture (r.captures w).1
    opb := h.capture (r.captures w).2
    x2 := h.getX 2#5, dest := r.xDest w, ret := none, state := 1, prog := 0, lrec := 0#64, block := block, begun := false, grp := 0,
    any := false, fence := h.fences }

/-! ## Groups of a block (R138, R139) -/

/-- What a group of a block comes to: it commits; it is abandoned with a cause at a block instruction; or it waits. -/
inductive Group where
  | done (s : State)
  | fault (vpc : Word) (c : Stop) (s : State)
  | wait (s : State)

/-- The instructions of a block on a group, in order; scalar operands come from the x registers (R137). -/
def State.runWords (s : State) (pc : Word) (els : Elems) : List (BitVec 32) → Group
  | [] => .done s
  | w :: ws =>
    match decodeRow (w.setWidth 64) with
    | .error e => .fault pc (errorStop e (w.setWidth 64)) s
    | .ok r =>
      match laneEffect (s.hart.entry r (w.setWidth 64) pc []) els s with
      | .done t => State.runWords t (pc + 4#64) els ws
      | .fault _ c t => .fault pc c t
      | .wait _ t => .wait t

/-- A group runs the block and commits whole, or not at all (R138, R139). -/
def State.runGroup (s : State) (block : List (BitVec 32)) (base : Word) (els : Elems) : Group :=
  match (s.onHart (fun h => { h with group := some [] })).runWords base els block with
  | .done t => .done (t.foldGroup.onHart (fun h => { h with group := none }))
  | .fault vpc c t => .fault vpc c (s.keepAttempt t false)
  | .wait t => .wait (s.keepAttempt t true)

/-- The oldest entry changed. -/
def State.onHead (s : State) (f : QEntry → QEntry) : State :=
  s.onHart (fun h => { h with queue := match h.queue with | [] => [] | e :: es => f e :: es })

/-- The oldest entry has begun, and waits (R56). -/
def State.headWaits (s : State) : State := (s.onHead (fun e => { e with begun := true })).headIdle

/-- The oldest entry has completed: `vstart` is cleared (R135), it leaves with those behind it that had completed before, and a
waiting change of VLMAX is taken (R65). -/
def State.headDone (s : State) : State :=
  ((s.onHead (fun e => { e with state := 0 })).onHart (fun h => (h.setVstart 0).leave)).takeVlmax

/-- The oldest entry has raised a cause, to be taken at the next boundary (R343). -/
def State.headCause (s : State) (c : Stop) (vpc : Word) : State :=
  s.onHart (fun h => { h with vcause := some { stop := c, vpc := vpc } })

/-- The elements of a group (R51). -/
def Hart.perGroup (h : Hart) : Nat := 256 / h.width

/-- The block of a fetch entry that came from an image is read again. -/
def State.withBlock (s : State) (e : QEntry) (k : List (BitVec 32) → State → State) : State :=
  if e.block != [] then k e.block s
  else
    match s.readBlock e.opa with
    | .ok b s => k b (s.onHead (fun e => { e with block := b }))
    | .stop c s => s.headCause c e.pc
    | .wait s => s.headIdle

/-! ## `VFETCH` (R145) -/

/-- The restart record after group `l` has committed: the next group not committed, and the map above it. -/
def nextRecord : Nat → Nat → Nat → Nat × Nat
  | 0, l, m => (l + 1, m)
  | n + 1, l, m => if m % 2 = 1 then nextRecord n (l + 1) (m / 2) else (l + 1, m / 2)

/-- One group of `VFETCH`: the lowest not committed. -/
def State.fetchGroup (s : State) (e : QEntry) (block : List (BitVec 32)) : State × Bool :=
  let h := s.hart
  let g := h.perGroup
  let l := if e.state = 2 then bits e.lrec 0 16 else h.vstart / g
  let lo := max h.vstart (l * g)
  if h.count ≤ lo ∧ e.state = 2 then (s.headDone, false)
  else
    -- with nothing in [vstart, vl) the block runs on no element (R134)
    match s.runGroup block e.opa (rangeElems lo (min h.count ((l + 1) * g))) with
    | .done t =>
      let (l2, m2) := nextRecord 17 l (if e.state = 2 then bits e.lrec 16 16 else 0)
      if h.count ≤ l2 * g then (t.headDone, false)
      else
        ((t.onHart (fun h => h.setVstart (l2 * g))).onHead (fun e =>
          { e with begun := true, state := 2, prog := l2 / 8, lrec := BitVec.ofNat 64 (l2 % 65536 + m2 % 65536 * 65536) }), true)
    | .fault vpc c t => (t.headCause c vpc, false)
    | .wait t => (t.headWaits, false)

/-- Groups of `VFETCH` until it completes, stops or waits: at most `n`. -/
def State.fetchGroups (s : State) : Nat → State
  | 0 => s
  | n + 1 =>
    match s.hart.queue with
    | [] => s
    | e :: _ =>
      let (t, more) := s.fetchGroup e e.block
      if more then State.fetchGroups t n else t

/-- The entry of `VFETCH` starts within a group that has elements below `vstart`: it is partial (R349). With no element from `vstart` on it
is not: the block is still to run on none (R134). -/
def State.markFetch (s : State) (e : QEntry) : State :=
  if e.state = 1 && s.hart.vstart != 0 && decide (s.hart.vstart < s.hart.count) then
    let l := s.hart.vstart / s.hart.perGroup
    s.onHead (fun e => { e with state := 2, prog := l / 8, lrec := BitVec.ofNat 64 (l % 65536) })
  else s

/-- `VFETCH` and `c.vfetch`: all the groups that remain, or one. -/
def State.vfetchStep (s : State) (e : QEntry) (all : Bool) : State :=
  s.withBlock e (fun _ s => (s.markFetch e).fetchGroups (if all then 8192 else 1))

/-! ## `VFETCHW` (R146) -/

/-- The groups of a pass of `VFETCHW` from the one it is at: at most `n`. -/
def State.passGroups (s : State) (kw : KReg) (block : List (BitVec 32)) : Nat → State
  | 0 => s
  | n + 1 =>
    match s.hart.queue with
    | [] => s
    | e :: _ =>
      let h := s.hart
      let g := h.perGroup
      let lo := e.grp * g
      if h.count ≤ lo ∧ (h.count ≠ 0 ∨ e.begun) then
        if e.any then s.onHead (fun e => { e with grp := 0, any := false }) else s.headDone
      else
        let els := (rangeElems lo (min h.count (lo + g))).filter (fun p => h.mask kw p.2)
        match s.runGroup block e.opa els with
        | .done t =>
          State.passGroups (t.onHead (fun e =>
            { e with begun := true, state := 2, grp := e.grp + 1, any := e.any || !els.isEmpty })) kw block n
        | .fault vpc c t => t.headCause c vpc
        | .wait t => t.headWaits

/-- `VFETCHW`: one pass, or one group of it. -/
def State.vfetchwStep (s : State) (e : QEntry) (all : Bool) : State :=
  if s.hart.vstart ≠ 0 then s.headCause (s.openStop 0x0D) e.pc
  else s.withBlock e (fun b s => s.passGroups e.kb b (if all then 8193 else 1))

/-! ## `VLOOP` (R147) -/

/-- The elements of a strip: a granule's worth (R51), a register's on a groom core (log 17). -/
def Hart.perStrip (h : Hart) : Nat := min 2048 h.vlmax / h.width

/-- The groups of the strip at `vsc` from the first that has not committed: at most `n`. -/
def State.stripGroups (s : State) (block : List (BitVec 32)) : Nat → State
  | 0 => s
  | n + 1 =>
    match s.hart.queue with
    | [] => s
    | e :: _ =>
      let h := s.hart
      let b := h.csr.vsc.toNat
      let top := e.opb.toNat
      let g := h.perGroup
      let done := bits e.lrec 0 4
      let lo := b + done * g
      if h.perStrip / g ≤ done then
        -- the strip is complete
        let next := b + h.perStrip
        if top ≤ next then (s.onHart (fun h => { h with csr := { h.csr with vsc := 0#64 } })).headDone
        else
          (s.onHart (fun h => { h with csr := { h.csr with vsc := BitVec.ofNat 64 next } })).onHead
            (fun e => { e with lrec := e.lrec >>> 4, any := true })
      else
        let e' := h.perReg
        let els := ((countFrom lo g).filter (fun i => decide (i < top))).map (fun i => (i, i % e'))
        match s.runGroup block e.opa els with
        | .done t =>
          State.stripGroups (t.onHead (fun e =>
            { e with begun := true, state := 2, lrec := setBits e.lrec 0 4 (done + 1) })) block n
        | .fault vpc c t => t.headCause c vpc
        | .wait t => t.headIdle

/-- `VLOOP`: one strip, or one group of it. A loop with nothing left completes at once and leaves `vsc` at 0 (R13, R147). -/
def State.vloopStep (s : State) (e : QEntry) (all : Bool) : State :=
  if s.hart.vstart ≠ 0 then s.headCause (s.openStop 0x0D) e.pc
  else
    s.withBlock e (fun b s =>
      if e.opb.toNat ≤ s.hart.csr.vsc.toNat then (s.onHart (fun h => { h with csr := { h.csr with vsc := 0#64 } })).headDone
      else
        let vsc := s.hart.csr.vsc.toNat
        (if e.begun then s else s.onHead (fun e => { e with begun := true, grp := vsc, any := false })).stripGroups b (if all then 9 else 1))

end Sys2Proof.Machine
end

