-- ==== Sys2Proof/Machine/Unfold.lean ====
section
/-! DEFINITION. The unfolding engine: `RECUR` (R265 to R275, R277). -/

namespace Sys2Proof.Machine

/-! ## The object and its words (R265, R267) -/

/-- Words of `b` bytes read in turn. -/
def State.loadSeq (s : State) (w : Who) (a b : Nat) : Nat → Res (List Nat)
  | 0 => .ok [] s
  | n + 1 =>
    (s.loadAs w (a % 2 ^ 64) b b).bind fun v s => (State.loadSeq s w (a + b) b n).bind fun r s => .ok (v :: r) s

/-- Words of `b` bytes written in turn. -/
def State.storeSeq (s : State) (w : Who) (a b : Nat) : List Nat → Res Unit
  | [] => .ok () s
  | v :: vs => (s.storeAs w (a % 2 ^ 64) b b v).bind fun _ s => State.storeSeq s w (a + b) b vs

/-- P (R268); a hart that holds no cluster counts one (log 18). -/
def Hart.vpCount (h : Hart) (vpl : Nat) : Nat := min (max 1 h.csr.grant * 8 * 2 ^ vpl) (h.vlmax / h.width)

/-- The nine doublewords of an object, at a word size of `w` bits, as a run that has not begun. -/
def objectOf (obj w p : Nat) (l : List Nat) : RecRun :=
  let d (i : Nat) : Nat := (nth l i).getD 0
  { obj := obj, div := d 0, base := d 1, comb := d 2, nfw := d 3 % 16, nrw := d 3 / 2 ^ 8 % 4, fan := d 3 / 2 ^ 16 % 16,
    dlim := d 3 / 2 ^ 24 % 128, deovf := d 3 / 2 ^ 32 % 2 == 1, fsoff := d 4 % 2 ^ 32, fssize := d 4 / 2 ^ 32, stk := d 5,
    stkb := d 6 % 2 ^ 32, root := d 7, rootr := d 8, w := w, p := p, phase := 1, lvl := 0, lfirst := 0, lcount := 1, rout := 0, nrec := 1,
    nproc := 0, next := 0, vps := [] }

/-- A routine's address keeps R265. -/
def routineOk (a : Nat) : Bool := canonical a && a % 2 == 0 && a != 0

/-- The object keeps R265, its store lies within `spbytes`, and its stacks within the window, the addresses of R219, where they lie in it
(R277 check 5). -/
def objectOk (l : List Nat) (r : RecRun) (spbytes : Nat) : Bool :=
  let d (i : Nat) : Nat := (nth l i).getD 0
  let b := r.w / 8
  routineOk r.div && routineOk r.base && (r.comb == 0 || routineOk r.comb) &&
  decide (1 ≤ r.nfw ∧ r.nfw ≤ 8 ∧ r.nrw ≤ 2 ∧ 1 ≤ r.fan ∧ r.fan ≤ 8 ∧ 1 ≤ r.dlim ∧ r.dlim ≤ 64) &&
  decide (d 3 / 2 ^ 4 % 16 = 0 ∧ d 3 / 2 ^ 10 % 64 = 0 ∧ d 3 / 2 ^ 20 % 16 = 0 ∧ d 3 / 2 ^ 31 % 2 = 0 ∧
    d 3 / 2 ^ 33 % 4 ≠ 3 ∧ d 3 / 2 ^ 35 = 0) &&
  decide (r.fsoff % 8 = 0 ∧ r.fssize % 8 = 0 ∧ r.fsoff + r.fssize ≤ spbytes) &&
  decide (r.stk % 8 = 0 ∧ r.stkb % 8 = 0 ∧ 16 ≤ r.stkb ∧ d 6 / 2 ^ 32 = 0) &&
  decide (d 7 % b = 0 ∧ r.rootr % b = 0) &&
  (!inWindow r.stk || decide (r.stk % 2 ^ 48 + r.stkb * r.p ≤ 2 ^ 48))

/-- The records that the store holds (R267). -/
def RecRun.capacity (r : RecRun) : Nat := r.fssize / r.recSize

/-- The ranges of the bridle entry that a run takes (R275): those it reads and those it writes. -/
def RecRun.ranges (r : RecRun) : List Range × List Range :=
  let both : List Range := [{ lo := r.recAt 0, len := r.fssize }, { lo := r.stk, len := r.stkb * r.p }]
  ({ lo := r.obj, len := 128 } :: { lo := r.root, len := r.w / 8 * r.nfw } :: both,
    { lo := r.obj + 0x48, len := 56 } :: { lo := r.rootr, len := r.w / 8 * r.nrw } :: both)

/-- The engine waits for an older transfer of the hart, or for a bridle entry (R232, R237). -/
def State.recurHeld (s : State) (r : RecRun) : Bool :=
  let l := r.ranges.1 ++ r.ranges.2
  decide (16 ≤ s.hart.bridle.length) || s.hart.bridle.any (fun t => t.after == 0 && !t.held && rangesMeet (t.reads ++ t.writes) l)

/-- A run of the hart in the context that it has now. -/
def Hart.ownsObject (h : Hart) (obj : Nat) (q : Nat × RecRun) : Bool := q.1 == h.ctx && q.2.obj == obj

/-- What a run has read of its object is kept until it completes (R266). -/
def Hart.keepObject (h : Hart) (r : RecRun) : Hart := { h with objects := (h.ctx, r) :: dropBy (h.ownsObject r.obj) h.objects }

/-- The result of the first part of an entry of `RECUR`. -/
abbrev Started := Res RecRun

/-- The start of a run: the checks of R277 in their order, the claim, and the root's record. What the checks read waits for the older
transfers that share its bytes (R237). -/
def State.recurStart (s : State) (e : QEntry) : Started :=
  let h := s.hart
  let obj := e.opa.toNat
  let b := h.width / 8
  if h.vstart ≠ 0 then .stop (s.openStop 0x0D) s
  else if h.width ≠ 32 ∧ h.width ≠ 64 then .stop (s.openStop 0x0C) s
  else if obj % 64 ≠ 0 then .stop (stopAt 0x40 obj) s
  else if s.hart.bars obj 128 then .wait s
  else
    let w := s.hartWho true
    (s.loadSeq { w with pad := false } obj 8 9).bind fun l s =>
      let r0 := objectOf obj h.width 0 l
      let given := e.opb.toNat
      let root := if given = 0 then r0.root else given
      let r := { r0 with p := h.vpCount ((nth l 3).getD 0 / 2 ^ 33 % 4), root := root }
      if given ≠ 0 ∧ given % b ≠ 0 then .stop (stopAt 0x40 given) s
      else if s.hart.bars root (b * r.nfw) then .wait s
      else
        (if root % b ≠ 0 then Res.ok [] s else s.loadSeq { w with pad := false } root b r.nfw).bind fun words s =>
          if !objectOk l r s.padSize then .stop (stopAt 0x9C obj) s
          else if r.capacity < 1 + r.fan then .stop (stopAt 0x9B obj) s
          else if s.recurHeld r then .wait s
          else
            (s.loadAs { w with pad := false } (obj + 0x48) 8 8).bind fun claim s =>
              if claim ≠ 0 then .stop (stopAt 0x9C obj) s
              else
                (s.storeAs { w with pad := false } (obj + 0x48) 8 8 ((s.saveArea r).headD 0)).bind fun _ s =>
                  (s.storeSeq s.recurWho (r.recAt 0) b (words ++ List.replicate r.nrw 0)).bind fun _ s =>
                    .ok r (s.setStoreTail r 0 (recTail 0xFFFFFFFF 0 0 0 false) |>.onHart (fun h => h.keepObject r))

/-- Whether the frame of VP `v` of a saved pass has committed: by `vpmap` below VP 64, by its record above (R274, log 15). -/
def savedDone (rout map v t : Nat) : Bool :=
  if v < 64 then map / 2 ^ v % 2 == 1
  else if rout = 0 then tailLeaf t || tailKids t != 0
  else if rout = 1 then !tailLeaf t && tailKids t == 0
  else tailLeaf t && tailKids t != 0

/-- A saved record of VP 64 or above without the mark of a committed base or combine. -/
def unmarkTail (rout t : Nat) : Nat :=
  recTail (tailPrec t) (tailCidx t) (tailKids t) (tailDep t) (if rout = 1 then tailKids t == 0 else tailLeaf t && tailKids t == 0)

/-- The progress that a save area holds, put into the run. -/
def State.recurLoad (s : State) (r : RecRun) (a : List Nat) : RecRun × State :=
  let d (i : Nat) : Nat := (nth a i).getD 0
  let r := { r with
    phase := d 0 % 8, lvl := d 0 / 2 ^ 8 % 128, p := d 0 / 2 ^ 16 % 65536, nproc := d 1, lfirst := d 2 % 2 ^ 32,
    lcount := d 2 / 2 ^ 32, rout := d 3 % 4, nrec := d 5 % 2 ^ 32 }
  let pending (v : Nat) : Bool :=
    let t := s.storeTail r (r.lfirst + v)
    (v < 64 && tailChosen r.rout t && !savedDone r.rout (d 4) v t) ||
    (decide (64 ≤ v) && !savedDone r.rout (d 4) v t && (r.rout == 0 || tailChosen r.rout t))
  let next := (findBy pending (countFrom 0 r.lcount)).getD r.lcount
  let s :=
    if (r.phase = 1 ∨ r.phase = 3) ∧ r.rout ≠ 0 then
      (countFrom 64 (r.lcount - 64)).foldl (fun u v =>
        let t := u.storeTail r (r.lfirst + v)
        if savedDone r.rout (d 4) v t then u.setStoreTail r (r.lfirst + v) (unmarkTail r.rout t) else u) s
    else s
  ({ r with next := next }, s)

/-- The fields of an object that a run resumes: as they stood when it started (R266); from memory where this hart did not start it. -/
def State.objectKept (s : State) (w : Who) (obj : Nat) : Res RecRun :=
  match findBy (s.hart.ownsObject obj) s.hart.objects with
  | some q => .ok q.2 s
  | none => (s.loadSeq w obj 8 9).bind fun l s => .ok (objectOf obj s.hart.width 0 l) s

/-- A run resumed from its save area, once the older transfers that share its bytes are complete. -/
def State.recurResume (s : State) (e : QEntry) (a : List Nat) : Started :=
  (s.objectKept { s.hartWho false with pad := false } e.opa.toNat).bind fun r s =>
    let (r, s) := s.recurLoad r a
    if s.recurHeld r then .wait s else .ok r s

/-! ## A group of a pass (R268 to R270) -/

/-- A frame of a group: its VP, the address of its record, the bytes of its VP's stack in use. -/
structure Frm where
  vp   : Nat
  addr : Nat
  used : Nat

/-- The result words of a record. -/
def State.resultWords (s : State) (w : Who) (r : RecRun) (a : Nat) : Res (List Nat) :=
  s.loadSeq w (a + r.w / 8 * r.nfw) (r.w / 8) r.nrw

/-- The result words of records in turn. -/
def State.resultsOf (s : State) (w : Who) (r : RecRun) : List Nat → Res (List (List Nat))
  | [] => .ok [] s
  | a :: as =>
    (s.resultWords w r a).bind fun v s => (State.resultsOf s w r as).bind fun l s => .ok (v :: l) s

/-- The last doubleword of a record. -/
def State.tailAt (s : State) (w : Who) (r : RecRun) (a : Nat) : Res Nat := s.loadAs w ((a + r.recSize - 8) % 2 ^ 64) 8 8

/-- The addresses of the children of a frame whose combine runs: in the store for a frame of a level, on top of the stack in
the depth-first phase. -/
def State.kidsOf (s : State) (r : RecRun) (f : Frm) (k : Nat) : List Nat :=
  if r.phase = 2 then
    let first := r.stk + f.vp * r.stkb + f.used - k * r.recSize
    (countFrom 0 k).map (fun j => first + j * r.recSize)
  else
    let me := (f.addr - r.recAt 0) / r.recSize
    let from' := r.lfirst + r.lcount
    ((countFrom from' (r.nrec - from')).filter (fun i => tailPrec (s.storeTail r i) == me && tailDep (s.storeTail r i) == r.lvl + 1)).map r.recAt

/-- The virtual processors of the frames of a group (R268). -/
def State.loadVps (s : State) (w : Who) (r : RecRun) : List Frm → Res (List RVp)
  | [] => .ok [] s
  | f :: fs =>
    (s.loadSeq w f.addr (r.w / 8) r.nfw).bind fun words s =>
      (s.tailAt w r f.addr).bind fun t s =>
        (if r.rout = 2 then s.resultsOf w r (s.kidsOf r f (tailKids t)) else Res.ok [] s).bind fun kids s =>
          (State.loadVps s w r fs).bind fun l s =>
            .ok ({ vp := f.vp, record := f.addr, depth := tailDep t, words := words, used := f.used, kids := kids, spawns := [],
                   sites := [], ret := none } :: l) s

/-- The registers of a VP as the engine sets them up: v22 to v31 at its element (R268). -/
def State.setVp (s : State) (r : RecRun) (p : RVp) : State :=
  let s := (s.setEl 22#5 r.w p.vp 0).setEl 23#5 r.w p.vp 0
  (countFrom 0 8).foldl (fun t m => t.setEl (24#5 + BitVec.ofNat 5 m) r.w p.vp ((nth p.words m).getD 0)) s

/-- The child records of a frame written from an address on (R267). -/
def State.putKids (s : State) (w : Who) (r : RecRun) (a prec dep : Nat) : List (List Nat) → Nat → Res Unit
  | [], _ => .ok () s
  | k :: ks, j =>
    (s.storeSeq w a (r.w / 8) (k ++ List.replicate r.nrw 0)).bind fun _ s =>
      (s.storeAs w ((a + r.recSize - 8) % 2 ^ 64) 8 8 (recTail prec j 0 dep false)).bind fun _ s =>
        State.putKids s w r (a + r.recSize) prec dep ks (j + 1)

/-- The engine's records of one VP's frame as its group commits: the result of base or combine, or the children of divide,
appended to the store or pushed on the VP's stack (R269 to R271). -/
def State.commitVp (s : State) (w : Who) (r : RecRun) (p : RVp) : Res RecRun :=
  if r.rout = 0 then
    (s.tailAt w r p.record).bind fun t s =>
      let k := p.spawns.length
      (s.storeAs w ((p.record + r.recSize - 8) % 2 ^ 64) 8 8
        (recTail (tailPrec t) (tailCidx t) k (tailDep t) (k == 0))).bind fun _ s =>
        if r.phase = 1 then
          (s.putKids w r (r.recAt r.nrec) ((p.record - r.recAt 0) / r.recSize) (p.depth + 1) p.spawns 0).bind fun _ s =>
            .ok { r with nrec := r.nrec + k, nproc := r.nproc + 1 } s
        else
          (s.putKids w r (r.stk + p.vp * r.stkb + p.used) 0xFFFFFFFF (p.depth + 1) p.spawns 0).bind fun _ s =>
            .ok { r with nproc := r.nproc + 1 } s
  else
    match p.ret with
    | none => .ok r s
    | some ws => (s.storeSeq w (p.record + r.w / 8 * r.nfw) (r.w / 8) ws).bind fun _ s => .ok r s

/-- The records of a group's VPs as it commits. -/
def State.commitVps (s : State) (w : Who) (r : RecRun) : List RVp → Res RecRun
  | [] => .ok r s
  | p :: ps => (s.commitVp w r p).bind fun r s => State.commitVps s w r ps

/-- A push that would exceed a VP's stack: the `RSPAWN` of the first child that does not fit, and 0x99 with the bytes needed (R271, R272). -/
def RecRun.overflow (r : RecRun) (p : RVp) : Option (Word × Stop) :=
  let need := p.used + p.spawns.length * r.recSize
  if r.phase = 2 ∧ r.rout = 0 ∧ r.stkb < need then
    some ((nth p.sites ((r.stkb - p.used) / r.recSize)).getD 0#64, stopAt 0x99 (p.vp * 2 ^ 32 + need))
  else none

/-- The address of a routine. -/
def RecRun.routine (r : RecRun) : Nat := if r.rout = 0 then r.div else if r.rout = 1 then r.base else r.comb

/-- What a group of the run comes to: it commits, a block instruction raises a cause, an access of the engine's own does (R275), or it waits. -/
inductive RStep where
  | ok (r : RecRun) (s : State)
  | cause (vpc : Word) (c : Stop) (s : State)
  | engine (c : Stop) (s : State)
  | wait (s : State)

/-- An access of the engine's own within a group: its fault is a transfer's (R275). -/
def Res.step {α : Type} (r : Res α) (k : α → State → RStep) : RStep :=
  match r with
  | .ok a s => k a s
  | .stop c s => .engine c s
  | .wait s => .wait s

/-- A group of frames runs the routine of the run and commits, engine records included; `after` records its progress. -/
def State.recurGroup (s : State) (e : QEntry) (r : RecRun) (fs : List Frm) (after : RecRun → List RVp → State → Res RecRun) : RStep :=
  let w := s.recurWho
  let base := BitVec.ofNat 64 r.routine
  match s.readBlock base with
  | .stop c t => .cause base c t
  | .wait t => .wait t
  | .ok block s0 =>
    (s0.loadVps w r fs).step fun vps s1 =>
      let s2 := vps.foldl (fun t p => t.setVp r p) s1
      let s2 := s2.onHart (fun h => { h with recur := some { r with vps := vps } })
      match s2.runGroup block base (fs.map (fun f => (f.vp, f.vp))) with
      | .done t =>
        let vps := match t.hart.recur with | some q => q.vps | none => []
        match vps.filterMap r.overflow with
        | (vpc, c) :: _ => .cause vpc c t
        | [] => ((t.commitVps w r vps).bind fun r t => after r vps t).step fun r t => .ok { r with vps := [] } t
      | .fault vpc c t => .cause vpc c t
      | .wait t => .wait t

/-- The outcome of a group within the state before it: whole, or with what the attempt recorded (R138). A fault of the engine's own accesses
waits to be taken as that of a transfer (R232, R275); the group has not committed. -/
def State.settleStep (s : State) (r : RecRun) (o : RStep) : State :=
  match o with
  | .ok q t => t.onHart (fun h => { h with recur := some q })
  | .cause vpc c t => ((s.keepAttempt t false).onHart (fun h => { h with recur := some r })).headCause c vpc
  | .engine c t => (s.keepAttempt t false).onHart (fun h => { h with recur := some r }.endedBy c h.beforeQueue 0)
  | .wait t => ((s.keepAttempt t true).onHart (fun h => { h with recur := some r })).headIdle

/-! ## The depth-first phase (R271) -/

/-- A VP's stack header (R271): the next frontier ordinal, the bytes in use, and of the frame on top the routine that it runs next and
the next child to be handled. The frame on top is a frontier frame or a leaf that has no children's records, else the frame whose
children were pushed last (log 81). -/
structure Head where
  ord  : Nat
  used : Nat
  rout : Nat
  kid  : Nat

/-- A stack header read. -/
def State.loadHead (s : State) (w : Who) (r : RecRun) (v : Nat) : Res Head :=
  (s.loadSeq w (r.stk + v * r.stkb) 8 2).bind fun l s =>
    let a := (nth l 0).getD 0
    let b := (nth l 1).getD 0
    .ok { ord := a % 2 ^ 32, used := a / 2 ^ 32, rout := b % 4, kid := b / 2 ^ 8 % 256 } s

/-- A stack header written. -/
def State.storeHead (s : State) (w : Who) (r : RecRun) (v : Nat) (h : Head) : Res Unit :=
  s.storeSeq w (r.stk + v * r.stkb) 8 [h.ord % 2 ^ 32 + h.used % 2 ^ 32 * 2 ^ 32, h.rout % 4 + h.kid % 256 * 2 ^ 8]

/-- The frontier: the level after the last one that was run breadth-first. -/
def RecRun.frontier (r : RecRun) : Nat := r.nrec - (r.lfirst + r.lcount)

/-- A VP that takes its next frontier frame, or has none left. -/
def RecRun.takeNext (r : RecRun) (ord : Nat) : Head :=
  if ord < r.frontier then { ord := ord + r.p, used := 16, rout := 0, kid := 0 } else { ord := ord, used := 16, rout := 3, kid := 0 }

/-- The VPs that have a frontier frame; no other has a header in memory, for it has no progress (R271, R284). -/
def RecRun.working (r : RecRun) : Nat := min r.p r.frontier

/-- The headers of VPs set up. -/
def State.initHeads (s : State) (w : Who) (r : RecRun) : List Nat → Res Unit
  | [] => .ok () s
  | v :: vs => (s.storeHead w r v (r.takeNext v)).bind fun _ s => State.initHeads s w r vs

/-- How many of the `k` sibling records from `a` have been divided. -/
def State.divided (s : State) (w : Who) (r : RecRun) (a : Nat) : Nat → Res Nat
  | 0 => .ok 0 s
  | k + 1 =>
    (s.tailAt w r a).bind fun t s =>
      if tailLeaf t || tailKids t != 0 then (State.divided s w r (a + r.recSize) k).bind fun n s => .ok (n + 1) s
      else .ok 0 s

/-- A frame of a path: its address, its index among its siblings, the children that it has. -/
structure Step where
  addr : Nat
  idx  : Nat
  kids : Nat

/-- The current path of a VP from frame `cur` to the frame on top, deepest first; the records of `cur`'s children stand from `pos` on. -/
def State.path (s : State) (w : Who) (r : RecRun) (v : Nat) (h : Head) : Nat → Nat → Nat → Nat → List Step → Res (List Step)
  | 0, _, _, _, acc => .ok acc s
  | n + 1, cur, idx, pos, acc =>
    (s.tailAt w r cur).bind fun t s =>
      let k := tailKids t
      let top := pos + k * r.recSize
      let acc := { addr := cur, idx := idx, kids := k } :: acc
      if h.used ≤ pos ∨ (h.used ≤ top ∧ 2 ≤ h.rout) then .ok acc s
      else
        let first := r.stk + v * r.stkb + pos
        (s.divided w r first k).bind fun d s => State.path s w r v h n (first + (d - 1) * r.recSize) (d - 1) top acc

/-- The path of a VP. -/
def State.pathOf (s : State) (w : Who) (r : RecRun) (v : Nat) (h : Head) : Res (List Step) :=
  s.path w r v h 66 (r.recAt (r.lfirst + r.lcount + (h.ord - r.p))) 0 16 []

/-- The routine that a frame with children runs next: combine, or none (R271). -/
def RecRun.last (r : RecRun) : Nat := if r.comb = 0 then 3 else 2

/-- The header once the frame on top of a path has finished and its children's records are popped: its parent goes on with the next
child, or the VP with its next frontier frame. A parent that has nothing left to run finishes too. -/
def RecRun.unwind (r : RecRun) (ord : Nat) : List Step → Nat → Head
  | f :: g :: up, used =>
    let used := used - f.kids * r.recSize
    if r.comb = 0 ∧ g.kids ≤ f.idx + 1 then r.unwind ord (g :: up) used
    else { ord := ord, used := used, rout := r.last, kid := f.idx + 1 }
  | _, _ => r.takeNext ord

/-- A VP's header with what has finished popped. -/
def State.settledHead (s : State) (w : Who) (r : RecRun) (v : Nat) (h : Head) : Res Head :=
  if h.rout ≠ 3 then .ok h s
  else if h.used ≤ 16 then .ok (r.takeNext h.ord) s
  else
    (s.pathOf w r v h).bind fun path s =>
      match path with
      | f :: _ => .ok (if f.kids ≤ h.kid then r.unwind h.ord path h.used else h) s
      | [] => .ok h s

/-- What a VP does next: the routine, the frame, the header, the path up to the frame on top. -/
structure Work where
  vp   : Nat
  rout : Nat
  frm  : Frm
  head : Head
  path : List Step

/-- The work of a VP whose header is settled; none when it has finished. -/
def State.workOf (s : State) (w : Who) (r : RecRun) (v : Nat) (h : Head) : Res (Option Work) :=
  if h.rout = 3 ∧ h.used ≤ 16 then .ok none s
  else
    (s.pathOf w r v h).bind fun path s =>
      match path with
      | [] => .ok none s
      | f :: _ =>
        let mk (rout addr : Nat) : Option Work :=
          some { vp := v, rout := rout, frm := { vp := v, addr := addr, used := h.used }, head := h, path := path }
        if h.rout ≤ 1 then .ok (mk h.rout f.addr) s
        else if h.kid < f.kids then .ok (mk 0 (r.stk + v * r.stkb + h.used - (f.kids - h.kid) * r.recSize)) s
        else .ok (mk 2 f.addr) s

/-- The work of all VPs from `v`, `n` of them. -/
def State.workFrom (s : State) (w : Who) (r : RecRun) : Nat → Nat → Res (List Work)
  | _, 0 => .ok [] s
  | v, n + 1 =>
    (s.loadHead w r v).bind fun h s =>
      (s.settledHead w r v h).bind fun h s =>
        (s.workOf w r v h).bind fun q s =>
          (State.workFrom s w r (v + 1) n).bind fun l s => .ok (q.toList ++ l) s

/-- The header after a routine has committed for a VP's frame, which has spawned `k` children. -/
def RecRun.nextHead (r : RecRun) (q : Work) (k : Nat) : Head :=
  let h := q.head
  if q.rout = 0 then
    if k = 0 then { h with rout := 1, kid := 0 } else { h with used := h.used + k * r.recSize, rout := r.last, kid := 0 }
  else if q.rout = 1 then
    match q.path with
    | f :: _ :: _ => { h with rout := r.last, kid := f.idx + 1 }
    | _ => { h with rout := 3, kid := 0 }
  else { h with rout := 3 }

/-- The headers of a group's VPs after its routine has committed. -/
def State.nextHeads (s : State) (w : Who) (r : RecRun) : List (RVp × Work) → Res Unit
  | [] => .ok () s
  | (p, q) :: ps => (s.storeHead w r p.vp (r.nextHead q p.spawns.length)).bind fun _ s => State.nextHeads s w r ps

/-- One group of the depth-first phase: the lowest VP with work, and the VPs of its lane group that are ready for the same
routine; none when every VP has finished. -/
def State.depthGroup (s : State) (e : QEntry) (r : RecRun) (work : List Work) : Option RStep :=
  match work with
  | [] => none
  | q :: _ =>
    let g := s.hart.perGroup
    let ready := work.filter (fun p => p.vp / g == q.vp / g && p.rout == q.rout)
    let r := { r with rout := q.rout }
    some (s.recurGroup e r (ready.map Work.frm) (fun r vps s =>
      (s.nextHeads s.recurWho r (vps.zip ready)).bind fun _ s => .ok r s))

/-! ## The run (R269) -/

/-- The level before the current one, by the depths in the records. -/
def State.levelAbove (s : State) (r : RecRun) : Nat × Nat :=
  let l := (countFrom 0 r.lfirst).filter (fun i => tailDep (s.storeTail r i) + 1 == r.lvl)
  (l.headD 0, l.length)

/-- The frames of the next group of a pass over a level. -/
def State.levelFrames (s : State) (r : RecRun) (g : Nat) : List Frm :=
  let chosen (v : Nat) : Bool := tailChosen r.rout (s.storeTail r (r.lfirst + v))
  match findBy (fun v => decide (r.next ≤ v) && chosen v) (countFrom 0 r.lcount) with
  | none => []
  | some v0 =>
    ((countFrom v0 (min r.lcount ((v0 / g + 1) * g) - v0)).filter chosen).map
      (fun v => { vp := v, addr := r.recAt (r.lfirst + v), used := 0 })

/-- What the run does when a pass over a level is complete: the next pass, level or phase. Divide is followed by base, base by
the next level, the depth-first phase or the combine levels (R269). -/
def State.passDone (s : State) (r : RecRun) : Res RecRun :=
  let up : RecRun := { r with phase := if r.comb = 0 then 4 else 3, rout := 2, next := 0 }
  if r.phase = 1 then
    if r.rout = 0 then .ok { r with rout := 1, next := 0 } s
    else
      let kids := r.frontier
      if kids = 0 then .ok up s
      else if r.p ≤ kids ∨ r.capacity - r.nrec < kids * r.fan then
        (s.initHeads s.recurWho r (countFrom 0 r.working)).bind fun _ s => .ok { r with phase := 2, rout := 0, next := 0 } s
      else .ok { r with lvl := r.lvl + 1, lfirst := r.lfirst + r.lcount, lcount := kids, rout := 0, next := 0 } s
  else if r.phase = 2 then .ok up s
  else if r.lvl = 0 then .ok { r with phase := 4, next := 0 } s
  else
    let (f, n) := s.levelAbove r
    .ok { r with lvl := r.lvl - 1, lfirst := f, lcount := n, next := 0 } s

/-- The root's result is written, the object released once every earlier transfer is complete, and xd receives the frames divided (R269, R275,
R277). -/
def State.recurEnd (s : State) (e : QEntry) (r : RecRun) : Res Unit :=
  let w := s.recurWho
  if s.hart.bridle.any (fun t => t.after == 0 && !t.held) then .wait s
  else (s.resultWords w r (r.recAt 0)).bind fun ws s =>
    (if r.rootr = 0 then Res.ok () s else s.storeSeq { w with pad := false } r.rootr (r.w / 8) ws).bind fun _ s =>
      (s.storeSeq { w with pad := false } (r.obj + 0x50) 8 [0, 0, 0, 0, 0, 0]).bind fun _ s =>
       (s.storeAs { w with pad := false } (r.obj + 0x48) 8 8 0).bind fun _ s =>
        .ok () (s.onHart (fun h =>
          { h with
            recur := none, objects := dropBy (h.ownsObject r.obj) h.objects, csr := { h.csr with frozen := false } }.setX e.fd (BitVec.ofNat 64 r.nproc)))

/-- The run goes on until one group has run, or it ends, stops or waits: at most `n` changes of pass. -/
def State.recurRun (s : State) (e : QEntry) (r : RecRun) : Nat → State
  | 0 => s.onHart (fun h => { h with recur := some r })
  | n + 1 =>
    let turn (s : State) : State :=
      match (s.passDone r).orNothing s with
      | .ok q t => State.recurRun t e q n
      | .stop c t => s.settleStep r (.engine c t)
      | .wait t => s.settleStep r (.wait t)
    if r.phase = 4 then
      match (s.recurEnd e r).orNothing s with
      | .ok _ t => t.headDone
      | .stop c t => s.settleStep r (.engine c t)
      | .wait t => s.settleStep r (.wait t)
    else if r.phase = 2 then
      match s.workFrom s.recurWho r 0 r.working with
      | .stop c t => s.settleStep r (.engine c t)
      | .wait t => s.settleStep r (.wait t)
      | .ok work t =>
        match t.depthGroup e r work with
        | none => turn t
        | some o => t.settleStep r o
    else
      match s.levelFrames r s.hart.perGroup with
      | [] => turn s
      | f :: fs =>
        let next := ((f :: fs).getLast?.map (fun q => q.vp + 1)).getD r.lcount
        s.settleStep r (s.recurGroup e r (f :: fs) (fun r _ s => .ok { r with next := next } s))

/-- The first part of an entry has ended: the run goes on, a check has failed, or it waits. -/
def State.recurBegin (s : State) (e : QEntry) (o : Started) : State :=
  match o.orNothing s with
  | .stop c t => t.headCause c e.pc
  | .wait t => t.headIdle
  | .ok r t =>
    (t.onHead (fun e => { e with begun := true })).onHart (fun h =>
      { h with recur := some r, csr := { h.csr with frozen := true } })

/-- The restart of a partial entry: the cases of R274, by the doubleword at +0x48 of the object. An entry that starts afresh is no longer
partial: where a check fails, it has not started (R277). -/
def State.recurRestart (s : State) (e : QEntry) : State :=
  let obj := e.opa.toNat
  if s.hart.bars (obj + 0x48) 56 then s.headIdle
  else
    match (s.loadSeq { s.recurWho with pad := false } (obj + 0x48) 8 7).orNothing s with
    | .stop c t => t.onHart (fun h => h.endedBy c h.beforeQueue 0)
    | .wait t => t.headIdle
    | .ok a t =>
      let v := a.headD 0
      if v % 8 ≠ 0 ∧ v / 2 ^ 32 % 4096 = s.hart.id % 4096 then s.recurBegin e (t.recurResume e a)
      else if v = 0 then
        match (t.recurStart e).orNothing s with
        | .stop c u => (u.onHead (fun e => { e with state := 1, prog := 0 })).headCause c e.pc
        | o => s.recurBegin e o
      else t.headCause (stopAt 0x9C obj) e.pc

/-- One lane step of `RECUR`: its start or restart, or one group of its run; nothing while the cause of one of the engine's transfers waits to
be taken (R275). -/
def State.recurStep (s : State) (e : QEntry) : State :=
  if s.hart.ecauses.any (fun c => c.after == 0) then s
  else
    match s.hart.recur with
    | some r => s.recurRun e r 400
    | none => if e.state = 2 then s.recurRestart e else s.recurBegin e (s.recurStart e)

end Sys2Proof.Machine
end

