-- ==== Sys2Proof/Machine/Lanes.lean ====
section
/-! DEFINITION. The lane side of a hart: work on the entries of its vector queue (R125 to R135), the
lane-management instructions `VSETL`, `VLEASE`, `VFORK`, `VJOIN` and `VCOMMIT` (R141 to R144, R148), work on younger entries (R127 to
R130), the stop of the oldest entry before a trap (R349), and the entry of instructions into the queue. -/

namespace Sys2Proof.Machine

/-! ## Where an entry stops (R349) -/

/-- The entries that R184 requires to start at `vstart` 0: those of `startsAtZero` that are not fetch, matrix, recursion or
accumulation instructions. -/
def needsZero184 (r : Row) : Bool :=
  r.startsAtZero && !(r == .vfetchw || r == .vloop || r == .recur || r == .amerge || r == .sacc || r.isMatrix)

/-- The oldest entry stands at element `i`: `vstart`, its state and its progress (R349). -/
def State.entryAt (s : State) (r : Row) (i : Nat) : State :=
  let j := if needsZero184 r then 0 else i
  let g := s.hart.granule r j
  (s.onHart (fun h => h.setVstart j)).onHead (fun e =>
    if j = 0 then { e with state := 1, prog := 0 } else { e with state := 2, prog := g })

/-- The elements that an entry outside a block counts: `vl`, L, or the doublewords of a register (R134, R204, R228). -/
def Hart.entryCount (h : Hart) (r : Row) : Nat := if r == .vldReg || r == .vstReg then h.vlmax / 64 else h.count

/-- The oldest entry, where it acts on elements: those from `vstart` up to `hi`, or up to its first stop (R132, R134, R135). -/
def State.plainTo (s : State) (e : QEntry) (hi : Nat) : State :=
  match laneEffect e (rangeElems s.hart.vstart (min hi (s.hart.entryCount e.row))) s with
  | .done t => if hi < s.hart.entryCount e.row then t.entryAt e.row hi else t.headDone
  | .fault i c t => (t.entryAt e.row i).headCause c e.pc
  | .wait i t => (t.entryAt e.row i).headWaits

/-- The oldest entry, where it acts on elements: all that remain. -/
def State.plainStep (s : State) (e : QEntry) : State := s.plainTo e (s.hart.entryCount e.row)

/-! ## `VSETL`, `VLEASE`, `VCOMMIT` (R141, R142, R148) -/

/-- The new `vl` for a requested length, with `e` elements in a register (R141). -/
def newVl (a e : Nat) (la : Bool) : Nat :=
  if a ≤ e then a
  else if a < 2 * e then
    let v := (a + 1) / 2
    if la then v - v % 32 else v
  else e

/-- `VSETL` (R141). -/
def effVsetl (e : QEntry) (s : State) : Eff :=
  let q := e.opb
  if q.toNat / 128 ≠ 0 ∨ 5 ≤ bits q 0 3 then s.startFault (s.openStop 0x0B)
  else
    -- a length kept as it is still shrinks to the largest that the live clusters allow (R216)
    let most := codeLimit (s.stableAt s.hart.stable).live
    let s := if bits q 5 2 ≠ 3 then s.requestStorage (bits q 5 2) else if most < bits s.hart.csr.vcfg 35 2 then s.requestStorage most else s
    let s := s.onHart (fun h => { h with csr := { h.csr with vcfg := setBits (setBits h.csr.vcfg 16 3 (bits q 0 3)) 22 2 (bits q 3 2) } })
    let v := newVl e.opa.toNat s.hart.perReg s.hart.la
    .done (s.onHart (fun h => (h.setVl v).setX e.fd (BitVec.ofNat 64 v)))

/-- `VLEASE` (R142). -/
def effVlease (e : QEntry) (s : State) : Eff :=
  let s := s.requestLease s.hart.id e.opa.toNat e.opb.toNat
  .done (s.onHart (fun h => h.setX e.fd h.leaseImage))

/-- `VCOMMIT` (R148): every earlier entry has been performed, so it waits for the earlier engine transfers. -/
def effVcommit (s : State) : Eff := if s.hart.bridle.all (fun t => t.after != 0 || t.held) then .done s else .wait s.hart.vstart s

/-! ## `VFORK` and `VJOIN` (R61, R62, R143, R144) -/

/-- A free control core of a stable, the lowest. -/
def State.freeCore (s : State) (t : Nat) : Option Nat :=
  findBy (fun id => match s.findHart id with
    | some h => h.run == .off && h.job.isNone
    | none => true) (countFrom (8 * t) 8)

/-- The lowest member number that a job does not use (R143). -/
def Job.freeMember (j : Job) : Nat := (findBy (fun n => !(anyBy (fun m : Member => m.n == n) j.members)) (countFrom 0 8)).getD 8

/-- The child of a fork as it starts (R143); what the launch takes from the context is the gang's (log 19). -/
def forkChild (p : Hart) (id member : Nat) (pc : Word) (xd : Reg) (k age : Nat) : Hart :=
  let fresh := Hart.reset id
  let on2 (n : Nat) : Nat := if n = 0 then 0 else 2
  let st := setBits (setBits (setBits (setBit 0#64 4 p.ie) 0 2 p.mode) 5 2 (on2 p.vs)) 7 2 (on2 p.ms)
  let c : Hart := { fresh with
      run := .running, pc := pc, x := p.x, job := p.job, age := age
      csr := { Csrs.reset with
        status := st, vcfg := p.csr.vcfg, fen := p.csr.fen, rkey := p.csr.rkey, bypth := p.csr.bypth, tvec := p.csr.tvec,
        ftbase := p.csr.ftbase, ftlimit := p.csr.ftlimit, fcfg := p.csr.fcfg, cellsweep := p.csr.cellsweep,
        awbase := p.csr.awbase, awcfg := p.csr.awcfg, pgroot := p.csr.pgroot, ctxid := p.csr.ctxid, quota := p.csr.quota,
        gang := p.csr.gang, member := member, leaseMin := 1, leasePref := k, grant := k, target := k } }
  c.setX xd 0#64

/-- `VFORK` (R61, R143). A change of the gang's VLMAX that the hart has still to take comes first, so that the child shares it (R60). -/
def effVfork (e : QEntry) (s : State) : Eff :=
  let s := s.onHart (fun h => match h.vlmaxTo with | some c => h.setVlmax c | none => h)
  match badTarget e.opa with
  | some c => s.startFault c
  | none =>
    let h := s.hart
    let fail : Eff := .done (s.onHart (fun h => h.setX e.fd (BitVec.allOnes 64)))
    match s.job with
    | none => fail
    | some j =>
      let c := h.csr.grant
      let k := c / 2
      let m := h.csr.leaseMin
      let p := h.csr.leasePref
      let m2 := max 1 (m - k)
      let n := (s.stableAt h.stable).live
      match s.freeCore h.stable with
      | none => fail
      | some id =>
        if c < 2 || decide (8 ≤ j.members.length) || !s.banksFit h.stable (extraBanks (bits h.csr.vcfg 35 2)) ||
           decide (m < m2 + 1 ∧ n < s.minSum h.stable - m + m2 + 1) then fail
        else
          let num := j.freeMember
          let t := { s with clock := s.clock + 1 }
          let t := t.putHart (forkChild h id num e.opa e.fd k t.clock)
          let t := t.onHart (fun h =>
            { h with
              age := t.clock
              forks := h.forks ++ [({ member := num, k := k, d := m - m2 } : Fork)]
              csr := { h.csr with leaseMin := m2, leasePref := max m2 (p - k), grant := c - k } }.setX e.fd (BitVec.ofNat 64 num))
          let t := t.putJob { j with
            members := j.members ++ [({ n := num, hart := id, launched := false, halted := false } : Member)]
            mask := j.mask ||| (1#8 <<< num), arrived := j.arrived &&& ~~~(1#8 <<< num) }
          .done ((t.retarget h.stable).moveBanks h.stable (s.banksUsed h.stable))

/-- `VJOIN` (R62, R144). -/
def effVjoin (e : QEntry) (s : State) : Eff :=
  let h := s.hart
  let fail : Eff := .done (s.onHart (fun h => h.setX e.fd (BitVec.allOnes 64)))
  match findBy (fun f : Fork => f.member == e.opa.toNat) h.forks, s.job with
  | some f, some j =>
    match findBy (fun m : Member => m.n == f.member) j.members with
    | none => fail
    | some m =>
      let child := (s.findHart m.hart).getD (Hart.reset m.hart)
      if child.idle then
        let n := (s.stableAt h.stable).live
        let sum := s.minSum h.stable - child.csr.leaseMin
        let m2 := h.csr.leaseMin + min f.d (n - sum)
        let p2 := min n (max m2 (h.csr.leasePref + f.k))
        let t := { s with clock := s.clock + 1 }
        let t := t.putHart (Hart.reset child.id)
        let t := t.putJob (({ j with members := dropBy (fun q : Member => q.n == f.member) j.members }).leave f.member)
        let t := t.onHart (fun h =>
          { h with
            age := t.clock
            forks := dropBy (fun g : Fork => g.member == f.member) h.forks
            csr := { h.csr with
              leaseMin := m2, leasePref := p2, grant := h.csr.grant + child.csr.grant
              fflags := h.csr.fflags ||| child.csr.fflags } }.setX e.fd 0#64)
        .done (t.retarget h.stable)
      else .wait h.vstart s
  | _, _ => fail

/-! ## One step of lane work -/

/-- The effect of a lane-management instruction on the oldest entry. -/
def State.vctlStep (s : State) (e : QEntry) (o : Eff) : State :=
  match o with
  | .done t => t.headDone
  | .fault _ c t => t.headCause c e.pc
  | .wait _ t => (s.keepAttempt t true).headWaits

/-- An entry at place `n` of the queue that writes memory waits for the accesses before the last release fence that it follows (R303). -/
def Hart.fenceHolds (h : Hart) (n : Nat) (e : QEntry) : Bool :=
  e.mem.2 &&
  ((h.queue.take n).any (fun d => decide (d.fence < e.fence) && (d.mem.1 || d.mem.2)) ||
    h.bridle.any (fun t => decide (t.after ≤ n ∧ t.fence < e.fence) && !t.held))

/-- Work on the oldest entry; `all` says whether a block goes on as far as it can or for one group. -/
def State.headWork (s : State) (e : QEntry) (all : Bool) : State :=
  if s.hart.fenceHolds 0 e then s.headIdle
  else
    match e.row with
    | .vfetch | .cVfetch => s.vfetchStep e all
    | .vfetchw => s.vfetchwStep e all
    | .vloop => s.vloopStep e all
    | .recur => s.recurStep e
    | .vsetl => s.vctlStep e (effVsetl e s)
    | .vlease => s.vctlStep e (effVlease e s)
    | .vfork => s.vctlStep e (effVfork e s)
    | .vjoin => (s.vctlStep e (effVjoin e s)).boundary s.hart.id
    | .vcommit => s.vctlStep e (effVcommit s)
    | _ => s.plainStep e

/-- The arbiter holds an entry back from its start (R58). -/
def Hart.heldBack (h : Hart) (e : QEntry) : Bool := h.hold && !e.underWay

/-- One step of the lanes on the oldest entry of the queue of the hart in focus. A boundary that the arbiter forces is taken once no entry is
in execution (R58). -/
def State.lanes (s : State) (all : Bool) : State :=
  if s.hart.vcause.isSome then s
  else if s.hart.hold && !s.hart.queue.any QEntry.underWay then s.boundary s.hart.id
  else
    match s.hart.queue with
    | [] => s
    | e :: _ => if e.state = 0 then s.onHart Hart.leave else if s.hart.heldBack e then s else s.headWork e all

/-! ## Younger entries (R127 to R130, R348)

An entry goes on behind older ones a granule at a time, or whole where nothing of them governs it. Which entry moves next is the
model's schedule (log 5). -/

/-- A v or k register that an entry names: whether its elements are taken one by one, at which width, and whether a read of it
chains (R129). -/
structure RegUse where
  cls   : RClass
  reg   : Nat
  width : Nat
  elem  : Bool
  read  : Bool
  write : Bool
  chain : Bool

/-- The rows of the VM format, whose bit c governs every vector source (R71). -/
def isVm (r : Row) : Bool :=
  r == .vld || r == .vldReg || r == .vlds || r == .vldx || r == .vst || r == .vstReg || r == .vsts || r == .vstx || r == .vgll ||
  r == .vscc || r == .vacc || isVldw r

/-- The chain bit of a source (R70, R71, R129): a mask and an accumulator always chain; no source of `VTERNLOG` does (R200). -/
def chainBit (r : Row) (w : BitVec 64) (u : Use) : Bool :=
  r != .vternlog && (u.lo == 25 || u.write || (if isVm r || u.lo == 13 then bit w 23 else bit w 24))

/-- A conversion between different widths (R129). -/
def otherWidth (r : Row) : Bool :=
  r == .vcvtF64F32 || r == .vcvtF32F64 || r == .vcvtHF32 || r == .vcvtBfF32 || r == .vcvtF32H || r == .vcvtF32Bf || r == .vcvtB8F32 ||
  r == .vcvtF32B8 || r == .vcvtB8H || r == .vcvtHB8 || r == .vcvtB8Bf || r == .vcvtBfB8 || r == .vcvtE4F32 || r == .vcvtF32E4 ||
  r == .vcvtHE4 || r == .vcvtQ4F32 || r == .vcvtF32Q4 || r == .vcvtHQ4

/-- An instruction that takes the elements of its registers one by one: no lane barrier, nothing that starts at element 0 alone, no
register pair, no conversion between different widths (R129). -/
def byElement (r : Row) : Bool :=
  !(r.isBarrier || needsZero184 r || otherWidth r || r.uses.any (fun u => u.span != 1))

/-- The v and k registers that an instruction names; k0 is no register. -/
def Hart.regUses (h : Hart) (r : Row) (w : BitVec 64) : List RegUse :=
  (r.uses.filter (fun u => u.cls == .v || (u.cls == .k && u.reg w != 0))).flatMap fun u => (countFrom 0 u.span).map fun m =>
    { cls := u.cls, reg := u.reg w + m, width := if u.cls == .v then h.useWidth r u.lo else h.width, elem := byElement r
      read := u.read, write := u.write, chain := chainBit r w u }

/-- The registers of the words of a block; every read of one chains (R129). -/
def Hart.blockUses (h : Hart) (ws : List (BitVec 32)) : List RegUse :=
  ws.flatMap fun w =>
    match decodeRow (w.setWidth 64) with
    | .error _ => []
    | .ok r => (h.regUses r (w.setWidth 64)).map fun u => { u with chain := true }

/-- A fetch instruction that may run behind older entries. -/
def isFetch (r : Row) : Bool := r == .vfetch || r == .cVfetch

/-- The registers of an entry; none where its block has not been read. -/
def Hart.entryUses (h : Hart) (e : QEntry) : Option (List RegUse) :=
  if isFetch e.row then (if e.block.isEmpty then none else some (h.blockUses e.block)) else some (h.regUses e.row e.words)

/-- An entry keeps the order of R128 behind an older one though that one has not completed: they share no register that one of them
writes, or share it element by element at one width, and a read chains (R129). -/
def Hart.ordered (h : Hart) (d e : QEntry) : Bool :=
  match h.entryUses d, h.entryUses e with
  | some xs, some ys =>
    xs.all fun x => ys.all fun y =>
      !(x.cls == y.cls && x.reg == y.reg && (x.write || y.write)) ||
      (x.elem && y.elem && x.width == y.width && (!(x.write && y.read) || y.chain))
  | _, _ => false

/-- R348 governs the entry: it writes more than an x register, and need not start at element 0. -/
def governed (r : Row) : Bool := !(needsZero184 r || r == .vjoin || r == .vlease)

/-- The granules that an entry at place `n` has completed. -/
def Hart.granulesDone (h : Hart) (n : Nat) (e : QEntry) : Nat :=
  if e.state = 2 then e.prog else if n = 0 then h.granule e.row h.vstart else 0

/-- The entries before place `n` that have not completed, with their places. -/
def Hart.olderThanPlace (h : Hart) (n : Nat) : List (Nat × QEntry) :=
  ((countFrom 0 n).zip h.queue).filter (fun d => d.2.state != 0)

/-- The granules that an entry behind some older ones may complete; none where nothing bounds it (R348). -/
def Hart.granuleLimit (h : Hart) (older : List (Nat × QEntry)) (e : QEntry) : Option Nat :=
  if !governed e.row then none
  else
    older.foldl (fun acc d =>
      if !governed d.2.row then acc
      else let g := h.granulesDone d.1 d.2; some (match acc with | some a => min a g | none => g)) none

/-! ### Memory (R290) -/

/-- The loads and stores whose addresses follow from their operands alone. -/
def plainAccess (r : Row) : Bool :=
  r == .vld || r == .vlds || r == .vldx || r == .vst || r == .vsts || r == .vstx || r == .vldReg || r == .vstReg

/-- The bytes of an element of such an entry (R226, R228). -/
def Hart.elBytes (h : Hart) (e : QEntry) (i : Nat) : Range :=
  let b := h.width / 8
  match e.row with
  | .vld | .vst => { lo := addrUnit e b i, len := b }
  | .vlds | .vsts => { lo := addrStride e i, len := b }
  | .vldx | .vstx => { lo := addrIndex e h h.width i, len := b }
  | _ => { lo := addrUnit e 8 i, len := 8 }

/-- The pages of 64 KiB that some ranges begin in, each once. -/
def pagesMet (l : List Range) : List Nat :=
  l.foldl (fun acc r => if acc.contains (r.lo / 65536) then acc else (r.lo / 65536) :: acc) []

/-- The physical page behind a virtual one, where it is present. -/
def State.pageBehind (s : State) (p : Nat) : Option Nat :=
  match s.access (p * 65536) 1 1 .load false with
  | .ok (.phys pa _) _ => some (pa / 65536)
  | _ => none

/-- No byte of one list is one of the other, in virtual addresses or through two pages present at one physical page. -/
def State.apart (s : State) (p q : List Range) : Bool :=
  p.all (fun a => q.all (fun b => !b.meets a.lo a.len)) &&
  (pagesMet p).all (fun a => (pagesMet q).all (fun b => a == b ||
    (match s.pageBehind a, s.pageBehind b with | some u, some v => u != v | _, _ => true)))

/-- An entry's accesses for its elements [lo, hi) need not wait for those of the older entry at place `d.1`: one of them has none, or
both are plain and touch other bytes, the older one's index register written by no entry that is still under way. -/
def State.memApart (s : State) (older : List (Nat × QEntry)) (d : Nat × QEntry) (e : QEntry) (lo hi : Nat) : Bool :=
  let h := s.hart
  let m := d.2.mem
  let k := e.mem
  if !((k.1 || k.2) && (m.1 || m.2)) then true
  else
    let indexed := d.2.row == .vldx || d.2.row == .vstx
    let unsettled := indexed && older.any (fun o => decide (o.1 < d.1) && (match h.entryUses o.2 with
      | some us => us.any (fun u => u.cls == .v && u.write && u.reg == d.2.fb.toNat)
      | none => true))
    let from' := if d.1 = 0 then h.vstart else h.granuleStart d.2.row (h.granulesDone d.1 d.2)
    let n := h.entryCount d.2.row
    plainAccess d.2.row && plainAccess e.row && !unsettled &&
      s.apart ((countFrom from' (n - from')).map (h.elBytes d.2)) ((countFrom lo (hi - lo)).map (h.elBytes e))

/-! ### A step of a younger entry -/

/-- The hart with an entry at place `n` taken out of the queue to work on, from element `lo`. -/
def Hart.aside (h : Hart) (n : Nat) (e : QEntry) (lo : Nat) : Hart :=
  { h.setVstart lo with queue := [e], bridle := h.bridle.map (fun t => { t with after := t.after - n }) }

/-- The instructions that read or change the hart's lease (R59, R61, R62). -/
def onLease (r : Row) : Bool := r == .vlease || r == .vfork || r == .vjoin

/-- What an older entry writes is what a younger one waits for (R127): the registers (R128, R129), and the lease. -/
def Hart.waitsOn (h : Hart) (d e : QEntry) : Bool := !h.ordered d e || (onLease d.row && onLease e.row)

/-- The hart after that work, with the entry put back. A value for an x register is written in its turn (R126). -/
def Hart.putBack (h old : Hart) (n : Nat) (e : QEntry) : Hart :=
  let e := if e.state = 0 then { e with ret := e.dest.map h.getX } else e
  ({ h.setVstart old.vstart with queue := setNth old.queue n e, bridle := old.bridle, x := if e.state = 0 then old.x else h.x }).deliver

/-- Groups of a block from group `l` up to group `top`, at most `n`. -/
def State.someGroups (s : State) (block : List (BitVec 32)) (base : Word) (top : Nat) : Nat → Nat → Group
  | 0, _ => .done s
  | n + 1, l =>
    if top ≤ l then .done s
    else
      let g := s.hart.perGroup
      match s.runGroup block base (rangeElems (l * g) (min s.hart.count ((l + 1) * g))) with
      | .done t => State.someGroups t block base top n (l + 1)
      | r => r

/-- The work of an entry aside on its elements [lo, hi). -/
def State.asideWork (s : State) (e : QEntry) (lo hi : Nat) : Eff :=
  match e.row with
  | .vjoin => effVjoin e s
  | .vlease => effVlease e s
  | .vfetch | .cVfetch =>
    let g := s.hart.perGroup
    match s.someGroups e.block e.opa (max (lo / g + 1) ((hi + g - 1) / g)) 8192 (lo / g) with
    | .done t => .done t
    | .fault _ c t => .fault lo c t
    | .wait t => .wait lo t
  | _ => laneEffect e (rangeElems lo hi) s

/-- The x registers that the words of a block read. -/
def Hart.blockReads (h : Hart) (ws : List (BitVec 32)) : List Reg :=
  ws.flatMap (fun w =>
    match decodeRow (w.setWidth 64) with
    | .error _ => []
    | .ok r =>
      let c := r.captures (w.setWidth 64)
      c.1.toList ++ c.2.toList ++ (if h.readsX2 r (w.setWidth 64) then [2#5] else []))

/-- An entry still reads x register `d` from the register itself: a block's operands, x2 under SR, any register for `RECUR` and
for a block not yet read again (R137, R164, R351). -/
def Hart.entryReads (h : Hart) (d : Reg) (e : QEntry) : Bool :=
  e.state != 0 &&
  (match e.row with
   | .recur => true
   | .vfetch | .cVfetch | .vfetchw | .vloop => e.block.isEmpty || (h.blockReads e.block).contains d
   | r => h.readsX2 r e.words && d == 2#5)

/-- Some entry of the queue still reads x register `d`. -/
def Hart.stillReads (h : Hart) (d : Reg) : Bool := h.queue.any (h.entryReads d)

/-- Work on the entry at place `n` behind older ones, and whether it did any. A stop leaves it as it stood: it will be met again
when the entry is the oldest (R343). No value is returned to a register that an older entry still reads (R137, R164). -/
def State.youngWork (s : State) (n : Nat) : State × Bool :=
  let h := s.hart
  match nth h.queue n with
  | none => (s, false)
  | some e =>
    let older := h.olderThanPlace n
    let p := if e.state = 2 then e.prog else 0
    let cnt := h.entryCount e.row
    let lo := h.granuleStart e.row p
    let limit := h.granuleLimit older e
    let whole := e.row == .vscc || e.row == .sacc || e.row == .amerge
    let hi := match limit with | some _ => min cnt (h.granuleStart e.row (p + 1)) | none => cnt
    let may := e.state != 0 && n != 0 && h.vcause.isNone && h.vlmaxTo.isNone && !e.row.isBarrier && !h.heldBack e &&
      !(older.any (fun d => d.2.row.isBarrier || h.waitsOn d.2 e)) && !h.fenceHolds n e &&
      (match e.dest with | some x => x == 0#5 || !(older.any (fun d => h.entryReads x d.2)) | none => true) &&
      (match limit with | some g => decide (p < g) && !whole | none => true) &&
      older.all (fun d => s.memApart older d e lo hi)
    if !may then (s, false)
    else
      match (s.onHart (fun h => h.aside n e lo)).asideWork e lo hi with
      | .done t =>
        let e' := if cnt ≤ hi then { e with state := 0 }
          else { e with state := 2, prog := p + 1, begun := true, lrec := if isFetch e.row then BitVec.ofNat 64 (8 * (p + 1)) else e.lrec }
        (t.onHart (fun g => g.putBack h n e'), true)
      | .fault _ _ _ => (s, false)
      | .wait _ t => (s.keepAttempt t true, false)

/-- The first entry from place `n` on that can go on does, of at most `k`. -/
def State.youngTry (s : State) : Nat → Nat → State
  | 0, _ => s
  | k + 1, n => let (t, did) := s.youngWork n; if did then t else State.youngTry t k (n + 1)

/-- One step of the lanes: the oldest entry, and where it stays, one behind it. -/
def State.laneStep (s : State) : State :=
  let t := s.lanes true
  if t.hart.queue.length = s.hart.queue.length then t.youngTry (t.hart.queue.length - 1) 1 else t

/-- One step of the lanes on the entry at a place of the queue. -/
def State.laneAt (s : State) (n : Nat) : State := if n = 0 then s.lanes true else (s.youngWork n).1

/-- What goes on while the control thread waits: the lanes, or the engines. -/
def State.idleWork (s : State) : State := if s.hart.queue = [] then s.engineWork else s.laneStep

/-! ## The stop of the oldest entry (R349) -/

/-- The instructions that do not count elements against `vl`, and the tile forms: they stop before or after their whole effect (R134). -/
def countsNone (r : Row) : Bool :=
  r == .vsetl || r == .vlease || r == .vfork || r == .vjoin || r == .vcommit || r == .mmode || r == .mshape || r == .mzero || r == .mload ||
  r == .mdrain || r == .sacc || r == .amerge || r == .opacc || r == .opsub || r == .opaccw

/-- The end of the granule that holds an entry's lowest element not performed. -/
def Hart.granuleEnd (h : Hart) (r : Row) : Nat := h.granuleStart r (h.granule r h.vstart + 1)

/-- The groups of `VFETCH` up to the end of its granule, at most `n` (R349). -/
def State.fetchToGranule (s : State) : Nat → State
  | 0 => s
  | n + 1 =>
    match s.hart.queue with
    | [] => s
    | e :: _ =>
      let (t, more) := s.fetchGroup e e.block
      if more && t.hart.vstart != t.hart.granuleStart e.row (t.hart.granule e.row t.hart.vstart) then State.fetchToGranule t n else t

/-- The oldest entry comes to its stop: `RECUR`, `VLOOP` and `VFETCHW` between two groups, an entry that starts at element 0 done or not
begun, `MDRAIN` not begun, so that no drain is open when the hart is pre-empted (R213), any other at the end of its granule. A cause that it meets there is not recorded: replay raises it. -/
def State.stopHead (s : State) (e : QEntry) : State :=
  let t :=
    if e.row == .recur || e.row == .vloop || e.row == .vfetchw || e.row == .mdrain || s.hart.fenceHolds 0 e || s.hart.heldBack e then s
    else if isFetch e.row then s.withBlock e (fun _ s => (s.markFetch e).fetchToGranule 8)
    else if countsNone e.row then s.headWork e true
    else if e.row.startsAtZero then (if s.hart.entryCount e.row ≤ s.hart.granuleEnd e.row then s.plainStep e else s)
    else s.plainTo e (s.hart.granuleEnd e.row)
  t.onHart (fun h => { h with vcause := none })

/-- The stop of the queue before a trap (R349): an entry that has raised the cause stands where it stopped; the oldest entry else comes
to its stop. With `qip` already 1 nothing of the queue is kept (R347). -/
def State.settle (s : State) : State :=
  if s.hart.qip || s.hart.vcause.isSome then s
  else
    let t := s.onHart Hart.leave
    match t.hart.queue with
    | [] => t
    | e :: _ => t.stopHead e

/-- Of the transfers that are younger than entries of the queue, those that none of these entries and no transfer held back concerns follow
nothing that the freeze puts into the image (R232, log 97). -/
def Hart.loosen (h : Hart) : Hart :=
  { h with bridle := h.bridle.foldl (fun acc t =>
      acc ++ [if t.held || h.entryBefore t || acc.any (fun o => o.after != 0 && !o.held && t.follows o) then t else { t with after := 0 }]) [] }

/-- Takes a trap on the hart in focus at its PC (R344): its oldest entry stops (R349), and the handler is entered. A change of grant takes
effect at a pre-emption and at a boundary that the arbiter forces (R58). -/
def State.takeTrap (s : State) (c : Stop) (vpc : Option Word) : State :=
  let t := (s.settle.onHart Hart.loosen).enterTrap c vpc
  if c.cause = 0xA0 ∨ c.cause = 0xA1 ∨ t.hart.hold then t.boundary t.hart.id else t

/-! ## How an instruction of the control thread stops -/

/-- The instruction raises a scalar cause, which is taken at once (R343, R101). -/
def State.raise (s : State) (c : Stop) : Answer := .next (s.takeTrap c none)

/-- The end of an instruction by an operation's result: goes on, traps, or waits at the same PC while the lanes and engines go on. -/
def Res.finish {α : Type} (r : Res α) (k : α → State → Answer) : Answer :=
  match r with
  | .ok a s => k a s
  | .stop c s => s.raise c
  | .wait s => .next s.idleWork

/-- The end of a scalar floating-point instruction or division: the flags are ORed into `fflags`; an enabled one traps with
the floating flags in `tval` [4:0] and no x register written (R105, R109). -/
def State.fpWrite (s : State) (d : Reg) (v : Word) (fl : Flags) (len : Nat) : Answer :=
  let t := s.onHart (fun h => h.orFlags fl)
  match enabledCause t.hart.fen fl with
  | some c => t.raise (stopAt c (bits fl 0 5))
  | none => t.writeX d v len

/-! ## Registers that wait (R126, R137, R164) -/

/-- The x registers whose values an entry has still to write (R126). -/
def Hart.pendingX (h : Hart) : List Reg :=
  (h.queue.filter (fun e => e.state != 0 || e.ret.isSome)).filterMap (fun e => match e.dest with | some d => if d = 0#5 then none else some d | none => none)

/-- An instruction waits for the queue: a `VFORK` is not complete (R143), or a register it names is pending, x2 among them where it
rounds stochastically and every one for `RECUR` (R126, R164), or it writes one that an entry still reads. -/
def Hart.mustWait (h : Hart) (r : Row) (w : BitVec 64) : Bool :=
  h.queue.any (fun e => e.row == .vfork && e.state != 0) ||
  (let p := h.pendingX
   (r.xNames w).any (fun x => p.contains x) || (r == .recur && !p.isEmpty) || (h.readsX2 r w && p.contains 2#5)) ||
  (!(r.isVec w) && (match r.xDest w with | some d => d != 0#5 && h.stillReads d | none => false))

/-! ## Entering the queue (R125) -/

/-- The block that a fetch instruction runs, read as it decodes (R137, R145). -/
def State.blockFor (s : State) (r : Row) (w : BitVec 64) : Res (List (BitVec 32)) :=
  match r with
  | .vfetch | .vfetchw | .vloop | .cVfetch =>
    match (r.captures w).1 with
    | some a => s.readBlock (s.hart.getX a)
    | none => .ok [] s
  | _ => .ok [] s

/-- An instruction enters the vector queue, or waits to, or raises what its decode finds (R75, R125, R126). -/
def State.issue (s : State) (r : Row) (w : BitVec 64) : Answer :=
  match s.decodeStop r w with
  | some c => s.raise c
  | none =>
    let h := s.hart
    if h.mustWait r w || decide (32 ≤ h.queue.length) ||
       ((r.xDest w).isSome && decide (8 ≤ (h.queue.filter (fun e => e.dest.isSome && (e.state != 0 || e.ret.isSome))).length)) then .next s.idleWork
    else
      (s.blockFor r w).finish fun block s =>
       if (let p := s.hart.pendingX; !p.isEmpty && (s.hart.blockReads block).any (fun x => p.contains x)) then .next s.idleWork
       else
        let e := s.hart.entry r w s.hart.pc block
        let alone := s.hart.queue.isEmpty
        let t := (s.onHart (fun h => { h with queue := h.queue ++ [e] })).advance (lenOf w)
        .next (if t.laneEager && alone then t.laneStep else t)

end Sys2Proof.Machine
end

