-- ==== Sys2Proof/Machine/Scalar.lean ====
section
/-! DEFINITION. The frame of every instruction that the control thread executes itself (R101, R102): decode checks, waits, and
accesses to memory. -/

namespace Sys2Proof.Machine

/-! ## Waits -/

/-- An access of the hart before its last release fence is still to be performed, so that no write goes on (R303). -/
def Hart.fencedAhead (h : Hart) : Bool :=
  h.queue.any (fun e => decide (e.fence < h.fences) && (e.mem.1 || e.mem.2)) ||
  h.bridle.any (fun t => decide (t.fence < h.fences) && !t.held)

/-- An instruction waits for older entries and transfers of its hart: these go on, also those that pre-emption had stopped, for the handler
could not go on without them (log 20). -/
def State.waitOlder (s : State) : Answer := .next s.resumeTransfers.idleWork

/-- The instructions of the control thread that write a ring or arrive, whatever address they name. -/
def writesShared (r : Row) : Bool :=
  r == .qpush || r == .qpop || r == .qwake || r == .qgrow || r == .gbar || r == .gbarRlx

/-! ## The frame of a class A instruction -/

/-- An instruction of the control thread: what its decode raises (R75), the waits of R126 and R137, then `k`. -/
def State.scalar (s : State) (r : Row) (w : BitVec 64) (k : State → Answer) : Answer :=
  match s.decodeStop r w with
  | some c => s.raise c
  | none =>
    if s.hart.mustWait r w then .next s.idleWork
    else if writesShared r && s.hart.fencedAhead then s.waitOlder
    else k s

/-- An instruction that writes a function of the hart's registers to `d`. -/
def State.compute (s : State) (r : Row) (w : BitVec 64) (len : Nat) (d : Reg) (f : Hart → Word) : Answer :=
  s.scalar r w fun s => s.writeX d (f s.hart) len

/-- A scalar access of [a, a + n): it waits for what is held, then `k`. -/
def State.onceFree (s : State) (a n : Nat) (write : Bool) (k : State → Answer) : Answer :=
  if s.hart.memHeld a n || (write && s.hart.fencedAhead) then s.waitOlder else k s

/-- Everything that a release orders has been performed (R115, R303): no queue entry that accesses memory is left, and no transfer but
those that wait for a replay of what they follow (log 97). -/
def Hart.released (h : Hart) : Bool :=
  h.queue.all (fun e => e.mem == (false, false)) && h.bridle.all (fun t => t.held)

/-- Every read that an acquire fence orders has returned (R303). -/
def Hart.readsBack (h : Hart) : Bool :=
  h.queue.all (fun e => !e.mem.1) && h.bridle.all (fun t => t.held || t.reads.isEmpty)

/-- A release waits for every earlier access of the hart, then `k`. -/
def State.afterRelease (s : State) (release : Bool) (k : State → Answer) : Answer :=
  if release && !s.hart.released then s.waitOlder else k s

/-- A CSR write or trap return waits until the older queue entries have completed, then `k` (R100, R354). -/
def State.afterQueue (s : State) (k : State → Answer) : Answer :=
  if s.hart.queue.isEmpty then k s else .next s.laneStep

end Sys2Proof.Machine
end

