-- ==== Sys2Proof/Machine/Csr.lean ====
section
/-! DEFINITION. The control registers as the CSR instructions see them (R91 to R100, R59), and those instructions (R116). -/

namespace Sys2Proof.Machine

/-- The CSRs whose read waits for older vector queue entries (R100). -/
def csrReadWaits (n : Nat) : Bool :=
  n == 0 || decide (0x10 ≤ n ∧ n ≤ 0x15) || decide (0x18 ≤ n ∧ n ≤ 0x1A) || n == 0x60

/-! ## Reads -/

/-- `gbar` (R95): the gang barrier of the job; 0 without a job (log 22). -/
def Job.gbarImage (j : Job) : Word :=
  BitVec.ofNat 64 (j.arrived.toNat + j.mask.toNat * 2 ^ 8 + j.phase % 2 ^ 16 * 2 ^ 16)

/-- `locid` of a hart (R3, R99); on a groom core the stable and core are free values (log 21). -/
def Hart.locid (h : Hart) : Word :=
  if h.isGroom then setBits (Config.groomHartid h.die &&& 0x3F07#64) 16 3 h.die
  else BitVec.ofNat 64 (h.id % 8 + h.id / 8 % 48 * 2 ^ 8 + h.die * 2 ^ 16)

/-- `awcfg` of window `i`, with `satf` as its merges have left it (R98, R336). -/
def State.awcfgImage (s : State) (i : Fin 4) : Word :=
  setBit (s.hart.csr.awcfg[i]) 16 (anyBy (fun p : Nat × Nat => p == (s.hart.ctx, i.val)) s.satf)

/-- The value of a CSR that exists (R93 to R99, R59). -/
def State.readCsr (s : State) (n : Nat) : Word :=
  let h := s.hart
  let c := h.csr
  match n with
  | 0x00 => c.status
  | 0x01 => c.tvec
  | 0x02 => c.tcause
  | 0x03 => c.tval
  | 0x04 => c.tpc
  | 0x05 => c.tvpc
  | 0x06 => c.tqpos
  | 0x07 => c.tscratch
  | 0x10 => c.vcfg
  | 0x11 => c.vstart
  | 0x12 => c.vdirty
  | 0x13 => c.vsc
  | 0x14 => h.leaseImage
  | 0x15 => match s.job with | some j => j.gbarImage | none => 0#64
  | 0x16 => c.bypth
  | 0x17 => c.rkey
  | 0x18 => c.mshape
  | 0x19 => c.mmode
  | 0x1A => c.fflags
  | 0x1B => c.fen
  | 0x30 => c.ftbase
  | 0x31 => c.ftlimit
  | 0x32 => c.fcfg
  | 0x33 => c.cellsweep
  | 0x38 => c.awbase[0]
  | 0x39 => c.awbase[1]
  | 0x3A => c.awbase[2]
  | 0x3B => c.awbase[3]
  | 0x3C => s.awcfgImage 0
  | 0x3D => s.awcfgImage 1
  | 0x3E => s.awcfgImage 2
  | 0x3F => s.awcfgImage 3
  | 0x40 => if h.isGroom then Config.groomHartid h.die &&& 0xFFF#64 else BitVec.ofNat 64 h.id
  | 0x41 => BitVec.ofNat 64 (c.gang % 2 ^ 24 + c.member % 8 * 2 ^ 24)
  | 0x42 => h.locid
  | 0x48 => (s.stableAt h.stable).cycle
  | 0x49 => c.instret
  | 0x50 => c.pgroot
  | 0x51 => c.ctxid
  | 0x52 => BitVec.ofNat 64 (c.quota.toNat + s.pinsUsed h.ctx % 2 ^ 32 * 2 ^ 32)
  | 0x60 => c.errinfo
  | 0x61 => (s.stableAt h.stable).lanedis.setWidth 64
  | _ => 0#64

/-! ## Writes -/

/-- A write that `vcfg` refuses (R94). -/
def Hart.badVcfg (h : Hart) (v : Word) : Bool :=
  decide (5 ≤ bits v 16 3) || decide (6 ≤ bits v 19 3) || decide (6 ≤ bits v 24 3) || bits v 29 3 == 0 || bits v 41 23 != 0 ||
  decide (h.vlmax / sewBits (bits v 16 3) < bits v 0 16)

/-- `old` with the bits of `mask` from `v`: the RW fields written. -/
def merge (mask old v : Word) : Word := (old &&& ~~~mask) ||| (v &&& mask)

/-- `status` written: 3 leaves `mode` or `pmode` as it is (R93). -/
def writeStatus (old v : Word) : Word :=
  let v := if bits v 0 2 = 3 then setBits v 0 2 (bits old 0 2) else v
  let v := if bits v 2 2 = 3 then setBits v 2 2 (bits old 2 2) else v
  v &&& 0x3FF#64

/-- `awcfg` written: an `op` of 13 to 15 forces `en` to 0 (R98). -/
def writeAwcfg (v : Word) : Word :=
  let v := v &&& 0xFFFFFF00FFF1#64
  if 13 ≤ bits v 4 4 then setBit v 0 false else v

/-- The W1C bits of a word cleared where `clr` is 1. -/
def clearBits (mask old clr : Word) : Word := old &&& ~~~(clr &&& mask)

/-- A hart's own CSRs written; the others are left. `v` is for the RW fields, `clr` for the W1C fields. -/
def Csrs.write (c : Csrs) (n : Nat) (v clr : Word) : Csrs :=
  match n with
  | 0x00 => { c with status := writeStatus c.status v }
  | 0x01 => { c with tvec := v &&& 0xFFFFFFFFFFFFFE#64 }
  | 0x02 => { c with tcause := v &&& 0x1FF#64 }
  | 0x03 => { c with tval := v }
  | 0x04 => { c with tpc := v }
  | 0x05 => { c with tvpc := v &&& 0xBFFFFFFFFFFFFFFF#64 }
  | 0x06 => { c with tqpos := v &&& 0x8000000000003F1F#64 }
  | 0x07 => { c with tscratch := v }
  | 0x10 => { c with vcfg := merge 0x1E7FFFFFFFF#64 c.vcfg v }
  | 0x11 => { c with vstart := v &&& 0xFFFF#64 }
  | 0x12 => { c with vdirty := v &&& 0x1FFFFFFFFFF#64 }
  | 0x13 => { c with vsc := v }
  | 0x16 => { c with bypth := v &&& 0xFFFFFFFFFFFF#64 }
  | 0x17 => { c with rkey := v }
  | 0x18 => { c with mshape := v &&& 0xFFFF001FFFFF#64 }
  | 0x19 => { c with mmode := v &&& 3#64 }
  | 0x1A => { c with fflags := v &&& 0x3F#64 }
  | 0x1B => { c with fen := v &&& 0x3F#64 }
  | 0x30 => { c with ftbase := v &&& 0xFFFFFFFFFFFF80#64 }
  | 0x31 => { c with ftlimit := v &&& 0xFFFFFF#64 }
  | 0x32 => { c with fcfg := (v &&& 3#64) ||| (clearBits 4#64 c.fcfg clr &&& 4#64) }
  | 0x33 => { c with cellsweep := v &&& 7#64 }
  | 0x38 => { c with awbase := c.awbase.set 0 (v &&& 0xFFFFFFFFFF0000#64) }
  | 0x39 => { c with awbase := c.awbase.set 1 (v &&& 0xFFFFFFFFFF0000#64) }
  | 0x3A => { c with awbase := c.awbase.set 2 (v &&& 0xFFFFFFFFFF0000#64) }
  | 0x3B => { c with awbase := c.awbase.set 3 (v &&& 0xFFFFFFFFFF0000#64) }
  | 0x3C => { c with awcfg := c.awcfg.set 0 (writeAwcfg v) }
  | 0x3D => { c with awcfg := c.awcfg.set 1 (writeAwcfg v) }
  | 0x3E => { c with awcfg := c.awcfg.set 2 (writeAwcfg v) }
  | 0x3F => { c with awcfg := c.awcfg.set 3 (writeAwcfg v) }
  | 0x49 => { c with instret := v }
  | 0x50 => { c with pgroot := v &&& 0xFFFFFFFFFE000#64 }
  | 0x51 => { c with ctxid := v &&& 0xFFFFFF#64 }
  | 0x52 => { c with quota := v.setWidth 32 }
  | 0x60 => { c with errinfo := (v &&& 0x1F1FFF007F#64) ||| (clearBits 0x8000000000000000#64 c.errinfo clr &&& 0x8000000000000000#64) }
  | _ => c

/-- A CSR written (R92 to R99, R59): the hart's own, or those it shares with its gang, its stable or its context. -/
def State.writeCsr (s : State) (n : Nat) (v clr : Word) : State :=
  let s := s.onHart (fun h => { h with csr := h.csr.write n v clr })
  match n with
  | 0x00 => if s.hart.qip then s else s.onHart (fun h => { h with image := .empty })
  | 0x14 => s.requestLease s.hart.id (bits v 8 5) (bits v 16 5)
  | 0x15 =>
    match s.job with
    | some j => s.putJob { j with arrived := v.extractLsb' 0 8, mask := v.extractLsb' 8 8, phase := bits v 16 16 }
    | none => s
  | 0x3C | 0x3D | 0x3E | 0x3F =>
    if bit clr 16 then { s with satf := dropBy (fun p : Nat × Nat => p == (s.hart.ctx, n - 0x3C)) s.satf } else s
  | 0x48 => s.putStable { s.stableAt s.hart.stable with cycle := v }
  | 0x61 =>
    let t := s.stableAt s.hart.stable
    let d := v.setWidth 16
    let d := if s.hart.mode = 2 then d else t.lanedis ||| d
    (((s.putStable { t with lanedis := d }).setRetired t.n (t.retired &&& d)).retireClusters t.n).retarget t.n
  | _ => s

/-! ## The instructions (R116) -/

/-- A CSR instruction (R116): `rw` gives the value for the RW fields from the old one, `clr` is the value for the W1C fields. -/
def State.csrOp (s : State) (r : Row) (w : BitVec 64) (n : Nat) (d : Reg) (reads writes : Bool) (rw : Hart → Word → Word)
    (clr : Hart → Word) : Answer :=
  s.scalar r w fun s =>
    let go (s : State) : Answer :=
      let old := s.readCsr n
      let v := rw s.hart old
      if writes && n == 0x10 && s.hart.badVcfg v then s.raise (s.openStop 0x0B)
      else
        let t := if writes then s.writeCsr n v (clr s.hart) else s
        if reads then t.writeX d old 4 else t.retire 4
    if writes || csrReadWaits n then s.afterQueue go else go s

/-- `CSRRW` (R116). -/
def execCsrrw (o : OpDACsr) (s : State) : Answer :=
  s.csrOp .csrrw (wordCsrrw o) o.c.toNat o.d (o.d != 0#5) true (fun h _ => h.getX o.a) (fun h => h.getX o.a)

/-- `CSRRS` (R116). -/
def execCsrrs (o : OpDACsr) (s : State) : Answer :=
  s.csrOp .csrrs (wordCsrrs o) o.c.toNat o.d true (o.a != 0#5) (fun h old => old ||| h.getX o.a) (fun h => h.getX o.a)

/-- `CSRRC` (R116). -/
def execCsrrc (o : OpDACsr) (s : State) : Answer :=
  s.csrOp .csrrc (wordCsrrc o) o.c.toNat o.d true (o.a != 0#5) (fun h old => old &&& ~~~h.getX o.a) (fun _ => 0#64)

/-- `CSRRWI` (R116). -/
def execCsrrwi (o : OpDUCsr) (s : State) : Answer :=
  s.csrOp .csrrwi (wordCsrrwi o) o.c.toNat o.d (o.d != 0#5) true (fun _ _ => o.u.setWidth 64) (fun _ => o.u.setWidth 64)

/-- `CSRRSI` (R116). -/
def execCsrrsi (o : OpDUCsr) (s : State) : Answer :=
  s.csrOp .csrrsi (wordCsrrsi o) o.c.toNat o.d true (o.u != 0#5) (fun _ old => old ||| o.u.setWidth 64) (fun _ => o.u.setWidth 64)

/-- `CSRRCI` (R116). -/
def execCsrrci (o : OpDUCsr) (s : State) : Answer :=
  s.csrOp .csrrci (wordCsrrci o) o.c.toNat o.d true (o.u != 0#5) (fun _ old => old &&& ~~~o.u.setWidth 64) (fun _ => 0#64)

end Sys2Proof.Machine
end

