-- ==== Sys2Proof/Machine/Copy.lean ====
section
/-! DEFINITION. The copy instructions: the checks that the control thread makes at commit, and the bridle entries that they take
(R232 to R237). -/

namespace Sys2Proof.Machine

/-! ## Taking a bridle entry -/

/-- A transfer is handed over (R232, R237): it takes a bridle entry, and waits while all 16 are held, one for each `MDRAIN` or `RECUR` of
the queue that is still to take one among them. What it has to follow holds the transfer, not the control thread. -/
def State.hand (s : State) (k : TransferKind) (reads writes : List Range) : Answer :=
  let coming := (s.hart.queue.filter (fun e => e.state != 0 && (e.row == .mdrain || e.row == .recur))).length
  if 16 ≤ s.hart.bridle.length + coming then s.waitOlder
  else (s.takeBridle (s.newTransfer k reads writes s.hart.queue.length s.hart.fences)).retire 4

/-! ## Plain transfers (R233) -/

/-- The lowest byte of [a, a + n) that is not canonical, else the lowest window byte at an offset of `pad` or more (R233). -/
def badSpan (pad a n : Nat) : Option Stop :=
  if 2 ^ 56 < a + n then some (stopAt 0x46 (max a (2 ^ 56)))
  else
    let low := max a (0xFE * 2 ^ 48 + pad)
    if low < min (a + n) (0xFF * 2 ^ 48) then some (stopAt 0x47 low) else none

/-- The checks of a plain transfer of `n` bytes to `dst`, and from `src` where it has a source (R233). -/
def State.copyStop (s : State) (dst n : Nat) (src : Option Nat) : Option Stop :=
  if 2 ^ 40 ≤ n then some (stopAt 0x6E n)
  else
    match badSpan s.padSize dst n with
    | some c => some c
    | none => match src with | some a => badSpan s.padSize a n | none => none

/-- `CPY` (R233). -/
def execCpy (o : OpDAB) (s : State) : Answer :=
  s.scalar .cpy (wordCpy o) fun s =>
    let dst := (s.hart.getX o.d).toNat
    let src := (s.hart.getX o.a).toNat
    let n := (s.hart.getX o.b).toNat
    if n = 0 then s.retire 4
    else
      match s.copyStop dst n (some src) with
      | some c => s.raise c
      | none => s.hand (.copy dst src n) [{ lo := src, len := n }] [{ lo := dst, len := n }]

/-- `CPYFILL` (R233). -/
def execCpyfill (o : OpDAB) (s : State) : Answer :=
  s.scalar .cpyfill (wordCpyfill o) fun s =>
    let dst := (s.hart.getX o.d).toNat
    let n := (s.hart.getX o.b).toNat
    if n = 0 then s.retire 4
    else
      match s.copyStop dst n none with
      | some c => s.raise c
      | none => s.hand (.fill dst ((s.hart.getX o.a).setWidth 8) n) [] [{ lo := dst, len := n }]

/-- An engine transfer of the queue that is still to start or to end: a drain, or a recursion (R232). -/
def Hart.enginesAhead (h : Hart) : Bool := h.queue.any (fun e => e.state != 0 && (e.row == .mdrain || e.row == .recur))

/-- `CPYWAIT` (R233); it resumes transfers that pre-emption stopped (R357), and leaves those that wait for a replay (log 97). -/
def execCpywait (s : State) : Answer :=
  s.scalar .cpywait wordCpywait fun s =>
    let s := s.resumeTransfers
    if s.hart.enginesAhead then .next s.laneStep
    else if s.hart.bridle.all (fun t => t.held) then s.retire 4
    else if s.hart.bridle.any (fun t => !t.held && t.after != 0) then .next s.idleWork.engineWork
    else .next s.engineWork

/-! ## Block tables (R234 to R236) -/

/-- The fields of a block-table descriptor (R234). -/
structure BlockDesc where
  table  : Nat
  count  : Nat
  lgbs   : Nat
  mode   : Nat
  stray  : Bool
  pool   : Nat
  data   : Nat
  frcap  : Nat
  rcbase : Nat
  entry  : Nat
  off    : Nat
  len    : Nat

/-- A descriptor from its eight doublewords. -/
def blockDesc (d : List Nat) : BlockDesc :=
  let w (i : Nat) : Nat := (nth d i).getD 0
  { table := w 0, count := w 1 % 2 ^ 32, lgbs := w 1 / 2 ^ 32 % 32, mode := w 1 / 2 ^ 40 % 4
    stray := w 1 / 2 ^ 37 % 8 != 0 || w 1 / 2 ^ 42 != 0 || w 7 / 2 ^ 32 != 0
    pool := w 2, data := w 3, frcap := w 4, rcbase := w 5, entry := w 6 % 2 ^ 32, off := w 6 / 2 ^ 32, len := w 7 % 2 ^ 32 }

/-- The descriptor keeps the table of R234. -/
def BlockDesc.ok (b : BlockDesc) : Bool :=
  !b.stray && b.table % 4 == 0 && decide (1 ≤ b.count ∧ b.count ≤ 2 ^ 20) && decide (7 ≤ b.lgbs ∧ b.lgbs ≤ 24) &&
  b.pool % 2 ^ b.lgbs == 0 &&
  (if b.mode = 0 then b.frcap == 0 && b.rcbase == 0 && b.entry == 0 && b.off == 0 && b.len == 0
   else if b.mode = 1 then b.rcbase % 2 == 0 && decide (b.entry < b.count) && decide (b.off + b.len ≤ 2 ^ b.lgbs)
   else false)

/-- The bytes that the pool may cover (R237). -/
def BlockDesc.span (b : BlockDesc) : Range := { lo := b.pool, len := 2 ^ (28 + b.lgbs) }

/-- The segments of a ring from `seg` on, at most `n` of them: headers and slots (R237). -/
def State.ringSegments (s : State) (w : Who) (c : Cap) : Nat → Nat → Res (List Range)
  | 0, _ => .ok [] s
  | n + 1, seg =>
    (s.ringRd w (seg + 0x58)).bind fun next s =>
      let r : Range := { lo := seg, len := 0x80 + c.lap * 2 ^ c.lgsize }
      if next = c.base then .ok [r] s
      else (State.ringSegments s w c n next).bind fun l s => .ok (r :: l) s

/-- The ranges of the free ring of an append, found at commit (R237). -/
def State.freeRing (s : State) (frcap : Nat) : Res (List Range) :=
  (s.readCap (s.hartWho false) (BitVec.ofNat 64 frcap)).bind fun q s =>
    let c := capOf q.1 q.2.1 q.2.2.1 q.2.2.2
    (s.ringOpen (s.hartWho false) c).bind fun v s => s.ringSegments v.1 c 16 c.base

/-- `CPYBT` (R234). The range that a gather writes is met chunk by chunk (log 128). -/
def execCpybt (o : OpA) (s : State) : Answer :=
  s.scalar .cpybt (wordCpybt o) fun s =>
    let a := s.hart.getX o.a
    if !canonical a.toNat then s.raise { cause := 0x46, tval := a }
    else if bits a 0 6 ≠ 0 then s.raise { cause := 0x40, tval := a }
    else
      s.onceFree a.toNat 64 false fun s =>
        (s.loadWords (s.hartWho false) a.toNat 8).finish fun d s =>
          let b := blockDesc d
          let own : Range := { lo := a.toNat, len := 64 }
          if !b.ok then s.raise { cause := 0x6E, tval := a }
          else if b.mode = 0 then
            s.hand (.gather b.table b.count b.lgbs b.pool b.data) [own, { lo := b.table, len := 4 * b.count }, b.span]
              [{ lo := b.data, len := b.count * 2 ^ b.lgbs }]
          else
            (s.freeRing b.frcap).finish fun ring s =>
              let e : Range := { lo := b.table + 4 * b.entry, len := 4 }
              s.hand (.append a.toNat b.table b.lgbs b.pool b.data b.frcap b.rcbase b.entry b.off b.len)
                ([own, { lo := b.data, len := b.len }, e, b.span] ++ ring)
                ([e, { lo := b.rcbase, len := 2 ^ 29 }, b.span] ++ ring)

end Sys2Proof.Machine
end

