-- ==== Sys2Proof/Machine/Graphs.lean ====
section
/-! DEFINITION. The dependence graph (R29 to R34) and the ready ring (R40): submissions, nodes, their ends, completion records. -/

namespace Sys2Proof.Machine

/-! ## Steps of the device -/

/-- The event of a unit: one that names a unit which the part does not have is none, and nothing changes (log 7). -/
def State.unless (s : State) (absent : Bool) (t : State) : Answer := .next (if absent then s else t)

/-- The units of a die act only while it runs (R324, R372). -/
def State.whenRuns (s : State) (die : Nat) (a : Answer) : Answer := if (s.dieAt die).run = .running then a else .next s

/-- A class 10 record (R366): graph, ring, node, spill or completion fault. -/
def State.record10 (s : State) (die ctx : Nat) (c : Stop) (detail : Nat) : State :=
  s.logAll { dieRecord 10 c.cause die c.tval.toNat detail with ctx := ctx }

/-- A unit of a die under a context; without a valid context entry its accesses find nothing (R17, R38). -/
def State.unitOf (s : State) (die ctx : Nat) : Option Who × State :=
  match s.ctxRoot die ctx with
  | (some root, t) => (some (unitWho die ctx root), t)
  | (none, t) => (none, t)

/-- An atomic of `n` bytes by a unit: checked as a store. -/
def State.bumpAs (s : State) (w : Who) (a n : Nat) (f : Nat → Nat) : Res Nat :=
  (s.accessAs w (a % 2 ^ 64) n n .store).bind fun _ s =>
    (s.loadAs w (a % 2 ^ 64) n n).bind fun v s => (s.storeAs w (a % 2 ^ 64) n n (f v)).bind fun _ s => .ok v s

/-- A completion signal: the sign-extended increment added to a doubleword (R15 step 3). -/
def State.signal (s : State) (w : Who) (addr : Nat) (val : BitVec 8) : Res Unit :=
  if addr = 0 then .ok () s
  else (s.bumpAs w addr 8 (fun v => (BitVec.ofNat 64 v + val.signExtend 64).toNat)).bind fun _ s => .ok () s

/-! ## Nodes (R29) -/

/-- The fields of a node (R29). -/
structure GNode where
  type    : Nat
  state   : Nat
  die     : Nat
  hport   : Nat
  stray   : Bool
  npred   : Nat
  work    : Nat
  succs   : List Nat
  ovf     : Nat
  sigaddr : Nat
  sigval  : BitVec 8

/-- A node from its eight doublewords. -/
def gnode (d : List Nat) : GNode :=
  let w (i : Nat) : Nat := (nth d i).getD 0
  { type := w 0 % 16, state := w 0 / 16 % 16, die := w 0 / 2 ^ 8 % 256, hport := w 0 / 2 ^ 16 % 2
    stray := w 0 / 2 ^ 17 % 2 ^ 15 != 0 || w 7 != 0
    npred := w 0 / 2 ^ 32, work := w 1
    succs := [w 2 % 2 ^ 32, w 2 / 2 ^ 32, w 3 % 2 ^ 32, w 3 / 2 ^ 32, w 4 % 2 ^ 32, w 4 / 2 ^ 32].filter (fun i => i != 0xFFFFFFFF)
    ovf := w 5, sigaddr := w 6 % 2 ^ 56, sigval := BitVec.ofNat 8 (w 6 / 2 ^ 56) }

/-- The address of a node. -/
def Graph.va (g : Graph) (n : Nat) : Nat := g.nodes + 64 * n

/-- A graph in progress. -/
def State.graphAt (s : State) (g : Nat) : Option Graph := findBy (fun q : Graph => q.n == g) s.graphs

/-- The state with a graph's record replaced. -/
def State.putGraph (s : State) (g : Graph) : State := { s with graphs := putBy (fun q : Graph => q.n == g.n) g s.graphs }

/-- The state without a graph. -/
def State.dropGraph (s : State) (g : Nat) : State := { s with graphs := dropBy (fun q : Graph => q.n == g) s.graphs }

/-- A node read. -/
def State.readNode (s : State) (w : Who) (g : Graph) (n : Nat) : Res GNode :=
  (s.loadWords w (g.va n) 8).bind fun d s => .ok (gnode d) s

/-- 32-bit words read in turn. -/
def State.loadU32s (s : State) (w : Who) (a : Nat) : Nat → Res (List Nat)
  | 0 => .ok [] s
  | n + 1 =>
    (s.loadAs w (a % 2 ^ 64) 4 4).bind fun v s => (State.loadU32s s w (a + 4) n).bind fun l s => .ok (v :: l) s

/-- The successors of a node: `succ`0 to `succ`5, then its overflow list; none where the list is malformed (R29, R30). -/
def State.successors (s : State) (w : Who) (q : GNode) : Res (Option (List Nat)) :=
  if q.ovf = 0 then .ok (some q.succs) s
  else if q.ovf % 8 ≠ 0 then .ok none s
  else
    (s.loadAs w (q.ovf % 2 ^ 64) 4 4).bind fun n s =>
      if 2 ^ 20 < n then .ok none s
      else (s.loadU32s w (q.ovf + 4) n).bind fun l s => .ok (some (q.succs ++ l)) s

/-- A node's state written. -/
def State.setNode (s : State) (w : Who) (g : Graph) (n st : Nat) : Res Unit :=
  (s.loadAs w (g.va n % 2 ^ 64) 1 1).bind fun b s => s.storeAs w (g.va n % 2 ^ 64) 1 1 (b % 16 + 16 * st)

/-! ## Submission (R30) -/

/-- Whether a node breaks R30, and whether its `npred` is 0. -/
def State.checkNode (s : State) (w : Who) (g : Graph) (n : Nat) : Res (Bool × Bool) :=
  (s.readNode w g n).bind fun q s =>
    if q.state ≠ 0 ∨ q.stray ∨ 3 < q.type ∨ (6 ≤ q.die ∧ q.die ≤ 0xFE) ∨ q.sigaddr % 8 ≠ 0 ∨ (q.sigaddr ≠ 0 ∧ q.sigval = 0#8) then
      .ok (true, false) s
    else
      (s.successors w q).bind fun l s =>
        match l with
        | none => .ok (true, false) s
        | some l => .ok (l.any (fun i => decide (g.count ≤ i)), q.npred == 0) s

/-- The first node from index `n` on that is malformed or cannot be read, with the cause where it cannot (R30, R34), and the indices
of those before it with no predecessors. -/
def State.checkNodes (s : State) (w : Who) (g : Graph) : Nat → Nat → Res (Option (Nat × Option Stop) × List Nat)
  | 0, _ => .ok (none, []) s
  | k + 1, n =>
    match s.checkNode w g n with
    | .wait s => .wait s
    | .stop c s => .ok (some (n, some c), []) s
    | .ok r s =>
      if r.1 then .ok (some (n, none), []) s
      else
        (State.checkNodes s w g k (n + 1)).bind fun q s => .ok (q.1, if r.2 then n :: q.2 else q.2) s

/-- A node made READY by the walker of die `at'`: it runs on its own die (R31, R32). -/
def State.makeReady (s : State) (w : Who) (g : Graph) (at' n : Nat) : Res Graph :=
  (s.readNode w g n).bind fun q s =>
    (s.setNode w g n 1).bind fun _ s =>
      let die := if q.die = 0xFF then at' else q.die
      if die = at' then .ok { g with ready := g.ready ++ [(n, die)] } (s.push [.nodeStart g.n n])
      else .ok { g with remote := g.remote ++ [(n, die)] } (s.push [.remoteSuccessorReady g.n n])

/-- Nodes made READY in turn. -/
def State.makeAllReady (s : State) (w : Who) (at' : Nat) : Graph → List Nat → Res Graph
  | g, [] => .ok g s
  | g, n :: ns => (s.makeReady w g at' n).bind fun g s => State.makeAllReady s w at' g ns

/-! ## Completion (R33) -/

/-- The completion record pushed to the ring that the submission named, or the reason why it is not (R33). -/
def State.pushCompletion (s : State) (g : Graph) : State :=
  if g.compl = 0 then s.dropGraph g.n
  else
    let fail (c : Stop) (s : State) : State :=
      ((s.agentEvent 0 c.cause g.die g.ctx (BitVec.ofNat 64 g.compl) 0#64).record10 g.die g.ctx c g.compl).dropGraph g.n
    match s.unitOf g.die g.ctx with
    | (none, s) => fail (stopAt 0x41 g.compl) s
    | (some w, s) =>
      let r : Res (Option Nat) :=
        ((s.presentTyped w (BitVec.ofNat 64 g.compl) [.push, .wake] 2).bind fun c s =>
          (s.ringPush w c ([g.tag.toNat, g.done % 2 ^ 32 + g.failed % 2 ^ 32 * 2 ^ 32] ++ List.replicate (2 ^ c.lgsize / 8 - 3) 0)).bind fun p s =>
            match p with
            | none => .ok none s
            | some n => (s.ringWake w c (n + 1)).bind fun _ s => .ok (some n) s).orNothing s
      match r with
      | .ok (some _) t => t.dropGraph g.n
      | .ok none t => t.putGraph { g with retry := true }
      | .stop c t => fail c t
      | .wait t => t.putGraph { g with retry := true }

/-- A graph's record after a change: its completion record follows when every node is DONE, FAILED or CANCELLED (R33). -/
def State.settleGraph (s : State) (g : Graph) : State := if g.done + g.failed = g.count then s.pushCompletion g else s.putGraph g

/-- A node whose work has ended: the walker's step follows. -/
def State.endNode (s : State) (node : Nat × Nat) (ok : Bool) : State :=
  match s.graphAt node.1 with
  | none => s
  | some g => (s.putGraph { g with ended := g.ended ++ [(node.2, ok)] }).push [.nodeFinish node.1 node.2]

/-- A submission popped: its slot's address and payload; none where the position is not full or not below `tail` (R30). -/
def State.popSlot (s : State) (w : Who) (c : Cap) : Res (Option (Nat × List Nat)) :=
  (s.ringOpen w c).bind fun v s =>
    (s.ringRd v.1 (c.base + 8)).bind fun tail s =>
      (s.ringPeek v.1 c 0).bind fun r s =>
        match r with
        | none => .ok none s
        | some (pos, slot, pl) =>
          if tail ≤ pos then .ok none s
          else (s.ringTake v.1 c 0 pos).bind fun _ s => .ok (some (slot, pl)) s

/-- A graph from a popped slot, checked: malformed, or its first nodes READY (R30). -/
def State.startGraph (s : State) (die : Nat) (c : Cap) (slot : Nat) (pl : List Nat) : Res State :=
  let w (i : Nat) : Nat := (nth pl i).getD 0
  let count := w 1 % 2 ^ 32
  let g : Graph :=
    { n := s.nextGraph, die := die, ctx := c.owner, nodes := w 0, count := count, compl := w 2, tag := BitVec.ofNat 64 (w 3),
      done := 0, failed := 0, ready := [], remote := [], offered := [], running := [], ended := [], retry := false }
  let s := { s with nextGraph := s.nextGraph + 1 }
  let all : Graph := { g with failed := count }
  -- the node of index `n` fails the whole graph, with the cause of the fault on it if there is one
  let broken (s : State) (n : Nat) (fault : Option Stop) : State :=
    let s := s.agentEvent 0 0xAA die c.owner (BitVec.ofNat 64 (g.va n)) 0#64
    (match fault with | some c => s.record10 die g.ctx c (g.va n) | none => s).settleGraph all
  if count = 0 ∨ 2 ^ 24 < count ∨ w 1 / 2 ^ 32 ≠ 0 ∨ (pl.drop 4).any (· != 0) then
    .ok ((s.agentEvent 0 0xAA die c.owner (BitVec.ofNat 64 slot) 0#64).settleGraph all) s
  else
    match s.unitOf die c.owner with
    | (none, s) => .ok (broken s 0 (some (stopAt 0x41 g.nodes))) s
    | (some v, s) =>
      (s.checkNodes v g count 0).bind fun r s =>
        match r.1 with
        | some (n, fault) => .ok (broken s n fault) s
        | none =>
          match s.makeAllReady v die g r.2 with
          | .ok g s => .ok (s.settleGraph g) s
          | .stop c s => .ok ((s.record10 die g.ctx c g.nodes).settleGraph all) s
          | .wait s => .wait s

/-- `GRAPH_SUBMISSION_POP` (R30): the walker of the home die of announced ring `ring`. -/
def execGraphSubmissionPop (ring : Nat) (s : State) : Answer :=
  match nth s.rings ring with
  | none => .next s
  | some (die, c) => s.whenRuns die <|
    match (s.popSlot (unitWho die c.owner 0#64) c).bind fun r t =>
      match r with
      | none => .ok t t
      | some (slot, pl) => t.startGraph die c slot pl with
    | .ok t _ => .next t
    | .wait t => .next (s.keepAttempt t true)
    | .stop x t =>
      let u := s.keepAttempt t false
      let u := (u.agentEvent 0 x.cause die c.owner x.tval 0#64).record10 die c.owner x c.base
      .next { u with rings := dropBy (fun r : Nat × Cap => r.2.owner == c.owner && r.2.base == c.base) u.rings }

/-! ## Starting nodes (R31, R34, R40) -/

/-- The copy descriptor's transfer (R29, R34): none where the descriptor breaks R29 or R234; its length 0 does nothing. -/
def State.nodeTransfer (s : State) (w : Who) (work : Nat) (node : Nat × Nat) : Res (Option (Option Transfer)) :=
  let mk (k : TransferKind) (reads writes : List Range) : Transfer :=
    { kind := k, ctx := w.ctx, pgroot := w.pgroot, rider := true, scope := 5, reads := reads, writes := writes, phase := 0, done := 0,
      old := 0, new := 0, saved := [], started := false, after := 0, fence := 0, stopped := false, held := false, node := some node }
  if work % 8 ≠ 0 then .stop (stopAt 0x40 work) s
  else
    (s.loadWords w work 4).bind fun d s =>
      let dst := (nth d 0).getD 0
      let src := (nth d 1).getD 0
      let n := (nth d 2).getD 0
      match (nth d 3).getD 0 with
      | 0 =>
        if 2 ^ 40 ≤ n then .ok none s
        else .ok (some (if n = 0 then none else some (mk (.copy dst src n) [{ lo := src, len := n }] [{ lo := dst, len := n }]))) s
      | 1 =>
        if 2 ^ 40 ≤ n then .ok none s
        else .ok (some (if n = 0 then none else some (mk (.fill dst (BitVec.ofNat 8 src) n) [] [{ lo := dst, len := n }]))) s
      | 2 =>
        if dst % 64 ≠ 0 then .stop (stopAt 0x40 dst) s
        else
          (s.loadWords w dst 8).bind fun d s =>
            let b := blockDesc d
            if !b.ok then .stop (stopAt 0x6E dst) s
            else if b.mode = 0 then
              .ok (some (some (mk (.gather b.table b.count b.lgbs b.pool b.data) [] [{ lo := b.data, len := b.count * 2 ^ b.lgbs }]))) s
            else
              .ok (some (some (mk (.append dst b.table b.lgbs b.pool b.data b.frcap b.rcbase b.entry b.off b.len) [] []))) s
      | _ => .ok none s

/-- A pair removed from a list by its first part. -/
def dropKey (n : Nat) (l : List (Nat × Nat)) : List (Nat × Nat) := dropBy (fun p : Nat × Nat => p.1 == n) l

/-- The graph with node `n` in state RUN on a die. -/
def Graph.run (g : Graph) (n die : Nat) : Graph :=
  { g with ready := dropKey n g.ready, offered := dropKey n g.offered, running := g.running ++ [(n, die)] }

/-- The ready ring's next slot is free (R40). -/
def Die.readyFree (d : Die) : Bool := decide (d.readyAt < 32) || (d.pad.read (10240 + d.readyAt % 32 * 64 + 0x18)).getLsbD 0

/-- A record posted to the ready ring of a die (R40). -/
def State.postReady (s : State) (die node image ctx : Nat) : State :=
  let d := s.dieAt die
  let a := 10240 + d.readyAt % 32 * 64
  let pad := (((d.pad.clear a (a + 64)).writeN a 8 node).writeN (a + 8) 8 image).writeN (a + 0x10) 8 (ctx % 2 ^ 24)
  (s.putDie { d with pad := pad, readyAt := d.readyAt + 1 }).setPendingBit die 4094

/-- A READY node started on its die (R31). -/
def State.startNode (s : State) (w : Who) (g : Graph) (n die : Nat) : Res State :=
  (s.readNode w g n).bind fun q s =>
    match q.type with
    | 1 =>
      if s.hostFn 0 then
        .ok ((s.postEvent (s.fnPort 0) 0 0 die g.ctx (BitVec.ofNat 64 (g.va n)) (BitVec.ofNat 64 q.work)).putGraph
          { g with ready := dropKey n g.ready, offered := g.offered ++ [(n, die)] }) s
      else .ok (s.push [.readyRingPost g.n n]) s
    | 0 =>
      (s.setNode w g n 2).bind fun _ s =>
        let t := s.putGraph (g.run n die)
        match s.nodeTransfer w q.work (g.n, n) with
        | .ok (some (some x)) u =>
          let u := u.putGraph (g.run n die)
          let d := u.dieAt die
          .ok ((u.putDie { d with copies := d.copies ++ [x] }).push [.engineTransferComplete (4096 + die) 0]) u
        | .ok (some none) _ => .ok (t.endNode (g.n, n) true) t
        | .ok none _ => .ok ((t.record10 die g.ctx (stopAt 0x6E q.work) (g.va n)).endNode (g.n, n) false) t
        | .stop c u => .ok (((u.putGraph (g.run n die)).record10 die g.ctx c (g.va n)).endNode (g.n, n) false) u
        | .wait u => .wait u
    | 2 => (s.setNode w g n 2).bind fun _ s => .ok ((s.putGraph (g.run n die)).endNode (g.n, n) true) s
    | _ =>
      (s.setNode w g n 2).bind fun _ s =>
        .ok ((s.putGraph (g.run n die)).postEvent q.hport 6 0 die g.ctx (BitVec.ofNat 64 (g.va n)) 0#64) s

/-- A walker's operation on a node that stands in one of the graph's lists; a fault is recorded and the node fails (R33, R34). -/
def State.walkNode (s : State) (g : Graph) (n die : Nat) (f : State → Who → Res State) : State :=
  let fail (c : Stop) (t : State) : State :=
    let u := (s.keepAttempt t false).record10 die g.ctx c (g.va n)
    (u.putGraph (g.run n die)).endNode (g.n, n) false
  match s.unitOf die g.ctx with
  | (none, t) => fail (stopAt 0x41 (g.va n)) t
  | (some w, t) =>
    match f t w with
    | .ok u _ => u
    | .stop c u => fail c u
    | .wait u => s.keepAttempt u true

/-- `NODE_START` (R31). -/
def execNodeStart (g n : Nat) (s : State) : Answer :=
  match s.graphAt g with
  | none => .next s
  | some q =>
    match findBy (fun p : Nat × Nat => p.1 == n) q.ready with
    | none => .next s
    | some (_, die) => s.whenRuns die (.next (s.walkNode q n die (fun t w => t.startNode w q n die)))

/-- `READY_RING_POST` (R40): the walker waits while no slot is free. -/
def execReadyRingPost (g n : Nat) (s : State) : Answer :=
  match s.graphAt g with
  | none => .next s
  | some q =>
    match findBy (fun p : Nat × Nat => p.1 == n) q.ready with
    | none => .next s
    | some (_, die) => s.whenRuns die <|
      .next (s.walkNode q n die (fun t w =>
        (t.readNode w q n).bind fun x t =>
          if x.type ≠ 1 || t.hostFn 0 || !(t.dieAt die).readyFree then .ok t t
          else
            .ok ((t.postReady die (q.va n) x.work q.ctx).putGraph
              { q with ready := dropKey n q.ready, offered := q.offered ++ [(n, die)] }) t))

/-- `REMOTE_SUCCESSOR_READY` (R32). -/
def execRemoteSuccessorReady (g n : Nat) (s : State) : Answer :=
  match s.graphAt g with
  | none => .next s
  | some q =>
    match findBy (fun p : Nat × Nat => p.1 == n) q.remote with
    | none => .next s
    | some p => s.whenRuns p.2 <| .next ((s.putGraph { q with remote := dropKey n q.remote, ready := q.ready ++ [p] }).push [.nodeStart g n])

/-! ## Ends of nodes (R32, R33) -/

/-- The successors' counts decremented by the walker of a die (R32); the second list holds those whose count was already 0. -/
def State.decrement (s : State) (w : Who) (die : Nat) : Graph → List Nat → Res (Graph × List Nat)
  | g, [] => .ok (g, []) s
  | g, i :: is =>
    (s.bumpAs w (g.va i + 4) 4 (fun v => v - 1)).bind fun v s =>
      if v = 0 then (State.decrement s w die g is).bind fun r s => .ok (r.1, i :: r.2) s
      else if v = 1 then
        (s.readNode w g i).bind fun q s =>
          if q.state = 5 then State.decrement s w die g is
          else (s.makeReady w g die i).bind fun g s => State.decrement s w die g is
      else State.decrement s w die g is

/-- The end of a node that succeeded: its signal, DONE, its successors (R32). -/
def State.finishNode (s : State) (w : Who) (g : Graph) (n die : Nat) : Res State :=
  let h : Graph := { g with running := dropKey n g.running, ended := dropBy (fun p : Nat × Bool => p.1 == n) g.ended, done := g.done + 1 }
  (s.readNode w g n).bind fun q s =>
    let signalled : Res (Option Stop) :=
      match s.signal w q.sigaddr q.sigval with
      | .ok _ t => .ok none t
      | .stop c t => .ok (some c) t
      | .wait t => .wait t
    signalled.bind fun bad s =>
      (s.setNode w g n 3).bind fun _ s =>
        (s.successors w q).bind fun l s =>
          (s.decrement w die h (l.getD [])).bind fun r s =>
            let s := match bad with | some c => s.record10 die g.ctx c (g.va n) | none => s
            let s := r.2.foldl (fun t i => t.agentEvent 0 0xAB die g.ctx (BitVec.ofNat 64 (g.va i)) 0#64) s
            .ok (s.settleGraph r.1) s

/-- Every node reachable from those listed becomes CANCELLED; one that has been started all the same, its predecessors miscounted, keeps its
state, and what is reachable from it is cancelled. `seen` holds those; at most `fuel` visits (R33). -/
def State.cancel (s : State) (w : Who) : Nat → Graph → List Nat → List Nat → Res Graph
  | 0, g, _, _ => .ok g s
  | _ + 1, g, _, [] => .ok g s
  | f + 1, g, seen, i :: is =>
    if seen.contains i then State.cancel s w f g seen is
    else
      (s.readNode w g i).bind fun q s =>
        if q.state = 2 ∨ q.state = 3 then (s.successors w q).bind fun l s => State.cancel s w f g (i :: seen) (l.getD [] ++ is)
        else if 4 ≤ q.state then State.cancel s w f g seen is
        else
          (s.setNode w g i 5).bind fun _ s =>
            (s.successors w q).bind fun l s =>
              State.cancel s w f
                { g with failed := g.failed + 1, ready := dropKey i g.ready, remote := dropKey i g.remote, offered := dropKey i g.offered }
                seen (l.getD [] ++ is)

/-- The end of a node that failed (R33). -/
def State.failNode (s : State) (w : Who) (g : Graph) (n : Nat) : Res State :=
  let h : Graph :=
    { g with
      running := dropKey n g.running, ready := dropKey n g.ready, offered := dropKey n g.offered
      ended := dropBy (fun p : Nat × Bool => p.1 == n) g.ended, failed := g.failed + 1 }
  (s.readNode w g n).bind fun q s =>
    (s.setNode w g n 4).bind fun _ s =>
      (s.successors w q).bind fun l s =>
        (s.cancel w (g.count * (2 ^ 20 + 7) + 7) h [] (l.getD [])).bind fun h s => .ok (s.settleGraph h) s

/-- A node that cannot be reached any more counts as failed, and nothing of it is written. -/
def State.loseNode (s : State) (g : Graph) (n die : Nat) (c : Stop) : State :=
  (s.record10 die g.ctx c (g.va n)).settleGraph
    { g with
      running := dropKey n g.running, ready := dropKey n g.ready, offered := dropKey n g.offered
      ended := dropBy (fun p : Nat × Bool => p.1 == n) g.ended, failed := g.failed + 1 }

/-- `NODE_FINISH` (R32, R33): the walker's part in the end of a node's work. -/
def execNodeFinish (g n : Nat) (s : State) : Answer :=
  match s.graphAt g with
  | none => .next s
  | some q =>
    match findBy (fun p : Nat × Bool => p.1 == n) q.ended with
    | none => .next s
    | some (_, ok) =>
      let die := match findBy (fun p : Nat × Nat => p.1 == n) q.running with | some p => p.2 | none => q.die
      s.whenRuns die <|
      match s.unitOf die q.ctx with
      | (none, t) => .next (t.loseNode q n die (stopAt 0x41 (q.va n)))
      | (some w, t) =>
        match (if ok then t.finishNode w q n die else t.failNode w q n) with
        | .ok u _ => .next u
        | .stop c u => .next ((s.keepAttempt u false).loseNode q n die c)
        | .wait u => .next (s.keepAttempt u true)

/-- `COMPLETION_PUSH_RETRY` (R33). -/
def execCompletionPushRetry (g : Nat) (s : State) : Answer :=
  match s.graphAt g with
  | none => .next s
  | some q => s.whenRuns q.die (.next (if q.retry then s.pushCompletion q else s))

/-! ## The transfers of copy nodes (R34) -/

/-- One chunk of transfer `i` of a die's copy nodes, and whether it did anything. -/
def State.copyNodeChunk (s : State) (die i : Nat) : State × Bool :=
  let d := s.dieAt die
  match nth d.copies i with
  | none => (s, false)
  | some t =>
    let node := t.node.getD (0, 0)
    let w := { unitWho die t.ctx t.pgroot with engine := true }
    let out (s : State) : State := let d := s.dieAt die; s.putDie { d with copies := dropNth d.copies i }
    match s.chunk w { t with started := true } with
    | .ok (some u) s => let d := s.dieAt die; (s.putDie { d with copies := setNth d.copies i u }, true)
    | .ok none s => ((out s).endNode node true, true)
    | .stop c s =>
      let va := match s.graphAt node.1 with | some g => g.va node.2 | none => 0
      (((out s).record10 die t.ctx c va).endNode node false, true)
    | .wait s => (s, false)

/-- The chunks of a copy node's transfer until it ends or waits: at most `n`. -/
def State.copyNodeAll (s : State) (die i : Nat) : Nat → State
  | 0 => s
  | n + 1 =>
    let k := (s.dieAt die).copies.length
    let (t, did) := s.copyNodeChunk die i
    if did && (t.dieAt die).copies.length == k then State.copyNodeAll t die i n else t

end Sys2Proof.Machine
end

