-- ==== Sys2Proof/Machine/Integer.lean ====
section
/-! DEFINITION. The integer instructions: register-register (R103), immediate (R104), multiply and divide (R105), bit (R106), and
the compressed forms that act as they do (R74). -/

namespace Sys2Proof.Machine

/-! ## Functions of one or two values -/

/-- 1 for true, 0 for false. -/
def ofBool (b : Bool) : Word := if b then 1#64 else 0#64
/-- The low 32 bits, sign-extended. -/
def sextW (a : Word) : Word := (a.extractLsb' 0 32).signExtend 64
/-- The signed minimum. -/
def sMin (a b : Word) : Word := if b.slt a then b else a
/-- The signed maximum. -/
def sMax (a b : Word) : Word := if a.slt b then b else a
/-- The unsigned minimum. -/
def uMin (a b : Word) : Word := if b < a then b else a
/-- The unsigned maximum. -/
def uMax (a b : Word) : Word := if a < b then b else a
/-- A shift amount: b[5:0]. -/
def amount (b : Word) : Nat := b.toNat % 64
/-- The high 64 bits of the product of two integers. -/
def highHalf (p : Int) : Word := BitVec.ofInt 64 (p / 2 ^ 64)
/-- Set bits of the low `n`. -/
def popBelow (a : Word) : Nat → Nat
  | 0 => 0
  | n + 1 => (a.getLsbD n).toNat + popBelow a n
/-- Zero bits from bit `n` - 1 down to the first set bit. -/
def zerosFrom (a : Word) : Nat → Nat
  | 0 => 0
  | n + 1 => if a.getLsbD n then 0 else 1 + zerosFrom a n
/-- Zero bits from bit 0 up to the first set bit, among `n` bits from bit `lo`. -/
def zerosUp (a : Word) : Nat → Nat → Nat
  | 0, _ => 0
  | n + 1, lo => if a.getLsbD lo then 0 else 1 + zerosUp a n (lo + 1)
/-- The eight bytes reversed. -/
def byteSwap (a : Word) : Word := BitVec.ofNat 64 (ofBytes (toBytes 8 a.toNat).reverse)
/-- imm14 of R69. -/
def imm14 (i : BitVec 14) : Word := i.signExtend 64
/-- The SU immediate of R69. -/
def immSU (i : BitVec 19) : Word := (i ++ 0#13).signExtend 64

/-- `ADD` (R103). -/
def execAdd (o : OpDAB) (s : State) : Answer :=
  s.compute .add (wordAdd o) 4 o.d (fun h => let a := h.getX o.a; let b := h.getX o.b; a + b)
/-- `SUB` (R103). -/
def execSub (o : OpDAB) (s : State) : Answer :=
  s.compute .sub (wordSub o) 4 o.d (fun h => let a := h.getX o.a; let b := h.getX o.b; a - b)
/-- `AND` (R103). -/
def execAnd (o : OpDAB) (s : State) : Answer :=
  s.compute .and (wordAnd o) 4 o.d (fun h => let a := h.getX o.a; let b := h.getX o.b; a &&& b)
/-- `OR` (R103). -/
def execOr (o : OpDAB) (s : State) : Answer :=
  s.compute .or (wordOr o) 4 o.d (fun h => let a := h.getX o.a; let b := h.getX o.b; a ||| b)
/-- `XOR` (R103). -/
def execXor (o : OpDAB) (s : State) : Answer :=
  s.compute .xor (wordXor o) 4 o.d (fun h => let a := h.getX o.a; let b := h.getX o.b; a ^^^ b)
/-- `SLL` (R103). -/
def execSll (o : OpDAB) (s : State) : Answer :=
  s.compute .sll (wordSll o) 4 o.d (fun h => let a := h.getX o.a; let b := h.getX o.b; a <<< amount b)
/-- `SRL` (R103). -/
def execSrl (o : OpDAB) (s : State) : Answer :=
  s.compute .srl (wordSrl o) 4 o.d (fun h => let a := h.getX o.a; let b := h.getX o.b; a >>> amount b)
/-- `SRA` (R103). -/
def execSra (o : OpDAB) (s : State) : Answer :=
  s.compute .sra (wordSra o) 4 o.d (fun h => let a := h.getX o.a; let b := h.getX o.b; a.sshiftRight (amount b))
/-- `SLT` (R103). -/
def execSlt (o : OpDAB) (s : State) : Answer :=
  s.compute .slt (wordSlt o) 4 o.d (fun h => let a := h.getX o.a; let b := h.getX o.b; ofBool (a.slt b))
/-- `SLTN` (R103). -/
def execSltn (o : OpDAB) (s : State) : Answer :=
  s.compute .sltn (wordSltn o) 4 o.d (fun h => let a := h.getX o.a; let b := h.getX o.b; ofBool (decide (a < b)))
/-- `MIN` (R103). -/
def execMin (o : OpDAB) (s : State) : Answer :=
  s.compute .min (wordMin o) 4 o.d (fun h => let a := h.getX o.a; let b := h.getX o.b; sMin a b)
/-- `MAX` (R103). -/
def execMax (o : OpDAB) (s : State) : Answer :=
  s.compute .max (wordMax o) 4 o.d (fun h => let a := h.getX o.a; let b := h.getX o.b; sMax a b)
/-- `MINN` (R103). -/
def execMinn (o : OpDAB) (s : State) : Answer :=
  s.compute .minn (wordMinn o) 4 o.d (fun h => let a := h.getX o.a; let b := h.getX o.b; uMin a b)
/-- `MAXN` (R103). -/
def execMaxn (o : OpDAB) (s : State) : Answer :=
  s.compute .maxn (wordMaxn o) 4 o.d (fun h => let a := h.getX o.a; let b := h.getX o.b; uMax a b)
/-- `ANDN` (R103). -/
def execAndn (o : OpDAB) (s : State) : Answer :=
  s.compute .andn (wordAndn o) 4 o.d (fun h => let a := h.getX o.a; let b := h.getX o.b; a &&& ~~~b)
/-- `ORN` (R103). -/
def execOrn (o : OpDAB) (s : State) : Answer :=
  s.compute .orn (wordOrn o) 4 o.d (fun h => let a := h.getX o.a; let b := h.getX o.b; a ||| ~~~b)
/-- `ROL` (R103). -/
def execRol (o : OpDAB) (s : State) : Answer :=
  s.compute .rol (wordRol o) 4 o.d (fun h => let a := h.getX o.a; let b := h.getX o.b; a.rotateLeft (amount b))
/-- `ROR` (R103). -/
def execRor (o : OpDAB) (s : State) : Answer :=
  s.compute .ror (wordRor o) 4 o.d (fun h => let a := h.getX o.a; let b := h.getX o.b; a.rotateRight (amount b))
/-- `ADDW` (R103). -/
def execAddw (o : OpDAB) (s : State) : Answer :=
  s.compute .addw (wordAddw o) 4 o.d (fun h => let a := h.getX o.a; let b := h.getX o.b; sextW (a + b))
/-- `SUBW` (R103). -/
def execSubw (o : OpDAB) (s : State) : Answer :=
  s.compute .subw (wordSubw o) 4 o.d (fun h => let a := h.getX o.a; let b := h.getX o.b; sextW (a - b))
/-- `MUL` (R105). -/
def execMul (o : OpDAB) (s : State) : Answer :=
  s.compute .mul (wordMul o) 4 o.d (fun h => let a := h.getX o.a; let b := h.getX o.b; a * b)
/-- `MULH` (R105). -/
def execMulh (o : OpDAB) (s : State) : Answer :=
  s.compute .mulh (wordMulh o) 4 o.d (fun h => let a := h.getX o.a; let b := h.getX o.b; highHalf (a.toInt * b.toInt))
/-- `MULHN` (R105). -/
def execMulhn (o : OpDAB) (s : State) : Answer :=
  s.compute .mulhn (wordMulhn o) 4 o.d (fun h => let a := h.getX o.a; let b := h.getX o.b; highHalf ((a.toNat : Int) * (b.toNat : Int)))
/-- `MULHSN` (R105). -/
def execMulhsn (o : OpDAB) (s : State) : Answer :=
  s.compute .mulhsn (wordMulhsn o) 4 o.d (fun h => let a := h.getX o.a; let b := h.getX o.b; highHalf (a.toInt * (b.toNat : Int)))

/-! ## Division (R105): a division by zero sets `idz`, and traps before it writes where `fen` [5] is 1 -/

/-- A division: the quotient or remainder of 64 bits with its flag. -/
def State.divide (s : State) (r : Row) (w : BitVec 64) (o : OpDAB) (f : Nat → Nat → Nat → Nat × Flags) : Answer :=
  s.scalar r w fun s =>
    let v := f 64 (s.hart.getX o.a).toNat (s.hart.getX o.b).toNat
    s.fpWrite o.d (BitVec.ofNat 64 v.1) v.2 4

/-- `DIV` (R105). -/
def execDiv (o : OpDAB) (s : State) : Answer := s.divide .div (wordDiv o) o vDiv
/-- `DIVN` (R105). -/
def execDivn (o : OpDAB) (s : State) : Answer := s.divide .divn (wordDivn o) o vDivn
/-- `REM` (R105). -/
def execRem (o : OpDAB) (s : State) : Answer := s.divide .rem (wordRem o) o vRem
/-- `REMN` (R105). -/
def execRemn (o : OpDAB) (s : State) : Answer := s.divide .remn (wordRemn o) o vRemn

/-! ## Immediates (R104) -/

/-- `ADDI` (R104). -/
def execAddi (o : OpDAI) (s : State) : Answer :=
  s.compute .addi (wordAddi o) 4 o.d (fun h => let a := h.getX o.a; let i := imm14 o.i; a + i)
/-- `ANDI` (R104). -/
def execAndi (o : OpDAI) (s : State) : Answer :=
  s.compute .andi (wordAndi o) 4 o.d (fun h => let a := h.getX o.a; let i := imm14 o.i; a &&& i)
/-- `ORI` (R104). -/
def execOri (o : OpDAI) (s : State) : Answer :=
  s.compute .ori (wordOri o) 4 o.d (fun h => let a := h.getX o.a; let i := imm14 o.i; a ||| i)
/-- `XORI` (R104). -/
def execXori (o : OpDAI) (s : State) : Answer :=
  s.compute .xori (wordXori o) 4 o.d (fun h => let a := h.getX o.a; let i := imm14 o.i; a ^^^ i)
/-- `SLTI` (R104). -/
def execSlti (o : OpDAI) (s : State) : Answer :=
  s.compute .slti (wordSlti o) 4 o.d (fun h => let a := h.getX o.a; let i := imm14 o.i; ofBool (a.slt i))
/-- `SLTNI` (R104). -/
def execSltni (o : OpDAI) (s : State) : Answer :=
  s.compute .sltni (wordSltni o) 4 o.d (fun h => let a := h.getX o.a; let i := imm14 o.i; ofBool (decide (a < i)))
/-- `SLLI` (R104). -/
def execSlli (o : OpDAS) (s : State) : Answer :=
  s.compute .slli (wordSlli o) 4 o.d (fun h => let a := h.getX o.a; a <<< o.s.toNat)
/-- `SRLI` (R104). -/
def execSrli (o : OpDAS) (s : State) : Answer :=
  s.compute .srli (wordSrli o) 4 o.d (fun h => let a := h.getX o.a; a >>> o.s.toNat)
/-- `SRAI` (R104). -/
def execSrai (o : OpDAS) (s : State) : Answer :=
  s.compute .srai (wordSrai o) 4 o.d (fun h => let a := h.getX o.a; a.sshiftRight o.s.toNat)
/-- `ROLI` (R104). -/
def execRoli (o : OpDAS) (s : State) : Answer :=
  s.compute .roli (wordRoli o) 4 o.d (fun h => let a := h.getX o.a; a.rotateLeft o.s.toNat)
/-- `LUI` (R104). -/
def execLui (o : OpDI) (s : State) : Answer := s.compute .lui (wordLui o) 4 o.d (fun _ => immSU o.i)
/-- `AUIPC` (R104). -/
def execAuipc (o : OpDI) (s : State) : Answer := s.compute .auipc (wordAuipc o) 4 o.d (fun h => h.pc + immSU o.i)

/-! ## Bits (R106) -/

/-- `CLZ` (R106). -/
def execClz (o : OpDA) (s : State) : Answer := s.compute .clz (wordClz o) 4 o.d (fun h => let a := h.getX o.a; BitVec.ofNat 64 (zerosFrom a 64))
/-- `CTZ` (R106). -/
def execCtz (o : OpDA) (s : State) : Answer := s.compute .ctz (wordCtz o) 4 o.d (fun h => let a := h.getX o.a; BitVec.ofNat 64 (zerosUp a 64 0))
/-- `POPC` (R106). -/
def execPopc (o : OpDA) (s : State) : Answer := s.compute .popc (wordPopc o) 4 o.d (fun h => let a := h.getX o.a; BitVec.ofNat 64 (popBelow a 64))
/-- `BSWAP` (R106). -/
def execBswap (o : OpDA) (s : State) : Answer := s.compute .bswap (wordBswap o) 4 o.d (fun h => let a := h.getX o.a; byteSwap a)
/-- `SEXTB` (R106). -/
def execSextb (o : OpDA) (s : State) : Answer := s.compute .sextb (wordSextb o) 4 o.d (fun h => let a := h.getX o.a; (a.extractLsb' 0 8).signExtend 64)
/-- `SEXTH` (R106). -/
def execSexth (o : OpDA) (s : State) : Answer := s.compute .sexth (wordSexth o) 4 o.d (fun h => let a := h.getX o.a; (a.extractLsb' 0 16).signExtend 64)
/-- `SEXTW` (R106). -/
def execSextw (o : OpDA) (s : State) : Answer := s.compute .sextw (wordSextw o) 4 o.d (fun h => let a := h.getX o.a; sextW a)
/-- `ZEXTB` (R106). -/
def execZextb (o : OpDA) (s : State) : Answer := s.compute .zextb (wordZextb o) 4 o.d (fun h => let a := h.getX o.a; (a.extractLsb' 0 8).setWidth 64)
/-- `ZEXTH` (R106). -/
def execZexth (o : OpDA) (s : State) : Answer := s.compute .zexth (wordZexth o) 4 o.d (fun h => let a := h.getX o.a; (a.extractLsb' 0 16).setWidth 64)
/-- `ZEXTW` (R106). -/
def execZextw (o : OpDA) (s : State) : Answer := s.compute .zextw (wordZextw o) 4 o.d (fun h => let a := h.getX o.a; (a.extractLsb' 0 32).setWidth 64)

/-! ## Compressed forms (R74) -/

/-- `C_ADDI`: as `ADDI` xd, xd, imm5 (R74). -/
def execCAddi (o : OpCDI) (s : State) : Answer :=
  s.compute .cAddi (wordCAddi o) 2 o.d (fun h => h.getX o.d + o.i.signExtend 64)
/-- `C_MV`: as `ADD` xd, x0, xs (R74). -/
def execCMv (o : OpCDS) (s : State) : Answer := s.compute .cMv (wordCMv o) 2 o.d (fun h => h.getX o.s)
/-- `C_ADD`: as `ADD` xd, xd, xs (R74). -/
def execCAdd (o : OpCDS) (s : State) : Answer := s.compute .cAdd (wordCAdd o) 2 o.d (fun h => h.getX o.d + h.getX o.s)
/-- `C_SUB`: as `SUB` xd, xd, xs (R74). -/
def execCSub (o : OpCDS) (s : State) : Answer := s.compute .cSub (wordCSub o) 2 o.d (fun h => h.getX o.d - h.getX o.s)

end Sys2Proof.Machine
end

