-- ==== Sys2Proof/Machine/Control.lean ====
section
/-! DEFINITION. Branches and jumps (R107), and their compressed forms (R74). -/

namespace Sys2Proof.Machine

/-- A branch: to `pc` + `off` if the condition holds, else to the next instruction. -/
def State.branch (s : State) (r : Row) (w : BitVec 64) (len : Nat) (c : Hart → Bool) (off : Word) : Answer :=
  s.scalar r w fun s => if c s.hart then s.retireTo (s.hart.pc + off) else s.retire len

/-- A 3-bit register field: x8 to x15 (R74). -/
def primeReg (p : BitVec 3) : Reg := 8#5 + p.setWidth 5
/-- The branch offset of R69: imm14 * 2. -/
def immSB (i : BitVec 14) : Word := (i ++ 0#1).signExtend 64
/-- The jump offset of R69: imm19 * 2. -/
def immSJ (i : BitVec 19) : Word := (i ++ 0#1).signExtend 64

/-- `BEQ` (R107). -/
def execBeq (o : OpABI) (s : State) : Answer :=
  s.branch .beq (wordBeq o) 4 (fun h => let a := h.getX o.a; let b := h.getX o.b; a == b) (immSB o.i)
/-- `BNE` (R107). -/
def execBne (o : OpABI) (s : State) : Answer :=
  s.branch .bne (wordBne o) 4 (fun h => let a := h.getX o.a; let b := h.getX o.b; a != b) (immSB o.i)
/-- `BLT` (R107). -/
def execBlt (o : OpABI) (s : State) : Answer :=
  s.branch .blt (wordBlt o) 4 (fun h => let a := h.getX o.a; let b := h.getX o.b; a.slt b) (immSB o.i)
/-- `BGE` (R107). -/
def execBge (o : OpABI) (s : State) : Answer :=
  s.branch .bge (wordBge o) 4 (fun h => let a := h.getX o.a; let b := h.getX o.b; !a.slt b) (immSB o.i)
/-- `BLTN` (R107). -/
def execBltn (o : OpABI) (s : State) : Answer :=
  s.branch .bltn (wordBltn o) 4 (fun h => let a := h.getX o.a; let b := h.getX o.b; decide (a < b)) (immSB o.i)
/-- `BGEN` (R107). -/
def execBgen (o : OpABI) (s : State) : Answer :=
  s.branch .bgen (wordBgen o) 4 (fun h => let a := h.getX o.a; let b := h.getX o.b; !decide (a < b)) (immSB o.i)
/-- `JAL` (R107). -/
def execJal (o : OpDI) (s : State) : Answer :=
  s.scalar .jal (wordJal o) fun s =>
    let pc := s.hart.pc
    (s.onHart (fun h => h.setX o.d (pc + 4#64))).retireTo (pc + immSJ o.i)
/-- `JALR` (R107): the canonical test of the target comes first. -/
def execJalr (o : OpDAI) (s : State) : Answer :=
  s.scalar .jalr (wordJalr o) fun s =>
    let pc := s.hart.pc
    let t := s.hart.getX o.a + imm14 o.i
    if !canonical t.toNat then s.raise { cause := 0x46, tval := t }
    else if bit t 0 then s.raise { cause := 0x40, tval := t }
    else (s.onHart (fun h => h.setX o.d (pc + 4#64))).retireTo t
/-- `C_J`: as `JAL` x0, off (R74). -/
def execCJ (o : OpCO) (s : State) : Answer :=
  s.scalar .cJ (wordCJ o) fun s => s.retireTo (s.hart.pc + (o.o ++ 0#1).signExtend 64)
/-- `C_BEQZ`: as `BEQ` xs, x0, off (R74). -/
def execCBeqz (o : OpCSO) (s : State) : Answer :=
  s.branch .cBeqz (wordCBeqz o) 2 (fun h => h.getX (primeReg o.s) == 0#64) ((o.o ++ 0#1).signExtend 64)
/-- `C_BNEZ`: as `BNE` xs, x0, off (R74). -/
def execCBnez (o : OpCSO) (s : State) : Answer :=
  s.branch .cBnez (wordCBnez o) 2 (fun h => h.getX (primeReg o.s) != 0#64) ((o.o ++ 0#1).signExtend 64)

end Sys2Proof.Machine
end

