-- ==== Sys2Proof/Machine/LoadStore.lean ====
section
/-! DEFINITION. Scalar loads and stores (R108), their compressed forms (R74), and the atomics (R113 to R115). -/

namespace Sys2Proof.Machine

/-- A scalar load of `n` bytes at `a`, its value passed through `f` (R108). -/
def State.load (s : State) (r : Row) (w : BitVec 64) (len : Nat) (d : Reg) (addr : Hart → Word) (n : Nat) (f : Nat → Word) : Answer :=
  s.scalar r w fun s =>
    let a := (addr s.hart).toNat
    s.onceFree a n false fun s => (s.loadRaw a n n false).finish fun v s => s.writeX d (f v) len

/-- A scalar store of the low `n` bytes of a register (R108). -/
def State.store (s : State) (r : Row) (w : BitVec 64) (len : Nat) (addr : Hart → Word) (n : Nat) (src : Reg) : Answer :=
  s.scalar r w fun s =>
    let a := (addr s.hart).toNat
    s.onceFree a n true fun s => (s.storeRaw a n n (s.hart.getX src).toNat false).finish fun _ s => s.retire len

/-- A loaded value of `n` bytes sign-extended. -/
def sextBytes (n v : Nat) : Word := (BitVec.ofNat (8 * n) v).signExtend 64

/-- `LB` (R108). -/
def execLb (o : OpDAI) (s : State) : Answer :=
  s.load .lb (wordLb o) 4 o.d (fun h => h.getX o.a + imm14 o.i) 1 (sextBytes 1)
/-- `LH` (R108). -/
def execLh (o : OpDAI) (s : State) : Answer :=
  s.load .lh (wordLh o) 4 o.d (fun h => h.getX o.a + imm14 o.i) 2 (sextBytes 2)
/-- `LW` (R108). -/
def execLw (o : OpDAI) (s : State) : Answer :=
  s.load .lw (wordLw o) 4 o.d (fun h => h.getX o.a + imm14 o.i) 4 (sextBytes 4)
/-- `LD` (R108). -/
def execLd (o : OpDAI) (s : State) : Answer :=
  s.load .ld (wordLd o) 4 o.d (fun h => h.getX o.a + imm14 o.i) 8 (sextBytes 8)
/-- `LBN` (R108). -/
def execLbn (o : OpDAI) (s : State) : Answer :=
  s.load .lbn (wordLbn o) 4 o.d (fun h => h.getX o.a + imm14 o.i) 1 (BitVec.ofNat 64)
/-- `LHN` (R108). -/
def execLhn (o : OpDAI) (s : State) : Answer :=
  s.load .lhn (wordLhn o) 4 o.d (fun h => h.getX o.a + imm14 o.i) 2 (BitVec.ofNat 64)
/-- `LWN` (R108). -/
def execLwn (o : OpDAI) (s : State) : Answer :=
  s.load .lwn (wordLwn o) 4 o.d (fun h => h.getX o.a + imm14 o.i) 4 (BitVec.ofNat 64)
/-- `SB` (R108). -/
def execSb (o : OpSAI) (s : State) : Answer :=
  s.store .sb (wordSb o) 4 (fun h => h.getX o.a + imm14 o.i) 1 o.s
/-- `SH` (R108). -/
def execSh (o : OpSAI) (s : State) : Answer :=
  s.store .sh (wordSh o) 4 (fun h => h.getX o.a + imm14 o.i) 2 o.s
/-- `SW` (R108). -/
def execSw (o : OpSAI) (s : State) : Answer :=
  s.store .sw (wordSw o) 4 (fun h => h.getX o.a + imm14 o.i) 4 o.s
/-- `SD` (R108). -/
def execSd (o : OpSAI) (s : State) : Answer :=
  s.store .sd (wordSd o) 4 (fun h => h.getX o.a + imm14 o.i) 8 o.s
/-- `C_LD`: as `LD` with an offset in units of 8 bytes (R74). -/
def execCLd (o : OpCDAO) (s : State) : Answer :=
  s.load .cLd (wordCLd o) 2 (primeReg o.d) (fun h => h.getX (primeReg o.a) + (o.o.setWidth 64 <<< 3)) 8 (sextBytes 8)
/-- `C_LW`: as `LW` with an offset in units of 4 bytes (R74). -/
def execCLw (o : OpCDAO) (s : State) : Answer :=
  s.load .cLw (wordCLw o) 2 (primeReg o.d) (fun h => h.getX (primeReg o.a) + (o.o.setWidth 64 <<< 2)) 4 (sextBytes 4)
/-- `C_SD`: as `SD` with an offset in units of 8 bytes (R74). -/
def execCSd (o : OpCSAO) (s : State) : Answer :=
  s.store .cSd (wordCSd o) 2 (fun h => h.getX (primeReg o.a) + (o.o.setWidth 64 <<< 3)) 8 (primeReg o.s)
/-- `C_SW`: as `SW` with an offset in units of 4 bytes (R74). -/
def execCSw (o : OpCSAO) (s : State) : Answer :=
  s.store .cSw (wordCSw o) 2 (fun h => h.getX (primeReg o.a) + (o.o.setWidth 64 <<< 2)) 4 (primeReg o.s)

/-! ## Atomics (R113 to R115) -/

/-- A read-modify-write of `n` bytes at `a`: checked as a store, its read raises 0x49 or 0x4A on uncorrectable data (R113). -/
def State.modify (s : State) (a n : Nat) (f : Nat → Option Nat) : Res Nat :=
  (s.access a n n .store false).bind fun p s =>
    let w := s.hartWho false
    let read : Res Unit := match p with | .phys pa _ => s.dataCheck w a pa n .load | .pad _ => .ok () s
    read.bind fun _ s =>
      let (v, s) := s.readPlace p n
      match f v with
      | none => .ok v (s.placeAs w p n false)
      | some u => .ok v ((s.writePlace w p n u).placeAs w p n true)

/-- The release half of an ordering field (R86, R115). -/
def ordRel (o : BitVec 2) : Bool := bit o 1

/-- An atomic of `n` bytes (R113). -/
def State.amo (s : State) (r : Row) (w : BitVec 64) (o : OpDABO) (n : Nat) (f : BitVec (8 * n) → BitVec (8 * n) → BitVec (8 * n)) : Answer :=
  s.scalar r w fun s =>
    let a := (s.hart.getX o.a).toNat
    s.afterRelease (ordRel o.o) fun s =>
      s.onceFree a n true fun s =>
        (s.modify a n (fun v => some (f (BitVec.ofNat (8 * n) v) ((s.hart.getX o.b).setWidth (8 * n))).toNat)).finish fun v s =>
          s.writeX o.d (sextBytes n v) 4

/-- `AMOSWAP_W` (R113). -/
def execAmoswapW (o : OpDABO) (s : State) : Answer := s.amo .amoswapW (wordAmoswapW o) o 4 (fun _ b => b)
/-- `AMOADD_W` (R113). -/
def execAmoaddW (o : OpDABO) (s : State) : Answer := s.amo .amoaddW (wordAmoaddW o) o 4 (fun a b => a + b)
/-- `AMOAND_W` (R113). -/
def execAmoandW (o : OpDABO) (s : State) : Answer := s.amo .amoandW (wordAmoandW o) o 4 (fun a b => a &&& b)
/-- `AMOOR_W` (R113). -/
def execAmoorW (o : OpDABO) (s : State) : Answer := s.amo .amoorW (wordAmoorW o) o 4 (fun a b => a ||| b)
/-- `AMOXOR_W` (R113). -/
def execAmoxorW (o : OpDABO) (s : State) : Answer := s.amo .amoxorW (wordAmoxorW o) o 4 (fun a b => a ^^^ b)
/-- `AMOMIN_W` (R113). -/
def execAmominW (o : OpDABO) (s : State) : Answer := s.amo .amominW (wordAmominW o) o 4 (fun a b => if b.slt a then b else a)
/-- `AMOMAX_W` (R113). -/
def execAmomaxW (o : OpDABO) (s : State) : Answer := s.amo .amomaxW (wordAmomaxW o) o 4 (fun a b => if a.slt b then b else a)
/-- `AMOMINN_W` (R113). -/
def execAmominnW (o : OpDABO) (s : State) : Answer := s.amo .amominnW (wordAmominnW o) o 4 (fun a b => if b < a then b else a)
/-- `AMOMAXN_W` (R113). -/
def execAmomaxnW (o : OpDABO) (s : State) : Answer := s.amo .amomaxnW (wordAmomaxnW o) o 4 (fun a b => if a < b then b else a)
/-- `AMOSWAP_D` (R113). -/
def execAmoswapD (o : OpDABO) (s : State) : Answer := s.amo .amoswapD (wordAmoswapD o) o 8 (fun _ b => b)
/-- `AMOADD_D` (R113). -/
def execAmoaddD (o : OpDABO) (s : State) : Answer := s.amo .amoaddD (wordAmoaddD o) o 8 (fun a b => a + b)
/-- `AMOAND_D` (R113). -/
def execAmoandD (o : OpDABO) (s : State) : Answer := s.amo .amoandD (wordAmoandD o) o 8 (fun a b => a &&& b)
/-- `AMOOR_D` (R113). -/
def execAmoorD (o : OpDABO) (s : State) : Answer := s.amo .amoorD (wordAmoorD o) o 8 (fun a b => a ||| b)
/-- `AMOXOR_D` (R113). -/
def execAmoxorD (o : OpDABO) (s : State) : Answer := s.amo .amoxorD (wordAmoxorD o) o 8 (fun a b => a ^^^ b)
/-- `AMOMIN_D` (R113). -/
def execAmominD (o : OpDABO) (s : State) : Answer := s.amo .amominD (wordAmominD o) o 8 (fun a b => if b.slt a then b else a)
/-- `AMOMAX_D` (R113). -/
def execAmomaxD (o : OpDABO) (s : State) : Answer := s.amo .amomaxD (wordAmomaxD o) o 8 (fun a b => if a.slt b then b else a)
/-- `AMOMINN_D` (R113). -/
def execAmominnD (o : OpDABO) (s : State) : Answer := s.amo .amominnD (wordAmominnD o) o 8 (fun a b => if b < a then b else a)
/-- `AMOMAXN_D` (R113). -/
def execAmomaxnD (o : OpDABO) (s : State) : Answer := s.amo .amomaxnD (wordAmomaxnD o) o 8 (fun a b => if a < b then b else a)

/-- `CAS` (R114): a `CAS` that fails writes nothing. -/
def execCas (o : OpDABEWO) (s : State) : Answer :=
  s.scalar .cas (wordCas o) fun s =>
    let a := (s.hart.getX o.a).toNat
    let n := if o.w = 1#1 then 8 else 4
    s.afterRelease (ordRel o.o) fun s =>
      s.onceFree a n true fun s =>
        (s.modify a n (fun v =>
          if v = (s.hart.getX o.e).toNat % 2 ^ (8 * n) then some ((s.hart.getX o.b).toNat % 2 ^ (8 * n)) else none)).finish fun v s =>
          s.writeX o.d (sextBytes n v) 4

end Sys2Proof.Machine
end

