-- ==== Sys2Proof/Machine/Queue.lean ====
section
/-! DEFINITION. The queue instructions and `NSUB` (R119 to R124). -/

namespace Sys2Proof.Machine

/-- An instruction on a ring: the capability at the address in `a` is read as a load in the issuer's space and checked for the
rights that the instruction needs (R20, R119), then `k`. -/
def State.withCap (s : State) (r : Row) (w : BitVec 64) (a : Reg) (need : List Right) (k : Cap → State → Answer) : Answer :=
  s.scalar r w fun s =>
    let p := s.hart.getX a
    s.onceFree p.toNat 32 false fun s => (s.presentCap (s.hartWho false) p need).finish k

/-- −1: no position was taken (R119). -/
def noPosition : Word := BitVec.allOnes 64

/-- A position, or −1 (R119). -/
def positionWord (p : Option Nat) : Word := match p with | some n => BitVec.ofNat 64 n | none => noPosition

/-- `QPUSH` (R120). -/
def execQpush (o : OpDAB) (s : State) : Answer :=
  s.withCap .qpush (wordQpush o) o.a [.push] fun c s =>
    let buf := (s.hart.getX o.b).toNat
    let n := 2 ^ c.lgsize / 8 - 1
    s.onceFree buf (8 * n) false fun s =>
      (s.loadWords (s.hartWho false) buf n).finish fun pl s =>
        s.afterRelease true fun s =>
          (s.ringPush (s.hartWho false) c pl).finish fun p s => s.writeX o.d (positionWord p) 4

/-- `QPOP` and `QPEEK` (R121): the payload goes to the buffer; a pop moves the cursor. -/
def State.popRing (s : State) (r : Row) (w : BitVec 64) (o : OpDAB) (take : Bool) : Answer :=
  s.withCap r w o.a [.pop] fun c s =>
    let x := s.hart.getX o.b
    let j := bits x 0 3
    let buf := x.toNat / 8 * 8
    if c.ncons ≤ j then s.raise { cause := 0xA6, tval := s.hart.getX o.a }
    else
      s.onceFree buf (2 ^ c.lgsize - 8) true fun s =>
        (((s.ringOpen (s.hartWho false) c).bind fun v s =>
          (s.ringPeek v.1 c j).bind fun q s =>
            match q with
            | none => .ok none (s.onHart (fun h => { h with watched := some (c.owner, c.base) }))
            | some (pos, _, pl) =>
              (s.storeWords (s.hartWho false) buf pl).bind fun _ s =>
                if take then (s.ringTake v.1 c j pos).bind fun _ s => .ok (some pos) s else .ok (some pos) s).orNothing s).finish
          fun p s => s.writeX o.d (positionWord p) 4

/-- `QPOP` (R121). -/
def execQpop (o : OpDAB) (s : State) : Answer := s.popRing .qpop (wordQpop o) o true

/-- `QPEEK` (R121). -/
def execQpeek (o : OpDAB) (s : State) : Answer := s.popRing .qpeek (wordQpeek o) o false

/-- `QWAKE` (R122). -/
def execQwake (o : OpDAB) (s : State) : Answer :=
  s.withCap .qwake (wordQwake o) o.a [.wake] fun c s =>
    (s.ringWake (s.hartWho false) c (s.hart.getX o.b).toNat).finish fun ok s => s.writeX o.d (if ok then 0#64 else 1#64) 4

/-- `QSEAL` (R124, R18). -/
def execQseal (o : OpDA) (s : State) : Answer :=
  if s.hostFn 5 then s.raise (bitsStop 0x04 (wordQseal o))
  else
    s.scalar .qseal (wordQseal o) fun s =>
      let a := s.hart.getX o.a
      s.onceFree a.toNat 32 true fun s =>
        (s.readCap (s.hartWho false) a).finish fun q s =>
          if (capOf q.1 q.2.1 q.2.2.1 q.2.2.2).formOk then
            (s.storeRaw (a.toNat + 24) 8 8 (sealOf (Config.sealKey s.epoch) q.1 q.2.1 q.2.2.1).toNat false).finish
              fun _ s => s.writeX o.d 0#64 4
          else s.raise { cause := 0xA5, tval := a }

/-- A context's generation floor raised (R19). -/
def State.raiseFloor (s : State) (ctx n : Nat) : State :=
  let f := max (s.floorOf ctx) (min n 0xFFFF)
  if f = 0 then s else { s with floors := putBy (fun p : Nat × Nat => p.1 == ctx) (ctx, f) s.floors }

/-- `QREVOKE` (R124). -/
def execQrevoke (o : OpDAB) (s : State) : Answer :=
  if s.hostFn 5 then s.raise (bitsStop 0x04 (wordQrevoke o))
  else
    s.withCap .qrevoke (wordQrevoke o) o.a [.admin] fun c s =>
      let t := s.raiseFloor c.owner (s.hart.getX o.b).toNat
      t.writeX o.d (BitVec.ofNat 64 (t.floorOf c.owner)) 4

/-- `QGROW` (R124, R28). -/
def execQgrow (o : OpDAB) (s : State) : Answer :=
  s.withCap .qgrow (wordQgrow o) o.a [.grow] fun c s =>
    let g := s.hart.getX o.b
    if !canonical g.toNat then s.raise { cause := 0x46, tval := g }
    else if bits g 0 7 ≠ 0 then s.raise { cause := 0x40, tval := g }
    else (s.ringGrow (s.hartWho false) c g.toNat).finish fun n s => s.writeX o.d (BitVec.ofNat 64 n) 4

/-- `NSUB` (R123): a submission of its four fields, the rest of the slot zero, and a wake. -/
def execNsub (o : OpDAB) (s : State) : Answer :=
  s.withCap .nsub (wordNsub o) o.a [.push, .wake] fun c s =>
    let d := s.hart.getX o.b
    if c.type ≠ 1 then s.raise { cause := 0xA6, tval := s.hart.getX o.a }
    else
      s.onceFree d.toNat 32 false fun s =>
        (s.loadWords (s.hartWho false) d.toNat 4).finish fun pl s =>
          let count := (nth pl 1).getD 0
          if count = 0 ∨ 2 ^ 24 < count then s.raise { cause := 0xAA, tval := d }
          else
            s.afterRelease true fun s =>
              (((s.ringPush (s.hartWho false) c (pl ++ List.replicate (2 ^ c.lgsize / 8 - 5) 0)).bind fun p s =>
                match p with
                | none => .ok none s
                | some n => (s.ringWake (s.hartWho false) c (n + 1)).bind fun _ s => .ok (some n) s).orNothing s).finish
                fun p s => s.writeX o.d (positionWord p) 4

end Sys2Proof.Machine
end

