-- ==== Sys2Proof/Machine/Sync.lean ====
section
/-! DEFINITION. Synchronisation: `FENCE`, `PAUSE`, `WAITM`, the barriers `ARRIVE`, `AWAIT` and `GBAR` (R302 to R311). -/

namespace Sys2Proof.Machine

/-! ## Waits -/

/-- The instruction at the PC waits, and the lanes and engines go on: the next step tries it again (R118, R305, R311). -/
def State.stay (s : State) : State := (s.onHart (fun h => { h with waits := true })).idleWork

/-- The asynchronous trap that is pending, taken at the instruction at the PC; the instruction waits where none may be taken
(R311). -/
def State.asyncTrap (s : State) : State :=
  if s.hart.ie then
    match s.hart.asyncFirst with
    | some c => (s.onHart (fun h => h.dropAsync c.cause)).takeTrap c none
    | none => s.stay
  else s.stay

/-! ## Fences (R303, R304) -/

/-- `FENCE` (R303): a full fence waits for every earlier access, an acquire fence for every earlier read; a release fence passes, and
counts on the writes that follow it. HART scope adds nothing. -/
def execFence (o : OpSK) (s : State) : Answer :=
  s.scalar .fence (wordFence o) fun s =>
    if o.s = 0#3 then s.retire 4
    else if o.k = 0#2 then s.afterRelease true fun s => s.retire 4
    else if o.k = 1#2 then (if s.hart.readsBack then s.retire 4 else s.waitOlder)
    else if s.hart.released then s.retire 4
    else (s.onHart (fun h => { h with fences := h.fences + 1 })).retire 4

/-- `PAUSE` (R304). -/
def execPause (s : State) : Answer := s.scalar .pause wordPause fun s => s.retire 4

/-! ## `WAITM` (R305) -/

/-- `WAITM` (R305). -/
def execWaitm (o : OpDAB) (s : State) : Answer :=
  s.scalar .waitm (wordWaitm o) fun s =>
    let a := (s.hart.getX o.a).toNat
    s.onceFree a 8 false fun s =>
      (s.loadRaw a 8 8 false).finish fun v s =>
        let v := BitVec.ofNat 64 v
        if v != s.hart.getX o.b || s.hart.timeout || s.hart.asyncPending then s.writeX o.d v 4 else .next s.stay

/-! ## Barrier words (R306 to R308) -/

/-- `arrived` of a barrier word (R306). -/
def barArrived (w : Nat) : Nat := w % 2 ^ 32
/-- `phase` of a barrier word. -/
def barPhase (w : Nat) : Nat := w / 2 ^ 32 % 2 ^ 16
/-- `need` of a barrier word. -/
def barNeed (w : Nat) : Nat := w / 2 ^ 48 % 2 ^ 15

/-- A malformed barrier word (R306). -/
def barBad (w : Nat) : Bool := decide (2 ^ 63 ≤ w) || barNeed w == 0 || decide (barNeed w ≤ barArrived w)

/-- A barrier word after an arrival (R307). -/
def barNext (w : Nat) : Nat :=
  if barArrived w + 1 = barNeed w then barNeed w * 2 ^ 48 + (barPhase w + 1) % 2 ^ 16 * 2 ^ 32 else w + 1

/-- The wait token of an arrival (R307): the phase with the barrier number and the relaxed bit of the control word. -/
def waitToken (old : Nat) (control : Word) : Word :=
  BitVec.ofNat 64 (barPhase old + bits control 16 6 * 2 ^ 16 + (bit control 24).toNat * 2 ^ 24)

/-- `ARRIVE` (R307). -/
def execArrive (o : OpDAB) (s : State) : Answer :=
  s.scalar .arrive (wordArrive o) fun s =>
    let a := (s.hart.getX o.a).toNat
    let c := s.hart.getX o.b
    s.onceFree a 8 true fun s =>
      (s.access a 8 8 .store false).finish fun _ s =>
        s.afterRelease (!bit c 24) fun s =>
          (s.modify a 8 (fun w => if barBad w then none else some (barNext w))).finish fun old s =>
            if barBad old then s.raise (stopAt 0x4D a) else s.writeX o.d (waitToken old c) 4

/-- `AWAIT` (R308). -/
def execAwait (o : OpDAB) (s : State) : Answer :=
  s.scalar .await (wordAwait o) fun s =>
    let a := (s.hart.getX o.a).toNat
    s.onceFree a 8 false fun s =>
      (s.loadRaw a 8 8 false).finish fun v s =>
        if barPhase v ≠ bits (s.hart.getX o.b) 0 16 then s.writeX o.d (BitVec.ofNat 64 (barPhase v)) 4
        else .next s.asyncTrap

/-! ## The gang barrier (R310) -/

/-- A member arrives: its bit is set, and completion is tested (R310). -/
def Job.arrive (j : Job) (member : Nat) : Job := ({ j with arrived := j.arrived ||| (1#8 <<< member) }).settle

/-- An arrival at the gang barrier and the wait on it (R310); `release` says whether it orders the hart's accesses. -/
def State.gangBarrier (s : State) (r : Row) (w : BitVec 64) (d : Reg) (release : Bool) : Answer :=
  s.scalar r w fun s =>
    match s.job with
    | none => s.raise (stopAt 0x0F 0)
    | some j =>
      match s.hart.gwait with
      | none =>
        s.afterRelease release fun s =>
          let k := j.arrive s.hart.csr.member
          let t := s.putJob k
          if k.phase ≠ j.phase then t.writeX d (BitVec.ofNat 64 k.phase) 4
          else .next ((t.onHart (fun h => { h with gwait := some j.phase })).stay)
      | some p =>
        if j.phase ≠ p then (s.onHart (fun h => { h with gwait := none })).writeX d (BitVec.ofNat 64 j.phase) 4
        else .next s.asyncTrap

/-- `GBAR` (R310). -/
def execGbar (o : OpD) (s : State) : Answer := s.gangBarrier .gbar (wordGbar o) o.d true

/-- `GBAR_RLX` (R310). -/
def execGbarRlx (o : OpD) (s : State) : Answer := s.gangBarrier .gbarRlx (wordGbarRlx o) o.d false

end Sys2Proof.Machine
end

