-- ==== Sys2Proof/Machine/System.lean ====
section
/-! DEFINITION. The system instructions: traps and their return (R346, R354), `HALT` and `WFE` (R117, R118), translations and
caches (R221, R222, R249, R359), and the queue image in memory (R350 to R353). -/

namespace Sys2Proof.Machine

/-! ## `TRAP`, `TRAP.BRK`, `HALT`, `WFE` -/

/-- `TRAP` (R346). -/
def execTrap (o : OpA) (s : State) : Answer :=
  s.scalar .trap (wordTrap o) fun s => s.raise { cause := 0x10, tval := s.hart.getX o.a }

/-- `TRAP_BRK` (R346). -/
def execTrapBrk (s : State) : Answer :=
  s.scalar .trapBrk wordTrapBrk fun s => s.raise { cause := 0x0E, tval := s.hart.pc }

/-- `HALT` (R117): waits for the queue and the bridle, and then the hart never fetches again. What follows for its job is the
device's step. -/
def execHalt (s : State) : Answer :=
  s.scalar .halt wordHalt fun s =>
    if s.hart.queue.isEmpty && s.hart.bridle.isEmpty then
      let t := (s.advance 4).onHart (fun h => { h with run := if h.isGroom then .stopped else .halted })
      .next (if t.hart.isGroom then t else { t with turns := Turn.device (.hartHaltComplete t.hart.id) :: t.turns })
    else .next s.resumeTransfers.idleWork

/-- `WFE` (R118); an asynchronous trap that is pending ends it (R343). -/
def execWfe (s : State) : Answer :=
  s.scalar .wfe wordWfe fun s =>
    if s.hart.event || s.hart.asyncPending then (s.onHart (fun h => { h with event := false })).retire 4 else .next s.stay

/-! ## Ranges of lines (R221, R222) -/

/-- A bound of the range of `n` bytes from `a` that is not canonical (R221, R222); an empty range has no bound to check (log 58). -/
def badBound64 (a n : Word) : Option Stop :=
  if n = 0#64 then none
  else if !canonical a.toNat then some { cause := 0x46, tval := a }
  else if !canonical (a.toNat + n.toNat - 1) then some { cause := 0x46, tval := a + n - 1#64 }
  else none

/-- The pieces of [a, a + n) by 64 KiB page: at most `fuel` of them. -/
def pagesOf : Nat → Nat → Nat → List (Nat × Nat)
  | 0, _, _ => []
  | f + 1, a, n =>
    if n = 0 then []
    else
      let k := min n (65536 - a % 65536)
      (a, k) :: pagesOf f (a + k) (n - k)

/-- The physical address of a page that is present, whatever its rights; none for a window address. -/
def State.presentAt (s : State) (a : Nat) : Res (Option (Nat × Word)) :=
  if inWindow a then .ok none s
  else
    match s.translate s.hart.stable s.hart.ctx s.hart.csr.pgroot a with
    | (.present pa leaf, t) => .ok (if targetOf pa = .absent || t.noPeer pa then none else some (pa, leaf)) t
    | (.absent _, t) => .ok none t
    | (.failed c cls e, t) => t.dataStop (s.hartWho false) a c cls e
    | (.moved e, t) => (t.movedCheck (s.hartWho false) a e).bind fun _ t => .wait t

/-- The lines `lo` to `hi` leave the instruction cache of a stable (R222). -/
def Stable.dropLines (t : Stable) (lo hi : Nat) : Stable :=
  { t with icache := dropBy (fun c : Nat × Memory => decide (lo ≤ c.1 ∧ c.1 ≤ hi)) t.icache }

/-- The lines of a range written back: those in U merge, as for an ordinary read (R365), and dirty copies become clean; with `drop` the lines
leave the stable's caches, their dirty data written back (R222). -/
def State.cleanPages (s : State) (drop : Bool) : List (Nat × Nat) → Res Unit
  | [] => .ok () s
  | (a, k) :: ps =>
    (s.presentAt a).bind fun p t =>
      match p with
      | none => State.cleanPages t drop ps
      | some (pa, _) =>
        let us := t.ulines.filter (fun u => decide (pa / 128 ≤ u.line ∧ u.line ≤ (pa + k - 1) / 128))
        (t.mergeLines (us.map (fun u => (a + u.line * 128 - pa, u.line)))).bind fun _ t =>
          let n := t.hart.stable
          let lo := pa / 128
          let hi := (pa + k - 1) / 128
          let t :=
            if drop then { t.putStable ((t.stableAt n).dropLines lo hi) with coh := t.coh.dropFrom n lo hi }
            else { t with coh := t.coh.cleaned lo hi }
          State.cleanPages t drop ps

/-- `CFLUSH` and `CINVAL` (R222): they wait as a store to the range, and change no value that a program reads. -/
def State.cleanRange (s : State) (r : Row) (w : BitVec 64) (o : OpAB) (drop : Bool) : Answer :=
  s.scalar r w fun s =>
    let a := s.hart.getX o.a
    let n := s.hart.getX o.b
    match badBound64 a n with
    | some c => s.raise c
    | none =>
      if n = 0#64 then s.retire 4
      else
        s.onceFree a.toNat n.toNat true fun s =>
          let idle := s.ulines.isEmpty && s.coh.caches.isEmpty && s.coh.homes.isEmpty && s.coh.dir.isEmpty &&
            (!drop || (s.links.isEmpty && (s.stableAt s.hart.stable).icache.isEmpty))
          if idle then s.retire 4
          else (s.cleanPages drop (pagesOf (n.toNat / 65536 + 2) a.toNat n.toNat)).finish fun _ s => s.retire 4

/-- `CFLUSH` (R222). -/
def execCflush (o : OpAB) (s : State) : Answer := s.cleanRange .cflush (wordCflush o) o false

/-- `CINVAL` (R222). -/
def execCinval (o : OpAB) (s : State) : Answer := s.cleanRange .cinval (wordCinval o) o true

/-! ## Pins (R221) -/

/-- A context's pin of a line in a die's L2. -/
def State.pinned (s : State) (die ctx line : Nat) : Bool := anyBy (fun p => p == ({ die := die, ctx := ctx, line := line } : Pin)) s.pins

/-- The pinned ways of a line's set in a die's L2: the pinned lines of that set (log 14). -/
def State.pinnedWays (s : State) (die line : Nat) : Nat :=
  let same := s.pins.filter (fun p => p.die == die && (p.line == line || Config.l2Set p.line % 65536 == Config.l2Set line % 65536))
  (same.foldl (fun l p => if l.contains p.line then l else p.line :: l) ([] : List Nat)).length

/-- `PIN` over lines of the range from virtual line `l` on: how many count. A line that never stands in an L2, of host or peer memory or of an
uncached page, is pinned and counted alike, and fetched nowhere (log 118). -/
def State.pinLines (s : State) : Nat → Nat → Nat → Nat × State
  | 0, _, acc => (acc, s)
  | n + 1, l, acc =>
    let h := s.hart
    match s.presentAt (l * 128) with
    | .stop _ t | .wait t | .ok none t => State.pinLines t n (l + 1) acc
    | .ok (some (pa, leaf)) t =>
      let line := pa / 128
      if t.pinned h.die h.ctx line then State.pinLines t n (l + 1) (acc + 1)
      else if leafAllows leaf (h.mode == 0) .load && decide (t.pinnedWays h.die line < 12) && decide (t.pinsUsed h.ctx < h.csr.quota.toNat) then
        let t := if uncachedLeaf leaf || t.coh.holds (l2Cache h.die) line then t else t.readLines h.die none 1 (line * 128) 128
        State.pinLines { t with pins := t.pins ++ [({ die := h.die, ctx := h.ctx, line := line } : Pin)] } n (l + 1) (acc + 1)
      else State.pinLines t n (l + 1) acc

/-- `UNPIN` over lines of the range from virtual line `l` on: how many pins it releases. -/
def State.unpinLines (s : State) : Nat → Nat → Nat → Nat × State
  | 0, _, acc => (acc, s)
  | n + 1, l, acc =>
    let h := s.hart
    match s.presentAt (l * 128) with
    | .stop _ t | .wait t | .ok none t => State.unpinLines t n (l + 1) acc
    | .ok (some (pa, _)) t =>
      let line := pa / 128
      if t.pinned h.die h.ctx line then
        State.unpinLines { t with pins := dropBy (fun p => p == ({ die := h.die, ctx := h.ctx, line := line } : Pin)) t.pins } n (l + 1) (acc + 1)
      else State.unpinLines t n (l + 1) acc

/-- The frame of `PIN` and `UNPIN`: they wait for nothing, and answer how many lines `f` counts in a range. -/
def State.pinRange (s : State) (r : Row) (w : BitVec 64) (o : OpDAB) (f : State → Nat → Nat → Nat × State) : Answer :=
  s.scalar r w fun s =>
    let a := s.hart.getX o.a
    let n := s.hart.getX o.b
    match badBound64 a n with
    | some c => s.raise c
    | none =>
      if n = 0#64 then s.writeX o.d 0#64 4
      else
        let first := a.toNat / 128
        let (k, t) := f s ((a.toNat + n.toNat - 1) / 128 + 1 - first) first
        t.writeX o.d (BitVec.ofNat 64 k) 4

/-- `PIN` (R221). -/
def execPin (o : OpDAB) (s : State) : Answer := s.pinRange .pin (wordPin o) o (fun s n l => s.pinLines n l 0)

/-- `UNPIN` (R221). -/
def execUnpin (o : OpDAB) (s : State) : Answer := s.pinRange .unpin (wordUnpin o) o (fun s n l => s.unpinLines n l 0)

/-! ## `TLBINV` (R359) -/

/-- A translation of a context that an invalidation of `va` covers: all of the context's, or those whose page or block contains
the address. -/
def covers (ctx : Nat) (va : Word) (t : TlbEntry) : Bool :=
  t.ctx == ctx && (va == BitVec.allOnes 64 || va.toNat / 2 ^ leafShift t.level == t.vpn)

/-- The translations that an invalidation drops. -/
def State.dropped (s : State) (ctx : Nat) (va : Word) : List TlbEntry := s.stables.flatMap (fun t => t.tlb.filter (covers ctx va))

/-- Accesses held after a moved response go on once their page's translations have been invalidated; `is` tells by the upper part of its
key that an access is of the context (R327). -/
def freeHeld (is : Nat → Bool) (va : Word) (gone : List TlbEntry) (l : List (Nat × Nat × Bool)) : List (Nat × Nat × Bool) :=
  l.map (fun m =>
    let a := m.1 % 2 ^ 64
    let hit := va == BitVec.allOnes 64 || a / 65536 == va.toNat / 65536 || anyBy (fun t : TlbEntry => a / 2 ^ leafShift t.level == t.vpn) gone
    if is (m.1 / 2 ^ 64) && hit then (m.1, m.2.1, false) else m)

/-- The held accesses of a hart and of its transfers after an invalidation (R327). -/
def Hart.freeMoved (h : Hart) (ctx : Nat) (va : Word) (gone : List TlbEntry) : Hart :=
  { h with moved := freeHeld (fun q => if q = 0 then h.ctx == ctx else q == ctx + 1) va gone h.moved }

/-- The effect of an invalidation at every recipient (R359): translations and pins of the context are dropped. -/
def State.invalidate (s : State) (ctx : Nat) (va : Word) : State :=
  let gone := s.dropped ctx va
  let pinGone (p : Pin) : Bool :=
    p.ctx == ctx && (va == BitVec.allOnes 64 || anyBy (fun t : TlbEntry =>
      decide (pteBase t.leaf ≤ p.line * 128 ∧ p.line * 128 < pteBase t.leaf + 2 ^ leafShift t.level)) gone)
  let t : State := { s with
    stables := s.stables.map (fun t => { t with tlb := dropBy (covers ctx va) t.tlb })
    dies := s.dies.map (fun d => { d with moved := freeHeld (· == ctx) va gone d.moved })
    pins := dropBy pinGone s.pins }
  -- a wake that waits in a port's window is tried again (R327, R45)
  let again (t : State) (p : Port) : State := if p.writes.isEmpty then t else t.portAgain p.n 0
  s.ports.foldl again (t.mapHarts (fun h => h.freeMoved ctx va gone))

/-- The harts that have a transfer phase of `MDRAIN` of a context under way, which waits for no replay (log 97). -/
def State.draining (s : State) (ctx : Nat) : List Nat :=
  (s.allHarts.filter (fun h => h.bridle.any (fun t => t.ctx == ctx && t.isDrain && !t.held))).map (fun h => h.id)

/-- The drains of some harts go on by a chunk each (R213). -/
def State.drainHarts (s : State) (ids : List Nat) : State :=
  let me := s.hart.id
  (ids.foldl (fun t id => (t.focusOn id).drainWork) s).focusOn me

/-- `TLBINV` (R359): it waits for the transfer phases of `MDRAIN` of the context (R213). -/
def execTlbinv (o : OpAB) (s : State) : Answer :=
  s.scalar .tlbinv (wordTlbinv o) fun s =>
    let ctx := bits (s.hart.getX o.a) 0 24
    let va := s.hart.getX o.b
    if va ≠ BitVec.allOnes 64 ∧ !canonical va.toNat then s.raise { cause := 0x46, tval := va }
    else s.afterRelease true fun s =>
      match s.draining ctx with
      | [] => (s.invalidate ctx va).retire 4
      | ids => .next (s.drainHarts ids)

/-! ## `FINVAL` (R249) -/

/-- The die of a stable's record: a groom core's is 288 + die, a die's units' 300 + die. -/
def dieOfStable (n : Nat) : Nat := if n < 288 then n / 48 else if n < 300 then n - 288 else n - 300

/-- The stables that an operation of a hart reaches at a scope (R249). -/
def inScope (h : Hart) (scope n : Nat) : Bool :=
  if scope ≤ 2 then n == h.stable else if scope = 3 then dieOfStable n == h.die else true

/-- `FINVAL` (R249): drops the chains through a frame, once the queue is empty and every earlier access has been performed; transfers
that pre-emption has stopped go on for it (log 98), and those that wait for a replay are left (log 97). -/
def execFinval (o : OpA) (s : State) : Answer :=
  s.scalar .finval (wordFinval o) fun s =>
    let f := bits (s.hart.getX o.a) 8 24
    s.afterQueue fun s =>
     let s := s.resumeTransfers
     if !(s.hart.bridle.all (fun t => t.held)) then .next s.engineWork
     else
      let drop (t : Stable) : Stable :=
        if inScope s.hart s.hart.scope t.n then { t with frames := dropBy (fun e : FrameEntry => e.via.contains f) t.frames } else t
      let t : State := { s with stables := s.stables.map drop }
      t.retire 4

/-! ## Queue images in memory (R350 to R353) -/

/-- The doublewords of a slot (R350). -/
def QSlot.words (q : QSlot) : List Nat :=
  [q.w0.toNat + q.w1.toNat * 2 ^ 32, q.pc.toNat % 2 ^ 56 + q.prog % 64 * 2 ^ 56 + q.state % 4 * 2 ^ 62, q.opa.toNat, q.opb.toNat]

/-- The doublewords of an image, with `head` 0 (R352). -/
def QImage.words (q : QImage) : List Nat :=
  let n := q.slots.length
  [n % 256 + q.vstart % 2 ^ 16 * 2 ^ 16, q.lrec.toNat] ++
    (q.slots ++ List.replicate (32 - n) QSlot.empty).flatMap QSlot.words

/-- Scalar stores in turn; the first that cannot be made ends them, and those before it stand (R352). -/
def State.storeRun (s : State) (a : Nat) : List Nat → Res Unit
  | [] => .ok () s
  | v :: vs => (s.storeRaw (a % 2 ^ 64) 8 8 v false).bind fun _ s => State.storeRun s (a + 8) vs

/-- Scalar loads in turn. -/
def State.loadRun (s : State) (a : Nat) : Nat → Res (List Nat)
  | 0 => .ok [] s
  | n + 1 => (s.loadRaw (a % 2 ^ 64) 8 8 false).bind fun v s => (State.loadRun s (a + 8) n).bind fun l s => .ok (v :: l) s

/-- The address of an image is misaligned or not canonical (R352, R353). -/
def badImage (a : Word) : Option Stop :=
  if !canonical a.toNat then some { cause := 0x46, tval := a } else if bits a 0 4 ≠ 0 then some { cause := 0x40, tval := a } else none

/-- `VQSAVE` (R352): it waits for no queue entry. -/
def execVqsave (o : OpA) (s : State) : Answer :=
  s.scalar .vqsave (wordVqsave o) fun s =>
    let a := s.hart.getX o.a
    match badImage a with
    | some c => s.raise c
    | none =>
      if s.hart.bridle.any (fun t => !t.held && t.holds a.toNat 1040) then s.waitOlder
      else
        (s.storeRun a.toNat (if s.hart.qip then s.hart.image else .empty).words).finish fun _ s => s.retire 4

/-- A slot from its four doublewords. -/
def slotOfWords (d : List Nat) : QSlot :=
  let d0 := (nth d 0).getD 0
  let d1 := (nth d 1).getD 0
  { w0 := BitVec.ofNat 32 d0, w1 := BitVec.ofNat 32 (d0 / 2 ^ 32), pc := BitVec.ofNat 64 (d1 % 2 ^ 56), prog := d1 / 2 ^ 56 % 64,
    state := d1 / 2 ^ 62, opa := BitVec.ofNat 64 ((nth d 2).getD 0), opb := BitVec.ofNat 64 ((nth d 3).getD 0) }

/-- The 64 bits of a slot's instruction. -/
def QSlot.bits64 (q : QSlot) : BitVec 64 := q.w1 ++ q.w0

/-- A slot holds bits that its form requires to be zero (R350, R353). -/
def QSlot.strayBits (q : QSlot) : Bool :=
  let n := lengthOf (q.w0.extractLsb' 0 16)
  (n == 2 && q.w0.extractLsb' 16 16 != 0#16) || (n != 8 && q.w1 != 0#32)

/-- The entry keeps x2 in `opa`, or may (R351): its own rounding is SR, or is that of `vcfg`, read again at replay. -/
def keepsX2 (r : Row) (w : BitVec 64) : Bool := cvtMaySr r && (bits w 29 3 == 5 || bits w 29 3 == 7)

/-- The block of a fetch entry fails a check of its decode (R67, R75, R145), in the mode before the trap and without row 6. What a change
of the page table or of memory can mend is met at replay (log 57). -/
def State.badBlock (s : State) (a : Word) : Bool :=
  let st := setBits (setBits (setBits s.hart.csr.status 0 2 s.hart.pmode) 5 2 2) 7 2 2
  match (s.onHart (fun h => { h with csr := { h.csr with status := st } })).readBlock a with
  | .stop c _ => !([0x41, 0x42, 0x49, 0x4A, 0x4B, 0x4C].contains c.cause)
  | _ => false

/-- An entry that decode would not let enter the queue in the mode before the trap, rows 1 to 5 and 7 on of R75 (R353). -/
def State.badSlot (s : State) (q : QSlot) : Bool :=
  q.strayBits ||
  (match decodeRow q.bits64 with
   | .error _ => true
   | .ok r =>
     let c := r.captures q.bits64
     !r.isVec q.bits64 || r == .endb ||
     (privStop s.hart.pmode r q.bits64).isSome || (s.namesStop r q.bits64).isSome ||
     ((r == .vfetch || r == .cVfetch || r == .vfetchw || r == .vloop) && s.badBlock q.opa) ||
     (c.1.isNone && !keepsX2 r q.bits64 && q.opa != 0#64) || (c.2.isNone && q.opb != 0#64) ||
     (needsZero184 r && q.state == 2))

/-- The entries of an image are malformed (R353); `low` is the least progress of the older partial entries. -/
def State.badSlots (s : State) : List QSlot → Bool → Option Nat → Bool
  | [], _, _ => false
  | q :: qs, first, low =>
    if q.state = 0 then q != QSlot.empty || first || State.badSlots s qs false low
    else
      q.state == 3 || s.badSlot q || (!first && q.state == 2 && q.prog == 0) ||
      (match low with | some l => decide (l < q.prog) | none => false) ||
      State.badSlots s qs false (if q.state = 2 then some (match low with | some l => min l q.prog | none => q.prog) else low)

/-- An image from its 130 doublewords; none if it is malformed (R350, R353). -/
def State.imageOfWords (s : State) (d : List Nat) : Option QImage :=
  let h0 := (nth d 0).getD 0
  let count := h0 % 256
  let head := h0 / 2 ^ 8 % 256
  let slot (k : Nat) : QSlot := slotOfWords (d.drop (2 + 4 * (k % 32)))
  let slots := (countFrom 0 count).map (fun n => slot (head + n))
  let others := (countFrom count (32 - count)).map (fun n => slot (head + n))
  if 32 < count ∨ 31 < head ∨ h0 / 2 ^ 32 ≠ 0 then none
  else if others.any (fun q => q != QSlot.empty) || s.badSlots slots true none then none
  else some { vstart := h0 / 2 ^ 16 % 2 ^ 16, lrec := BitVec.ofNat 64 ((nth d 1).getD 0), slots := slots }

/-- `VQLOAD` (R353). -/
def execVqload (o : OpA) (s : State) : Answer :=
  s.scalar .vqload (wordVqload o) fun s =>
    let a := s.hart.getX o.a
    match badImage a with
    | some c => s.raise c
    | none =>
      s.onceFree a.toNat 1040 false fun s =>
        (s.loadRun a.toNat 130).finish fun d s =>
          match s.imageOfWords d with
          | none => s.raise { cause := 0x0D, tval := a }
          | some q =>
            (s.onHart (fun h =>
              { h with
                image := q
                csr := { h.csr with status := setBit h.csr.status 9 (q.slots.any (fun e => e.state != 0)) } })).retire 4

/-! ## `TRET` (R354) -/

/-- An entry of the queue from a slot of the image; `lrec` is the oldest entry's restart record. -/
def Hart.entryOf (h : Hart) (q : QSlot) (lrec : Word) : Option QEntry :=
  match decodeRow q.bits64 with
  | .error _ => none
  | .ok r =>
    some { row := r, words := q.bits64, pc := q.pc, opa := q.opa, opb := q.opb
           x2 := if h.cvtSr r q.bits64 then q.opa else h.getX 2#5
           dest := r.xDest q.bits64, ret := none, state := q.state, prog := q.prog, lrec := lrec, block := [], begun := false, grp := 0, any := false
           fence := h.fences }

/-- The entries of an image, in program order. The image does not say what release fences stood between them: each counts as one fence
further than the one before it (log 99), and a younger entry of `VFETCH` goes on at its granule. -/
def Hart.replayed (h : Hart) : List QSlot → Word → Nat → List QEntry
  | [], _, _ => []
  | q :: qs, lrec, n =>
    if q.state = 0 then Hart.replayed h qs 0#64 n
    else
      match h.entryOf q (if n = 0 then lrec else if q.state = 2 then BitVec.ofNat 64 (8 * q.prog) else 0#64) with
      | some e => { e with fence := h.fences + n } :: Hart.replayed h qs 0#64 (n + 1)
      | none => Hart.replayed h qs 0#64 n

/-- `vstart` does not fit the oldest entry of the image (R354). -/
def Hart.badResume (h : Hart) (e : QEntry) : Bool :=
  if needsZero184 e.row then h.vstart != 0
  else if e.row == .vloop || e.row == .vfetchw || e.row == .recur then h.vstart != 0 || (e.state == 2 && e.prog != 0)
  else h.granule e.row h.vstart != (if e.state = 2 then e.prog else 0)

/-- A transfer of the context that its hart returns to, that waited for the replay of older entries: of the slots of the image those that are
not empty are in the queue again, at most `top`, and the others are gone (log 97). -/
def Hart.release (h : Hart) (slots : List QSlot) (top : Nat) (t : Transfer) : Transfer :=
  if t.held && t.ctx == h.ctx && t.pgroot == h.csr.pgroot then
    { t with held := false, after := min ((slots.take t.after).filter (fun q => q.state != 0)).length top }
  else t

/-- The entries of the image stand in the queue again, and the buffer is empty (R354). -/
def Hart.replay (h : Hart) (q : List QEntry) : Hart :=
  { h with
    queue := q, image := .empty, fences := h.fences + q.length, bridle := h.bridle.map (h.release h.image.slots q.length)
    csr := { h.csr with status := setBit h.csr.status 9 false } }

/-- The return itself: what R354 does after the queue has emptied. A return that traps at the PC resumes no transfer. -/
def State.trapReturn (s : State) : State :=
  let t := s.onHart Hart.leaveTrap
  let resumed (t : State) : State := if t.hart.mode = 0 then t.resumeTransfers else t
  if !t.hart.qip then resumed (t.onHart (fun h => if h.mode = 0 then { h with bridle := h.bridle.map (h.release [] 0) } else h))
  else
    let q := t.hart.replayed t.hart.image.slots t.hart.image.lrec 0
    if t.hart.vs = 0 then t.takeTrap (stopAt 0x60 0) none
    else if t.hart.ms = 0 ∧ q.any (fun e => e.row.isMatrix) then t.takeTrap (t.openStop 0x61) none
    else
      match q with
      | e :: _ => if t.hart.badResume e then t.takeTrap (stopAt 0x0D t.hart.vstart) none else resumed (t.onHart (fun h => h.replay q))
      | [] => resumed (t.onHart (fun h => h.replay []))

/-- `TRET` (R354); an odd `tpc` raises 0x40 before anything changes (R67). -/
def execTret (s : State) : Answer :=
  s.scalar .tret wordTret fun s =>
    s.afterQueue fun s =>
      if bit s.hart.csr.tpc 0 then s.raise { cause := 0x40, tval := s.hart.csr.tpc }
      else .next ((s.onHart (fun h => { h with timeout := false, waits := false, csr := { h.csr with instret := h.csr.instret + 1#64 } })).trapReturn)

end Sys2Proof.Machine
end

