-- ==== Sys2Proof/Machine/Launch.lean ====
section
/-! DEFINITION. Launch requests, admission, the start of a gang, completion and the end by error recovery (R8 to R16, R38, R39, R54,
R117, R363). -/

namespace Sys2Proof.Machine

/-! ## The job image (R9) -/

/-- The header of a job image (R9). -/
structure Header where
  okForm  : Bool                        -- magic, version and reserved fields
  entry   : Word
  vsc0    : Word
  vcfg0   : Word
  xdecl   : BitVec 32
  vdecl   : BitVec 32
  kdecl   : BitVec 8
  zdecl   : BitVec 2
  gang    : Nat
  nbar    : Nat
  lmin    : Nat
  lpref   : Nat
  kspill  : BitVec 8
  zspill  : BitVec 2
  spbytes : Nat
  xspill  : BitVec 32
  vspill  : BitVec 32
  spill   : Nat
  sigaddr : Nat
  sigval  : BitVec 8
  ctx     : Nat
  prio    : Nat

/-- A header from its sixteen doublewords. -/
def header (d : List Nat) : Header :=
  let n (i : Nat) : Nat := (nth d i).getD 0
  let w (i : Nat) : Word := BitVec.ofNat 64 (n i)
  { okForm := n 0 == 0x4A4B535A + 2 ^ 32 && bits (w 5) 10 6 == 0 && bits (w 5) 28 4 == 0 && bits (w 5) 37 3 == 0 && bits (w 5) 45 3 == 0 &&
      bits (w 5) 58 6 == 0 && bits (w 6) 32 32 == 0 && bits (w 10) 28 36 == 0 && (d.drop 11).all (· == 0)
    entry := w 1, vsc0 := w 2, vcfg0 := w 3
    xdecl := (w 4).extractLsb' 0 32, vdecl := (w 4).extractLsb' 32 32, kdecl := (w 5).extractLsb' 0 8, zdecl := (w 5).extractLsb' 8 2
    gang := bits (w 5) 16 4, nbar := bits (w 5) 20 8, lmin := bits (w 5) 32 5, lpref := bits (w 5) 40 5
    kspill := (w 5).extractLsb' 48 8, zspill := (w 5).extractLsb' 56 2
    spbytes := bits (w 6) 0 32, xspill := (w 7).extractLsb' 0 32, vspill := (w 7).extractLsb' 32 32
    spill := n 8, sigaddr := bits (w 9) 0 56, sigval := (w 9).extractLsb' 56 8, ctx := bits (w 10) 0 24, prio := bits (w 10) 24 4 }

/-- The code of the VLMAX that an image declares. -/
def Header.vcode (h : Header) : Nat := bits h.vcfg0 35 2

/-- A `vcfg0` that the `vcfg` map makes illegal (R10, R94). -/
def Header.badVcfg (h : Header) : Bool :=
  let v := h.vcfg0
  decide (5 ≤ bits v 16 3) || decide (6 ≤ bits v 19 3) || decide (6 ≤ bits v 24 3) || bits v 29 3 == 0 || bits v 41 23 != 0 ||
  h.vcode == 3 || decide (vlmaxBits h.vcode / sewBits (bits v 16 3) < bits v 0 16)

/-- The image is malformed for a stable of N clusters, offered for context `ctx` (R10). -/
def Header.bad (h : Header) (n ctx : Nat) : Bool :=
  !h.okForm || h.badVcfg || decide (codeLimit n < h.vcode) ||
  !decide (1 ≤ h.gang ∧ h.gang ≤ 8) || decide (64 < h.nbar) || !decide (1 ≤ h.lmin ∧ h.lmin ≤ h.lpref ∧ h.lpref ≤ 16) ||
  decide (n < h.gang * h.lmin) || h.ctx != ctx || h.spbytes % 4096 != 0 || decide (524288 < h.spbytes) ||
  h.xdecl.getLsbD 0 || h.kdecl.getLsbD 0 ||
  h.xspill &&& ~~~h.xdecl != 0#32 || h.vspill &&& ~~~h.vdecl != 0#32 || h.kspill &&& ~~~h.kdecl != 0#8 || h.zspill &&& ~~~h.zdecl != 0#2 ||
  (badTarget h.entry).isSome || h.spill % 128 != 0 ||
  (h.spill == 0 && (h.xspill != 0#32 || h.vspill != 0#32 || h.kspill != 0#8 || h.zspill != 0#2)) ||
  h.sigaddr % 8 != 0 || (h.sigaddr != 0 && h.sigval == 0#8)

/-! ## The context entry (R38) -/

/-- A launch unit finds a context valid: the first time since power good its generation floor starts at 0 (R38, R19). -/
def State.createContext (s : State) (ctx : Nat) : State :=
  if s.created.contains ctx then s
  else { s with created := ctx :: s.created, floors := dropBy (fun p : Nat × Nat => p.1 == ctx) s.floors }

/-- A context's entry read by physical address (R38): its page-table root where it is valid, and its sixteen doublewords where it is
usable. -/
def State.usableEntry (s : State) (die ctx : Nat) : Option Word × Option (List Word) × State :=
  match s.ctxEntry die ctx with
  | none => (none, none, s)
  | some pa =>
    match s.entryRead die ctx pa 128 with
    | (none, t) => (none, none, t)
    | (some v, t) =>
      let e := (countFrom 0 16).map (fun i => BitVec.ofNat 64 (v / 2 ^ (64 * i)))
      let w (i : Nat) : Word := (nth e i).getD 0#64
      let t := if bit (w 0) 0 then t.createContext ctx else t
      let bad := w 0 != 1#64 || bits (w 2) 32 32 != 0 || bit (w 5) 2 || (countFrom 12 4).any (fun i => bit (w i) 16)
      (if bit (w 0) 0 then some (w 1) else none, if bad then none else some e, t)

/-- The control registers that a launch sets (R12): the context's images load as groom-mode writes would (R38), and the preferred count
stands within the `n` live clusters (R53, log 71). -/
def launchCsrs (h : Header) (e : List Word) (gang member n : Nat) : Csrs :=
  let w (i : Nat) : Word := (nth e i).getD 0#64
  let on2 (b : Bool) : Nat := if b then 2 else 0
  let st := setBits (setBits 0x10#64 5 2 (on2 (h.vdecl != 0#32 || h.kdecl != 0#8))) 7 2 (on2 (h.zdecl != 0#2))
  let c : Csrs := { Csrs.reset with
    status := st, vcfg := h.vcfg0, vsc := h.vsc0, gang := gang, member := member, leaseMin := h.lmin, leasePref := min h.lpref n
    ctxid := BitVec.ofNat 64 h.ctx }
  let c := (((((c.write 0x50 (w 1) 0#64).write 0x52 (w 2) 0#64).write 0x30 (w 3) 0#64).write 0x31 (w 4) 0#64).write 0x32 (w 5) 0#64).write 0x33 (w 6) 0#64
  let c := c.write 1 (w 7) 0#64
  let c := (countFrom 0 4).foldl (fun c i => c.write (0x38 + i) (w (8 + i)) 0#64) c
  (countFrom 0 4).foldl (fun c i => c.write (0x3C + i) (w (12 + i)) 0#64) c

/-! ## Launch requests (R39) -/

/-- A launch request (R39). -/
structure Request where
  image  : Nat
  ctx    : Nat
  stable : Nat
  die    : Nat
  node   : Nat
  stray  : Bool

/-- The control doubleword of a launch request: busy and result, of the groom form or of a port's window. -/
def State.setRequest (s : State) (host : Bool) (n : Nat) (busy : Bool) (result : Nat) : State :=
  let v := busy.toNat * 2 + result * 4
  if host then
    let p := s.portAt n
    s.putPort { p with launch := p.launch.take 24 ++ toBytes 8 v }
  else
    let d := s.dieAt n
    s.putDie { d with pad := d.pad.writeN 600 8 v }

/-- The three doublewords of the launch request that stands in a groom core's scratchpad or in a port's window. -/
def State.requestWords (s : State) (host : Bool) (n : Nat) : List Nat :=
  (countFrom 0 3).map (fun i => if host then ofBytes (((s.portAt n).launch.drop (8 * i)).take 8) else (s.dieAt n).pad.readN (576 + 8 * i) 8)

/-- A launch request from its doublewords (R39). -/
def requestFrom (host : Bool) (n : Nat) (l : List Nat) : Request :=
  let w (i : Nat) : Nat := (nth l i).getD 0
  { image := w 0, ctx := w 1 % 2 ^ 24, stable := w 1 / 2 ^ 24 % 64, die := if host then w 1 / 2 ^ 30 % 8 else n, node := w 2
    stray := w 1 / 2 ^ 33 != 0 }

/-- The launch request that stands in a groom core's scratchpad or in a port's window. -/
def State.requestOf (s : State) (host : Bool) (n : Nat) : Request := requestFrom host n (s.requestWords host n)

/-- The request that has been taken of a groom core or through a port, and is under way. -/
def State.takenRequest (s : State) (host : Bool) (n : Nat) : Option TakenLaunch :=
  findBy (fun q : TakenLaunch => q.host == host && q.n == n) s.taken

/-- A request is taken: the context's entry is read, and what the request says is fixed (R39, R38). -/
def State.takeRequest (s : State) (host : Bool) (n : Nat) : TakenLaunch × State :=
  let r := s.requestOf host n
  let (root, entry, t) := s.usableEntry r.die r.ctx
  let q : TakenLaunch := { host := host, n := n, words := s.requestWords host n, root := root, entry := entry }
  (q, { t with taken := q :: t.taken })

/-- The graph and index of the compute node at an address under a context, if it waits for its admission (R39). -/
def State.findNode (s : State) (ctx va : Nat) : Option (Nat × Nat) :=
  match findBy (fun g : Graph => g.ctx == ctx && decide (g.nodes ≤ va) && (va - g.nodes) % 64 == 0 && decide ((va - g.nodes) / 64 < g.count)) s.graphs with
  | some g =>
    let n := (va - g.nodes) / 64
    if anyBy (fun p : Nat × Nat => p.1 == n) g.offered || anyBy (fun p : Nat × Nat => p.1 == n) g.ready then some (g.n, n) else none
  | none => none

/-- The node that a request names is a READY compute node (R39 step 1): none where it is not. It is read under the root of the context's
entry. -/
def State.requestNode (s : State) (r : Request) (root : Option Word) : Res (Option (Option (Nat × Nat))) :=
  if r.node = 0 then .ok (some none) s
  else
    match s.findNode r.ctx r.node with
    | none => .ok none s
    | some p =>
      match s.graphAt p.1, root with
      | some g, some root =>
        match s.readNode (unitWho r.die r.ctx root) g p.2 with
        | .ok q s => .ok (if q.type = 1 ∧ q.state = 1 then some (some p) else none) s
        | .stop _ s => .ok none s
        | .wait s => .wait s
      | _, _ => .ok none s

/-- The free control cores of a stable, in ascending order. -/
def State.freeCores (s : State) (t : Nat) : List Nat :=
  (countFrom (8 * t) 8).filter (fun id => match s.findHart id with | some h => h.run == .off && h.job.isNone | none => true)

/-- The arbiter can take a gang in now (R54). -/
def State.admissible (s : State) (t : Nat) (h : Header) : Bool :=
  let st := s.stableAt t
  decide (s.minSum t + h.gang * h.lmin ≤ st.live) && decide (h.gang ≤ (s.freeCores t).length) &&
  s.banksFit t (h.gang * extraBanks h.vcode) &&
  decide (sumBy (fun j : Job => if j.stable = t then j.spbytes else 0) s.jobs + h.spbytes ≤ 524288)

/-- The number of the next gang: the next that no live gang has (R99). -/
def State.freeGang (s : State) : Nat :=
  (findBy (fun g : Nat => (s.jobAt g).isNone) ((countFrom s.nextGang (s.jobs.length + 1)).map (· % 2 ^ 24))).getD s.nextGang

/-- A gang admitted: its job, and its harts, not yet started (R12, R54). -/
def State.admitOne (s : State) (t image : Nat) (root : Word) (h : Header) (e : List Word) (node : Option (Nat × Nat)) : State :=
  let gang := s.freeGang
  let cores := (s.freeCores t).take h.gang
  let n := (s.stableAt t).live
  let before := s.banksUsed t
  let s := { s with clock := s.clock + 1, nextGang := (gang + 1) % 2 ^ 24 }
  let job : Job :=
    { gang := gang, stable := t, image := image, ctx := h.ctx, pgroot := root, prio := h.prio, xdecl := h.xdecl, vdecl := h.vdecl,
      kdecl := h.kdecl, zdecl := h.zdecl, nbar := h.nbar, spbytes := h.spbytes, lmin := h.lmin, xspill := h.xspill,
      vspill := h.vspill, kspill := h.kspill, zspill := h.zspill, spill := h.spill, sigaddr := h.sigaddr, sigval := h.sigval,
      node := node, phase := 0, arrived := 0#8, mask := BitVec.ofNat 8 (2 ^ h.gang - 1), pad := [], vcode := h.vcode, ending := false
      members := ((countFrom 0 h.gang).zip cores).map (fun p => ({ n := p.1, hart := p.2, launched := true, halted := false } : Member)) }
  let s := { s with jobs := s.jobs ++ [job], pending := s.pending ++ [gang] }
  let s := ((countFrom 0 h.gang).zip cores).foldl (fun t p =>
    t.putHart { Hart.reset p.2 with
      pc := h.entry, job := some gang, age := s.clock, csr := launchCsrs h e gang p.1 n }) s
  (((s.retarget t).dealFree t).moveBanks t before).push [.admissionGranted (s.pending.length - 1)]

/-- The declared registers of a bitmap in ascending order. -/
def declared {n : Nat} (b : BitVec n) : List Nat := (countFrom 0 n).filter (fun i => b.getLsbD i)

/-- The next 128-byte boundary. -/
def up128 (a : Nat) : Nat := (a + 127) / 128 * 128

/-- The registers of one section with their offsets, and the offset where the section ends (R11). -/
def fileSection (start size : Nat) (regs : List Nat) : List (Nat × Nat) × Nat :=
  if regs = [] then ([], start)
  else
    let a := up128 start
    (((countFrom 0 regs.length).zip regs).map (fun p => (p.2, a + size * p.1)), a + size * regs.length)

/-- The registers of a record laid out by R11 from `start` on, section by section, and its end. -/
def layout (start vcode : Nat) (x v : BitVec 32) (k : BitVec 8) (z : BitVec 2) :
    List (Nat × Nat) × List (Nat × Nat) × List (Nat × Nat) × List (Nat × Nat) × Nat :=
  let (xs, a) := fileSection start 8 (declared x)
  let (vs, a) := fileSection a (vlmaxBits vcode / 8) (declared v)
  let (ks, a) := fileSection a 1024 (declared k)
  let (zs, a) := fileSection a 65536 (declared z)
  (xs, vs, ks, zs, a)

/-- Registers read from an image in turn, each of `size` bytes. -/
def State.readRegs (s : State) (w : Who) (image size : Nat) : List (Nat × Nat) → Res (List (Nat × Nat))
  | [] => .ok [] s
  | (r, off) :: l =>
    (s.loadBytes w (image + off) size).bind fun bs s =>
      (State.readRegs s w image size l).bind fun t s => .ok ((r, ofBytes bs) :: t) s

/-- The register values that an image holds, each with its register's number (R8, R11). -/
abbrev ImageRegs := List (Nat × Nat) × List (Nat × Nat) × List (Nat × Nat) × List (Nat × Nat)

/-- The registers of an image are read (R8, R11, R12). -/
def State.readImage (s : State) (w : Who) (image vcode : Nat) (x v : BitVec 32) (k : BitVec 8) (z : BitVec 2) : Res ImageRegs :=
  let (xl, vl, kl, zl, _) := layout 0x80 vcode x v k z
  (s.readRegs w image 8 xl).bind fun xs s =>
    (s.readRegs w image (vlmaxBits vcode / 8) vl).bind fun vs s =>
      (s.readRegs w image 1024 kl).bind fun ks s =>
        (s.readRegs w image 65536 zl).bind fun zs s => .ok (xs, vs, ks, zs) s

/-- The report of a malformed image (R10, R39). -/
def State.badImageReport (s : State) (die ctx image : Nat) (node : Option (Nat × Nat)) : State :=
  let s := s.agentEvent 0 0xA9 die ctx (BitVec.ofNat 64 image) 0#64
  match node with
  | some p => s.endNode p false
  | none => s

/-- Steps 3 and 4 of a launch request (R39): the result for a good image. -/
def State.tryAdmit (s : State) (r : Request) (node : Option (Nat × Nat)) (root : Word) (h : Header) (e : List Word) : Res Nat :=
  let t := r.die * 48 + r.stable
  if !s.admissible t h then .ok 1 s
  else
    match node with
    | none => .ok 0 (s.admitOne t r.image root h e none)
    | some p =>
      match s.graphAt p.1 with
      | none => .ok 0 (s.admitOne t r.image root h e none)
      | some g =>
        match s.setNode (unitWho r.die r.ctx root) g p.2 2 with
        | .wait s => .wait s
        | .stop _ s => .ok 3 s
        | .ok _ s => .ok 0 ((s.putGraph (g.run p.2 r.die)).admitOne t r.image root h e node)

/-- Steps 2 to 4 of a launch request (R39), with the context's entry if that is usable: the result. -/
def State.offerImage (s : State) (r : Request) (node : Option (Nat × Nat)) (entry : Option (List Word)) : Res Nat :=
  let t := r.die * 48 + r.stable
  match entry with
  | none => .ok 2 (s.badImageReport r.die r.ctx r.image node)
  | some e =>
    let root := (nth e 1).getD 0#64
    let w := unitWho r.die r.ctx root
    if r.image % 128 ≠ 0 then .ok 2 (s.badImageReport r.die r.ctx r.image node)
    else
      match s.loadWords w r.image 16 with
      | .wait s => .wait s
      | .stop _ s => .ok 2 (s.badImageReport r.die r.ctx r.image node)
      | .ok d s =>
        let h := header d
        if h.bad (s.stableAt t).live r.ctx then .ok 2 (s.badImageReport r.die r.ctx r.image node)
        else
          match s.readImage w r.image h.vcode h.xdecl h.vdecl h.kdecl h.zdecl with
          | .wait s => .wait s
          | .stop _ s => .ok 2 (s.badImageReport r.die r.ctx r.image node)
          | .ok _ s => s.tryAdmit r node root h e

/-- A request ends with a result (R39). -/
def State.endRequest (s : State) (host : Bool) (n result : Nat) : State :=
  { s.setRequest host n false result with taken := dropBy (fun q : TakenLaunch => q.host == host && q.n == n) s.taken }

/-- A request that has been taken goes through the steps of R39; where a read of its node or its image waits to be serviced it is tried again
from there, its words and its context's entry as they were when it was taken. -/
def State.serveRequest (s : State) (q : TakenLaunch) : Answer :=
  let r := requestFrom q.host q.n q.words
  match (s.requestNode r q.root).bind fun p t =>
    match p with
    | none => .ok 3 t
    | some node => t.offerImage r node q.entry with
  | .ok k t => .next (t.endRequest q.host q.n k)
  | .stop _ t => .next (t.endRequest q.host q.n 3)
  | .wait t => .next (s.keepAttempt t true)

/-- `LAUNCH_REQUEST_GO` (R39): of the groom core of die `n`, or of port `n`'s LAUNCH window. A request that is under way goes on (R36 lets it end
with whom it began). -/
def execLaunchRequestGo (host : Bool) (n : Nat) (s : State) : Answer :=
  if (host && decide (2 ≤ n)) || decide (6 ≤ n) then .next s
  else
    match s.takenRequest host n with
    | some q => s.whenRuns (requestFrom host n q.words).die (s.serveRequest q)
    | none =>
      if host && !s.hostFn 0 then .next (s.logPort n (dieRecord 1 0 (3 * n) 0x318 0))
      else
        let r := s.requestOf host n
        s.whenRuns r.die <|
        if r.stray || decide (48 ≤ r.stable) || decide (6 ≤ r.die) then .next (s.setRequest host n false 3)
        else
          let (q, t) := (s.setRequest host n true 0).takeRequest host n
          t.serveRequest q

/-! ## The start of a gang (R11, R12) -/

/-- An image's register values in a hart (R12). -/
def Hart.loadRegs (h : Hart) (xs vs ks zs : List (Nat × Nat)) : Hart :=
  let h := xs.foldl (fun h p => h.setX (BitVec.ofNat 5 p.1) (BitVec.ofNat 64 p.2)) h
  let h := vs.foldl (fun h p => { h with v := h.v.setIfInBounds p.1 (BitVec.ofNat 65536 p.2) }) h
  let h := ks.foldl (fun h p => { h with k := h.k.setIfInBounds p.1 (BitVec.ofNat 8192 p.2) }) h
  zs.foldl (fun h p =>
    { h with
      z := h.z.setIfInBounds p.1 (BitVec.ofNat 524288 p.2)
      zchk := h.zchk.setIfInBounds p.1 (BitVec.ofNat 524288 p.2) }) h

/-- A hart that its job releases: its control core is free. -/
def State.freeHart (s : State) (id : Nat) : State :=
  let s : State := { s with coh.links := dropBy (fun l : Link => l.hart == id) s.links }
  if s.hart.id = id then { s with hart := Hart.reset id } else { s with others := dropBy (fun h : Hart => h.id == id) s.others }

/-- A job and its harts are gone: cores, clusters, register storage and scratchpad are free, and the arbiter deals again (R55). -/
def State.dropJob (s : State) (j : Job) : State :=
  let s := j.members.foldl (fun t m => t.freeHart m.hart) s
  let s := { s with
    jobs := dropBy (fun k : Job => k.gang == j.gang) s.jobs
    pending := dropBy (fun g : Nat => g == j.gang) s.pending }
  ((s.retireClusters j.stable).retarget j.stable).dealFree j.stable

/-- The launch unit invalidates the instruction cache of the stable that it loads: what it may hold of the code has no range in the
rules, so no copy stays (R67, log 28). -/
def State.freshCode (s : State) (stable : Nat) : State :=
  let t := s.stableAt stable
  if t.icache.isEmpty then s else s.putStable { t with icache := [] }

/-- `ADMISSION_GRANTED` (R12, R54): gang `r` of those admitted starts once each hart holds its minimum, as it stands after clusters have been
retired (R216). The register lines of the image are read now, and these values are loaded; a fault of this read ends the job as a malformed
image, after its request has ended with result 0 (R16, log 70). -/
def execAdmissionGranted (r : Nat) (s : State) : Answer :=
  match nth s.pending r with
  | none => .next s
  | some gang =>
    match s.jobAt gang with
    | none => .next s
    | some j => s.whenRuns (j.stable / 48) <|
      let ids := j.members.map (fun m => m.hart)
      let held (id : Nat) : Bool := match s.findHart id with | some h => decide (h.csr.leaseMin ≤ h.csr.grant) | none => false
      if !ids.all held then .next s
      else
        let w := unitWho (j.stable / 48) j.ctx j.pgroot
        match s.readImage w j.image j.vcode j.xdecl j.vdecl j.kdecl j.zdecl with
        | .wait t => .next (s.keepAttempt t true)
        | .stop _ t => .next ((t.badImageReport (j.stable / 48) j.ctx j.image j.node).dropJob j)
        | .ok (xs, vs, ks, zs) t =>
          let t := t.freshCode j.stable
          let t := ids.foldl (fun t id => t.onHartId id (fun h => { h.loadRegs xs vs ks zs with run := .running })) t
          .next { t with pending := dropBy (fun g : Nat => g == gang) t.pending }

/-! ## Halting and completion (R15, R117) -/

/-- `HART_HALT_COMPLETE` (R117, R310, R55): the halted hart leaves the gang barrier, and its clusters go to others. -/
def execHartHaltComplete (h : Nat) (s : State) : Answer :=
  if 2310 ≤ h then .next s
  else
    match s.findHart h with
    | none => .next s
    | some x =>
      match x.job with
      | none => .next s
      | some g =>
        match s.jobAt g with
        | none => .next s
        | some j => s.whenRuns x.die <|
          if !x.idle || anyBy (fun m : Member => m.hart == h && m.halted) j.members then .next s
          else
            let ms := j.members.map (fun m => if m.hart = h then { m with halted := true } else m)
            let k := ({ j with members := ms }).leave x.csr.member
            let t := ((s.putJob k).retarget x.stable).boundary h
            .next (if ms.all (fun m => m.halted) then t.push [.jobComplete g] else t)

/-- The registers of one section stored in turn (R15); the first store that cannot be made ends them. -/
def State.storeRegs (s : State) (w : Who) (base size : Nat) (val : Nat → Nat) : List (Nat × Nat) → Res Unit
  | [] => .ok () s
  | (r, off) :: l => (s.storeBytes w (base + off) (toBytes size (val r))).bind fun _ s => State.storeRegs s w base size val l

/-- The spill record of one hart (R15). -/
def State.spillHart (s : State) (w : Who) (j : Job) (base : Nat) (h : Hart) : Res Unit :=
  let (xl, vl, kl, zl, _) := layout 0 j.vcode j.xspill j.vspill j.kspill j.zspill
  (s.storeRegs w base 8 (fun r => (h.getX (BitVec.ofNat 5 r)).toNat) xl).bind fun _ s =>
  (s.storeRegs w base (vlmaxBits j.vcode / 8) (fun r => (h.getV (BitVec.ofNat 5 r)).toNat) vl).bind fun _ s =>
  (s.storeRegs w base 1024 (fun r => (h.getK (BitVec.ofNat 3 r)).toNat) kl).bind fun _ s =>
    s.storeRegs w base 65536 (fun r => (h.getZ r).toNat) zl

/-- The spill records of the launched harts, from number `n` on (R15). -/
def State.spillAll (s : State) (w : Who) (j : Job) (size : Nat) : List Member → Res Unit
  | [] => .ok () s
  | m :: ms =>
    if !m.launched then State.spillAll s w j size ms
    else
      let h := (s.findHart m.hart).getD (Hart.reset m.hart)
      (s.spillHart w j (j.spill + m.n * size) h).bind fun _ s => State.spillAll s w j size ms

/-- `JOB_COMPLETE` (R15): the spill records, then the signal; a fault on either ends it there with a class 10 record. -/
def execJobComplete (j : Nat) (s : State) : Answer :=
  match s.jobAt j with
  | none => .next s
  | some k =>
    let die := k.stable / 48
    s.whenRuns die <|
    let done := !k.ending && k.members.all (fun m => m.halted && (match s.findHart m.hart with | some h => h.idle | none => true))
    if !done then .next s
    else
      let w := unitWho die k.ctx k.pgroot
      let (_, _, _, _, size) := layout 0 k.vcode k.xspill k.vspill k.kspill k.zspill
      let fin (ok : Bool) (t : State) : State :=
        let t := match k.node with | some p => t.endNode p ok | none => t
        (t.dropJob k).retryPending
      match (s.spillAll w k (up128 size) k.members).bind fun _ s => s.signal w k.sigaddr k.sigval with
      | .ok _ t => .next (fin true t)
      | .wait t => .next (s.keepAttempt t true)
      | .stop c t => .next (fin false (t.record10 die k.ctx c k.image))

/-- A hart of a job that error recovery ends is pre-empted for good (R363, R356): its oldest entry stops, a recursion saves itself, and
its transfers stop, but for the transfer phase of an `MDRAIN` and what that waits for (R213, R357). -/
def State.endHart (s : State) (id : Nat) : State :=
  let me := s.hart.id
  let t := s.focusOn id
  let t :=
    if t.hart.run = .running then
      let t := t.settle
      let t := if t.hart.qip then t.dropRecursion else t.saveRecursion
      t.onHart (fun h => { h with run := .stopped, queue := [], bridle := (preempted h.bridle).map (fun t => t.frozen true) })
    else t
  t.focusOn me

/-- `JOB_END_BY_RECOVERY` (R363): the harts are pre-empted and, once their drains have ended, released without replay and without a spill; a class 9 record, and after it the
signal. -/
def execJobEndByRecovery (j : Nat) (s : State) : Answer :=
  match s.jobAt j with
  | none => .next s
  | some k =>
    let die := k.stable / 48
    s.whenRuns die <|
    let ids := k.members.map (fun m => m.hart)
    let s := ids.foldl State.endHart s
    let open' := ids.filter (fun id => match s.findHart id with | some h => h.bridle.any (fun t => t.isDrain && !t.held) | none => false)
    if !open'.isEmpty then .next ((s.drainHarts open').push [.jobEndByRecovery j])
    else
    let s :=
      if k.ending then s
      else
        let t := s.logAll { dieRecord 9 0 die k.image 0 with ctx := k.ctx }
        let t := k.members.foldl (fun t m => t.freeHart m.hart) t
        let t := t.putJob { k with ending := true, members := [], spbytes := 0, pad := [] }
        let t := { t with pending := dropBy (fun g : Nat => g == k.gang) t.pending }
        ((t.retireClusters k.stable).retarget k.stable).dealFree k.stable
    let w := unitWho die k.ctx k.pgroot
    let fin (t : State) : State :=
      let t := { t with jobs := dropBy (fun q : Job => q.gang == j) t.jobs }
      (match k.node with | some p => t.endNode p false | none => t).retryPending
    match s.signal w k.sigaddr k.sigval with
    | .ok _ t => .next (fin t)
    | .wait t => .next (s.keepAttempt t true)
    | .stop c t => .next (fin (t.record10 die k.ctx c k.image))

end Sys2Proof.Machine
end

