-- ==== Sys2Proof/Machine/Coherence.lean ====
section
/-! DEFINITION. The coherence protocol as the device steps it (R315 to R324, R329, R332): directories, homes, snoop filters, the host,
page migration (R325 to R327). Accesses themselves take effect at once (log 25); the directories and homes change by these steps. -/

namespace Sys2Proof.Machine

/-! ## Lines and agents (R315 to R317) -/

/-- A line of a page that is moved or has moved answers every request with a moved response, and performs none (R326). -/
def State.movedLine (s : State) (line : Nat) : Bool := anyBy (· == line / 512) s.movedPages

/-- The agents that an invalidation goes to: the pointed ones, or all nine of every marked stable, but not the requester (R318). -/
def DirEntry.others (e : DirEntry) (a : Nat) : List Nat :=
  (if e.crs then ((countFrom 0 48).filter (fun n => e.cv.getLsbD n)).flatMap (fun n => countFrom (9 * n) 9) else e.ptrs).filter (fun b => b != a)

/-- A line leaves an agent's cache; its links there go with a stable cache's (R229). -/
def State.leaveCache (s : State) (die agent line : Nat) : State := { s with coh := s.coh.out (agentCache die agent) line }

/-- A die gives a line up: its caches, its directory entry and its permission; what the directory serves still stands. -/
def State.recallDie (s : State) (die line : Nat) : State := { s with coh := s.coh.recallDie die line }

/-- A line leaves U whole: merged, in I at its home, with no holder (R332); it stays where its merge meets a failing sector (R365). -/
def State.leaveU (s : State) (line : Nat) : Bool × State := s.evictU (homeDie line) line

/-! ## Requests at a directory and at a home (R317 to R322) -/

/-- The permission that a die holds covers a request of one of its agents (R316). -/
def DirEntry.permits (e : DirEntry) (q : LineReq) : Bool :=
  if q.kind = 0 then e.perm != 0 && e.perm != 3 else if q.kind = 1 then e.perm == 2 else e.perm == 3 && e.op == q.kind - 2

/-- The device step by which an agent's request comes to its directory. -/
def LineReq.step (q : LineReq) (die : Nat) : Instr :=
  if q.kind = 0 then .directoryReadRequest die q.who q.line
  else if q.kind = 1 then .directoryWriteRequest die q.who q.line
  else .uRequest die q.who q.line (q.kind - 2)

/-- A line that a die has been granted stands in its L2, and one that an agent has been granted in the agent's cache too (R315, R217). -/
def State.seat (s : State) (die : Nat) (agent : Option Nat) (line : Nat) (st : LineState) : State :=
  let s := s.makeWay (l2Cache die) line
  let s : State := { s with coh.caches := placeLine (l2Cache die) 1 .s line s.caches }
  match agent with
  | none => s
  | some a =>
    let s := s.makeWay (agentCache die a) line
    { s with coh.caches := placeLine (agentCache die a) 1 st line s.caches }

/-- The state in which an agent's cache holds a line that its directory has granted it: a reader that held it already holds it as before. -/
def State.grantedState (s : State) (die : Nat) (q : LineReq) (e : DirEntry) : LineState :=
  if q.kind = 0 then
    match findBy (fun l : CacheLine => l.cache == agentCache die q.who && l.line == q.line) s.caches with
    | some l => l.st
    | none => if e.st = 2 then .e else .s
  else if q.kind = 1 then .m
  else .u

/-- The directory grants once exactly as many acknowledgements have arrived as invalidations were sent and the home has granted as well;
those behind it follow (R318, R321). -/
def State.dirSettle (s : State) (die line : Nat) : State :=
  let e := s.dirAt die line
  match e.ask with
  | none => s
  | some g =>
    if g.due ≠ [] ∨ g.acks ≠ [] ∨ e.recalling.isSome ∨ !e.permits g.req then s
    else
      let d := { e with rest := [] }.grant g.req
      let st := s.grantedState die g.req d
      ((s.putDir d).seat die (some g.req.who) line st).push (e.rest.map (·.step die))

/-- The permission that a die's directory notes when its home has granted a request (R316). -/
def State.notePerm (s : State) (q : LineReq) (h : HomeEntry) : State :=
  let e := s.dirAt q.who q.line
  s.putDir (
    if q.kind = 0 then { e with perm := if h.owner = q.who ∧ (h.state = .e ∨ h.state = .m) then 2 else 1 }
    else if q.kind = 1 then { e with perm := 2 }
    else { e with perm := 3, op := q.kind - 2 })

/-- A line in U, with no partial yet: one starts at the identity with the first accumulation (R329). -/
def State.openU (s : State) (line op : Nat) : State :=
  if anyBy (fun u : ULine => u.line == line) s.ulines then s
  else
    let u : ULine := { line := line, op := op, fscale := 0#8, ctx := 0, win := 0, parts := [], asked := [], got := 0 }
    { s with ulines := u :: s.ulines }

/-- A host's access to device memory once it is granted (R324, R368): one that meets a failing sector completes with an error and no data
(R365). -/
def State.hostAccess (s : State) (port addr : Nat) (write : Bool) (value : Word) : State :=
  match s.dataFault addr 8 write with
  | some (c, cls) => s.contain (dieRecord cls c (addr / dieBytes) addr 0)
  | none =>
    if write then s.physWrite (5000 + port) addr 8 value.toNat
    else
      let (v, t) := s.physRead addr 8
      t.putPort { t.portAt port with reply := BitVec.ofNat 64 v }

/-- The oldest request of a port has ended: those that arrived after it follow. -/
def State.hostDone (s : State) (port : Nat) : State := s.portAgain port 1

/-- The access of the host whose request, the oldest of its port, has been granted is performed (R324). -/
def State.hostPerform (s : State) (port : Nat) : State :=
  match (s.portAt port).pending with
  | q :: _ => (s.hostAccess port q.1 q.2.1 q.2.2).hostDone port
  | [] => s

/-- A request that ends without being performed; a host's completes with an error (R365). -/
def State.dropRequest (s : State) (q : LineReq) : State := if q.who < 6 then s else s.hostDone (q.who - 6)

/-- The holders that an invalidation goes to for a requester (R321, R324): a host holds on for its other port. -/
def HomeEntry.others (e : HomeEntry) (who : Nat) : List Nat :=
  (countFrom 0 7).filter (fun d =>
    if d = 6 then e.ports &&& ~~~portBit who != 0#2 else e.holders.getLsbD d && !(d == who))

/-- The holders that a request has to wait for (R321): the owner, for the data of a read, or every holder but the requester. -/
def HomeEntry.waits (e : HomeEntry) (q : LineReq) : List Nat :=
  if q.kind = 0 then
    match e.state with
    | .e | .m | .o => if e.ownedBy q.who then [] else [e.owner]
    | _ => []
  else e.others q.who

/-- The home grants a request: a die's directory goes on, a host's access is performed. Whether a sole reader gets the line in E is open
(log 102). -/
def State.homeGrant (s : State) (q : LineReq) : State :=
  let e := s.homeAt q.line
  let e' := e.grant q (s.coh.uses + 1) (Config.grantsE s.fresh)
  let s : State := { s with fresh := if q.kind = 0 ∧ e.state = .i then s.fresh + 1 else s.fresh, coh.uses := s.coh.uses + 1 }
  if q.who < 6 then
    let s := s.putHome e'
    let s := ((if 2 ≤ q.kind then s.openU q.line (q.kind - 2) else s).notePerm q e').seat q.who none q.line .s
    s.dirSettle q.who q.line
  else (((s.putHome { e with ask := none }).hostPerform (q.who - 6))).putHome e'

/-- A back-invalidation goes to every remote holder of a line (R322): the request of no requester, 8. A line in U merges first. -/
def State.backInvalidate (s : State) (line : Nat) : State :=
  let (ok, s) := s.leaveU line
  let e := s.homeAt line
  let due := (e.others 8).filter (fun d => d != homeDie line)
  if !ok || due = [] then s else s.putHome { e with ask := some { req := { line := line, kind := 1, who := 8 }, due := due, acks := [] } }

/-- A request that nothing is before, with its entry in the snoop filter: it is granted at once, or waits for invalidations or a forwarded
snoop (R321). One whose merge meets a failing sector ends there (R365). -/
def State.homeServe (s : State) (q : LineReq) : State :=
  let e := s.homeAt q.line
  if e.state = .u ∧ q.kind = e.op + 2 then s.homeGrant q
  else
    let (ok, s) := if e.state = .u then s.leaveU q.line else (true, s)
    if !ok then s.dropRequest q
    else
      let e := s.homeAt q.line
      let e := { e with ports := e.ports ||| portBit q.who }
      let due := e.waits q
      if due = [] then (s.putHome e).homeGrant q else s.putHome { e with ask := some { req := q, due := due, acks := [] } }

/-- The line at whose home a request has to wait behind others: its own while a request is served there, or the one whose entry in the snoop
filter an earlier request for the line waits for (R321, R322). -/
def State.behind (s : State) (line : Nat) : Option HomeEntry :=
  findBy (fun f : HomeEntry => if f.line = line then f.ask.isSome else anyBy (fun q : LineReq => q.line == line) f.rest) s.homes

/-- A request handled by the home of its line (R321): it is served at once, or waits for the request before it or for an entry of the snoop
filter. A line that answers moved responses performs none (R326), and a home whose die is absent serves no die (R324). -/
def State.homeRequest (s : State) (q : LineReq) : State :=
  if !devLine q.line || s.movedLine q.line || (decide (q.who < 6) && decide ((s.dieAt (homeDie q.line)).run ≠ .running)) then s.dropRequest q
  else
    match s.behind q.line with
    | some f =>
      let held := decide (f.line = q.line) && f.remote
      s.putHome { f with ports := if held then f.ports ||| portBit q.who else f.ports, rest := f.rest ++ [q] }
    | none =>
      match if q.who = homeDie q.line ∨ (s.homeAt q.line).remote then none else s.coh.filterVictim q.line with
      | none => s.homeServe q
      | some v =>
        let s := if (s.homeAt v).ask.isSome then s else s.backInvalidate v
        let f := s.homeAt v
        if f.ask.isSome then s.putHome { f with rest := f.rest ++ [q] } else s.homeServe q

/-- A home has still to answer a requester for a line. -/
def State.homePending (s : State) (line who : Nat) : Bool :=
  let is (q : LineReq) : Bool := q.line == line && q.who == who
  anyBy (fun e : HomeEntry => (match e.ask with | some g => is g.req | none => false) || anyBy is e.rest) s.homes

/-- The home's request is complete once nothing more is on its way; those behind it follow (R321). -/
def State.homeSettle (s : State) (line : Nat) : State :=
  let e := s.homeAt line
  match e.ask with
  | none => s
  | some g =>
    if g.due ≠ [] ∨ g.acks ≠ [] then s
    else
      let s :=
        if g.req.who = 8 then s.putHome e.onlyHome
        else
          let s := s.putHome { e with ask := none, rest := [] }
          let (ok, s) := if e.state = .u ∧ g.req.kind ≠ e.op + 2 then s.leaveU line else (true, s)
          if ok then s.homeGrant g.req else s.dropRequest g.req
      e.rest.foldl State.homeRequest s

/-- A directory asks the home again for a request whose permission it has lost meanwhile. -/
def State.askAgain (s : State) (die line : Nat) : State :=
  let e := s.dirAt die line
  match e.ask with
  | some g => if e.permits g.req || s.homePending line die then s else s.homeRequest { g.req with who := die }
  | none => s

/-- A die's recall of a line for its home is complete once every agent has acknowledged: the die gives the line up and answers the home,
by an acknowledgement, or for a forward-for-ownership by the data (R318, R321). -/
def State.recallSettle (s : State) (die line : Nat) : State :=
  match (s.dirAt die line).recalling with
  | none => s
  | some g =>
    if g.due ≠ [] ∨ g.acks ≠ [] then s
    else
      let s := s.recallDie die line
      let s := s.putDir { s.dirAt die line with recalling := none }
      let h := s.homeAt line
      let s := match h.ask with
        | some a =>
          if !a.due.contains die then s
          else
            let left := a.due.filter (fun b => b != die)
            (s.putHome { h with ask := some { a with due := left, acks := if g.req.kind = 1 then a.acks ++ [die] else a.acks } }).homeSettle line
        | none => s
      s.askAgain die line

/-- A die recalls a line from its agents under R318, for an invalidation of the home (1) or a forward-for-ownership (0). -/
def State.startRecall (s : State) (die line kind : Nat) : State :=
  let e := s.dirAt die line
  if e.recalling.isSome then s
  else (s.putDir { e with recalling := some { req := { line := line, kind := kind, who := 432 }, due := e.others 432, acks := [] } }).recallSettle die line

/-- A request of an agent at its die's directory (R317, R318), which asks the home where the die lacks the permission (R321). -/
def State.dirRequest (s : State) (die : Nat) (q : LineReq) : State :=
  let e := s.dirAt die q.line
  if !devLine q.line || s.movedLine q.line then s
  else if e.ask.isSome then s.putDir { e with rest := e.rest ++ [q] }
  else
    let (ok, s) := if e.st = 4 ∧ q.kind ≠ e.op + 2 then s.leaveU q.line else (true, s)
    if !ok then s
    else
      let e := s.dirAt die q.line
      let wait : List Nat :=
        if q.kind = 0 then if (e.st = 2 ∨ e.st = 3) ∧ !(e.ptrs.contains q.who) then e.ptrs else []
        else if q.kind ≠ 1 ∧ e.st = 4 then []
        else e.others q.who
      let s := s.putDir { e with ask := some { req := q, due := wait, acks := [] } }
      let s := s.askAgain die q.line
      let e := s.dirAt die q.line
      match e.ask with
      | some g => if e.permits g.req || s.homePending q.line die then s.dirSettle die q.line else s.putDir { e with ask := none }
      | none => s

/-- A device step of a directory agent (0 to 431) of a die, or of the die as a holder (432), on a line of device memory. -/
def State.onAgent (s : State) (die agent line : Nat) (t : State) : Answer :=
  s.unless (decide (6 ≤ die ∨ 433 ≤ agent) || !devLine line || decide ((s.dieAt die).run ≠ .running)) t

/-- `DIRECTORY_READ_REQUEST` (R317, R321). -/
def execDirectoryReadRequest (die agent line : Nat) (s : State) : Answer :=
  s.onAgent die agent line (if agent = 432 then s.homeRequest { line := line, kind := 0, who := die }
    else s.dirRequest die { line := line, kind := 0, who := agent })

/-- `DIRECTORY_WRITE_REQUEST` (R318, R321). -/
def execDirectoryWriteRequest (die agent line : Nat) (s : State) : Answer :=
  s.onAgent die agent line (if agent = 432 then s.homeRequest { line := line, kind := 1, who := die }
    else s.dirRequest die { line := line, kind := 1, who := agent })

/-- `U_REQUEST` (R329): of a stable cache, or of a die at the home. -/
def execURequest (die agent line op : Nat) (s : State) : Answer :=
  if 13 ≤ op ∨ (agent < 432 ∧ agent % 9 ≠ 8) then .next s
  else
    s.onAgent die agent line (if agent = 432 then s.homeRequest { line := line, kind := 2 + op, who := die }
      else s.dirRequest die { line := line, kind := 2 + op, who := agent })

/-- An invalidation has reached one it was sent to, which acknowledges (R318). -/
def Grant.reach (g : Grant) (a : Nat) : Grant :=
  if g.due.contains a then { g with due := g.due.filter (fun b => b != a), acks := g.acks ++ [a] } else g

/-- An acknowledgement has arrived (R318). -/
def Grant.acked (g : Grant) (a : Nat) : Grant := { g with acks := g.acks.filter (fun b => b != a) }

/-- A request whose recipients are sent invalidations: every one but a read, which goes to the owner as a forwarded snoop (R318, R321). -/
def Grant.invalidates (g : Grant) : Bool := g.req.kind != 0

/-- Invalidations of a directory's own, for a request or for a recall (R318). -/
def DirEntry.onInvalidations (e : DirEntry) (f : Grant → Grant) : DirEntry :=
  { e with ask := e.ask.map (fun g => if g.invalidates then f g else g), recalling := e.recalling.map f }

/-- An invalidation is on its way to the agent. -/
def DirEntry.invalidates (e : DirEntry) (a : Nat) : Bool :=
  (match e.ask with | some g => g.invalidates && g.due.contains a | none => false) || (match e.recalling with | some g => g.due.contains a | none => false)

/-- `INVALIDATION` (R318, R321): the recipient gives the line up, whether or not it held it, and acknowledges; a die recalls it from its
agents first. -/
def execInvalidation (die agent line : Nat) (s : State) : Answer :=
  s.onAgent die agent line (
    if agent = 432 then
      match (s.homeAt line).ask with
      | some g => if g.invalidates && g.due.contains die then s.startRecall die line 1 else s
      | none => s
    else
      let e := s.dirAt die line
      if e.invalidates agent then (s.putDir (e.onInvalidations (·.reach agent))).leaveCache die agent line else s)

/-- `INVALIDATION_ACK` (R318, R321). -/
def execInvalidationAck (die agent line : Nat) (s : State) : Answer :=
  s.onAgent die agent line (
    if agent = 432 then
      let e := s.homeAt line
      (s.putHome { e with ask := e.ask.map (·.acked die) }).homeSettle line
    else
      (((s.putDir ((s.dirAt die line).onInvalidations (·.acked agent))).recallSettle die line).dirSettle die line).askAgain die line)

/-- A notice meets acknowledgements that are awaited (R319). -/
def DirEntry.awaits (e : DirEntry) : Bool := e.recalling.isSome || (match e.ask with | some g => g.invalidates && (g.due != [] || g.acks != []) | none => false)

/-- See `DirEntry.awaits`. -/
def HomeEntry.awaits (e : HomeEntry) : Bool := match e.ask with | some g => g.invalidates | none => false

/-- A line that leaves a stable cache, or the die, is in U there (R331): by its directory, its home, or a partial. -/
def State.heldInU (s : State) (die agent line : Nat) : Bool :=
  let e := s.dirAt die line
  let h := s.homeAt line
  let part (p : UPart) : Bool := if agent = 432 then p.die == die else p.stable == die * 48 + agent / 9
  let named := if agent = 432 then e.st == 4 || e.perm == 3 || (h.state == .u && h.holders.getLsbD die)
    else e.st == 4 && (if e.crs then e.cv.getLsbD (agent / 9) else e.ptrs.contains agent)
  (agent == 432 || agent % 9 == 8) && (named || anyBy (fun u : ULine => u.line == line && anyBy part u.parts) s.ulines)

/-- One that has given a line up no longer answers for the data of a read (R321). -/
def Grant.gone (g : Grant) (a : Nat) : Grant := if g.invalidates then g else { g with due := g.due.filter (fun b => b != a) }

/-- A die has evicted a line: its home takes the notice, unless it awaits acknowledgements, and a read that waits for the die's data goes on
with memory's (R319, R321). -/
def State.dieEvicts (s : State) (die line : Nat) : State :=
  let s := s.recallDie die line
  let e := s.homeAt line
  if e.awaits then s else (s.putHome { e.without die with ask := e.ask.map (·.gone die) }).homeSettle line

/-- An agent has evicted a line: its directory takes the notice, unless it awaits acknowledgements (R317, R319). -/
def State.agentEvicts (s : State) (die agent line : Nat) : State :=
  if (s.dirAt die line).awaits then s.leaveCache die agent line
  else
    let s : State := { s with coh := s.coh.leaveAgent die agent line }
    let e := s.dirAt die line
    (s.putDir { e with ask := e.ask.map (·.gone agent) }).dirSettle die line

/-- `EVICTION_NOTICE` (R317, R319): dropped in coarse mode and while acknowledgements are awaited. A line in U merges, and stays where that
meets a failing sector (R331, R365); a line pinned in the L2 is not evicted from it (R221). -/
def execEvictionNotice (die agent line : Nat) (s : State) : Answer :=
  s.onAgent die agent line (
    if agent = 432 && s.pinnedIn (l2Cache die) line then s
    else
      let (ok, s) := if s.heldInU die agent line then s.leaveU line else (true, s)
      if !ok then s else if agent = 432 then s.dieEvicts die line else s.agentEvicts die agent line)

/-- The owner of a line gives its data to a reader and keeps it, shared; one that has written it in E held it dirty (R321). -/
def State.snooped (s : State) (die line : Nat) : State :=
  let e := s.homeAt line
  let st : HomeState := if e.state = .e ∧ (s.dirAt die line).st = 3 then .m else e.state
  let s : State := { s with coh := s.coh.share die line }
  let s := s.putDir { s.dirAt die line with perm := 1 }
  s.putHome { e with state := st, ask := e.ask.map (·.gone die) }

/-- `FORWARD_SNOOP` (R321): the owner sends the data to the requester. For a read it keeps the line, shared; for a write its die recalls the
line and gives it up. -/
def execForwardSnoop (die agent line : Nat) (s : State) : Answer :=
  s.onAgent die agent line (
    if agent = 432 then
      let e := s.homeAt line
      match e.ask with
      | some g =>
        if !g.due.contains die then s
        else if g.req.kind = 0 then ((s.snooped die line).homeSettle line).askAgain die line
        else if g.req.who ≠ 8 ∧ e.owner = die ∧ (e.state = .e ∨ e.state = .m ∨ e.state = .o) then s.startRecall die line 0
        else s
      | none => s
    else
      match (s.dirAt die line).ask with
      | some g =>
        if g.invalidates || !g.due.contains agent then s
        else
          let s : State := { s with coh := s.coh.share die line }
          (s.putDir { s.dirAt die line with ask := some (g.gone agent) }).dirSettle die line
      | none => s)

/-- An agent's cache holds a line dirty. -/
def State.dirtyIn (s : State) (die agent line : Nat) : Bool :=
  anyBy (fun l : CacheLine => l.cache == agentCache die agent && l.line == line && l.st == .m) s.caches

/-- `WRITE_BACK` (R321): a holder that evicts a dirty line writes it to its home, and the home writes memory; a line pinned in the L2 is not
evicted from it (R221). -/
def execWriteBack (die agent line : Nat) (s : State) : Answer :=
  s.onAgent die agent line (
    if agent = 432 then
      let e := s.homeAt line
      let dirty := e.state == .m || e.state == .o || (e.state == .e && (s.dirAt die line).st == 3)
      if s.pinnedIn (l2Cache die) line || e.ask.isSome || e.owner != die || !dirty then s else s.dieEvicts die line
    else if s.coh.quiet line && s.dirtyIn die agent line then s.agentEvicts die agent line
    else s)

/-- `BACK_INVALIDATION` (R322). -/
def execBackInvalidation (line : Nat) (s : State) : Answer :=
  .next (if !devLine line || (s.homeAt line).ask.isSome then s else s.backInvalidate line)

/-! ## The host (R323, R324) -/

/-- A line without the copies of a port's host (R320, R324): holder 6 goes with the last port. -/
def HomeEntry.withoutPort (e : HomeEntry) (port : Nat) : HomeEntry :=
  let p := e.ports &&& ~~~(1#2 <<< port)
  if e.ports = 0#2 then e else if p = 0#2 then { e.without 6 with ports := p } else { e with ports := p }

/-- A port's host has given its copy of a line up, or lost it with its link (R324). -/
def State.portGone (s : State) (port line : Nat) : State :=
  let e := s.homeAt line
  let f := if e.state = .u then e else e.withoutPort port
  let left (g : Grant) : Bool := f.ports &&& ~~~portBit g.req.who == 0#2
  (s.putHome { f with ask := e.ask.map (fun g => if left g then { g with due := g.due.filter (fun b => b != 6) } else g) }).homeSettle line

/-- A port has answered a back-invalidate snoop (R324): for a read of another the host, as the owner, gives the data and keeps the line,
shared (R320, R321); for anything else it gives the line up. -/
def State.portAnswered (s : State) (port line : Nat) : State :=
  let e := s.homeAt line
  match e.ask with
  | some g =>
    if g.invalidates then s.portGone port line
    else if e.ports.getLsbD port && portBit g.req.who != 1#2 <<< port then (s.putHome { e with ask := some (g.gone 6) }).homeSettle line
    else s
  | none => s.portGone port line

/-- `BISNP_RESPONSE` (R324). -/
def execBisnpResponse (port line : Nat) (s : State) : Answer := if 2 ≤ port then .next s else .next (s.portAnswered port line)

/-- `HOST_SNOOP` (R323): the port's buffer answers by itself and gives the line up, whatever the compute dies do; what it held stands in
host memory. -/
def execHostSnoop (port line : Nat) (s : State) : Answer :=
  if 2 ≤ port then .next s
  else .next { s with coh := s.coh.out (hostBuffer port) line }

/-- A copy that a cache-base die grants is recorded; a full table back-invalidates the oldest line (R324). A copy granted exclusively is
the only one. -/
def Die.record (d : Die) (line port : Nat) (excl : Bool) : Die :=
  let l := if excl then dropBy (fun e : Nat × Nat × Bool => e.1 == line) d.table
    else (dropBy (fun e : Nat × Nat × Bool => e.1 == line && e.2.1 == port) d.table).map (fun e => if e.1 = line then (e.1, e.2.1, false) else e)
  { d with table := (if 1048576 ≤ l.length then l.drop 1 else l) ++ [(line, port, excl)] }

/-- `HOST_CXL_REQUEST` (R324): a doubleword of device memory read or written; the request enters the home as holder 6, and is performed
when it is granted. A port's requests and wakes are performed in the order of their arrival (R312). Before `ready` a write is discarded and recorded,
and a read returns all-ones (R47). While the compute die is absent its cache-base die serves it. A line that answers moved responses
performs nothing (R326). -/
def execHostCxlRequest (port : Nat) (write : Bool) (addr : Nat) (value : Word) (s : State) : Answer :=
  if 2 ≤ port ∨ deviceTop < addr + 8 then .next s
  else
    let p := s.portAt port
    let line := addr / 128
    let die := homeDie line
    if !p.up then .next s
    else if !s.ready then
      .next (if write then s.logPort port (dieRecord 1 0 (3 * port) addr 0) else s.putPort { p with reply := BitVec.allOnes 64 })
    else if p.blocked then .next (s.putPort { p with behind := p.behind ++ [.hostCxlRequest port write addr value] })
    else if (s.dieAt die).run ≠ .running then .next ((s.putDie ((s.dieAt die).record line port write)).hostAccess port addr write value)
    else .next ((s.putPort { p with pending := [(addr, write, value)] }).homeRequest { line := line, kind := if write then 1 else 0, who := 6 + port })

/-! ## Merging by steps (R332, R333) -/

/-- The dies that hold partials of a line, in ascending order. -/
def ULine.dies (u : ULine) : List Nat := (countFrom 0 6).filter (fun d => u.parts.any (fun p => p.die == d))

/-- A die's partials folded in ascending stable number into one (R332 step 2), and whether a fold overflowed. -/
def ULine.foldOn (u : ULine) (die : Nat) : ULine × Bool :=
  let mine := u.parts.filter (fun p => p.die == die)
  match mine with
  | [] => (u, false)
  | p :: _ =>
    let t := accTarget u.op
    let vals := (countFrom 0 (128 / t)).map (fun i => (i * t, (foldDie u.op (i * t) mine).getD (accIdentity u.op, false)))
    let one : UPart := { stable := p.stable, cells := vals.map (fun v => (v.1, v.2.1)) }
    ({ u with parts := insertPart one (u.parts.filter (fun q => q.die != die)), asked := u.asked ++ [die] }, vals.any (fun v => v.2.2))

/-- `MERGE_REQUEST` (R332, R333): the lowest holding die that has not been asked gives up its partial. -/
def execMergeRequest (line : Nat) (s : State) : Answer :=
  match findBy (fun u : ULine => u.line == line) s.ulines with
  | none => .next s
  | some u =>
    match findBy (fun d => !u.asked.contains d) u.dies with
    | none => .next s
    | some d =>
      let (v, ov) := u.foldOn d
      let key := (u.ctx, u.win)
      .next { s with
        ulines := putBy (fun w : ULine => w.line == line) v s.ulines
        satf := if ov && u.op == 12 then putBy (fun k => k == key) key s.satf else s.satf }

/-- `MERGE_RESPONSE` (R332): a die's result arrives; after the last the line leaves U, unless a sector of it is failing (R365). -/
def execMergeResponse (line : Nat) (s : State) : Answer :=
  match findBy (fun u : ULine => u.line == line) s.ulines with
  | none => .next s
  | some u =>
    if u.asked.length ≤ u.got then .next s
    else
      let v := { u with got := u.got + 1 }
      .next (if v.got < u.dies.length then { s with ulines := putBy (fun w : ULine => w.line == line) v s.ulines } else (s.leaveU line).2)

/-! ## Page migration (R325 to R327) -/

/-- What the home has sent for a request is answered at once: invalidations by every die that has still to, a read's snoop by the owner. -/
def State.answerAll (s : State) (line : Nat) (g : Grant) : State :=
  let s := g.due.foldl (fun t d => if 6 ≤ d then t else if g.invalidates then t.recallDie d line else t.snooped d line) s
  (s.putHome { s.homeAt line with ask := some { g with due := [], acks := [] } }).homeSettle line

/-- The requests for a line that have reached its home are performed, at most `n` steps of them, those among them that wait for an entry of
the snoop filter (R326). -/
def State.finishLine (s : State) (line : Nat) : Nat → State
  | 0 => s
  | n + 1 =>
    match s.behind line with
    | none => s
    | some f =>
      match f.ask with
      | none => s
      | some g => State.finishLine (s.answerAll f.line g) line n

/-- Every holder of a line gives it up, and what the dies' directories serve for it ends: its agents ask again. -/
def State.recallAll (s : State) (line : Nat) : State :=
  let s := (countFrom 0 6).foldl (fun t d =>
    let t := t.recallDie d line
    t.putDir { t.dirAt d line with ask := none, rest := [], recalling := none }) s
  s.putHome { (s.homeAt line).toI with ask := none, rest := [] }

/-- The 32-byte sectors from `dst` on fail as those from `src` on do (R365). -/
def State.copyFailing (s : State) (src dst : Nat) (n : Nat) : State :=
  let bad := (countFrom 0 n).filter (fun k => s.failsAt (src + 32 * k) 32)
  { s with failing := bad.foldl (fun f k => putBy (fun q : Nat => q == dst / 32 + k) (dst / 32 + k) f) s.failing }

/-- A line copied to its new page (R326): the requests before the copy are performed, its holders are recalled, a line in U is merged, a
failing sector stays failing (R365), and the new home holds the line in I. What the new line held in U is overwritten. -/
def State.moveLine (s : State) (die src dst : Nat) : State :=
  let a := src / 128
  let s := s.finishLine a (4 * (s.homes.length + sumBy (fun e : HomeEntry => e.rest.length) s.homes + 1))
  let s := ((s.leaveU a).2.recallAll a).recallAll (dst / 128)
  let s : State := { s with ulines := dropBy (fun u : ULine => u.line == dst / 128) s.ulines }
  (s.physWrite (4096 + die) dst 128 (s.mem.readN src 128)).copyFailing src dst 4

/-- `MIGRATION_GO` (R325, R326). A page with a line in U whose merge meets a failing sector is not moved: the line stays in U (R365, log
119). -/
def execMigrationGo (die : Nat) (s : State) : Answer :=
  if 6 ≤ die then .next s
  else
    let pad := (s.dieAt die).pad
    let src := pad.readN 512 8
    let dst := pad.readN 520 8
    let flags (s : State) (v : Nat) : State := let d := s.dieAt die; s.putDie { d with pad := d.pad.writeN 528 8 v }
    if targetOf src != .device die || (match targetOf dst with | .device _ => false | _ => true) then .next (flags s 8)
    else
      let stuck := s.ulines.filter (fun u => u.line / 512 == src / 65536 && (s.dataFault (u.line * 128) 128 true).isSome)
      if stuck ≠ [] then .next (flags (stuck.foldl (fun t u => (t.leaveU u.line).2) s) 0)
      else
        let t := (countFrom 0 512).foldl (fun t i => t.moveLine die (src + 128 * i) (dst + 128 * i)) s
        .next (flags { t with movedPages := putBy (fun q : Nat => q == src / 65536) (src / 65536) t.movedPages } 2)

/-- `MIGRATION_RETIRE` (R325): the page stops answering moved responses. -/
def execMigrationRetire (die : Nat) (s : State) : Answer :=
  if 6 ≤ die then .next s
  else
    let src := (s.dieAt die).pad.readN 512 8 / 65536
    .next { s with movedPages := dropBy (fun q : Nat => q == src) s.movedPages }

/-- `MOVED_RESPONSE` (R327): hart `h` holds its access to the line of virtual address 128 × `line`. -/
def execMovedResponse (h line : Nat) (s : State) : Answer :=
  if 2310 ≤ h then .next s
  else
    .next (s.onHartId h (fun x =>
      if anyBy (fun m : Nat × Nat × Bool => m.1 / 128 == line) x.moved then
        { x with moved := x.moved.map (fun m => if m.1 / 128 = line ∧ !m.2.2 then (m.1, m.2.1 + 1, true) else m) }
      else { x with moved := (line * 128, 1, true) :: x.moved }))

/-! ## A die in reset (R324) -/

/-- The copies that the host holds of lines homed at a die go on standing in its host-holder table (R324, log 105). -/
def State.hostCopies (s : State) (die : Nat) : List (Nat × Nat × Bool) :=
  (s.homes.filter (fun e => homeDie e.line == die)).flatMap (fun e =>
    let excl := e.owner == 6 && (e.state == .m || e.state == .e)
    (if e.ports.getLsbD 0 then [(e.line, 0, excl)] else []) ++ (if e.ports.getLsbD 1 then [(e.line, 1, excl)] else []))

/-- A request that awaits nothing more of a die (R324). -/
def HomeEntry.forget (e : HomeEntry) (die : Nat) : HomeEntry :=
  { e.without die with
    ask := e.ask.bind (fun g => if g.req.who = die then none else
      some { g with due := g.due.filter (fun b => b != die), acks := g.acks.filter (fun b => b != die) })
    rest := e.rest.filter (fun q => q.who != die) }

/-- `DIE_RESET_RECALL` (R324): the die's home recalls every line and writes dirty lines back; its agents give theirs up, and what runs
on the die is lost, the partials among it that a failing sector keeps from merging. Host requests that wait there are made again, and the
cache-base die serves them. -/
def execDieResetRecall (die : Nat) (s : State) : Answer :=
  if 6 ≤ die then .next s
  else
    let homed (l : Nat) : Bool := homeDie l == die
    let s := (s.ulines.filter (fun u => homed u.line || u.parts.any (fun p => p.die == die))).foldl (fun (t : State) u => (t.leaveU u.line).2) s
    let s : State := { s with ulines := s.ulines.map (fun u => { u with parts := u.parts.filter (fun p => p.die != die) }) }
    let s := (s.jobs.filter (fun j => j.stable / 48 == die)).foldl (fun t j => t.dropJob j) s
    let s := s.putHart (Hart.groomReset die)
    let c := s.coh
    let t : State := { (s.putDie { Die.reset die with run := .reset, table := s.hostCopies die }) with
      coh := { c with
        homes := (c.homes.filter (fun e => !homed e.line)).map (fun e => e.forget die)
        dir := dropBy (fun e : DirEntry => e.die == die || homed e.line) c.dir
        caches := dropBy (fun l : CacheLine => cacheDie l.cache == die || homed l.line) c.caches
        links := dropBy (fun l : Link => stableDie l.stable == die || homed l.line) c.links }
      stables := dropBy (fun t : Stable => t.n / 48 == die || t.n == 288 + die || t.n == 300 + die) s.stables
      taken := dropBy (fun q : TakenLaunch => !q.host && q.n == die) s.taken
      pins := dropBy (fun p : Pin => p.die == die) s.pins }
    let t := (t.homes.filter (fun e => e.ask.isSome)).foldl (fun t e => t.homeSettle e.line) t
    .next ([0, 1].foldl (fun t p => if (t.portAt p).pending.head?.any (fun q => homed (q.1 / 128)) then t.portAgain p 0 else t) t)

/-- A recorded copy loaded into the home's snoop filter, where a full set gives up its least recently used entry (R324, R322). -/
def State.loadCopy (s : State) (c : Nat × Nat × Bool) : State :=
  let s := s.filterRoom 6 c.1
  let e := s.homeAt c.1
  let n := s.coh.uses + 1
  let f : HomeEntry := { e with holders := e.holders ||| 0x40#7, ports := e.ports ||| portBit (6 + c.2.1), stamp := n }
  let s : State := { s with coh.uses := n }
  s.putHome (if c.2.2 then { f with state := .m, owner := 6 } else { f with state := if e.state = .i then .s else e.state })

/-- `DIE_RETURN` (R324): the die comes back; the copies that the host was granted meanwhile stand in its snoop filter before it serves
any request. The launch requests that hosts have made of it go on (R39). -/
def execDieReturn (die : Nat) (s : State) : Answer :=
  if 6 ≤ die then .next s
  else
    let d := s.dieAt die
    let waits := s.taken.filter (fun q => q.host && (requestFrom true q.n q.words).die == die)
    let t := d.table.foldl State.loadCopy s
    .next (if d.run = .reset then
        (t.putDie { t.dieAt die with run := .running, table := [] }).push (waits.map (fun q => .launchRequestGo true q.n))
      else s)

end Sys2Proof.Machine
end

