-- ==== Sys2Proof/Machine/HostPorts.lean ====
section
/-! DEFINITION. The host ports (R42 to R46, R366 to R368, R371), the wake and SEAL windows (R41, R45), bring-up, reset and power (R47 to
R49, R324). -/

namespace Sys2Proof.Machine

/-! ## Writes to BAR 0 -/

/-- A write that is ignored is recorded in the log of its port (R44, R366), with its BAR 0 offset. -/
def State.ignored (s : State) (port off : Nat) : State := s.logPort port (dieRecord 1 0 (3 * port) off 0)

/-- The port holds `HSEM` (R44). -/
def State.owns (s : State) (port : Nat) : Bool := s.hsem == port + 1

/-- An event at a host port (log 7). -/
def State.onPort (s : State) (port : Nat) (t : State) : Answer := s.unless (decide (2 ≤ port)) t

/-- A control that takes effect only through the owner of `HSEM`; any other write is ignored and recorded (R42, R44). -/
def State.owned (s : State) (port off : Nat) (f : State → State) : State := if s.owns port then f s else s.ignored port off

/-- Eight bytes of a list of bytes replaced. -/
def putBytes (l : List Byte) (off v : Nat) : List Byte := l.take off ++ toBytes 8 v ++ l.drop (off + 8)

/-- The doubleword at an offset of a list of bytes. -/
def getBytes (l : List Byte) (off : Nat) : Nat := ofBytes ((l.drop off).take 8)

/-- Vector 8: `ready`, `recovery` or `initdone` has changed (R367). -/
def State.statusChanged (s : State) : State :=
  let p := s.portAt 0
  let s := s.putPort { p with msix := p.msix ++ [8] }
  let q := s.portAt 1
  s.putPort { q with msix := q.msix ++ [8] }

/-! ## Reads of BAR 0 (R43 to R46, R366) -/

/-- `ID` of a port (R43). -/
def State.idImage (s : State) (port : Nat) : Nat := 0x5A36 + s.record.step % 256 * 2 ^ 16 + s.record.sku % 256 * 2 ^ 24 + port % 2 * 2 ^ 32

/-- `STATUS` (R43). -/
def State.statusImage (s : State) : Nat :=
  s.ready.toNat + s.fwok.toNat * 2 + s.initdone.toNat * 4 + s.recovery.toNat * 8 + s.stage % 16 * 2 ^ 8 + s.booterr % 16 * 2 ^ 12

/-- `CTRL` (R43): the locks; the write-only fields read zero. -/
def State.ctrlImage (s : State) : Nat := s.winlock.toNat + s.cfglock.toNat * 2 + s.modelock.toNat * 4

/-- The doublewords of `EVENT` (R45): the oldest event, source 0xFF where none is held. -/
def Port.eventWords (p : Port) : List Nat :=
  match p.events with
  | [] => [0xFF]
  | e :: _ =>
    [e.source % 256 + e.cause % 256 * 2 ^ 8 + e.die % 8 * 2 ^ 16 + e.seq % 2 ^ 32 * 2 ^ 32, e.value.toNat, e.ctx % 2 ^ 24, e.detail.toNat]

/-- The doublewords of a record of the error log (R366). -/
def ErrRecord.words (r : ErrRecord) : List Nat :=
  [r.cls % 256 + r.cause % 256 * 2 ^ 8 + r.die % 8 * 2 ^ 16 + r.stable % 64 * 2 ^ 19 + r.seq % 2 ^ 32 * 2 ^ 32, r.addr % 2 ^ 64,
    r.ctx % 2 ^ 24 + r.hart % 2 ^ 12 * 2 ^ 24, r.detail % 2 ^ 64]

/-- A doubleword of the error report block (R366): the record that stands in a slot is the newest that was written there. -/
def Port.errWord (p : Port) (off : Nat) : Nat :=
  if off = 0 then p.errHead % 2 ^ 32 + p.errOvf.toNat * 2 ^ 32
  else if off = 8 then p.errTail % 2 ^ 32
  else if off = 0x10 then p.cethr % 2 ^ 16 + p.linkce % 2 ^ 16 * 2 ^ 16 + p.memce % 2 ^ 16 * 2 ^ 32 + p.sramce % 2 ^ 16 * 2 ^ 48
  else if 0x100 ≤ off ∧ off < 0x900 then
    match findBy (fun r : ErrRecord => r.seq % 64 == (off - 0x100) / 32) p.errs with
    | some r => (nth r.words (off % 32 / 8)).getD 0
    | none => 0
  else 0

/-- A doubleword of the outbound window table (R46). -/
def State.windowWord (s : State) (off : Nat) : Nat :=
  match findBy (fun w : Nat × Word × Word × Word => w.1 == off / 32) s.windows with
  | some (_, b, l, f) => match off % 32 with | 0 => b.toNat | 8 => l.toNat | 16 => f.toNat | _ => 0
  | none => 0

/-- What a read of a doubleword of a port's BAR 0 returns, but for the ownership that a read of `HSEM` takes (R43): an offset that is not
listed reads zero. -/
def State.readRegister (s : State) (port off : Nat) : Word :=
  let p := s.portAt port
  BitVec.ofNat 64 (
    if off % 8 ≠ 0 then 0
    else if off = 0 then s.idImage port
    else if off = 8 then s.statusImage
    else if off = 0x10 then s.hsem
    else if off = 0x18 then s.funcmode.toNat
    else if off = 0x20 then s.ctrlImage
    else if 0x200 ≤ off ∧ off < 0x240 then (nth p.eventWords ((off - 0x200) / 8)).getD 0
    else if 0x300 ≤ off ∧ off < 0x320 then getBytes p.launch (off - 0x300)
    else if 0x400 ≤ off ∧ off < 0x440 then getBytes p.sealWin (off - 0x400)
    else if 0x1000 ≤ off ∧ off < 0x2000 then p.errWord (off - 0x1000)
    else if 0x2000 ≤ off ∧ off < 0x2800 then s.windowWord (off - 0x2000)
    else 0)

/-- `HSEM_READ` (R44): the read returns the owner, and takes the semaphore where there is none. -/
def execHsemRead (port : Nat) (s : State) : Answer :=
  s.onPort port ({ s.putPort { s.portAt port with reply := s.readRegister port 0x10 } with hsem := if s.hsem = 0 then port + 1 else s.hsem })

/-- `HSEM_RELEASE` (R44). -/
def execHsemRelease (port : Nat) (s : State) : Answer := s.onPort port (if s.owns port then { s with hsem := 0 } else s)

/-- `FUNCMODE` written (R36, R43). -/
def State.writeFuncmode (s : State) (value : Word) : State := if s.modelock then s else { s with funcmode := value &&& 0x3F3F#64 }

/-- `FUNCMODE_WRITE` (R36, R43). -/
def execFuncmodeWrite (port : Nat) (value : Word) (s : State) : Answer :=
  s.onPort port (s.owned port 0x18 (fun s => s.writeFuncmode value))

/-- `CTRL_MODELOCK` (R43). -/
def execCtrlModelock (port : Nat) (s : State) : Answer := s.onPort port (s.owned port 0x20 (fun s => { s with modelock := true }))

/-- `CTRL_CFGLOCK` (R37, R43). -/
def execCtrlCfglock (port : Nat) (s : State) : Answer := s.onPort port (s.owned port 0x20 (fun s => { s with cfglock := true }))

/-- `CTRL_WINLOCK` (R43, R46). -/
def execCtrlWinlock (port : Nat) (s : State) : Answer := s.onPort port (s.owned port 0x20 (fun s => { s with winlock := true }))

/-! ## The wake window (R45) -/

/-- A discarded wake: a class 0 record in the port's log, with the tail written (R45, R366). -/
def State.wakeDiscarded (s : State) (port : Nat) (c : Stop) (tail : Nat) : State :=
  s.logPort port (dieRecord 0 c.cause (3 * port) c.tval.toNat tail)

/-- The wake that the bytes of a port's window ask for (R20, R27, R45), and whether it is done: one whose ring header answers a moved
response waits for a TLBINV (R327). -/
def State.windowWake (s : State) (port : Nat) : Bool × State :=
  let p := s.portAt port
  let d (i : Nat) : Word := BitVec.ofNat 64 (getBytes p.wake (8 * i))
  let tail := getBytes p.wake 0x20
  match s.capFails (d 0) (d 1) (d 2) (d 3) [.wake, .host] with
  | some c => (true, s.wakeDiscarded port (stopAt c 0) tail)
  | none =>
    let c := capOf (d 0) (d 1) (d 2) (d 3)
    match s.ringWake { unitWho (3 * port) c.owner 0#64 with service := false } c tail with
    | .ok _ t => (true, t)
    | .stop x t => (true, (s.keepAttempt t false).wakeDiscarded port x tail)
    | .wait t => (false, s.keepAttempt t true)

/-- `WAKE_WINDOW_WRITE` (R45): a doubleword at an offset of the window; the one at +0x20 performs the wake. A port's requests and window
writes are performed in the order of their arrival (R312): behind one that waits it waits. -/
def execWakeWindowWrite (port off : Nat) (value : Word) (s : State) : Answer :=
  s.unless (decide (64 ≤ off ∨ off % 8 ≠ 0 ∨ 2 ≤ port)) (
    let p := s.portAt port
    if p.blocked then s.putPort { p with behind := p.behind ++ [.wakeWindowWrite port off value] }
    else
      let t := if off ≤ 0x20 then s.putPort { p with wake := putBytes p.wake off value.toNat } else s
      if off ≠ 0x20 then t
      else
        match t.windowWake port with
        | (true, u) => u
        | (false, u) => u.putPort { u.portAt port with writes := [(off, value)] })

/-! ## Events (R45, R358) -/

/-- The offered fault of a record answered, of a hart or of a die's units (hart 0xFFF): a retry drops the offer, a raise lets the
access take its cause; an access that has been abandoned has no offer left under that record (R358). -/
def State.answerFault (s : State) (die hart record : Nat) (raise : Bool) : State :=
  let f (l : List Offer) : List Offer :=
    if raise then l.map (fun o => if o.record = record then { o with answer := some true } else o)
    else dropBy (fun o : Offer => o.record == record) l
  if hart = 0xFFF then let d := s.dieAt die; s.putDie { d with offers := f d.offers }
  else s.onHartId (if hart < 2304 then hart else 2304 + die) (fun h => { h with offers := f h.offers })

/-- The steps of a die's units that may go on once a fault has been answered: launches, completions, walkers, copy nodes. -/
def State.retryUnits (s : State) (die : Nat) : State :=
  let jobs := s.jobs.filter (fun j => j.stable / 48 == die)
  let busy := if (s.dieAt die).pad.readN 600 8 / 2 % 2 = 1 then [Instr.launchRequestGo false die] else []
  let hostBusy := (countFrom 0 2).filterMap (fun p => if getBytes (s.portAt p).launch 24 / 2 % 2 = 1 then some (Instr.launchRequestGo true p) else none)
  let rings := ((countFrom 0 s.rings.length).zip s.rings).filterMap (fun r => if r.2.1 = die then some (Instr.graphSubmissionPop r.1) else none)
  let graphs := s.graphs.flatMap (fun g =>
    g.ready.map (fun n => Instr.nodeStart g.n n.1) ++ g.ended.map (fun n => Instr.nodeFinish g.n n.1) ++
    (if g.retry then [Instr.completionPushRetry g.n] else []))
  let copies := (s.dieAt die).copies.map (fun _ => Instr.engineTransferComplete (4096 + die) 0)
  (s.push (busy ++ hostBusy ++ (jobs.filterMap (fun j =>
      if j.ending then some (Instr.jobEndByRecovery j.gang)
      else if j.members.all (fun m => m.halted) then some (Instr.jobComplete j.gang) else none)) ++ rings ++ graphs ++ copies)).retryPending

/-- `TRANSLATION_FAULT_REPLY` (R358): firmware has written the reply of a record. -/
def execTranslationFaultReply (die slot : Nat) (s : State) : Answer :=
  if 6 ≤ die ∨ 32 ≤ slot then .next s
  else
    let pad := (s.dieAt die).pad
    let a := 8192 + 64 * slot
    let w := pad.readN (a + 8) 8
    let reply := (pad.read (a + 16)).toNat
    if reply ≠ 1 ∧ reply ≠ 2 then .next s
    else
      let hart := w / 2 ^ 24 % 4096
      -- the record that stands in the slot
      let posted := ((s.dieAt die).faultAt + 31 - slot) / 32
      let t := if posted = 0 then s else s.answerFault die hart (32 * (posted - 1) + slot) (reply == 2)
      .next (if hart = 0xFFF then t.retryUnits die else t)

/-- What the host's response to an event does: a host-assisted node ends (R31), a translation fault is answered (R358). -/
def State.eventAnswered (s : State) (e : EventRec) (fail : Bool) : State :=
  if e.source = 6 then
    match findBy (fun g : Graph => g.ctx == e.ctx && anyBy (fun p : Nat × Nat => g.va p.1 == e.value.toNat) g.running) s.graphs with
    | some g => s.endNode (g.n, (e.value.toNat - g.nodes) / 64) (!fail)
    | none => s
  else if e.source = 1 then
    let hart := bits e.detail 24 12
    let t := s.answerFault e.die hart e.seq fail
    if hart = 0xFFF then t.retryUnits e.die else t
  else s

/-- `EVENT_POST` (R45): the oldest source that waits posts its event once fewer than 64 are held. -/
def execEventPost (port : Nat) (s : State) : Answer :=
  let p := s.portAt port
  s.onPort port (match p.waiting with
    | [] => s
    | e :: es =>
      if p.events.length < 64 then
        s.putPort { p with
          events := p.events ++ [{ e with seq := p.seq }], waiting := es, seq := (p.seq + 1) % 2 ^ 32, msix := p.msix ++ [e.source] }
      else s)

/-- `EVACK` written (R45): the oldest event's sequence number, with a response, retires it. -/
def State.writeEvack (s : State) (port : Nat) (value : Word) : State :=
  let p := s.portAt port
  match p.events with
  | [] => s
  | e :: es =>
    if e.seq ≠ bits value 0 32 then s
    else
      let t := (s.putPort { p with events := es }).eventAnswered e (bits value 32 8 == 1)
      if p.waiting = [] then t else t.push [.eventPost port]

/-- `EVACK_WRITE` (R45). -/
def execEvackWrite (port : Nat) (value : Word) (s : State) : Answer := s.onPort port (s.writeEvack port value)

/-! ## The SEAL window (R41) -/

/-- The result of a SEAL window operation, in +0x30 [15:8]. -/
def Port.sealResult (p : Port) (res : Nat) : Port := { p with sealWin := putBytes p.sealWin 0x30 (res * 256) }

/-- Sealing by the window: check 1 of R20 without the seal, then the seal into the capability (R41). -/
def State.windowSeal (s : State) (port : Nat) : State :=
  let p := s.portAt port
  let d (i : Nat) : Word := BitVec.ofNat 64 (getBytes p.sealWin (8 * i))
  if !s.hostFn 5 then s.ignored port 0x420
  else if (capOf (d 0) (d 1) (d 2) (d 3)).formOk then
    s.putPort ({ p with sealWin := putBytes p.sealWin 24 (sealOf (Config.sealKey s.epoch) (d 0) (d 1) (d 2)).toNat }.sealResult 0)
  else s.putPort (p.sealResult 0xA5)

/-- Revoking by the window: the floor rises, and `now` shows it (R41, R19). -/
def State.windowRevoke (s : State) (port : Nat) : State :=
  let p := s.portAt port
  let d (i : Nat) : Word := BitVec.ofNat 64 (getBytes p.sealWin (8 * i))
  if !s.hostFn 5 then s.ignored port 0x420
  else
    match s.capFails (d 0) (d 1) (d 2) (d 3) [.admin] with
    | some c => s.putPort (p.sealResult c)
    | none =>
      let c := capOf (d 0) (d 1) (d 2) (d 3)
      let t := s.raiseFloor c.owner (getBytes p.sealWin 0x28 % 65536)
      t.putPort ({ p with sealWin := putBytes p.sealWin 0x38 (t.floorOf c.owner) }.sealResult 0)

/-- `SEAL_WINDOW_SEAL` (R41). -/
def execSealWindowSeal (port : Nat) (s : State) : Answer := s.onPort port (s.windowSeal port)

/-- `SEAL_WINDOW_REVOKE` (R41). -/
def execSealWindowRevoke (port : Nat) (s : State) : Answer := s.onPort port (s.windowRevoke port)

/-! ## Links and power -/

/-- The requests of a host through a port that has gone leave the homes where they are served or wait (R324); those behind them go on. -/
def State.withdraw (s : State) (who : Nat) : State :=
  let t : State := { s with coh.homes := s.homes.map (fun e : HomeEntry => { e with rest := e.rest.filter (fun q => q.who != who) }) }
  let served := t.homes.filter (fun e : HomeEntry => match e.ask with | some g => g.req.who == who | none => false)
  served.foldl (fun (t : State) (e : HomeEntry) =>
    let f := t.homeAt e.line
    f.rest.foldl State.homeRequest (t.putHome { f with ask := none, rest := [] })) t

/-- A port's link goes down (R44, R324): `HSEM` is released if that port owns it, its host's copies and requests are lost, and the
host-line buffer holds no line of that host any more (log 25). -/
def State.linkDrop (s : State) (port : Nat) : State :=
  let t : State := { (s.putPort { s.portAt port with up := false, pending := [] }).withdraw (6 + port) with
    hsem := if s.owns port then 0 else s.hsem }
  let t : State := { t with coh.caches := dropBy (fun c : CacheLine => c.cache == hostBuffer port) t.caches }
  ((t.homes.filter (fun e => e.ports.getLsbD port)).foldl (fun (t : State) (e : HomeEntry) => t.portGone port e.line) t).portAgain port 0

/-- `HOST_LINK_DOWN` (R44, R324). -/
def execHostLinkDown (port : Nat) (s : State) : Answer := s.onPort port (s.linkDrop port)

/-- `IO_DOMAIN_POWER_LOSS` (R323, R324): the port's link drops, and what its registers hold is lost. -/
def execIoDomainPowerLoss (port : Nat) (s : State) : Answer :=
  s.onPort port (((s.putPort { s.portAt port with writes := [], behind := [] }).linkDrop port).putPort { Port.reset port with up := false })

/-- The cells outside device memory: host memory and peer windows. -/
def Memory.outside (m : Memory) : Memory := m.clear 0 deviceTop

/-- What outlasts a loss of power: the counter and the configuration record in flash, the memories of hosts and peers with the checkpoints
that buddies hold, and the model's schedule and counters (R18, R19, R48, R370, R371). -/
def State.afterPower (s t : State) : State :=
  { t with
    epoch := s.epoch, secver := s.secver, record := s.record, mem := s.mem.outside, checkpts := s.checkpts, turns := s.turns,
    laneEager := s.laneEager, fresh := s.fresh, clock := s.clock }

/-- `POWER_GOOD` (R47, R18): everything is as after cold reset, a fresh seal key is drawn, and bring-up is at stage 1. -/
def execPowerGood (s : State) : Answer := .next { s.afterPower State.reset with epoch := s.epoch + 1, stage := 1, bringup := true }

/-- `POWER_LOSS` (R18): the seal key, device memory and all running state are lost. -/
def execPowerLoss (s : State) : Answer :=
  let t := s.afterPower State.reset
  .next { t with
    others := []
    dies := t.dies.map (fun d => { d with run := .stopped })
    ports := t.ports.map (fun p => { p with up := false }) }

/-- A port after a reset that keeps power: its windows and the fields of its error report block have the one reset value that their map
gives (R5, R366); `head` counts the records since power good, and these stay with it (log 89). -/
def Port.warmReset (p : Port) : Port :=
  { p with
    wake := List.replicate 64 0#8, launch := List.replicate 32 0#8, sealWin := List.replicate 64 0#8, writes := [], errTail := 0,
    errOvf := false, sramce := 0, memce := 0, linkce := 0, cethr := 0 }

/-- The state of the compute dies after a reset that keeps power (R47, R324): running jobs are lost, lines in U have merged, the
cache-base dies know the copies that hosts hold and serve what hosts wait for, and the control registers of the host ports are at their reset
values (R5). Dies that a shutdown has stopped stay without power (R372). -/
def State.warmReset (s : State) : State :=
  let m := s.ulines.foldl (fun t u => (t.evictU (homeDie u.line) u.line).2) s
  let t : State := { m with
    hart := Hart.reset 0, others := State.reset.others, jobs := [], stables := []
    dies := State.reset.dies.map (fun d =>
      if (s.dieAt d.n).run = .stopped then { d with run := .stopped } else { d with run := .reset, table := s.hostCopies d.n })
    ports := m.ports.map Port.warmReset
    funcmode := 0#64, modelock := false, cfglock := false, winlock := false, booterr := 0, recovery := false, hsem := 0, windows := []
    rings := [], graphs := [], pending := [], taken := [], pins := []
    coh := { Coherence.reset with caches := m.caches.filter (fun c => decide (hostBuffer 0 ≤ c.cache)), uses := m.coh.uses }
    ulines := [], satf := [], movedPages := [] }
  (t.portAgain 0 0).portAgain 1 0

/-- `CTRL_WRESET` (R47): a warm reset, which repeats stages 4 to 7 and 9; `ready` keeps its value. -/
def execCtrlWreset (port : Nat) (s : State) : Answer :=
  s.onPort port (s.owned port 0x20 (fun s => { s.warmReset with stage := 4, bringup := true }))

/-- `CTRL_BOOTRETRY` (R48): the staged image boots from stage 2 on, and is the firmware from then on (R371). -/
def execCtrlBootretry (port : Nat) (s : State) : Answer :=
  s.onPort port (s.owned port 0x20 (fun s =>
    if s.recovery then
      ({ s with recovery := false, booterr := 0, fwok := false, firmware := s.staging, stage := 2, bringup := true }).statusChanged
    else s))

/-- The `booterr` of a stage that fails: flash, signature or key hash, rollback, calibration; 0 for a stage that cannot fail (R43, R48). -/
def bootError (stage err : Nat) : Nat :=
  if stage = 1 then 5 else if stage = 2 then (if err = 2 then 2 else 1) else if stage = 3 then 3 else if 5 ≤ stage ∧ stage ≤ 7 then 4 else 0

/-- The stage that runs has failed (R48). -/
def State.bootFails (s : State) (err : Nat) : State :=
  ({ s with booterr := bootError s.stage err, recovery := true, bringup := false }).statusChanged

/-- The dies come out of reset: their homes load the copies that hosts were granted meanwhile (R324, R47). -/
def State.diesReturn (s : State) : State :=
  let back := s.dies.filter (fun d => d.run == .reset)
  let t := back.foldl (fun (t : State) d => d.table.foldl State.loadCopy t) s
  { t with dies := t.dies.map (fun d => if d.run = .reset then { d with run := .running, table := [] } else d) }

/-- `BRINGUP_STAGE_COMPLETE` (R47, R48): the stage that runs ends. `err` [7:0] is not 0 where it has failed; at stage 3, `err` [8] is the
commit flag of the image and the bits above are its security version, which fails the stage where it is below the counter (log 91). -/
def execBringupStageComplete (err : Nat) (s : State) : Answer :=
  let version := err / 512
  if !s.bringup then .next s
  else if (err % 256 ≠ 0 ∧ bootError s.stage (err % 256) ≠ 0) ∨ (s.stage = 3 ∧ version < s.secver) then .next (s.bootFails (err % 256))
  else
    match s.stage with
    | 2 => .next { s with fwok := true, stage := 3 }
    | 3 => .next { s with fwver := version, secver := if err / 256 % 2 = 1 then version else s.secver, stage := 4 }
    | 7 => .next { s with stage := if s.ready then 9 else 8 }
    | 8 =>
      let t := { s with initNext := 0, initSet := [], initdone := false, stage := 9 }
      .next (if s.initdone then t.statusChanged else t)
    | 9 =>
      let t := { s.diesReturn with ready := true, bringup := false }
      .next (if s.ready then t else t.statusChanged)
    | n => .next { s with stage := n + 1 }

/-- `BACKGROUND_INIT_REGION` (R49): the next region is zeroed unless a write has zeroed it, and its bit is set. The zeros cover its sectors,
which fail no longer (R365). -/
def execBackgroundInitRegion (s : State) : Answer :=
  let r := s.initNext
  if 589824 ≤ r then .next s
  else
    let was := s.initSet.contains r
    let t := { s with
      mem := if was then s.mem else s.mem.clear (r * 2097152) ((r + 1) * 2097152)
      failing := if was then s.failing else dropBy (fun f => f * 32 / 2097152 == r) s.failing
      initNext := r + 1, initSet := dropBy (fun q : Nat => q == r) s.initSet }
    .next (if r + 1 = 589824 then ({ t with initdone := true }).statusChanged else t)

/-! ## Registers without behaviour of their own -/

/-- A doubleword of the outbound window table written (R46): the reserved bits fall away, and an entry of zeros leaves the list. -/
def State.writeWindow (s : State) (off : Nat) (v : Word) : State :=
  if s.winlock then s
  else
    let i := off / 32
    let (b, l, f) := match findBy (fun w : Nat × Word × Word × Word => w.1 == i) s.windows with | some w => w.2 | none => (0#64, 0#64, 0#64)
    let e : Word × Word × Word := match off % 32 with
      | 0 => (v &&& 0xFFFFFFFFFF000#64, l, f)
      | 8 => (b, v &&& 0xFFFFFFFFFF000#64, f)
      | 16 => (b, l, v &&& 7#64)
      | _ => (b, l, f)
    { s with windows :=
        if e.1 == 0#64 && e.2.1 == 0#64 && e.2.2 == 0#64 then dropBy (fun w : Nat × Word × Word × Word => w.1 == i) s.windows
        else putBy (fun w : Nat × Word × Word × Word => w.1 == i) (i, e) s.windows }

/-- `CTRL` written (R43): each bit that is 1 acts. -/
def writeCtrl (port : Nat) (v : Word) (s : State) : State :=
  let s := if bit v 2 then { s with modelock := true } else s
  let s := if bit v 1 then { s with cfglock := true } else s
  let s := if bit v 0 then { s with winlock := true } else s
  s.push ((if bit v 8 then [Instr.ctrlWreset port] else []) ++ (if bit v 9 then [Instr.ctrlBootretry port] else []))

/-- A doubleword of the LAUNCH window written (R39): `busy` and `result` are read-only, `go` submits. -/
def State.writeLaunch (s : State) (port off : Nat) (v : Word) : State :=
  if !s.hostFn 0 then s.ignored port (0x300 + off)
  else
    let p := s.portAt port
    if off = 24 then if bit v 0 ∧ getBytes p.launch 24 / 2 % 2 = 0 then s.push [.launchRequestGo true port] else s
    else s.putPort { p with launch := putBytes p.launch off v.toNat }

/-- A doubleword of the SEAL window written (R41). -/
def State.writeSeal (s : State) (port off : Nat) (v : Word) : State :=
  if !s.hostFn 5 then s.ignored port (0x400 + off)
  else
    let p := s.portAt port
    if off = 0x20 then
      if bits v 0 2 = 1 then s.push [.sealWindowSeal port] else if bits v 0 2 = 2 then s.push [.sealWindowRevoke port] else s
    else if off = 0x28 then s.putPort { p with sealWin := putBytes p.sealWin off (bits v 0 16) }
    else if off < 0x20 then s.putPort { p with sealWin := putBytes p.sealWin off v.toNat }
    else s

/-- PCI Express and Burzer configuration, which the map of R43 does not place (log 23): this device's number, its export slice, a device
that is present (and that has not failed, R369), the device at the far end of a link, a range of device memory for checkpoints (page and pages of 64 KiB, up to 64 GiB in
all; 0 names none), and PCI Express registers (R37, R369, R370). `groom` says that groom firmware writes: the export slice is its own. -/
def State.writeConfig (s : State) (off : Nat) (value : Word) (groom : Bool) : State :=
  if off = 0x10000 then { s with device := bits value 0 13 }
  else if off = 0x10008 then if groom then { s with exportSlice := min 8 value.toNat } else s
  else if off = 0x10010 then
    let q := bits value 0 13
    { s with peers := putBy (· == q) q s.peers, failedDev := dropBy (· == q) s.failedDev }
  else if 0x10100 ≤ off ∧ off < 0x10180 then
    let link := (off - 0x10100) / 8
    { s with linkTo := putBy (fun l : Nat × Nat => l.1 == link) (link, bits value 0 13) s.linkTo }
  else if off = 0x10200 then
    let r : Range := { lo := bits value 0 32 * 65536, len := bits value 32 32 * 65536 }
    if value = 0#64 then { s with named := [] }
    else if deviceTop < r.lo + r.len ∨ 2 ^ 36 < sumBy (fun q : Range => q.len) (r :: s.named) then s
    else { s with named := r :: s.named }
  else if 0x11000 ≤ off ∧ off < 0x13000 then
    let key := ((off - 0x11000) / 0x1000, off % 0x1000)
    { s with pcie := putBy (fun c : Nat × Nat × Word => (c.1, c.2.1) == key) (key.1, key.2, value) s.pcie }
  else s

/-- `REGISTER_WRITE` (R43, R46, R366): a doubleword written at a BAR 0 offset, or from 0x10000 on a configuration register. Numbers 2 to 7
stand for the groom cores of dies 0 to 5, whose writes reach configuration only, and once `cfglock` is 1 are ignored and recorded (R37). A
write to `HSEM` counts by its `owner` field (R6). -/
def execRegisterWrite (port off : Nat) (value : Word) (s : State) : Answer :=
  let p := s.portAt port
  s.unless (decide (8 ≤ port)) (
    if off % 8 ≠ 0 then s
    else if 2 ≤ port then
      if off < 0x10000 then s
      else if s.cfglock then s.logAll (dieRecord 1 0 (port - 2) off 0)
      else s.writeConfig off value true
    else if off = 0x10 then if bits value 0 2 = 0 ∧ s.owns port then { s with hsem := 0 } else s
    else if off = 0x18 then s.owned port off (fun s => s.writeFuncmode value)
    else if off = 0x20 then s.owned port off (writeCtrl port value)
    else if 0x100 ≤ off ∧ off < 0x140 then s.push [.wakeWindowWrite port (off - 0x100) value]
    else if off = 0x240 then s.writeEvack port value
    else if 0x300 ≤ off ∧ off < 0x320 then s.writeLaunch port (off - 0x300) value
    else if 0x400 ≤ off ∧ off < 0x440 then s.writeSeal port (off - 0x400) value
    else if off = 0x1000 then if bit value 32 then s.putPort { p with errOvf := false } else s
    else if off = 0x1008 then s.putPort { p with errTail := bits value 0 32 }
    else if off = 0x1010 then
      s.putPort { p with sramce := bits value 48 16, memce := bits value 32 16, linkce := bits value 16 16, cethr := bits value 0 16 }
    else if 0x2000 ≤ off ∧ off < 0x2800 then s.owned port off (fun s => s.writeWindow (off - 0x2000) value)
    else s.writeConfig off value false)

/-! ## Host accesses to device memory -/

/-- `BAR_2_ACCESS` (R47, R48, R368): a doubleword through a link that is up. Before `ready`, a read returns all-ones and a write is
discarded and recorded, but for the staging window of a device in recovery; afterwards device memory is read or written, and above it a
read returns all-ones. A line that answers moved responses performs nothing (R326). -/
def execBar2Access (port : Nat) (write : Bool) (addr : Nat) (value : Word) (s : State) : Answer :=
  let ones := s.putPort { s.portAt port with reply := BitVec.allOnes 64 }
  s.unless (decide (2 ≤ port) || !(s.portAt port).up) (
    if !s.ready then
      if s.recovery ∧ addr + 8 ≤ 67108864 then
        if write then { s with staging := s.staging.writeN addr 8 value.toNat }
        else s.putPort { s.portAt port with reply := BitVec.ofNat 64 (s.staging.readN addr 8) }
      else if write then s.ignored port addr else ones
    else if deviceTop < addr + 8 then if write then s else ones
    else if s.movedLine (addr / 128) then s
    else s.hostAccess port addr write value)

/-- `SPDM_REQUEST` (R371): the DOE mailbox answers with the measurements, the digests of the firmware image and of the configuration record,
the security version and the counter, under a signature; a request with bit 32 set stands for CXL table access (R368), whose tables the rules
do not give. Digests, signature and tables are free values (log 24). -/
def execSpdmRequest (port req : Nat) (s : State) : Answer :=
  let answer : List Nat :=
    if req / 2 ^ 32 % 2 = 1 then [(Config.openWord s.fresh).toNat]
    else [(Config.digest s.firmware).toNat, (Config.recordDigest s.record).toNat, s.fwver, s.secver, Config.signature s.fresh]
  s.onPort port ({ (s.putPort { s.portAt port with doe := req :: answer }) with fresh := s.fresh + 1 })

end Sys2Proof.Machine
end

