-- ==== Sys2Proof/Machine/Device.lean ====
section
/-! DEFINITION. Steps of the device that belong to no instruction: the traps and the lane and engine work of a hart (R56, R58, R125,
R232, R343), pre-emption and the watchdog (R37, R356), timeouts, errors and their counters (R364 to R366), Burzer and recovery (R369,
R370), shutdown and clocks (R372). -/

namespace Sys2Proof.Machine

/-! ## A hart in focus for one step -/

/-- An operation done with hart `h` in focus; a hart that the part does not have now, or whose die does not run, does nothing. -/
def State.onFocus (s : State) (h : Nat) (f : State → State) : State :=
  match s.findHart h with
  | none => s
  | some x => if (s.dieAt x.die).run = .running then (f (s.focusOn h)).focusOn s.hart.id else s

/-- A device step about hart `h`: its id is one of the part's (R3), or a groom core's. -/
def onHartStep (h : Nat) (s : State) (f : State → State) : Answer := s.unless (decide (2310 ≤ h)) (s.onFocus h f)

/-! ## Traps and pre-emption (R343, R344, R356) -/

/-- The asynchronous trap that the hart in focus takes at an instruction boundary (R343). Where pre-emption is pending and a drain is still to
finish, the boundary waits for the drain (R213). -/
def State.takeAsync (s : State) : Option State :=
  if !s.hart.ie || s.hart.waits then none
  else
    match s.hart.asyncFirst with
    | some c => some ((s.onHart (fun h => h.dropAsync c.cause)).takeTrap c none)
    | none => if (s.hart.preT || s.hart.preH) && s.hart.draining then some s.resumeTransfers.drainWork else none

/-- The trap that the hart in focus takes at an instruction boundary, in the order of R343: an engine transfer's cause once every entry older
than the transfer has completed; while its instruction waits, an asynchronous one is left to that instruction (R311). -/
def State.takeReady (s : State) : Option State :=
  match s.hart.vcause, s.hart.ecauses with
  | some v, _ => some (s.takeTrap v.stop (some v.vpc))
  | none, c :: cs => if c.after = 0 then some ((s.onHart (fun h => { h with ecauses := cs })).takeTrap c.stop none) else s.takeAsync
  | none, [] => s.takeAsync

/-- `TRAP_TAKE` (R343, R344). -/
def execTrapTake (h : Nat) (s : State) : Answer :=
  onHartStep h s (fun s => if s.hart.run = .running then s.takeReady.getD s else s)

/-- A pre-emption request made pending on a hart (R356); it sets the event flag (R118). -/
def Hart.preempt (h : Hart) (host : Bool) : Hart :=
  if host then { h with preH := true, event := true } else { h with preT := true, event := true }

/-- A write of `PREEMPT` by the groom core of a die (R356). -/
def State.preemptWrite (s : State) (die : Nat) (value : Word) (host : Bool) : State :=
  let id := bits value 0 12
  match (if id < 2304 ∧ id / 384 = die then s.findHart id else none) with
  | none => s.logAll (dieRecord 1 0 die 544 0)
  | some h =>
    if h.job.isNone || h.run == .off then s.logAll (dieRecord 1 0 die 544 0)
    else if h.run = .halted ∧ h.queue = [] then s
    else s.putHart (h.preempt host)

/-- `PREEMPT_TIMER` (R356). -/
def execPreemptTimer (die : Nat) (value : Word) (s : State) : Answer :=
  if 6 ≤ die then .next s else s.whenRuns die (.next (s.preemptWrite die value false))

/-- `PREEMPT_HOST` (R356). -/
def execPreemptHost (die : Nat) (value : Word) (s : State) : Answer :=
  if 6 ≤ die then .next s else s.whenRuns die (.next (s.preemptWrite die value true))

/-! ## The watchdog (R37) -/

/-- `WATCHDOG_WRITE` (R37). -/
def execWatchdogWrite (die : Nat) (s : State) : Answer :=
  if 6 ≤ die then .next s else s.whenRuns die (.next (s.putDie { s.dieAt die with watchdog := true }))

/-- `WATCHDOG_EXPIRY` (R37): the period ends. A groom core that has not written is reset, 0xB0 goes to the error recovery agent, and a
class 6 record is written. -/
def execWatchdogExpiry (die : Nat) (s : State) : Answer :=
  if 6 ≤ die then .next s
  else
    let d := s.dieAt die
    if d.run ≠ .running then .next s
    else if d.watchdog then .next (s.putDie { d with watchdog := false })
    else
      .next (((s.putHart (Hart.groomReset die)).logAll (dieRecord 6 0xB0 die 0 0)).recoveryEvent 0xB0 die 0 0#64)

/-! ## Leases (R56, R58, R216) -/

/-- A step of the arbiter about hart `h`, while its die runs (R372). -/
def onArbiter (h : Nat) (s : State) (f : Hart → State) : Answer :=
  if 2310 ≤ h then .next s
  else
    match s.findHart h with
    | none => .next s
    | some x => s.whenRuns x.die (.next (f x))

/-- `STRIP_BOUNDARY_GRANT_CHANGE` (R56). -/
def execStripBoundaryGrantChange (h : Nat) (s : State) : Answer := onArbiter h s (fun _ => s.boundary h)

/-- `FORCED_BOUNDARY` (R58): a grant above its target, not frozen; the start of the next entry is held back until every entry in
execution has completed, and then the change is applied. -/
def execForcedBoundary (h : Nat) (s : State) : Answer :=
  onArbiter h s (fun x => if x.csr.grant ≤ x.csr.target || x.csr.frozen then s else (s.putHart { x with hold := true }).boundary h)

/-- `LEASE_STALL_PREEMPT` (R58): no boundary could be forced, and 0xA0 becomes pending. -/
def execLeaseStallPreempt (h : Nat) (s : State) : Answer :=
  onArbiter h s (fun x => if x.csr.target < x.csr.grant && !x.atBoundary then s.putHart (x.preempt false) else s)

/-- `CLUSTER_RETIRE` (R216): a cluster marked in `lanedis` that no hart holds is retired. -/
def execClusterRetire (die stable cluster : Nat) (s : State) : Answer :=
  if 6 ≤ die ∨ 48 ≤ stable ∨ 16 ≤ cluster then .next s
  else
    let n := die * 48 + stable
    let st := s.stableAt n
    let held := sumBy (fun h : Hart => h.csr.grant) (s.admitted n)
    s.whenRuns die <|
    if st.lanedis.getLsbD cluster && !st.retired.getLsbD cluster && decide (held < st.live) then
      .next ((s.setRetired n (st.retired ||| (1#16 <<< cluster))).retarget n)
    else .next s

/-! ## Lanes (R125, R126, R138, R147, R269) -/

/-- The oldest entry of the queue of the hart in focus. -/
def State.headRow (s : State) : Option QEntry := s.hart.queue.head?

/-- `VECTOR_ENTRY_COMPLETE` (R125). -/
def execVectorEntryComplete (h : Nat) (s : State) : Answer := onHartStep h s State.laneStep

/-- `READ_QUEUE_RETURN` (R126): the oldest entry is one whose value an x register waits for. -/
def execReadQueueReturn (h : Nat) (s : State) : Answer :=
  onHartStep h s (fun s => match s.headRow with | some e => if e.dest.isSome then s.laneStep else s | none => s)

/-- `BLOCK_GROUP_COMMIT` (R138): one group of a block. -/
def execBlockGroupCommit (h : Nat) (s : State) : Answer :=
  onHartStep h s (fun s =>
    match s.headRow with
    | some e => (match e.row with | .vfetch | .cVfetch | .vfetchw | .vloop => s.lanes false | _ => s)
    | none => s)

/-- `STRIP_ASSIGN` (R147): a cluster takes the next strip of a `VLOOP`. -/
def execStripAssign (h : Nat) (s : State) : Answer :=
  onHartStep h s (fun s => match s.headRow with | some e => if e.row = .vloop then s.lanes false else s | none => s)

/-- `RECURSION_PASS_COMPLETE` (R269). -/
def execRecursionPassComplete (h : Nat) (s : State) : Answer :=
  onHartStep h s (fun s => match s.headRow with | some e => if e.row = .recur then s.laneStep else s | none => s)

/-! ## Engines (R213, R232) -/

/-- At least as many chunks as a transfer has. -/
def Transfer.chunks (t : Transfer) : Nat :=
  match t.kind with
  | .copy _ _ len | .fill _ _ len => len / 4096 + 2
  | .gather _ count lgbs _ _ => count * 2 ^ lgbs / 4096 + 2
  | .append _ _ lgbs _ _ _ _ _ _ len => 2 ^ lgbs / 4096 + len / 4096 + 16
  | .drain _ _ _ | .words _ _ => 2

/-- Transfer `i` of the hart in focus performs a chunk if it may. -/
def State.chunkOf (s : State) (i : Nat) : State := if s.hart.runnable i then (s.bridleChunk i).1 else s

/-- Chunks of transfer `i` of the hart in focus until it leaves the bridle or cannot go on, at most `n`. -/
def State.chunksOf (s : State) (i : Nat) : Nat → State
  | 0 => s
  | n + 1 =>
    if s.hart.runnable i then
      let k := s.hart.bridle.length
      let (t, did) := s.bridleChunk i
      if did && t.hart.bridle.length == k then State.chunksOf t i n else t
    else s

/-- A step of the engines: of hart `h`, or of the copy nodes of die `h - 4096` (R34). -/
def onEngine (h : Nat) (s : State) (hart : State → State) (die : Nat → State) : Answer :=
  if 4096 ≤ h ∧ h < 4102 then .next (if (s.dieAt (h - 4096)).run = .running then die (h - 4096) else s) else onHartStep h s hart

/-- `ENGINE_TRANSFER_START` (R232): no older transfer of the same hart holds the transfer back. -/
def execEngineTransferStart (h i : Nat) (s : State) : Answer :=
  onEngine h s
    (fun s =>
      match nth s.hart.bridle i with
      | some t => if s.hart.runnable i then s.onHart (fun h => { h with bridle := setNth h.bridle i { t with started := true } }) else s
      | none => s)
    (fun die =>
      let d := s.dieAt die
      match nth d.copies i with
      | some t => s.putDie { d with copies := setNth d.copies i { t with started := true } }
      | none => s)

/-- `ENGINE_CHUNK_COMPLETE` (R232). -/
def execEngineChunkComplete (h i : Nat) (s : State) : Answer :=
  onEngine h s (fun s => s.chunkOf i) (fun die => (s.copyNodeChunk die i).1)

/-- `ENGINE_TRANSFER_COMPLETE` (R232): the chunks that remain, or as many as can be performed now. -/
def execEngineTransferComplete (h i : Nat) (s : State) : Answer :=
  onEngine h s
    (fun s => match nth s.hart.bridle i with | some t => s.chunksOf i t.chunks | none => s)
    (fun die => match nth (s.dieAt die).copies i with | some t => s.copyNodeAll die i t.chunks | none => s)

/-- `MDRAIN_TRANSFER_COMPLETE` (R213). -/
def execMdrainTransferComplete (h i : Nat) (s : State) : Answer :=
  onHartStep h s (fun s =>
    match nth s.hart.bridle i with
    | some t => (match t.kind with | .drain _ _ _ => s.chunkOf i | _ => s)
    | none => s)

/-! ## Timeouts and cycles (R99, R118, R305) -/

/-- A change of hart `h` by a timer, while its die runs (R372). -/
def onTimer (h : Nat) (s : State) (f : Hart → Hart) : Answer :=
  if 2310 ≤ h then .next s
  else
    match s.findHart h with
    | none => .next s
    | some x => s.whenRuns x.die (.next (s.putHart (f x)))

/-- `WFE_TIMEOUT` (R118): the event flag is set. -/
def execWfeTimeout (h : Nat) (s : State) : Answer := onTimer h s (fun x => { x with event := true })

/-- `WAITM_TIMEOUT` (R305). -/
def execWaitmTimeout (h : Nat) (s : State) : Answer := onTimer h s (fun x => if x.waits then { x with timeout := true } else x)

/-- `CYCLE_COUNT_ADVANCE` (R99): the cycles of a stable pass. -/
def execCycleCountAdvance (die stable n : Nat) (s : State) : Answer :=
  if 6 ≤ die ∨ 48 ≤ stable then .next s
  else
    let st := s.stableAt (die * 48 + stable)
    s.whenRuns die <| .next (s.putStable { st with cycle := st.cycle + BitVec.ofNat 64 n })

/-! ## Errors (R364 to R366) -/

/-- `MEMORY_SCRUB` (R364): each failing sector of the line stays failing, and is a contained error with a class 3 record (R36, R365). -/
def execMemoryScrub (addr : Nat) (s : State) : Answer :=
  if deviceTop ≤ addr then .next s
  else
    s.whenRuns (addr / dieBytes) <| .next (((countFrom (addr / 128 * 4) 4).filter (fun f => s.failing.contains f)).foldl
      (fun t f => t.contain (dieRecord 3 0 (addr / dieBytes) (f * 32) 0)) s)

/-- The value of a counter of CECNT: 0 SRAM, 1 memory, 2 link (R366). -/
def Port.corrected (p : Port) (counter : Nat) : Nat := if counter = 0 then p.sramce else if counter = 1 then p.memce else p.linkce

/-- A counter of CECNT one higher, saturating. -/
def Port.countError (p : Port) (counter : Nat) : Port :=
  let n := min 65535 (p.corrected counter + 1)
  if counter = 0 then { p with sramce := n } else if counter = 1 then { p with memce := n } else { p with linkce := n }

/-- The counter, as it now stands, has just reached a multiple of the threshold (R366). -/
def Port.notifies (old new : Port) (counter : Nat) : Bool :=
  new.cethr != 0 && old.corrected counter != new.corrected counter && new.corrected counter % new.cethr == 0

/-- A corrected error of a die counted by both ports; a counter that reaches its port's threshold writes a class 7 record, about the whole
device, and 0xB1 becomes pending on the die's groom core (R366). -/
def State.countError (s : State) (die counter : Nat) : State :=
  let one (s : State) (port : Nat) : State :=
    let p := s.portAt port
    let q := p.countError counter
    let t := s.putPort q
    if p.notifies q counter then
      (t.logAll (dieRecord 7 0xB1 die counter 0)).onHartId (2304 + die) (fun h => { h with softErr := h.softErr ++ [counter], event := true })
    else t
  one (one s 0) 1

/-- `CORRECTED_ERROR` (R364, R366). -/
def execCorrectedError (die counter : Nat) (s : State) : Answer :=
  if 6 ≤ die ∨ 3 ≤ counter then .next s else .next (s.countError die counter)

/-! ## Burzer and the recovery of a system (R369, R370) -/

/-- The die that carries a Burzer link: four links on each of dies 1, 2, 4 and 5 (R369). -/
def linkDie (link : Nat) : Nat := if link < 4 then 1 else if link < 8 then 2 else if link < 12 then 4 else 5

/-- The replays of a link that lay within 1 ms of the last one, and that one. -/
def State.replaysOf (s : State) (link : Nat) : Nat :=
  match findBy (fun p : Nat × Nat => p.1 == link) s.replays with | some p => p.2 | none => 0

/-- `BURZER_CRC_REPLAY` (R369): a flit is replayed and counted; the sixteenth replay within 1 ms takes the link down. Which of the earlier
ones lie within 1 ms is open (log 26). -/
def execBurzerCrcReplay (link : Nat) (s : State) : Answer :=
  if 16 ≤ link then .next s
  else if s.linkDown.contains link then .next s
  else
    let n := min (s.replaysOf link) (Config.recentReplays s.fresh) + 1
    let t := { s.countError (linkDie link) 2 with fresh := s.fresh + 1 }
    .next (if 16 ≤ n then
        { t with linkDown := link :: t.linkDown, replays := dropBy (fun p : Nat × Nat => p.1 == link) t.replays }
      else { t with replays := putBy (fun p : Nat × Nat => p.1 == link) (link, n) t.replays })

/-- `BURZER_HEARTBEAT` (R369): the link is alive. -/
def execBurzerHeartbeat (link : Nat) (s : State) : Answer := s.unless (decide (16 ≤ link)) s

/-- The links whose far end is a device (R369). -/
def State.linksTo (s : State) (dev : Nat) : List Nat := (s.linkTo.filter (fun l => l.2 == dev)).map (·.1)

/-- `PEER_SILENCE_TIMEOUT` (R370 steps 1 and 2): a peer is declared failed, and the links to it go down; a class 8 record is written to
both logs. -/
def execPeerSilenceTimeout (dev : Nat) (s : State) : Answer :=
  if 8192 ≤ dev then .next s
  else if !s.peers.contains dev || s.failedDev.contains dev then .next s
  else .next (({ s with
    failedDev := dev :: s.failedDev
    linkDown := (s.linksTo dev).filter (fun l => !s.linkDown.contains l) ++ s.linkDown } : State).logAll (dieRecord 8 0 0 0 dev))

/-- `SPARE_ASSIGN` (R370 step 3): this device, a spare at `ready`, is given the number of a device that failed. -/
def execSpareAssign (dev : Nat) (s : State) : Answer :=
  if 8192 ≤ dev ∨ !s.ready then .next s
  else .next { s with device := dev, failedDev := dropBy (· == dev) s.failedDev, peers := dropBy (· == dev) s.peers }

/-- The 64 KiB pages of physical memory behind a range of a context, at most `n`; a page that is not present is left out. -/
def State.pagesBehind (s : State) (w : Who) (lo len : Nat) : List Range :=
  (pagesOf (len / 65536 + 2) lo len).filterMap (fun p =>
    match s.translate w.stable w.ctx w.pgroot (p.1 % 2 ^ 64) with
    | (.present pa _, _) => if pa < deviceTop then some { lo := pa / 65536 * 65536, len := 65536 } else none
    | _ => none)

/-- The value of a read that a checkpoint makes, and nothing where it cannot be made. -/
def Res.value {α : Type} (r : Res α) (d : α) : α := match r with | .ok a _ => a | _ => d

/-- The virtual ranges of a node's job image and spill area (R370, R9, R11, R15). -/
def State.imageRanges (s : State) (w : Who) (work : Nat) : List Range :=
  let h := header ((s.loadWords w work 16).value [])
  let (_, _, _, _, size) := layout 0x80 h.vcode h.xdecl h.vdecl h.kdecl h.zdecl
  let (_, _, _, _, spill) := layout 0 h.vcode h.xspill h.vspill h.kspill h.zspill
  { lo := work, len := size } :: (if h.spill = 0 then [] else [{ lo := h.spill, len := h.gang * up128 spill }])

/-- The virtual ranges of a graph: its nodes, and its compute nodes' images with their spill areas (R370). -/
def State.graphRanges (s : State) (w : Who) (g : Graph) : List Range :=
  { lo := g.nodes, len := 64 * g.count } ::
    (countFrom 0 g.count).flatMap (fun n =>
      let q := (s.readNode w g n).value (gnode [])
      if q.type = 1 then s.imageRanges w q.work else [])

/-- The first `n` bytes of some ranges. -/
def firstBytes (n : Nat) : List Range → List Range
  | [] => []
  | r :: rs => if r.len ≤ n then r :: firstBytes (n - r.len) rs else [{ r with len := n }]

/-- What a checkpoint holds of physical memory (R370), 64 GiB at most: the rings, the graphs and their images, and what the host has named. -/
def State.checkpointRanges (s : State) : List Range :=
  let behind (die ctx : Nat) (f : Who → List Range) : List Range :=
    match s.unitOf die ctx with
    | (some w, _) => (f w).flatMap (fun r => s.pagesBehind w r.lo r.len)
    | (none, _) => []
  firstBytes (2 ^ 36) (s.rings.flatMap (fun r => behind r.1 r.2.owner (fun w => (s.ringSegments w r.2 16 r.2.base).value [])) ++
    s.graphs.flatMap (fun g => behind g.die g.ctx (fun w => s.graphRanges w g)) ++ s.named)

/-- An address lies in one of some ranges. -/
def inRanges (l : List Range) (a : Nat) : Bool := l.any (fun r => decide (r.lo ≤ a ∧ a < r.lo + r.len))

/-- `CHECKPOINT_WRITE` (R370): this device's checkpoint, written whole to its buddy, with lines in U merged by the reads that make it
(R331). -/
def execCheckpointWrite (s : State) : Answer :=
  let t := s.ulines.foldl (fun (t : State) u => (t.evictU (homeDie u.line) u.line).2) s
  let rs := t.checkpointRanges
  let c : Checkpoint :=
    { mem := t.mem.filter (fun p => inRanges rs p.1), ranges := rs, failing := t.failing.filter (fun f => inRanges rs (f * 32))
      rings := t.rings, graphs := t.graphs }
  .next { t with checkpts := putBy (fun p : Nat × Checkpoint => p.1 == s.device) (s.device, c) t.checkpts }

/-- The nodes of a restored graph from index `n` on that are not DONE: one that waits for none is READY, and a CANCELLED one that still
waits for predecessors, which run again, waits (R370 step 5). -/
def State.renew (s : State) (w : Who) (g : Graph) : Nat → Nat → Res (List (Nat × Nat))
  | 0, _ => .ok [] s
  | k + 1, n =>
    (s.readNode w g n).bind fun q s =>
      let waits := q.state = 0 ∨ (q.state = 5 ∧ q.npred ≠ 0)
      (if q.state = 3 then .ok () s else s.setNode w g n (if waits then 0 else 1)).bind fun _ s =>
        (State.renew s w g k (n + 1)).bind fun l s =>
          .ok (if q.state = 3 ∨ waits then l else (n, if q.die = 0xFF then g.die else q.die) :: l) s

/-- A restored graph launched again: every node not DONE runs (R370 step 5). -/
def State.relaunch (s : State) (g : Graph) : State :=
  match s.unitOf g.die g.ctx with
  | (none, s) => s
  | (some w, s) =>
    match s.renew w g g.count 0 with
    | .ok l t =>
      let g := { g with ready := l, remote := [], offered := [], running := [], ended := [], failed := 0, retry := false }
      (t.putGraph g).push (l.map (fun p => Instr.nodeStart g.n p.1))
    | .stop c t => t.record10 g.die g.ctx c g.nodes
    | .wait t => t

/-- The state with a checkpoint restored (R370 step 5): the memory, rings and graphs are as it holds them, and every node not DONE in it is
launched again. -/
def State.restore (s : State) (c : Checkpoint) : State :=
  let line (l : Nat) : Bool := inRanges c.ranges (l * 128)
  let cleared := c.ranges.foldl (fun (m : Memory) r => m.clear r.lo (r.lo + r.len)) s.mem
  let t := { s with
    mem := c.mem.foldl (fun (m : Memory) p => m.write p.1 p.2) cleared
    rings := c.rings, graphs := c.graphs
    ulines := s.ulines.filter (fun u => !line u.line)
    coh := { s.coh with
      caches := dropBy (fun q : CacheLine => line q.line) s.caches
      links := dropBy (fun l : Link => line l.line) s.links
      dir := dropBy (fun e : DirEntry => line e.line) s.dir
      homes := dropBy (fun e : HomeEntry => line e.line) s.homes }
    failing := s.failing.filter (fun f => !inRanges c.ranges (f * 32)) ++ c.failing
    dies := s.dies.map (fun d => { d with copies := [] }) }
  let t := c.mem.foldl (fun (t : State) p => t.touchRegion p.1) t
  c.graphs.foldl State.relaunch t

/-- The last valid checkpoint that stands under this device's number (R370): one of its own, or the one that the device wrote whose number it
was given, which is a free value (log 120). -/
def State.lastCheckpoint (s : State) : Option Checkpoint :=
  match findBy (fun p : Nat × Checkpoint => p.1 == s.device) s.checkpts with
  | some p => some p.2
  | none => Config.peerCheckpoint s.device s.fresh

/-- `CHECKPOINT_RESTORE` (R370 steps 4 and 5): a spare that has the number of a failed device takes that device's checkpoint from its
buddy, 64 GiB at most, over at least four links. -/
def execCheckpointRestore (s : State) : Answer :=
  let buddy := if s.device % 2 = 0 then s.device + 1 else s.device - 1
  if ((s.linksTo buddy).filter (fun l => !s.linkDown.contains l)).length < 4 then .next s
  else
    let t : State := { s with fresh := s.fresh + 1 }
    match s.lastCheckpoint with
    | none => .next t
    | some c => .next (if sumBy (fun r : Range => r.len) c.ranges ≤ 2 ^ 36 then t.restore c else t)

/-- `INBOUND_PEER_ACCESS` (R369): a peer's access of 1, 2, 4 or 8 bytes, naturally aligned, at an offset of this device's export slice. It
comes by a link of a die that runs, to the memory of a die that runs (R372). -/
def execInboundPeerAccess (link : Nat) (write : Bool) (addr : Nat × Nat) (value : Word) (s : State) : Answer :=
  let (at_, bytes) := addr
  let pa := s.exportSlice * 2 ^ 37 + at_
  let ok := (bytes = 1 ∨ bytes = 2 ∨ bytes = 4 ∨ bytes = 8) ∧ at_ % bytes = 0 ∧ at_ + bytes ≤ 2 ^ 37 ∧ pa + bytes ≤ deviceTop
  s.unless (decide (16 ≤ link) || s.linkDown.contains link || !decide ok || s.movedLine (pa / 128) ||
      (s.dieAt (linkDie link)).run != .running || (s.dieAt (pa / dieBytes)).run != .running)
    (match s.dataFault pa bytes write with
     | some (c, cls) => s.contain (dieRecord cls c (pa / dieBytes) pa 0)
     | none => if write then s.physWrite (6000 + link) pa bytes value.toNat else (s.physRead pa bytes).2)

/-! ## Shutdown and clocks (R372) -/

/-- The part stops every compute die, after a class 11 record (R372). -/
def State.shutdown (s : State) (detail : Nat) : State :=
  let t := s.logAll (dieRecord 11 0 0 0 detail)
  { t with dies := t.dies.map (fun d => { d with run := .stopped }) }

/-- `THERMAL_SHUTDOWN` (R372). -/
def execThermalShutdown (s : State) : Answer := .next (s.shutdown 0)

/-- `COOLANT_LOSS_SHUTDOWN` (R372). -/
def execCoolantLossShutdown (s : State) : Answer := .next (s.shutdown 1)

/-- `CLOCK_THROTTLE` (R372): the power manager sets the arithmetic clock of a die, never above the configuration record's ceiling (R37,
R371); no value changes. -/
def execClockThrottle (die level : Nat) (s : State) : Answer :=
  s.unless (decide (6 ≤ die)) (s.putDie { s.dieAt die with clock := min level s.record.clock })

end Sys2Proof.Machine
end

