-- ==== Sys2Proof/Machine/ScalarFp.lean ====
section
/-! DEFINITION. Scalar floating point (R109 to R112). -/

namespace Sys2Proof.Machine

/-- The format that a format field selects (R87). -/
def fmtSel (f : BitVec 1) : FpFmt := if f = 1#1 then fmtF64 else fmtF32

/-- A source of a format: its low bits (R109). -/
def srcFp (f : FpFmt) (x : Word) : Nat := x.toNat % 2 ^ f.width

/-- A scalar floating-point instruction: its value and flags (R109). -/
def State.fpOp (s : State) (r : Row) (w : BitVec 64) (d : Reg) (f : Hart → Nat × Flags) : Answer :=
  s.scalar r w fun s => let v := f s.hart; s.fpWrite d (BitVec.ofNat 64 v.1) v.2 4

/-- An operation on two decoded sources, rounded by the rounding field (R110). -/
def fp2 (o : OpDABFR) (g : FpFmt → FpEnv → FVal → FVal → Nat × Flags) (h : Hart) : Nat × Flags :=
  let f := fmtSel o.f
  g f (FpEnv.scalar (h.roundField o.r.toNat)) (f.decode (srcFp f (h.getX o.a))) (f.decode (srcFp f (h.getX o.b)))

/-- An operation on two sources that does not round (R110). -/
def fp2x (o : OpDABF) (g : FpFmt → Nat → Nat → Nat × Flags) (h : Hart) : Nat × Flags :=
  let f := fmtSel o.f
  g f (srcFp f (h.getX o.a)) (srcFp f (h.getX o.b))

/-- `FADD` (R110). -/
def execFadd (o : OpDABFR) (s : State) : Answer := s.fpOp .fadd (wordFadd o) o.d (fp2 o fpAddV)
/-- `FSUB` (R110). -/
def execFsub (o : OpDABFR) (s : State) : Answer := s.fpOp .fsub (wordFsub o) o.d (fp2 o (fun f e a b => fpAddV f e a b.negate))
/-- `FMUL` (R110). -/
def execFmul (o : OpDABFR) (s : State) : Answer := s.fpOp .fmul (wordFmul o) o.d (fp2 o fpMulV)
/-- `FDIV` (R110). -/
def execFdiv (o : OpDABFR) (s : State) : Answer := s.fpOp .fdiv (wordFdiv o) o.d (fp2 o fpDivV)
/-- `FSQRT` (R110). -/
def execFsqrt (o : OpDAFR) (s : State) : Answer :=
  s.fpOp .fsqrt (wordFsqrt o) o.d (fun h =>
    let f := fmtSel o.f
    fpSqrtV f (FpEnv.scalar (h.roundField o.r.toNat)) (f.decode (srcFp f (h.getX o.a))))
/-- `FMIN` (R110). -/
def execFmin (o : OpDABF) (s : State) : Answer :=
  s.fpOp .fmin (wordFmin o) o.d (fp2x o (fun f a b => fpMinMaxV f (FpEnv.scalar .rne) false (f.decode a) (f.decode b)))
/-- `FMAX` (R110). -/
def execFmax (o : OpDABF) (s : State) : Answer :=
  s.fpOp .fmax (wordFmax o) o.d (fp2x o (fun f a b => fpMinMaxV f (FpEnv.scalar .rne) true (f.decode a) (f.decode b)))
/-- `FSGNJ` (R110). -/
def execFsgnj (o : OpDABF) (s : State) : Answer :=
  s.fpOp .fsgnj (wordFsgnj o) o.d (fp2x o (fun f a b => (fpSgnj f .same a b, noFlags)))
/-- `FSGNJN` (R110). -/
def execFsgnjn (o : OpDABF) (s : State) : Answer :=
  s.fpOp .fsgnjn (wordFsgnjn o) o.d (fp2x o (fun f a b => (fpSgnj f .inv a b, noFlags)))
/-- `FSGNJX` (R110). -/
def execFsgnjx (o : OpDABF) (s : State) : Answer :=
  s.fpOp .fsgnjx (wordFsgnjx o) o.d (fp2x o (fun f a b => (fpSgnj f .xor a b, noFlags)))
/-- `FEQ` (R110). -/
def execFeq (o : OpDABF) (s : State) : Answer :=
  s.fpOp .feq (wordFeq o) o.d (fp2x o (fun f a b => let r := fpCompareV .feq (f.decode a) (f.decode b); (r.1.toNat, r.2)))
/-- `FLT` (R110). -/
def execFlt (o : OpDABF) (s : State) : Answer :=
  s.fpOp .flt (wordFlt o) o.d (fp2x o (fun f a b => let r := fpCompareV .flt (f.decode a) (f.decode b); (r.1.toNat, r.2)))
/-- `FLE` (R110). -/
def execFle (o : OpDABF) (s : State) : Answer :=
  s.fpOp .fle (wordFle o) o.d (fp2x o (fun f a b => let r := fpCompareV .fle (f.decode a) (f.decode b); (r.1.toNat, r.2)))
/-- `FCLASS` (R110). -/
def execFclass (o : OpDAF) (s : State) : Answer :=
  s.fpOp .fclass (wordFclass o) o.d (fun h => let f := fmtSel o.f; (fpClass f (srcFp f (h.getX o.a)), noFlags))

/-- The exact value of R111 rounded once: a * b + c, with a negated product and a negated addend where asked. -/
def fma3 (o : OpDABEF) (negP negC : Bool) (h : Hart) : Nat × Flags :=
  let f := fmtSel o.f
  let a := f.decode (srcFp f (h.getX o.a))
  let b := f.decode (srcFp f (h.getX o.b))
  let c := f.decode (srcFp f (h.getX o.e))
  fpFmaV f (FpEnv.scalar h.dynRm) (if negP then a.negate else a) b (if negC then c.negate else c)

/-- `FMA` (R111). -/
def execFma (o : OpDABEF) (s : State) : Answer := s.fpOp .fma (wordFma o) o.d (fma3 o false false)
/-- `FMS` (R111). -/
def execFms (o : OpDABEF) (s : State) : Answer := s.fpOp .fms (wordFms o) o.d (fma3 o false true)
/-- `FNMA` (R111). -/
def execFnma (o : OpDABEF) (s : State) : Answer := s.fpOp .fnma (wordFnma o) o.d (fma3 o true true)
/-- `FNMS` (R111). -/
def execFnms (o : OpDABEF) (s : State) : Answer := s.fpOp .fnms (wordFnms o) o.d (fma3 o true false)

/-! ## Conversions (R112) -/

/-- To an integer of `w` bits, in [lo, hi], as xd receives it. -/
def cvtToInt (o : OpDAR) (f : FpFmt) (w : Nat) (signed : Bool) (h : Hart) : Nat × Flags :=
  let lo : Int := if signed then -(2 ^ (w - 1)) else 0
  let hi : Int := if signed then 2 ^ (w - 1) - 1 else 2 ^ w - 1
  let r := fpToInt (h.roundField o.r.toNat) lo hi (f.decode (srcFp f (h.getX o.a)))
  ((r.1 % 2 ^ 64).toNat, r.2)

/-- From an integer of `w` bits. -/
def cvtOfInt (o : OpDAR) (f : FpFmt) (w : Nat) (signed : Bool) (h : Hart) : Nat × Flags :=
  let v := (h.getX o.a).toNat % 2 ^ w
  fpOfInt f (FpEnv.scalar (h.roundField o.r.toNat)) (if signed then sextNat w v else (v : Int))

/-- Between the two formats. -/
def cvtFormat (o : OpDAR) (src dst : FpFmt) (h : Hart) : Nat × Flags :=
  fpConvert src dst (FpEnv.scalar (h.roundField o.r.toNat)) (srcFp src (h.getX o.a))

/-- `FCVT_I32_F32` (R112). -/
def execFcvtI32F32 (o : OpDAR) (s : State) : Answer := s.fpOp .fcvtI32F32 (wordFcvtI32F32 o) o.d (cvtToInt o fmtF32 32 true)
/-- `FCVT_F32_I32` (R112). -/
def execFcvtF32I32 (o : OpDAR) (s : State) : Answer := s.fpOp .fcvtF32I32 (wordFcvtF32I32 o) o.d (cvtOfInt o fmtF32 32 true)
/-- `FCVT_N32_F32` (R112). -/
def execFcvtN32F32 (o : OpDAR) (s : State) : Answer := s.fpOp .fcvtN32F32 (wordFcvtN32F32 o) o.d (cvtToInt o fmtF32 32 false)
/-- `FCVT_F32_N32` (R112). -/
def execFcvtF32N32 (o : OpDAR) (s : State) : Answer := s.fpOp .fcvtF32N32 (wordFcvtF32N32 o) o.d (cvtOfInt o fmtF32 32 false)
/-- `FCVT_I64_F32` (R112). -/
def execFcvtI64F32 (o : OpDAR) (s : State) : Answer := s.fpOp .fcvtI64F32 (wordFcvtI64F32 o) o.d (cvtToInt o fmtF32 64 true)
/-- `FCVT_F32_I64` (R112). -/
def execFcvtF32I64 (o : OpDAR) (s : State) : Answer := s.fpOp .fcvtF32I64 (wordFcvtF32I64 o) o.d (cvtOfInt o fmtF32 64 true)
/-- `FCVT_N64_F32` (R112). -/
def execFcvtN64F32 (o : OpDAR) (s : State) : Answer := s.fpOp .fcvtN64F32 (wordFcvtN64F32 o) o.d (cvtToInt o fmtF32 64 false)
/-- `FCVT_F32_N64` (R112). -/
def execFcvtF32N64 (o : OpDAR) (s : State) : Answer := s.fpOp .fcvtF32N64 (wordFcvtF32N64 o) o.d (cvtOfInt o fmtF32 64 false)
/-- `FCVT_I32_F64` (R112). -/
def execFcvtI32F64 (o : OpDAR) (s : State) : Answer := s.fpOp .fcvtI32F64 (wordFcvtI32F64 o) o.d (cvtToInt o fmtF64 32 true)
/-- `FCVT_F64_I32` (R112). -/
def execFcvtF64I32 (o : OpDAR) (s : State) : Answer := s.fpOp .fcvtF64I32 (wordFcvtF64I32 o) o.d (cvtOfInt o fmtF64 32 true)
/-- `FCVT_N32_F64` (R112). -/
def execFcvtN32F64 (o : OpDAR) (s : State) : Answer := s.fpOp .fcvtN32F64 (wordFcvtN32F64 o) o.d (cvtToInt o fmtF64 32 false)
/-- `FCVT_F64_N32` (R112). -/
def execFcvtF64N32 (o : OpDAR) (s : State) : Answer := s.fpOp .fcvtF64N32 (wordFcvtF64N32 o) o.d (cvtOfInt o fmtF64 32 false)
/-- `FCVT_I64_F64` (R112). -/
def execFcvtI64F64 (o : OpDAR) (s : State) : Answer := s.fpOp .fcvtI64F64 (wordFcvtI64F64 o) o.d (cvtToInt o fmtF64 64 true)
/-- `FCVT_F64_I64` (R112). -/
def execFcvtF64I64 (o : OpDAR) (s : State) : Answer := s.fpOp .fcvtF64I64 (wordFcvtF64I64 o) o.d (cvtOfInt o fmtF64 64 true)
/-- `FCVT_N64_F64` (R112). -/
def execFcvtN64F64 (o : OpDAR) (s : State) : Answer := s.fpOp .fcvtN64F64 (wordFcvtN64F64 o) o.d (cvtToInt o fmtF64 64 false)
/-- `FCVT_F64_N64` (R112). -/
def execFcvtF64N64 (o : OpDAR) (s : State) : Answer := s.fpOp .fcvtF64N64 (wordFcvtF64N64 o) o.d (cvtOfInt o fmtF64 64 false)
/-- `FCVT_F32_F64` (R112). -/
def execFcvtF32F64 (o : OpDAR) (s : State) : Answer := s.fpOp .fcvtF32F64 (wordFcvtF32F64 o) o.d (cvtFormat o fmtF64 fmtF32)
/-- `FCVT_F64_F32` (R112). -/
def execFcvtF64F32 (o : OpDAR) (s : State) : Answer := s.fpOp .fcvtF64F32 (wordFcvtF64F32 o) o.d (cvtFormat o fmtF32 fmtF64)

end Sys2Proof.Machine
end

