-- ==== Sys2Proof/Machine/VIssue.lean ====
section
/-! DEFINITION. The instructions of the vector queue, in the table's order: each enters the queue of the hart in focus (R125),
or raises what its decode finds, or waits. What the lanes then do for it is its row's effect in `laneWork`, or the lane step of
its own kind (fetch, loop, recursion, lane management). -/

namespace Sys2Proof.Machine

/-- `VSETL` (R141). -/
def execVsetl (o : OpDAB) (s : State) : Answer := s.issue .vsetl (wordVsetl o)

/-- `VLEASE` (R142). -/
def execVlease (o : OpDAB) (s : State) : Answer := s.issue .vlease (wordVlease o)

/-- `VFORK` (R143). -/
def execVfork (o : OpDA) (s : State) : Answer := s.issue .vfork (wordVfork o)

/-- `VJOIN` (R144). -/
def execVjoin (o : OpDA) (s : State) : Answer := s.issue .vjoin (wordVjoin o)

/-- `VFETCH` (R145). -/
def execVfetch (o : OpA) (s : State) : Answer := s.issue .vfetch (wordVfetch o)

/-- `VFETCHW` (R146). -/
def execVfetchw (o : OpAK) (s : State) : Answer := s.issue .vfetchw (wordVfetchw o)

/-- `VLOOP` (R147). -/
def execVloop (o : OpAB) (s : State) : Answer := s.issue .vloop (wordVloop o)

/-- `VCOMMIT` (R148). -/
def execVcommit (s : State) : Answer := s.issue .vcommit wordVcommit

/-- `ENDB` (R149): outside a block it is an undefined function (R75, R136). -/
def execEndb (s : State) : Answer := s.issue .endb wordEndb

/-- `MMODE` (R203). -/
def execMmode (o : OpA) (s : State) : Answer := s.issue .mmode (wordMmode o)

/-- `MSHAPE` (R205). -/
def execMshape (o : OpDA) (s : State) : Answer := s.issue .mshape (wordMshape o)

/-- `VADD_VV` (R171). -/
def execVaddVV (o : OpDABCEK) (s : State) : Answer := s.issue .vaddVV (wordVaddVV o)

/-- `VADD_VX` (R171). -/
def execVaddVX (o : OpDABCK) (s : State) : Answer := s.issue .vaddVX (wordVaddVX o)

/-- `VADD_VI` (R171). -/
def execVaddVI (o : OpDAICK) (s : State) : Answer := s.issue .vaddVI (wordVaddVI o)

/-- `VSUB_VV` (R171). -/
def execVsubVV (o : OpDABCEK) (s : State) : Answer := s.issue .vsubVV (wordVsubVV o)

/-- `VSUB_VX` (R171). -/
def execVsubVX (o : OpDABCK) (s : State) : Answer := s.issue .vsubVX (wordVsubVX o)

/-- `VSUB_VI` (R171). -/
def execVsubVI (o : OpDAICK) (s : State) : Answer := s.issue .vsubVI (wordVsubVI o)

/-- `VRSUB_VV` (R171). -/
def execVrsubVV (o : OpDABCEK) (s : State) : Answer := s.issue .vrsubVV (wordVrsubVV o)

/-- `VRSUB_VX` (R171). -/
def execVrsubVX (o : OpDABCK) (s : State) : Answer := s.issue .vrsubVX (wordVrsubVX o)

/-- `VRSUB_VI` (R171). -/
def execVrsubVI (o : OpDAICK) (s : State) : Answer := s.issue .vrsubVI (wordVrsubVI o)

/-- `VMUL_VV` (R171). -/
def execVmulVV (o : OpDABCEK) (s : State) : Answer := s.issue .vmulVV (wordVmulVV o)

/-- `VMUL_VX` (R171). -/
def execVmulVX (o : OpDABCK) (s : State) : Answer := s.issue .vmulVX (wordVmulVX o)

/-- `VMUL_VI` (R171). -/
def execVmulVI (o : OpDAICK) (s : State) : Answer := s.issue .vmulVI (wordVmulVI o)

/-- `VMULH_VV` (R171). -/
def execVmulhVV (o : OpDABCEK) (s : State) : Answer := s.issue .vmulhVV (wordVmulhVV o)

/-- `VMULH_VX` (R171). -/
def execVmulhVX (o : OpDABCK) (s : State) : Answer := s.issue .vmulhVX (wordVmulhVX o)

/-- `VMULH_VI` (R171). -/
def execVmulhVI (o : OpDAICK) (s : State) : Answer := s.issue .vmulhVI (wordVmulhVI o)

/-- `VMULHN_VV` (R171). -/
def execVmulhnVV (o : OpDABCEK) (s : State) : Answer := s.issue .vmulhnVV (wordVmulhnVV o)

/-- `VMULHN_VX` (R171). -/
def execVmulhnVX (o : OpDABCK) (s : State) : Answer := s.issue .vmulhnVX (wordVmulhnVX o)

/-- `VMULHN_VI` (R171). -/
def execVmulhnVI (o : OpDAICK) (s : State) : Answer := s.issue .vmulhnVI (wordVmulhnVI o)

/-- `VAND_VV` (R171). -/
def execVandVV (o : OpDABCEK) (s : State) : Answer := s.issue .vandVV (wordVandVV o)

/-- `VAND_VX` (R171). -/
def execVandVX (o : OpDABCK) (s : State) : Answer := s.issue .vandVX (wordVandVX o)

/-- `VAND_VI` (R171). -/
def execVandVI (o : OpDAICK) (s : State) : Answer := s.issue .vandVI (wordVandVI o)

/-- `VOR_VV` (R171). -/
def execVorVV (o : OpDABCEK) (s : State) : Answer := s.issue .vorVV (wordVorVV o)

/-- `VOR_VX` (R171). -/
def execVorVX (o : OpDABCK) (s : State) : Answer := s.issue .vorVX (wordVorVX o)

/-- `VOR_VI` (R171). -/
def execVorVI (o : OpDAICK) (s : State) : Answer := s.issue .vorVI (wordVorVI o)

/-- `VXOR_VV` (R171). -/
def execVxorVV (o : OpDABCEK) (s : State) : Answer := s.issue .vxorVV (wordVxorVV o)

/-- `VXOR_VX` (R171). -/
def execVxorVX (o : OpDABCK) (s : State) : Answer := s.issue .vxorVX (wordVxorVX o)

/-- `VXOR_VI` (R171). -/
def execVxorVI (o : OpDAICK) (s : State) : Answer := s.issue .vxorVI (wordVxorVI o)

/-- `VSLL_VV` (R171). -/
def execVsllVV (o : OpDABCEK) (s : State) : Answer := s.issue .vsllVV (wordVsllVV o)

/-- `VSLL_VX` (R171). -/
def execVsllVX (o : OpDABCK) (s : State) : Answer := s.issue .vsllVX (wordVsllVX o)

/-- `VSLL_VI` (R171). -/
def execVsllVI (o : OpDAICK) (s : State) : Answer := s.issue .vsllVI (wordVsllVI o)

/-- `VSRL_VV` (R171). -/
def execVsrlVV (o : OpDABCEK) (s : State) : Answer := s.issue .vsrlVV (wordVsrlVV o)

/-- `VSRL_VX` (R171). -/
def execVsrlVX (o : OpDABCK) (s : State) : Answer := s.issue .vsrlVX (wordVsrlVX o)

/-- `VSRL_VI` (R171). -/
def execVsrlVI (o : OpDAICK) (s : State) : Answer := s.issue .vsrlVI (wordVsrlVI o)

/-- `VSRA_VV` (R171). -/
def execVsraVV (o : OpDABCEK) (s : State) : Answer := s.issue .vsraVV (wordVsraVV o)

/-- `VSRA_VX` (R171). -/
def execVsraVX (o : OpDABCK) (s : State) : Answer := s.issue .vsraVX (wordVsraVX o)

/-- `VSRA_VI` (R171). -/
def execVsraVI (o : OpDAICK) (s : State) : Answer := s.issue .vsraVI (wordVsraVI o)

/-- `VMIN_VV` (R171). -/
def execVminVV (o : OpDABCEK) (s : State) : Answer := s.issue .vminVV (wordVminVV o)

/-- `VMIN_VX` (R171). -/
def execVminVX (o : OpDABCK) (s : State) : Answer := s.issue .vminVX (wordVminVX o)

/-- `VMIN_VI` (R171). -/
def execVminVI (o : OpDAICK) (s : State) : Answer := s.issue .vminVI (wordVminVI o)

/-- `VMAX_VV` (R171). -/
def execVmaxVV (o : OpDABCEK) (s : State) : Answer := s.issue .vmaxVV (wordVmaxVV o)

/-- `VMAX_VX` (R171). -/
def execVmaxVX (o : OpDABCK) (s : State) : Answer := s.issue .vmaxVX (wordVmaxVX o)

/-- `VMAX_VI` (R171). -/
def execVmaxVI (o : OpDAICK) (s : State) : Answer := s.issue .vmaxVI (wordVmaxVI o)

/-- `VMINN_VV` (R171). -/
def execVminnVV (o : OpDABCEK) (s : State) : Answer := s.issue .vminnVV (wordVminnVV o)

/-- `VMINN_VX` (R171). -/
def execVminnVX (o : OpDABCK) (s : State) : Answer := s.issue .vminnVX (wordVminnVX o)

/-- `VMINN_VI` (R171). -/
def execVminnVI (o : OpDAICK) (s : State) : Answer := s.issue .vminnVI (wordVminnVI o)

/-- `VMAXN_VV` (R171). -/
def execVmaxnVV (o : OpDABCEK) (s : State) : Answer := s.issue .vmaxnVV (wordVmaxnVV o)

/-- `VMAXN_VX` (R171). -/
def execVmaxnVX (o : OpDABCK) (s : State) : Answer := s.issue .vmaxnVX (wordVmaxnVX o)

/-- `VMAXN_VI` (R171). -/
def execVmaxnVI (o : OpDAICK) (s : State) : Answer := s.issue .vmaxnVI (wordVmaxnVI o)

/-- `VSADD_VV` (R172). -/
def execVsaddVV (o : OpDABCEK) (s : State) : Answer := s.issue .vsaddVV (wordVsaddVV o)

/-- `VSADD_VX` (R172). -/
def execVsaddVX (o : OpDABCK) (s : State) : Answer := s.issue .vsaddVX (wordVsaddVX o)

/-- `VSSUB_VV` (R172). -/
def execVssubVV (o : OpDABCEK) (s : State) : Answer := s.issue .vssubVV (wordVssubVV o)

/-- `VSSUB_VX` (R172). -/
def execVssubVX (o : OpDABCK) (s : State) : Answer := s.issue .vssubVX (wordVssubVX o)

/-- `VSADDN_VV` (R172). -/
def execVsaddnVV (o : OpDABCEK) (s : State) : Answer := s.issue .vsaddnVV (wordVsaddnVV o)

/-- `VSADDN_VX` (R172). -/
def execVsaddnVX (o : OpDABCK) (s : State) : Answer := s.issue .vsaddnVX (wordVsaddnVX o)

/-- `VSSUBN_VV` (R172). -/
def execVssubnVV (o : OpDABCEK) (s : State) : Answer := s.issue .vssubnVV (wordVssubnVV o)

/-- `VSSUBN_VX` (R172). -/
def execVssubnVX (o : OpDABCK) (s : State) : Answer := s.issue .vssubnVX (wordVssubnVX o)

/-- `VDIV_VV` (R172). -/
def execVdivVV (o : OpDABCEK) (s : State) : Answer := s.issue .vdivVV (wordVdivVV o)

/-- `VDIV_VX` (R172). -/
def execVdivVX (o : OpDABCK) (s : State) : Answer := s.issue .vdivVX (wordVdivVX o)

/-- `VDIVN_VV` (R172). -/
def execVdivnVV (o : OpDABCEK) (s : State) : Answer := s.issue .vdivnVV (wordVdivnVV o)

/-- `VDIVN_VX` (R172). -/
def execVdivnVX (o : OpDABCK) (s : State) : Answer := s.issue .vdivnVX (wordVdivnVX o)

/-- `VREM_VV` (R172). -/
def execVremVV (o : OpDABCEK) (s : State) : Answer := s.issue .vremVV (wordVremVV o)

/-- `VREM_VX` (R172). -/
def execVremVX (o : OpDABCK) (s : State) : Answer := s.issue .vremVX (wordVremVX o)

/-- `VREMN_VV` (R172). -/
def execVremnVV (o : OpDABCEK) (s : State) : Answer := s.issue .vremnVV (wordVremnVV o)

/-- `VREMN_VX` (R172). -/
def execVremnVX (o : OpDABCK) (s : State) : Answer := s.issue .vremnVX (wordVremnVX o)

/-- `VMACC_VV` (R172). -/
def execVmaccVV (o : OpDABCEK) (s : State) : Answer := s.issue .vmaccVV (wordVmaccVV o)

/-- `VMACC_VX` (R172). -/
def execVmaccVX (o : OpDABCK) (s : State) : Answer := s.issue .vmaccVX (wordVmaccVX o)

/-- `VNMSAC_VV` (R172). -/
def execVnmsacVV (o : OpDABCEK) (s : State) : Answer := s.issue .vnmsacVV (wordVnmsacVV o)

/-- `VNMSAC_VX` (R172). -/
def execVnmsacVX (o : OpDABCK) (s : State) : Answer := s.issue .vnmsacVX (wordVnmsacVX o)

/-- `VAVG_VV` (R172). -/
def execVavgVV (o : OpDABCEK) (s : State) : Answer := s.issue .vavgVV (wordVavgVV o)

/-- `VAVG_VX` (R172). -/
def execVavgVX (o : OpDABCK) (s : State) : Answer := s.issue .vavgVX (wordVavgVX o)

/-- `VAVGN_VV` (R172). -/
def execVavgnVV (o : OpDABCEK) (s : State) : Answer := s.issue .vavgnVV (wordVavgnVV o)

/-- `VAVGN_VX` (R172). -/
def execVavgnVX (o : OpDABCK) (s : State) : Answer := s.issue .vavgnVX (wordVavgnVX o)

/-- `VABS` (R172). -/
def execVabs (o : OpDBEK) (s : State) : Answer := s.issue .vabs (wordVabs o)

/-- `VNEG` (R172). -/
def execVneg (o : OpDBEK) (s : State) : Answer := s.issue .vneg (wordVneg o)

/-- `VPOPC` (R172). -/
def execVpopc (o : OpDBEK) (s : State) : Answer := s.issue .vpopc (wordVpopc o)

/-- `VCLZ` (R172). -/
def execVclz (o : OpDBEK) (s : State) : Answer := s.issue .vclz (wordVclz o)

/-- `VWADD_VV` (R175). -/
def execVwaddVV (o : OpDABCEK) (s : State) : Answer := s.issue .vwaddVV (wordVwaddVV o)

/-- `VWADD_VX` (R175). -/
def execVwaddVX (o : OpDABCK) (s : State) : Answer := s.issue .vwaddVX (wordVwaddVX o)

/-- `VWADDN_VV` (R175). -/
def execVwaddnVV (o : OpDABCEK) (s : State) : Answer := s.issue .vwaddnVV (wordVwaddnVV o)

/-- `VWADDN_VX` (R175). -/
def execVwaddnVX (o : OpDABCK) (s : State) : Answer := s.issue .vwaddnVX (wordVwaddnVX o)

/-- `VWSUB_VV` (R175). -/
def execVwsubVV (o : OpDABCEK) (s : State) : Answer := s.issue .vwsubVV (wordVwsubVV o)

/-- `VWSUB_VX` (R175). -/
def execVwsubVX (o : OpDABCK) (s : State) : Answer := s.issue .vwsubVX (wordVwsubVX o)

/-- `VWSUBN_VV` (R175). -/
def execVwsubnVV (o : OpDABCEK) (s : State) : Answer := s.issue .vwsubnVV (wordVwsubnVV o)

/-- `VWSUBN_VX` (R175). -/
def execVwsubnVX (o : OpDABCK) (s : State) : Answer := s.issue .vwsubnVX (wordVwsubnVX o)

/-- `VWMUL_VV` (R175). -/
def execVwmulVV (o : OpDABCEK) (s : State) : Answer := s.issue .vwmulVV (wordVwmulVV o)

/-- `VWMUL_VX` (R175). -/
def execVwmulVX (o : OpDABCK) (s : State) : Answer := s.issue .vwmulVX (wordVwmulVX o)

/-- `VWMULN_VV` (R175). -/
def execVwmulnVV (o : OpDABCEK) (s : State) : Answer := s.issue .vwmulnVV (wordVwmulnVV o)

/-- `VWMULN_VX` (R175). -/
def execVwmulnVX (o : OpDABCK) (s : State) : Answer := s.issue .vwmulnVX (wordVwmulnVX o)

/-- `VWMACC_VV` (R175). -/
def execVwmaccVV (o : OpDABCEK) (s : State) : Answer := s.issue .vwmaccVV (wordVwmaccVV o)

/-- `VWMACC_VX` (R175). -/
def execVwmaccVX (o : OpDABCK) (s : State) : Answer := s.issue .vwmaccVX (wordVwmaccVX o)

/-- `VWMACCN_VV` (R175). -/
def execVwmaccnVV (o : OpDABCEK) (s : State) : Answer := s.issue .vwmaccnVV (wordVwmaccnVV o)

/-- `VWMACCN_VX` (R175). -/
def execVwmaccnVX (o : OpDABCK) (s : State) : Answer := s.issue .vwmaccnVX (wordVwmaccnVX o)

/-- `VNSRL_VV` (R176). -/
def execVnsrlVV (o : OpDABCEK) (s : State) : Answer := s.issue .vnsrlVV (wordVnsrlVV o)

/-- `VNSRL_VX` (R176). -/
def execVnsrlVX (o : OpDABCK) (s : State) : Answer := s.issue .vnsrlVX (wordVnsrlVX o)

/-- `VNSRA_VV` (R176). -/
def execVnsraVV (o : OpDABCEK) (s : State) : Answer := s.issue .vnsraVV (wordVnsraVV o)

/-- `VNSRA_VX` (R176). -/
def execVnsraVX (o : OpDABCK) (s : State) : Answer := s.issue .vnsraVX (wordVnsraVX o)

/-- `VNCLIP_VV` (R176). -/
def execVnclipVV (o : OpDABCEK) (s : State) : Answer := s.issue .vnclipVV (wordVnclipVV o)

/-- `VNCLIP_VX` (R176). -/
def execVnclipVX (o : OpDABCK) (s : State) : Answer := s.issue .vnclipVX (wordVnclipVX o)

/-- `VNCLIPN_VV` (R176). -/
def execVnclipnVV (o : OpDABCEK) (s : State) : Answer := s.issue .vnclipnVV (wordVnclipnVV o)

/-- `VNCLIPN_VX` (R176). -/
def execVnclipnVX (o : OpDABCK) (s : State) : Answer := s.issue .vnclipnVX (wordVnclipnVX o)

/-- `VFADD_VV` (R177). -/
def execVfaddVV (o : OpDABCEK) (s : State) : Answer := s.issue .vfaddVV (wordVfaddVV o)

/-- `VFADD_VX` (R177). -/
def execVfaddVX (o : OpDABCK) (s : State) : Answer := s.issue .vfaddVX (wordVfaddVX o)

/-- `VFSUB_VV` (R177). -/
def execVfsubVV (o : OpDABCEK) (s : State) : Answer := s.issue .vfsubVV (wordVfsubVV o)

/-- `VFSUB_VX` (R177). -/
def execVfsubVX (o : OpDABCK) (s : State) : Answer := s.issue .vfsubVX (wordVfsubVX o)

/-- `VFRSUB_VV` (R177). -/
def execVfrsubVV (o : OpDABCEK) (s : State) : Answer := s.issue .vfrsubVV (wordVfrsubVV o)

/-- `VFRSUB_VX` (R177). -/
def execVfrsubVX (o : OpDABCK) (s : State) : Answer := s.issue .vfrsubVX (wordVfrsubVX o)

/-- `VFMUL_VV` (R177). -/
def execVfmulVV (o : OpDABCEK) (s : State) : Answer := s.issue .vfmulVV (wordVfmulVV o)

/-- `VFMUL_VX` (R177). -/
def execVfmulVX (o : OpDABCK) (s : State) : Answer := s.issue .vfmulVX (wordVfmulVX o)

/-- `VFDIV_VV` (R177). -/
def execVfdivVV (o : OpDABCEK) (s : State) : Answer := s.issue .vfdivVV (wordVfdivVV o)

/-- `VFDIV_VX` (R177). -/
def execVfdivVX (o : OpDABCK) (s : State) : Answer := s.issue .vfdivVX (wordVfdivVX o)

/-- `VFRDIV_VV` (R177). -/
def execVfrdivVV (o : OpDABCEK) (s : State) : Answer := s.issue .vfrdivVV (wordVfrdivVV o)

/-- `VFRDIV_VX` (R177). -/
def execVfrdivVX (o : OpDABCK) (s : State) : Answer := s.issue .vfrdivVX (wordVfrdivVX o)

/-- `VFMIN_VV` (R177). -/
def execVfminVV (o : OpDABCEK) (s : State) : Answer := s.issue .vfminVV (wordVfminVV o)

/-- `VFMIN_VX` (R177). -/
def execVfminVX (o : OpDABCK) (s : State) : Answer := s.issue .vfminVX (wordVfminVX o)

/-- `VFMAX_VV` (R177). -/
def execVfmaxVV (o : OpDABCEK) (s : State) : Answer := s.issue .vfmaxVV (wordVfmaxVV o)

/-- `VFMAX_VX` (R177). -/
def execVfmaxVX (o : OpDABCK) (s : State) : Answer := s.issue .vfmaxVX (wordVfmaxVX o)

/-- `VFSGNJ_VV` (R177). -/
def execVfsgnjVV (o : OpDABCEK) (s : State) : Answer := s.issue .vfsgnjVV (wordVfsgnjVV o)

/-- `VFSGNJ_VX` (R177). -/
def execVfsgnjVX (o : OpDABCK) (s : State) : Answer := s.issue .vfsgnjVX (wordVfsgnjVX o)

/-- `VFSGNJN_VV` (R177). -/
def execVfsgnjnVV (o : OpDABCEK) (s : State) : Answer := s.issue .vfsgnjnVV (wordVfsgnjnVV o)

/-- `VFSGNJN_VX` (R177). -/
def execVfsgnjnVX (o : OpDABCK) (s : State) : Answer := s.issue .vfsgnjnVX (wordVfsgnjnVX o)

/-- `VFSGNJX_VV` (R177). -/
def execVfsgnjxVV (o : OpDABCEK) (s : State) : Answer := s.issue .vfsgnjxVV (wordVfsgnjxVV o)

/-- `VFSGNJX_VX` (R177). -/
def execVfsgnjxVX (o : OpDABCK) (s : State) : Answer := s.issue .vfsgnjxVX (wordVfsgnjxVX o)

/-- `VFMA_VV` (R177). -/
def execVfmaVV (o : OpDABCEK) (s : State) : Answer := s.issue .vfmaVV (wordVfmaVV o)

/-- `VFMA_VX` (R177). -/
def execVfmaVX (o : OpDABCK) (s : State) : Answer := s.issue .vfmaVX (wordVfmaVX o)

/-- `VFMS_VV` (R177). -/
def execVfmsVV (o : OpDABCEK) (s : State) : Answer := s.issue .vfmsVV (wordVfmsVV o)

/-- `VFMS_VX` (R177). -/
def execVfmsVX (o : OpDABCK) (s : State) : Answer := s.issue .vfmsVX (wordVfmsVX o)

/-- `VFNMA_VV` (R177). -/
def execVfnmaVV (o : OpDABCEK) (s : State) : Answer := s.issue .vfnmaVV (wordVfnmaVV o)

/-- `VFNMA_VX` (R177). -/
def execVfnmaVX (o : OpDABCK) (s : State) : Answer := s.issue .vfnmaVX (wordVfnmaVX o)

/-- `VFNMS_VV` (R177). -/
def execVfnmsVV (o : OpDABCEK) (s : State) : Answer := s.issue .vfnmsVV (wordVfnmsVV o)

/-- `VFNMS_VX` (R177). -/
def execVfnmsVX (o : OpDABCK) (s : State) : Answer := s.issue .vfnmsVX (wordVfnmsVX o)

/-- `VFSQRT` (R179). -/
def execVfsqrt (o : OpDBEKR) (s : State) : Answer := s.issue .vfsqrt (wordVfsqrt o)

/-- `VFRCP` (R180). -/
def execVfrcp (o : OpDBEKR) (s : State) : Answer := s.issue .vfrcp (wordVfrcp o)

/-- `VFRSQ` (R180). -/
def execVfrsq (o : OpDBEKR) (s : State) : Answer := s.issue .vfrsq (wordVfrsq o)

/-- `VFEXP2` (R180). -/
def execVfexp2 (o : OpDBEKR) (s : State) : Answer := s.issue .vfexp2 (wordVfexp2 o)

/-- `VFLOG2` (R180). -/
def execVflog2 (o : OpDBEKR) (s : State) : Answer := s.issue .vflog2 (wordVflog2 o)

/-- `VFSINP` (R180). -/
def execVfsinp (o : OpDBEKR) (s : State) : Answer := s.issue .vfsinp (wordVfsinp o)

/-- `VFCOSP` (R180). -/
def execVfcosp (o : OpDBEKR) (s : State) : Answer := s.issue .vfcosp (wordVfcosp o)

/-- `VFTANH` (R180). -/
def execVftanh (o : OpDBEKR) (s : State) : Answer := s.issue .vftanh (wordVftanh o)

/-- `VFABS` (R179). -/
def execVfabs (o : OpDBEKR) (s : State) : Answer := s.issue .vfabs (wordVfabs o)

/-- `VFNEG` (R179). -/
def execVfneg (o : OpDBEKR) (s : State) : Answer := s.issue .vfneg (wordVfneg o)

/-- `VFCLASS` (R179). -/
def execVfclass (o : OpDBEKR) (s : State) : Answer := s.issue .vfclass (wordVfclass o)

/-- `VFFLOOR` (R179). -/
def execVffloor (o : OpDBEKR) (s : State) : Answer := s.issue .vffloor (wordVffloor o)

/-- `VFCEIL` (R179). -/
def execVfceil (o : OpDBEKR) (s : State) : Answer := s.issue .vfceil (wordVfceil o)

/-- `VFROUND` (R179). -/
def execVfround (o : OpDBEKR) (s : State) : Answer := s.issue .vfround (wordVfround o)

/-- `VCVT_I32_F32` (R182). -/
def execVcvtI32F32 (o : OpDBEKSR) (s : State) : Answer := s.issue .vcvtI32F32 (wordVcvtI32F32 o)

/-- `VCVT_N32_F32` (R182). -/
def execVcvtN32F32 (o : OpDBEKSR) (s : State) : Answer := s.issue .vcvtN32F32 (wordVcvtN32F32 o)

/-- `VCVT_F32_I32` (R182). -/
def execVcvtF32I32 (o : OpDBEKSR) (s : State) : Answer := s.issue .vcvtF32I32 (wordVcvtF32I32 o)

/-- `VCVT_F32_N32` (R182). -/
def execVcvtF32N32 (o : OpDBEKSR) (s : State) : Answer := s.issue .vcvtF32N32 (wordVcvtF32N32 o)

/-- `VCVT_I64_F64` (R182). -/
def execVcvtI64F64 (o : OpDBEKSR) (s : State) : Answer := s.issue .vcvtI64F64 (wordVcvtI64F64 o)

/-- `VCVT_N64_F64` (R182). -/
def execVcvtN64F64 (o : OpDBEKSR) (s : State) : Answer := s.issue .vcvtN64F64 (wordVcvtN64F64 o)

/-- `VCVT_F64_I64` (R182). -/
def execVcvtF64I64 (o : OpDBEKSR) (s : State) : Answer := s.issue .vcvtF64I64 (wordVcvtF64I64 o)

/-- `VCVT_F64_N64` (R182). -/
def execVcvtF64N64 (o : OpDBEKSR) (s : State) : Answer := s.issue .vcvtF64N64 (wordVcvtF64N64 o)

/-- `VCVT_F64_F32` (R182). -/
def execVcvtF64F32 (o : OpDBEKSR) (s : State) : Answer := s.issue .vcvtF64F32 (wordVcvtF64F32 o)

/-- `VCVT_F32_F64` (R182). -/
def execVcvtF32F64 (o : OpDBEKSR) (s : State) : Answer := s.issue .vcvtF32F64 (wordVcvtF32F64 o)

/-- `VCVT_H_F32` (R182). -/
def execVcvtHF32 (o : OpDBEKSR) (s : State) : Answer := s.issue .vcvtHF32 (wordVcvtHF32 o)

/-- `VCVT_BF_F32` (R182). -/
def execVcvtBfF32 (o : OpDBEKSR) (s : State) : Answer := s.issue .vcvtBfF32 (wordVcvtBfF32 o)

/-- `VCVT_F32_H` (R182). -/
def execVcvtF32H (o : OpDBEKSR) (s : State) : Answer := s.issue .vcvtF32H (wordVcvtF32H o)

/-- `VCVT_F32_BF` (R182). -/
def execVcvtF32Bf (o : OpDBEKSR) (s : State) : Answer := s.issue .vcvtF32Bf (wordVcvtF32Bf o)

/-- `VCVT_B8_F32` (R182). -/
def execVcvtB8F32 (o : OpDBEKSR) (s : State) : Answer := s.issue .vcvtB8F32 (wordVcvtB8F32 o)

/-- `VCVT_F32_B8` (R182). -/
def execVcvtF32B8 (o : OpDBEKSR) (s : State) : Answer := s.issue .vcvtF32B8 (wordVcvtF32B8 o)

/-- `VCVT_B8_H` (R182). -/
def execVcvtB8H (o : OpDBEKSR) (s : State) : Answer := s.issue .vcvtB8H (wordVcvtB8H o)

/-- `VCVT_H_B8` (R182). -/
def execVcvtHB8 (o : OpDBEKSR) (s : State) : Answer := s.issue .vcvtHB8 (wordVcvtHB8 o)

/-- `VCVT_B8_BF` (R182). -/
def execVcvtB8Bf (o : OpDBEKSR) (s : State) : Answer := s.issue .vcvtB8Bf (wordVcvtB8Bf o)

/-- `VCVT_BF_B8` (R182). -/
def execVcvtBfB8 (o : OpDBEKSR) (s : State) : Answer := s.issue .vcvtBfB8 (wordVcvtBfB8 o)

/-- `VCVT_E4_F32` (R182). -/
def execVcvtE4F32 (o : OpDBEKSR) (s : State) : Answer := s.issue .vcvtE4F32 (wordVcvtE4F32 o)

/-- `VCVT_F32_E4` (R182). -/
def execVcvtF32E4 (o : OpDBEKSR) (s : State) : Answer := s.issue .vcvtF32E4 (wordVcvtF32E4 o)

/-- `VCVT_H_E4` (R182). -/
def execVcvtHE4 (o : OpDBEKSR) (s : State) : Answer := s.issue .vcvtHE4 (wordVcvtHE4 o)

/-- `VCVT_Q4_F32` (R182). -/
def execVcvtQ4F32 (o : OpDBEKSR) (s : State) : Answer := s.issue .vcvtQ4F32 (wordVcvtQ4F32 o)

/-- `VCVT_F32_Q4` (R182). -/
def execVcvtF32Q4 (o : OpDBEKSR) (s : State) : Answer := s.issue .vcvtF32Q4 (wordVcvtF32Q4 o)

/-- `VCVT_H_Q4` (R182). -/
def execVcvtHQ4 (o : OpDBEKSR) (s : State) : Answer := s.issue .vcvtHQ4 (wordVcvtHQ4 o)

/-- `VCMP_EQ_VV` (R183). -/
def execVcmpEqVV (o : OpD3ABCEK) (s : State) : Answer := s.issue .vcmpEqVV (wordVcmpEqVV o)

/-- `VCMP_EQ_VX` (R183). -/
def execVcmpEqVX (o : OpD3ABCK) (s : State) : Answer := s.issue .vcmpEqVX (wordVcmpEqVX o)

/-- `VCMP_NE_VV` (R183). -/
def execVcmpNeVV (o : OpD3ABCEK) (s : State) : Answer := s.issue .vcmpNeVV (wordVcmpNeVV o)

/-- `VCMP_NE_VX` (R183). -/
def execVcmpNeVX (o : OpD3ABCK) (s : State) : Answer := s.issue .vcmpNeVX (wordVcmpNeVX o)

/-- `VCMP_LT_VV` (R183). -/
def execVcmpLtVV (o : OpD3ABCEK) (s : State) : Answer := s.issue .vcmpLtVV (wordVcmpLtVV o)

/-- `VCMP_LT_VX` (R183). -/
def execVcmpLtVX (o : OpD3ABCK) (s : State) : Answer := s.issue .vcmpLtVX (wordVcmpLtVX o)

/-- `VCMP_LE_VV` (R183). -/
def execVcmpLeVV (o : OpD3ABCEK) (s : State) : Answer := s.issue .vcmpLeVV (wordVcmpLeVV o)

/-- `VCMP_LE_VX` (R183). -/
def execVcmpLeVX (o : OpD3ABCK) (s : State) : Answer := s.issue .vcmpLeVX (wordVcmpLeVX o)

/-- `VCMP_LTN_VV` (R183). -/
def execVcmpLtnVV (o : OpD3ABCEK) (s : State) : Answer := s.issue .vcmpLtnVV (wordVcmpLtnVV o)

/-- `VCMP_LTN_VX` (R183). -/
def execVcmpLtnVX (o : OpD3ABCK) (s : State) : Answer := s.issue .vcmpLtnVX (wordVcmpLtnVX o)

/-- `VCMP_LEN_VV` (R183). -/
def execVcmpLenVV (o : OpD3ABCEK) (s : State) : Answer := s.issue .vcmpLenVV (wordVcmpLenVV o)

/-- `VCMP_LEN_VX` (R183). -/
def execVcmpLenVX (o : OpD3ABCK) (s : State) : Answer := s.issue .vcmpLenVX (wordVcmpLenVX o)

/-- `VCMP_GT_VV` (R183). -/
def execVcmpGtVV (o : OpD3ABCEK) (s : State) : Answer := s.issue .vcmpGtVV (wordVcmpGtVV o)

/-- `VCMP_GT_VX` (R183). -/
def execVcmpGtVX (o : OpD3ABCK) (s : State) : Answer := s.issue .vcmpGtVX (wordVcmpGtVX o)

/-- `VCMP_GE_VV` (R183). -/
def execVcmpGeVV (o : OpD3ABCEK) (s : State) : Answer := s.issue .vcmpGeVV (wordVcmpGeVV o)

/-- `VCMP_GE_VX` (R183). -/
def execVcmpGeVX (o : OpD3ABCK) (s : State) : Answer := s.issue .vcmpGeVX (wordVcmpGeVX o)

/-- `VCMP_FEQ_VV` (R183). -/
def execVcmpFeqVV (o : OpD3ABCEK) (s : State) : Answer := s.issue .vcmpFeqVV (wordVcmpFeqVV o)

/-- `VCMP_FEQ_VX` (R183). -/
def execVcmpFeqVX (o : OpD3ABCK) (s : State) : Answer := s.issue .vcmpFeqVX (wordVcmpFeqVX o)

/-- `VCMP_FNE_VV` (R183). -/
def execVcmpFneVV (o : OpD3ABCEK) (s : State) : Answer := s.issue .vcmpFneVV (wordVcmpFneVV o)

/-- `VCMP_FNE_VX` (R183). -/
def execVcmpFneVX (o : OpD3ABCK) (s : State) : Answer := s.issue .vcmpFneVX (wordVcmpFneVX o)

/-- `VCMP_FLT_VV` (R183). -/
def execVcmpFltVV (o : OpD3ABCEK) (s : State) : Answer := s.issue .vcmpFltVV (wordVcmpFltVV o)

/-- `VCMP_FLT_VX` (R183). -/
def execVcmpFltVX (o : OpD3ABCK) (s : State) : Answer := s.issue .vcmpFltVX (wordVcmpFltVX o)

/-- `VCMP_FLE_VV` (R183). -/
def execVcmpFleVV (o : OpD3ABCEK) (s : State) : Answer := s.issue .vcmpFleVV (wordVcmpFleVV o)

/-- `VCMP_FLE_VX` (R183). -/
def execVcmpFleVX (o : OpD3ABCK) (s : State) : Answer := s.issue .vcmpFleVX (wordVcmpFleVX o)

/-- `VCMP_FGT_VV` (R183). -/
def execVcmpFgtVV (o : OpD3ABCEK) (s : State) : Answer := s.issue .vcmpFgtVV (wordVcmpFgtVV o)

/-- `VCMP_FGT_VX` (R183). -/
def execVcmpFgtVX (o : OpD3ABCK) (s : State) : Answer := s.issue .vcmpFgtVX (wordVcmpFgtVX o)

/-- `VCMP_FGE_VV` (R183). -/
def execVcmpFgeVV (o : OpD3ABCEK) (s : State) : Answer := s.issue .vcmpFgeVV (wordVcmpFgeVV o)

/-- `VCMP_FGE_VX` (R183). -/
def execVcmpFgeVX (o : OpD3ABCK) (s : State) : Answer := s.issue .vcmpFgeVX (wordVcmpFgeVX o)

/-- `VCMP_FUNORD_VV` (R183). -/
def execVcmpFunordVV (o : OpD3ABCEK) (s : State) : Answer := s.issue .vcmpFunordVV (wordVcmpFunordVV o)

/-- `VCMP_FUNORD_VX` (R183). -/
def execVcmpFunordVX (o : OpD3ABCK) (s : State) : Answer := s.issue .vcmpFunordVX (wordVcmpFunordVX o)

/-- `VCMP_FORD_VV` (R183). -/
def execVcmpFordVV (o : OpD3ABCEK) (s : State) : Answer := s.issue .vcmpFordVV (wordVcmpFordVV o)

/-- `VCMP_FORD_VX` (R183). -/
def execVcmpFordVX (o : OpD3ABCK) (s : State) : Answer := s.issue .vcmpFordVX (wordVcmpFordVX o)

/-- `KAND` (R186). -/
def execKand (o : OpD3A3B3CEK) (s : State) : Answer := s.issue .kand (wordKand o)

/-- `KOR` (R186). -/
def execKor (o : OpD3A3B3CEK) (s : State) : Answer := s.issue .kor (wordKor o)

/-- `KXOR` (R186). -/
def execKxor (o : OpD3A3B3CEK) (s : State) : Answer := s.issue .kxor (wordKxor o)

/-- `KANDN` (R186). -/
def execKandn (o : OpD3A3B3CEK) (s : State) : Answer := s.issue .kandn (wordKandn o)

/-- `KNOT` (R186). -/
def execKnot (o : OpD3B3EK) (s : State) : Answer := s.issue .knot (wordKnot o)

/-- `KMOV` (R186). -/
def execKmov (o : OpD3B3EK) (s : State) : Answer := s.issue .kmov (wordKmov o)

/-- `KPOP` (R187). -/
def execKpop (o : OpDB3EK) (s : State) : Answer := s.issue .kpop (wordKpop o)

/-- `KFIRST` (R187). -/
def execKfirst (o : OpDB3EK) (s : State) : Answer := s.issue .kfirst (wordKfirst o)

/-- `KIOTA` (R188). -/
def execKiota (o : OpDB3EK) (s : State) : Answer := s.issue .kiota (wordKiota o)

/-- `VMERGE` (R190). -/
def execVmerge (o : OpDABCEK) (s : State) : Answer := s.issue .vmerge (wordVmerge o)

/-- `VCOMPRESS` (R191). -/
def execVcompress (o : OpDBEK) (s : State) : Answer := s.issue .vcompress (wordVcompress o)

/-- `VEXPAND` (R191). -/
def execVexpand (o : OpDBEK) (s : State) : Answer := s.issue .vexpand (wordVexpand o)

/-- `KSETX` (R189). -/
def execKsetx (o : OpD3ABK) (s : State) : Answer := s.issue .ksetx (wordKsetx o)

/-- `VSLIDEUP` (R192). -/
def execVslideup (o : OpDABCK) (s : State) : Answer := s.issue .vslideup (wordVslideup o)

/-- `VSLIDEDN` (R192). -/
def execVslidedn (o : OpDABCK) (s : State) : Answer := s.issue .vslidedn (wordVslidedn o)

/-- `VPERMV` (R192). -/
def execVpermv (o : OpDABCEK) (s : State) : Answer := s.issue .vpermv (wordVpermv o)

/-- `VBCAST` (R192). -/
def execVbcast (o : OpDABCK) (s : State) : Answer := s.issue .vbcast (wordVbcast o)

/-- `VEXTRACT` (R193). -/
def execVextract (o : OpDABC) (s : State) : Answer := s.issue .vextract (wordVextract o)

/-- `VINSERT` (R193). -/
def execVinsert (o : OpDAB) (s : State) : Answer := s.issue .vinsert (wordVinsert o)

/-- `VILV` (R194). -/
def execVilv (o : OpDABCEK) (s : State) : Answer := s.issue .vilv (wordVilv o)

/-- `VDILV` (R194). -/
def execVdilv (o : OpDACK) (s : State) : Answer := s.issue .vdilv (wordVdilv o)

/-- `VID` (R195). -/
def execVid (o : OpDK) (s : State) : Answer := s.issue .vid (wordVid o)

/-- `VRAND` (R196). -/
def execVrand (o : OpDAK) (s : State) : Answer := s.issue .vrand (wordVrand o)

/-- `VMV_V` (R195). -/
def execVmvV (o : OpDBEK) (s : State) : Answer := s.issue .vmvV (wordVmvV o)

/-- `VMV_X` (R195). -/
def execVmvX (o : OpDBK) (s : State) : Answer := s.issue .vmvX (wordVmvX o)

/-- `VREDSUM` (R197). -/
def execVredsum (o : OpDABCEK) (s : State) : Answer := s.issue .vredsum (wordVredsum o)

/-- `VREDMIN` (R197). -/
def execVredmin (o : OpDABCEK) (s : State) : Answer := s.issue .vredmin (wordVredmin o)

/-- `VREDMAX` (R197). -/
def execVredmax (o : OpDABCEK) (s : State) : Answer := s.issue .vredmax (wordVredmax o)

/-- `VREDMINN` (R197). -/
def execVredminn (o : OpDABCEK) (s : State) : Answer := s.issue .vredminn (wordVredminn o)

/-- `VREDMAXN` (R197). -/
def execVredmaxn (o : OpDABCEK) (s : State) : Answer := s.issue .vredmaxn (wordVredmaxn o)

/-- `VREDAND` (R197). -/
def execVredand (o : OpDABCEK) (s : State) : Answer := s.issue .vredand (wordVredand o)

/-- `VREDOR` (R197). -/
def execVredor (o : OpDABCEK) (s : State) : Answer := s.issue .vredor (wordVredor o)

/-- `VREDXOR` (R197). -/
def execVredxor (o : OpDABCEK) (s : State) : Answer := s.issue .vredxor (wordVredxor o)

/-- `VFSUM` (R166). -/
def execVfsum (o : OpDABCEK) (s : State) : Answer := s.issue .vfsum (wordVfsum o)

/-- `VFSUMO` (R166). -/
def execVfsumo (o : OpDABCEK) (s : State) : Answer := s.issue .vfsumo (wordVfsumo o)

/-- `VFREDMIN` (R198). -/
def execVfredmin (o : OpDABCEK) (s : State) : Answer := s.issue .vfredmin (wordVfredmin o)

/-- `VFREDMAX` (R198). -/
def execVfredmax (o : OpDABCEK) (s : State) : Answer := s.issue .vfredmax (wordVfredmax o)

/-- `VWSUM` (R197). -/
def execVwsum (o : OpDABCEK) (s : State) : Answer := s.issue .vwsum (wordVwsum o)

/-- `VBSHL` (R199). -/
def execVbshl (o : OpDABCK) (s : State) : Answer := s.issue .vbshl (wordVbshl o)

/-- `VBSHR` (R199). -/
def execVbshr (o : OpDABCK) (s : State) : Answer := s.issue .vbshr (wordVbshr o)

/-- `VBFUN` (R199). -/
def execVbfun (o : OpDABCK) (s : State) : Answer := s.issue .vbfun (wordVbfun o)

/-- `VTERNLOG` (R200). -/
def execVternlog (o : OpDABI) (s : State) : Answer := s.issue .vternlog (wordVternlog o)

/-- `VLD` (R226). -/
def execVld (o : OpDAOK) (s : State) : Answer := s.issue .vld (wordVld o)

/-- `VLD_REG` (R228). -/
def execVldReg (o : OpDA) (s : State) : Answer := s.issue .vldReg (wordVldReg o)

/-- `VLDS` (R226). -/
def execVlds (o : OpDABOK) (s : State) : Answer := s.issue .vlds (wordVlds o)

/-- `VLDX` (R226). -/
def execVldx (o : OpDABCOK) (s : State) : Answer := s.issue .vldx (wordVldx o)

/-- `VST` (R226). -/
def execVst (o : OpDACOK) (s : State) : Answer := s.issue .vst (wordVst o)

/-- `VST_REG` (R228). -/
def execVstReg (o : OpDAC) (s : State) : Answer := s.issue .vstReg (wordVstReg o)

/-- `VSTS` (R226). -/
def execVsts (o : OpDABCOK) (s : State) : Answer := s.issue .vsts (wordVsts o)

/-- `VSTX` (R226). -/
def execVstx (o : OpDABCOK) (s : State) : Answer := s.issue .vstx (wordVstx o)

/-- `VGLL` (R229). -/
def execVgll (o : OpDABCK) (s : State) : Answer := s.issue .vgll (wordVgll o)

/-- `VSCC` (R230). -/
def execVscc (o : OpDABCK) (s : State) : Answer := s.issue .vscc (wordVscc o)

/-- `VACC` (R338). -/
def execVacc (o : OpDABCK) (s : State) : Answer := s.issue .vacc (wordVacc o)

/-- `VLDW_E4_H` (R231). -/
def execVldwE4H (o : OpDABK) (s : State) : Answer := s.issue .vldwE4H (wordVldwE4H o)

/-- `VLDW_E4_BF` (R231). -/
def execVldwE4Bf (o : OpDABK) (s : State) : Answer := s.issue .vldwE4Bf (wordVldwE4Bf o)

/-- `VLDW_E4_B8` (R231). -/
def execVldwE4B8 (o : OpDABK) (s : State) : Answer := s.issue .vldwE4B8 (wordVldwE4B8 o)

/-- `VLDW_Q4_H` (R231). -/
def execVldwQ4H (o : OpDABK) (s : State) : Answer := s.issue .vldwQ4H (wordVldwQ4H o)

/-- `VLDW_Q4_BF` (R231). -/
def execVldwQ4Bf (o : OpDABK) (s : State) : Answer := s.issue .vldwQ4Bf (wordVldwQ4Bf o)

/-- `VLDW_Q4_B8` (R231). -/
def execVldwQ4B8 (o : OpDABK) (s : State) : Answer := s.issue .vldwQ4B8 (wordVldwQ4B8 o)

/-- `GSUB` (R252). -/
def execGsub (o : OpDABCEK) (s : State) : Answer := s.issue .gsub (wordGsub o)

/-- `GADD` (R252). -/
def execGadd (o : OpDABCEK) (s : State) : Answer := s.issue .gadd (wordGadd o)

/-- `GLEN` (R254). -/
def execGlen (o : OpDBEK) (s : State) : Answer := s.issue .glen (wordGlen o)

/-- `GTAG` (R255). -/
def execGtag (o : OpDBEK) (s : State) : Answer := s.issue .gtag (wordGtag o)

/-- `GPACK` (R255). -/
def execGpack (o : OpDABCEK) (s : State) : Answer := s.issue .gpack (wordGpack o)

/-- `GUNPACK` (R255). -/
def execGunpack (o : OpDBEK) (s : State) : Answer := s.issue .gunpack (wordGunpack o)

/-- `GREHOME` (R256). -/
def execGrehome (o : OpDBEK) (s : State) : Answer := s.issue .grehome (wordGrehome o)

/-- `GDOT` (R254). -/
def execGdot (o : OpDABCEK) (s : State) : Answer := s.issue .gdot (wordGdot o)

/-- `GCVT` (R253). -/
def execGcvt (o : OpDABCK) (s : State) : Answer := s.issue .gcvt (wordGcvt o)

/-- `GSCL` (R254). -/
def execGscl (o : OpDABCK) (s : State) : Answer := s.issue .gscl (wordGscl o)

/-- `GSETTAG` (R255). -/
def execGsettag (o : OpDABCK) (s : State) : Answer := s.issue .gsettag (wordGsettag o)

/-- `GMORTON` (R257). -/
def execGmorton (o : OpDABCK) (s : State) : Answer := s.issue .gmorton (wordGmorton o)

/-- `GNBR` (R258). -/
def execGnbr (o : OpDABCK) (s : State) : Answer := s.issue .gnbr (wordGnbr o)

/-- `VCELLINS` (R261). -/
def execVcellins (o : OpDABEK) (s : State) : Answer := s.issue .vcellins (wordVcellins o)

/-- `VCELLFIND` (R262). -/
def execVcellfind (o : OpDABEK) (s : State) : Answer := s.issue .vcellfind (wordVcellfind o)

/-- `RECUR` (R277). -/
def execRecur (o : OpDAB) (s : State) : Answer := s.issue .recur (wordRecur o)

/-- `RSPAWN` (R278). -/
def execRspawn (o : OpACK) (s : State) : Answer := s.issue .rspawn (wordRspawn o)

/-- `RRET` (R279). -/
def execRret (o : OpACK) (s : State) : Answer := s.issue .rret (wordRret o)

/-- `RKIDS` (R280). -/
def execRkids (o : OpDBK) (s : State) : Answer := s.issue .rkids (wordRkids o)

/-- `RDEPTH` (R281). -/
def execRdepth (o : OpDK) (s : State) : Answer := s.issue .rdepth (wordRdepth o)

/-- `RNKID` (R281). -/
def execRnkid (o : OpDK) (s : State) : Answer := s.issue .rnkid (wordRnkid o)

/-- `MZERO` (R210). -/
def execMzero (o : OpD) (s : State) : Answer := s.issue .mzero (wordMzero o)

/-- `MROWV` (R210). -/
def execMrowv (o : OpDABK) (s : State) : Answer := s.issue .mrowv (wordMrowv o)

/-- `MVROW` (R210). -/
def execMvrow (o : OpDABCK) (s : State) : Answer := s.issue .mvrow (wordMvrow o)

/-- `MCOLV` (R210). -/
def execMcolv (o : OpDABK) (s : State) : Answer := s.issue .mcolv (wordMcolv o)

/-- `MVCOL` (R210). -/
def execMvcol (o : OpDABCK) (s : State) : Answer := s.issue .mvcol (wordMvcol o)

/-- `MDRAIN` (R213). -/
def execMdrain (o : OpDAB) (s : State) : Answer := s.issue .mdrain (wordMdrain o)

/-- `MLOAD` (R212). -/
def execMload (o : OpDAB) (s : State) : Answer := s.issue .mload (wordMload o)

/-- `AMERGE` (R340). -/
def execAmerge (o : OpAB) (s : State) : Answer := s.issue .amerge (wordAmerge o)

/-- `SACC` (R339). -/
def execSacc (o : OpAB) (s : State) : Answer := s.issue .sacc (wordSacc o)

/-- `OPACC` (R208). -/
def execOpacc (o : OpTile) (s : State) : Answer := s.issue .opacc (wordOpacc o)

/-- `OPSUB` (R208). -/
def execOpsub (o : OpTile) (s : State) : Answer := s.issue .opsub (wordOpsub o)

/-- `OPACCW` (R208). -/
def execOpaccw (o : OpTile) (s : State) : Answer := s.issue .opaccw (wordOpaccw o)

/-- `C_VFETCH` (R74). -/
def execCVfetch (o : OpCA) (s : State) : Answer := s.issue .cVfetch (wordCVfetch o)

end Sys2Proof.Machine
end

