-- ==== Sys2Proof/Machine/Dispatch.lean ====
section
/-! DEFINITION. The meaning of every instruction and device step: one arm per constructor of `Instr`, in the table's order. -/

namespace Sys2Proof.Machine

def exec (i : Instr) (s : State) : Host.Outcome State Fault Refusal :=
  match i with
  | .powerGood => Sys2Proof.Machine.execPowerGood s
  | .bringupStageComplete err => Sys2Proof.Machine.execBringupStageComplete err s
  | .ctrlWreset port => Sys2Proof.Machine.execCtrlWreset port s
  | .ctrlBootretry port => Sys2Proof.Machine.execCtrlBootretry port s
  | .ctrlModelock port => Sys2Proof.Machine.execCtrlModelock port s
  | .ctrlCfglock port => Sys2Proof.Machine.execCtrlCfglock port s
  | .ctrlWinlock port => Sys2Proof.Machine.execCtrlWinlock port s
  | .hsemRead port => Sys2Proof.Machine.execHsemRead port s
  | .hsemRelease port => Sys2Proof.Machine.execHsemRelease port s
  | .funcmodeWrite port value => Sys2Proof.Machine.execFuncmodeWrite port value s
  | .registerWrite port off value => Sys2Proof.Machine.execRegisterWrite port off value s
  | .hostLinkDown port => Sys2Proof.Machine.execHostLinkDown port s
  | .wakeWindowWrite port off value => Sys2Proof.Machine.execWakeWindowWrite port off value s
  | .evackWrite port value => Sys2Proof.Machine.execEvackWrite port value s
  | .eventPost port => Sys2Proof.Machine.execEventPost port s
  | .launchRequestGo host n => Sys2Proof.Machine.execLaunchRequestGo host n s
  | .sealWindowSeal port => Sys2Proof.Machine.execSealWindowSeal port s
  | .sealWindowRevoke port => Sys2Proof.Machine.execSealWindowRevoke port s
  | .preemptTimer die value => Sys2Proof.Machine.execPreemptTimer die value s
  | .preemptHost die value => Sys2Proof.Machine.execPreemptHost die value s
  | .migrationGo die => Sys2Proof.Machine.execMigrationGo die s
  | .migrationRetire die => Sys2Proof.Machine.execMigrationRetire die s
  | .watchdogWrite die => Sys2Proof.Machine.execWatchdogWrite die s
  | .watchdogExpiry die => Sys2Proof.Machine.execWatchdogExpiry die s
  | .backgroundInitRegion => Sys2Proof.Machine.execBackgroundInitRegion s
  | .graphSubmissionPop ring => Sys2Proof.Machine.execGraphSubmissionPop ring s
  | .nodeStart g n => Sys2Proof.Machine.execNodeStart g n s
  | .readyRingPost g n => Sys2Proof.Machine.execReadyRingPost g n s
  | .nodeFinish g n => Sys2Proof.Machine.execNodeFinish g n s
  | .remoteSuccessorReady g n => Sys2Proof.Machine.execRemoteSuccessorReady g n s
  | .completionPushRetry g => Sys2Proof.Machine.execCompletionPushRetry g s
  | .admissionGranted r => Sys2Proof.Machine.execAdmissionGranted r s
  | .jobComplete j => Sys2Proof.Machine.execJobComplete j s
  | .jobEndByRecovery j => Sys2Proof.Machine.execJobEndByRecovery j s
  | .stripBoundaryGrantChange h => Sys2Proof.Machine.execStripBoundaryGrantChange h s
  | .forcedBoundary h => Sys2Proof.Machine.execForcedBoundary h s
  | .leaseStallPreempt h => Sys2Proof.Machine.execLeaseStallPreempt h s
  | .clusterRetire die stable cluster => Sys2Proof.Machine.execClusterRetire die stable cluster s
  | .vectorEntryComplete h => Sys2Proof.Machine.execVectorEntryComplete h s
  | .readQueueReturn h => Sys2Proof.Machine.execReadQueueReturn h s
  | .blockGroupCommit h => Sys2Proof.Machine.execBlockGroupCommit h s
  | .stripAssign h => Sys2Proof.Machine.execStripAssign h s
  | .hartHaltComplete h => Sys2Proof.Machine.execHartHaltComplete h s
  | .trapTake h => Sys2Proof.Machine.execTrapTake h s
  | .translationFaultReply die slot => Sys2Proof.Machine.execTranslationFaultReply die slot s
  | .engineTransferStart h n => Sys2Proof.Machine.execEngineTransferStart h n s
  | .engineChunkComplete h n => Sys2Proof.Machine.execEngineChunkComplete h n s
  | .engineTransferComplete h n => Sys2Proof.Machine.execEngineTransferComplete h n s
  | .mdrainTransferComplete h n => Sys2Proof.Machine.execMdrainTransferComplete h n s
  | .recursionPassComplete h => Sys2Proof.Machine.execRecursionPassComplete h s
  | .directoryReadRequest die agent line => Sys2Proof.Machine.execDirectoryReadRequest die agent line s
  | .directoryWriteRequest die agent line => Sys2Proof.Machine.execDirectoryWriteRequest die agent line s
  | .invalidation die agent line => Sys2Proof.Machine.execInvalidation die agent line s
  | .invalidationAck die agent line => Sys2Proof.Machine.execInvalidationAck die agent line s
  | .evictionNotice die agent line => Sys2Proof.Machine.execEvictionNotice die agent line s
  | .forwardSnoop die agent line => Sys2Proof.Machine.execForwardSnoop die agent line s
  | .writeBack die agent line => Sys2Proof.Machine.execWriteBack die agent line s
  | .backInvalidation line => Sys2Proof.Machine.execBackInvalidation line s
  | .uRequest die agent line op => Sys2Proof.Machine.execURequest die agent line op s
  | .mergeRequest line => Sys2Proof.Machine.execMergeRequest line s
  | .mergeResponse line => Sys2Proof.Machine.execMergeResponse line s
  | .movedResponse h line => Sys2Proof.Machine.execMovedResponse h line s
  | .hostCxlRequest port write addr value => Sys2Proof.Machine.execHostCxlRequest port write addr value s
  | .bisnpResponse port line => Sys2Proof.Machine.execBisnpResponse port line s
  | .hostSnoop port line => Sys2Proof.Machine.execHostSnoop port line s
  | .dieResetRecall die => Sys2Proof.Machine.execDieResetRecall die s
  | .dieReturn die => Sys2Proof.Machine.execDieReturn die s
  | .memoryScrub addr => Sys2Proof.Machine.execMemoryScrub addr s
  | .correctedError die counter => Sys2Proof.Machine.execCorrectedError die counter s
  | .burzerCrcReplay link => Sys2Proof.Machine.execBurzerCrcReplay link s
  | .burzerHeartbeat link => Sys2Proof.Machine.execBurzerHeartbeat link s
  | .peerSilenceTimeout dev => Sys2Proof.Machine.execPeerSilenceTimeout dev s
  | .spareAssign dev => Sys2Proof.Machine.execSpareAssign dev s
  | .checkpointRestore => Sys2Proof.Machine.execCheckpointRestore s
  | .checkpointWrite => Sys2Proof.Machine.execCheckpointWrite s
  | .thermalShutdown => Sys2Proof.Machine.execThermalShutdown s
  | .coolantLossShutdown => Sys2Proof.Machine.execCoolantLossShutdown s
  | .clockThrottle die level => Sys2Proof.Machine.execClockThrottle die level s
  | .wfeTimeout h => Sys2Proof.Machine.execWfeTimeout h s
  | .waitmTimeout h => Sys2Proof.Machine.execWaitmTimeout h s
  | .add o => Sys2Proof.Machine.execAdd o s
  | .sub o => Sys2Proof.Machine.execSub o s
  | .and o => Sys2Proof.Machine.execAnd o s
  | .or o => Sys2Proof.Machine.execOr o s
  | .xor o => Sys2Proof.Machine.execXor o s
  | .sll o => Sys2Proof.Machine.execSll o s
  | .srl o => Sys2Proof.Machine.execSrl o s
  | .sra o => Sys2Proof.Machine.execSra o s
  | .slt o => Sys2Proof.Machine.execSlt o s
  | .sltn o => Sys2Proof.Machine.execSltn o s
  | .min o => Sys2Proof.Machine.execMin o s
  | .max o => Sys2Proof.Machine.execMax o s
  | .minn o => Sys2Proof.Machine.execMinn o s
  | .maxn o => Sys2Proof.Machine.execMaxn o s
  | .andn o => Sys2Proof.Machine.execAndn o s
  | .orn o => Sys2Proof.Machine.execOrn o s
  | .rol o => Sys2Proof.Machine.execRol o s
  | .ror o => Sys2Proof.Machine.execRor o s
  | .addw o => Sys2Proof.Machine.execAddw o s
  | .subw o => Sys2Proof.Machine.execSubw o s
  | .mul o => Sys2Proof.Machine.execMul o s
  | .mulh o => Sys2Proof.Machine.execMulh o s
  | .mulhn o => Sys2Proof.Machine.execMulhn o s
  | .mulhsn o => Sys2Proof.Machine.execMulhsn o s
  | .div o => Sys2Proof.Machine.execDiv o s
  | .divn o => Sys2Proof.Machine.execDivn o s
  | .rem o => Sys2Proof.Machine.execRem o s
  | .remn o => Sys2Proof.Machine.execRemn o s
  | .fadd o => Sys2Proof.Machine.execFadd o s
  | .fsub o => Sys2Proof.Machine.execFsub o s
  | .fmul o => Sys2Proof.Machine.execFmul o s
  | .fdiv o => Sys2Proof.Machine.execFdiv o s
  | .fsqrt o => Sys2Proof.Machine.execFsqrt o s
  | .fmin o => Sys2Proof.Machine.execFmin o s
  | .fmax o => Sys2Proof.Machine.execFmax o s
  | .fsgnj o => Sys2Proof.Machine.execFsgnj o s
  | .fsgnjn o => Sys2Proof.Machine.execFsgnjn o s
  | .fsgnjx o => Sys2Proof.Machine.execFsgnjx o s
  | .feq o => Sys2Proof.Machine.execFeq o s
  | .flt o => Sys2Proof.Machine.execFlt o s
  | .fle o => Sys2Proof.Machine.execFle o s
  | .fclass o => Sys2Proof.Machine.execFclass o s
  | .fma o => Sys2Proof.Machine.execFma o s
  | .fms o => Sys2Proof.Machine.execFms o s
  | .fnma o => Sys2Proof.Machine.execFnma o s
  | .fnms o => Sys2Proof.Machine.execFnms o s
  | .addi o => Sys2Proof.Machine.execAddi o s
  | .andi o => Sys2Proof.Machine.execAndi o s
  | .ori o => Sys2Proof.Machine.execOri o s
  | .xori o => Sys2Proof.Machine.execXori o s
  | .slti o => Sys2Proof.Machine.execSlti o s
  | .sltni o => Sys2Proof.Machine.execSltni o s
  | .slli o => Sys2Proof.Machine.execSlli o s
  | .srli o => Sys2Proof.Machine.execSrli o s
  | .srai o => Sys2Proof.Machine.execSrai o s
  | .roli o => Sys2Proof.Machine.execRoli o s
  | .lui o => Sys2Proof.Machine.execLui o s
  | .auipc o => Sys2Proof.Machine.execAuipc o s
  | .lb o => Sys2Proof.Machine.execLb o s
  | .lh o => Sys2Proof.Machine.execLh o s
  | .lw o => Sys2Proof.Machine.execLw o s
  | .ld o => Sys2Proof.Machine.execLd o s
  | .lbn o => Sys2Proof.Machine.execLbn o s
  | .lhn o => Sys2Proof.Machine.execLhn o s
  | .lwn o => Sys2Proof.Machine.execLwn o s
  | .sb o => Sys2Proof.Machine.execSb o s
  | .sh o => Sys2Proof.Machine.execSh o s
  | .sw o => Sys2Proof.Machine.execSw o s
  | .sd o => Sys2Proof.Machine.execSd o s
  | .beq o => Sys2Proof.Machine.execBeq o s
  | .bne o => Sys2Proof.Machine.execBne o s
  | .blt o => Sys2Proof.Machine.execBlt o s
  | .bge o => Sys2Proof.Machine.execBge o s
  | .bltn o => Sys2Proof.Machine.execBltn o s
  | .bgen o => Sys2Proof.Machine.execBgen o s
  | .jal o => Sys2Proof.Machine.execJal o s
  | .jalr o => Sys2Proof.Machine.execJalr o s
  | .amoswapW o => Sys2Proof.Machine.execAmoswapW o s
  | .amoaddW o => Sys2Proof.Machine.execAmoaddW o s
  | .amoandW o => Sys2Proof.Machine.execAmoandW o s
  | .amoorW o => Sys2Proof.Machine.execAmoorW o s
  | .amoxorW o => Sys2Proof.Machine.execAmoxorW o s
  | .amominW o => Sys2Proof.Machine.execAmominW o s
  | .amomaxW o => Sys2Proof.Machine.execAmomaxW o s
  | .amominnW o => Sys2Proof.Machine.execAmominnW o s
  | .amomaxnW o => Sys2Proof.Machine.execAmomaxnW o s
  | .amoswapD o => Sys2Proof.Machine.execAmoswapD o s
  | .amoaddD o => Sys2Proof.Machine.execAmoaddD o s
  | .amoandD o => Sys2Proof.Machine.execAmoandD o s
  | .amoorD o => Sys2Proof.Machine.execAmoorD o s
  | .amoxorD o => Sys2Proof.Machine.execAmoxorD o s
  | .amominD o => Sys2Proof.Machine.execAmominD o s
  | .amomaxD o => Sys2Proof.Machine.execAmomaxD o s
  | .amominnD o => Sys2Proof.Machine.execAmominnD o s
  | .amomaxnD o => Sys2Proof.Machine.execAmomaxnD o s
  | .cas o => Sys2Proof.Machine.execCas o s
  | .fence o => Sys2Proof.Machine.execFence o s
  | .pause => Sys2Proof.Machine.execPause s
  | .waitm o => Sys2Proof.Machine.execWaitm o s
  | .arrive o => Sys2Proof.Machine.execArrive o s
  | .await o => Sys2Proof.Machine.execAwait o s
  | .gbar o => Sys2Proof.Machine.execGbar o s
  | .gbarRlx o => Sys2Proof.Machine.execGbarRlx o s
  | .csrrw o => Sys2Proof.Machine.execCsrrw o s
  | .csrrs o => Sys2Proof.Machine.execCsrrs o s
  | .csrrc o => Sys2Proof.Machine.execCsrrc o s
  | .csrrwi o => Sys2Proof.Machine.execCsrrwi o s
  | .csrrsi o => Sys2Proof.Machine.execCsrrsi o s
  | .csrrci o => Sys2Proof.Machine.execCsrrci o s
  | .trap o => Sys2Proof.Machine.execTrap o s
  | .trapBrk => Sys2Proof.Machine.execTrapBrk s
  | .tret => Sys2Proof.Machine.execTret s
  | .halt => Sys2Proof.Machine.execHalt s
  | .wfe => Sys2Proof.Machine.execWfe s
  | .tlbinv o => Sys2Proof.Machine.execTlbinv o s
  | .cflush o => Sys2Proof.Machine.execCflush o s
  | .cinval o => Sys2Proof.Machine.execCinval o s
  | .pin o => Sys2Proof.Machine.execPin o s
  | .unpin o => Sys2Proof.Machine.execUnpin o s
  | .vqsave o => Sys2Proof.Machine.execVqsave o s
  | .vqload o => Sys2Proof.Machine.execVqload o s
  | .finval o => Sys2Proof.Machine.execFinval o s
  | .clz o => Sys2Proof.Machine.execClz o s
  | .ctz o => Sys2Proof.Machine.execCtz o s
  | .popc o => Sys2Proof.Machine.execPopc o s
  | .bswap o => Sys2Proof.Machine.execBswap o s
  | .sextb o => Sys2Proof.Machine.execSextb o s
  | .sexth o => Sys2Proof.Machine.execSexth o s
  | .sextw o => Sys2Proof.Machine.execSextw o s
  | .zextb o => Sys2Proof.Machine.execZextb o s
  | .zexth o => Sys2Proof.Machine.execZexth o s
  | .zextw o => Sys2Proof.Machine.execZextw o s
  | .qpush o => Sys2Proof.Machine.execQpush o s
  | .qpop o => Sys2Proof.Machine.execQpop o s
  | .qpeek o => Sys2Proof.Machine.execQpeek o s
  | .qwake o => Sys2Proof.Machine.execQwake o s
  | .qseal o => Sys2Proof.Machine.execQseal o s
  | .qrevoke o => Sys2Proof.Machine.execQrevoke o s
  | .qgrow o => Sys2Proof.Machine.execQgrow o s
  | .cpy o => Sys2Proof.Machine.execCpy o s
  | .cpybt o => Sys2Proof.Machine.execCpybt o s
  | .cpywait => Sys2Proof.Machine.execCpywait s
  | .nsub o => Sys2Proof.Machine.execNsub o s
  | .cpyfill o => Sys2Proof.Machine.execCpyfill o s
  | .fcvtI32F32 o => Sys2Proof.Machine.execFcvtI32F32 o s
  | .fcvtN32F32 o => Sys2Proof.Machine.execFcvtN32F32 o s
  | .fcvtI64F32 o => Sys2Proof.Machine.execFcvtI64F32 o s
  | .fcvtN64F32 o => Sys2Proof.Machine.execFcvtN64F32 o s
  | .fcvtF32I32 o => Sys2Proof.Machine.execFcvtF32I32 o s
  | .fcvtF32N32 o => Sys2Proof.Machine.execFcvtF32N32 o s
  | .fcvtF32I64 o => Sys2Proof.Machine.execFcvtF32I64 o s
  | .fcvtF32N64 o => Sys2Proof.Machine.execFcvtF32N64 o s
  | .fcvtI32F64 o => Sys2Proof.Machine.execFcvtI32F64 o s
  | .fcvtN32F64 o => Sys2Proof.Machine.execFcvtN32F64 o s
  | .fcvtI64F64 o => Sys2Proof.Machine.execFcvtI64F64 o s
  | .fcvtN64F64 o => Sys2Proof.Machine.execFcvtN64F64 o s
  | .fcvtF64I32 o => Sys2Proof.Machine.execFcvtF64I32 o s
  | .fcvtF64N32 o => Sys2Proof.Machine.execFcvtF64N32 o s
  | .fcvtF64I64 o => Sys2Proof.Machine.execFcvtF64I64 o s
  | .fcvtF64N64 o => Sys2Proof.Machine.execFcvtF64N64 o s
  | .fcvtF32F64 o => Sys2Proof.Machine.execFcvtF32F64 o s
  | .fcvtF64F32 o => Sys2Proof.Machine.execFcvtF64F32 o s
  | .vsetl o => Sys2Proof.Machine.execVsetl o s
  | .vlease o => Sys2Proof.Machine.execVlease o s
  | .vfork o => Sys2Proof.Machine.execVfork o s
  | .vjoin o => Sys2Proof.Machine.execVjoin o s
  | .vfetch o => Sys2Proof.Machine.execVfetch o s
  | .vfetchw o => Sys2Proof.Machine.execVfetchw o s
  | .vloop o => Sys2Proof.Machine.execVloop o s
  | .vcommit => Sys2Proof.Machine.execVcommit s
  | .endb => Sys2Proof.Machine.execEndb s
  | .mmode o => Sys2Proof.Machine.execMmode o s
  | .mshape o => Sys2Proof.Machine.execMshape o s
  | .vaddVV o => Sys2Proof.Machine.execVaddVV o s
  | .vaddVX o => Sys2Proof.Machine.execVaddVX o s
  | .vaddVI o => Sys2Proof.Machine.execVaddVI o s
  | .vsubVV o => Sys2Proof.Machine.execVsubVV o s
  | .vsubVX o => Sys2Proof.Machine.execVsubVX o s
  | .vsubVI o => Sys2Proof.Machine.execVsubVI o s
  | .vrsubVV o => Sys2Proof.Machine.execVrsubVV o s
  | .vrsubVX o => Sys2Proof.Machine.execVrsubVX o s
  | .vrsubVI o => Sys2Proof.Machine.execVrsubVI o s
  | .vmulVV o => Sys2Proof.Machine.execVmulVV o s
  | .vmulVX o => Sys2Proof.Machine.execVmulVX o s
  | .vmulVI o => Sys2Proof.Machine.execVmulVI o s
  | .vmulhVV o => Sys2Proof.Machine.execVmulhVV o s
  | .vmulhVX o => Sys2Proof.Machine.execVmulhVX o s
  | .vmulhVI o => Sys2Proof.Machine.execVmulhVI o s
  | .vmulhnVV o => Sys2Proof.Machine.execVmulhnVV o s
  | .vmulhnVX o => Sys2Proof.Machine.execVmulhnVX o s
  | .vmulhnVI o => Sys2Proof.Machine.execVmulhnVI o s
  | .vandVV o => Sys2Proof.Machine.execVandVV o s
  | .vandVX o => Sys2Proof.Machine.execVandVX o s
  | .vandVI o => Sys2Proof.Machine.execVandVI o s
  | .vorVV o => Sys2Proof.Machine.execVorVV o s
  | .vorVX o => Sys2Proof.Machine.execVorVX o s
  | .vorVI o => Sys2Proof.Machine.execVorVI o s
  | .vxorVV o => Sys2Proof.Machine.execVxorVV o s
  | .vxorVX o => Sys2Proof.Machine.execVxorVX o s
  | .vxorVI o => Sys2Proof.Machine.execVxorVI o s
  | .vsllVV o => Sys2Proof.Machine.execVsllVV o s
  | .vsllVX o => Sys2Proof.Machine.execVsllVX o s
  | .vsllVI o => Sys2Proof.Machine.execVsllVI o s
  | .vsrlVV o => Sys2Proof.Machine.execVsrlVV o s
  | .vsrlVX o => Sys2Proof.Machine.execVsrlVX o s
  | .vsrlVI o => Sys2Proof.Machine.execVsrlVI o s
  | .vsraVV o => Sys2Proof.Machine.execVsraVV o s
  | .vsraVX o => Sys2Proof.Machine.execVsraVX o s
  | .vsraVI o => Sys2Proof.Machine.execVsraVI o s
  | .vminVV o => Sys2Proof.Machine.execVminVV o s
  | .vminVX o => Sys2Proof.Machine.execVminVX o s
  | .vminVI o => Sys2Proof.Machine.execVminVI o s
  | .vmaxVV o => Sys2Proof.Machine.execVmaxVV o s
  | .vmaxVX o => Sys2Proof.Machine.execVmaxVX o s
  | .vmaxVI o => Sys2Proof.Machine.execVmaxVI o s
  | .vminnVV o => Sys2Proof.Machine.execVminnVV o s
  | .vminnVX o => Sys2Proof.Machine.execVminnVX o s
  | .vminnVI o => Sys2Proof.Machine.execVminnVI o s
  | .vmaxnVV o => Sys2Proof.Machine.execVmaxnVV o s
  | .vmaxnVX o => Sys2Proof.Machine.execVmaxnVX o s
  | .vmaxnVI o => Sys2Proof.Machine.execVmaxnVI o s
  | .vsaddVV o => Sys2Proof.Machine.execVsaddVV o s
  | .vsaddVX o => Sys2Proof.Machine.execVsaddVX o s
  | .vssubVV o => Sys2Proof.Machine.execVssubVV o s
  | .vssubVX o => Sys2Proof.Machine.execVssubVX o s
  | .vsaddnVV o => Sys2Proof.Machine.execVsaddnVV o s
  | .vsaddnVX o => Sys2Proof.Machine.execVsaddnVX o s
  | .vssubnVV o => Sys2Proof.Machine.execVssubnVV o s
  | .vssubnVX o => Sys2Proof.Machine.execVssubnVX o s
  | .vdivVV o => Sys2Proof.Machine.execVdivVV o s
  | .vdivVX o => Sys2Proof.Machine.execVdivVX o s
  | .vdivnVV o => Sys2Proof.Machine.execVdivnVV o s
  | .vdivnVX o => Sys2Proof.Machine.execVdivnVX o s
  | .vremVV o => Sys2Proof.Machine.execVremVV o s
  | .vremVX o => Sys2Proof.Machine.execVremVX o s
  | .vremnVV o => Sys2Proof.Machine.execVremnVV o s
  | .vremnVX o => Sys2Proof.Machine.execVremnVX o s
  | .vmaccVV o => Sys2Proof.Machine.execVmaccVV o s
  | .vmaccVX o => Sys2Proof.Machine.execVmaccVX o s
  | .vnmsacVV o => Sys2Proof.Machine.execVnmsacVV o s
  | .vnmsacVX o => Sys2Proof.Machine.execVnmsacVX o s
  | .vavgVV o => Sys2Proof.Machine.execVavgVV o s
  | .vavgVX o => Sys2Proof.Machine.execVavgVX o s
  | .vavgnVV o => Sys2Proof.Machine.execVavgnVV o s
  | .vavgnVX o => Sys2Proof.Machine.execVavgnVX o s
  | .vabs o => Sys2Proof.Machine.execVabs o s
  | .vneg o => Sys2Proof.Machine.execVneg o s
  | .vpopc o => Sys2Proof.Machine.execVpopc o s
  | .vclz o => Sys2Proof.Machine.execVclz o s
  | .vwaddVV o => Sys2Proof.Machine.execVwaddVV o s
  | .vwaddVX o => Sys2Proof.Machine.execVwaddVX o s
  | .vwaddnVV o => Sys2Proof.Machine.execVwaddnVV o s
  | .vwaddnVX o => Sys2Proof.Machine.execVwaddnVX o s
  | .vwsubVV o => Sys2Proof.Machine.execVwsubVV o s
  | .vwsubVX o => Sys2Proof.Machine.execVwsubVX o s
  | .vwsubnVV o => Sys2Proof.Machine.execVwsubnVV o s
  | .vwsubnVX o => Sys2Proof.Machine.execVwsubnVX o s
  | .vwmulVV o => Sys2Proof.Machine.execVwmulVV o s
  | .vwmulVX o => Sys2Proof.Machine.execVwmulVX o s
  | .vwmulnVV o => Sys2Proof.Machine.execVwmulnVV o s
  | .vwmulnVX o => Sys2Proof.Machine.execVwmulnVX o s
  | .vwmaccVV o => Sys2Proof.Machine.execVwmaccVV o s
  | .vwmaccVX o => Sys2Proof.Machine.execVwmaccVX o s
  | .vwmaccnVV o => Sys2Proof.Machine.execVwmaccnVV o s
  | .vwmaccnVX o => Sys2Proof.Machine.execVwmaccnVX o s
  | .vnsrlVV o => Sys2Proof.Machine.execVnsrlVV o s
  | .vnsrlVX o => Sys2Proof.Machine.execVnsrlVX o s
  | .vnsraVV o => Sys2Proof.Machine.execVnsraVV o s
  | .vnsraVX o => Sys2Proof.Machine.execVnsraVX o s
  | .vnclipVV o => Sys2Proof.Machine.execVnclipVV o s
  | .vnclipVX o => Sys2Proof.Machine.execVnclipVX o s
  | .vnclipnVV o => Sys2Proof.Machine.execVnclipnVV o s
  | .vnclipnVX o => Sys2Proof.Machine.execVnclipnVX o s
  | .vfaddVV o => Sys2Proof.Machine.execVfaddVV o s
  | .vfaddVX o => Sys2Proof.Machine.execVfaddVX o s
  | .vfsubVV o => Sys2Proof.Machine.execVfsubVV o s
  | .vfsubVX o => Sys2Proof.Machine.execVfsubVX o s
  | .vfrsubVV o => Sys2Proof.Machine.execVfrsubVV o s
  | .vfrsubVX o => Sys2Proof.Machine.execVfrsubVX o s
  | .vfmulVV o => Sys2Proof.Machine.execVfmulVV o s
  | .vfmulVX o => Sys2Proof.Machine.execVfmulVX o s
  | .vfdivVV o => Sys2Proof.Machine.execVfdivVV o s
  | .vfdivVX o => Sys2Proof.Machine.execVfdivVX o s
  | .vfrdivVV o => Sys2Proof.Machine.execVfrdivVV o s
  | .vfrdivVX o => Sys2Proof.Machine.execVfrdivVX o s
  | .vfminVV o => Sys2Proof.Machine.execVfminVV o s
  | .vfminVX o => Sys2Proof.Machine.execVfminVX o s
  | .vfmaxVV o => Sys2Proof.Machine.execVfmaxVV o s
  | .vfmaxVX o => Sys2Proof.Machine.execVfmaxVX o s
  | .vfsgnjVV o => Sys2Proof.Machine.execVfsgnjVV o s
  | .vfsgnjVX o => Sys2Proof.Machine.execVfsgnjVX o s
  | .vfsgnjnVV o => Sys2Proof.Machine.execVfsgnjnVV o s
  | .vfsgnjnVX o => Sys2Proof.Machine.execVfsgnjnVX o s
  | .vfsgnjxVV o => Sys2Proof.Machine.execVfsgnjxVV o s
  | .vfsgnjxVX o => Sys2Proof.Machine.execVfsgnjxVX o s
  | .vfmaVV o => Sys2Proof.Machine.execVfmaVV o s
  | .vfmaVX o => Sys2Proof.Machine.execVfmaVX o s
  | .vfmsVV o => Sys2Proof.Machine.execVfmsVV o s
  | .vfmsVX o => Sys2Proof.Machine.execVfmsVX o s
  | .vfnmaVV o => Sys2Proof.Machine.execVfnmaVV o s
  | .vfnmaVX o => Sys2Proof.Machine.execVfnmaVX o s
  | .vfnmsVV o => Sys2Proof.Machine.execVfnmsVV o s
  | .vfnmsVX o => Sys2Proof.Machine.execVfnmsVX o s
  | .vfsqrt o => Sys2Proof.Machine.execVfsqrt o s
  | .vfrcp o => Sys2Proof.Machine.execVfrcp o s
  | .vfrsq o => Sys2Proof.Machine.execVfrsq o s
  | .vfexp2 o => Sys2Proof.Machine.execVfexp2 o s
  | .vflog2 o => Sys2Proof.Machine.execVflog2 o s
  | .vfsinp o => Sys2Proof.Machine.execVfsinp o s
  | .vfcosp o => Sys2Proof.Machine.execVfcosp o s
  | .vftanh o => Sys2Proof.Machine.execVftanh o s
  | .vfabs o => Sys2Proof.Machine.execVfabs o s
  | .vfneg o => Sys2Proof.Machine.execVfneg o s
  | .vfclass o => Sys2Proof.Machine.execVfclass o s
  | .vffloor o => Sys2Proof.Machine.execVffloor o s
  | .vfceil o => Sys2Proof.Machine.execVfceil o s
  | .vfround o => Sys2Proof.Machine.execVfround o s
  | .vcvtI32F32 o => Sys2Proof.Machine.execVcvtI32F32 o s
  | .vcvtN32F32 o => Sys2Proof.Machine.execVcvtN32F32 o s
  | .vcvtF32I32 o => Sys2Proof.Machine.execVcvtF32I32 o s
  | .vcvtF32N32 o => Sys2Proof.Machine.execVcvtF32N32 o s
  | .vcvtI64F64 o => Sys2Proof.Machine.execVcvtI64F64 o s
  | .vcvtN64F64 o => Sys2Proof.Machine.execVcvtN64F64 o s
  | .vcvtF64I64 o => Sys2Proof.Machine.execVcvtF64I64 o s
  | .vcvtF64N64 o => Sys2Proof.Machine.execVcvtF64N64 o s
  | .vcvtF64F32 o => Sys2Proof.Machine.execVcvtF64F32 o s
  | .vcvtF32F64 o => Sys2Proof.Machine.execVcvtF32F64 o s
  | .vcvtHF32 o => Sys2Proof.Machine.execVcvtHF32 o s
  | .vcvtBfF32 o => Sys2Proof.Machine.execVcvtBfF32 o s
  | .vcvtF32H o => Sys2Proof.Machine.execVcvtF32H o s
  | .vcvtF32Bf o => Sys2Proof.Machine.execVcvtF32Bf o s
  | .vcvtB8F32 o => Sys2Proof.Machine.execVcvtB8F32 o s
  | .vcvtF32B8 o => Sys2Proof.Machine.execVcvtF32B8 o s
  | .vcvtB8H o => Sys2Proof.Machine.execVcvtB8H o s
  | .vcvtHB8 o => Sys2Proof.Machine.execVcvtHB8 o s
  | .vcvtB8Bf o => Sys2Proof.Machine.execVcvtB8Bf o s
  | .vcvtBfB8 o => Sys2Proof.Machine.execVcvtBfB8 o s
  | .vcvtE4F32 o => Sys2Proof.Machine.execVcvtE4F32 o s
  | .vcvtF32E4 o => Sys2Proof.Machine.execVcvtF32E4 o s
  | .vcvtHE4 o => Sys2Proof.Machine.execVcvtHE4 o s
  | .vcvtQ4F32 o => Sys2Proof.Machine.execVcvtQ4F32 o s
  | .vcvtF32Q4 o => Sys2Proof.Machine.execVcvtF32Q4 o s
  | .vcvtHQ4 o => Sys2Proof.Machine.execVcvtHQ4 o s
  | .vcmpEqVV o => Sys2Proof.Machine.execVcmpEqVV o s
  | .vcmpEqVX o => Sys2Proof.Machine.execVcmpEqVX o s
  | .vcmpNeVV o => Sys2Proof.Machine.execVcmpNeVV o s
  | .vcmpNeVX o => Sys2Proof.Machine.execVcmpNeVX o s
  | .vcmpLtVV o => Sys2Proof.Machine.execVcmpLtVV o s
  | .vcmpLtVX o => Sys2Proof.Machine.execVcmpLtVX o s
  | .vcmpLeVV o => Sys2Proof.Machine.execVcmpLeVV o s
  | .vcmpLeVX o => Sys2Proof.Machine.execVcmpLeVX o s
  | .vcmpLtnVV o => Sys2Proof.Machine.execVcmpLtnVV o s
  | .vcmpLtnVX o => Sys2Proof.Machine.execVcmpLtnVX o s
  | .vcmpLenVV o => Sys2Proof.Machine.execVcmpLenVV o s
  | .vcmpLenVX o => Sys2Proof.Machine.execVcmpLenVX o s
  | .vcmpGtVV o => Sys2Proof.Machine.execVcmpGtVV o s
  | .vcmpGtVX o => Sys2Proof.Machine.execVcmpGtVX o s
  | .vcmpGeVV o => Sys2Proof.Machine.execVcmpGeVV o s
  | .vcmpGeVX o => Sys2Proof.Machine.execVcmpGeVX o s
  | .vcmpFeqVV o => Sys2Proof.Machine.execVcmpFeqVV o s
  | .vcmpFeqVX o => Sys2Proof.Machine.execVcmpFeqVX o s
  | .vcmpFneVV o => Sys2Proof.Machine.execVcmpFneVV o s
  | .vcmpFneVX o => Sys2Proof.Machine.execVcmpFneVX o s
  | .vcmpFltVV o => Sys2Proof.Machine.execVcmpFltVV o s
  | .vcmpFltVX o => Sys2Proof.Machine.execVcmpFltVX o s
  | .vcmpFleVV o => Sys2Proof.Machine.execVcmpFleVV o s
  | .vcmpFleVX o => Sys2Proof.Machine.execVcmpFleVX o s
  | .vcmpFgtVV o => Sys2Proof.Machine.execVcmpFgtVV o s
  | .vcmpFgtVX o => Sys2Proof.Machine.execVcmpFgtVX o s
  | .vcmpFgeVV o => Sys2Proof.Machine.execVcmpFgeVV o s
  | .vcmpFgeVX o => Sys2Proof.Machine.execVcmpFgeVX o s
  | .vcmpFunordVV o => Sys2Proof.Machine.execVcmpFunordVV o s
  | .vcmpFunordVX o => Sys2Proof.Machine.execVcmpFunordVX o s
  | .vcmpFordVV o => Sys2Proof.Machine.execVcmpFordVV o s
  | .vcmpFordVX o => Sys2Proof.Machine.execVcmpFordVX o s
  | .kand o => Sys2Proof.Machine.execKand o s
  | .kor o => Sys2Proof.Machine.execKor o s
  | .kxor o => Sys2Proof.Machine.execKxor o s
  | .kandn o => Sys2Proof.Machine.execKandn o s
  | .knot o => Sys2Proof.Machine.execKnot o s
  | .kmov o => Sys2Proof.Machine.execKmov o s
  | .kpop o => Sys2Proof.Machine.execKpop o s
  | .kfirst o => Sys2Proof.Machine.execKfirst o s
  | .kiota o => Sys2Proof.Machine.execKiota o s
  | .vmerge o => Sys2Proof.Machine.execVmerge o s
  | .vcompress o => Sys2Proof.Machine.execVcompress o s
  | .vexpand o => Sys2Proof.Machine.execVexpand o s
  | .ksetx o => Sys2Proof.Machine.execKsetx o s
  | .vslideup o => Sys2Proof.Machine.execVslideup o s
  | .vslidedn o => Sys2Proof.Machine.execVslidedn o s
  | .vpermv o => Sys2Proof.Machine.execVpermv o s
  | .vbcast o => Sys2Proof.Machine.execVbcast o s
  | .vextract o => Sys2Proof.Machine.execVextract o s
  | .vinsert o => Sys2Proof.Machine.execVinsert o s
  | .vilv o => Sys2Proof.Machine.execVilv o s
  | .vdilv o => Sys2Proof.Machine.execVdilv o s
  | .vid o => Sys2Proof.Machine.execVid o s
  | .vrand o => Sys2Proof.Machine.execVrand o s
  | .vmvV o => Sys2Proof.Machine.execVmvV o s
  | .vmvX o => Sys2Proof.Machine.execVmvX o s
  | .vredsum o => Sys2Proof.Machine.execVredsum o s
  | .vredmin o => Sys2Proof.Machine.execVredmin o s
  | .vredmax o => Sys2Proof.Machine.execVredmax o s
  | .vredminn o => Sys2Proof.Machine.execVredminn o s
  | .vredmaxn o => Sys2Proof.Machine.execVredmaxn o s
  | .vredand o => Sys2Proof.Machine.execVredand o s
  | .vredor o => Sys2Proof.Machine.execVredor o s
  | .vredxor o => Sys2Proof.Machine.execVredxor o s
  | .vfsum o => Sys2Proof.Machine.execVfsum o s
  | .vfsumo o => Sys2Proof.Machine.execVfsumo o s
  | .vfredmin o => Sys2Proof.Machine.execVfredmin o s
  | .vfredmax o => Sys2Proof.Machine.execVfredmax o s
  | .vwsum o => Sys2Proof.Machine.execVwsum o s
  | .vbshl o => Sys2Proof.Machine.execVbshl o s
  | .vbshr o => Sys2Proof.Machine.execVbshr o s
  | .vbfun o => Sys2Proof.Machine.execVbfun o s
  | .vternlog o => Sys2Proof.Machine.execVternlog o s
  | .vld o => Sys2Proof.Machine.execVld o s
  | .vldReg o => Sys2Proof.Machine.execVldReg o s
  | .vlds o => Sys2Proof.Machine.execVlds o s
  | .vldx o => Sys2Proof.Machine.execVldx o s
  | .vst o => Sys2Proof.Machine.execVst o s
  | .vstReg o => Sys2Proof.Machine.execVstReg o s
  | .vsts o => Sys2Proof.Machine.execVsts o s
  | .vstx o => Sys2Proof.Machine.execVstx o s
  | .vgll o => Sys2Proof.Machine.execVgll o s
  | .vscc o => Sys2Proof.Machine.execVscc o s
  | .vacc o => Sys2Proof.Machine.execVacc o s
  | .vldwE4H o => Sys2Proof.Machine.execVldwE4H o s
  | .vldwE4Bf o => Sys2Proof.Machine.execVldwE4Bf o s
  | .vldwE4B8 o => Sys2Proof.Machine.execVldwE4B8 o s
  | .vldwQ4H o => Sys2Proof.Machine.execVldwQ4H o s
  | .vldwQ4Bf o => Sys2Proof.Machine.execVldwQ4Bf o s
  | .vldwQ4B8 o => Sys2Proof.Machine.execVldwQ4B8 o s
  | .gsub o => Sys2Proof.Machine.execGsub o s
  | .gadd o => Sys2Proof.Machine.execGadd o s
  | .glen o => Sys2Proof.Machine.execGlen o s
  | .gtag o => Sys2Proof.Machine.execGtag o s
  | .gpack o => Sys2Proof.Machine.execGpack o s
  | .gunpack o => Sys2Proof.Machine.execGunpack o s
  | .grehome o => Sys2Proof.Machine.execGrehome o s
  | .gdot o => Sys2Proof.Machine.execGdot o s
  | .gcvt o => Sys2Proof.Machine.execGcvt o s
  | .gscl o => Sys2Proof.Machine.execGscl o s
  | .gsettag o => Sys2Proof.Machine.execGsettag o s
  | .gmorton o => Sys2Proof.Machine.execGmorton o s
  | .gnbr o => Sys2Proof.Machine.execGnbr o s
  | .vcellins o => Sys2Proof.Machine.execVcellins o s
  | .vcellfind o => Sys2Proof.Machine.execVcellfind o s
  | .recur o => Sys2Proof.Machine.execRecur o s
  | .rspawn o => Sys2Proof.Machine.execRspawn o s
  | .rret o => Sys2Proof.Machine.execRret o s
  | .rkids o => Sys2Proof.Machine.execRkids o s
  | .rdepth o => Sys2Proof.Machine.execRdepth o s
  | .rnkid o => Sys2Proof.Machine.execRnkid o s
  | .mzero o => Sys2Proof.Machine.execMzero o s
  | .mrowv o => Sys2Proof.Machine.execMrowv o s
  | .mvrow o => Sys2Proof.Machine.execMvrow o s
  | .mcolv o => Sys2Proof.Machine.execMcolv o s
  | .mvcol o => Sys2Proof.Machine.execMvcol o s
  | .mdrain o => Sys2Proof.Machine.execMdrain o s
  | .mload o => Sys2Proof.Machine.execMload o s
  | .amerge o => Sys2Proof.Machine.execAmerge o s
  | .sacc o => Sys2Proof.Machine.execSacc o s
  | .opacc o => Sys2Proof.Machine.execOpacc o s
  | .opsub o => Sys2Proof.Machine.execOpsub o s
  | .opaccw o => Sys2Proof.Machine.execOpaccw o s
  | .cAddi o => Sys2Proof.Machine.execCAddi o s
  | .cMv o => Sys2Proof.Machine.execCMv o s
  | .cAdd o => Sys2Proof.Machine.execCAdd o s
  | .cSub o => Sys2Proof.Machine.execCSub o s
  | .cLd o => Sys2Proof.Machine.execCLd o s
  | .cSd o => Sys2Proof.Machine.execCSd o s
  | .cLw o => Sys2Proof.Machine.execCLw o s
  | .cSw o => Sys2Proof.Machine.execCSw o s
  | .cJ o => Sys2Proof.Machine.execCJ o s
  | .cBeqz o => Sys2Proof.Machine.execCBeqz o s
  | .cBnez o => Sys2Proof.Machine.execCBnez o s
  | .cVfetch o => Sys2Proof.Machine.execCVfetch o s
  | .inboundPeerAccess link write addr value => Sys2Proof.Machine.execInboundPeerAccess link write addr value s
  | .spdmRequest port req => Sys2Proof.Machine.execSpdmRequest port req s
  | .bar2Access port write addr value => Sys2Proof.Machine.execBar2Access port write addr value s
  | .ioDomainPowerLoss port => Sys2Proof.Machine.execIoDomainPowerLoss port s
  | .powerLoss => Sys2Proof.Machine.execPowerLoss s
  | .cycleCountAdvance die stable n => Sys2Proof.Machine.execCycleCountAdvance die stable n s

end Sys2Proof.Machine
end

