-- ==== Sys2Proof/Machine/RowExec.lean ====
section
/-! DEFINITION. What the instruction of a row and its bits does: `exec` of the decoded instruction, without building the instruction
(Lean generates no code for a type with so many constructors). `Step.lean` proves it the same. Generated. -/

namespace Sys2Proof.Machine

/-- What the instruction of row `r` with bits `w` does. -/
def execRow (r : Row) (w : BitVec 64) (s : State) : Answer :=
  match r with
  | .add => execAdd (OpDAB.get (w.extractLsb' 0 32)) s
  | .sub => execSub (OpDAB.get (w.extractLsb' 0 32)) s
  | .and => execAnd (OpDAB.get (w.extractLsb' 0 32)) s
  | .or => execOr (OpDAB.get (w.extractLsb' 0 32)) s
  | .xor => execXor (OpDAB.get (w.extractLsb' 0 32)) s
  | .sll => execSll (OpDAB.get (w.extractLsb' 0 32)) s
  | .srl => execSrl (OpDAB.get (w.extractLsb' 0 32)) s
  | .sra => execSra (OpDAB.get (w.extractLsb' 0 32)) s
  | .slt => execSlt (OpDAB.get (w.extractLsb' 0 32)) s
  | .sltn => execSltn (OpDAB.get (w.extractLsb' 0 32)) s
  | .min => execMin (OpDAB.get (w.extractLsb' 0 32)) s
  | .max => execMax (OpDAB.get (w.extractLsb' 0 32)) s
  | .minn => execMinn (OpDAB.get (w.extractLsb' 0 32)) s
  | .maxn => execMaxn (OpDAB.get (w.extractLsb' 0 32)) s
  | .andn => execAndn (OpDAB.get (w.extractLsb' 0 32)) s
  | .orn => execOrn (OpDAB.get (w.extractLsb' 0 32)) s
  | .rol => execRol (OpDAB.get (w.extractLsb' 0 32)) s
  | .ror => execRor (OpDAB.get (w.extractLsb' 0 32)) s
  | .addw => execAddw (OpDAB.get (w.extractLsb' 0 32)) s
  | .subw => execSubw (OpDAB.get (w.extractLsb' 0 32)) s
  | .mul => execMul (OpDAB.get (w.extractLsb' 0 32)) s
  | .mulh => execMulh (OpDAB.get (w.extractLsb' 0 32)) s
  | .mulhn => execMulhn (OpDAB.get (w.extractLsb' 0 32)) s
  | .mulhsn => execMulhsn (OpDAB.get (w.extractLsb' 0 32)) s
  | .div => execDiv (OpDAB.get (w.extractLsb' 0 32)) s
  | .divn => execDivn (OpDAB.get (w.extractLsb' 0 32)) s
  | .rem => execRem (OpDAB.get (w.extractLsb' 0 32)) s
  | .remn => execRemn (OpDAB.get (w.extractLsb' 0 32)) s
  | .fadd => execFadd (OpDABFR.get (w.extractLsb' 0 32)) s
  | .fsub => execFsub (OpDABFR.get (w.extractLsb' 0 32)) s
  | .fmul => execFmul (OpDABFR.get (w.extractLsb' 0 32)) s
  | .fdiv => execFdiv (OpDABFR.get (w.extractLsb' 0 32)) s
  | .fsqrt => execFsqrt (OpDAFR.get (w.extractLsb' 0 32)) s
  | .fmin => execFmin (OpDABF.get (w.extractLsb' 0 32)) s
  | .fmax => execFmax (OpDABF.get (w.extractLsb' 0 32)) s
  | .fsgnj => execFsgnj (OpDABF.get (w.extractLsb' 0 32)) s
  | .fsgnjn => execFsgnjn (OpDABF.get (w.extractLsb' 0 32)) s
  | .fsgnjx => execFsgnjx (OpDABF.get (w.extractLsb' 0 32)) s
  | .feq => execFeq (OpDABF.get (w.extractLsb' 0 32)) s
  | .flt => execFlt (OpDABF.get (w.extractLsb' 0 32)) s
  | .fle => execFle (OpDABF.get (w.extractLsb' 0 32)) s
  | .fclass => execFclass (OpDAF.get (w.extractLsb' 0 32)) s
  | .fma => execFma (OpDABEF.get (w.extractLsb' 0 32)) s
  | .fms => execFms (OpDABEF.get (w.extractLsb' 0 32)) s
  | .fnma => execFnma (OpDABEF.get (w.extractLsb' 0 32)) s
  | .fnms => execFnms (OpDABEF.get (w.extractLsb' 0 32)) s
  | .addi => execAddi (OpDAI.get (w.extractLsb' 0 32)) s
  | .andi => execAndi (OpDAI.get (w.extractLsb' 0 32)) s
  | .ori => execOri (OpDAI.get (w.extractLsb' 0 32)) s
  | .xori => execXori (OpDAI.get (w.extractLsb' 0 32)) s
  | .slti => execSlti (OpDAI.get (w.extractLsb' 0 32)) s
  | .sltni => execSltni (OpDAI.get (w.extractLsb' 0 32)) s
  | .slli => execSlli (OpDAS.get (w.extractLsb' 0 32)) s
  | .srli => execSrli (OpDAS.get (w.extractLsb' 0 32)) s
  | .srai => execSrai (OpDAS.get (w.extractLsb' 0 32)) s
  | .roli => execRoli (OpDAS.get (w.extractLsb' 0 32)) s
  | .lui => execLui (OpDI.get (w.extractLsb' 0 32)) s
  | .auipc => execAuipc (OpDI.get (w.extractLsb' 0 32)) s
  | .lb => execLb (OpDAI.get (w.extractLsb' 0 32)) s
  | .lh => execLh (OpDAI.get (w.extractLsb' 0 32)) s
  | .lw => execLw (OpDAI.get (w.extractLsb' 0 32)) s
  | .ld => execLd (OpDAI.get (w.extractLsb' 0 32)) s
  | .lbn => execLbn (OpDAI.get (w.extractLsb' 0 32)) s
  | .lhn => execLhn (OpDAI.get (w.extractLsb' 0 32)) s
  | .lwn => execLwn (OpDAI.get (w.extractLsb' 0 32)) s
  | .sb => execSb (OpSAI.get (w.extractLsb' 0 32)) s
  | .sh => execSh (OpSAI.get (w.extractLsb' 0 32)) s
  | .sw => execSw (OpSAI.get (w.extractLsb' 0 32)) s
  | .sd => execSd (OpSAI.get (w.extractLsb' 0 32)) s
  | .beq => execBeq (OpABI.get (w.extractLsb' 0 32)) s
  | .bne => execBne (OpABI.get (w.extractLsb' 0 32)) s
  | .blt => execBlt (OpABI.get (w.extractLsb' 0 32)) s
  | .bge => execBge (OpABI.get (w.extractLsb' 0 32)) s
  | .bltn => execBltn (OpABI.get (w.extractLsb' 0 32)) s
  | .bgen => execBgen (OpABI.get (w.extractLsb' 0 32)) s
  | .jal => execJal (OpDI.get (w.extractLsb' 0 32)) s
  | .jalr => execJalr (OpDAI.get (w.extractLsb' 0 32)) s
  | .amoswapW => execAmoswapW (OpDABO.get (w.extractLsb' 0 32)) s
  | .amoaddW => execAmoaddW (OpDABO.get (w.extractLsb' 0 32)) s
  | .amoandW => execAmoandW (OpDABO.get (w.extractLsb' 0 32)) s
  | .amoorW => execAmoorW (OpDABO.get (w.extractLsb' 0 32)) s
  | .amoxorW => execAmoxorW (OpDABO.get (w.extractLsb' 0 32)) s
  | .amominW => execAmominW (OpDABO.get (w.extractLsb' 0 32)) s
  | .amomaxW => execAmomaxW (OpDABO.get (w.extractLsb' 0 32)) s
  | .amominnW => execAmominnW (OpDABO.get (w.extractLsb' 0 32)) s
  | .amomaxnW => execAmomaxnW (OpDABO.get (w.extractLsb' 0 32)) s
  | .amoswapD => execAmoswapD (OpDABO.get (w.extractLsb' 0 32)) s
  | .amoaddD => execAmoaddD (OpDABO.get (w.extractLsb' 0 32)) s
  | .amoandD => execAmoandD (OpDABO.get (w.extractLsb' 0 32)) s
  | .amoorD => execAmoorD (OpDABO.get (w.extractLsb' 0 32)) s
  | .amoxorD => execAmoxorD (OpDABO.get (w.extractLsb' 0 32)) s
  | .amominD => execAmominD (OpDABO.get (w.extractLsb' 0 32)) s
  | .amomaxD => execAmomaxD (OpDABO.get (w.extractLsb' 0 32)) s
  | .amominnD => execAmominnD (OpDABO.get (w.extractLsb' 0 32)) s
  | .amomaxnD => execAmomaxnD (OpDABO.get (w.extractLsb' 0 32)) s
  | .cas => execCas (OpDABEWO.get (w.extractLsb' 0 32)) s
  | .fence => execFence (OpSK.get (w.extractLsb' 0 32)) s
  | .pause => execPause s
  | .waitm => execWaitm (OpDAB.get (w.extractLsb' 0 32)) s
  | .arrive => execArrive (OpDAB.get (w.extractLsb' 0 32)) s
  | .await => execAwait (OpDAB.get (w.extractLsb' 0 32)) s
  | .gbar => execGbar (OpD.get (w.extractLsb' 0 32)) s
  | .gbarRlx => execGbarRlx (OpD.get (w.extractLsb' 0 32)) s
  | .csrrw => execCsrrw (OpDACsr.get (w.extractLsb' 0 32)) s
  | .csrrs => execCsrrs (OpDACsr.get (w.extractLsb' 0 32)) s
  | .csrrc => execCsrrc (OpDACsr.get (w.extractLsb' 0 32)) s
  | .csrrwi => execCsrrwi (OpDUCsr.get (w.extractLsb' 0 32)) s
  | .csrrsi => execCsrrsi (OpDUCsr.get (w.extractLsb' 0 32)) s
  | .csrrci => execCsrrci (OpDUCsr.get (w.extractLsb' 0 32)) s
  | .trap => execTrap (OpA.get (w.extractLsb' 0 32)) s
  | .trapBrk => execTrapBrk s
  | .tret => execTret s
  | .halt => execHalt s
  | .wfe => execWfe s
  | .tlbinv => execTlbinv (OpAB.get (w.extractLsb' 0 32)) s
  | .cflush => execCflush (OpAB.get (w.extractLsb' 0 32)) s
  | .cinval => execCinval (OpAB.get (w.extractLsb' 0 32)) s
  | .pin => execPin (OpDAB.get (w.extractLsb' 0 32)) s
  | .unpin => execUnpin (OpDAB.get (w.extractLsb' 0 32)) s
  | .vqsave => execVqsave (OpA.get (w.extractLsb' 0 32)) s
  | .vqload => execVqload (OpA.get (w.extractLsb' 0 32)) s
  | .finval => execFinval (OpA.get (w.extractLsb' 0 32)) s
  | .clz => execClz (OpDA.get (w.extractLsb' 0 32)) s
  | .ctz => execCtz (OpDA.get (w.extractLsb' 0 32)) s
  | .popc => execPopc (OpDA.get (w.extractLsb' 0 32)) s
  | .bswap => execBswap (OpDA.get (w.extractLsb' 0 32)) s
  | .sextb => execSextb (OpDA.get (w.extractLsb' 0 32)) s
  | .sexth => execSexth (OpDA.get (w.extractLsb' 0 32)) s
  | .sextw => execSextw (OpDA.get (w.extractLsb' 0 32)) s
  | .zextb => execZextb (OpDA.get (w.extractLsb' 0 32)) s
  | .zexth => execZexth (OpDA.get (w.extractLsb' 0 32)) s
  | .zextw => execZextw (OpDA.get (w.extractLsb' 0 32)) s
  | .qpush => execQpush (OpDAB.get (w.extractLsb' 0 32)) s
  | .qpop => execQpop (OpDAB.get (w.extractLsb' 0 32)) s
  | .qpeek => execQpeek (OpDAB.get (w.extractLsb' 0 32)) s
  | .qwake => execQwake (OpDAB.get (w.extractLsb' 0 32)) s
  | .qseal => execQseal (OpDA.get (w.extractLsb' 0 32)) s
  | .qrevoke => execQrevoke (OpDAB.get (w.extractLsb' 0 32)) s
  | .qgrow => execQgrow (OpDAB.get (w.extractLsb' 0 32)) s
  | .cpy => execCpy (OpDAB.get (w.extractLsb' 0 32)) s
  | .cpybt => execCpybt (OpA.get (w.extractLsb' 0 32)) s
  | .cpywait => execCpywait s
  | .nsub => execNsub (OpDAB.get (w.extractLsb' 0 32)) s
  | .cpyfill => execCpyfill (OpDAB.get (w.extractLsb' 0 32)) s
  | .fcvtI32F32 => execFcvtI32F32 (OpDAR.get (w.extractLsb' 0 32)) s
  | .fcvtN32F32 => execFcvtN32F32 (OpDAR.get (w.extractLsb' 0 32)) s
  | .fcvtI64F32 => execFcvtI64F32 (OpDAR.get (w.extractLsb' 0 32)) s
  | .fcvtN64F32 => execFcvtN64F32 (OpDAR.get (w.extractLsb' 0 32)) s
  | .fcvtF32I32 => execFcvtF32I32 (OpDAR.get (w.extractLsb' 0 32)) s
  | .fcvtF32N32 => execFcvtF32N32 (OpDAR.get (w.extractLsb' 0 32)) s
  | .fcvtF32I64 => execFcvtF32I64 (OpDAR.get (w.extractLsb' 0 32)) s
  | .fcvtF32N64 => execFcvtF32N64 (OpDAR.get (w.extractLsb' 0 32)) s
  | .fcvtI32F64 => execFcvtI32F64 (OpDAR.get (w.extractLsb' 0 32)) s
  | .fcvtN32F64 => execFcvtN32F64 (OpDAR.get (w.extractLsb' 0 32)) s
  | .fcvtI64F64 => execFcvtI64F64 (OpDAR.get (w.extractLsb' 0 32)) s
  | .fcvtN64F64 => execFcvtN64F64 (OpDAR.get (w.extractLsb' 0 32)) s
  | .fcvtF64I32 => execFcvtF64I32 (OpDAR.get (w.extractLsb' 0 32)) s
  | .fcvtF64N32 => execFcvtF64N32 (OpDAR.get (w.extractLsb' 0 32)) s
  | .fcvtF64I64 => execFcvtF64I64 (OpDAR.get (w.extractLsb' 0 32)) s
  | .fcvtF64N64 => execFcvtF64N64 (OpDAR.get (w.extractLsb' 0 32)) s
  | .fcvtF32F64 => execFcvtF32F64 (OpDAR.get (w.extractLsb' 0 32)) s
  | .fcvtF64F32 => execFcvtF64F32 (OpDAR.get (w.extractLsb' 0 32)) s
  | .vsetl => execVsetl (OpDAB.get (w.extractLsb' 0 32)) s
  | .vlease => execVlease (OpDAB.get (w.extractLsb' 0 32)) s
  | .vfork => execVfork (OpDA.get (w.extractLsb' 0 32)) s
  | .vjoin => execVjoin (OpDA.get (w.extractLsb' 0 32)) s
  | .vfetch => execVfetch (OpA.get (w.extractLsb' 0 32)) s
  | .vfetchw => execVfetchw (OpAK.get (w.extractLsb' 0 32)) s
  | .vloop => execVloop (OpAB.get (w.extractLsb' 0 32)) s
  | .vcommit => execVcommit s
  | .endb => execEndb s
  | .mmode => execMmode (OpA.get (w.extractLsb' 0 32)) s
  | .mshape => execMshape (OpDA.get (w.extractLsb' 0 32)) s
  | .vaddVV => execVaddVV (OpDABCEK.get (w.extractLsb' 0 32)) s
  | .vaddVX => execVaddVX (OpDABCK.get (w.extractLsb' 0 32)) s
  | .vaddVI => execVaddVI (OpDAICK.get (w.extractLsb' 0 32)) s
  | .vsubVV => execVsubVV (OpDABCEK.get (w.extractLsb' 0 32)) s
  | .vsubVX => execVsubVX (OpDABCK.get (w.extractLsb' 0 32)) s
  | .vsubVI => execVsubVI (OpDAICK.get (w.extractLsb' 0 32)) s
  | .vrsubVV => execVrsubVV (OpDABCEK.get (w.extractLsb' 0 32)) s
  | .vrsubVX => execVrsubVX (OpDABCK.get (w.extractLsb' 0 32)) s
  | .vrsubVI => execVrsubVI (OpDAICK.get (w.extractLsb' 0 32)) s
  | .vmulVV => execVmulVV (OpDABCEK.get (w.extractLsb' 0 32)) s
  | .vmulVX => execVmulVX (OpDABCK.get (w.extractLsb' 0 32)) s
  | .vmulVI => execVmulVI (OpDAICK.get (w.extractLsb' 0 32)) s
  | .vmulhVV => execVmulhVV (OpDABCEK.get (w.extractLsb' 0 32)) s
  | .vmulhVX => execVmulhVX (OpDABCK.get (w.extractLsb' 0 32)) s
  | .vmulhVI => execVmulhVI (OpDAICK.get (w.extractLsb' 0 32)) s
  | .vmulhnVV => execVmulhnVV (OpDABCEK.get (w.extractLsb' 0 32)) s
  | .vmulhnVX => execVmulhnVX (OpDABCK.get (w.extractLsb' 0 32)) s
  | .vmulhnVI => execVmulhnVI (OpDAICK.get (w.extractLsb' 0 32)) s
  | .vandVV => execVandVV (OpDABCEK.get (w.extractLsb' 0 32)) s
  | .vandVX => execVandVX (OpDABCK.get (w.extractLsb' 0 32)) s
  | .vandVI => execVandVI (OpDAICK.get (w.extractLsb' 0 32)) s
  | .vorVV => execVorVV (OpDABCEK.get (w.extractLsb' 0 32)) s
  | .vorVX => execVorVX (OpDABCK.get (w.extractLsb' 0 32)) s
  | .vorVI => execVorVI (OpDAICK.get (w.extractLsb' 0 32)) s
  | .vxorVV => execVxorVV (OpDABCEK.get (w.extractLsb' 0 32)) s
  | .vxorVX => execVxorVX (OpDABCK.get (w.extractLsb' 0 32)) s
  | .vxorVI => execVxorVI (OpDAICK.get (w.extractLsb' 0 32)) s
  | .vsllVV => execVsllVV (OpDABCEK.get (w.extractLsb' 0 32)) s
  | .vsllVX => execVsllVX (OpDABCK.get (w.extractLsb' 0 32)) s
  | .vsllVI => execVsllVI (OpDAICK.get (w.extractLsb' 0 32)) s
  | .vsrlVV => execVsrlVV (OpDABCEK.get (w.extractLsb' 0 32)) s
  | .vsrlVX => execVsrlVX (OpDABCK.get (w.extractLsb' 0 32)) s
  | .vsrlVI => execVsrlVI (OpDAICK.get (w.extractLsb' 0 32)) s
  | .vsraVV => execVsraVV (OpDABCEK.get (w.extractLsb' 0 32)) s
  | .vsraVX => execVsraVX (OpDABCK.get (w.extractLsb' 0 32)) s
  | .vsraVI => execVsraVI (OpDAICK.get (w.extractLsb' 0 32)) s
  | .vminVV => execVminVV (OpDABCEK.get (w.extractLsb' 0 32)) s
  | .vminVX => execVminVX (OpDABCK.get (w.extractLsb' 0 32)) s
  | .vminVI => execVminVI (OpDAICK.get (w.extractLsb' 0 32)) s
  | .vmaxVV => execVmaxVV (OpDABCEK.get (w.extractLsb' 0 32)) s
  | .vmaxVX => execVmaxVX (OpDABCK.get (w.extractLsb' 0 32)) s
  | .vmaxVI => execVmaxVI (OpDAICK.get (w.extractLsb' 0 32)) s
  | .vminnVV => execVminnVV (OpDABCEK.get (w.extractLsb' 0 32)) s
  | .vminnVX => execVminnVX (OpDABCK.get (w.extractLsb' 0 32)) s
  | .vminnVI => execVminnVI (OpDAICK.get (w.extractLsb' 0 32)) s
  | .vmaxnVV => execVmaxnVV (OpDABCEK.get (w.extractLsb' 0 32)) s
  | .vmaxnVX => execVmaxnVX (OpDABCK.get (w.extractLsb' 0 32)) s
  | .vmaxnVI => execVmaxnVI (OpDAICK.get (w.extractLsb' 0 32)) s
  | .vsaddVV => execVsaddVV (OpDABCEK.get (w.extractLsb' 0 32)) s
  | .vsaddVX => execVsaddVX (OpDABCK.get (w.extractLsb' 0 32)) s
  | .vssubVV => execVssubVV (OpDABCEK.get (w.extractLsb' 0 32)) s
  | .vssubVX => execVssubVX (OpDABCK.get (w.extractLsb' 0 32)) s
  | .vsaddnVV => execVsaddnVV (OpDABCEK.get (w.extractLsb' 0 32)) s
  | .vsaddnVX => execVsaddnVX (OpDABCK.get (w.extractLsb' 0 32)) s
  | .vssubnVV => execVssubnVV (OpDABCEK.get (w.extractLsb' 0 32)) s
  | .vssubnVX => execVssubnVX (OpDABCK.get (w.extractLsb' 0 32)) s
  | .vdivVV => execVdivVV (OpDABCEK.get (w.extractLsb' 0 32)) s
  | .vdivVX => execVdivVX (OpDABCK.get (w.extractLsb' 0 32)) s
  | .vdivnVV => execVdivnVV (OpDABCEK.get (w.extractLsb' 0 32)) s
  | .vdivnVX => execVdivnVX (OpDABCK.get (w.extractLsb' 0 32)) s
  | .vremVV => execVremVV (OpDABCEK.get (w.extractLsb' 0 32)) s
  | .vremVX => execVremVX (OpDABCK.get (w.extractLsb' 0 32)) s
  | .vremnVV => execVremnVV (OpDABCEK.get (w.extractLsb' 0 32)) s
  | .vremnVX => execVremnVX (OpDABCK.get (w.extractLsb' 0 32)) s
  | .vmaccVV => execVmaccVV (OpDABCEK.get (w.extractLsb' 0 32)) s
  | .vmaccVX => execVmaccVX (OpDABCK.get (w.extractLsb' 0 32)) s
  | .vnmsacVV => execVnmsacVV (OpDABCEK.get (w.extractLsb' 0 32)) s
  | .vnmsacVX => execVnmsacVX (OpDABCK.get (w.extractLsb' 0 32)) s
  | .vavgVV => execVavgVV (OpDABCEK.get (w.extractLsb' 0 32)) s
  | .vavgVX => execVavgVX (OpDABCK.get (w.extractLsb' 0 32)) s
  | .vavgnVV => execVavgnVV (OpDABCEK.get (w.extractLsb' 0 32)) s
  | .vavgnVX => execVavgnVX (OpDABCK.get (w.extractLsb' 0 32)) s
  | .vabs => execVabs (OpDBEK.get (w.extractLsb' 0 32)) s
  | .vneg => execVneg (OpDBEK.get (w.extractLsb' 0 32)) s
  | .vpopc => execVpopc (OpDBEK.get (w.extractLsb' 0 32)) s
  | .vclz => execVclz (OpDBEK.get (w.extractLsb' 0 32)) s
  | .vwaddVV => execVwaddVV (OpDABCEK.get (w.extractLsb' 0 32)) s
  | .vwaddVX => execVwaddVX (OpDABCK.get (w.extractLsb' 0 32)) s
  | .vwaddnVV => execVwaddnVV (OpDABCEK.get (w.extractLsb' 0 32)) s
  | .vwaddnVX => execVwaddnVX (OpDABCK.get (w.extractLsb' 0 32)) s
  | .vwsubVV => execVwsubVV (OpDABCEK.get (w.extractLsb' 0 32)) s
  | .vwsubVX => execVwsubVX (OpDABCK.get (w.extractLsb' 0 32)) s
  | .vwsubnVV => execVwsubnVV (OpDABCEK.get (w.extractLsb' 0 32)) s
  | .vwsubnVX => execVwsubnVX (OpDABCK.get (w.extractLsb' 0 32)) s
  | .vwmulVV => execVwmulVV (OpDABCEK.get (w.extractLsb' 0 32)) s
  | .vwmulVX => execVwmulVX (OpDABCK.get (w.extractLsb' 0 32)) s
  | .vwmulnVV => execVwmulnVV (OpDABCEK.get (w.extractLsb' 0 32)) s
  | .vwmulnVX => execVwmulnVX (OpDABCK.get (w.extractLsb' 0 32)) s
  | .vwmaccVV => execVwmaccVV (OpDABCEK.get (w.extractLsb' 0 32)) s
  | .vwmaccVX => execVwmaccVX (OpDABCK.get (w.extractLsb' 0 32)) s
  | .vwmaccnVV => execVwmaccnVV (OpDABCEK.get (w.extractLsb' 0 32)) s
  | .vwmaccnVX => execVwmaccnVX (OpDABCK.get (w.extractLsb' 0 32)) s
  | .vnsrlVV => execVnsrlVV (OpDABCEK.get (w.extractLsb' 0 32)) s
  | .vnsrlVX => execVnsrlVX (OpDABCK.get (w.extractLsb' 0 32)) s
  | .vnsraVV => execVnsraVV (OpDABCEK.get (w.extractLsb' 0 32)) s
  | .vnsraVX => execVnsraVX (OpDABCK.get (w.extractLsb' 0 32)) s
  | .vnclipVV => execVnclipVV (OpDABCEK.get (w.extractLsb' 0 32)) s
  | .vnclipVX => execVnclipVX (OpDABCK.get (w.extractLsb' 0 32)) s
  | .vnclipnVV => execVnclipnVV (OpDABCEK.get (w.extractLsb' 0 32)) s
  | .vnclipnVX => execVnclipnVX (OpDABCK.get (w.extractLsb' 0 32)) s
  | .vfaddVV => execVfaddVV (OpDABCEK.get (w.extractLsb' 0 32)) s
  | .vfaddVX => execVfaddVX (OpDABCK.get (w.extractLsb' 0 32)) s
  | .vfsubVV => execVfsubVV (OpDABCEK.get (w.extractLsb' 0 32)) s
  | .vfsubVX => execVfsubVX (OpDABCK.get (w.extractLsb' 0 32)) s
  | .vfrsubVV => execVfrsubVV (OpDABCEK.get (w.extractLsb' 0 32)) s
  | .vfrsubVX => execVfrsubVX (OpDABCK.get (w.extractLsb' 0 32)) s
  | .vfmulVV => execVfmulVV (OpDABCEK.get (w.extractLsb' 0 32)) s
  | .vfmulVX => execVfmulVX (OpDABCK.get (w.extractLsb' 0 32)) s
  | .vfdivVV => execVfdivVV (OpDABCEK.get (w.extractLsb' 0 32)) s
  | .vfdivVX => execVfdivVX (OpDABCK.get (w.extractLsb' 0 32)) s
  | .vfrdivVV => execVfrdivVV (OpDABCEK.get (w.extractLsb' 0 32)) s
  | .vfrdivVX => execVfrdivVX (OpDABCK.get (w.extractLsb' 0 32)) s
  | .vfminVV => execVfminVV (OpDABCEK.get (w.extractLsb' 0 32)) s
  | .vfminVX => execVfminVX (OpDABCK.get (w.extractLsb' 0 32)) s
  | .vfmaxVV => execVfmaxVV (OpDABCEK.get (w.extractLsb' 0 32)) s
  | .vfmaxVX => execVfmaxVX (OpDABCK.get (w.extractLsb' 0 32)) s
  | .vfsgnjVV => execVfsgnjVV (OpDABCEK.get (w.extractLsb' 0 32)) s
  | .vfsgnjVX => execVfsgnjVX (OpDABCK.get (w.extractLsb' 0 32)) s
  | .vfsgnjnVV => execVfsgnjnVV (OpDABCEK.get (w.extractLsb' 0 32)) s
  | .vfsgnjnVX => execVfsgnjnVX (OpDABCK.get (w.extractLsb' 0 32)) s
  | .vfsgnjxVV => execVfsgnjxVV (OpDABCEK.get (w.extractLsb' 0 32)) s
  | .vfsgnjxVX => execVfsgnjxVX (OpDABCK.get (w.extractLsb' 0 32)) s
  | .vfmaVV => execVfmaVV (OpDABCEK.get (w.extractLsb' 0 32)) s
  | .vfmaVX => execVfmaVX (OpDABCK.get (w.extractLsb' 0 32)) s
  | .vfmsVV => execVfmsVV (OpDABCEK.get (w.extractLsb' 0 32)) s
  | .vfmsVX => execVfmsVX (OpDABCK.get (w.extractLsb' 0 32)) s
  | .vfnmaVV => execVfnmaVV (OpDABCEK.get (w.extractLsb' 0 32)) s
  | .vfnmaVX => execVfnmaVX (OpDABCK.get (w.extractLsb' 0 32)) s
  | .vfnmsVV => execVfnmsVV (OpDABCEK.get (w.extractLsb' 0 32)) s
  | .vfnmsVX => execVfnmsVX (OpDABCK.get (w.extractLsb' 0 32)) s
  | .vfsqrt => execVfsqrt (OpDBEKR.get (w.extractLsb' 0 32)) s
  | .vfrcp => execVfrcp (OpDBEKR.get (w.extractLsb' 0 32)) s
  | .vfrsq => execVfrsq (OpDBEKR.get (w.extractLsb' 0 32)) s
  | .vfexp2 => execVfexp2 (OpDBEKR.get (w.extractLsb' 0 32)) s
  | .vflog2 => execVflog2 (OpDBEKR.get (w.extractLsb' 0 32)) s
  | .vfsinp => execVfsinp (OpDBEKR.get (w.extractLsb' 0 32)) s
  | .vfcosp => execVfcosp (OpDBEKR.get (w.extractLsb' 0 32)) s
  | .vftanh => execVftanh (OpDBEKR.get (w.extractLsb' 0 32)) s
  | .vfabs => execVfabs (OpDBEKR.get (w.extractLsb' 0 32)) s
  | .vfneg => execVfneg (OpDBEKR.get (w.extractLsb' 0 32)) s
  | .vfclass => execVfclass (OpDBEKR.get (w.extractLsb' 0 32)) s
  | .vffloor => execVffloor (OpDBEKR.get (w.extractLsb' 0 32)) s
  | .vfceil => execVfceil (OpDBEKR.get (w.extractLsb' 0 32)) s
  | .vfround => execVfround (OpDBEKR.get (w.extractLsb' 0 32)) s
  | .vcvtI32F32 => execVcvtI32F32 (OpDBEKSR.get (w.extractLsb' 0 32)) s
  | .vcvtN32F32 => execVcvtN32F32 (OpDBEKSR.get (w.extractLsb' 0 32)) s
  | .vcvtF32I32 => execVcvtF32I32 (OpDBEKSR.get (w.extractLsb' 0 32)) s
  | .vcvtF32N32 => execVcvtF32N32 (OpDBEKSR.get (w.extractLsb' 0 32)) s
  | .vcvtI64F64 => execVcvtI64F64 (OpDBEKSR.get (w.extractLsb' 0 32)) s
  | .vcvtN64F64 => execVcvtN64F64 (OpDBEKSR.get (w.extractLsb' 0 32)) s
  | .vcvtF64I64 => execVcvtF64I64 (OpDBEKSR.get (w.extractLsb' 0 32)) s
  | .vcvtF64N64 => execVcvtF64N64 (OpDBEKSR.get (w.extractLsb' 0 32)) s
  | .vcvtF64F32 => execVcvtF64F32 (OpDBEKSR.get (w.extractLsb' 0 32)) s
  | .vcvtF32F64 => execVcvtF32F64 (OpDBEKSR.get (w.extractLsb' 0 32)) s
  | .vcvtHF32 => execVcvtHF32 (OpDBEKSR.get (w.extractLsb' 0 32)) s
  | .vcvtBfF32 => execVcvtBfF32 (OpDBEKSR.get (w.extractLsb' 0 32)) s
  | .vcvtF32H => execVcvtF32H (OpDBEKSR.get (w.extractLsb' 0 32)) s
  | .vcvtF32Bf => execVcvtF32Bf (OpDBEKSR.get (w.extractLsb' 0 32)) s
  | .vcvtB8F32 => execVcvtB8F32 (OpDBEKSR.get (w.extractLsb' 0 32)) s
  | .vcvtF32B8 => execVcvtF32B8 (OpDBEKSR.get (w.extractLsb' 0 32)) s
  | .vcvtB8H => execVcvtB8H (OpDBEKSR.get (w.extractLsb' 0 32)) s
  | .vcvtHB8 => execVcvtHB8 (OpDBEKSR.get (w.extractLsb' 0 32)) s
  | .vcvtB8Bf => execVcvtB8Bf (OpDBEKSR.get (w.extractLsb' 0 32)) s
  | .vcvtBfB8 => execVcvtBfB8 (OpDBEKSR.get (w.extractLsb' 0 32)) s
  | .vcvtE4F32 => execVcvtE4F32 (OpDBEKSR.get (w.extractLsb' 0 32)) s
  | .vcvtF32E4 => execVcvtF32E4 (OpDBEKSR.get (w.extractLsb' 0 32)) s
  | .vcvtHE4 => execVcvtHE4 (OpDBEKSR.get (w.extractLsb' 0 32)) s
  | .vcvtQ4F32 => execVcvtQ4F32 (OpDBEKSR.get (w.extractLsb' 0 32)) s
  | .vcvtF32Q4 => execVcvtF32Q4 (OpDBEKSR.get (w.extractLsb' 0 32)) s
  | .vcvtHQ4 => execVcvtHQ4 (OpDBEKSR.get (w.extractLsb' 0 32)) s
  | .vcmpEqVV => execVcmpEqVV (OpD3ABCEK.get (w.extractLsb' 0 32)) s
  | .vcmpEqVX => execVcmpEqVX (OpD3ABCK.get (w.extractLsb' 0 32)) s
  | .vcmpNeVV => execVcmpNeVV (OpD3ABCEK.get (w.extractLsb' 0 32)) s
  | .vcmpNeVX => execVcmpNeVX (OpD3ABCK.get (w.extractLsb' 0 32)) s
  | .vcmpLtVV => execVcmpLtVV (OpD3ABCEK.get (w.extractLsb' 0 32)) s
  | .vcmpLtVX => execVcmpLtVX (OpD3ABCK.get (w.extractLsb' 0 32)) s
  | .vcmpLeVV => execVcmpLeVV (OpD3ABCEK.get (w.extractLsb' 0 32)) s
  | .vcmpLeVX => execVcmpLeVX (OpD3ABCK.get (w.extractLsb' 0 32)) s
  | .vcmpLtnVV => execVcmpLtnVV (OpD3ABCEK.get (w.extractLsb' 0 32)) s
  | .vcmpLtnVX => execVcmpLtnVX (OpD3ABCK.get (w.extractLsb' 0 32)) s
  | .vcmpLenVV => execVcmpLenVV (OpD3ABCEK.get (w.extractLsb' 0 32)) s
  | .vcmpLenVX => execVcmpLenVX (OpD3ABCK.get (w.extractLsb' 0 32)) s
  | .vcmpGtVV => execVcmpGtVV (OpD3ABCEK.get (w.extractLsb' 0 32)) s
  | .vcmpGtVX => execVcmpGtVX (OpD3ABCK.get (w.extractLsb' 0 32)) s
  | .vcmpGeVV => execVcmpGeVV (OpD3ABCEK.get (w.extractLsb' 0 32)) s
  | .vcmpGeVX => execVcmpGeVX (OpD3ABCK.get (w.extractLsb' 0 32)) s
  | .vcmpFeqVV => execVcmpFeqVV (OpD3ABCEK.get (w.extractLsb' 0 32)) s
  | .vcmpFeqVX => execVcmpFeqVX (OpD3ABCK.get (w.extractLsb' 0 32)) s
  | .vcmpFneVV => execVcmpFneVV (OpD3ABCEK.get (w.extractLsb' 0 32)) s
  | .vcmpFneVX => execVcmpFneVX (OpD3ABCK.get (w.extractLsb' 0 32)) s
  | .vcmpFltVV => execVcmpFltVV (OpD3ABCEK.get (w.extractLsb' 0 32)) s
  | .vcmpFltVX => execVcmpFltVX (OpD3ABCK.get (w.extractLsb' 0 32)) s
  | .vcmpFleVV => execVcmpFleVV (OpD3ABCEK.get (w.extractLsb' 0 32)) s
  | .vcmpFleVX => execVcmpFleVX (OpD3ABCK.get (w.extractLsb' 0 32)) s
  | .vcmpFgtVV => execVcmpFgtVV (OpD3ABCEK.get (w.extractLsb' 0 32)) s
  | .vcmpFgtVX => execVcmpFgtVX (OpD3ABCK.get (w.extractLsb' 0 32)) s
  | .vcmpFgeVV => execVcmpFgeVV (OpD3ABCEK.get (w.extractLsb' 0 32)) s
  | .vcmpFgeVX => execVcmpFgeVX (OpD3ABCK.get (w.extractLsb' 0 32)) s
  | .vcmpFunordVV => execVcmpFunordVV (OpD3ABCEK.get (w.extractLsb' 0 32)) s
  | .vcmpFunordVX => execVcmpFunordVX (OpD3ABCK.get (w.extractLsb' 0 32)) s
  | .vcmpFordVV => execVcmpFordVV (OpD3ABCEK.get (w.extractLsb' 0 32)) s
  | .vcmpFordVX => execVcmpFordVX (OpD3ABCK.get (w.extractLsb' 0 32)) s
  | .kand => execKand (OpD3A3B3CEK.get (w.extractLsb' 0 32)) s
  | .kor => execKor (OpD3A3B3CEK.get (w.extractLsb' 0 32)) s
  | .kxor => execKxor (OpD3A3B3CEK.get (w.extractLsb' 0 32)) s
  | .kandn => execKandn (OpD3A3B3CEK.get (w.extractLsb' 0 32)) s
  | .knot => execKnot (OpD3B3EK.get (w.extractLsb' 0 32)) s
  | .kmov => execKmov (OpD3B3EK.get (w.extractLsb' 0 32)) s
  | .kpop => execKpop (OpDB3EK.get (w.extractLsb' 0 32)) s
  | .kfirst => execKfirst (OpDB3EK.get (w.extractLsb' 0 32)) s
  | .kiota => execKiota (OpDB3EK.get (w.extractLsb' 0 32)) s
  | .vmerge => execVmerge (OpDABCEK.get (w.extractLsb' 0 32)) s
  | .vcompress => execVcompress (OpDBEK.get (w.extractLsb' 0 32)) s
  | .vexpand => execVexpand (OpDBEK.get (w.extractLsb' 0 32)) s
  | .ksetx => execKsetx (OpD3ABK.get (w.extractLsb' 0 32)) s
  | .vslideup => execVslideup (OpDABCK.get (w.extractLsb' 0 32)) s
  | .vslidedn => execVslidedn (OpDABCK.get (w.extractLsb' 0 32)) s
  | .vpermv => execVpermv (OpDABCEK.get (w.extractLsb' 0 32)) s
  | .vbcast => execVbcast (OpDABCK.get (w.extractLsb' 0 32)) s
  | .vextract => execVextract (OpDABC.get (w.extractLsb' 0 32)) s
  | .vinsert => execVinsert (OpDAB.get (w.extractLsb' 0 32)) s
  | .vilv => execVilv (OpDABCEK.get (w.extractLsb' 0 32)) s
  | .vdilv => execVdilv (OpDACK.get (w.extractLsb' 0 32)) s
  | .vid => execVid (OpDK.get (w.extractLsb' 0 32)) s
  | .vrand => execVrand (OpDAK.get (w.extractLsb' 0 32)) s
  | .vmvV => execVmvV (OpDBEK.get (w.extractLsb' 0 32)) s
  | .vmvX => execVmvX (OpDBK.get (w.extractLsb' 0 32)) s
  | .vredsum => execVredsum (OpDABCEK.get (w.extractLsb' 0 32)) s
  | .vredmin => execVredmin (OpDABCEK.get (w.extractLsb' 0 32)) s
  | .vredmax => execVredmax (OpDABCEK.get (w.extractLsb' 0 32)) s
  | .vredminn => execVredminn (OpDABCEK.get (w.extractLsb' 0 32)) s
  | .vredmaxn => execVredmaxn (OpDABCEK.get (w.extractLsb' 0 32)) s
  | .vredand => execVredand (OpDABCEK.get (w.extractLsb' 0 32)) s
  | .vredor => execVredor (OpDABCEK.get (w.extractLsb' 0 32)) s
  | .vredxor => execVredxor (OpDABCEK.get (w.extractLsb' 0 32)) s
  | .vfsum => execVfsum (OpDABCEK.get (w.extractLsb' 0 32)) s
  | .vfsumo => execVfsumo (OpDABCEK.get (w.extractLsb' 0 32)) s
  | .vfredmin => execVfredmin (OpDABCEK.get (w.extractLsb' 0 32)) s
  | .vfredmax => execVfredmax (OpDABCEK.get (w.extractLsb' 0 32)) s
  | .vwsum => execVwsum (OpDABCEK.get (w.extractLsb' 0 32)) s
  | .vbshl => execVbshl (OpDABCK.get (w.extractLsb' 0 32)) s
  | .vbshr => execVbshr (OpDABCK.get (w.extractLsb' 0 32)) s
  | .vbfun => execVbfun (OpDABCK.get (w.extractLsb' 0 32)) s
  | .vternlog => execVternlog (OpDABI.get (w.extractLsb' 0 32)) s
  | .vld => execVld (OpDAOK.get (w.extractLsb' 0 32)) s
  | .vldReg => execVldReg (OpDA.get (w.extractLsb' 0 32)) s
  | .vlds => execVlds (OpDABOK.get (w.extractLsb' 0 32)) s
  | .vldx => execVldx (OpDABCOK.get (w.extractLsb' 0 32)) s
  | .vst => execVst (OpDACOK.get (w.extractLsb' 0 32)) s
  | .vstReg => execVstReg (OpDAC.get (w.extractLsb' 0 32)) s
  | .vsts => execVsts (OpDABCOK.get (w.extractLsb' 0 32)) s
  | .vstx => execVstx (OpDABCOK.get (w.extractLsb' 0 32)) s
  | .vgll => execVgll (OpDABCK.get (w.extractLsb' 0 32)) s
  | .vscc => execVscc (OpDABCK.get (w.extractLsb' 0 32)) s
  | .vacc => execVacc (OpDABCK.get (w.extractLsb' 0 32)) s
  | .vldwE4H => execVldwE4H (OpDABK.get (w.extractLsb' 0 32)) s
  | .vldwE4Bf => execVldwE4Bf (OpDABK.get (w.extractLsb' 0 32)) s
  | .vldwE4B8 => execVldwE4B8 (OpDABK.get (w.extractLsb' 0 32)) s
  | .vldwQ4H => execVldwQ4H (OpDABK.get (w.extractLsb' 0 32)) s
  | .vldwQ4Bf => execVldwQ4Bf (OpDABK.get (w.extractLsb' 0 32)) s
  | .vldwQ4B8 => execVldwQ4B8 (OpDABK.get (w.extractLsb' 0 32)) s
  | .gsub => execGsub (OpDABCEK.get (w.extractLsb' 0 32)) s
  | .gadd => execGadd (OpDABCEK.get (w.extractLsb' 0 32)) s
  | .glen => execGlen (OpDBEK.get (w.extractLsb' 0 32)) s
  | .gtag => execGtag (OpDBEK.get (w.extractLsb' 0 32)) s
  | .gpack => execGpack (OpDABCEK.get (w.extractLsb' 0 32)) s
  | .gunpack => execGunpack (OpDBEK.get (w.extractLsb' 0 32)) s
  | .grehome => execGrehome (OpDBEK.get (w.extractLsb' 0 32)) s
  | .gdot => execGdot (OpDABCEK.get (w.extractLsb' 0 32)) s
  | .gcvt => execGcvt (OpDABCK.get (w.extractLsb' 0 32)) s
  | .gscl => execGscl (OpDABCK.get (w.extractLsb' 0 32)) s
  | .gsettag => execGsettag (OpDABCK.get (w.extractLsb' 0 32)) s
  | .gmorton => execGmorton (OpDABCK.get (w.extractLsb' 0 32)) s
  | .gnbr => execGnbr (OpDABCK.get (w.extractLsb' 0 32)) s
  | .vcellins => execVcellins (OpDABEK.get (w.extractLsb' 0 32)) s
  | .vcellfind => execVcellfind (OpDABEK.get (w.extractLsb' 0 32)) s
  | .recur => execRecur (OpDAB.get (w.extractLsb' 0 32)) s
  | .rspawn => execRspawn (OpACK.get (w.extractLsb' 0 32)) s
  | .rret => execRret (OpACK.get (w.extractLsb' 0 32)) s
  | .rkids => execRkids (OpDBK.get (w.extractLsb' 0 32)) s
  | .rdepth => execRdepth (OpDK.get (w.extractLsb' 0 32)) s
  | .rnkid => execRnkid (OpDK.get (w.extractLsb' 0 32)) s
  | .mzero => execMzero (OpD.get (w.extractLsb' 0 32)) s
  | .mrowv => execMrowv (OpDABK.get (w.extractLsb' 0 32)) s
  | .mvrow => execMvrow (OpDABCK.get (w.extractLsb' 0 32)) s
  | .mcolv => execMcolv (OpDABK.get (w.extractLsb' 0 32)) s
  | .mvcol => execMvcol (OpDABCK.get (w.extractLsb' 0 32)) s
  | .mdrain => execMdrain (OpDAB.get (w.extractLsb' 0 32)) s
  | .mload => execMload (OpDAB.get (w.extractLsb' 0 32)) s
  | .amerge => execAmerge (OpAB.get (w.extractLsb' 0 32)) s
  | .sacc => execSacc (OpAB.get (w.extractLsb' 0 32)) s
  | .opacc => execOpacc (OpTile.get w) s
  | .opsub => execOpsub (OpTile.get w) s
  | .opaccw => execOpaccw (OpTile.get w) s
  | .cAddi => execCAddi (OpCDI.get (w.extractLsb' 0 16)) s
  | .cMv => execCMv (OpCDS.get (w.extractLsb' 0 16)) s
  | .cAdd => execCAdd (OpCDS.get (w.extractLsb' 0 16)) s
  | .cSub => execCSub (OpCDS.get (w.extractLsb' 0 16)) s
  | .cLd => execCLd (OpCDAO.get (w.extractLsb' 0 16)) s
  | .cSd => execCSd (OpCSAO.get (w.extractLsb' 0 16)) s
  | .cLw => execCLw (OpCDAO.get (w.extractLsb' 0 16)) s
  | .cSw => execCSw (OpCSAO.get (w.extractLsb' 0 16)) s
  | .cJ => execCJ (OpCO.get (w.extractLsb' 0 16)) s
  | .cBeqz => execCBeqz (OpCSO.get (w.extractLsb' 0 16)) s
  | .cBnez => execCBnez (OpCSO.get (w.extractLsb' 0 16)) s
  | .cVfetch => execCVfetch (OpCA.get (w.extractLsb' 0 16)) s

end Sys2Proof.Machine
end

