-- ==== Sys2Proof/Machine/Step.lean ====
section
/-! DEFINITION. One step of the part: what the model's schedule moves first, else the hart in focus, which takes a trap that is ready
(R343) or fetches, decodes and runs its next instruction (R66, R67, R75, R101). -/

namespace Sys2Proof.Machine

/-- The hart in focus does not move: it fetches nothing, or its die does not run. -/
def State.still (s : State) : Bool := s.hart.run != .running || (s.dieAt s.hart.die).run != .running

/-- The step of the hart in focus. -/
noncomputable def hartStep (s : State) : Answer :=
  if s.still then .next s
  else
    match s.takeReady with
    | some t => .next t
    | none =>
      (s.fetchAt s.hart.pc.toNat).finish fun w t =>
        match decode w with
        | .error e => t.raise (controlStop e w)
        | .ok i => exec i t

/-- The lanes of the hart in focus work on an entry of its queue, while its die runs. -/
def State.laneTurn (s : State) (n : Nat) : State := if (s.dieAt s.hart.die).run = .running then s.laneAt n else s

/-- One step. A turn of the model's schedule moves before the hart in focus does; a device turn that is no device step does nothing. -/
noncomputable def step (s : State) : Host.Outcome State Fault Refusal :=
  match s.turns with
  | .device i :: ts => if i.len = 0 then exec i { s with turns := ts } else .next { s with turns := ts }
  | .focus h :: ts => .next (if h < 2310 then State.focusOn { s with turns := ts } h else { s with turns := ts })
  | .run h :: ts => if h < 2310 then hartStep (State.focusOn { s with turns := ts } h) else .next { s with turns := ts }
  | .lane n :: ts => .next (State.laneTurn { s with turns := ts } n)
  | [] => hartStep s

/-! ## The same, for evaluation -/

/-- The step of the hart in focus, by the row of its instruction. -/
def hartStepFast (s : State) : Answer :=
  if s.still then .next s
  else
    match s.takeReady with
    | some t => .next t
    | none =>
      (s.fetchAt s.hart.pc.toNat).finish fun w t =>
        match decodeRow w with
        | .error e => t.raise (controlStop e w)
        | .ok r => execRow r w t

/-- One step, by the row of the instruction. -/
def stepFast (s : State) : Host.Outcome State Fault Refusal :=
  match s.turns with
  | .device i :: ts => if i.len = 0 then exec i { s with turns := ts } else .next { s with turns := ts }
  | .focus h :: ts => .next (if h < 2310 then State.focusOn { s with turns := ts } h else { s with turns := ts })
  | .run h :: ts => if h < 2310 then hartStepFast (State.focusOn { s with turns := ts } h) else .next { s with turns := ts }
  | .lane n :: ts => .next (State.laneTurn { s with turns := ts } n)
  | [] => hartStepFast s

theorem exec_instr (r : Row) (w : BitVec 64) (s : State) : exec (r.instr w) s = execRow r w s := by
  cases r <;> rfl

theorem hartStep_eq (s : State) : hartStep s = hartStepFast s := by
  unfold hartStep hartStepFast
  congr 3
  funext _
  congr 1
  funext w t
  unfold decode
  cases decodeRow w with
  | error e => rfl
  | ok r => exact exec_instr r w t

@[csimp] theorem step_eq : @step = @stepFast := by
  funext s
  unfold step stepFast
  simp only [hartStep_eq]

/-! ## A launched instruction -/

/-- The virtual and the physical address of the code that `withFetchWord` places. -/
def codeBase : Nat := 0x10000

/-- The leaf of the page of that code: readable, writable and executable in rider mode, in die 0's device memory (R224). -/
def codeLeaf : Word := 0x100BF#64

/-- The job that `withFetchWord` puts in place of a launch (R9, R12): every register declared, one hart. -/
def launchedJob (s : State) : Job :=
  { gang := s.nextGang, stable := s.hart.stable, image := 0, ctx := s.hart.ctx, pgroot := s.hart.csr.pgroot, prio := 0,
    xdecl := 0xFFFFFFFE#32, vdecl := 0xFFFFFFFF#32, kdecl := 0xFE#8, zdecl := 3#2, nbar := 64, spbytes := 0, lmin := 1, xspill := 0#32,
    vspill := 0#32, kspill := 0#8, zspill := 0#2, spill := 0, sigaddr := 0, sigval := 0#8, node := none, phase := 0, arrived := 0#8,
    mask := 1#8, members := [{ n := 0, hart := s.hart.id, launched := true, halted := false }], pad := [], vcode := 0, ending := false }

/-- The hart in focus as a launch of that job starts it at the code (R12): rider mode, vector and matrix state on. -/
def launchedHart (s : State) : Hart :=
  { s.hart with
    run := .running, pc := BitVec.ofNat 64 codeBase, job := some s.nextGang, queue := [], image := .empty, vcause := none, ecauses := []
    preT := false, preH := false, softErr := [], bridle := [], gwait := none, recur := none, group := none, waits := false, hold := false
    offers := [], moved := []
    csr := { s.hart.csr with status := 0x150#64, vstart := 0#64, leaseMin := 1, leasePref := 1, grant := 1, target := 1, frozen := false } }

/-- The state with the instruction of `nbits` bits `w` as the next that `step` fetches: it stands for the launch of a job whose code
begins with it (log 27). Its page is translated by the TLBs of the hart's stable, and its bytes stand in device memory. -/
def State.withFetchWord (s : State) (nbits w : Nat) : State :=
  let t := s.stableAt s.hart.stable
  let d := s.dieAt s.hart.die
  let u := { s with turns := [], hart := launchedHart s, jobs := launchedJob s :: s.jobs, nextGang := (s.nextGang + 1) % 2 ^ 24 }
  let u := (u.putStable { t with
    tlb := { ctx := s.hart.ctx, level := 3, vpn := codeBase / 65536, leaf := codeLeaf } :: t.tlb, icache := [] }).putDie { d with run := .running }
  let u := u.physWrite 4096 codeBase 32 (w % 2 ^ nbits)
  { u with movedPages := dropBy (fun p : Nat => p == codeBase / 65536) u.movedPages }

end Sys2Proof.Machine
end

