-- ==== Sys2Proof/WellFormed.lean ====
section
/-! DEFINITION. Which instructions are well formed: the operand values that have an encoding which decodes (R66 to R75), and the
device steps that name units of the part. Generated from the spec's encoding tables. -/

namespace Sys2Proof

/-- The operands of an instruction have an encoding; a device step names units that the part has (R3, R37, R43, R369). -/
def Instr.wf (i : Instr) : Bool :=
  match i with
  | .powerGood => true
  | .bringupStageComplete _ => true
  | .ctrlWreset port => decide (port < 2)
  | .ctrlBootretry port => decide (port < 2)
  | .ctrlModelock port => decide (port < 2)
  | .ctrlCfglock port => decide (port < 2)
  | .ctrlWinlock port => decide (port < 2)
  | .hsemRead port => decide (port < 2)
  | .hsemRelease port => decide (port < 2)
  | .funcmodeWrite port _ => decide (port < 2)
  | .registerWrite port _ _ => decide (port < 8)
  | .hostLinkDown port => decide (port < 2)
  | .wakeWindowWrite port _ _ => decide (port < 2)
  | .evackWrite port _ => decide (port < 2)
  | .eventPost port => decide (port < 2)
  | .launchRequestGo host n => decide (n < if host then 2 else 6)
  | .sealWindowSeal port => decide (port < 2)
  | .sealWindowRevoke port => decide (port < 2)
  | .preemptTimer die _ => decide (die < 6)
  | .preemptHost die _ => decide (die < 6)
  | .migrationGo die => decide (die < 6)
  | .migrationRetire die => decide (die < 6)
  | .watchdogWrite die => decide (die < 6)
  | .watchdogExpiry die => decide (die < 6)
  | .backgroundInitRegion => true
  | .graphSubmissionPop _ => true
  | .nodeStart _ _ => true
  | .readyRingPost _ _ => true
  | .nodeFinish _ _ => true
  | .remoteSuccessorReady _ _ => true
  | .completionPushRetry _ => true
  | .admissionGranted _ => true
  | .jobComplete _ => true
  | .jobEndByRecovery _ => true
  | .stripBoundaryGrantChange h => decide (h < 2310)
  | .forcedBoundary h => decide (h < 2310)
  | .leaseStallPreempt h => decide (h < 2310)
  | .clusterRetire die stable cluster => decide (die < 6) && decide (stable < 48) && decide (cluster < 16)
  | .vectorEntryComplete h => decide (h < 2310)
  | .readQueueReturn h => decide (h < 2310)
  | .blockGroupCommit h => decide (h < 2310)
  | .stripAssign h => decide (h < 2310)
  | .hartHaltComplete h => decide (h < 2310)
  | .trapTake h => decide (h < 2310)
  | .translationFaultReply die slot => decide (die < 6) && decide (slot < 32)
  | .engineTransferStart h _ => decide (h < 2310 ∨ (4096 ≤ h ∧ h < 4102))
  | .engineChunkComplete h _ => decide (h < 2310 ∨ (4096 ≤ h ∧ h < 4102))
  | .engineTransferComplete h _ => decide (h < 2310 ∨ (4096 ≤ h ∧ h < 4102))
  | .mdrainTransferComplete h _ => decide (h < 2310)
  | .recursionPassComplete h => decide (h < 2310)
  | .directoryReadRequest die _ _ => decide (die < 6)
  | .directoryWriteRequest die _ _ => decide (die < 6)
  | .invalidation die _ _ => decide (die < 6)
  | .invalidationAck die _ _ => decide (die < 6)
  | .evictionNotice die _ _ => decide (die < 6)
  | .forwardSnoop die _ _ => decide (die < 6)
  | .writeBack die _ _ => decide (die < 6)
  | .backInvalidation _ => true
  | .uRequest die _ _ _ => decide (die < 6)
  | .mergeRequest _ => true
  | .mergeResponse _ => true
  | .movedResponse h _ => decide (h < 2310)
  | .hostCxlRequest port _ _ _ => decide (port < 2)
  | .bisnpResponse port _ => decide (port < 2)
  | .hostSnoop port _ => decide (port < 2)
  | .dieResetRecall die => decide (die < 6)
  | .dieReturn die => decide (die < 6)
  | .memoryScrub _ => true
  | .correctedError die counter => decide (die < 6) && decide (counter < 3)
  | .burzerCrcReplay link => decide (link < 16)
  | .burzerHeartbeat link => decide (link < 16)
  | .peerSilenceTimeout dev => decide (dev < 8192)
  | .spareAssign dev => decide (dev < 8192)
  | .checkpointRestore => true
  | .checkpointWrite => true
  | .thermalShutdown => true
  | .coolantLossShutdown => true
  | .clockThrottle die _ => decide (die < 6)
  | .wfeTimeout h => decide (h < 2310)
  | .waitmTimeout h => decide (h < 2310)
  | .add _ => true
  | .sub _ => true
  | .and _ => true
  | .or _ => true
  | .xor _ => true
  | .sll _ => true
  | .srl _ => true
  | .sra _ => true
  | .slt _ => true
  | .sltn _ => true
  | .min _ => true
  | .max _ => true
  | .minn _ => true
  | .maxn _ => true
  | .andn _ => true
  | .orn _ => true
  | .rol _ => true
  | .ror _ => true
  | .addw _ => true
  | .subw _ => true
  | .mul _ => true
  | .mulh _ => true
  | .mulhn _ => true
  | .mulhsn _ => true
  | .div _ => true
  | .divn _ => true
  | .rem _ => true
  | .remn _ => true
  | .fadd o => !(badRound o.r)
  | .fsub o => !(badRound o.r)
  | .fmul o => !(badRound o.r)
  | .fdiv o => !(badRound o.r)
  | .fsqrt o => !(badRound o.r)
  | .fmin _ => true
  | .fmax _ => true
  | .fsgnj _ => true
  | .fsgnjn _ => true
  | .fsgnjx _ => true
  | .feq _ => true
  | .flt _ => true
  | .fle _ => true
  | .fclass _ => true
  | .fma _ => true
  | .fms _ => true
  | .fnma _ => true
  | .fnms _ => true
  | .addi _ => true
  | .andi _ => true
  | .ori _ => true
  | .xori _ => true
  | .slti _ => true
  | .sltni _ => true
  | .slli _ => true
  | .srli _ => true
  | .srai _ => true
  | .roli _ => true
  | .lui _ => true
  | .auipc _ => true
  | .lb _ => true
  | .lh _ => true
  | .lw _ => true
  | .ld _ => true
  | .lbn _ => true
  | .lhn _ => true
  | .lwn _ => true
  | .sb _ => true
  | .sh _ => true
  | .sw _ => true
  | .sd _ => true
  | .beq _ => true
  | .bne _ => true
  | .blt _ => true
  | .bge _ => true
  | .bltn _ => true
  | .bgen _ => true
  | .jal _ => true
  | .jalr _ => true
  | .amoswapW _ => true
  | .amoaddW _ => true
  | .amoandW _ => true
  | .amoorW _ => true
  | .amoxorW _ => true
  | .amominW _ => true
  | .amomaxW _ => true
  | .amominnW _ => true
  | .amomaxnW _ => true
  | .amoswapD _ => true
  | .amoaddD _ => true
  | .amoandD _ => true
  | .amoorD _ => true
  | .amoxorD _ => true
  | .amominD _ => true
  | .amomaxD _ => true
  | .amominnD _ => true
  | .amomaxnD _ => true
  | .cas _ => true
  | .fence o => !(decide (5#3 < o.s) || o.k == 3#2)
  | .pause => true
  | .waitm _ => true
  | .arrive _ => true
  | .await _ => true
  | .gbar _ => true
  | .gbarRlx _ => true
  | .csrrw o => !(badCsr o.c (true))
  | .csrrs o => !(badCsr o.c (o.a != 0#5))
  | .csrrc o => !(badCsr o.c (o.a != 0#5))
  | .csrrwi o => !(badCsr o.c (true))
  | .csrrsi o => !(badCsr o.c (o.u != 0#5))
  | .csrrci o => !(badCsr o.c (o.u != 0#5))
  | .trap _ => true
  | .trapBrk => true
  | .tret => true
  | .halt => true
  | .wfe => true
  | .tlbinv _ => true
  | .cflush _ => true
  | .cinval _ => true
  | .pin _ => true
  | .unpin _ => true
  | .vqsave _ => true
  | .vqload _ => true
  | .finval _ => true
  | .clz _ => true
  | .ctz _ => true
  | .popc _ => true
  | .bswap _ => true
  | .sextb _ => true
  | .sexth _ => true
  | .sextw _ => true
  | .zextb _ => true
  | .zexth _ => true
  | .zextw _ => true
  | .qpush _ => true
  | .qpop _ => true
  | .qpeek _ => true
  | .qwake _ => true
  | .qseal _ => true
  | .qrevoke _ => true
  | .qgrow _ => true
  | .cpy _ => true
  | .cpybt _ => true
  | .cpywait => true
  | .nsub _ => true
  | .cpyfill _ => true
  | .fcvtI32F32 o => !(badRound o.r)
  | .fcvtN32F32 o => !(badRound o.r)
  | .fcvtI64F32 o => !(badRound o.r)
  | .fcvtN64F32 o => !(badRound o.r)
  | .fcvtF32I32 o => !(badRound o.r)
  | .fcvtF32N32 o => !(badRound o.r)
  | .fcvtF32I64 o => !(badRound o.r)
  | .fcvtF32N64 o => !(badRound o.r)
  | .fcvtI32F64 o => !(badRound o.r)
  | .fcvtN32F64 o => !(badRound o.r)
  | .fcvtI64F64 o => !(badRound o.r)
  | .fcvtN64F64 o => !(badRound o.r)
  | .fcvtF64I32 o => !(badRound o.r)
  | .fcvtF64N32 o => !(badRound o.r)
  | .fcvtF64I64 o => !(badRound o.r)
  | .fcvtF64N64 o => !(badRound o.r)
  | .fcvtF32F64 o => !(badRound o.r)
  | .fcvtF64F32 o => !(badRound o.r)
  | .vsetl _ => true
  | .vlease _ => true
  | .vfork _ => true
  | .vjoin _ => true
  | .vfetch _ => true
  | .vfetchw o => !(o.k == 0#3)
  | .vloop _ => true
  | .vcommit => true
  | .endb => true
  | .mmode _ => true
  | .mshape _ => true
  | .vaddVV _ => true
  | .vaddVX _ => true
  | .vaddVI _ => true
  | .vsubVV _ => true
  | .vsubVX _ => true
  | .vsubVI _ => true
  | .vrsubVV _ => true
  | .vrsubVX _ => true
  | .vrsubVI _ => true
  | .vmulVV _ => true
  | .vmulVX _ => true
  | .vmulVI _ => true
  | .vmulhVV _ => true
  | .vmulhVX _ => true
  | .vmulhVI _ => true
  | .vmulhnVV _ => true
  | .vmulhnVX _ => true
  | .vmulhnVI _ => true
  | .vandVV _ => true
  | .vandVX _ => true
  | .vandVI _ => true
  | .vorVV _ => true
  | .vorVX _ => true
  | .vorVI _ => true
  | .vxorVV _ => true
  | .vxorVX _ => true
  | .vxorVI _ => true
  | .vsllVV _ => true
  | .vsllVX _ => true
  | .vsllVI _ => true
  | .vsrlVV _ => true
  | .vsrlVX _ => true
  | .vsrlVI _ => true
  | .vsraVV _ => true
  | .vsraVX _ => true
  | .vsraVI _ => true
  | .vminVV _ => true
  | .vminVX _ => true
  | .vminVI _ => true
  | .vmaxVV _ => true
  | .vmaxVX _ => true
  | .vmaxVI _ => true
  | .vminnVV _ => true
  | .vminnVX _ => true
  | .vminnVI _ => true
  | .vmaxnVV _ => true
  | .vmaxnVX _ => true
  | .vmaxnVI _ => true
  | .vsaddVV _ => true
  | .vsaddVX _ => true
  | .vssubVV _ => true
  | .vssubVX _ => true
  | .vsaddnVV _ => true
  | .vsaddnVX _ => true
  | .vssubnVV _ => true
  | .vssubnVX _ => true
  | .vdivVV _ => true
  | .vdivVX _ => true
  | .vdivnVV _ => true
  | .vdivnVX _ => true
  | .vremVV _ => true
  | .vremVX _ => true
  | .vremnVV _ => true
  | .vremnVX _ => true
  | .vmaccVV _ => true
  | .vmaccVX _ => true
  | .vnmsacVV _ => true
  | .vnmsacVX _ => true
  | .vavgVV _ => true
  | .vavgVX _ => true
  | .vavgnVV _ => true
  | .vavgnVX _ => true
  | .vabs _ => true
  | .vneg _ => true
  | .vpopc _ => true
  | .vclz _ => true
  | .vwaddVV _ => true
  | .vwaddVX _ => true
  | .vwaddnVV _ => true
  | .vwaddnVX _ => true
  | .vwsubVV _ => true
  | .vwsubVX _ => true
  | .vwsubnVV _ => true
  | .vwsubnVX _ => true
  | .vwmulVV _ => true
  | .vwmulVX _ => true
  | .vwmulnVV _ => true
  | .vwmulnVX _ => true
  | .vwmaccVV _ => true
  | .vwmaccVX _ => true
  | .vwmaccnVV _ => true
  | .vwmaccnVX _ => true
  | .vnsrlVV _ => true
  | .vnsrlVX _ => true
  | .vnsraVV _ => true
  | .vnsraVX _ => true
  | .vnclipVV _ => true
  | .vnclipVX _ => true
  | .vnclipnVV _ => true
  | .vnclipnVX _ => true
  | .vfaddVV _ => true
  | .vfaddVX _ => true
  | .vfsubVV _ => true
  | .vfsubVX _ => true
  | .vfrsubVV _ => true
  | .vfrsubVX _ => true
  | .vfmulVV _ => true
  | .vfmulVX _ => true
  | .vfdivVV _ => true
  | .vfdivVX _ => true
  | .vfrdivVV _ => true
  | .vfrdivVX _ => true
  | .vfminVV _ => true
  | .vfminVX _ => true
  | .vfmaxVV _ => true
  | .vfmaxVX _ => true
  | .vfsgnjVV _ => true
  | .vfsgnjVX _ => true
  | .vfsgnjnVV _ => true
  | .vfsgnjnVX _ => true
  | .vfsgnjxVV _ => true
  | .vfsgnjxVX _ => true
  | .vfmaVV _ => true
  | .vfmaVX _ => true
  | .vfmsVV _ => true
  | .vfmsVX _ => true
  | .vfnmaVV _ => true
  | .vfnmaVX _ => true
  | .vfnmsVV _ => true
  | .vfnmsVX _ => true
  | .vfsqrt o => !(badVfuRound o.r || ((o.r.extractLsb' 3 1) == 0#1 && (o.r.extractLsb' 0 3) != 0#3))
  | .vfrcp o => !(badVfuRound o.r || ((o.r.extractLsb' 3 1) == 0#1 && (o.r.extractLsb' 0 3) != 0#3))
  | .vfrsq o => !(badVfuRound o.r || ((o.r.extractLsb' 3 1) == 0#1 && (o.r.extractLsb' 0 3) != 0#3))
  | .vfexp2 o => !(badVfuRound o.r || ((o.r.extractLsb' 3 1) == 0#1 && (o.r.extractLsb' 0 3) != 0#3))
  | .vflog2 o => !(badVfuRound o.r || ((o.r.extractLsb' 3 1) == 0#1 && (o.r.extractLsb' 0 3) != 0#3))
  | .vfsinp o => !(badVfuRound o.r || ((o.r.extractLsb' 3 1) == 0#1 && (o.r.extractLsb' 0 3) != 0#3))
  | .vfcosp o => !(badVfuRound o.r || ((o.r.extractLsb' 3 1) == 0#1 && (o.r.extractLsb' 0 3) != 0#3))
  | .vftanh o => !(badVfuRound o.r || ((o.r.extractLsb' 3 1) == 0#1 && (o.r.extractLsb' 0 3) != 0#3))
  | .vfabs o => !(badVfuRound o.r || ((o.r.extractLsb' 3 1) == 0#1 && (o.r.extractLsb' 0 3) != 0#3))
  | .vfneg o => !(badVfuRound o.r || ((o.r.extractLsb' 3 1) == 0#1 && (o.r.extractLsb' 0 3) != 0#3))
  | .vfclass o => !(badVfuRound o.r || ((o.r.extractLsb' 3 1) == 0#1 && (o.r.extractLsb' 0 3) != 0#3))
  | .vffloor o => !(badVfuRound o.r || ((o.r.extractLsb' 3 1) == 0#1 && (o.r.extractLsb' 0 3) != 0#3))
  | .vfceil o => !(badVfuRound o.r || ((o.r.extractLsb' 3 1) == 0#1 && (o.r.extractLsb' 0 3) != 0#3))
  | .vfround o => !(badVfuRound o.r || ((o.r.extractLsb' 3 1) == 0#1 && (o.r.extractLsb' 0 3) != 0#3))
  | .vcvtI32F32 o => !(badCvtRound o.r false)
  | .vcvtN32F32 o => !(badCvtRound o.r false)
  | .vcvtF32I32 o => !(badCvtRound o.r false)
  | .vcvtF32N32 o => !(badCvtRound o.r false)
  | .vcvtI64F64 o => !(badCvtRound o.r false)
  | .vcvtN64F64 o => !(badCvtRound o.r false)
  | .vcvtF64I64 o => !(badCvtRound o.r false)
  | .vcvtF64N64 o => !(badCvtRound o.r false)
  | .vcvtF64F32 o => !(badCvtRound o.r false)
  | .vcvtF32F64 o => !(badCvtRound o.r false)
  | .vcvtHF32 o => !(badCvtRound o.r true)
  | .vcvtBfF32 o => !(badCvtRound o.r true)
  | .vcvtF32H o => !(badCvtRound o.r false)
  | .vcvtF32Bf o => !(badCvtRound o.r false)
  | .vcvtB8F32 o => !(badCvtRound o.r true)
  | .vcvtF32B8 o => !(badCvtRound o.r false)
  | .vcvtB8H o => !(badCvtRound o.r true)
  | .vcvtHB8 o => !(badCvtRound o.r true)
  | .vcvtB8Bf o => !(badCvtRound o.r true)
  | .vcvtBfB8 o => !(badCvtRound o.r true)
  | .vcvtE4F32 o => !(badCvtRound o.r true)
  | .vcvtF32E4 o => !(badCvtRound o.r false)
  | .vcvtHE4 o => !(badCvtRound o.r true)
  | .vcvtQ4F32 o => !(badCvtRound o.r false)
  | .vcvtF32Q4 o => !(badCvtRound o.r false)
  | .vcvtHQ4 o => !(badCvtRound o.r true)
  | .vcmpEqVV _ => true
  | .vcmpEqVX _ => true
  | .vcmpNeVV _ => true
  | .vcmpNeVX _ => true
  | .vcmpLtVV _ => true
  | .vcmpLtVX _ => true
  | .vcmpLeVV _ => true
  | .vcmpLeVX _ => true
  | .vcmpLtnVV _ => true
  | .vcmpLtnVX _ => true
  | .vcmpLenVV _ => true
  | .vcmpLenVX _ => true
  | .vcmpGtVV _ => true
  | .vcmpGtVX _ => true
  | .vcmpGeVV _ => true
  | .vcmpGeVX _ => true
  | .vcmpFeqVV _ => true
  | .vcmpFeqVX _ => true
  | .vcmpFneVV _ => true
  | .vcmpFneVX _ => true
  | .vcmpFltVV _ => true
  | .vcmpFltVX _ => true
  | .vcmpFleVV _ => true
  | .vcmpFleVX _ => true
  | .vcmpFgtVV _ => true
  | .vcmpFgtVX _ => true
  | .vcmpFgeVV _ => true
  | .vcmpFgeVX _ => true
  | .vcmpFunordVV _ => true
  | .vcmpFunordVX _ => true
  | .vcmpFordVV _ => true
  | .vcmpFordVX _ => true
  | .kand _ => true
  | .kor _ => true
  | .kxor _ => true
  | .kandn _ => true
  | .knot _ => true
  | .kmov _ => true
  | .kpop _ => true
  | .kfirst _ => true
  | .kiota _ => true
  | .vmerge _ => true
  | .vcompress _ => true
  | .vexpand _ => true
  | .ksetx _ => true
  | .vslideup _ => true
  | .vslidedn _ => true
  | .vpermv _ => true
  | .vbcast _ => true
  | .vextract _ => true
  | .vinsert _ => true
  | .vilv _ => true
  | .vdilv _ => true
  | .vid _ => true
  | .vrand _ => true
  | .vmvV _ => true
  | .vmvX _ => true
  | .vredsum _ => true
  | .vredmin _ => true
  | .vredmax _ => true
  | .vredminn _ => true
  | .vredmaxn _ => true
  | .vredand _ => true
  | .vredor _ => true
  | .vredxor _ => true
  | .vfsum _ => true
  | .vfsumo _ => true
  | .vfredmin _ => true
  | .vfredmax _ => true
  | .vwsum _ => true
  | .vbshl _ => true
  | .vbshr _ => true
  | .vbfun _ => true
  | .vternlog _ => true
  | .vld _ => true
  | .vldReg _ => true
  | .vlds _ => true
  | .vldx _ => true
  | .vst _ => true
  | .vstReg _ => true
  | .vsts _ => true
  | .vstx _ => true
  | .vgll _ => true
  | .vscc o => o.k != 0#3
  | .vacc _ => true
  | .vldwE4H _ => true
  | .vldwE4Bf _ => true
  | .vldwE4B8 _ => true
  | .vldwQ4H _ => true
  | .vldwQ4Bf _ => true
  | .vldwQ4B8 _ => true
  | .gsub _ => true
  | .gadd _ => true
  | .glen _ => true
  | .gtag _ => true
  | .gpack _ => true
  | .gunpack _ => true
  | .grehome _ => true
  | .gdot _ => true
  | .gcvt _ => true
  | .gscl _ => true
  | .gsettag _ => true
  | .gmorton _ => true
  | .gnbr _ => true
  | .vcellins _ => true
  | .vcellfind _ => true
  | .recur _ => true
  | .rspawn _ => true
  | .rret _ => true
  | .rkids _ => true
  | .rdepth _ => true
  | .rnkid _ => true
  | .mzero o => !(decide (1#5 < o.d))
  | .mrowv o => !(decide (1#5 < o.a))
  | .mvrow o => !(decide (1#5 < o.d))
  | .mcolv o => !(decide (1#5 < o.a))
  | .mvcol o => !(decide (1#5 < o.d))
  | .mdrain o => !(decide (1#5 < o.d))
  | .mload o => !(decide (1#5 < o.d))
  | .amerge _ => true
  | .sacc _ => true
  | .opacc o => !(badRound o.arnd || decide (3#3 < o.fb) || decide (3#3 < o.fa) || decide (1#5 < o.zd))
  | .opsub o => !(badRound o.arnd || decide (3#3 < o.fb) || decide (3#3 < o.fa) || decide (1#5 < o.zd))
  | .opaccw o => !(badRound o.arnd || decide (3#3 < o.fb) || decide (3#3 < o.fa) || o.fb == 0#3 || decide (1#5 < o.zd))
  | .cAddi o => !(o.d == 0#5)
  | .cMv o => !(o.d == 0#5)
  | .cAdd o => !(o.d == 0#5)
  | .cSub o => !(o.d == 0#5)
  | .cLd _ => true
  | .cSd _ => true
  | .cLw _ => true
  | .cSw _ => true
  | .cJ _ => true
  | .cBeqz _ => true
  | .cBnez _ => true
  | .cVfetch _ => true
  | .inboundPeerAccess link _ _ _ => decide (link < 16)
  | .spdmRequest port _ => decide (port < 2)
  | .bar2Access port _ _ _ => decide (port < 2)
  | .ioDomainPowerLoss port => decide (port < 2)
  | .powerLoss => true
  | .cycleCountAdvance die stable _ => decide (die < 6) && decide (stable < 48)

end Sys2Proof
end

