-- ==== Sys2Proof/Safety.lean ====
section
/-! DEFINITION. The terms in which claims about the model are made: when an instruction finds nothing in its way, what it leaves of
the state, what a vector instruction writes, and the invariants that every step keeps. -/

namespace Sys2Proof.Machine

/-! ## The control thread -/

/-- Decode raises nothing for the instruction (R75), no register that it names or writes is awaited from the vector queue (R126,
R137, R143), and if it writes what other agents read then no access before the hart's last release fence is still to be performed
(R303). -/
structure Ready (s : State) (r : Row) (w : BitVec 64) : Prop where
  decodes : s.decodeStop r w = none
  free    : s.hart.mustWait r w = false
  fence   : (writesShared r && s.hart.fencedAhead) = false

/-- A hart whose instruction has completed: the PC moves, `instret` counts, and nothing waits (R99, R101). -/
def Hart.passed (h : Hart) (pc : Word) : Hart :=
  { h with pc := pc, timeout := false, waits := false, csr := { h.csr with instret := h.csr.instret + 1#64 } }

/-- The state after an instruction that changes nothing but the PC and the count of instructions. -/
def State.went (s : State) (pc : Word) : State := { s with hart := s.hart.passed pc }

/-- The state after an instruction that writes one x register, leaves the PC at `pc`, and changes nothing else; a write to x0 is
discarded (R5). -/
def State.wroteTo (s : State) (d : Reg) (v : Word) (pc : Word) : State :=
  { s with hart := { s.hart.passed pc with x := if d = 0#5 then s.hart.x else s.hart.x.set d.toNat v d.isLt } }

/-- The state after an instruction of `len` bytes that writes one x register and changes nothing else. -/
def State.wrote (s : State) (d : Reg) (v : Word) (len : Nat) : State := s.wroteTo d v (s.hart.pc + BitVec.ofNat 64 len)

/-- The state with flags ORed into `fflags` (R97). -/
def State.flagged (s : State) (fl : Flags) : State :=
  { s with hart := { s.hart with csr := { s.hart.csr with fflags := s.hart.csr.fflags ||| fl.setWidth 64 } } }

/-- The two ways in which a scalar floating-point instruction ends that decodes and waits for nothing, `v` being its result and
flags: the result is written and the flags are ORed into `fflags`; or the lowest-numbered enabled flag traps, with the flags ORed
and no x register written (R109). -/
structure FpEnds (s : State) (r : Row) (w : BitVec 64) (i : Instr) (d : Reg) (v : Nat × Flags) : Prop where
  result : Ready s r w → enabledCause s.hart.fen v.2 = none → exec i s = .next ((s.flagged v.2).wrote d (BitVec.ofNat 64 v.1) 4)
  trap   : ∀ c, Ready s r w → enabledCause s.hart.fen v.2 = some c →
    exec i s = .next ((s.flagged v.2).takeTrap (stopAt c (bits v.2 0 5)) none)

/-- Nothing of the hart is under way: its queue and its bridle are empty. -/
structure Quiet (s : State) : Prop where
  queue  : s.hart.queue = []
  bridle : s.hart.bridle = []

/-! ## Memory -/

/-- A scalar access of `n` bytes at `a` passes every check and reaches the physical address `pa` without a walk, no line of memory
is in the update-only state, and no older access of the hart holds it, nor if it writes an older release fence (R102, R108, R303,
R331). -/
structure Reaches (s : State) (a n : Nat) (k : AKind) (pa : Nat) : Prop where
  checks   : ∃ leaf, s.access a n n k false = .ok (.phys pa leaf) s
  plain    : s.ulines = []
  free     : s.hart.memHeld a n = false
  unfenced : (k == .store && s.hart.fencedAhead) = false

/-- The state after the hart has read the `n` bytes at `a`, by an access that passes its checks: only what caches and host-line buffers hold,
and what directories and homes know of it, may differ (R217, R224, R323). -/
def State.cached (s : State) (a n : Nat) (k : AKind) : State :=
  match s.access a n n k false with
  | .ok (.phys pa leaf) _ => (s.bufferHost pa n false).placeAs (s.hartWho false) (.phys pa leaf) n false
  | _ => s

/-- A state with what caches hold, and directories and homes know of it, as in another. -/
def State.uncached (t s : State) : State := { t with coh := s.coh }

/-- A read of memory that answers `a` whatever caches hold, and changes nothing but what they hold (R217). -/
def ReadsAs {α : Type} (s : State) (f : State → Res α) (a : α) : Prop :=
  ∀ c, ∃ d, f { s with coh := c } = .ok a { s with coh := d }

/-- Memory is in its canonical form, so that equal memories are equal data. -/
def MemOk (s : State) : Prop := s.mem.wf = true

/-- No data is uncorrectable, no page has moved, and every host and peer answers, so that no walk of a page table stops or waits (R323,
R326, R365, R369). -/
structure Sound (s : State) : Prop where
  failing  : s.failing = []
  aborting : s.aborting = []
  moved    : s.movedPages = []
  failed   : s.failedDev = []
  up       : s.ports.all (fun p => p.up) = true

/-- What a store of the `n` low bytes of `v` at `pa` makes of memory: those bytes, and no other byte. -/
structure Stored (s t : State) (pa n v : Nat) : Prop where
  inside  : ∀ i, i < n → t.mem.read (pa + i) = BitVec.ofNat 8 (v / 256 ^ i)
  outside : ∀ a, a < pa ∨ pa + n ≤ a → t.mem.read a = s.mem.read a

/-- What may change beside the hart in focus and the bytes stored: failing sectors of the line, which regions count as initialised, and what
caches hold, with links, directories and homes (R49, R217, R229, R321, R365). -/
structure SameBut (s t : State) : Prop where
  frame : t = { s with hart := t.hart, mem := t.mem, failing := t.failing, initSet := t.initSet, coh := t.coh }

/-- The `n` bytes from `va`, as one who acts on a ring under `w` reaches them: each of their doublewords passes the checks of a load and of a
store, whatever memory and caches hold, at the physical addresses from `pa` on, and nothing of the hart is under way there (R102, R237). -/
structure RingReach (s : State) (w : Who) (va pa n : Nat) : Prop where
  access : ∀ (m : Memory) (i : List Nat) (c : Coherence) (k : Nat), 8 * k < n → ∀ a : AKind, a = .load ∨ a = .store → ∃ leaf,
    State.accessAs { s with mem := m, initSet := i, coh := c } w ((va + 8 * k) % 2 ^ 64) 8 8 a =
      .ok (.phys (pa + 8 * k) leaf) { s with mem := m, initSet := i, coh := c }
  free   : ∀ k, 8 * k < n → s.holdsBack w ((va + 8 * k) % 2 ^ 64) 8 = false

/-- Doublewords written one after another from a physical address on. -/
def Memory.writeWords (m : Memory) (a : Nat) : List Nat → Memory
  | [] => m
  | v :: vs => (m.writeN a 8 v).writeWords (a + 8) vs

/-- The state has the memory `m`; beside it only the map of initialised regions and what caches hold, with directories and homes, may differ
(R49, R217). -/
def OnlyMem (s t : State) (m : Memory) : Prop := t = { s with mem := m, initSet := t.initSet, coh := t.coh }

/-- The partial value that a stable holds for the target at offset `off` of a line under an operator: the operator's identity where it has
folded nothing there, or the line is in U under another operator or given up by the die (R329, R330, R333, R334). -/
def State.partialAt (s : State) (die stable line op off : Nat) : Nat :=
  match findBy (fun u : ULine => u.line == line) s.ulines with
  | none => accIdentity op
  | some u =>
    if u.op ≠ op ∨ u.asked.contains die then accIdentity op
    else match findBy (fun p : UPart => p.stable == stable) u.parts with | some p => p.value op off | none => accIdentity op

/-! ## Vector instructions -/

/-- A vector instruction enters an empty queue, decode raises nothing for it, no lane has failed, no release fence and no forced boundary hold
it, and the lanes take it up at once. -/
structure VReady (s : State) (r : Row) (w : BitVec 64) : Prop where
  decodes : s.decodeStop r w = none
  empty   : s.hart.queue = []
  fence   : s.hart.fencedAhead = false
  clean   : s.hart.vcause = none
  sound   : s.hart.bad = []
  steady  : s.hart.vlmaxTo = none
  unheld  : s.hart.hold = false
  eager   : s.laneEager = true

/-- The registers hold the elements that the instruction counts (R94, R204). -/
def Hart.fits (h : Hart) : Prop := h.count ≤ h.perReg

/-- Element `p` is active: from `vstart` on, below the count, its mask bit 1 (R132, R168). -/
def Hart.active (h : Hart) (k : KReg) (p : Nat) : Bool := decide (h.vstart ≤ p ∧ p < h.count) && h.mask k p

/-- The indices of the active elements, ascending. -/
def Hart.activeList (h : Hart) (k : KReg) : List Nat := (countFrom h.vstart (h.count - h.vstart)).filter (fun p => h.mask k p)

/-- The flags of the active elements together. -/
def Hart.flagsOf (h : Hart) (k : KReg) (g : Nat → Flags) : Flags := (h.activeList k).foldl (fun a p => a ||| g p) noFlags

/-- No active element raises an enabled flag (R163). -/
def Hart.noTrap (h : Hart) (k : KReg) (g : Nat → Flags) : Prop := ∀ p, h.active k p = true → flagStop h.fen (g p) p = none

/-- The transfers of a hart once the oldest entry of its queue has left: those that follow older entries follow one fewer (R232). -/
def Hart.bridleLeft (h : Hart) : List Transfer := h.bridle.map (fun t => if t.held then t else { t with after := t.after - 1 })

/-- The causes of a hart's transfers once the oldest entry of its queue has left (R343). -/
def Hart.causesLeft (h : Hart) : List ECause := h.ecauses.map (fun c => { c with after := c.after - 1 })

/-- What a vector instruction of `len` bytes leaves as it was: all but x, v and k registers, `vdirty`, `status.vs`, `fflags`; the PC
moves, `instret` counts, `vstart` is 0 (R93, R95, R135). -/
structure VDone (s t : State) (len : Nat) : Prop where
  frame  : t = { s with hart := { s.hart with
    pc := s.hart.pc + BitVec.ofNat 64 len, timeout := false, waits := false, x := t.hart.x, v := t.hart.v, k := t.hart.k
    bridle := s.hart.bridleLeft, ecauses := s.hart.causesLeft
    csr := { s.hart.csr with
      instret := s.hart.csr.instret + 1#64, vstart := 0#64, vdirty := t.hart.csr.vdirty, status := t.hart.csr.status,
      fflags := t.hart.csr.fflags } } }
  status : t.hart.csr.status = s.hart.csr.status ∨ t.hart.csr.status = vsDirty s.hart.csr.status

/-- The `n` registers from `d`, each of `per` elements of width `w`, take `f` at the elements that `act` names; every other bit of
them, and every other v register, stays. -/
structure VWritten (s t : State) (d : Reg) (n per w : Nat) (act : Nat → Bool) (f : Nat → Nat) : Prop where
  written : ∀ j, j < n → ∀ b, (t.hart.getV (d + BitVec.ofNat 5 j)).getLsbD b =
    if decide (b / w < per) && act (j * per + b / w) then (BitVec.ofNat w (f (j * per + b / w))).getLsbD (b % w)
    else (s.hart.getV (d + BitVec.ofNat 5 j)).getLsbD b
  others  : ∀ r, (∀ j, j < n → r ≠ d + BitVec.ofNat 5 j) → t.hart.getV r = s.hart.getV r
  clean   : ∀ i, (∀ j, j < n → i ≠ (d + BitVec.ofNat 5 j).toNat) → t.hart.csr.vdirty.getLsbD i = s.hart.csr.vdirty.getLsbD i
  dirty   : ∀ j, j < n → (∃ p, p < per ∧ act (j * per + p) = true) → t.hart.csr.vdirty.getLsbD (d + BitVec.ofNat 5 j).toNat = true

/-- A vector instruction has written v registers and raised flags, and nothing else. -/
structure VToV (s t : State) (d : Reg) (n per w : Nat) (act : Nat → Bool) (f : Nat → Nat) (fl : Flags) : Prop where
  done  : VDone s t 4
  x     : t.hart.x = s.hart.x
  k     : t.hart.k = s.hart.k
  v     : VWritten s t d n per w act f
  flags : t.hart.csr.fflags = s.hart.csr.fflags ||| fl.setWidth 64

/-- A vector instruction has written the mask register `d` at the elements that `act` names (k0 discards a write), raised flags, and
nothing else. -/
structure VToK (s t : State) (d : KReg) (act : Nat → Bool) (f : Nat → Bool) (fl : Flags) : Prop where
  done   : VDone s t 4
  x      : t.hart.x = s.hart.x
  v      : t.hart.v = s.hart.v
  k      : ∀ b, b < 8192 → (t.hart.getK d).getLsbD b = if decide (d ≠ 0#3) && act b then f b else (s.hart.getK d).getLsbD b
  others : ∀ r, r ≠ d → t.hart.getK r = s.hart.getK r
  flags  : t.hart.csr.fflags = s.hart.csr.fflags ||| fl.setWidth 64

/-- A vector instruction has written the x register `d`, and nothing else. -/
structure VToX (s t : State) (d : Reg) (u : Word) : Prop where
  done  : VDone s t 4
  x     : t.hart.x = if d = 0#5 then s.hart.x else s.hart.x.set d.toNat u d.isLt
  v     : t.hart.v = s.hart.v
  k     : t.hart.k = s.hart.k
  flags : t.hart.csr.fflags = s.hart.csr.fflags

/-- An element-wise instruction that raises no flag: where it decodes and starts, and `ok` holds of the width, it writes `f` to the
active elements of the `n` registers from `d`. -/
def VLane (s : State) (i : Instr) (r : Row) (u : BitVec 64) (ok : Prop) (d : Reg) (k : KReg) (n per w : Nat) (f : Nat → Nat) : Prop :=
  VReady s r u → ok → ∃ t, exec i s = .next t ∧ VToV s t d n per w (s.hart.active k) f noFlags

/-- A vector instruction has stopped at element `p` with a cause, to be taken at the next boundary; the elements below `p` that are
active have their results and the flags up to `p` are raised (R163, R343). -/
structure VStopped (s t : State) (d : Reg) (k : KReg) (per w : Nat) (g : Nat → Nat × Flags) (p : Nat) (c : Stop) : Prop where
  cause  : t.hart.vcause.map (fun v => v.stop) = some c
  vstart : t.hart.vstart = p
  held   : t.hart.queue.length = 1
  pc     : t.hart.pc = s.hart.pc + 4#64
  x      : t.hart.x = s.hart.x
  masks  : t.hart.k = s.hart.k
  mem    : t.mem = s.mem
  v      : VWritten s t d 1 per w (fun q => s.hart.active k q && decide (q < p)) (fun q => (g q).1)
  flags  : t.hart.csr.fflags =
    s.hart.csr.fflags ||| (((s.hart.activeList k).filter (fun q => decide (q ≤ p))).foldl (fun a q => a ||| (g q).2) noFlags).setWidth 64

/-- An element-wise instruction with flags, `g` giving the result and the flags of an element: it writes the active elements and ORs
their flags, or stops at the lowest active element that raises an enabled flag (R163, R173). -/
structure VFlagLane (s : State) (i : Instr) (r : Row) (u : BitVec 64) (ok : Prop) (d : Reg) (k : KReg) (g : Nat → Nat × Flags) : Prop where
  done : VReady s r u → ok → s.hart.noTrap k (fun p => (g p).2) → ∃ t, exec i s = .next t ∧
    VToV s t d 1 s.hart.perReg s.hart.width (s.hart.active k) (fun p => (g p).1) (s.hart.flagsOf k (fun p => (g p).2))
  trap : ∀ p c, VReady s r u → ok → s.hart.active k p = true → flagStop s.hart.fen (g p).2 p = some c →
    (∀ q, q < p → s.hart.active k q = true → flagStop s.hart.fen (g q).2 q = none) →
    ∃ t, exec i s = .next t ∧ VStopped s t d k s.hart.perReg s.hart.width g p c

/-- An instruction with a mask destination, `g` giving the bit and the flags of an element (R183, R186). -/
def VMaskLane (s : State) (i : Instr) (r : Row) (u : BitVec 64) (ok : Prop) (d k : KReg) (g : Nat → Bool × Flags) : Prop :=
  VReady s r u → ok → s.hart.noTrap k (fun p => (g p).2) →
  ∃ t, exec i s = .next t ∧ VToK s t d (s.hart.active k) (fun p => (g p).1) (s.hart.flagsOf k (fun p => (g p).2))

/-- Every active element `p` of an instruction reaches `n` bytes at the physical address `pa p`, without a walk; no transfer of the
hart is under way, no line is in the update-only state, and no block runs. -/
structure VReaches (s : State) (k : KReg) (addr pa : Nat → Nat) (n : Nat) (kind : AKind) (window : Bool) : Prop where
  checks : ∀ p, s.hart.active k p = true → ∃ leaf, s.access (addr p) n n kind window = .ok (.phys (pa p) leaf) s
  bridle : s.hart.bridle = []
  plain  : s.ulines = []
  group  : s.hart.group = none

/-- A vector store of `len` bytes is done: of the hart only the PC, `instret` and `vstart` move (and mask `k`, where it says so); beside
memory only failing sectors, the map of initialised regions and what caches hold, with links, directories and homes, may change (R49, R217,
R229, R321, R365). -/
structure VStoreDone (s t : State) (len : Nat) : Prop where
  frame : t = { s with
    hart := { s.hart with
      pc := s.hart.pc + BitVec.ofNat 64 len, timeout := false, waits := false, k := t.hart.k, ecauses := s.hart.causesLeft
      csr := { s.hart.csr with instret := s.hart.csr.instret + 1#64, vstart := 0#64, status := t.hart.csr.status, vdirty := t.hart.csr.vdirty } }
    mem := t.mem, failing := t.failing, initSet := t.initSet, coh := t.coh }

/-- Memory after the elements that `act` names have been stored in ascending order, element `p` as the `n` low bytes of `f p` at
`pa p`: the bytes of an element that no higher one overlaps, and no byte outside all of them. -/
structure MemWritten (s t : State) (act : Nat → Bool) (pa f : Nat → Nat) (n : Nat) : Prop where
  inside  : ∀ p, act p = true → (∀ q, p < q → act q = true → pa q + n ≤ pa p ∨ pa p + n ≤ pa q) →
    ∀ j, j < n → t.mem.read (pa p + j) = BitVec.ofNat 8 (f p / 256 ^ j)
  outside : ∀ a, (∀ p, act p = true → a < pa p ∨ pa p + n ≤ a) → t.mem.read a = s.mem.read a

/-- A vector or matrix instruction of `len` bytes has completed that may write x, v, z registers, `mmode`, `mshape`, flags and the marks of
what is dirty; nothing else changes but `instret`, `vstart` and the PC, and of `status` only `vs` and `ms` (R93). -/
structure VMDone (s t : State) (len : Nat) : Prop where
  frame : t = { s with hart := { s.hart with
    pc := s.hart.pc + BitVec.ofNat 64 len, timeout := false, waits := false, x := t.hart.x, v := t.hart.v, z := t.hart.z, zchk := t.hart.zchk
    bridle := s.hart.bridleLeft, ecauses := s.hart.causesLeft
    csr := { s.hart.csr with
      instret := s.hart.csr.instret + 1#64, vstart := 0#64, vdirty := t.hart.csr.vdirty, status := t.hart.csr.status,
      fflags := t.hart.csr.fflags, mmode := t.hart.csr.mmode, mshape := t.hart.csr.mshape } } }
  status : t.hart.csr.status ||| 0x1E0#64 = s.hart.csr.status ||| 0x1E0#64

/-- A vector instruction has stopped at its start with a cause, to be taken at the next boundary; no data register and no byte of memory
has changed (R134, R343). -/
structure VRefused (s t : State) (c : Stop) : Prop where
  cause : t.hart.vcause.map (fun v => v.stop) = some c
  held  : t.hart.queue.length = 1
  data  : t.hart.x = s.hart.x ∧ t.hart.v = s.hart.v ∧ t.hart.k = s.hart.k ∧ t.hart.z = s.hart.z ∧ t.hart.csr.vcfg = s.hart.csr.vcfg
  state : t.hart.csr.fflags = s.hart.csr.fflags ∧ t.hart.csr.mshape = s.hart.csr.mshape ∧ t.hart.csr.mmode = s.hart.csr.mmode
  mem   : t.mem = s.mem

/-- A hart whose vector instruction has completed: the PC moves, `instret` counts, `vstart` is 0, and transfers that follow its entry,
and their causes, follow one entry fewer (R99, R135, R232, R343). -/
def Hart.vectorPassed (h : Hart) (pc : Word) : Hart :=
  { h.passed pc with bridle := h.bridleLeft, ecauses := h.causesLeft, csr := { (h.passed pc).csr with vstart := 0#64 } }

/-- The state with a vector instruction of `len` bytes, and the block that it runs, entered into the queue behind what is there: the
control thread goes on (R101, R125). -/
def State.queued (s : State) (r : Row) (u : BitVec 64) (b : List (BitVec 32)) (len : Nat) : State :=
  { s with hart := { s.hart.passed (s.hart.pc + BitVec.ofNat 64 len) with queue := s.hart.queue ++ [s.hart.entry r u s.hart.pc b] } }

/-! ## Invariants -/

/-- A hart's `vcfg` holds a vector length that its registers hold, and its mode and the mode before a trap are legal (R93, R94). -/
def Hart.legal (h : Hart) : Bool := decide (h.vl ≤ h.perReg) && decide (h.sew ≤ 4) && decide (h.mode ≤ 2) && decide (h.pmode ≤ 2)

/-- Memory, the scratchpads, the staging window, the firmware image and the memory that checkpoints hold are in canonical form. -/
structure MemInv (s : State) : Prop where
  mem     : s.mem.wf = true
  pads    : s.dies.all (fun d => d.pad.wf) = true
  jobs    : s.jobs.all (fun j => j.pad.wf) = true
  staging : s.staging.wf = true
  firmware : s.firmware.wf = true
  checkpts : s.checkpts.all (fun c => c.2.mem.wf) = true

/-- Every hart is legal. -/
def HartInv (s : State) : Prop := s.hart.legal = true ∧ s.others.all Hart.legal = true

end Sys2Proof.Machine
end

