-- ==== Sys2Proof/Certificates/Slice0/Obligations.lean ====
section
/-! DEFINITION. The statements about the model, for the provers. Each is a proposition; nothing here is proved. -/

open Sys2Proof Sys2Proof.Machine

/-- O1. R103, R105: the register-register integer instructions. R105: division. The most negative number over -1 wraps to itself, which `BitVec.ofInt` gives. -/
def Obligations.IntegerRegisterResults : Prop :=
  (∀ (o : OpDAB) (s : State), let a := s.hart.getX o.a; let b := s.hart.getX o.b
  (Ready s .add (wordAdd o) → exec (.add o) s = .next (s.wrote o.d (a + b) 4)) ∧
  (Ready s .sub (wordSub o) → exec (.sub o) s = .next (s.wrote o.d (a - b) 4)) ∧
  (Ready s .and (wordAnd o) → exec (.and o) s = .next (s.wrote o.d (a &&& b) 4)) ∧
  (Ready s .or (wordOr o) → exec (.or o) s = .next (s.wrote o.d (a ||| b) 4)) ∧
  (Ready s .xor (wordXor o) → exec (.xor o) s = .next (s.wrote o.d (a ^^^ b) 4)) ∧
  (Ready s .sll (wordSll o) → exec (.sll o) s = .next (s.wrote o.d (a <<< (b.toNat % 64)) 4)) ∧
  (Ready s .srl (wordSrl o) → exec (.srl o) s = .next (s.wrote o.d (a >>> (b.toNat % 64)) 4)) ∧
  (Ready s .sra (wordSra o) → exec (.sra o) s = .next (s.wrote o.d (a.sshiftRight (b.toNat % 64)) 4)) ∧
  (Ready s .slt (wordSlt o) → exec (.slt o) s = .next (s.wrote o.d (if a.toInt < b.toInt then 1#64 else 0#64) 4)) ∧
  (Ready s .sltn (wordSltn o) → exec (.sltn o) s = .next (s.wrote o.d (if a.toNat < b.toNat then 1#64 else 0#64) 4)) ∧
  (Ready s .min (wordMin o) → exec (.min o) s = .next (s.wrote o.d (if a.toInt ≤ b.toInt then a else b) 4)) ∧
  (Ready s .max (wordMax o) → exec (.max o) s = .next (s.wrote o.d (if a.toInt < b.toInt then b else a) 4)) ∧
  (Ready s .minn (wordMinn o) → exec (.minn o) s = .next (s.wrote o.d (if a.toNat ≤ b.toNat then a else b) 4)) ∧
  (Ready s .maxn (wordMaxn o) → exec (.maxn o) s = .next (s.wrote o.d (if a.toNat < b.toNat then b else a) 4)) ∧
  (Ready s .andn (wordAndn o) → exec (.andn o) s = .next (s.wrote o.d (a &&& ~~~b) 4)) ∧
  (Ready s .orn (wordOrn o) → exec (.orn o) s = .next (s.wrote o.d (a ||| ~~~b) 4)) ∧
  (Ready s .rol (wordRol o) → exec (.rol o) s = .next (s.wrote o.d (a.rotateLeft (b.toNat % 64)) 4)) ∧
  (Ready s .ror (wordRor o) → exec (.ror o) s = .next (s.wrote o.d (a.rotateRight (b.toNat % 64)) 4)) ∧
  (Ready s .addw (wordAddw o) → exec (.addw o) s = .next (s.wrote o.d (((a + b).setWidth 32).signExtend 64) 4)) ∧
  (Ready s .subw (wordSubw o) → exec (.subw o) s = .next (s.wrote o.d (((a - b).setWidth 32).signExtend 64) 4)) ∧
  (Ready s .mul (wordMul o) → exec (.mul o) s = .next (s.wrote o.d (a * b) 4)) ∧
  (Ready s .mulh (wordMulh o) → exec (.mulh o) s = .next (s.wrote o.d (BitVec.ofInt 64 (a.toInt * b.toInt / 2 ^ 64)) 4)) ∧
  (Ready s .mulhn (wordMulhn o) → exec (.mulhn o) s = .next (s.wrote o.d (BitVec.ofNat 64 (a.toNat * b.toNat / 2 ^ 64)) 4)) ∧
  (Ready s .mulhsn (wordMulhsn o) → exec (.mulhsn o) s = .next (s.wrote o.d (BitVec.ofInt 64 (a.toInt * b.toNat / 2 ^ 64)) 4))) ∧
  (∀ (o : OpDAB) (s : State), let a := s.hart.getX o.a; let b := s.hart.getX o.b
  let fl : Flags := if b = 0#64 then 0x20#6 else 0#6
  (Ready s .div (wordDiv o) → (b ≠ 0#64 ∨ s.hart.csr.fen.getLsbD 5 = false) → exec (.div o) s = .next ((s.flagged fl).wrote o.d (if b = 0#64 then BitVec.allOnes 64 else BitVec.ofInt 64 (Int.tdiv a.toInt b.toInt)) 4)) ∧
  (Ready s .div (wordDiv o) → b = 0#64 → s.hart.csr.fen.getLsbD 5 = true →
    exec (.div o) s = .next ((s.flagged fl).takeTrap { cause := 0x20, tval := 0#64 } none)) ∧
  (Ready s .divn (wordDivn o) → (b ≠ 0#64 ∨ s.hart.csr.fen.getLsbD 5 = false) → exec (.divn o) s = .next ((s.flagged fl).wrote o.d (if b = 0#64 then BitVec.allOnes 64 else BitVec.ofNat 64 (a.toNat / b.toNat)) 4)) ∧
  (Ready s .divn (wordDivn o) → b = 0#64 → s.hart.csr.fen.getLsbD 5 = true →
    exec (.divn o) s = .next ((s.flagged fl).takeTrap { cause := 0x20, tval := 0#64 } none)) ∧
  (Ready s .rem (wordRem o) → (b ≠ 0#64 ∨ s.hart.csr.fen.getLsbD 5 = false) → exec (.rem o) s = .next ((s.flagged fl).wrote o.d (if b = 0#64 then a else BitVec.ofInt 64 (Int.tmod a.toInt b.toInt)) 4)) ∧
  (Ready s .rem (wordRem o) → b = 0#64 → s.hart.csr.fen.getLsbD 5 = true →
    exec (.rem o) s = .next ((s.flagged fl).takeTrap { cause := 0x20, tval := 0#64 } none)) ∧
  (Ready s .remn (wordRemn o) → (b ≠ 0#64 ∨ s.hart.csr.fen.getLsbD 5 = false) → exec (.remn o) s = .next ((s.flagged fl).wrote o.d (if b = 0#64 then a else BitVec.ofNat 64 (a.toNat % b.toNat)) 4)) ∧
  (Ready s .remn (wordRemn o) → b = 0#64 → s.hart.csr.fen.getLsbD 5 = true →
    exec (.remn o) s = .next ((s.flagged fl).takeTrap { cause := 0x20, tval := 0#64 } none)))

/-- O2. R104: the immediate integer instructions. R106: the bit instructions. -/
def Obligations.ImmediateAndBitResults : Prop :=
  ((∀ (o : OpDAI) (s : State), let a := s.hart.getX o.a; let i : Word := o.i.signExtend 64
  (Ready s .addi (wordAddi o) → exec (.addi o) s = .next (s.wrote o.d (a + i) 4)) ∧
  (Ready s .andi (wordAndi o) → exec (.andi o) s = .next (s.wrote o.d (a &&& i) 4)) ∧
  (Ready s .ori (wordOri o) → exec (.ori o) s = .next (s.wrote o.d (a ||| i) 4)) ∧
  (Ready s .xori (wordXori o) → exec (.xori o) s = .next (s.wrote o.d (a ^^^ i) 4)) ∧
  (Ready s .slti (wordSlti o) → exec (.slti o) s = .next (s.wrote o.d (if a.toInt < i.toInt then 1#64 else 0#64) 4)) ∧
  (Ready s .sltni (wordSltni o) → exec (.sltni o) s = .next (s.wrote o.d (if a.toNat < i.toNat then 1#64 else 0#64) 4))) ∧
  (∀ (o : OpDAS) (s : State), let a := s.hart.getX o.a
  (Ready s .slli (wordSlli o) → exec (.slli o) s = .next (s.wrote o.d (a <<< o.s.toNat) 4)) ∧
  (Ready s .srli (wordSrli o) → exec (.srli o) s = .next (s.wrote o.d (a >>> o.s.toNat) 4)) ∧
  (Ready s .srai (wordSrai o) → exec (.srai o) s = .next (s.wrote o.d (a.sshiftRight o.s.toNat) 4)) ∧
  (Ready s .roli (wordRoli o) → exec (.roli o) s = .next (s.wrote o.d (a.rotateLeft o.s.toNat) 4))) ∧
  (∀ (o : OpDI) (s : State), let i : Word := o.i.signExtend 64 <<< 13
  (Ready s .lui (wordLui o) → exec (.lui o) s = .next (s.wrote o.d i 4)) ∧
  (Ready s .auipc (wordAuipc o) → exec (.auipc o) s = .next (s.wrote o.d (s.hart.pc + i) 4)))) ∧
  (∀ (o : OpDA) (s : State), let a := s.hart.getX o.a
  (Ready s .clz (wordClz o) → exec (.clz o) s = .next (s.wrote o.d (BitVec.ofNat 64 (if a = 0#64 then 64 else 63 - Nat.log2 a.toNat)) 4)) ∧
  (Ready s .ctz (wordCtz o) → exec (.ctz o) s = .next (s.wrote o.d (BitVec.ofNat 64 (((List.range 64).takeWhile (fun i => !a.getLsbD i)).length)) 4)) ∧
  (Ready s .popc (wordPopc o) → exec (.popc o) s = .next (s.wrote o.d (BitVec.ofNat 64 (((List.range 64).filter (fun i => a.getLsbD i)).length)) 4)) ∧
  (Ready s .bswap (wordBswap o) → exec (.bswap o) s = .next (s.wrote o.d (a.extractLsb' 0 8 ++ a.extractLsb' 8 8 ++ a.extractLsb' 16 8 ++ a.extractLsb' 24 8 ++ a.extractLsb' 32 8 ++ a.extractLsb' 40 8 ++ a.extractLsb' 48 8 ++ a.extractLsb' 56 8) 4)) ∧
  (Ready s .sextb (wordSextb o) → exec (.sextb o) s = .next (s.wrote o.d ((a.setWidth 8).signExtend 64) 4)) ∧
  (Ready s .sexth (wordSexth o) → exec (.sexth o) s = .next (s.wrote o.d ((a.setWidth 16).signExtend 64) 4)) ∧
  (Ready s .sextw (wordSextw o) → exec (.sextw o) s = .next (s.wrote o.d ((a.setWidth 32).signExtend 64) 4)) ∧
  (Ready s .zextb (wordZextb o) → exec (.zextb o) s = .next (s.wrote o.d ((a.setWidth 8).setWidth 64) 4)) ∧
  (Ready s .zexth (wordZexth o) → exec (.zexth o) s = .next (s.wrote o.d ((a.setWidth 16).setWidth 64) 4)) ∧
  (Ready s .zextw (wordZextw o) → exec (.zextw o) s = .next (s.wrote o.d ((a.setWidth 32).setWidth 64) 4)))

/-- O3. R74: the compressed forms. -/
def Obligations.CompressedResults : Prop :=
  (∀ (o : OpCDI) (s : State), Ready s .cAddi (wordCAddi o) → exec (.cAddi o) s = .next (s.wrote o.d (s.hart.getX o.d + o.i.signExtend 64) 2)) ∧
  (∀ (o : OpCDS) (s : State), Ready s .cMv (wordCMv o) → exec (.cMv o) s = .next (s.wrote o.d (s.hart.getX o.s) 2)) ∧
  (∀ (o : OpCDS) (s : State), Ready s .cAdd (wordCAdd o) → exec (.cAdd o) s = .next (s.wrote o.d (s.hart.getX o.d + s.hart.getX o.s) 2)) ∧
  (∀ (o : OpCDS) (s : State), Ready s .cSub (wordCSub o) → exec (.cSub o) s = .next (s.wrote o.d (s.hart.getX o.d - s.hart.getX o.s) 2))

/-- O4. R107, R74: branches. R107: jumps. -/
def Obligations.ControlTransferResults : Prop :=
  ((∀ (o : OpABI) (s : State), let a := s.hart.getX o.a; let b := s.hart.getX o.b
  let there : Word := s.hart.pc + (o.i ++ 0#1).signExtend 64
  (Ready s .beq (wordBeq o) → exec (.beq o) s = .next (s.went (if a = b then there else s.hart.pc + 4#64))) ∧
  (Ready s .bne (wordBne o) → exec (.bne o) s = .next (s.went (if a ≠ b then there else s.hart.pc + 4#64))) ∧
  (Ready s .blt (wordBlt o) → exec (.blt o) s = .next (s.went (if a.toInt < b.toInt then there else s.hart.pc + 4#64))) ∧
  (Ready s .bge (wordBge o) → exec (.bge o) s = .next (s.went (if b.toInt ≤ a.toInt then there else s.hart.pc + 4#64))) ∧
  (Ready s .bltn (wordBltn o) → exec (.bltn o) s = .next (s.went (if a.toNat < b.toNat then there else s.hart.pc + 4#64))) ∧
  (Ready s .bgen (wordBgen o) → exec (.bgen o) s = .next (s.went (if b.toNat ≤ a.toNat then there else s.hart.pc + 4#64)))) ∧
  (∀ (o : OpCSO) (s : State), let a := s.hart.getX (8#5 + o.s.setWidth 5); let there : Word := s.hart.pc + (o.o ++ 0#1).signExtend 64
  (Ready s .cBeqz (wordCBeqz o) → exec (.cBeqz o) s = .next (s.went (if a = 0#64 then there else s.hart.pc + 2#64))) ∧
  (Ready s .cBnez (wordCBnez o) → exec (.cBnez o) s = .next (s.went (if a ≠ 0#64 then there else s.hart.pc + 2#64)))) ∧
  (∀ (o : OpCO) (s : State), Ready s .cJ (wordCJ o) → exec (.cJ o) s = .next (s.went (s.hart.pc + (o.o ++ 0#1).signExtend 64)))) ∧
  ((∀ (o : OpDI) (s : State), Ready s .jal (wordJal o) →
    exec (.jal o) s = .next (s.wroteTo o.d (s.hart.pc + 4#64) (s.hart.pc + (o.i ++ 0#1).signExtend 64))) ∧
  (∀ (o : OpDAI) (s : State), let t := s.hart.getX o.a + o.i.signExtend 64
    Ready s .jalr (wordJalr o) →
    (t.toNat < 2 ^ 56 → t.getLsbD 0 = false → exec (.jalr o) s = .next (s.wroteTo o.d (s.hart.pc + 4#64) t)) ∧
    (2 ^ 56 ≤ t.toNat → exec (.jalr o) s = .next (s.takeTrap { cause := 0x46, tval := t } none)) ∧
    (t.toNat < 2 ^ 56 → t.getLsbD 0 = true → exec (.jalr o) s = .next (s.takeTrap { cause := 0x40, tval := t } none))))

/-- O5. R108, R74: scalar loads. -/
def Obligations.LoadResults : Prop :=
  ∀ (s : State) (pa : Nat),
  (∀ o : OpDAI, let a := (s.hart.getX o.a + o.i.signExtend 64).toNat
  (Ready s .lb (wordLb o) → Reaches s a 1 .load pa →
    exec (.lb o) s = .next ((s.cached a 1 .load).wrote o.d ((BitVec.ofNat 8 (s.mem.readN pa 1)).signExtend 64) 4)) ∧
  (Ready s .lh (wordLh o) → Reaches s a 2 .load pa →
    exec (.lh o) s = .next ((s.cached a 2 .load).wrote o.d ((BitVec.ofNat 16 (s.mem.readN pa 2)).signExtend 64) 4)) ∧
  (Ready s .lw (wordLw o) → Reaches s a 4 .load pa →
    exec (.lw o) s = .next ((s.cached a 4 .load).wrote o.d ((BitVec.ofNat 32 (s.mem.readN pa 4)).signExtend 64) 4)) ∧
  (Ready s .ld (wordLd o) → Reaches s a 8 .load pa →
    exec (.ld o) s = .next ((s.cached a 8 .load).wrote o.d ((BitVec.ofNat 64 (s.mem.readN pa 8)).signExtend 64) 4)) ∧
  (Ready s .lbn (wordLbn o) → Reaches s a 1 .load pa →
    exec (.lbn o) s = .next ((s.cached a 1 .load).wrote o.d ((BitVec.ofNat 8 (s.mem.readN pa 1)).setWidth 64) 4)) ∧
  (Ready s .lhn (wordLhn o) → Reaches s a 2 .load pa →
    exec (.lhn o) s = .next ((s.cached a 2 .load).wrote o.d ((BitVec.ofNat 16 (s.mem.readN pa 2)).setWidth 64) 4)) ∧
  (Ready s .lwn (wordLwn o) → Reaches s a 4 .load pa →
    exec (.lwn o) s = .next ((s.cached a 4 .load).wrote o.d ((BitVec.ofNat 32 (s.mem.readN pa 4)).setWidth 64) 4))) ∧
  (∀ o : OpCDAO, let d : Reg := 8#5 + o.d.setWidth 5; let b := s.hart.getX (8#5 + o.a.setWidth 5)
  (Ready s .cLd (wordCLd o) → Reaches s (b + o.o.setWidth 64 * 8#64).toNat 8 .load pa →
    exec (.cLd o) s = .next ((s.cached (b + o.o.setWidth 64 * 8#64).toNat 8 .load).wrote d (BitVec.ofNat 64 (s.mem.readN pa 8)) 2)) ∧
  (Ready s .cLw (wordCLw o) → Reaches s (b + o.o.setWidth 64 * 4#64).toNat 4 .load pa →
    exec (.cLw o) s = .next ((s.cached (b + o.o.setWidth 64 * 4#64).toNat 4 .load).wrote d ((BitVec.ofNat 32 (s.mem.readN pa 4)).signExtend 64) 2)))

/-- O6. R108, R74: scalar stores. The address is the one that the checks of the access give. -/
def Obligations.StoreResults : Prop :=
  ∀ (s : State) (pa : Nat), MemOk s →
  (∀ o : OpSAI, let a := (s.hart.getX o.a + o.i.signExtend 64).toNat
  (Ready s .sb (wordSb o) → Reaches s a 1 .store pa →
    ∃ t, exec (.sb o) s = .next t ∧ Stored s t pa 1 (s.hart.getX o.s).toNat ∧ SameBut s t ∧ t.hart = s.hart.passed (s.hart.pc + 4#64)) ∧
  (Ready s .sh (wordSh o) → Reaches s a 2 .store pa →
    ∃ t, exec (.sh o) s = .next t ∧ Stored s t pa 2 (s.hart.getX o.s).toNat ∧ SameBut s t ∧ t.hart = s.hart.passed (s.hart.pc + 4#64)) ∧
  (Ready s .sw (wordSw o) → Reaches s a 4 .store pa →
    ∃ t, exec (.sw o) s = .next t ∧ Stored s t pa 4 (s.hart.getX o.s).toNat ∧ SameBut s t ∧ t.hart = s.hart.passed (s.hart.pc + 4#64)) ∧
  (Ready s .sd (wordSd o) → Reaches s a 8 .store pa →
    ∃ t, exec (.sd o) s = .next t ∧ Stored s t pa 8 (s.hart.getX o.s).toNat ∧ SameBut s t ∧ t.hart = s.hart.passed (s.hart.pc + 4#64))) ∧
  (∀ o : OpCSAO, let b := s.hart.getX (8#5 + o.a.setWidth 5)
  (Ready s .cSd (wordCSd o) → Reaches s (b + o.o.setWidth 64 * 8#64).toNat 8 .store pa →
    ∃ t, exec (.cSd o) s = .next t ∧ Stored s t pa 8 (s.hart.getX (8#5 + o.s.setWidth 5)).toNat ∧ SameBut s t ∧ t.hart = s.hart.passed (s.hart.pc + 2#64)) ∧
  (Ready s .cSw (wordCSw o) → Reaches s (b + o.o.setWidth 64 * 4#64).toNat 4 .store pa →
    ∃ t, exec (.cSw o) s = .next t ∧ Stored s t pa 4 (s.hart.getX (8#5 + o.s.setWidth 5)).toNat ∧ SameBut s t ∧ t.hart = s.hart.passed (s.hart.pc + 2#64)))

/-- O7. R108: the first two checks of a scalar access, in their order. -/
def Obligations.AccessFaults : Prop :=
  ∀ s : State,
  (∀ o : OpDAI, let a := (s.hart.getX o.a + o.i.signExtend 64).toNat
  (Ready s .lb (wordLb o) → s.hart.memHeld a 1 = false →
    (2 ^ 56 ≤ a → exec (.lb o) s = .next (s.takeTrap (stopAt 0x46 a) none)) ∧
    (a < 2 ^ 56 → a % 1 ≠ 0 → exec (.lb o) s = .next (s.takeTrap (stopAt 0x40 a) none))) ∧
  (Ready s .lh (wordLh o) → s.hart.memHeld a 2 = false →
    (2 ^ 56 ≤ a → exec (.lh o) s = .next (s.takeTrap (stopAt 0x46 a) none)) ∧
    (a < 2 ^ 56 → a % 2 ≠ 0 → exec (.lh o) s = .next (s.takeTrap (stopAt 0x40 a) none))) ∧
  (Ready s .lw (wordLw o) → s.hart.memHeld a 4 = false →
    (2 ^ 56 ≤ a → exec (.lw o) s = .next (s.takeTrap (stopAt 0x46 a) none)) ∧
    (a < 2 ^ 56 → a % 4 ≠ 0 → exec (.lw o) s = .next (s.takeTrap (stopAt 0x40 a) none))) ∧
  (Ready s .ld (wordLd o) → s.hart.memHeld a 8 = false →
    (2 ^ 56 ≤ a → exec (.ld o) s = .next (s.takeTrap (stopAt 0x46 a) none)) ∧
    (a < 2 ^ 56 → a % 8 ≠ 0 → exec (.ld o) s = .next (s.takeTrap (stopAt 0x40 a) none))) ∧
  (Ready s .lbn (wordLbn o) → s.hart.memHeld a 1 = false →
    (2 ^ 56 ≤ a → exec (.lbn o) s = .next (s.takeTrap (stopAt 0x46 a) none)) ∧
    (a < 2 ^ 56 → a % 1 ≠ 0 → exec (.lbn o) s = .next (s.takeTrap (stopAt 0x40 a) none))) ∧
  (Ready s .lhn (wordLhn o) → s.hart.memHeld a 2 = false →
    (2 ^ 56 ≤ a → exec (.lhn o) s = .next (s.takeTrap (stopAt 0x46 a) none)) ∧
    (a < 2 ^ 56 → a % 2 ≠ 0 → exec (.lhn o) s = .next (s.takeTrap (stopAt 0x40 a) none))) ∧
  (Ready s .lwn (wordLwn o) → s.hart.memHeld a 4 = false →
    (2 ^ 56 ≤ a → exec (.lwn o) s = .next (s.takeTrap (stopAt 0x46 a) none)) ∧
    (a < 2 ^ 56 → a % 4 ≠ 0 → exec (.lwn o) s = .next (s.takeTrap (stopAt 0x40 a) none)))) ∧
  (∀ o : OpSAI, let a := (s.hart.getX o.a + o.i.signExtend 64).toNat
  (Ready s .sb (wordSb o) → s.hart.memHeld a 1 = false → s.hart.fencedAhead = false →
    (2 ^ 56 ≤ a → exec (.sb o) s = .next (s.takeTrap (stopAt 0x46 a) none)) ∧
    (a < 2 ^ 56 → a % 1 ≠ 0 → exec (.sb o) s = .next (s.takeTrap (stopAt 0x40 a) none))) ∧
  (Ready s .sh (wordSh o) → s.hart.memHeld a 2 = false → s.hart.fencedAhead = false →
    (2 ^ 56 ≤ a → exec (.sh o) s = .next (s.takeTrap (stopAt 0x46 a) none)) ∧
    (a < 2 ^ 56 → a % 2 ≠ 0 → exec (.sh o) s = .next (s.takeTrap (stopAt 0x40 a) none))) ∧
  (Ready s .sw (wordSw o) → s.hart.memHeld a 4 = false → s.hart.fencedAhead = false →
    (2 ^ 56 ≤ a → exec (.sw o) s = .next (s.takeTrap (stopAt 0x46 a) none)) ∧
    (a < 2 ^ 56 → a % 4 ≠ 0 → exec (.sw o) s = .next (s.takeTrap (stopAt 0x40 a) none))) ∧
  (Ready s .sd (wordSd o) → s.hart.memHeld a 8 = false → s.hart.fencedAhead = false →
    (2 ^ 56 ≤ a → exec (.sd o) s = .next (s.takeTrap (stopAt 0x46 a) none)) ∧
    (a < 2 ^ 56 → a % 8 ≠ 0 → exec (.sd o) s = .next (s.takeTrap (stopAt 0x40 a) none))))

/-- O8. R113: atomics. R114: compare and swap. -/
def Obligations.AtomicResults : Prop :=
  (∀ (s : State) (pa : Nat), MemOk s → s.failsAt pa 8 = false →
  (∀ o : OpDABO, let a : BitVec 32 := BitVec.ofNat 32 (s.mem.readN pa 4); let b : BitVec 32 := (s.hart.getX o.b).setWidth 32
  Reaches s (s.hart.getX o.a).toNat 4 .store pa → (o.o.getLsbD 1 = true → Quiet s) →
  (Ready s .amoswapW (wordAmoswapW o) → ∃ t, exec (.amoswapW o) s = .next t ∧ Stored s t pa 4 (b : BitVec 32).toNat ∧ SameBut s t ∧
    t.hart = (s.wrote o.d (a.signExtend 64) 4).hart) ∧
  (Ready s .amoaddW (wordAmoaddW o) → ∃ t, exec (.amoaddW o) s = .next t ∧ Stored s t pa 4 (a + b : BitVec 32).toNat ∧ SameBut s t ∧
    t.hart = (s.wrote o.d (a.signExtend 64) 4).hart) ∧
  (Ready s .amoandW (wordAmoandW o) → ∃ t, exec (.amoandW o) s = .next t ∧ Stored s t pa 4 (a &&& b : BitVec 32).toNat ∧ SameBut s t ∧
    t.hart = (s.wrote o.d (a.signExtend 64) 4).hart) ∧
  (Ready s .amoorW (wordAmoorW o) → ∃ t, exec (.amoorW o) s = .next t ∧ Stored s t pa 4 (a ||| b : BitVec 32).toNat ∧ SameBut s t ∧
    t.hart = (s.wrote o.d (a.signExtend 64) 4).hart) ∧
  (Ready s .amoxorW (wordAmoxorW o) → ∃ t, exec (.amoxorW o) s = .next t ∧ Stored s t pa 4 (a ^^^ b : BitVec 32).toNat ∧ SameBut s t ∧
    t.hart = (s.wrote o.d (a.signExtend 64) 4).hart) ∧
  (Ready s .amominW (wordAmominW o) → ∃ t, exec (.amominW o) s = .next t ∧ Stored s t pa 4 (if a.toInt ≤ b.toInt then a else b : BitVec 32).toNat ∧ SameBut s t ∧
    t.hart = (s.wrote o.d (a.signExtend 64) 4).hart) ∧
  (Ready s .amomaxW (wordAmomaxW o) → ∃ t, exec (.amomaxW o) s = .next t ∧ Stored s t pa 4 (if a.toInt < b.toInt then b else a : BitVec 32).toNat ∧ SameBut s t ∧
    t.hart = (s.wrote o.d (a.signExtend 64) 4).hart) ∧
  (Ready s .amominnW (wordAmominnW o) → ∃ t, exec (.amominnW o) s = .next t ∧ Stored s t pa 4 (if a.toNat ≤ b.toNat then a else b : BitVec 32).toNat ∧ SameBut s t ∧
    t.hart = (s.wrote o.d (a.signExtend 64) 4).hart) ∧
  (Ready s .amomaxnW (wordAmomaxnW o) → ∃ t, exec (.amomaxnW o) s = .next t ∧ Stored s t pa 4 (if a.toNat < b.toNat then b else a : BitVec 32).toNat ∧ SameBut s t ∧
    t.hart = (s.wrote o.d (a.signExtend 64) 4).hart)) ∧
  (∀ o : OpDABO, let a : BitVec 64 := BitVec.ofNat 64 (s.mem.readN pa 8); let b : BitVec 64 := (s.hart.getX o.b).setWidth 64
  Reaches s (s.hart.getX o.a).toNat 8 .store pa → (o.o.getLsbD 1 = true → Quiet s) →
  (Ready s .amoswapD (wordAmoswapD o) → ∃ t, exec (.amoswapD o) s = .next t ∧ Stored s t pa 8 (b : BitVec 64).toNat ∧ SameBut s t ∧
    t.hart = (s.wrote o.d (a.signExtend 64) 4).hart) ∧
  (Ready s .amoaddD (wordAmoaddD o) → ∃ t, exec (.amoaddD o) s = .next t ∧ Stored s t pa 8 (a + b : BitVec 64).toNat ∧ SameBut s t ∧
    t.hart = (s.wrote o.d (a.signExtend 64) 4).hart) ∧
  (Ready s .amoandD (wordAmoandD o) → ∃ t, exec (.amoandD o) s = .next t ∧ Stored s t pa 8 (a &&& b : BitVec 64).toNat ∧ SameBut s t ∧
    t.hart = (s.wrote o.d (a.signExtend 64) 4).hart) ∧
  (Ready s .amoorD (wordAmoorD o) → ∃ t, exec (.amoorD o) s = .next t ∧ Stored s t pa 8 (a ||| b : BitVec 64).toNat ∧ SameBut s t ∧
    t.hart = (s.wrote o.d (a.signExtend 64) 4).hart) ∧
  (Ready s .amoxorD (wordAmoxorD o) → ∃ t, exec (.amoxorD o) s = .next t ∧ Stored s t pa 8 (a ^^^ b : BitVec 64).toNat ∧ SameBut s t ∧
    t.hart = (s.wrote o.d (a.signExtend 64) 4).hart) ∧
  (Ready s .amominD (wordAmominD o) → ∃ t, exec (.amominD o) s = .next t ∧ Stored s t pa 8 (if a.toInt ≤ b.toInt then a else b : BitVec 64).toNat ∧ SameBut s t ∧
    t.hart = (s.wrote o.d (a.signExtend 64) 4).hart) ∧
  (Ready s .amomaxD (wordAmomaxD o) → ∃ t, exec (.amomaxD o) s = .next t ∧ Stored s t pa 8 (if a.toInt < b.toInt then b else a : BitVec 64).toNat ∧ SameBut s t ∧
    t.hart = (s.wrote o.d (a.signExtend 64) 4).hart) ∧
  (Ready s .amominnD (wordAmominnD o) → ∃ t, exec (.amominnD o) s = .next t ∧ Stored s t pa 8 (if a.toNat ≤ b.toNat then a else b : BitVec 64).toNat ∧ SameBut s t ∧
    t.hart = (s.wrote o.d (a.signExtend 64) 4).hart) ∧
  (Ready s .amomaxnD (wordAmomaxnD o) → ∃ t, exec (.amomaxnD o) s = .next t ∧ Stored s t pa 8 (if a.toNat < b.toNat then b else a : BitVec 64).toNat ∧ SameBut s t ∧
    t.hart = (s.wrote o.d (a.signExtend 64) 4).hart))) ∧
  (∀ (o : OpDABEWO) (s : State) (pa : Nat),
  let n := if o.w = 1#1 then 8 else 4
  let old := s.mem.readN pa n
  MemOk s → s.failsAt pa 8 = false → Ready s .cas (wordCas o) → Reaches s (s.hart.getX o.a).toNat n .store pa → (o.o.getLsbD 1 = true → Quiet s) →
  ∃ t, exec (.cas o) s = .next t ∧ SameBut s t ∧
    t.hart = (s.wrote o.d ((BitVec.ofNat (8 * n) old).signExtend 64) 4).hart ∧
    (old = (s.hart.getX o.e).toNat % 2 ^ (8 * n) → Stored s t pa n (s.hart.getX o.b).toNat) ∧
    (old ≠ (s.hart.getX o.e).toNat % 2 ^ (8 * n) → t.mem = s.mem))

/-- O9. R109, R110: scalar floating point. `FpEnds` says both ways in which such an instruction ends. -/
def Obligations.ScalarFpResults : Prop :=
  ∀ s : State,
  (∀ o : OpDABFR, let f := if o.f = 1#1 then fmtF64 else fmtF32
  let a := (s.hart.getX o.a).toNat % 2 ^ f.width; let b := (s.hart.getX o.b).toNat % 2 ^ f.width
  let e := FpEnv.scalar (s.hart.roundField o.r.toNat)
  FpEnds s .fadd (wordFadd o) (.fadd o) o.d (fpAddV f e (f.decode a) (f.decode b)) ∧
  FpEnds s .fsub (wordFsub o) (.fsub o) o.d (fpAddV f e (f.decode a) (f.decode b).negate) ∧
  FpEnds s .fmul (wordFmul o) (.fmul o) o.d (fpMulV f e (f.decode a) (f.decode b)) ∧
  FpEnds s .fdiv (wordFdiv o) (.fdiv o) o.d (fpDivV f e (f.decode a) (f.decode b))) ∧
  (∀ o : OpDABF, let f := if o.f = 1#1 then fmtF64 else fmtF32
  let a := (s.hart.getX o.a).toNat % 2 ^ f.width; let b := (s.hart.getX o.b).toNat % 2 ^ f.width
  FpEnds s .fmin (wordFmin o) (.fmin o) o.d (fpMinMaxV f (FpEnv.scalar .rne) false (f.decode a) (f.decode b)) ∧
  FpEnds s .fmax (wordFmax o) (.fmax o) o.d (fpMinMaxV f (FpEnv.scalar .rne) true (f.decode a) (f.decode b)) ∧
  FpEnds s .fsgnj (wordFsgnj o) (.fsgnj o) o.d (a % 2 ^ (f.width - 1) + b / 2 ^ (f.width - 1) * 2 ^ (f.width - 1), 0#6) ∧
  FpEnds s .fsgnjn (wordFsgnjn o) (.fsgnjn o) o.d (a % 2 ^ (f.width - 1) + (1 - b / 2 ^ (f.width - 1)) * 2 ^ (f.width - 1), 0#6) ∧
  FpEnds s .fsgnjx (wordFsgnjx o) (.fsgnjx o) o.d (a % 2 ^ (f.width - 1) + (a / 2 ^ (f.width - 1) + b / 2 ^ (f.width - 1)) % 2 * 2 ^ (f.width - 1), 0#6) ∧
  FpEnds s .feq (wordFeq o) (.feq o) o.d ((fpCompareV .feq (f.decode a) (f.decode b)).1.toNat, (fpCompareV .feq (f.decode a) (f.decode b)).2) ∧
  FpEnds s .flt (wordFlt o) (.flt o) o.d ((fpCompareV .flt (f.decode a) (f.decode b)).1.toNat, (fpCompareV .flt (f.decode a) (f.decode b)).2) ∧
  FpEnds s .fle (wordFle o) (.fle o) o.d ((fpCompareV .fle (f.decode a) (f.decode b)).1.toNat, (fpCompareV .fle (f.decode a) (f.decode b)).2)) ∧
  (∀ o : OpDAFR, let f := if o.f = 1#1 then fmtF64 else fmtF32
  FpEnds s .fsqrt (wordFsqrt o) (.fsqrt o) o.d
    (fpSqrtV f (FpEnv.scalar (s.hart.roundField o.r.toNat)) (f.decode ((s.hart.getX o.a).toNat % 2 ^ f.width)))) ∧
  (∀ o : OpDAF, let f := if o.f = 1#1 then fmtF64 else fmtF32
  FpEnds s .fclass (wordFclass o) (.fclass o) o.d (fpClass f ((s.hart.getX o.a).toNat % 2 ^ f.width), 0#6))

/-- O10. R111: the fused forms. -/
def Obligations.ScalarFmaResults : Prop :=
  ∀ (o : OpDABEF) (s : State), let f := if o.f = 1#1 then fmtF64 else fmtF32
  let v (r : Reg) : FVal := f.decode ((s.hart.getX r).toNat % 2 ^ f.width); let e := FpEnv.scalar s.hart.dynRm
  FpEnds s .fma (wordFma o) (.fma o) o.d (fpFmaV f e (v o.a) (v o.b) (v o.e)) ∧
  FpEnds s .fms (wordFms o) (.fms o) o.d (fpFmaV f e (v o.a) (v o.b) (v o.e).negate) ∧
  FpEnds s .fnma (wordFnma o) (.fnma o) o.d (fpFmaV f e (v o.a).negate (v o.b) (v o.e).negate) ∧
  FpEnds s .fnms (wordFnms o) (.fnms o) o.d (fpFmaV f e (v o.a).negate (v o.b) (v o.e)) ∧
  (∀ n m x g, (fpFmaV f e (.inf n) (.fin m 0 x) (.nan g)).2 = flagNv ∧ (fpFmaV f e (.fin m 0 x) (.inf n) (.nan g)).2 = flagNv) ∧
  encode (.fma o) = (0#1 ++ o.f ++ 0#2 ++ o.e ++ o.b ++ o.a ++ o.d ++ 0x0D#8 : BitVec 32).setWidth 64 ∧ encode (.fms o) = (0#1 ++ o.f ++ 1#2 ++ o.e ++ o.b ++ o.a ++ o.d ++ 0x0D#8 : BitVec 32).setWidth 64 ∧ encode (.fnma o) = (0#1 ++ o.f ++ 2#2 ++ o.e ++ o.b ++ o.a ++ o.d ++ 0x0D#8 : BitVec 32).setWidth 64 ∧ encode (.fnms o) = (0#1 ++ o.f ++ 3#2 ++ o.e ++ o.b ++ o.a ++ o.d ++ 0x0D#8 : BitVec 32).setWidth 64

/-- O11. R112: scalar conversions. -/
def Obligations.ScalarConversionResults : Prop :=
  ∀ (o : OpDAR) (s : State), let rm := s.hart.roundField o.r.toNat; let x := (s.hart.getX o.a).toNat
  FpEnds s .fcvtI32F32 (wordFcvtI32F32 o) (.fcvtI32F32 o) o.d (let r := fpToInt rm (-(2 ^ 31)) (2 ^ 31 - 1) (fmtF32.decode (x % 2 ^ fmtF32.width)); ((r.1 % 2 ^ 64).toNat, r.2)) ∧
  FpEnds s .fcvtF32I32 (wordFcvtF32I32 o) (.fcvtF32I32 o) o.d (fpOfInt fmtF32 (FpEnv.scalar rm) (sextNat 32 (x % 2 ^ 32))) ∧
  FpEnds s .fcvtN32F32 (wordFcvtN32F32 o) (.fcvtN32F32 o) o.d (let r := fpToInt rm 0 (2 ^ 32 - 1) (fmtF32.decode (x % 2 ^ fmtF32.width)); ((r.1 % 2 ^ 64).toNat, r.2)) ∧
  FpEnds s .fcvtF32N32 (wordFcvtF32N32 o) (.fcvtF32N32 o) o.d (fpOfInt fmtF32 (FpEnv.scalar rm) (((x % 2 ^ 32 : Nat) : Int))) ∧
  FpEnds s .fcvtI32F64 (wordFcvtI32F64 o) (.fcvtI32F64 o) o.d (let r := fpToInt rm (-(2 ^ 31)) (2 ^ 31 - 1) (fmtF64.decode (x % 2 ^ fmtF64.width)); ((r.1 % 2 ^ 64).toNat, r.2)) ∧
  FpEnds s .fcvtF64I32 (wordFcvtF64I32 o) (.fcvtF64I32 o) o.d (fpOfInt fmtF64 (FpEnv.scalar rm) (sextNat 32 (x % 2 ^ 32))) ∧
  FpEnds s .fcvtN32F64 (wordFcvtN32F64 o) (.fcvtN32F64 o) o.d (let r := fpToInt rm 0 (2 ^ 32 - 1) (fmtF64.decode (x % 2 ^ fmtF64.width)); ((r.1 % 2 ^ 64).toNat, r.2)) ∧
  FpEnds s .fcvtF64N32 (wordFcvtF64N32 o) (.fcvtF64N32 o) o.d (fpOfInt fmtF64 (FpEnv.scalar rm) (((x % 2 ^ 32 : Nat) : Int))) ∧
  FpEnds s .fcvtI64F32 (wordFcvtI64F32 o) (.fcvtI64F32 o) o.d (let r := fpToInt rm (-(2 ^ 63)) (2 ^ 63 - 1) (fmtF32.decode (x % 2 ^ fmtF32.width)); ((r.1 % 2 ^ 64).toNat, r.2)) ∧
  FpEnds s .fcvtF32I64 (wordFcvtF32I64 o) (.fcvtF32I64 o) o.d (fpOfInt fmtF32 (FpEnv.scalar rm) (sextNat 64 (x % 2 ^ 64))) ∧
  FpEnds s .fcvtN64F32 (wordFcvtN64F32 o) (.fcvtN64F32 o) o.d (let r := fpToInt rm 0 (2 ^ 64 - 1) (fmtF32.decode (x % 2 ^ fmtF32.width)); ((r.1 % 2 ^ 64).toNat, r.2)) ∧
  FpEnds s .fcvtF32N64 (wordFcvtF32N64 o) (.fcvtF32N64 o) o.d (fpOfInt fmtF32 (FpEnv.scalar rm) (((x % 2 ^ 64 : Nat) : Int))) ∧
  FpEnds s .fcvtI64F64 (wordFcvtI64F64 o) (.fcvtI64F64 o) o.d (let r := fpToInt rm (-(2 ^ 63)) (2 ^ 63 - 1) (fmtF64.decode (x % 2 ^ fmtF64.width)); ((r.1 % 2 ^ 64).toNat, r.2)) ∧
  FpEnds s .fcvtF64I64 (wordFcvtF64I64 o) (.fcvtF64I64 o) o.d (fpOfInt fmtF64 (FpEnv.scalar rm) (sextNat 64 (x % 2 ^ 64))) ∧
  FpEnds s .fcvtN64F64 (wordFcvtN64F64 o) (.fcvtN64F64 o) o.d (let r := fpToInt rm 0 (2 ^ 64 - 1) (fmtF64.decode (x % 2 ^ fmtF64.width)); ((r.1 % 2 ^ 64).toNat, r.2)) ∧
  FpEnds s .fcvtF64N64 (wordFcvtF64N64 o) (.fcvtF64N64 o) o.d (fpOfInt fmtF64 (FpEnv.scalar rm) (((x % 2 ^ 64 : Nat) : Int))) ∧
  FpEnds s .fcvtF32F64 (wordFcvtF32F64 o) (.fcvtF32F64 o) o.d (fpConvert fmtF64 fmtF32 (FpEnv.scalar rm) (x % 2 ^ 64)) ∧
  FpEnds s .fcvtF64F32 (wordFcvtF64F32 o) (.fcvtF64F32 o) o.d (fpConvert fmtF32 fmtF64 (FpEnv.scalar rm) (x % 2 ^ 32))

/-- O12. R75 and R101: a step fetches, decodes and runs. -/
def Obligations.StepRunsDecoded : Prop :=
  ∀ (s t : State) (w : BitVec 64),
  s.turns = [] → s.still = false → s.takeReady = none → s.fetchAt s.hart.pc.toNat = .ok w t →
  let endb : Prop := w.extractLsb' 0 8 = 0x02#8 ∧ w.extractLsb' 23 9 = 8#9
  (∀ i, decode w = .ok i → step s = exec i t) ∧
  (∀ e, decode w = .error e → endb → step s = .next (t.takeTrap { cause := 0x01, tval := instrBits w } none)) ∧
  (decode w = .error .zero → ¬endb → step s = .next (t.takeTrap (stopAt 0x03 0) none)) ∧
  (decode w = .error .opcode → ¬endb → step s = .next (t.takeTrap { cause := 0x00, tval := instrBits w } none)) ∧
  (decode w = .error .function → ¬endb → step s = .next (t.takeTrap { cause := 0x01, tval := instrBits w } none)) ∧
  (decode w = .error .reserved → ¬endb → step s = .next (t.takeTrap { cause := 0x02, tval := instrBits w } none))

/-- O13. R66, R67: fetching through the instruction cache. That a stale copy may also be fetched again is the model's choice (log 28). -/
def Obligations.FetchReadsMemory : Prop :=
  (∀ (s : State) (a pa n : Nat) (leaf : Word), a + 8 ≤ 2 ^ 56 →
    n = (if s.mem.readN pa 2 % 4 = 0 then 2 else if s.mem.readN pa 2 % 4 = 3 then 8 else 4) → s.ulines = [] →
    (∀ j, 2 * j < n → s.access (a + 2 * j) 2 2 .fetch false = .ok (.phys (pa + 2 * j) leaf) s) →
    (∀ j, 2 * j < n → s.codeCopy (pa + 2 * j) = some (s.mem.readN (pa + 2 * j) 2)) →
    s.fetchAt a = .ok (BitVec.ofNat 64 (s.mem.readN pa n)) s) ∧
  (∀ (s : State) (a pa : Nat) (leaf : Word), MemOk s → a + 8 ≤ 2 ^ 56 → pa % 2 = 0 → s.ulines = [] →
    s.access a 2 2 .fetch false = .ok (.phys pa leaf) s →
    (s.codeCopy pa = none → s.mem.readN pa 2 % 4 = 0 → ∃ t, s.fetchAt a = .ok (BitVec.ofNat 64 (s.mem.readN pa 2)) t ∧
      t = { s with stables := t.stables } ∧ t.codeCopy pa = some (s.mem.readN pa 2)) ∧
    (∀ c, s.codeCopy pa = some c → c % 4 = 0 → s.mem.readN pa 2 % 4 = 0 →
      ∃ t, (s.fetchAt a = .ok (BitVec.ofNat 64 c) t ∨ s.fetchAt a = .ok (BitVec.ofNat 64 (s.mem.readN pa 2)) t) ∧ t.mem = s.mem ∧ t.hart = s.hart))

/-- O14. R344, R345: trap entry (with R126, R229, R311, R213, R357). A recursion that runs saves itself as well (R274), and an oldest entry that has raised no cause comes to a stop first (R349); neither is a subject of this statement. That a transfer which follows frozen entries waits for their replay, and that `loosen` frees those that none of them concerns, is the model's choice (log 97); that a pre-emption also leaves running the save of a recursion and the transfers that one left running follows is log 131. -/
def Obligations.TrapEntry : Prop :=
  (∀ (s : State) (c : Stop) (vpc : Option Word), s.hart.recur = none →
  let h := s.hart.deliverAll.leave; let q := h.queue; let u := s.enterTrap c vpc; let t := u.hart
  let async := decide (c.cause = 0xA0 ∨ c.cause = 0xA1 ∨ c.cause = 0xB1)
  let frozen := h.bridle.map (fun b => if b.held then b else if h.qip then { b with after := 0 } else { b with held := b.after != 0 })
  u = { s with
    hart := t, fresh := s.fresh + 1, coh := { s.coh with links := dropBy (fun l : Link => l.hart == s.hart.id) s.coh.links }
    jobs := match s.hart.gwait, s.job with
      | some p, some j =>
        if j.phase = p then (s.putJob { j with arrived := j.arrived &&& ~~~(1#8 <<< s.hart.csr.member) }).jobs else s.jobs
      | _, _ => s.jobs } ∧
  t = { h with
    pc := BitVec.ofNat 64 (h.csr.tvec.toNat / 2 % 2 ^ 55 * 2), queue := [], vcause := none, gwait := none, timeout := false, waits := false
    image := if h.qip then h.image else h.imageOf
    offers := h.offers.filter (fun o => o.engine), moved := h.moved.filter (fun m => decide (2 ^ 64 ≤ m.1))
    bridle := if c.cause = 0xA0 ∨ c.cause = 0xA1 then preempted frozen else frozen
    ecauses := h.ecauses.map (fun e => { e with after := 0 })
    csr := { h.csr with
      tpc := h.pc, tval := c.tval, tcause := BitVec.ofNat 64 (c.cause % 256 + async.toNat * 256), status := t.csr.status
      tvpc := (match vpc with
        | some v => if h.qip then 0#64
          else BitVec.ofNat 64 (2 ^ 63 + (match q with | e :: _ => e.prog | [] => 0) % 64 * 2 ^ 56 + v.toNat % 2 ^ 56)
        | none => 0#64)
      tqpos := if h.qip then 0#64 else BitVec.ofNat 64 (2 ^ 63 + q.length % 64 * 256) } } ∧
  t.pmode = h.mode ∧ t.mode = max h.mode 1 ∧ t.ie = false ∧ t.vs = h.vs ∧ t.ms = h.ms ∧ t.qip = (h.qip || !q.isEmpty) ∧
  t.csr.status >>> 10 = h.csr.status >>> 10) ∧
  (∀ (b : Transfer) (bs : List Transfer),
    preempted (b :: bs) = (if (match b.kind with | .words _ _ => true | _ => b.isDrain || (preempted bs).any (fun u => !u.stopped && u.follows b))
      then b else { b with stopped := true }) :: preempted bs) ∧
  (∀ (s : State) (c : Stop) (vpc : Option Word), c.cause ≠ 0xA0 → c.cause ≠ 0xA1 → s.hart.hold = false → s.hart.recur = none →
    (s.hart.qip = true ∨ s.hart.vcause.isSome = true ∨ s.hart.queue = []) →
    s.takeTrap c vpc = (s.onHart Hart.loosen).enterTrap c vpc ∧ (s.hart.bridle = [] → s.takeTrap c vpc = s.enterTrap c vpc))

/-- O15. R354: the return from a trap. That a transfer waits for the replay of older entries is the model's choice (log 97). -/
def Obligations.TrapReturns : Prop :=
  ∀ s : State, Ready s .tret wordTret → s.hart.queue = [] →
  let h := s.hart; let m := h.pmode
  (h.csr.tpc.getLsbD 0 = true → exec .tret s = .next (s.takeTrap { cause := 0x40, tval := h.csr.tpc } none)) ∧
  (h.csr.tpc.getLsbD 0 = false → ∃ t, exec .tret s = .next t ∧
  (h.qip = false → t = { s with hart := t.hart } ∧ t.hart.pc = h.csr.tpc ∧ t.hart.mode = m ∧ t.hart.ie = (if m = 0 then true else h.ie) ∧
    t.hart.pmode = m ∧ t.hart.vs = h.vs ∧ t.hart.ms = h.ms ∧ t.hart.qip = false ∧
    t.hart.csr.tvpc = h.csr.tvpc &&& 0x7FFFFFFFFFFFFFFF#64 ∧ t.hart.csr.tqpos = h.csr.tqpos &&& 0x7FFFFFFFFFFFFFFF#64 ∧
    t.hart = { h with
      pc := h.csr.tpc, timeout := false, waits := false, bridle := t.hart.bridle
      csr := { h.csr with instret := h.csr.instret + 1#64, status := t.hart.csr.status, tvpc := t.hart.csr.tvpc, tqpos := t.hart.csr.tqpos } } ∧
    t.hart.bridle = (if m = 0 then h.bridle.map (fun b =>
        if b.held && b.ctx == h.ctx && b.pgroot == h.csr.pgroot then { b with stopped := false, held := false, after := 0 }
        else { b with stopped := false })
      else h.bridle)) ∧
  (h.qip = true → h.vs = 0 → t.hart.csr.tcause = 0x60#64 ∧ t.hart.csr.tval = 0#64 ∧ t.hart.csr.tpc = h.csr.tpc ∧ t.hart.pmode = m ∧
    t.hart.image = h.image ∧ t.hart.qip = true) ∧
  (h.qip = true → h.vs ≠ 0 → h.ms ≠ 0 → ∀ e q, h.replayed h.image.slots h.image.lrec 0 = e :: q →
    (h.badResume e = true → t.hart.csr.tcause = 0x0D#64 ∧ t.hart.csr.tval = BitVec.ofNat 64 h.vstart ∧ t.hart.csr.tpc = h.csr.tpc ∧
      t.hart.image = h.image ∧ t.hart.qip = true) ∧
    (h.badResume e = false → t.hart.qip = false ∧ t.hart.image = .empty ∧ t.hart.queue = e :: q ∧ t.hart.pc = h.csr.tpc ∧ t.hart.mode = m)))

/-- O16. R116: CSR instructions. `readCsr` and `writeCsr` are what the next statements are about. -/
def Obligations.CsrResults : Prop :=
  ∀ s : State, s.hart.queue = [] →
  (∀ o : OpDACsr, let n := o.c.toNat; let old := s.readCsr n; let v : Word := s.hart.getX o.a
    Ready s .csrrw (wordCsrrw o) → (n = 0x10 → s.hart.badVcfg v = false) →
    exec (.csrrw o) s = .next ((if true then s.writeCsr n v (s.hart.getX o.a) else s).wrote o.d old 4)) ∧
  (∀ o : OpDACsr, let n := o.c.toNat; let old := s.readCsr n; let v : Word := old ||| s.hart.getX o.a
    Ready s .csrrs (wordCsrrs o) → (n = 0x10 → s.hart.badVcfg v = false) →
    exec (.csrrs o) s = .next ((if (o.a != 0#5) then s.writeCsr n v (s.hart.getX o.a) else s).wrote o.d old 4)) ∧
  (∀ o : OpDACsr, let n := o.c.toNat; let old := s.readCsr n; let v : Word := old &&& ~~~s.hart.getX o.a
    Ready s .csrrc (wordCsrrc o) → (n = 0x10 → s.hart.badVcfg v = false) →
    exec (.csrrc o) s = .next ((if (o.a != 0#5) then s.writeCsr n v (0#64) else s).wrote o.d old 4)) ∧
  (∀ o : OpDUCsr, let n := o.c.toNat; let old := s.readCsr n; let v : Word := o.u.setWidth 64
    Ready s .csrrwi (wordCsrrwi o) → (n = 0x10 → s.hart.badVcfg v = false) →
    exec (.csrrwi o) s = .next ((if true then s.writeCsr n v (o.u.setWidth 64) else s).wrote o.d old 4)) ∧
  (∀ o : OpDUCsr, let n := o.c.toNat; let old := s.readCsr n; let v : Word := old ||| o.u.setWidth 64
    Ready s .csrrsi (wordCsrrsi o) → (n = 0x10 → s.hart.badVcfg v = false) →
    exec (.csrrsi o) s = .next ((if (o.u != 0#5) then s.writeCsr n v (o.u.setWidth 64) else s).wrote o.d old 4)) ∧
  (∀ o : OpDUCsr, let n := o.c.toNat; let old := s.readCsr n; let v : Word := old &&& ~~~(o.u.setWidth 64)
    Ready s .csrrci (wordCsrrci o) → (n = 0x10 → s.hart.badVcfg v = false) →
    exec (.csrrci o) s = .next ((if (o.u != 0#5) then s.writeCsr n v (0#64) else s).wrote o.d old 4))

/-- O17. R59, R93 to R99: the fields of the control registers. That gbar reads 0 without a job is log 22. -/
def Obligations.CsrFields : Prop :=
  ∀ (s : State) (v c : Word),
  s.writeCsr 0x07 v c = { s with hart := { s.hart with csr := { s.hart.csr with tscratch := v } } } ∧ (s.writeCsr 0x07 v c).readCsr 0x07 = v ∧
  s.writeCsr 0x03 v c = { s with hart := { s.hart with csr := { s.hart.csr with tval := v } } } ∧ (s.writeCsr 0x03 v c).readCsr 0x03 = v ∧
  s.writeCsr 0x04 v c = { s with hart := { s.hart with csr := { s.hart.csr with tpc := v } } } ∧ (s.writeCsr 0x04 v c).readCsr 0x04 = v ∧
  s.writeCsr 0x01 v c = { s with hart := { s.hart with csr := { s.hart.csr with tvec := v &&& 0xFFFFFFFFFFFFFE#64 } } } ∧ (s.writeCsr 0x01 v c).readCsr 0x01 = v &&& 0xFFFFFFFFFFFFFE#64 ∧
  s.writeCsr 0x02 v c = { s with hart := { s.hart with csr := { s.hart.csr with tcause := v &&& 0x1FF#64 } } } ∧ (s.writeCsr 0x02 v c).readCsr 0x02 = v &&& 0x1FF#64 ∧
  s.writeCsr 0x05 v c = { s with hart := { s.hart with csr := { s.hart.csr with tvpc := v &&& 0xBFFFFFFFFFFFFFFF#64 } } } ∧ (s.writeCsr 0x05 v c).readCsr 0x05 = v &&& 0xBFFFFFFFFFFFFFFF#64 ∧
  s.writeCsr 0x06 v c = { s with hart := { s.hart with csr := { s.hart.csr with tqpos := v &&& 0x8000000000003F1F#64 } } } ∧ (s.writeCsr 0x06 v c).readCsr 0x06 = v &&& 0x8000000000003F1F#64 ∧
  s.writeCsr 0x11 v c = { s with hart := { s.hart with csr := { s.hart.csr with vstart := v &&& 0xFFFF#64 } } } ∧ (s.writeCsr 0x11 v c).readCsr 0x11 = v &&& 0xFFFF#64 ∧
  s.writeCsr 0x12 v c = { s with hart := { s.hart with csr := { s.hart.csr with vdirty := v &&& 0x1FFFFFFFFFF#64 } } } ∧ (s.writeCsr 0x12 v c).readCsr 0x12 = v &&& 0x1FFFFFFFFFF#64 ∧
  s.writeCsr 0x13 v c = { s with hart := { s.hart with csr := { s.hart.csr with vsc := v } } } ∧ (s.writeCsr 0x13 v c).readCsr 0x13 = v ∧
  s.writeCsr 0x16 v c = { s with hart := { s.hart with csr := { s.hart.csr with bypth := v &&& 0xFFFFFFFFFFFF#64 } } } ∧ (s.writeCsr 0x16 v c).readCsr 0x16 = v &&& 0xFFFFFFFFFFFF#64 ∧
  s.writeCsr 0x17 v c = { s with hart := { s.hart with csr := { s.hart.csr with rkey := v } } } ∧ (s.writeCsr 0x17 v c).readCsr 0x17 = v ∧
  s.writeCsr 0x18 v c = { s with hart := { s.hart with csr := { s.hart.csr with mshape := v &&& 0xFFFF001FFFFF#64 } } } ∧ (s.writeCsr 0x18 v c).readCsr 0x18 = v &&& 0xFFFF001FFFFF#64 ∧
  s.writeCsr 0x19 v c = { s with hart := { s.hart with csr := { s.hart.csr with mmode := v &&& 3#64 } } } ∧ (s.writeCsr 0x19 v c).readCsr 0x19 = v &&& 3#64 ∧
  s.writeCsr 0x1A v c = { s with hart := { s.hart with csr := { s.hart.csr with fflags := v &&& 0x3F#64 } } } ∧ (s.writeCsr 0x1A v c).readCsr 0x1A = v &&& 0x3F#64 ∧
  s.writeCsr 0x1B v c = { s with hart := { s.hart with csr := { s.hart.csr with fen := v &&& 0x3F#64 } } } ∧ (s.writeCsr 0x1B v c).readCsr 0x1B = v &&& 0x3F#64 ∧
  s.writeCsr 0x30 v c = { s with hart := { s.hart with csr := { s.hart.csr with ftbase := v &&& 0xFFFFFFFFFFFF80#64 } } } ∧ (s.writeCsr 0x30 v c).readCsr 0x30 = v &&& 0xFFFFFFFFFFFF80#64 ∧
  s.writeCsr 0x31 v c = { s with hart := { s.hart with csr := { s.hart.csr with ftlimit := v &&& 0xFFFFFF#64 } } } ∧ (s.writeCsr 0x31 v c).readCsr 0x31 = v &&& 0xFFFFFF#64 ∧
  s.writeCsr 0x33 v c = { s with hart := { s.hart with csr := { s.hart.csr with cellsweep := v &&& 7#64 } } } ∧ (s.writeCsr 0x33 v c).readCsr 0x33 = v &&& 7#64 ∧
  s.writeCsr 0x49 v c = { s with hart := { s.hart with csr := { s.hart.csr with instret := v } } } ∧ (s.writeCsr 0x49 v c).readCsr 0x49 = v ∧
  s.writeCsr 0x50 v c = { s with hart := { s.hart with csr := { s.hart.csr with pgroot := v &&& 0xFFFFFFFFFE000#64 } } } ∧ (s.writeCsr 0x50 v c).readCsr 0x50 = v &&& 0xFFFFFFFFFE000#64 ∧
  s.writeCsr 0x51 v c = { s with hart := { s.hart with csr := { s.hart.csr with ctxid := v &&& 0xFFFFFF#64 } } } ∧ (s.writeCsr 0x51 v c).readCsr 0x51 = v &&& 0xFFFFFF#64 ∧
  s.writeCsr 0x10 v c = { s with hart := { s.hart with csr := { s.hart.csr with vcfg := (s.hart.csr.vcfg &&& 0xFFFFFE1800000000#64) ||| (v &&& 0x1E7FFFFFFFF#64) } } } ∧ (s.writeCsr 0x10 v c).readCsr 0x10 = (s.hart.csr.vcfg &&& 0xFFFFFE1800000000#64) ||| (v &&& 0x1E7FFFFFFFF#64) ∧
  s.writeCsr 0x32 v c = { s with hart := { s.hart with csr := { s.hart.csr with fcfg := (v &&& 3#64) ||| (s.hart.csr.fcfg &&& ~~~c &&& 4#64) } } } ∧ (s.writeCsr 0x32 v c).readCsr 0x32 = (v &&& 3#64) ||| (s.hart.csr.fcfg &&& ~~~c &&& 4#64) ∧
  s.writeCsr 0x60 v c = { s with hart := { s.hart with csr := { s.hart.csr with errinfo := (v &&& 0x1F1FFF007F#64) ||| (s.hart.csr.errinfo &&& ~~~c &&& 0x8000000000000000#64) } } } ∧ (s.writeCsr 0x60 v c).readCsr 0x60 = (v &&& 0x1F1FFF007F#64) ||| (s.hart.csr.errinfo &&& ~~~c &&& 0x8000000000000000#64) ∧
  (∀ n, n = 0x40 ∨ n = 0x41 ∨ n = 0x42 → s.writeCsr n v c = s) ∧
  (let old := s.hart.csr.status.toNat
    let st : Word := BitVec.ofNat 64 ((if v.toNat % 4 = 3 then old % 4 else v.toNat % 4) +
      (if v.toNat / 4 % 4 = 3 then old / 4 % 4 else v.toNat / 4 % 4) * 4 + v.toNat / 2 ^ 4 % 2 ^ 6 * 2 ^ 4)
    s.writeCsr 0x00 v c = { s with hart := { s.hart with
      csr := { s.hart.csr with status := st }, image := if v.getLsbD 9 then s.hart.image else .empty } } ∧
    (s.writeCsr 0x00 v c).readCsr 0x00 = st) ∧
  (let n := (s.stableAt s.hart.stable).live; let m := max 1 (min (v.toNat / 2 ^ 8 % 32) n); let old := s.hart.csr.leaseMin
    let new := if old < m ∧ n < s.minSum s.hart.stable - old + m then old else m
    let pref := max new (min (v.toNat / 2 ^ 16 % 32) n)
    let t := s.writeCsr 0x14 v c; let r := (t.readCsr 0x14).toNat
    t = { s with clock := s.clock + 1, others := t.others, hart := { s.hart with
      age := s.clock + 1, csr := { s.hart.csr with leaseMin := new, leasePref := pref, target := t.hart.csr.target } } } ∧
    r % 32 = s.hart.csr.grant % 32 ∧ r / 2 ^ 8 % 32 = new % 32 ∧ r / 2 ^ 16 % 32 = pref % 32 ∧ r / 2 ^ 32 = s.hart.csr.frozen.toNat) ∧
  (∀ j, s.job = some j →
    s.writeCsr 0x15 v c = s.putJob { j with arrived := v.setWidth 8, mask := (v >>> 8).setWidth 8, phase := v.toNat / 2 ^ 16 % 2 ^ 16 } ∧
    (s.writeCsr 0x15 v c).readCsr 0x15 = v &&& 0xFFFFFFFF#64) ∧
  (s.job = none → s.writeCsr 0x15 v c = s ∧ s.readCsr 0x15 = 0#64) ∧
  s.writeCsr 0x38 v c = { s with hart := { s.hart with csr := { s.hart.csr with awbase := s.hart.csr.awbase.set 0 (v &&& 0xFFFFFFFFFF0000#64) } } } ∧
  (s.writeCsr 0x38 v c).readCsr 0x38 = v &&& 0xFFFFFFFFFF0000#64 ∧
  s.writeCsr 0x39 v c = { s with hart := { s.hart with csr := { s.hart.csr with awbase := s.hart.csr.awbase.set 1 (v &&& 0xFFFFFFFFFF0000#64) } } } ∧
  (s.writeCsr 0x39 v c).readCsr 0x39 = v &&& 0xFFFFFFFFFF0000#64 ∧
  s.writeCsr 0x3A v c = { s with hart := { s.hart with csr := { s.hart.csr with awbase := s.hart.csr.awbase.set 2 (v &&& 0xFFFFFFFFFF0000#64) } } } ∧
  (s.writeCsr 0x3A v c).readCsr 0x3A = v &&& 0xFFFFFFFFFF0000#64 ∧
  s.writeCsr 0x3B v c = { s with hart := { s.hart with csr := { s.hart.csr with awbase := s.hart.csr.awbase.set 3 (v &&& 0xFFFFFFFFFF0000#64) } } } ∧
  (s.writeCsr 0x3B v c).readCsr 0x3B = v &&& 0xFFFFFFFFFF0000#64 ∧
  (let w : Word := (v &&& 0xFFFFFF00FFF0#64) ||| (if v.toNat / 2 ^ 4 % 16 < 13 then v &&& 1#64 else 0#64);
    s.writeCsr 0x3C v c = { s with
      hart := { s.hart with csr := { s.hart.csr with awcfg := s.hart.csr.awcfg.set 0 w } }
      satf := if c.getLsbD 16 then dropBy (fun p : Nat × Nat => p == (s.hart.ctx, 0)) s.satf else s.satf } ∧
    State.readCsr (s.writeCsr 0x3C v c) 0x3C = w ||| (s.readCsr 0x3C &&& ~~~c &&& 0x10000#64)) ∧
  (let w : Word := (v &&& 0xFFFFFF00FFF0#64) ||| (if v.toNat / 2 ^ 4 % 16 < 13 then v &&& 1#64 else 0#64);
    s.writeCsr 0x3D v c = { s with
      hart := { s.hart with csr := { s.hart.csr with awcfg := s.hart.csr.awcfg.set 1 w } }
      satf := if c.getLsbD 16 then dropBy (fun p : Nat × Nat => p == (s.hart.ctx, 1)) s.satf else s.satf } ∧
    State.readCsr (s.writeCsr 0x3D v c) 0x3D = w ||| (s.readCsr 0x3D &&& ~~~c &&& 0x10000#64)) ∧
  (let w : Word := (v &&& 0xFFFFFF00FFF0#64) ||| (if v.toNat / 2 ^ 4 % 16 < 13 then v &&& 1#64 else 0#64);
    s.writeCsr 0x3E v c = { s with
      hart := { s.hart with csr := { s.hart.csr with awcfg := s.hart.csr.awcfg.set 2 w } }
      satf := if c.getLsbD 16 then dropBy (fun p : Nat × Nat => p == (s.hart.ctx, 2)) s.satf else s.satf } ∧
    State.readCsr (s.writeCsr 0x3E v c) 0x3E = w ||| (s.readCsr 0x3E &&& ~~~c &&& 0x10000#64)) ∧
  (let w : Word := (v &&& 0xFFFFFF00FFF0#64) ||| (if v.toNat / 2 ^ 4 % 16 < 13 then v &&& 1#64 else 0#64);
    s.writeCsr 0x3F v c = { s with
      hart := { s.hart with csr := { s.hart.csr with awcfg := s.hart.csr.awcfg.set 3 w } }
      satf := if c.getLsbD 16 then dropBy (fun p : Nat × Nat => p == (s.hart.ctx, 3)) s.satf else s.satf } ∧
    State.readCsr (s.writeCsr 0x3F v c) 0x3F = w ||| (s.readCsr 0x3F &&& ~~~c &&& 0x10000#64)) ∧
  (s.writeCsr 0x48 v c = s.putStable { s.stableAt s.hart.stable with cycle := v } ∧ (s.writeCsr 0x48 v c).readCsr 0x48 = v) ∧
  s.writeCsr 0x52 v c = { s with hart := { s.hart with csr := { s.hart.csr with quota := v.setWidth 32 } } } ∧
  (s.writeCsr 0x52 v c).readCsr 0x52 = (v &&& 0xFFFFFFFF#64) ||| (s.readCsr 0x52 &&& 0xFFFFFFFF00000000#64) ∧
  (let d := (s.stableAt s.hart.stable).lanedis; let new := if s.hart.mode = 2 then v.setWidth 16 else d ||| v.setWidth 16
    let t := s.writeCsr 0x61 v c
    t.readCsr 0x61 = new.setWidth 64 ∧ t.stableAt s.hart.stable = { s.stableAt s.hart.stable with lanedis := new, retired := (t.stableAt s.hart.stable).retired } ∧
    (∀ n, n ≠ s.hart.stable → t.stableAt n = s.stableAt n) ∧
    t = { s with stables := t.stables, others := t.others, hart := { s.hart with csr := { s.hart.csr with
      leaseMin := t.hart.csr.leaseMin, leasePref := t.hart.csr.leasePref, target := t.hart.csr.target } } })

/-- O18. R91, R92: who may access a CSR. That the tval of an access that R92 refuses holds the instruction bits is the model's reading of R75 (log 67). R75 row 5: privileged instructions. -/
def Obligations.PrivilegeTraps : Prop :=
  (∀ s : State, s.hart.mode = 0 →
  (∀ o : OpDACsr, let n := o.c.toNat
    let high : Prop := (1 ≤ n ∧ n ≤ 7) ∨ n = 0x50
    let kept : Prop := n = 0x00 ∨ n = 0x14 ∨ n = 0x15 ∨ n = 0x18 ∨ n = 0x19 ∨ n = 0x30 ∨ n = 0x31 ∨ (0x38 ≤ n ∧ n ≤ 0x3F) ∨ n = 0x48 ∨ n = 0x49 ∨
      n = 0x51 ∨ n = 0x52 ∨ n = 0x60 ∨ n = 0x61
    (high ∨ (o.a ≠ 0#5 ∧ kept) →
      exec (.csrrs o) s = .next (s.takeTrap { cause := 0x04, tval := wordCsrrs o } none) ∧
      exec (.csrrc o) s = .next (s.takeTrap { cause := 0x04, tval := wordCsrrc o } none)) ∧
    (high ∨ kept →
      exec (.csrrw o) s = .next (s.takeTrap { cause := 0x04, tval := wordCsrrw o } none)) ∧
    (0x10 ≤ n ∧ n ≤ 0x13 → s.hart.vs = 0 →
      exec (.csrrs o) s = .next (s.takeTrap { cause := 0x60, tval := wordCsrrs o } none) ∧
      exec (.csrrc o) s = .next (s.takeTrap { cause := 0x60, tval := wordCsrrc o } none) ∧
      exec (.csrrw o) s = .next (s.takeTrap { cause := 0x60, tval := wordCsrrw o } none)) ∧
    (n = 0x18 ∨ n = 0x19 → o.a = 0#5 → s.hart.ms = 0 →
      exec (.csrrs o) s = .next (s.takeTrap { cause := 0x61, tval := wordCsrrs o } none) ∧
      exec (.csrrc o) s = .next (s.takeTrap { cause := 0x61, tval := wordCsrrc o } none))) ∧
  (∀ o : OpDUCsr, let n := o.c.toNat
    let high : Prop := (1 ≤ n ∧ n ≤ 7) ∨ n = 0x50
    let kept : Prop := n = 0x00 ∨ n = 0x14 ∨ n = 0x15 ∨ n = 0x18 ∨ n = 0x19 ∨ n = 0x30 ∨ n = 0x31 ∨ (0x38 ≤ n ∧ n ≤ 0x3F) ∨ n = 0x48 ∨ n = 0x49 ∨
      n = 0x51 ∨ n = 0x52 ∨ n = 0x60 ∨ n = 0x61
    (high ∨ (o.u ≠ 0#5 ∧ kept) →
      exec (.csrrsi o) s = .next (s.takeTrap { cause := 0x04, tval := wordCsrrsi o } none) ∧
      exec (.csrrci o) s = .next (s.takeTrap { cause := 0x04, tval := wordCsrrci o } none)) ∧
    (high ∨ kept →
      exec (.csrrwi o) s = .next (s.takeTrap { cause := 0x04, tval := wordCsrrwi o } none)) ∧
    (0x10 ≤ n ∧ n ≤ 0x13 → s.hart.vs = 0 →
      exec (.csrrsi o) s = .next (s.takeTrap { cause := 0x60, tval := wordCsrrsi o } none) ∧
      exec (.csrrci o) s = .next (s.takeTrap { cause := 0x60, tval := wordCsrrci o } none) ∧
      exec (.csrrwi o) s = .next (s.takeTrap { cause := 0x60, tval := wordCsrrwi o } none)) ∧
    (n = 0x18 ∨ n = 0x19 → o.u = 0#5 → s.hart.ms = 0 →
      exec (.csrrsi o) s = .next (s.takeTrap { cause := 0x61, tval := wordCsrrsi o } none) ∧
      exec (.csrrci o) s = .next (s.takeTrap { cause := 0x61, tval := wordCsrrci o } none)))) ∧
  (∀ (s : State) (o1 : OpA) (o2 : OpAB) (oda : OpDA) (o3 : OpDAB), s.hart.mode = 0 →
  exec .tret s = .next (s.takeTrap { cause := 0x04, tval := wordTret } none) ∧
  exec (.tlbinv o2) s = .next (s.takeTrap { cause := 0x04, tval := wordTlbinv o2 } none) ∧
  exec (.vqsave o1) s = .next (s.takeTrap { cause := 0x04, tval := wordVqsave o1 } none) ∧
  exec (.vqload o1) s = .next (s.takeTrap { cause := 0x04, tval := wordVqload o1 } none) ∧
  exec (.qseal oda) s = .next (s.takeTrap { cause := 0x04, tval := wordQseal oda } none) ∧
  exec (.qrevoke o3) s = .next (s.takeTrap { cause := 0x04, tval := wordQrevoke o3 } none) ∧
  exec (.qgrow o3) s = .next (s.takeTrap { cause := 0x04, tval := wordQgrow o3 } none))

/-- O19. R346: software traps (and R149, for ENDB). -/
def Obligations.TrapInstructions : Prop :=
  ∀ s : State,
  (∀ o : OpA, Ready s .trap (wordTrap o) → exec (.trap o) s = .next (s.takeTrap { cause := 0x10, tval := s.hart.getX o.a } none)) ∧
  (Ready s .trapBrk wordTrapBrk → exec .trapBrk s = .next (s.takeTrap { cause := 0x0E, tval := s.hart.pc } none)) ∧
  (∀ c, (s.enterTrap c none).hart.csr.tpc = s.hart.pc) ∧ Instr.len .trapBrk = 4 ∧ (∀ o : OpA, Instr.len (.trap o) = 4) ∧
  (∀ m v, privStop m .trap v = none ∧ privStop m .trapBrk v = none) ∧ s.decodeStop .trapBrk wordTrapBrk = none ∧
  exec .endb s = .next (s.takeTrap { cause := 0x01, tval := wordEndb } none) ∧
  encode (.trap { a := 10#5 }) = 0x14095#64 ∧ encode .trapBrk = 0x195#64 ∧
  (∀ r a b : BitVec 5, let w : BitVec 64 := (0#9 ++ b ++ a ++ r ++ 0x95#8 : BitVec 32).setWidth 64
    decode w = if b ≠ 0#5 then .error .reserved else if r = 0#5 then .ok (.trap { a := a }) else if r = 1#5 ∧ a = 0#5 then .ok .trapBrk else .error .reserved)

/-- O20. R117, R118, R303, R304, R233: instructions that wait. -/
def Obligations.WaitsAndStops : Prop :=
  ∀ s : State,
  (Ready s .pause wordPause → exec .pause s = .next (s.went (s.hart.pc + 4#64))) ∧
  (∀ o : OpSK, Ready s .fence (wordFence o) → (o.s = 0#3 ∨ s.hart.released = true ∨ (o.k = 1#2 ∧ s.hart.readsBack = true)) →
    exec (.fence o) s = .next (s.went (s.hart.pc + 4#64))) ∧
  (∀ o : OpSK, Ready s .fence (wordFence o) → o.s ≠ 0#3 → o.k = 2#2 → s.hart.released = false →
    exec (.fence o) s = .next (State.went { s with hart := { s.hart with fences := s.hart.fences + 1 } } (s.hart.pc + 4#64))) ∧
  (Ready s .wfe wordWfe → (s.hart.event = true ∨ s.hart.asyncPending = true) →
    exec .wfe s = .next (State.went { s with hart := { s.hart with event := false } } (s.hart.pc + 4#64))) ∧
  (Ready s .wfe wordWfe → s.hart.event = false → s.hart.asyncPending = false → s.hart.queue = [] → s.hart.bridle = [] →
    exec .wfe s = .next { s with hart := { s.hart with waits := true } }) ∧
  (Ready s .halt wordHalt → Quiet s →
    ∃ t, exec .halt s = .next t ∧
      t.hart = { s.hart.passed (s.hart.pc + 4#64) with run := if s.hart.isGroom then .stopped else .halted } ∧
      t = { s with hart := t.hart, turns := if s.hart.isGroom then s.turns else Turn.device (.hartHaltComplete s.hart.id) :: s.turns }) ∧
  (Ready s .cpywait wordCpywait → Quiet s → exec .cpywait s = .next (s.went (s.hart.pc + 4#64)))

/-- O21. R305 to R310: waits and barriers. -/
def Obligations.SynchronisationResults : Prop :=
  ∀ (s : State) (pa : Nat), s.ulines = [] → s.failsAt pa 8 = false → s.mem.wf = true →
  (∀ o : OpDAB, let a := (s.hart.getX o.a).toNat; let v := s.mem.readN pa 8; let c := s.hart.getX o.b
    let arrived := v % 2 ^ 32; let phase := v / 2 ^ 32 % 2 ^ 16; let need := v / 2 ^ 48
    (Ready s .waitm (wordWaitm o) → Reaches s a 8 .load pa →
      (BitVec.ofNat 64 v ≠ c ∨ s.hart.timeout = true ∨ s.hart.asyncPending = true →
        exec (.waitm o) s = .next ((s.cached a 8 .load).wrote o.d (BitVec.ofNat 64 v) 4)) ∧
      (BitVec.ofNat 64 v = c → s.hart.timeout = false → s.hart.asyncPending = false → s.hart.queue = [] → s.hart.bridle = [] →
        ∃ t, exec (.waitm o) s = .next t ∧ t.hart.pc = s.hart.pc ∧ t.hart.x = s.hart.x ∧ t.mem = s.mem)) ∧
    (Ready s .await (wordAwait o) → Reaches s a 8 .load pa → phase ≠ c.toNat % 2 ^ 16 →
      exec (.await o) s = .next ((s.cached a 8 .load).wrote o.d (BitVec.ofNat 64 phase) 4)) ∧
    (Ready s .arrive (wordArrive o) → Reaches s a 8 .store pa → (s.hart.released = true ∨ c.getLsbD 24 = true) →
      (2 ^ 63 ≤ v ∨ need = 0 ∨ need ≤ arrived → exec (.arrive o) s = .next ((s.cached a 8 .store).takeTrap (stopAt 0x4D a) none)) ∧
      (v < 2 ^ 63 → need ≠ 0 → arrived < need → ∃ t, exec (.arrive o) s = .next t ∧ SameBut s t ∧
        Stored s t pa 8 (if arrived + 1 = need then need * 2 ^ 48 + (phase + 1) % 2 ^ 16 * 2 ^ 32 else v + 1) ∧
        t.hart = (s.wrote o.d (BitVec.ofNat 64 (phase + c.toNat / 2 ^ 16 % 2 ^ 6 * 2 ^ 16 + (c.toNat / 2 ^ 24 % 2) * 2 ^ 24)) 4).hart))) ∧
  (∀ (o : OpD) (j : Job), s.job = some j → j.mask = 1#8 <<< s.hart.csr.member → s.hart.gwait = none →
    j.arrived = 0#8 →
    (Ready s .gbar (wordGbar o) → s.hart.released = true → ∃ t, exec (.gbar o) s = .next t ∧
      t.hart = (s.wrote o.d (BitVec.ofNat 64 ((j.phase + 1) % 2 ^ 16)) 4).hart ∧ t.mem = s.mem) ∧
    (Ready s .gbarRlx (wordGbarRlx o) → ∃ t, exec (.gbarRlx o) s = .next t ∧
      t.hart = (s.wrote o.d (BitVec.ofNat 64 ((j.phase + 1) % 2 ^ 16)) 4).hart ∧ t.mem = s.mem))

/-- O22. R221, R222, R249, R359: caches, pins, frame chains and translations. That an empty range checks no bound, its start included, is the model's reading (log 58); which lines a cache holds beside those that are asked for is that of logs 14 and 104. -/
def Obligations.CacheAndTlbResults : Prop :=
  ∀ s : State, s.ulines = [] → Quiet s → Sound s →
  (∀ o : OpAB, let a := s.hart.getX o.a; let n := s.hart.getX o.b
    (n = 0#64 ∨ (a.toNat < 2 ^ 56 ∧ a.toNat + n.toNat - 1 < 2 ^ 56)) →
    let there (pa : Nat) (leaf : Word) : Prop := s.presentAt a.toNat = .ok (some (pa, leaf)) s ∧ n ≠ 0#64 ∧
      a.toNat / 65536 = (a.toNat + n.toNat - 1) / 65536
    let inside (pa line : Nat) : Prop := pa / 128 ≤ line ∧ line ≤ (pa + n.toNat - 1) / 128
    (Ready s .cflush (wordCflush o) → ∃ t, exec (.cflush o) s = .next t ∧
      t = { s with hart := s.hart.passed (s.hart.pc + 4#64), stables := t.stables, coh := t.coh } ∧
      (n = 0#64 → t = s.went (s.hart.pc + 4#64)) ∧
      (∀ (pa : Nat) (leaf : Word), there pa leaf → t.stables = s.stables ∧ t.coh.links = s.coh.links ∧
        (∀ c ∈ t.coh.caches, inside pa c.line → c.cache < 2598 → c.st ≠ .m) ∧ (∀ e ∈ t.coh.homes, inside pa e.line → e.state ≠ .m ∧ e.state ≠ .o))) ∧
    (Ready s .cinval (wordCinval o) → ∃ t, exec (.cinval o) s = .next t ∧
      t = { s with hart := s.hart.passed (s.hart.pc + 4#64), stables := t.stables, coh := t.coh } ∧
      (n = 0#64 → t = s.went (s.hart.pc + 4#64)) ∧
      (∀ (pa : Nat) (leaf : Word), there pa leaf → (∀ k, k < n.toNat → t.codeCopy (pa + k) = none) ∧
        (∀ l ∈ t.coh.links, inside pa l.line → l.stable ≠ s.hart.stable) ∧
        (s.hart.stable < 288 → ∀ c ∈ t.coh.caches, inside pa c.line → c.cache ≠ 2304 + s.hart.stable ∧ (c.cache < 2304 → c.cache / 8 ≠ s.hart.stable))))) ∧
  (∀ o : OpDAB, let a := s.hart.getX o.a; let n := s.hart.getX o.b
    (n = 0#64 ∨ (a.toNat < 2 ^ 56 ∧ a.toNat + n.toNat - 1 < 2 ^ 56)) →
    (Ready s .pin (wordPin o) → ∃ (t : State) (k : Nat), exec (.pin o) s = .next t ∧
      t = { s with hart := (s.wrote o.d (BitVec.ofNat 64 k) 4).hart, stables := t.stables, coh := t.coh, pins := t.pins } ∧
      k ≤ (if n = 0#64 then 0 else (a.toNat + n.toNat - 1) / 128 + 1 - a.toNat / 128) ∧
      (∃ l, t.pins = s.pins ++ l ∧ ∀ p ∈ l, p.die = s.hart.die ∧ p.ctx = s.hart.ctx)) ∧
    (Ready s .unpin (wordUnpin o) → ∃ (t : State) (k : Nat), exec (.unpin o) s = .next t ∧
      t = { s with hart := (s.wrote o.d (BitVec.ofNat 64 k) 4).hart, stables := t.stables, coh := t.coh, pins := t.pins } ∧
      (∀ p, p ∈ t.pins → p ∈ s.pins) ∧ (∀ p ∈ s.pins, p.die ≠ s.hart.die ∨ p.ctx ≠ s.hart.ctx → p ∈ t.pins))) ∧
  (∀ o : OpA, let f := (s.hart.getX o.a).toNat / 2 ^ 8 % 2 ^ 24
    s.hart.id < 2310 → Ready s .finval (wordFinval o) → ∃ t, exec (.finval o) s = .next t ∧
      t = { s with hart := s.hart.passed (s.hart.pc + 4#64), stables := t.stables } ∧
      ∀ st ∈ t.stables, st.n = s.hart.stable → ∀ e ∈ st.frames, f ∉ e.via) ∧
  (∀ o : OpAB, let ctx := (s.hart.getX o.a).toNat % 2 ^ 24; let va := s.hart.getX o.b
    Ready s .tlbinv (wordTlbinv o) →
    (va ≠ BitVec.allOnes 64 → 2 ^ 56 ≤ va.toNat → exec (.tlbinv o) s = .next (s.takeTrap { cause := 0x46, tval := va } none)) ∧
    (va = BitVec.allOnes 64 ∨ va.toNat < 2 ^ 56 → (∀ h ∈ s.others, h.bridle = []) → ∃ t, exec (.tlbinv o) s = .next t ∧
      t.hart.pc = s.hart.pc + 4#64 ∧ t.hart.x = s.hart.x ∧ t.mem = s.mem ∧
      ∀ st ∈ t.stables, ∀ e ∈ st.tlb, e.ctx = ctx → va ≠ BitVec.allOnes 64 ∧ va.toNat / 2 ^ leafShift e.level ≠ e.vpn))

/-- O23. R350 to R353: queue images in memory. -/
def Obligations.QueueImageResults : Prop :=
  ∀ (s : State) (o : OpA), let a := s.hart.getX o.a
  (Ready s .vqsave (wordVqsave o) → a.toNat < 2 ^ 56 → a.toNat % 16 = 0 → s.hart.bridle = [] →
    ∀ t, s.storeRun a.toNat (if s.hart.qip then s.hart.image else .empty).words = .ok () t →
      exec (.vqsave o) s = .next (t.went (t.hart.pc + 4#64))) ∧
  (Ready s .vqload (wordVqload o) → a.toNat < 2 ^ 56 → a.toNat % 16 = 0 → s.hart.memHeld a.toNat 1040 = false →
    ∀ d t, s.loadRun a.toNat 130 = .ok d t →
      (t.imageOfWords d = none → exec (.vqload o) s = .next (t.takeTrap { cause := 0x0D, tval := a } none)) ∧
      (∀ q, t.imageOfWords d = some q → ∃ u, exec (.vqload o) s = .next u ∧ u.hart.image = q ∧ u.hart.x = s.hart.x ∧
        u.hart.pc = s.hart.pc + 4#64 ∧ u.hart.queue = t.hart.queue ∧ u.hart.qip = q.slots.any (fun e => e.state != 0) ∧ u.mem = t.mem)) ∧
  (∀ r w, (r, w) = (Row.vqsave, wordVqsave o) ∨ (r, w) = (Row.vqload, wordVqload o) → Ready s r w →
    (2 ^ 56 ≤ a.toNat → exec (if r = .vqsave then .vqsave o else .vqload o) s = .next (s.takeTrap { cause := 0x46, tval := a } none)) ∧
    (a.toNat < 2 ^ 56 → a.toNat % 16 ≠ 0 → exec (if r = .vqsave then .vqsave o else .vqload o) s = .next (s.takeTrap { cause := 0x40, tval := a } none)))

/-- O24. R119 to R124: queue instructions. The ring action is the model's operation of that name. R124, R18: sealing. The key is a value without a body (log 11), so this holds for every key. R22 to R28: the bytes of rings. That of two laps which start at one position the one linked last holds it is the model's reading (log 121). -/
def Obligations.QueueInstructionResults : Prop :=
  ((∀ (s t : State) (o : OpDAB) (c : Cap), let p := s.hart.getX o.a; let x := s.hart.getX o.b
  let at4 (n : Option Nat) : Word := match n with | some v => BitVec.ofNat 64 v | none => BitVec.allOnes 64
  s.hart.memHeld p.toNat 32 = false →
  (Ready s .qpush (wordQpush o) → s.presentCap (s.hartWho false) p [.push] = .ok c t → let n := 2 ^ c.lgsize / 8 - 1; let b := (t.hart.getX o.b).toNat
    ∀ l u q v, t.hart.memHeld b (8 * n) = false → t.loadWords (t.hartWho false) b n = .ok l u → u.hart.released = true →
      u.ringPush (u.hartWho false) c l = .ok q v → exec (.qpush o) s = .next (v.wrote o.d (at4 q) 4)) ∧
  (∀ take : Bool, (if take then Ready s .qpop (wordQpop o) else Ready s .qpeek (wordQpeek o)) → s.presentCap (s.hartWho false) p [.pop] = .ok c t →
    let j := (t.hart.getX o.b).toNat % 8; let b := (t.hart.getX o.b).toNat / 8 * 8; let i : Instr := if take then .qpop o else .qpeek o
    (c.ncons ≤ j → exec i s = .next (t.takeTrap { cause := 0xA6, tval := t.hart.getX o.a } none)) ∧
    (j < c.ncons → t.hart.memHeld b (2 ^ c.lgsize - 8) = false → t.hart.fencedAhead = false → ∀ who home u, t.ringOpen (t.hartWho false) c = .ok (who, home) u →
      (∀ v, u.ringPeek who c j = .ok none v →
        exec i s = .next (State.wrote { v with hart := { v.hart with watched := some (c.owner, c.base) } } o.d (BitVec.allOnes 64) 4)) ∧
      (∀ pos slot l v v', u.ringPeek who c j = .ok (some (pos, slot, l)) v → v.storeWords (v.hartWho false) b l = .ok () v' →
        (take = false → exec i s = .next (v'.wrote o.d (BitVec.ofNat 64 pos) 4)) ∧
        (∀ v2, take = true → v'.ringTake who c j pos = .ok () v2 → exec i s = .next (v2.wrote o.d (BitVec.ofNat 64 pos) 4))))) ∧
  (Ready s .qwake (wordQwake o) → s.presentCap (s.hartWho false) p [.wake] = .ok c t → ∀ ok u,
    t.ringWake (t.hartWho false) c (t.hart.getX o.b).toNat = .ok ok u → exec (.qwake o) s = .next (u.wrote o.d (if ok then 0#64 else 1#64) 4)) ∧
  (Ready s .qrevoke (wordQrevoke o) → s.hostFn 5 = false → s.presentCap (s.hartWho false) p [.admin] = .ok c t → ∃ u,
    exec (.qrevoke o) s = .next u ∧ u.hart = (t.wrote o.d (BitVec.ofNat 64 (max (t.floorOf c.owner) (min (t.hart.getX o.b).toNat 65535))) 4).hart ∧
    u.floorOf c.owner = max (t.floorOf c.owner) (min (t.hart.getX o.b).toNat 65535) ∧ u.mem = t.mem) ∧
  (Ready s .qgrow (wordQgrow o) → s.presentCap (s.hartWho false) p [.grow] = .ok c t →
    (2 ^ 56 ≤ (t.hart.getX o.b).toNat → exec (.qgrow o) s = .next (t.takeTrap { cause := 0x46, tval := t.hart.getX o.b } none)) ∧
    ((t.hart.getX o.b).toNat < 2 ^ 56 → (t.hart.getX o.b).toNat % 128 ≠ 0 → exec (.qgrow o) s = .next (t.takeTrap { cause := 0x40, tval := t.hart.getX o.b } none)) ∧
    (∀ n u, (t.hart.getX o.b).toNat < 2 ^ 56 → (t.hart.getX o.b).toNat % 128 = 0 → t.ringGrow (t.hartWho false) c (t.hart.getX o.b).toNat = .ok n u →
      exec (.qgrow o) s = .next (u.wrote o.d (BitVec.ofNat 64 n) 4))) ∧
  (Ready s .nsub (wordNsub o) → s.presentCap (s.hartWho false) p [.push, .wake] = .ok c t →
    (c.type ≠ 1 → exec (.nsub o) s = .next (t.takeTrap { cause := 0xA6, tval := t.hart.getX o.a } none)) ∧
    (c.type = 1 → let d := t.hart.getX o.b; t.hart.memHeld d.toNat 32 = false → ∀ w0 w1 w2 w3 u, t.loadWords (t.hartWho false) d.toNat 4 = .ok [w0, w1, w2, w3] u →
      (w1 = 0 ∨ 2 ^ 24 < w1 → exec (.nsub o) s = .next (u.takeTrap { cause := 0xAA, tval := d } none)) ∧
      (∀ n v ok y, w1 ≠ 0 → w1 ≤ 2 ^ 24 → u.hart.released = true →
        u.ringPush (u.hartWho false) c ([w0, w1, w2, w3] ++ List.replicate (2 ^ c.lgsize / 8 - 5) 0) = .ok (some n) v →
        v.ringWake (v.hartWho false) c (n + 1) = .ok ok y → exec (.nsub o) s = .next (y.wrote o.d (BitVec.ofNat 64 n) 4)) ∧
      (∀ v, w1 ≠ 0 → w1 ≤ 2 ^ 24 → u.hart.released = true →
        u.ringPush (u.hartWho false) c ([w0, w1, w2, w3] ++ List.replicate (2 ^ c.lgsize / 8 - 5) 0) = .ok none v →
        exec (.nsub o) s = .next (v.wrote o.d (BitVec.allOnes 64) 4))))) ∧
  (∀ (s t u : State) (o : OpDA) (a b c d : Word), let p := s.hart.getX o.a
  Ready s .qseal (wordQseal o) → s.hostFn 5 = false → s.hart.memHeld p.toNat 32 = false → s.hart.fencedAhead = false →
  s.readCap (s.hartWho false) p = .ok (a, b, c, d) t →
  ((capOf a b c d).formOk = true →
    t.storeRaw (p.toNat + 24) 8 8 (sealOf (Config.sealKey t.epoch) a b c).toNat false = .ok () u → exec (.qseal o) s = .next (u.wrote o.d 0#64 4)) ∧
  ((capOf a b c d).formOk = false → exec (.qseal o) s = .next (t.takeTrap { cause := 0xA5, tval := p } none)))) ∧
  (∀ (s : State) (w v : Who) (c : Cap) (home pb : Nat),
  s.ulines = [] → s.failing = [] → c.formOk = true → s.ringOpen w c = .ok (v, home) s → RingReach s v c.base pb 128 →
  let rd (a : Nat) : Nat := s.mem.readN a 8; let size := 2 ^ c.lgsize
  let claim := rd pb; let tail := rd (pb + 8); let cur (j : Nat) : Nat := rd (pb + 0x10 + 8 * j); let pseg := rd (pb + 0x60); let flags := rd (pb + 0x68)
  let nseg := flags % 32; let growpend := flags / 256 % 2; let least := (List.range c.ncons).foldl (fun m j => min m (cur j)) (2 ^ 64 - 1)
  (∀ (pl : List Nat) (ps : Nat), RingReach s v pseg ps (128 + c.lap * size) → 8 * (pl.length + 1) ≤ size → let first := rd (ps + 0x50)
    (first ≤ claim → claim < first + c.lap → let slot := ps + 0x80 + (claim - first) * size
      ∃ t, s.ringPush w c pl = .ok (some claim) t ∧ OnlyMem s t (((s.mem.writeN pb 8 (claim + 1)).writeWords (slot + 8) pl).writeN slot 8 (claim + 1))) ∧
    (first + c.lap ≤ claim → let next := rd (ps + 0x58); ∀ pn, RingReach s v next pn (128 + c.lap * size) → let slot := pn + 0x80
      (rd (pn + 0x50) + c.lap ≤ least → ∃ t, s.ringPush w c pl = .ok (some claim) t ∧
        OnlyMem s t (((((s.mem.writeN (pn + 0x50) 8 claim).writeN (pb + 0x60) 8 next).writeN pb 8 (claim + 1)).writeWords (slot + 8) pl).writeN slot 8 (claim + 1))) ∧
      (least < rd (pn + 0x50) + c.lap → c.has .grow = true → growpend = 0 →
        ∃ t, s.ringPush w c pl = .ok none t ∧ t.mem = s.mem.writeN (pb + 0x68) 8 (flags + 256)) ∧
      (least < rd (pn + 0x50) + c.lap → (c.has .grow = false ∨ growpend = 1) → ∃ t, s.ringPush w c pl = .ok none t ∧ OnlyMem s t s.mem))) ∧
  (∀ (j : Nat) (va ph : Nat → Nat), j < c.ncons → va 0 = c.base →
    (∀ i, i < nseg → RingReach s v (va i) (ph i) (128 + c.lap * size) ∧ rd (ph i + 0x58) = va (i + 1)) →
    let p := cur j; let first (i : Nat) : Nat := rd (ph i + 0x50); let holds (i : Nat) : Prop := i < nseg ∧ first i ≤ p ∧ p < first i + c.lap
    ((∀ i, ¬ holds i) → ∃ t, s.ringPeek v c j = .ok none t ∧ OnlyMem s t s.mem) ∧
    (∀ i, holds i → (∀ k, holds k → first k < first i ∨ (first k = first i ∧ k ≤ i)) → let slot := 0x80 + (p - first i) * size
      (rd (ph i + slot) = (p + 1) % 2 ^ 64 → ∃ t, s.ringPeek v c j =
        .ok (some (p, va i + slot, (List.range (size / 8 - 1)).map (fun k => rd (ph i + slot + 8 + 8 * k)))) t ∧ OnlyMem s t s.mem) ∧
      (rd (ph i + slot) ≠ (p + 1) % 2 ^ 64 → ∃ t, s.ringPeek v c j = .ok none t ∧ OnlyMem s t s.mem))) ∧
  (∀ j p, j < c.ncons → ∃ t, s.ringTake v c j p = .ok () t ∧ OnlyMem s t (s.mem.writeN (pb + 0x10 + 8 * j) 8 (p + 1))) ∧
  (∀ T,
    (T ≤ tail → ∃ t, s.ringWake w c T = .ok true t ∧ t.mem = s.mem) ∧
    (tail < T → least + nseg * c.lap < T → ∃ t, s.ringWake w c T = .ok false t ∧ t.mem = s.mem) ∧
    (tail < T → T ≤ least + nseg * c.lap → ∃ t, s.ringWake w c T = .ok true t ∧ t.mem = s.mem.writeN (pb + 8) 8 T)) ∧
  (∀ g pg ps, RingReach s v g pg 128 → RingReach s v pseg ps 128 →
    (16 ≤ nseg → ∃ t, s.ringGrow w c g = .ok nseg t ∧ OnlyMem s t (s.mem.writeN (pb + 0x68) 8 (flags - growpend * 256))) ∧
    (nseg < 16 → ∃ t, s.ringGrow w c g = .ok (nseg + 1) t ∧
      OnlyMem s t (((((s.mem.writeN (pg + 0x50) 8 claim).writeN (pg + 0x58) 8 (rd (ps + 0x58))).writeN (ps + 0x58) 8 g).writeN (pb + 0x60) 8 g).writeN
        (pb + 0x68) 8 (flags - growpend * 256 + 1)))))

/-- O25. R232 to R234: copies. What the engine then does is the subject of the statements on engine transfers. -/
def Obligations.CopyResults : Prop :=
  ∀ s : State, s.hart.queue = [] → s.hart.bridle.length < 16 →
  (∀ o : OpDAB, let dst := (s.hart.getX o.d).toNat; let src := (s.hart.getX o.a).toNat; let n := (s.hart.getX o.b).toNat
    (Ready s .cpy (wordCpy o) →
      (n = 0 → exec (.cpy o) s = .next (s.went (s.hart.pc + 4#64))) ∧
      (2 ^ 40 ≤ n → exec (.cpy o) s = .next (s.takeTrap (stopAt 0x6E n) none)) ∧
      (0 < n → n < 2 ^ 40 → 2 ^ 56 < dst + n → exec (.cpy o) s = .next (s.takeTrap (stopAt 0x46 (max dst (2 ^ 56))) none)) ∧
      (0 < n → n < 2 ^ 40 → dst + n ≤ 254 * 2 ^ 48 → src + n ≤ 254 * 2 ^ 48 → 
        dst + n ≤ 2 ^ 56 → src + n ≤ 2 ^ 56 →
        ∃ t e, exec (.cpy o) s = .next t ∧ t.hart = { s.hart.passed (s.hart.pc + 4#64) with bridle := insertTransfer e s.hart.bridle } ∧ t.mem = s.mem ∧
          e.kind = .copy dst src n ∧ e.stopped = false ∧ e.held = false ∧ e.after = 0)) ∧
    (Ready s .cpyfill (wordCpyfill o) →
      (n = 0 → exec (.cpyfill o) s = .next (s.went (s.hart.pc + 4#64))) ∧
      (2 ^ 40 ≤ n → exec (.cpyfill o) s = .next (s.takeTrap (stopAt 0x6E n) none)) ∧
      (0 < n → n < 2 ^ 40 → dst + n ≤ 254 * 2 ^ 48 →
        ∃ t e, exec (.cpyfill o) s = .next t ∧ t.hart = { s.hart.passed (s.hart.pc + 4#64) with bridle := insertTransfer e s.hart.bridle } ∧ t.mem = s.mem ∧
          e.kind = .fill dst ((s.hart.getX o.a).setWidth 8) n ∧ e.stopped = false ∧ e.held = false ∧ e.after = 0))) ∧
  (∀ o : OpA, let a := s.hart.getX o.a
    Ready s .cpybt (wordCpybt o) →
      (2 ^ 56 ≤ a.toNat → exec (.cpybt o) s = .next (s.takeTrap { cause := 0x46, tval := a } none)) ∧
      (a.toNat < 2 ^ 56 → a.toNat % 64 ≠ 0 → exec (.cpybt o) s = .next (s.takeTrap { cause := 0x40, tval := a } none)) ∧
      (∀ d t, a.toNat < 2 ^ 56 → a.toNat % 64 = 0 → s.hart.memHeld a.toNat 64 = false → s.loadWords (s.hartWho false) a.toNat 8 = .ok d t →
        t.hart = s.hart →
        ((blockDesc d).ok = false → exec (.cpybt o) s = .next (t.takeTrap { cause := 0x6E, tval := a } none)) ∧
        ((blockDesc d).ok = true → (blockDesc d).mode = 0 → let b := blockDesc d
          ∃ u e, exec (.cpybt o) s = .next u ∧ u.hart = { s.hart.passed (s.hart.pc + 4#64) with bridle := insertTransfer e s.hart.bridle } ∧ u.mem = t.mem ∧
            e.kind = .gather b.table b.count b.lgbs b.pool b.data ∧ e.stopped = false ∧ e.held = false ∧ e.after = 0)))

/-- O26. R168, R171: element-wise integer instructions. -/
def Obligations.VectorIntegerResults : Prop :=
  ∀ s : State, s.hart.fits → let w := s.hart.width; let sg (a : Nat) : Int := sextNat w a
  (∀ o : OpDABCEK, let x (p : Nat) : Nat := s.hart.el o.a w p; let y (p : Nat) : Nat := s.hart.el o.b w p
    VLane s (.vaddVV o) .vaddVV (wordVaddVV o) (s.hart.sew ≤ 3) o.d o.k 1 s.hart.perReg w (fun p => (x p + y p) % 2 ^ w) ∧
    VLane s (.vsubVV o) .vsubVV (wordVsubVV o) (s.hart.sew ≤ 3) o.d o.k 1 s.hart.perReg w (fun p => (((x p : Int) - y p) % 2 ^ w).toNat) ∧
    VLane s (.vrsubVV o) .vrsubVV (wordVrsubVV o) (s.hart.sew ≤ 3) o.d o.k 1 s.hart.perReg w (fun p => (((y p : Int) - x p) % 2 ^ w).toNat) ∧
    VLane s (.vmulVV o) .vmulVV (wordVmulVV o) (s.hart.sew ≤ 3) o.d o.k 1 s.hart.perReg w (fun p => x p * y p % 2 ^ w) ∧
    VLane s (.vmulhVV o) .vmulhVV (wordVmulhVV o) (s.hart.sew ≤ 3) o.d o.k 1 s.hart.perReg w (fun p => (sg (x p) * sg (y p) / 2 ^ w % 2 ^ w).toNat) ∧
    VLane s (.vmulhnVV o) .vmulhnVV (wordVmulhnVV o) (s.hart.sew ≤ 3) o.d o.k 1 s.hart.perReg w (fun p => x p * y p / 2 ^ w) ∧
    VLane s (.vandVV o) .vandVV (wordVandVV o) (s.hart.sew ≤ 3) o.d o.k 1 s.hart.perReg w (fun p => x p &&& y p) ∧
    VLane s (.vorVV o) .vorVV (wordVorVV o) (s.hart.sew ≤ 3) o.d o.k 1 s.hart.perReg w (fun p => x p ||| y p) ∧
    VLane s (.vxorVV o) .vxorVV (wordVxorVV o) (s.hart.sew ≤ 3) o.d o.k 1 s.hart.perReg w (fun p => x p ^^^ y p) ∧
    VLane s (.vsllVV o) .vsllVV (wordVsllVV o) (s.hart.sew ≤ 3) o.d o.k 1 s.hart.perReg w (fun p => x p * 2 ^ (y p % w) % 2 ^ w) ∧
    VLane s (.vsrlVV o) .vsrlVV (wordVsrlVV o) (s.hart.sew ≤ 3) o.d o.k 1 s.hart.perReg w (fun p => x p / 2 ^ (y p % w)) ∧
    VLane s (.vsraVV o) .vsraVV (wordVsraVV o) (s.hart.sew ≤ 3) o.d o.k 1 s.hart.perReg w (fun p => (sg (x p) / 2 ^ (y p % w) % 2 ^ w).toNat) ∧
    VLane s (.vminVV o) .vminVV (wordVminVV o) (s.hart.sew ≤ 3) o.d o.k 1 s.hart.perReg w (fun p => if sg (y p) < sg (x p) then y p else x p) ∧
    VLane s (.vmaxVV o) .vmaxVV (wordVmaxVV o) (s.hart.sew ≤ 3) o.d o.k 1 s.hart.perReg w (fun p => if sg (x p) < sg (y p) then y p else x p) ∧
    VLane s (.vminnVV o) .vminnVV (wordVminnVV o) (s.hart.sew ≤ 3) o.d o.k 1 s.hart.perReg w (fun p => min (x p) (y p)) ∧
    VLane s (.vmaxnVV o) .vmaxnVV (wordVmaxnVV o) (s.hart.sew ≤ 3) o.d o.k 1 s.hart.perReg w (fun p => max (x p) (y p))) ∧
  (∀ o : OpDABCK, let x (p : Nat) : Nat := s.hart.el o.a w p; let y (p : Nat) : Nat := (s.hart.getX o.b).toNat % 2 ^ w
    VLane s (.vaddVX o) .vaddVX (wordVaddVX o) (s.hart.sew ≤ 3) o.d o.k 1 s.hart.perReg w (fun p => (x p + y p) % 2 ^ w) ∧
    VLane s (.vsubVX o) .vsubVX (wordVsubVX o) (s.hart.sew ≤ 3) o.d o.k 1 s.hart.perReg w (fun p => (((x p : Int) - y p) % 2 ^ w).toNat) ∧
    VLane s (.vrsubVX o) .vrsubVX (wordVrsubVX o) (s.hart.sew ≤ 3) o.d o.k 1 s.hart.perReg w (fun p => (((y p : Int) - x p) % 2 ^ w).toNat) ∧
    VLane s (.vmulVX o) .vmulVX (wordVmulVX o) (s.hart.sew ≤ 3) o.d o.k 1 s.hart.perReg w (fun p => x p * y p % 2 ^ w) ∧
    VLane s (.vmulhVX o) .vmulhVX (wordVmulhVX o) (s.hart.sew ≤ 3) o.d o.k 1 s.hart.perReg w (fun p => (sg (x p) * sg (y p) / 2 ^ w % 2 ^ w).toNat) ∧
    VLane s (.vmulhnVX o) .vmulhnVX (wordVmulhnVX o) (s.hart.sew ≤ 3) o.d o.k 1 s.hart.perReg w (fun p => x p * y p / 2 ^ w) ∧
    VLane s (.vandVX o) .vandVX (wordVandVX o) (s.hart.sew ≤ 3) o.d o.k 1 s.hart.perReg w (fun p => x p &&& y p) ∧
    VLane s (.vorVX o) .vorVX (wordVorVX o) (s.hart.sew ≤ 3) o.d o.k 1 s.hart.perReg w (fun p => x p ||| y p) ∧
    VLane s (.vxorVX o) .vxorVX (wordVxorVX o) (s.hart.sew ≤ 3) o.d o.k 1 s.hart.perReg w (fun p => x p ^^^ y p) ∧
    VLane s (.vsllVX o) .vsllVX (wordVsllVX o) (s.hart.sew ≤ 3) o.d o.k 1 s.hart.perReg w (fun p => x p * 2 ^ (y p % w) % 2 ^ w) ∧
    VLane s (.vsrlVX o) .vsrlVX (wordVsrlVX o) (s.hart.sew ≤ 3) o.d o.k 1 s.hart.perReg w (fun p => x p / 2 ^ (y p % w)) ∧
    VLane s (.vsraVX o) .vsraVX (wordVsraVX o) (s.hart.sew ≤ 3) o.d o.k 1 s.hart.perReg w (fun p => (sg (x p) / 2 ^ (y p % w) % 2 ^ w).toNat) ∧
    VLane s (.vminVX o) .vminVX (wordVminVX o) (s.hart.sew ≤ 3) o.d o.k 1 s.hart.perReg w (fun p => if sg (y p) < sg (x p) then y p else x p) ∧
    VLane s (.vmaxVX o) .vmaxVX (wordVmaxVX o) (s.hart.sew ≤ 3) o.d o.k 1 s.hart.perReg w (fun p => if sg (x p) < sg (y p) then y p else x p) ∧
    VLane s (.vminnVX o) .vminnVX (wordVminnVX o) (s.hart.sew ≤ 3) o.d o.k 1 s.hart.perReg w (fun p => min (x p) (y p)) ∧
    VLane s (.vmaxnVX o) .vmaxnVX (wordVmaxnVX o) (s.hart.sew ≤ 3) o.d o.k 1 s.hart.perReg w (fun p => max (x p) (y p))) ∧
  (∀ o : OpDAICK, let x (p : Nat) : Nat := s.hart.el o.a w p; let y (p : Nat) : Nat := (o.i.toInt % 2 ^ w).toNat
    VLane s (.vaddVI o) .vaddVI (wordVaddVI o) (s.hart.sew ≤ 3) o.d o.k 1 s.hart.perReg w (fun p => (x p + y p) % 2 ^ w) ∧
    VLane s (.vsubVI o) .vsubVI (wordVsubVI o) (s.hart.sew ≤ 3) o.d o.k 1 s.hart.perReg w (fun p => (((x p : Int) - y p) % 2 ^ w).toNat) ∧
    VLane s (.vrsubVI o) .vrsubVI (wordVrsubVI o) (s.hart.sew ≤ 3) o.d o.k 1 s.hart.perReg w (fun p => (((y p : Int) - x p) % 2 ^ w).toNat) ∧
    VLane s (.vmulVI o) .vmulVI (wordVmulVI o) (s.hart.sew ≤ 3) o.d o.k 1 s.hart.perReg w (fun p => x p * y p % 2 ^ w) ∧
    VLane s (.vmulhVI o) .vmulhVI (wordVmulhVI o) (s.hart.sew ≤ 3) o.d o.k 1 s.hart.perReg w (fun p => (sg (x p) * sg (y p) / 2 ^ w % 2 ^ w).toNat) ∧
    VLane s (.vmulhnVI o) .vmulhnVI (wordVmulhnVI o) (s.hart.sew ≤ 3) o.d o.k 1 s.hart.perReg w (fun p => x p * y p / 2 ^ w) ∧
    VLane s (.vandVI o) .vandVI (wordVandVI o) (s.hart.sew ≤ 3) o.d o.k 1 s.hart.perReg w (fun p => x p &&& y p) ∧
    VLane s (.vorVI o) .vorVI (wordVorVI o) (s.hart.sew ≤ 3) o.d o.k 1 s.hart.perReg w (fun p => x p ||| y p) ∧
    VLane s (.vxorVI o) .vxorVI (wordVxorVI o) (s.hart.sew ≤ 3) o.d o.k 1 s.hart.perReg w (fun p => x p ^^^ y p) ∧
    VLane s (.vminVI o) .vminVI (wordVminVI o) (s.hart.sew ≤ 3) o.d o.k 1 s.hart.perReg w (fun p => if sg (y p) < sg (x p) then y p else x p) ∧
    VLane s (.vmaxVI o) .vmaxVI (wordVmaxVI o) (s.hart.sew ≤ 3) o.d o.k 1 s.hart.perReg w (fun p => if sg (x p) < sg (y p) then y p else x p) ∧
    VLane s (.vminnVI o) .vminnVI (wordVminnVI o) (s.hart.sew ≤ 3) o.d o.k 1 s.hart.perReg w (fun p => min (x p) (y p)) ∧
    VLane s (.vmaxnVI o) .vmaxnVI (wordVmaxnVI o) (s.hart.sew ≤ 3) o.d o.k 1 s.hart.perReg w (fun p => max (x p) (y p))) ∧
  (∀ o : OpDAICK, let x (p : Nat) : Nat := s.hart.el o.a w p; let y (p : Nat) : Nat := o.i.toNat
    VLane s (.vsllVI o) .vsllVI (wordVsllVI o) (s.hart.sew ≤ 3) o.d o.k 1 s.hart.perReg w (fun p => x p * 2 ^ (y p % w) % 2 ^ w) ∧
    VLane s (.vsrlVI o) .vsrlVI (wordVsrlVI o) (s.hart.sew ≤ 3) o.d o.k 1 s.hart.perReg w (fun p => x p / 2 ^ (y p % w)) ∧
    VLane s (.vsraVI o) .vsraVI (wordVsraVI o) (s.hart.sew ≤ 3) o.d o.k 1 s.hart.perReg w (fun p => (sg (x p) / 2 ^ (y p % w) % 2 ^ w).toNat))

/-- O27. R172: the other integer forms. -/
def Obligations.VectorSaturatingResults : Prop :=
  ∀ s : State, s.hart.fits → let w := s.hart.width; let sg (a : Nat) : Int := sextNat w a
  (∀ o : OpDABCEK, let x (p : Nat) : Nat := s.hart.el o.a w p; let y (p : Nat) : Nat := s.hart.el o.b w p
    VLane s (.vsaddVV o) .vsaddVV (wordVsaddVV o) (s.hart.sew ≤ 3) o.d o.k 1 s.hart.perReg w (fun p => (max (-(2 ^ (w - 1))) (min (2 ^ (w - 1) - 1) (sg (x p) + sg (y p))) % 2 ^ w).toNat) ∧
    VLane s (.vssubVV o) .vssubVV (wordVssubVV o) (s.hart.sew ≤ 3) o.d o.k 1 s.hart.perReg w (fun p => (max (-(2 ^ (w - 1))) (min (2 ^ (w - 1) - 1) (sg (x p) - sg (y p))) % 2 ^ w).toNat) ∧
    VLane s (.vsaddnVV o) .vsaddnVV (wordVsaddnVV o) (s.hart.sew ≤ 3) o.d o.k 1 s.hart.perReg w (fun p => min (2 ^ w - 1) (x p + y p)) ∧
    VLane s (.vssubnVV o) .vssubnVV (wordVssubnVV o) (s.hart.sew ≤ 3) o.d o.k 1 s.hart.perReg w (fun p => x p - y p) ∧
    VLane s (.vavgVV o) .vavgVV (wordVavgVV o) (s.hart.sew ≤ 3) o.d o.k 1 s.hart.perReg w (fun p => ((sg (x p) + sg (y p) + 1) / 2 % 2 ^ w).toNat) ∧
    VLane s (.vavgnVV o) .vavgnVV (wordVavgnVV o) (s.hart.sew ≤ 3) o.d o.k 1 s.hart.perReg w (fun p => (x p + y p + 1) / 2) ∧
    VLane s (.vmaccVV o) .vmaccVV (wordVmaccVV o) (s.hart.sew ≤ 3) o.d o.k 1 s.hart.perReg w (fun p => (s.hart.el o.d w p + x p * y p) % 2 ^ w) ∧
    VLane s (.vnmsacVV o) .vnmsacVV (wordVnmsacVV o) (s.hart.sew ≤ 3) o.d o.k 1 s.hart.perReg w (fun p => (((s.hart.el o.d w p : Int) - x p * y p) % 2 ^ w).toNat)) ∧
  (∀ o : OpDABCK, let x (p : Nat) : Nat := s.hart.el o.a w p; let y (p : Nat) : Nat := (s.hart.getX o.b).toNat % 2 ^ w
    VLane s (.vsaddVX o) .vsaddVX (wordVsaddVX o) (s.hart.sew ≤ 3) o.d o.k 1 s.hart.perReg w (fun p => (max (-(2 ^ (w - 1))) (min (2 ^ (w - 1) - 1) (sg (x p) + sg (y p))) % 2 ^ w).toNat) ∧
    VLane s (.vssubVX o) .vssubVX (wordVssubVX o) (s.hart.sew ≤ 3) o.d o.k 1 s.hart.perReg w (fun p => (max (-(2 ^ (w - 1))) (min (2 ^ (w - 1) - 1) (sg (x p) - sg (y p))) % 2 ^ w).toNat) ∧
    VLane s (.vsaddnVX o) .vsaddnVX (wordVsaddnVX o) (s.hart.sew ≤ 3) o.d o.k 1 s.hart.perReg w (fun p => min (2 ^ w - 1) (x p + y p)) ∧
    VLane s (.vssubnVX o) .vssubnVX (wordVssubnVX o) (s.hart.sew ≤ 3) o.d o.k 1 s.hart.perReg w (fun p => x p - y p) ∧
    VLane s (.vavgVX o) .vavgVX (wordVavgVX o) (s.hart.sew ≤ 3) o.d o.k 1 s.hart.perReg w (fun p => ((sg (x p) + sg (y p) + 1) / 2 % 2 ^ w).toNat) ∧
    VLane s (.vavgnVX o) .vavgnVX (wordVavgnVX o) (s.hart.sew ≤ 3) o.d o.k 1 s.hart.perReg w (fun p => (x p + y p + 1) / 2) ∧
    VLane s (.vmaccVX o) .vmaccVX (wordVmaccVX o) (s.hart.sew ≤ 3) o.d o.k 1 s.hart.perReg w (fun p => (s.hart.el o.d w p + x p * y p) % 2 ^ w) ∧
    VLane s (.vnmsacVX o) .vnmsacVX (wordVnmsacVX o) (s.hart.sew ≤ 3) o.d o.k 1 s.hart.perReg w (fun p => (((s.hart.el o.d w p : Int) - x p * y p) % 2 ^ w).toNat)) ∧
  (∀ o : OpDBEK, let y (p : Nat) : Nat := s.hart.el o.b w p
    VLane s (.vabs o) .vabs (wordVabs o) (s.hart.sew ≤ 3) o.d o.k 1 s.hart.perReg w (fun p => (sg (y p)).natAbs) ∧
    VLane s (.vneg o) .vneg (wordVneg o) (s.hart.sew ≤ 3) o.d o.k 1 s.hart.perReg w (fun p => (2 ^ w - y p) % 2 ^ w) ∧
    VLane s (.vpopc o) .vpopc (wordVpopc o) (s.hart.sew ≤ 3) o.d o.k 1 s.hart.perReg w (fun p => ((List.range w).filter (fun i => (y p).testBit i)).length) ∧
    VLane s (.vclz o) .vclz (wordVclz o) (s.hart.sew ≤ 3) o.d o.k 1 s.hart.perReg w (fun p => if y p = 0 then w else w - 1 - Nat.log2 (y p)))

/-- O28. R173: vector division. -/
def Obligations.VectorDivisionResults : Prop :=
  ∀ s : State, s.hart.fits → let w := s.hart.width; let sg (a : Nat) : Int := sextNat w a
  (∀ o : OpDABCEK, let x (p : Nat) : Nat := s.hart.el o.a w p; let y (p : Nat) : Nat := s.hart.el o.b w p
    VFlagLane s (.vdivVV o) .vdivVV (wordVdivVV o) (s.hart.sew ≤ 3) o.d o.k (fun p => if y p = 0 then (2 ^ w - 1, flagIdz) else (((Int.tdiv (sg (x p)) (sg (y p))) % 2 ^ w).toNat, noFlags)) ∧
    VFlagLane s (.vdivnVV o) .vdivnVV (wordVdivnVV o) (s.hart.sew ≤ 3) o.d o.k (fun p => if y p = 0 then (2 ^ w - 1, flagIdz) else (x p / y p, noFlags)) ∧
    VFlagLane s (.vremVV o) .vremVV (wordVremVV o) (s.hart.sew ≤ 3) o.d o.k (fun p => if y p = 0 then (x p, flagIdz) else (((Int.tmod (sg (x p)) (sg (y p))) % 2 ^ w).toNat, noFlags)) ∧
    VFlagLane s (.vremnVV o) .vremnVV (wordVremnVV o) (s.hart.sew ≤ 3) o.d o.k (fun p => if y p = 0 then (x p, flagIdz) else (x p % y p, noFlags))) ∧
  (∀ o : OpDABCK, let x (p : Nat) : Nat := s.hart.el o.a w p; let y (p : Nat) : Nat := (s.hart.getX o.b).toNat % 2 ^ w
    VFlagLane s (.vdivVX o) .vdivVX (wordVdivVX o) (s.hart.sew ≤ 3) o.d o.k (fun p => if y p = 0 then (2 ^ w - 1, flagIdz) else (((Int.tdiv (sg (x p)) (sg (y p))) % 2 ^ w).toNat, noFlags)) ∧
    VFlagLane s (.vdivnVX o) .vdivnVX (wordVdivnVX o) (s.hart.sew ≤ 3) o.d o.k (fun p => if y p = 0 then (2 ^ w - 1, flagIdz) else (x p / y p, noFlags)) ∧
    VFlagLane s (.vremVX o) .vremVX (wordVremVX o) (s.hart.sew ≤ 3) o.d o.k (fun p => if y p = 0 then (x p, flagIdz) else (((Int.tmod (sg (x p)) (sg (y p))) % 2 ^ w).toNat, noFlags)) ∧
    VFlagLane s (.vremnVX o) .vremnVX (wordVremnVX o) (s.hart.sew ≤ 3) o.d o.k (fun p => if y p = 0 then (x p, flagIdz) else (x p % y p, noFlags)))

/-- O29. R174, R175: widening. R174, R176: narrowing. -/
def Obligations.VectorWidthChangeResults : Prop :=
  (∀ s : State, s.hart.fits → let w := s.hart.width; let sg (a : Nat) : Int := sextNat w a
  (∀ o : OpDABCEK, let x (p : Nat) : Nat := s.hart.el o.a w p; let y (p : Nat) : Nat := s.hart.el o.b w p
    VLane s (.vwaddVV o) .vwaddVV (wordVwaddVV o) (s.hart.sew ≤ 2) o.d o.k 2 (s.hart.perReg / 2) (2 * w) (fun p => ((sg (x p) + sg (y p)) % 2 ^ (2 * w)).toNat) ∧
    VLane s (.vwaddnVV o) .vwaddnVV (wordVwaddnVV o) (s.hart.sew ≤ 2) o.d o.k 2 (s.hart.perReg / 2) (2 * w) (fun p => x p + y p) ∧
    VLane s (.vwsubVV o) .vwsubVV (wordVwsubVV o) (s.hart.sew ≤ 2) o.d o.k 2 (s.hart.perReg / 2) (2 * w) (fun p => ((sg (x p) - sg (y p)) % 2 ^ (2 * w)).toNat) ∧
    VLane s (.vwsubnVV o) .vwsubnVV (wordVwsubnVV o) (s.hart.sew ≤ 2) o.d o.k 2 (s.hart.perReg / 2) (2 * w) (fun p => (((x p : Int) - y p) % 2 ^ (2 * w)).toNat) ∧
    VLane s (.vwmulVV o) .vwmulVV (wordVwmulVV o) (s.hart.sew ≤ 2) o.d o.k 2 (s.hart.perReg / 2) (2 * w) (fun p => ((sg (x p) * sg (y p)) % 2 ^ (2 * w)).toNat) ∧
    VLane s (.vwmulnVV o) .vwmulnVV (wordVwmulnVV o) (s.hart.sew ≤ 2) o.d o.k 2 (s.hart.perReg / 2) (2 * w) (fun p => x p * y p) ∧
    VLane s (.vwmaccVV o) .vwmaccVV (wordVwmaccVV o) (s.hart.sew ≤ 2) o.d o.k 2 (s.hart.perReg / 2) (2 * w) (fun p => ((((s.hart.elGroup o.d (s.hart.perReg / 2) (2 * w) p) : Int) + sg (x p) * sg (y p)) % 2 ^ (2 * w)).toNat) ∧
    VLane s (.vwmaccnVV o) .vwmaccnVV (wordVwmaccnVV o) (s.hart.sew ≤ 2) o.d o.k 2 (s.hart.perReg / 2) (2 * w) (fun p => ((s.hart.elGroup o.d (s.hart.perReg / 2) (2 * w) p) + x p * y p) % 2 ^ (2 * w))) ∧
  (∀ o : OpDABCK, let x (p : Nat) : Nat := s.hart.el o.a w p; let y (p : Nat) : Nat := (s.hart.getX o.b).toNat % 2 ^ w
    VLane s (.vwaddVX o) .vwaddVX (wordVwaddVX o) (s.hart.sew ≤ 2) o.d o.k 2 (s.hart.perReg / 2) (2 * w) (fun p => ((sg (x p) + sg (y p)) % 2 ^ (2 * w)).toNat) ∧
    VLane s (.vwaddnVX o) .vwaddnVX (wordVwaddnVX o) (s.hart.sew ≤ 2) o.d o.k 2 (s.hart.perReg / 2) (2 * w) (fun p => x p + y p) ∧
    VLane s (.vwsubVX o) .vwsubVX (wordVwsubVX o) (s.hart.sew ≤ 2) o.d o.k 2 (s.hart.perReg / 2) (2 * w) (fun p => ((sg (x p) - sg (y p)) % 2 ^ (2 * w)).toNat) ∧
    VLane s (.vwsubnVX o) .vwsubnVX (wordVwsubnVX o) (s.hart.sew ≤ 2) o.d o.k 2 (s.hart.perReg / 2) (2 * w) (fun p => (((x p : Int) - y p) % 2 ^ (2 * w)).toNat) ∧
    VLane s (.vwmulVX o) .vwmulVX (wordVwmulVX o) (s.hart.sew ≤ 2) o.d o.k 2 (s.hart.perReg / 2) (2 * w) (fun p => ((sg (x p) * sg (y p)) % 2 ^ (2 * w)).toNat) ∧
    VLane s (.vwmulnVX o) .vwmulnVX (wordVwmulnVX o) (s.hart.sew ≤ 2) o.d o.k 2 (s.hart.perReg / 2) (2 * w) (fun p => x p * y p) ∧
    VLane s (.vwmaccVX o) .vwmaccVX (wordVwmaccVX o) (s.hart.sew ≤ 2) o.d o.k 2 (s.hart.perReg / 2) (2 * w) (fun p => ((((s.hart.elGroup o.d (s.hart.perReg / 2) (2 * w) p) : Int) + sg (x p) * sg (y p)) % 2 ^ (2 * w)).toNat) ∧
    VLane s (.vwmaccnVX o) .vwmaccnVX (wordVwmaccnVX o) (s.hart.sew ≤ 2) o.d o.k 2 (s.hart.perReg / 2) (2 * w) (fun p => ((s.hart.elGroup o.d (s.hart.perReg / 2) (2 * w) p) + x p * y p) % 2 ^ (2 * w)))) ∧
  (∀ s : State, s.hart.fits → let w := s.hart.width; let sg (a : Nat) : Int := sextNat w a
  let r (a : Int) (n : Nat) : Int := if a % 2 ^ n * 2 < 2 ^ n then a / 2 ^ n else if 2 ^ n < a % 2 ^ n * 2 then a / 2 ^ n + 1 else if a / 2 ^ n % 2 = 0 then a / 2 ^ n else a / 2 ^ n + 1
  (∀ o : OpDABCEK, let x (p : Nat) : Nat := s.hart.el o.a w p; let y (p : Nat) : Nat := s.hart.el o.b w p
    VLane s (.vnsrlVV o) .vnsrlVV (wordVnsrlVV o) (s.hart.sew ≤ 2) o.d o.k 1 s.hart.perReg w (fun p => (s.hart.elGroup o.a (s.hart.perReg / 2) (2 * w) p) / 2 ^ (y p % (2 * w)) % 2 ^ w) ∧
    VLane s (.vnsraVV o) .vnsraVV (wordVnsraVV o) (s.hart.sew ≤ 2) o.d o.k 1 s.hart.perReg w (fun p => (sextNat (2 * w) (s.hart.elGroup o.a (s.hart.perReg / 2) (2 * w) p) / 2 ^ (y p % (2 * w)) % 2 ^ w).toNat) ∧
    VLane s (.vnclipVV o) .vnclipVV (wordVnclipVV o) (s.hart.sew ≤ 2) o.d o.k 1 s.hart.perReg w (fun p => (max (-(2 ^ (w - 1))) (min (2 ^ (w - 1) - 1) (r (sextNat (2 * w) (s.hart.elGroup o.a (s.hart.perReg / 2) (2 * w) p)) (y p % (2 * w)))) % 2 ^ w).toNat) ∧
    VLane s (.vnclipnVV o) .vnclipnVV (wordVnclipnVV o) (s.hart.sew ≤ 2) o.d o.k 1 s.hart.perReg w (fun p => (min (2 ^ w - 1) (r ((s.hart.elGroup o.a (s.hart.perReg / 2) (2 * w) p) : Int) (y p % (2 * w)))).toNat)) ∧
  (∀ o : OpDABCK, let x (p : Nat) : Nat := s.hart.el o.a w p; let y (p : Nat) : Nat := (s.hart.getX o.b).toNat % 2 ^ w
    VLane s (.vnsrlVX o) .vnsrlVX (wordVnsrlVX o) (s.hart.sew ≤ 2) o.d o.k 1 s.hart.perReg w (fun p => (s.hart.elGroup o.a (s.hart.perReg / 2) (2 * w) p) / 2 ^ (y p % (2 * w)) % 2 ^ w) ∧
    VLane s (.vnsraVX o) .vnsraVX (wordVnsraVX o) (s.hart.sew ≤ 2) o.d o.k 1 s.hart.perReg w (fun p => (sextNat (2 * w) (s.hart.elGroup o.a (s.hart.perReg / 2) (2 * w) p) / 2 ^ (y p % (2 * w)) % 2 ^ w).toNat) ∧
    VLane s (.vnclipVX o) .vnclipVX (wordVnclipVX o) (s.hart.sew ≤ 2) o.d o.k 1 s.hart.perReg w (fun p => (max (-(2 ^ (w - 1))) (min (2 ^ (w - 1) - 1) (r (sextNat (2 * w) (s.hart.elGroup o.a (s.hart.perReg / 2) (2 * w) p)) (y p % (2 * w)))) % 2 ^ w).toNat) ∧
    VLane s (.vnclipnVX o) .vnclipnVX (wordVnclipnVX o) (s.hart.sew ≤ 2) o.d o.k 1 s.hart.perReg w (fun p => (min (2 ^ w - 1) (r ((s.hart.elGroup o.a (s.hart.perReg / 2) (2 * w) p) : Int) (y p % (2 * w)))).toNat)))

/-- O30. R177, R178: element-wise floating point. The operations are those of `Numbers.lean`, each an exact value rounded once. R177: the fused vector forms. -/
def Obligations.VectorFpResults : Prop :=
  (∀ s : State, s.hart.fits → let w := s.hart.width; let F := s.hart.fmt; let E := s.hart.vecEnv s.hart.dynRm; let R (a : Nat) : FVal := readFp F E a
  (∀ o : OpDABCEK, let x (p : Nat) : Nat := s.hart.el o.a w p; let y (p : Nat) : Nat := s.hart.el o.b w p
    VFlagLane s (.vfaddVV o) .vfaddVV (wordVfaddVV o) (s.hart.sew ≤ 3) o.d o.k (fun p => fpAddV F E (R (x p)) (R (y p))) ∧
    VFlagLane s (.vfsubVV o) .vfsubVV (wordVfsubVV o) (s.hart.sew ≤ 3) o.d o.k (fun p => fpAddV F E (R (x p)) (R (y p)).negate) ∧
    VFlagLane s (.vfrsubVV o) .vfrsubVV (wordVfrsubVV o) (s.hart.sew ≤ 3) o.d o.k (fun p => fpAddV F E (R (y p)) (R (x p)).negate) ∧
    VFlagLane s (.vfmulVV o) .vfmulVV (wordVfmulVV o) (s.hart.sew ≤ 3) o.d o.k (fun p => fpMulV F E (R (x p)) (R (y p))) ∧
    VFlagLane s (.vfdivVV o) .vfdivVV (wordVfdivVV o) (s.hart.sew ≤ 3) o.d o.k (fun p => fpDivV F E (R (x p)) (R (y p))) ∧
    VFlagLane s (.vfrdivVV o) .vfrdivVV (wordVfrdivVV o) (s.hart.sew ≤ 3) o.d o.k (fun p => fpDivV F E (R (y p)) (R (x p))) ∧
    VFlagLane s (.vfminVV o) .vfminVV (wordVfminVV o) (s.hart.sew ≤ 3) o.d o.k (fun p => fpMinMaxV F E false (R (x p)) (R (y p))) ∧
    VFlagLane s (.vfmaxVV o) .vfmaxVV (wordVfmaxVV o) (s.hart.sew ≤ 3) o.d o.k (fun p => fpMinMaxV F E true (R (x p)) (R (y p))) ∧
    VFlagLane s (.vfsgnjVV o) .vfsgnjVV (wordVfsgnjVV o) (s.hart.sew ≤ 3) o.d o.k (fun p => (fpSgnj F .same (x p) (y p), noFlags)) ∧
    VFlagLane s (.vfsgnjnVV o) .vfsgnjnVV (wordVfsgnjnVV o) (s.hart.sew ≤ 3) o.d o.k (fun p => (fpSgnj F .inv (x p) (y p), noFlags)) ∧
    VFlagLane s (.vfsgnjxVV o) .vfsgnjxVV (wordVfsgnjxVV o) (s.hart.sew ≤ 3) o.d o.k (fun p => (fpSgnj F .xor (x p) (y p), noFlags))) ∧
  (∀ o : OpDABCK, let x (p : Nat) : Nat := s.hart.el o.a w p; let y (p : Nat) : Nat := (s.hart.getX o.b).toNat % 2 ^ w
    VFlagLane s (.vfaddVX o) .vfaddVX (wordVfaddVX o) (s.hart.sew ≤ 3) o.d o.k (fun p => fpAddV F E (R (x p)) (R (y p))) ∧
    VFlagLane s (.vfsubVX o) .vfsubVX (wordVfsubVX o) (s.hart.sew ≤ 3) o.d o.k (fun p => fpAddV F E (R (x p)) (R (y p)).negate) ∧
    VFlagLane s (.vfrsubVX o) .vfrsubVX (wordVfrsubVX o) (s.hart.sew ≤ 3) o.d o.k (fun p => fpAddV F E (R (y p)) (R (x p)).negate) ∧
    VFlagLane s (.vfmulVX o) .vfmulVX (wordVfmulVX o) (s.hart.sew ≤ 3) o.d o.k (fun p => fpMulV F E (R (x p)) (R (y p))) ∧
    VFlagLane s (.vfdivVX o) .vfdivVX (wordVfdivVX o) (s.hart.sew ≤ 3) o.d o.k (fun p => fpDivV F E (R (x p)) (R (y p))) ∧
    VFlagLane s (.vfrdivVX o) .vfrdivVX (wordVfrdivVX o) (s.hart.sew ≤ 3) o.d o.k (fun p => fpDivV F E (R (y p)) (R (x p))) ∧
    VFlagLane s (.vfminVX o) .vfminVX (wordVfminVX o) (s.hart.sew ≤ 3) o.d o.k (fun p => fpMinMaxV F E false (R (x p)) (R (y p))) ∧
    VFlagLane s (.vfmaxVX o) .vfmaxVX (wordVfmaxVX o) (s.hart.sew ≤ 3) o.d o.k (fun p => fpMinMaxV F E true (R (x p)) (R (y p))) ∧
    VFlagLane s (.vfsgnjVX o) .vfsgnjVX (wordVfsgnjVX o) (s.hart.sew ≤ 3) o.d o.k (fun p => (fpSgnj F .same (x p) (y p), noFlags)) ∧
    VFlagLane s (.vfsgnjnVX o) .vfsgnjnVX (wordVfsgnjnVX o) (s.hart.sew ≤ 3) o.d o.k (fun p => (fpSgnj F .inv (x p) (y p), noFlags)) ∧
    VFlagLane s (.vfsgnjxVX o) .vfsgnjxVX (wordVfsgnjxVX o) (s.hart.sew ≤ 3) o.d o.k (fun p => (fpSgnj F .xor (x p) (y p), noFlags)))) ∧
  (∀ s : State, s.hart.fits → let w := s.hart.width; let F := s.hart.fmt; let E := s.hart.vecEnv s.hart.dynRm; let R (a : Nat) : FVal := readFp F E a
  (∀ o : OpDABCEK, let x (p : Nat) : Nat := s.hart.el o.a w p; let y (p : Nat) : Nat := s.hart.el o.b w p
    VFlagLane s (.vfmaVV o) .vfmaVV (wordVfmaVV o) (s.hart.sew ≤ 3) o.d o.k (fun p => fpFmaV F E (R (x p)) (R (y p)) (R (s.hart.el o.d w p))) ∧
    VFlagLane s (.vfmsVV o) .vfmsVV (wordVfmsVV o) (s.hart.sew ≤ 3) o.d o.k (fun p => fpFmaV F E (R (x p)) (R (y p)) (R (s.hart.el o.d w p)).negate) ∧
    VFlagLane s (.vfnmaVV o) .vfnmaVV (wordVfnmaVV o) (s.hart.sew ≤ 3) o.d o.k (fun p => fpFmaV F E (R (x p)).negate (R (y p)) (R (s.hart.el o.d w p)).negate) ∧
    VFlagLane s (.vfnmsVV o) .vfnmsVV (wordVfnmsVV o) (s.hart.sew ≤ 3) o.d o.k (fun p => fpFmaV F E (R (x p)).negate (R (y p)) (R (s.hart.el o.d w p)))) ∧
  (∀ o : OpDABCK, let x (p : Nat) : Nat := s.hart.el o.a w p; let y (p : Nat) : Nat := (s.hart.getX o.b).toNat % 2 ^ w
    VFlagLane s (.vfmaVX o) .vfmaVX (wordVfmaVX o) (s.hart.sew ≤ 3) o.d o.k (fun p => fpFmaV F E (R (x p)) (R (y p)) (R (s.hart.el o.d w p))) ∧
    VFlagLane s (.vfmsVX o) .vfmsVX (wordVfmsVX o) (s.hart.sew ≤ 3) o.d o.k (fun p => fpFmaV F E (R (x p)) (R (y p)) (R (s.hart.el o.d w p)).negate) ∧
    VFlagLane s (.vfnmaVX o) .vfnmaVX (wordVfnmaVX o) (s.hart.sew ≤ 3) o.d o.k (fun p => fpFmaV F E (R (x p)).negate (R (y p)) (R (s.hart.el o.d w p)).negate) ∧
    VFlagLane s (.vfnmsVX o) .vfnmsVX (wordVfnmsVX o) (s.hart.sew ≤ 3) o.d o.k (fun p => fpFmaV F E (R (x p)).negate (R (y p)) (R (s.hart.el o.d w p)))))

/-- O31. R179 to R181: unary forms and special functions. That VFCLASS at SEW 8 writes the class cut to 8 bits, though R179 names its bit 9, is the model's reading (log 35). -/
def Obligations.VectorFpUnaryResults : Prop :=
  ∀ s : State, s.hart.fits → let w := s.hart.width; let F := s.hart.fmt
  (∀ o : OpDBEKR, let y (p : Nat) : Nat := s.hart.el o.b w p; let V := s.hart.vecEnv (if o.r.getLsbD 3 then RMode.ofCode (o.r.toNat % 8) else s.hart.dynRm);
    VFlagLane s (.vfsqrt o) .vfsqrt (wordVfsqrt o) (s.hart.sew ≤ 3) o.d o.k (fun p => fpSqrtV F V (readFp F V (y p))) ∧
    VFlagLane s (.vfrcp o) .vfrcp (wordVfrcp o) (s.hart.sew = 1 ∨ s.hart.sew = 2) o.d o.k (fun p => fpSpecial F V .rcp (y p)) ∧
    VFlagLane s (.vfrsq o) .vfrsq (wordVfrsq o) (s.hart.sew = 1 ∨ s.hart.sew = 2) o.d o.k (fun p => fpSpecial F V .rsq (y p)) ∧
    VFlagLane s (.vfexp2 o) .vfexp2 (wordVfexp2 o) (s.hart.sew = 1 ∨ s.hart.sew = 2) o.d o.k (fun p => fpSpecial F V .exp2 (y p)) ∧
    VFlagLane s (.vflog2 o) .vflog2 (wordVflog2 o) (s.hart.sew = 1 ∨ s.hart.sew = 2) o.d o.k (fun p => fpSpecial F V .log2 (y p)) ∧
    VFlagLane s (.vfsinp o) .vfsinp (wordVfsinp o) (s.hart.sew = 1 ∨ s.hart.sew = 2) o.d o.k (fun p => fpSpecial F V .sinp (y p)) ∧
    VFlagLane s (.vfcosp o) .vfcosp (wordVfcosp o) (s.hart.sew = 1 ∨ s.hart.sew = 2) o.d o.k (fun p => fpSpecial F V .cosp (y p)) ∧
    VFlagLane s (.vftanh o) .vftanh (wordVftanh o) (s.hart.sew = 1 ∨ s.hart.sew = 2) o.d o.k (fun p => fpSpecial F V .tanh (y p)) ∧
    VFlagLane s (.vfround o) .vfround (wordVfround o) (s.hart.sew ≤ 3) o.d o.k (fun p => fpIntegral F V (y p)) ∧
    VFlagLane s (.vfabs o) .vfabs (wordVfabs o) (s.hart.sew ≤ 3) o.d o.k (fun p => (fpAbs F (y p), noFlags)) ∧
    VFlagLane s (.vfneg o) .vfneg (wordVfneg o) (s.hart.sew ≤ 3) o.d o.k (fun p => (fpNegCode F (y p), noFlags)) ∧
    VFlagLane s (.vfclass o) .vfclass (wordVfclass o) (s.hart.sew ≤ 3) o.d o.k (fun p => (fpClass F (y p), noFlags)) ∧
    VFlagLane s (.vffloor o) .vffloor (wordVffloor o) (s.hart.sew ≤ 3) o.d o.k (fun p => fpIntegral F (s.hart.vecEnv .rdn) (y p)) ∧
    VFlagLane s (.vfceil o) .vfceil (wordVfceil o) (s.hart.sew ≤ 3) o.d o.k (fun p => fpIntegral F (s.hart.vecEnv .rup) (y p)))

/-- O32. R182: conversions. -/
def Obligations.VectorConversionResults : Prop :=
  ∀ s : State, s.hart.fits → let w := s.hart.width
  (∀ o : OpDBEKSR, let y (p : Nat) : Nat := s.hart.el o.b w p
    VFlagLane s (.vcvtI32F32 o) .vcvtI32F32 (wordVcvtI32F32 o) (w = 32) o.d o.k (fun p => let E := s.hart.cvtEnv (if o.r = 7#3 then s.hart.dynRm else RMode.ofCode o.r.toNat) ((o.s == 1#1) || s.hart.sat) (s.hart.getX 2#5) p; s.hart.cvtWrite E .i32 (s.hart.cvtRead E .f32 (y p))) ∧
    VFlagLane s (.vcvtN32F32 o) .vcvtN32F32 (wordVcvtN32F32 o) (w = 32) o.d o.k (fun p => let E := s.hart.cvtEnv (if o.r = 7#3 then s.hart.dynRm else RMode.ofCode o.r.toNat) ((o.s == 1#1) || s.hart.sat) (s.hart.getX 2#5) p; s.hart.cvtWrite E .n32 (s.hart.cvtRead E .f32 (y p))) ∧
    VFlagLane s (.vcvtF32I32 o) .vcvtF32I32 (wordVcvtF32I32 o) (w = 32) o.d o.k (fun p => let E := s.hart.cvtEnv (if o.r = 7#3 then s.hart.dynRm else RMode.ofCode o.r.toNat) ((o.s == 1#1) || s.hart.sat) (s.hart.getX 2#5) p; s.hart.cvtWrite E .f32 (s.hart.cvtRead E .i32 (y p))) ∧
    VFlagLane s (.vcvtF32N32 o) .vcvtF32N32 (wordVcvtF32N32 o) (w = 32) o.d o.k (fun p => let E := s.hart.cvtEnv (if o.r = 7#3 then s.hart.dynRm else RMode.ofCode o.r.toNat) ((o.s == 1#1) || s.hart.sat) (s.hart.getX 2#5) p; s.hart.cvtWrite E .f32 (s.hart.cvtRead E .n32 (y p))) ∧
    VFlagLane s (.vcvtI64F64 o) .vcvtI64F64 (wordVcvtI64F64 o) (w = 64) o.d o.k (fun p => let E := s.hart.cvtEnv (if o.r = 7#3 then s.hart.dynRm else RMode.ofCode o.r.toNat) ((o.s == 1#1) || s.hart.sat) (s.hart.getX 2#5) p; s.hart.cvtWrite E .i64 (s.hart.cvtRead E .f64 (y p))) ∧
    VFlagLane s (.vcvtN64F64 o) .vcvtN64F64 (wordVcvtN64F64 o) (w = 64) o.d o.k (fun p => let E := s.hart.cvtEnv (if o.r = 7#3 then s.hart.dynRm else RMode.ofCode o.r.toNat) ((o.s == 1#1) || s.hart.sat) (s.hart.getX 2#5) p; s.hart.cvtWrite E .n64 (s.hart.cvtRead E .f64 (y p))) ∧
    VFlagLane s (.vcvtF64I64 o) .vcvtF64I64 (wordVcvtF64I64 o) (w = 64) o.d o.k (fun p => let E := s.hart.cvtEnv (if o.r = 7#3 then s.hart.dynRm else RMode.ofCode o.r.toNat) ((o.s == 1#1) || s.hart.sat) (s.hart.getX 2#5) p; s.hart.cvtWrite E .f64 (s.hart.cvtRead E .i64 (y p))) ∧
    VFlagLane s (.vcvtF64N64 o) .vcvtF64N64 (wordVcvtF64N64 o) (w = 64) o.d o.k (fun p => let E := s.hart.cvtEnv (if o.r = 7#3 then s.hart.dynRm else RMode.ofCode o.r.toNat) ((o.s == 1#1) || s.hart.sat) (s.hart.getX 2#5) p; s.hart.cvtWrite E .f64 (s.hart.cvtRead E .n64 (y p))) ∧
    VFlagLane s (.vcvtF64F32 o) .vcvtF64F32 (wordVcvtF64F32 o) (w = 64) o.d o.k (fun p => let E := s.hart.cvtEnv (if o.r = 7#3 then s.hart.dynRm else RMode.ofCode o.r.toNat) ((o.s == 1#1) || s.hart.sat) (s.hart.getX 2#5) p; s.hart.cvtWrite E .f64 (s.hart.cvtRead E .f32 (y p))) ∧
    VFlagLane s (.vcvtF32F64 o) .vcvtF32F64 (wordVcvtF32F64 o) (w = 64) o.d o.k (fun p => let E := s.hart.cvtEnv (if o.r = 7#3 then s.hart.dynRm else RMode.ofCode o.r.toNat) ((o.s == 1#1) || s.hart.sat) (s.hart.getX 2#5) p; s.hart.cvtWrite E .f32 (s.hart.cvtRead E .f64 (y p))) ∧
    VFlagLane s (.vcvtHF32 o) .vcvtHF32 (wordVcvtHF32 o) (w = 32) o.d o.k (fun p => let E := s.hart.cvtEnv (if o.r = 7#3 then s.hart.rm else RMode.ofCode o.r.toNat) ((o.s == 1#1) || s.hart.sat) (s.hart.getX 2#5) p; s.hart.cvtWrite E .h (s.hart.cvtRead E .f32 (y p))) ∧
    VFlagLane s (.vcvtBfF32 o) .vcvtBfF32 (wordVcvtBfF32 o) (w = 32) o.d o.k (fun p => let E := s.hart.cvtEnv (if o.r = 7#3 then s.hart.rm else RMode.ofCode o.r.toNat) ((o.s == 1#1) || s.hart.sat) (s.hart.getX 2#5) p; s.hart.cvtWrite E .bf (s.hart.cvtRead E .f32 (y p))) ∧
    VFlagLane s (.vcvtF32H o) .vcvtF32H (wordVcvtF32H o) (w = 32) o.d o.k (fun p => let E := s.hart.cvtEnv (if o.r = 7#3 then s.hart.dynRm else RMode.ofCode o.r.toNat) ((o.s == 1#1) || s.hart.sat) (s.hart.getX 2#5) p; s.hart.cvtWrite E .f32 (s.hart.cvtRead E .h (y p))) ∧
    VFlagLane s (.vcvtF32Bf o) .vcvtF32Bf (wordVcvtF32Bf o) (w = 32) o.d o.k (fun p => let E := s.hart.cvtEnv (if o.r = 7#3 then s.hart.dynRm else RMode.ofCode o.r.toNat) ((o.s == 1#1) || s.hart.sat) (s.hart.getX 2#5) p; s.hart.cvtWrite E .f32 (s.hart.cvtRead E .bf (y p))) ∧
    VFlagLane s (.vcvtB8F32 o) .vcvtB8F32 (wordVcvtB8F32 o) (w = 32) o.d o.k (fun p => let E := s.hart.cvtEnv (if o.r = 7#3 then s.hart.rm else RMode.ofCode o.r.toNat) ((o.s == 1#1) || s.hart.sat) (s.hart.getX 2#5) p; s.hart.cvtWrite E .b8 (s.hart.cvtRead E .f32 (y p))) ∧
    VFlagLane s (.vcvtF32B8 o) .vcvtF32B8 (wordVcvtF32B8 o) (w = 32) o.d o.k (fun p => let E := s.hart.cvtEnv (if o.r = 7#3 then s.hart.dynRm else RMode.ofCode o.r.toNat) ((o.s == 1#1) || s.hart.sat) (s.hart.getX 2#5) p; s.hart.cvtWrite E .f32 (s.hart.cvtRead E .b8 (y p))) ∧
    VFlagLane s (.vcvtB8H o) .vcvtB8H (wordVcvtB8H o) (w = 16) o.d o.k (fun p => let E := s.hart.cvtEnv (if o.r = 7#3 then s.hart.rm else RMode.ofCode o.r.toNat) ((o.s == 1#1) || s.hart.sat) (s.hart.getX 2#5) p; s.hart.cvtWrite E .b8 (s.hart.cvtRead E .h (y p))) ∧
    VFlagLane s (.vcvtHB8 o) .vcvtHB8 (wordVcvtHB8 o) (w = 16) o.d o.k (fun p => let E := s.hart.cvtEnv (if o.r = 7#3 then s.hart.rm else RMode.ofCode o.r.toNat) ((o.s == 1#1) || s.hart.sat) (s.hart.getX 2#5) p; s.hart.cvtWrite E .h (s.hart.cvtRead E .b8 (y p))) ∧
    VFlagLane s (.vcvtB8Bf o) .vcvtB8Bf (wordVcvtB8Bf o) (w = 16) o.d o.k (fun p => let E := s.hart.cvtEnv (if o.r = 7#3 then s.hart.rm else RMode.ofCode o.r.toNat) ((o.s == 1#1) || s.hart.sat) (s.hart.getX 2#5) p; s.hart.cvtWrite E .b8 (s.hart.cvtRead E .bf (y p))) ∧
    VFlagLane s (.vcvtBfB8 o) .vcvtBfB8 (wordVcvtBfB8 o) (w = 16) o.d o.k (fun p => let E := s.hart.cvtEnv (if o.r = 7#3 then s.hart.rm else RMode.ofCode o.r.toNat) ((o.s == 1#1) || s.hart.sat) (s.hart.getX 2#5) p; s.hart.cvtWrite E .bf (s.hart.cvtRead E .b8 (y p))) ∧
    VFlagLane s (.vcvtE4F32 o) .vcvtE4F32 (wordVcvtE4F32 o) (w = 32) o.d o.k (fun p => let E := s.hart.cvtEnv (if o.r = 7#3 then s.hart.rm else RMode.ofCode o.r.toNat) ((o.s == 1#1) || s.hart.sat) (s.hart.getX 2#5) p; s.hart.cvtWrite E .e4 (s.hart.cvtRead E .f32 (y p))) ∧
    VFlagLane s (.vcvtF32E4 o) .vcvtF32E4 (wordVcvtF32E4 o) (w = 32) o.d o.k (fun p => let E := s.hart.cvtEnv (if o.r = 7#3 then s.hart.dynRm else RMode.ofCode o.r.toNat) ((o.s == 1#1) || s.hart.sat) (s.hart.getX 2#5) p; s.hart.cvtWrite E .f32 (s.hart.cvtRead E .e4 (y p))) ∧
    VFlagLane s (.vcvtHE4 o) .vcvtHE4 (wordVcvtHE4 o) (w = 16) o.d o.k (fun p => let E := s.hart.cvtEnv (if o.r = 7#3 then s.hart.rm else RMode.ofCode o.r.toNat) ((o.s == 1#1) || s.hart.sat) (s.hart.getX 2#5) p; s.hart.cvtWrite E .h (s.hart.cvtRead E .e4 (y p))) ∧
    VFlagLane s (.vcvtQ4F32 o) .vcvtQ4F32 (wordVcvtQ4F32 o) (w = 32) o.d o.k (fun p => let E := s.hart.cvtEnv (if o.r = 7#3 then s.hart.dynRm else RMode.ofCode o.r.toNat) ((o.s == 1#1) || s.hart.sat) (s.hart.getX 2#5) p; s.hart.cvtWrite E .q4 (s.hart.cvtRead E .f32 (y p))) ∧
    VFlagLane s (.vcvtF32Q4 o) .vcvtF32Q4 (wordVcvtF32Q4 o) (w = 32) o.d o.k (fun p => let E := s.hart.cvtEnv (if o.r = 7#3 then s.hart.dynRm else RMode.ofCode o.r.toNat) ((o.s == 1#1) || s.hart.sat) (s.hart.getX 2#5) p; s.hart.cvtWrite E .f32 (s.hart.cvtRead E .q4 (y p))) ∧
    VFlagLane s (.vcvtHQ4 o) .vcvtHQ4 (wordVcvtHQ4 o) (w = 16) o.d o.k (fun p => let E := s.hart.cvtEnv (if o.r = 7#3 then s.hart.rm else RMode.ofCode o.r.toNat) ((o.s == 1#1) || s.hart.sat) (s.hart.getX 2#5) p; s.hart.cvtWrite E .h (s.hart.cvtRead E .q4 (y p))))

/-- O33. R183: compares. -/
def Obligations.VectorCompareResults : Prop :=
  ∀ s : State, s.hart.fits → let w := s.hart.width; let sg (a : Nat) : Int := sextNat w a
  (∀ o : OpD3ABCEK, let x (p : Nat) : Nat := s.hart.el o.a w p; let y (p : Nat) : Nat := s.hart.el o.b w p
    VMaskLane s (.vcmpEqVV o) .vcmpEqVV (wordVcmpEqVV o) (s.hart.sew ≤ 3) o.d o.k (fun p => (x p == y p, noFlags)) ∧
    VMaskLane s (.vcmpNeVV o) .vcmpNeVV (wordVcmpNeVV o) (s.hart.sew ≤ 3) o.d o.k (fun p => (x p != y p, noFlags)) ∧
    VMaskLane s (.vcmpLtVV o) .vcmpLtVV (wordVcmpLtVV o) (s.hart.sew ≤ 3) o.d o.k (fun p => (decide (sg (x p) < sg (y p)), noFlags)) ∧
    VMaskLane s (.vcmpLeVV o) .vcmpLeVV (wordVcmpLeVV o) (s.hart.sew ≤ 3) o.d o.k (fun p => (decide (sg (x p) ≤ sg (y p)), noFlags)) ∧
    VMaskLane s (.vcmpLtnVV o) .vcmpLtnVV (wordVcmpLtnVV o) (s.hart.sew ≤ 3) o.d o.k (fun p => (decide (x p < y p), noFlags)) ∧
    VMaskLane s (.vcmpLenVV o) .vcmpLenVV (wordVcmpLenVV o) (s.hart.sew ≤ 3) o.d o.k (fun p => (decide (x p ≤ y p), noFlags)) ∧
    VMaskLane s (.vcmpGtVV o) .vcmpGtVV (wordVcmpGtVV o) (s.hart.sew ≤ 3) o.d o.k (fun p => (decide (sg (y p) < sg (x p)), noFlags)) ∧
    VMaskLane s (.vcmpGeVV o) .vcmpGeVV (wordVcmpGeVV o) (s.hart.sew ≤ 3) o.d o.k (fun p => (decide (sg (y p) ≤ sg (x p)), noFlags)) ∧
    VMaskLane s (.vcmpFeqVV o) .vcmpFeqVV (wordVcmpFeqVV o) (s.hart.sew ≤ 3) o.d o.k (fun p => fpCompare s.hart.fmt (s.hart.vecEnv s.hart.dynRm) .feq (x p) (y p)) ∧
    VMaskLane s (.vcmpFneVV o) .vcmpFneVV (wordVcmpFneVV o) (s.hart.sew ≤ 3) o.d o.k (fun p => fpCompare s.hart.fmt (s.hart.vecEnv s.hart.dynRm) .fne (x p) (y p)) ∧
    VMaskLane s (.vcmpFltVV o) .vcmpFltVV (wordVcmpFltVV o) (s.hart.sew ≤ 3) o.d o.k (fun p => fpCompare s.hart.fmt (s.hart.vecEnv s.hart.dynRm) .flt (x p) (y p)) ∧
    VMaskLane s (.vcmpFleVV o) .vcmpFleVV (wordVcmpFleVV o) (s.hart.sew ≤ 3) o.d o.k (fun p => fpCompare s.hart.fmt (s.hart.vecEnv s.hart.dynRm) .fle (x p) (y p)) ∧
    VMaskLane s (.vcmpFgtVV o) .vcmpFgtVV (wordVcmpFgtVV o) (s.hart.sew ≤ 3) o.d o.k (fun p => fpCompare s.hart.fmt (s.hart.vecEnv s.hart.dynRm) .fgt (x p) (y p)) ∧
    VMaskLane s (.vcmpFgeVV o) .vcmpFgeVV (wordVcmpFgeVV o) (s.hart.sew ≤ 3) o.d o.k (fun p => fpCompare s.hart.fmt (s.hart.vecEnv s.hart.dynRm) .fge (x p) (y p)) ∧
    VMaskLane s (.vcmpFunordVV o) .vcmpFunordVV (wordVcmpFunordVV o) (s.hart.sew ≤ 3) o.d o.k (fun p => fpCompare s.hart.fmt (s.hart.vecEnv s.hart.dynRm) .funord (x p) (y p)) ∧
    VMaskLane s (.vcmpFordVV o) .vcmpFordVV (wordVcmpFordVV o) (s.hart.sew ≤ 3) o.d o.k (fun p => fpCompare s.hart.fmt (s.hart.vecEnv s.hart.dynRm) .ford (x p) (y p))) ∧
  (∀ o : OpD3ABCK, let x (p : Nat) : Nat := s.hart.el o.a w p; let y (p : Nat) : Nat := (s.hart.getX o.b).toNat % 2 ^ w
    VMaskLane s (.vcmpEqVX o) .vcmpEqVX (wordVcmpEqVX o) (s.hart.sew ≤ 3) o.d o.k (fun p => (x p == y p, noFlags)) ∧
    VMaskLane s (.vcmpNeVX o) .vcmpNeVX (wordVcmpNeVX o) (s.hart.sew ≤ 3) o.d o.k (fun p => (x p != y p, noFlags)) ∧
    VMaskLane s (.vcmpLtVX o) .vcmpLtVX (wordVcmpLtVX o) (s.hart.sew ≤ 3) o.d o.k (fun p => (decide (sg (x p) < sg (y p)), noFlags)) ∧
    VMaskLane s (.vcmpLeVX o) .vcmpLeVX (wordVcmpLeVX o) (s.hart.sew ≤ 3) o.d o.k (fun p => (decide (sg (x p) ≤ sg (y p)), noFlags)) ∧
    VMaskLane s (.vcmpLtnVX o) .vcmpLtnVX (wordVcmpLtnVX o) (s.hart.sew ≤ 3) o.d o.k (fun p => (decide (x p < y p), noFlags)) ∧
    VMaskLane s (.vcmpLenVX o) .vcmpLenVX (wordVcmpLenVX o) (s.hart.sew ≤ 3) o.d o.k (fun p => (decide (x p ≤ y p), noFlags)) ∧
    VMaskLane s (.vcmpGtVX o) .vcmpGtVX (wordVcmpGtVX o) (s.hart.sew ≤ 3) o.d o.k (fun p => (decide (sg (y p) < sg (x p)), noFlags)) ∧
    VMaskLane s (.vcmpGeVX o) .vcmpGeVX (wordVcmpGeVX o) (s.hart.sew ≤ 3) o.d o.k (fun p => (decide (sg (y p) ≤ sg (x p)), noFlags)) ∧
    VMaskLane s (.vcmpFeqVX o) .vcmpFeqVX (wordVcmpFeqVX o) (s.hart.sew ≤ 3) o.d o.k (fun p => fpCompare s.hart.fmt (s.hart.vecEnv s.hart.dynRm) .feq (x p) (y p)) ∧
    VMaskLane s (.vcmpFneVX o) .vcmpFneVX (wordVcmpFneVX o) (s.hart.sew ≤ 3) o.d o.k (fun p => fpCompare s.hart.fmt (s.hart.vecEnv s.hart.dynRm) .fne (x p) (y p)) ∧
    VMaskLane s (.vcmpFltVX o) .vcmpFltVX (wordVcmpFltVX o) (s.hart.sew ≤ 3) o.d o.k (fun p => fpCompare s.hart.fmt (s.hart.vecEnv s.hart.dynRm) .flt (x p) (y p)) ∧
    VMaskLane s (.vcmpFleVX o) .vcmpFleVX (wordVcmpFleVX o) (s.hart.sew ≤ 3) o.d o.k (fun p => fpCompare s.hart.fmt (s.hart.vecEnv s.hart.dynRm) .fle (x p) (y p)) ∧
    VMaskLane s (.vcmpFgtVX o) .vcmpFgtVX (wordVcmpFgtVX o) (s.hart.sew ≤ 3) o.d o.k (fun p => fpCompare s.hart.fmt (s.hart.vecEnv s.hart.dynRm) .fgt (x p) (y p)) ∧
    VMaskLane s (.vcmpFgeVX o) .vcmpFgeVX (wordVcmpFgeVX o) (s.hart.sew ≤ 3) o.d o.k (fun p => fpCompare s.hart.fmt (s.hart.vecEnv s.hart.dynRm) .fge (x p) (y p)) ∧
    VMaskLane s (.vcmpFunordVX o) .vcmpFunordVX (wordVcmpFunordVX o) (s.hart.sew ≤ 3) o.d o.k (fun p => fpCompare s.hart.fmt (s.hart.vecEnv s.hart.dynRm) .funord (x p) (y p)) ∧
    VMaskLane s (.vcmpFordVX o) .vcmpFordVX (wordVcmpFordVX o) (s.hart.sew ≤ 3) o.d o.k (fun p => fpCompare s.hart.fmt (s.hart.vecEnv s.hart.dynRm) .ford (x p) (y p)))

/-- O34. R186, R190: mask logic and `VMERGE`. -/
def Obligations.MaskLogicResults : Prop :=
  ∀ s : State, s.hart.fits → let w := s.hart.width
  let M (r : KReg) (p : Nat) : Bool := if r = 0#3 then decide (p < 8192) else (s.hart.getK r).getLsbD p
  (∀ o : OpD3A3B3CEK,
    VMaskLane s (.kand o) .kand (wordKand o) (True) o.d o.k (fun p => (M o.a p && M o.b p, noFlags)) ∧
    VMaskLane s (.kor o) .kor (wordKor o) (True) o.d o.k (fun p => (M o.a p || M o.b p, noFlags)) ∧
    VMaskLane s (.kxor o) .kxor (wordKxor o) (True) o.d o.k (fun p => (M o.a p != M o.b p, noFlags)) ∧
    VMaskLane s (.kandn o) .kandn (wordKandn o) (True) o.d o.k (fun p => (M o.a p && !(M o.b p), noFlags))) ∧
  (∀ o : OpD3B3EK,
    VMaskLane s (.knot o) .knot (wordKnot o) (True) o.d o.k (fun p => (!(M o.b p), noFlags)) ∧
    VMaskLane s (.kmov o) .kmov (wordKmov o) (True) o.d o.k (fun p => (M o.b p, noFlags))) ∧
  (∀ o : OpDABCEK, VReady s .vmerge (wordVmerge o) → ∃ t, exec (.vmerge o) s = .next t ∧
    VToV s t o.d 1 s.hart.perReg w (fun p => decide (s.hart.vstart ≤ p ∧ p < s.hart.count)) (fun p => if M o.k p then s.hart.el o.b w p else s.hart.el o.a w p) noFlags)

/-- O35. R187 to R189, R193: between masks, x registers and elements. -/
def Obligations.MaskTransferResults : Prop :=
  ∀ s : State, s.hart.fits → let w := s.hart.width; let per := s.hart.perReg
  (∀ o : OpDB3EK, let S := (s.hart.activeList o.k).filter (fun p => s.hart.mask o.b p)
    (VReady s .kpop (wordKpop o) → s.hart.vstart = 0 → ∃ t, exec (.kpop o) s = .next t ∧ VToX s t o.d (BitVec.ofNat 64 S.length)) ∧
    (VReady s .kfirst (wordKfirst o) → s.hart.vstart = 0 → ∃ t, exec (.kfirst o) s = .next t ∧ VToX s t o.d (match S with | p :: _ => BitVec.ofNat 64 p | [] => BitVec.allOnes 64)) ∧
    (VReady s .kiota (wordKiota o) → s.hart.vstart = 0 → s.hart.sew ≤ 3 → ∃ t, exec (.kiota o) s = .next t ∧
      VToV s t o.d 1 per w (s.hart.active o.k) (fun p => (S.filter (fun q => decide (q < p))).length % 2 ^ w) noFlags)) ∧
  (∀ o : OpD3ABK,
    (VReady s .ksetx (wordKsetx o) → ∃ t, exec (.ksetx o) s = .next t ∧
      VToK s t o.d (fun p => s.hart.active o.k p && decide (p / 64 = (s.hart.getX o.a).toNat)) (fun p => (s.hart.getX o.b).getLsbD (p % 64)) noFlags)) ∧
  (∀ o : OpDABC,
    (VReady s .vextract (wordVextract o) → s.hart.vstart = 0 → s.hart.sew ≤ 3 → ∃ t, exec (.vextract o) s = .next t ∧ VToX s t o.d (if s.hart.count = 0 then 0#64 else if (s.hart.getX o.b).toNat < per then BitVec.ofInt 64 (sextNat w (s.hart.el o.a w (s.hart.getX o.b).toNat)) else 0#64))) ∧
  (∀ o : OpDAB,
    (VReady s .vinsert (wordVinsert o) → s.hart.sew ≤ 3 → ∃ t, exec (.vinsert o) s = .next t ∧
      VToV s t o.d 1 per w (fun p => decide (p = (s.hart.getX o.a).toNat ∧ s.hart.vstart ≤ p ∧ p < s.hart.count)) (fun _ => (s.hart.getX o.b).toNat % 2 ^ w) noFlags))

/-- O36. R191 to R196: cross-lane instructions. -/
def Obligations.CrossLaneResults : Prop :=
  ∀ s : State, s.hart.fits → let w := s.hart.width; let per := s.hart.perReg
  (∀ o : OpDBEK, let l := s.hart.activeList o.k; 
    (VReady s .vcompress (wordVcompress o) → s.hart.vstart = 0 → ∃ t, exec (.vcompress o) s = .next t ∧
      VToV s t o.d 1 per w (fun p => decide (p < l.length)) (fun p => s.hart.el o.b w (l.getD p 0)) noFlags)) ∧
  (∀ o : OpDBEK, let l := s.hart.activeList o.k; 
    (VReady s .vexpand (wordVexpand o) → s.hart.vstart = 0 → ∃ t, exec (.vexpand o) s = .next t ∧
      VToV s t o.d 1 per w (s.hart.active o.k) (fun p => s.hart.el o.b w (l.filter (fun q => decide (q < p))).length) noFlags)) ∧
  (∀ o : OpDABCK,
    (VReady s .vslideup (wordVslideup o) → s.hart.vstart = 0 → ∃ t, exec (.vslideup o) s = .next t ∧
      VToV s t o.d 1 per w (fun p => s.hart.active o.k p && decide ((s.hart.getX o.b).toNat ≤ p)) (fun p => s.hart.el o.a w (p - (s.hart.getX o.b).toNat)) noFlags)) ∧
  (∀ o : OpDABCK,
    (VReady s .vslidedn (wordVslidedn o) → s.hart.vstart = 0 → ∃ t, exec (.vslidedn o) s = .next t ∧
      VToV s t o.d 1 per w (s.hart.active o.k) (fun p => (if p + (s.hart.getX o.b).toNat < per then s.hart.el o.a w (p + (s.hart.getX o.b).toNat) else 0)) noFlags)) ∧
  (∀ o : OpDABCEK,
    (VReady s .vpermv (wordVpermv o) → s.hart.vstart = 0 → ∃ t, exec (.vpermv o) s = .next t ∧
      VToV s t o.d 1 per w (s.hart.active o.k) (fun p => (if (if s.hart.sew = 4 then s.hart.el o.b w p % 2 ^ 32 else s.hart.el o.b w p) < per then s.hart.el o.a w ((if s.hart.sew = 4 then s.hart.el o.b w p % 2 ^ 32 else s.hart.el o.b w p)) else 0)) noFlags)) ∧
  (∀ o : OpDABCK,
    (VReady s .vbcast (wordVbcast o) → s.hart.vstart = 0 → ∃ t, exec (.vbcast o) s = .next t ∧
      VToV s t o.d 1 per w (s.hart.active o.k) (fun _ => (if (s.hart.getX o.b).toNat < per then s.hart.el o.a w ((s.hart.getX o.b).toNat) else 0)) noFlags)) ∧
  (∀ o : OpDABCEK,
    (VReady s .vilv (wordVilv o) → s.hart.vstart = 0 → ∃ t, exec (.vilv o) s = .next t ∧
      VToV s t o.d 2 per w (fun q => s.hart.active o.k (q / 2)) (fun q => s.hart.el (if q % 2 = 0 then o.a else o.b) w (q / 2)) noFlags)) ∧
  (∀ o : OpDACK,
    (VReady s .vdilv (wordVdilv o) → s.hart.vstart = 0 → ∃ t, exec (.vdilv o) s = .next t ∧
      VToV s t o.d 2 per w (fun q => s.hart.active o.k (q % per)) (fun q => s.hart.elGroup o.a per w (if q < per then 2 * q else 2 * (q - per) + 1)) noFlags)) ∧
  (∀ o : OpDK,
    (VReady s .vid (wordVid o) → s.hart.sew ≤ 3 → ∃ t, exec (.vid o) s = .next t ∧
      VToV s t o.d 1 per w (s.hart.active o.k) (fun p => p % 2 ^ w) noFlags)) ∧
  (∀ o : OpDAK,
    (VReady s .vrand (wordVrand o) → s.hart.sew ≤ 3 → ∃ t, exec (.vrand o) s = .next t ∧
      VToV s t o.d 1 per w (s.hart.active o.k) (fun p => let r := philox s.hart.csr.rkey (s.hart.getX o.a + BitVec.ofNat 64 p); (r.1.toNat + r.2.1.toNat * 2 ^ 32) % 2 ^ w) noFlags)) ∧
  (∀ o : OpDBEK,
    (VReady s .vmvV (wordVmvV o) → True → ∃ t, exec (.vmvV o) s = .next t ∧
      VToV s t o.d 1 per w (s.hart.active o.k) (fun p => s.hart.el o.b w p) noFlags)) ∧
  (∀ o : OpDBK,
    (VReady s .vmvX (wordVmvX o) → s.hart.sew ≤ 3 → ∃ t, exec (.vmvX o) s = .next t ∧
      VToV s t o.d 1 per w (s.hart.active o.k) (fun _ => (s.hart.getX o.b).toNat % 2 ^ w) noFlags))

/-- O37. R197, R198, R166: reductions. -/
def Obligations.ReductionResults : Prop :=
  ∀ (s : State) (o : OpDABCEK), s.hart.fits → let w := s.hart.width; let per := s.hart.perReg; let l := s.hart.activeList o.k
  let F := s.hart.fmt; let E := s.hart.vecEnv s.hart.dynRm
  (VReady s .vredsum (wordVredsum o) → s.hart.vstart = 0 → s.hart.sew ≤ 3 → ∃ t, exec (.vredsum o) s = .next t ∧
      VToV s t o.d 1 per w (fun p => decide (p = 0) && !l.isEmpty) (fun _ => l.foldl (fun a p => let b := s.hart.el o.b w p; (a + b) % 2 ^ w) (s.hart.el o.a w 0)) noFlags) ∧
  (VReady s .vredmin (wordVredmin o) → s.hart.vstart = 0 → s.hart.sew ≤ 3 → ∃ t, exec (.vredmin o) s = .next t ∧
      VToV s t o.d 1 per w (fun p => decide (p = 0) && !l.isEmpty) (fun _ => l.foldl (fun a p => let b := s.hart.el o.b w p; if sextNat w b < sextNat w a then b else a) (s.hart.el o.a w 0)) noFlags) ∧
  (VReady s .vredmax (wordVredmax o) → s.hart.vstart = 0 → s.hart.sew ≤ 3 → ∃ t, exec (.vredmax o) s = .next t ∧
      VToV s t o.d 1 per w (fun p => decide (p = 0) && !l.isEmpty) (fun _ => l.foldl (fun a p => let b := s.hart.el o.b w p; if sextNat w a < sextNat w b then b else a) (s.hart.el o.a w 0)) noFlags) ∧
  (VReady s .vredminn (wordVredminn o) → s.hart.vstart = 0 → s.hart.sew ≤ 3 → ∃ t, exec (.vredminn o) s = .next t ∧
      VToV s t o.d 1 per w (fun p => decide (p = 0) && !l.isEmpty) (fun _ => l.foldl (fun a p => let b := s.hart.el o.b w p; min a b) (s.hart.el o.a w 0)) noFlags) ∧
  (VReady s .vredmaxn (wordVredmaxn o) → s.hart.vstart = 0 → s.hart.sew ≤ 3 → ∃ t, exec (.vredmaxn o) s = .next t ∧
      VToV s t o.d 1 per w (fun p => decide (p = 0) && !l.isEmpty) (fun _ => l.foldl (fun a p => let b := s.hart.el o.b w p; max a b) (s.hart.el o.a w 0)) noFlags) ∧
  (VReady s .vredand (wordVredand o) → s.hart.vstart = 0 → s.hart.sew ≤ 3 → ∃ t, exec (.vredand o) s = .next t ∧
      VToV s t o.d 1 per w (fun p => decide (p = 0) && !l.isEmpty) (fun _ => l.foldl (fun a p => let b := s.hart.el o.b w p; a &&& b) (s.hart.el o.a w 0)) noFlags) ∧
  (VReady s .vredor (wordVredor o) → s.hart.vstart = 0 → s.hart.sew ≤ 3 → ∃ t, exec (.vredor o) s = .next t ∧
      VToV s t o.d 1 per w (fun p => decide (p = 0) && !l.isEmpty) (fun _ => l.foldl (fun a p => let b := s.hart.el o.b w p; a ||| b) (s.hart.el o.a w 0)) noFlags) ∧
  (VReady s .vredxor (wordVredxor o) → s.hart.vstart = 0 → s.hart.sew ≤ 3 → ∃ t, exec (.vredxor o) s = .next t ∧
      VToV s t o.d 1 per w (fun p => decide (p = 0) && !l.isEmpty) (fun _ => l.foldl (fun a p => let b := s.hart.el o.b w p; a ^^^ b) (s.hart.el o.a w 0)) noFlags) ∧
  (VReady s .vwsum (wordVwsum o) → s.hart.vstart = 0 → s.hart.sew ≤ 2 → ∃ t, exec (.vwsum o) s = .next t ∧
      VToV s t o.d 1 (per / 2) (2 * w) (fun p => decide (p = 0) && !l.isEmpty) (fun _ => l.foldl (fun a p => ((sextNat (2 * w) a + sextNat w (s.hart.el o.b w p)) % 2 ^ (2 * w)).toNat) (s.hart.el o.a (2 * w) 0)) noFlags) ∧
  (let r := (fpSum F E s.hart.la (s.hart.el o.a w 0) ((countFrom 0 s.hart.count).map (fun p => if s.hart.mask o.k p then some (s.hart.el o.b w p) else none)));
      (VReady s .vfsum (wordVfsum o) → s.hart.vstart = 0 → s.hart.sew ≤ 3 → (l = [] ∨ enabledCause s.hart.fen r.2 = none) → ∃ t, exec (.vfsum o) s = .next t ∧
      VToV s t o.d 1 per w (fun p => decide (p = 0) && !l.isEmpty) (fun _ => r.1) (if l.isEmpty then noFlags else r.2))) ∧
  (let r := (fpSumOrdered F E s.hart.la (s.hart.el o.a w 0) ((countFrom 0 s.hart.count).map (fun p => if s.hart.mask o.k p then some (s.hart.el o.b w p) else none)));
      (VReady s .vfsumo (wordVfsumo o) → s.hart.vstart = 0 → s.hart.sew ≤ 3 → (l = [] ∨ enabledCause s.hart.fen r.2 = none) → ∃ t, exec (.vfsumo o) s = .next t ∧
      VToV s t o.d 1 per w (fun p => decide (p = 0) && !l.isEmpty) (fun _ => r.1) (if l.isEmpty then noFlags else r.2))) ∧
  (let r := (fpRedMinMax false F E s.hart.la (s.hart.el o.a w 0) ((countFrom 0 s.hart.count).map (fun p => if s.hart.mask o.k p then some (s.hart.el o.b w p) else none)));
      (VReady s .vfredmin (wordVfredmin o) → s.hart.vstart = 0 → s.hart.sew ≤ 3 → (l = [] ∨ enabledCause s.hart.fen r.2 = none) → ∃ t, exec (.vfredmin o) s = .next t ∧
      VToV s t o.d 1 per w (fun p => decide (p = 0) && !l.isEmpty) (fun _ => r.1) (if l.isEmpty then noFlags else r.2))) ∧
  (let r := (fpRedMinMax true F E s.hart.la (s.hart.el o.a w 0) ((countFrom 0 s.hart.count).map (fun p => if s.hart.mask o.k p then some (s.hart.el o.b w p) else none)));
      (VReady s .vfredmax (wordVfredmax o) → s.hart.vstart = 0 → s.hart.sew ≤ 3 → (l = [] ∨ enabledCause s.hart.fen r.2 = none) → ∃ t, exec (.vfredmax o) s = .next t ∧
      VToV s t o.d 1 per w (fun p => decide (p = 0) && !l.isEmpty) (fun _ => r.1) (if l.isEmpty then noFlags else r.2)))

/-- O38. R199, R200: bit strings and the ternary logic of test firmware. -/
def Obligations.BitStringResults : Prop :=
  ∀ s : State, s.hart.fits → let w := s.hart.width; let per := s.hart.perReg; let b := s.hart.count * w
  let S (r : Reg) : Nat := (s.hart.getV r).toNat % 2 ^ b
  (∀ o : OpDABCK, let n := (s.hart.getX o.b).toNat
    (let T := S o.a * 2 ^ n % 2 ^ b;
      (VReady s .vbshl (wordVbshl o) → s.hart.vstart = 0 → ∃ t, exec (.vbshl o) s = .next t ∧
      VToV s t o.d 1 per w (s.hart.active o.k) (fun p => T / 2 ^ (w * p) % 2 ^ w) noFlags)) ∧
    (let T := S o.a / 2 ^ n;
      (VReady s .vbshr (wordVbshr o) → s.hart.vstart = 0 → ∃ t, exec (.vbshr o) s = .next t ∧
      VToV s t o.d 1 per w (s.hart.active o.k) (fun p => T / 2 ^ (w * p) % 2 ^ w) noFlags)) ∧
    (let T := (S o.a * 2 ^ b + S o.d) / 2 ^ n % 2 ^ b;
      (VReady s .vbfun (wordVbfun o) → s.hart.vstart = 0 → ∃ t, exec (.vbfun o) s = .next t ∧
      VToV s t o.d 1 per w (s.hart.active o.k) (fun p => T / 2 ^ (w * p) % 2 ^ w) noFlags))) ∧
  (∀ o : OpDABI, let z (x j : Nat) : Nat := (1 - x / 2 ^ j % 2)
    (VReady s .vternlog (wordVternlog o) → True → ∃ t, exec (.vternlog o) s = .next t ∧
      VToV s t o.d 1 per w (fun p => decide (s.hart.vstart ≤ p ∧ p < s.hart.count)) (fun p => (List.range w).foldl (fun acc j => acc + (if o.i.getLsbD (4 * z (s.hart.el o.d w p) j + 2 * z (s.hart.el o.a w p) j + z (s.hart.el o.b w p) j) then 2 ^ j else 0)) 0) noFlags))

/-- O39. R226, R228, R229, R231: vector loads. -/
def Obligations.VectorLoadResults : Prop :=
  ∀ s : State, s.hart.fits → let w := s.hart.width; let per := s.hart.perReg; let n := w / 8
  (∀ o : OpDAOK, let b0 := (s.hart.getX o.a).toNat; let addr (p : Nat) : Nat := (b0 + p * n) % 2 ^ 64
    ∀ pa : Nat → Nat, VReady s .vld (wordVld o) → VReaches s o.k addr pa n .load true → ∃ t, exec (.vld o) s = .next t ∧
      VToV s (t.uncached s) o.d 1 per w (s.hart.active o.k) (fun p => s.mem.readN (pa p) n) noFlags) ∧
  (∀ o : OpDABOK, let b0 := (s.hart.getX o.a).toNat; let addr (p : Nat) : Nat := (((b0 : Int) + p * (s.hart.getX o.b).toInt) % 2 ^ 64).toNat
    ∀ pa : Nat → Nat, VReady s .vlds (wordVlds o) → VReaches s o.k addr pa n .load true → ∃ t, exec (.vlds o) s = .next t ∧
      VToV s (t.uncached s) o.d 1 per w (s.hart.active o.k) (fun p => s.mem.readN (pa p) n) noFlags) ∧
  (∀ o : OpDABCOK, let b0 := (s.hart.getX o.a).toNat; let addr (p : Nat) : Nat := (b0 + s.hart.el o.b w p % 2 ^ 64) % 2 ^ 64
    ∀ pa : Nat → Nat, VReady s .vldx (wordVldx o) → VReaches s o.k addr pa n .load true → ∃ t, exec (.vldx o) s = .next t ∧
      VToV s (t.uncached s) o.d 1 per w (s.hart.active o.k) (fun p => s.mem.readN (pa p) n) noFlags) ∧
  (∀ o : OpDA, let b0 := (s.hart.getX o.a).toNat
    ∀ pa : Nat → Nat, VReady s .vldReg (wordVldReg o) → b0 % 8 = 0 → s.hart.bridle = [] → s.ulines = [] → s.hart.group = none →
      (∀ p, s.hart.vstart ≤ p → p < s.hart.vlmax / 64 → ∃ leaf, s.access ((b0 + p * 8) % 2 ^ 64) 8 8 .load true = .ok (.phys (pa p) leaf) s) →
      ∃ t, exec (.vldReg o) s = .next t ∧ VToV s (t.uncached s) o.d 1 (s.hart.vlmax / 64) 64 (fun p => decide (s.hart.vstart ≤ p ∧ p < s.hart.vlmax / 64)) (fun p => s.mem.readN (pa p) 8) noFlags) ∧
  (∀ o : OpDABCK, let b0 := (s.hart.getX o.a).toNat; let addr (p : Nat) : Nat := (b0 + s.hart.el o.b w p % 2 ^ 64) % 2 ^ 64
    ∀ pa : Nat → Nat, VReady s .vgll (wordVgll o) → s.hart.sew ≤ 3 → VReaches s o.k addr pa n .load false → ∃ t, exec (.vgll o) s = .next t ∧
      VToV s (t.uncached s) o.d 1 per w (s.hart.active o.k) (fun p => s.mem.readN (pa p) n) noFlags ∧
      (∀ p, s.hart.active o.k p = true → (∀ q, p < q → s.hart.active o.k q = false) → t.linked (pa p / 128) = true)) ∧
  (∀ o : OpDABK, let b0 := (s.hart.getX o.a).toNat; let c0 := (s.hart.getX o.b).toNat
    ∀ pa pb : Nat → Nat, let g (p : Nat) : Nat × Flags := (let E := s.hart.cvtEnv s.hart.rm s.hart.sat (s.hart.getX 2#5) p; if (s.mem.readN (pb p) 1) = 255 then deliverNan fmtH flagNv else fpMulV fmtH E (readFp fmtE4 E (s.mem.readN (pa p) 1)) (.fin false 1 (((s.mem.readN (pb p) 1) : Int) - 127)))
    VReady s .vldwE4H (wordVldwE4H o) → w = 16 → VReaches s o.k (fun p => (b0 + p) % 2 ^ 64) pa 1 .load true →
    VReaches s o.k (fun p => (c0 + p / 32 * 1) % 2 ^ 64) pb 1 .load true → s.hart.noTrap o.k (fun p => (g p).2) →
    ∃ t, exec (.vldwE4H o) s = .next t ∧ VToV s (t.uncached s) o.d 1 per w (s.hart.active o.k) (fun p => (g p).1) (s.hart.flagsOf o.k (fun p => (g p).2))) ∧
  (∀ o : OpDABK, let b0 := (s.hart.getX o.a).toNat; let c0 := (s.hart.getX o.b).toNat
    ∀ pa pb : Nat → Nat, let g (p : Nat) : Nat × Flags := (let E := s.hart.cvtEnv s.hart.rm s.hart.sat (s.hart.getX 2#5) p; if (s.mem.readN (pb p) 1) = 255 then deliverNan fmtBf flagNv else fpMulV fmtBf E (readFp fmtE4 E (s.mem.readN (pa p) 1)) (.fin false 1 (((s.mem.readN (pb p) 1) : Int) - 127)))
    VReady s .vldwE4Bf (wordVldwE4Bf o) → w = 16 → VReaches s o.k (fun p => (b0 + p) % 2 ^ 64) pa 1 .load true →
    VReaches s o.k (fun p => (c0 + p / 32 * 1) % 2 ^ 64) pb 1 .load true → s.hart.noTrap o.k (fun p => (g p).2) →
    ∃ t, exec (.vldwE4Bf o) s = .next t ∧ VToV s (t.uncached s) o.d 1 per w (s.hart.active o.k) (fun p => (g p).1) (s.hart.flagsOf o.k (fun p => (g p).2))) ∧
  (∀ o : OpDABK, let b0 := (s.hart.getX o.a).toNat; let c0 := (s.hart.getX o.b).toNat
    ∀ pa pb : Nat → Nat, let g (p : Nat) : Nat × Flags := (let E := s.hart.cvtEnv s.hart.rm s.hart.sat (s.hart.getX 2#5) p; if (s.mem.readN (pb p) 1) = 255 then deliverNan s.hart.fmtB8 flagNv else fpMulV s.hart.fmtB8 E (readFp fmtE4 E (s.mem.readN (pa p) 1)) (.fin false 1 (((s.mem.readN (pb p) 1) : Int) - 127)))
    VReady s .vldwE4B8 (wordVldwE4B8 o) → w = 8 → VReaches s o.k (fun p => (b0 + p) % 2 ^ 64) pa 1 .load true →
    VReaches s o.k (fun p => (c0 + p / 32 * 1) % 2 ^ 64) pb 1 .load true → s.hart.noTrap o.k (fun p => (g p).2) →
    ∃ t, exec (.vldwE4B8 o) s = .next t ∧ VToV s (t.uncached s) o.d 1 per w (s.hart.active o.k) (fun p => (g p).1) (s.hart.flagsOf o.k (fun p => (g p).2))) ∧
  (∀ o : OpDABK, let b0 := (s.hart.getX o.a).toNat; let c0 := (s.hart.getX o.b).toNat
    ∀ pa pb : Nat → Nat, let g (p : Nat) : Nat × Flags := (let E := s.hart.cvtEnv s.hart.rm s.hart.sat (s.hart.getX 2#5) p; match readFp fmtH E (s.mem.readN (pb p) 2) with | .nan _ => deliverNan fmtH flagNv | v => fpMulV fmtH E (q4Val ((s.mem.readN (pa p) 1) / 16 ^ (p % 2))) v)
    VReady s .vldwQ4H (wordVldwQ4H o) → w = 16 → VReaches s o.k (fun p => (b0 + p / 2) % 2 ^ 64) pa 1 .load true →
    VReaches s o.k (fun p => (c0 + p / 32 * 2) % 2 ^ 64) pb 2 .load true → s.hart.noTrap o.k (fun p => (g p).2) →
    ∃ t, exec (.vldwQ4H o) s = .next t ∧ VToV s (t.uncached s) o.d 1 per w (s.hart.active o.k) (fun p => (g p).1) (s.hart.flagsOf o.k (fun p => (g p).2))) ∧
  (∀ o : OpDABK, let b0 := (s.hart.getX o.a).toNat; let c0 := (s.hart.getX o.b).toNat
    ∀ pa pb : Nat → Nat, let g (p : Nat) : Nat × Flags := (let E := s.hart.cvtEnv s.hart.rm s.hart.sat (s.hart.getX 2#5) p; match readFp fmtH E (s.mem.readN (pb p) 2) with | .nan _ => deliverNan fmtBf flagNv | v => fpMulV fmtBf E (q4Val ((s.mem.readN (pa p) 1) / 16 ^ (p % 2))) v)
    VReady s .vldwQ4Bf (wordVldwQ4Bf o) → w = 16 → VReaches s o.k (fun p => (b0 + p / 2) % 2 ^ 64) pa 1 .load true →
    VReaches s o.k (fun p => (c0 + p / 32 * 2) % 2 ^ 64) pb 2 .load true → s.hart.noTrap o.k (fun p => (g p).2) →
    ∃ t, exec (.vldwQ4Bf o) s = .next t ∧ VToV s (t.uncached s) o.d 1 per w (s.hart.active o.k) (fun p => (g p).1) (s.hart.flagsOf o.k (fun p => (g p).2))) ∧
  (∀ o : OpDABK, let b0 := (s.hart.getX o.a).toNat; let c0 := (s.hart.getX o.b).toNat
    ∀ pa pb : Nat → Nat, let g (p : Nat) : Nat × Flags := (let E := s.hart.cvtEnv s.hart.rm s.hart.sat (s.hart.getX 2#5) p; match readFp fmtH E (s.mem.readN (pb p) 2) with | .nan _ => deliverNan s.hart.fmtB8 flagNv | v => fpMulV s.hart.fmtB8 E (q4Val ((s.mem.readN (pa p) 1) / 16 ^ (p % 2))) v)
    VReady s .vldwQ4B8 (wordVldwQ4B8 o) → w = 8 → VReaches s o.k (fun p => (b0 + p / 2) % 2 ^ 64) pa 1 .load true →
    VReaches s o.k (fun p => (c0 + p / 32 * 2) % 2 ^ 64) pb 2 .load true → s.hart.noTrap o.k (fun p => (g p).2) →
    ∃ t, exec (.vldwQ4B8 o) s = .next t ∧ VToV s (t.uncached s) o.d 1 per w (s.hart.active o.k) (fun p => (g p).1) (s.hart.flagsOf o.k (fun p => (g p).2)))

/-- O40. R226, R228: vector stores. R230: scatter-conditional. A line that leaves the stable cache at a store of a lower element loses its link (R229); which line that is, is the model's choice (logs 14, 104). -/
def Obligations.VectorStoreResults : Prop :=
  (∀ s : State, s.hart.fits → MemOk s → let w := s.hart.width; let n := w / 8
  (∀ o : OpDACOK, let b0 := (s.hart.getX o.a).toNat; let addr (p : Nat) : Nat := (b0 + p * n) % 2 ^ 64
    ∀ pa : Nat → Nat, VReady s .vst (wordVst o) → VReaches s o.k addr pa n .store true → ∃ t, exec (.vst o) s = .next t ∧ VStoreDone s t 4 ∧ t.hart.k = s.hart.k ∧
      MemWritten s t (s.hart.active o.k) pa (fun p => s.hart.el o.d w p) n) ∧
  (∀ o : OpDABCOK, let b0 := (s.hart.getX o.a).toNat; let addr (p : Nat) : Nat := (((b0 : Int) + p * (s.hart.getX o.b).toInt) % 2 ^ 64).toNat
    ∀ pa : Nat → Nat, VReady s .vsts (wordVsts o) → VReaches s o.k addr pa n .store true → ∃ t, exec (.vsts o) s = .next t ∧ VStoreDone s t 4 ∧ t.hart.k = s.hart.k ∧
      MemWritten s t (s.hart.active o.k) pa (fun p => s.hart.el o.d w p) n) ∧
  (∀ o : OpDABCOK, let b0 := (s.hart.getX o.a).toNat; let addr (p : Nat) : Nat := (b0 + s.hart.el o.b w p % 2 ^ 64) % 2 ^ 64
    ∀ pa : Nat → Nat, VReady s .vstx (wordVstx o) → VReaches s o.k addr pa n .store true → ∃ t, exec (.vstx o) s = .next t ∧ VStoreDone s t 4 ∧ t.hart.k = s.hart.k ∧
      MemWritten s t (s.hart.active o.k) pa (fun p => s.hart.el o.d w p) n) ∧
  (∀ o : OpDAC, let b0 := (s.hart.getX o.a).toNat
    ∀ pa : Nat → Nat, VReady s .vstReg (wordVstReg o) → b0 % 8 = 0 → s.hart.bridle = [] → s.ulines = [] → s.hart.group = none →
      (∀ p, s.hart.vstart ≤ p → p < s.hart.vlmax / 64 → ∃ leaf, s.access ((b0 + p * 8) % 2 ^ 64) 8 8 .store true = .ok (.phys (pa p) leaf) s) →
      ∃ t, exec (.vstReg o) s = .next t ∧ VStoreDone s t 4 ∧ t.hart.k = s.hart.k ∧
        MemWritten s t (fun p => decide (s.hart.vstart ≤ p ∧ p < s.hart.vlmax / 64)) pa (fun p => s.hart.el o.d 64 p) 8)) ∧
  ((∀ (s : State) (o : OpDABCK) (pa : Nat → Nat), s.hart.fits → MemOk s → let w := s.hart.width; let n := w / 8
    let b0 := (s.hart.getX o.a).toNat; let addr (p : Nat) : Nat := (b0 + s.hart.el o.b w p % 2 ^ 64) % 2 ^ 64
    let first (p : Nat) : Bool := s.hart.active o.k p && s.linked (pa p / 128) && !((s.hart.activeList o.k).any (fun q => decide (q < p) && decide (addr q = addr p)))
    let stands (line : Nat) : Prop := devLine line = true ∧ homeDie line = s.hart.die ∧ s.stays s.coh 0 line = false ∧
      s.coh.holds (2304 + s.hart.stable) line = true ∧ s.coh.holds (2592 + s.hart.die) line = true
    VReady s .vscc (wordVscc o) → o.k ≠ 0#3 → s.hart.sew ≤ 3 → VReaches s o.k addr pa n .store false →
    ∃ (t : State) (win : Nat → Bool), exec (.vscc o) s = .next t ∧ VStoreDone s t 4 ∧
      (∀ p, win p = true → first p = true) ∧
      ((∀ p, s.hart.active o.k p = true → s.linked (pa p / 128) = true → stands (pa p / 128)) → ∀ p, win p = first p) ∧
      MemWritten s t win pa (fun p => s.hart.el o.d w p) n ∧
      (∀ p, (t.hart.getK o.k).getLsbD p = if s.hart.active o.k p then !(win p) else (s.hart.getK o.k).getLsbD p) ∧
      (∀ r, r ≠ o.k → t.hart.getK r = s.hart.getK r) ∧
      (∀ l ∈ t.coh.links, l.hart ≠ t.hart.id)) ∧
  (∀ w : BitVec 32, w.extractLsb' 0 8 = 0x6A#8 → w.extractLsb' 25 3 = 0#3 → decode (w.setWidth 64) = .error .function))

/-- O41. R245 to R258: position instructions. `resolve`, `target` and `xform` read the frame table (R239 to R250). -/
def Obligations.PositionResults : Prop :=
  ∀ s : State, s.hart.fits → let per := s.hart.perReg
  (∀ o : OpDBEK,
    (VReady s .gtag (wordGtag o) → s.hart.sew = 4 → ∃ t, exec (.gtag o) s = .next t ∧ VToV s t o.d 1 per 32 (s.hart.active o.k) (fun p => (s.hart.pos o.b p).tag) noFlags)) ∧
  (∀ o : OpDABCEK,
    (VReady s .gpack (wordGpack o) → s.hart.sew = 4 → ∃ t, exec (.gpack o) s = .next t ∧ VToV s t o.d 1 per 128 (s.hart.active o.k) (fun p => packPos [s.hart.el o.a 32 p, s.hart.el (o.a + 1#5) 32 p, s.hart.el (o.a + 2#5) 32 p] (s.hart.el o.b 32 p)) noFlags)) ∧
  (∀ o : OpDABCK,
    (VReady s .gsettag (wordGsettag o) → s.hart.sew = 4 → ∃ t, exec (.gsettag o) s = .next t ∧ VToV s t o.d 1 per 128 (s.hart.active o.k) (fun p => packPos (s.hart.pos o.a p).c ((s.hart.getX o.b).toNat % 2 ^ 32)) noFlags)) ∧
  (∀ o : OpDBEK, VReady s .gunpack (wordGunpack o) → s.hart.sew = 4 → ∃ t, exec (.gunpack o) s = .next t ∧
      VToV s t o.d 3 per 32 (fun q => s.hart.active o.k (q % per)) (fun q => (s.hart.pos o.b (q % per)).c.getD (q / per) 0) noFlags) ∧
  (∀ o : OpDABCK, let x := (s.hart.getX o.b).toNat; let d (c : Nat) : Int := if c = 3 then -1 else c
    VReady s .gnbr (wordGnbr o) → s.hart.sew = 3 → x % 4 ≠ 2 → x / 4 % 4 ≠ 2 → x / 16 % 4 ≠ 2 → x / 64 % 4 = 0 → x / 256 % 32 ≤ 20 → x / 2 ^ 13 = 0 → ∃ t, exec (.gnbr o) s = .next t ∧
      VToV s t o.d 1 s.hart.perReg 64 (s.hart.active o.k) (fun p => neighbour (s.hart.el o.a 64 p) (x / 256 % 32) (d (x % 4)) (d (x / 4 % 4)) (d (x / 16 % 4))) noFlags) ∧
  (∀ o : OpDBEK, let a (p : Nat) := s.hart.pos o.b p
    let g (p : Nat) : Nat × Flags := (let e := exactSum ((countFrom 0 3).map (fun k => exactMul (fmtF32.decode ((a p).c.getD k 0)) (fmtF32.decode ((a p).c.getD k 0)))); let r := fpSqrtV fmtF32 (FpEnv.scalar .rne) e.1; (r.1, e.2 ||| r.2))
    VReady s .glen (wordGlen o) → s.hart.sew = 4 →
    (∀ p, s.hart.active o.k p = true → tagIndex (a p).tag ≠ 0 ∧ tagKind (a p).tag = 1) →
    s.hart.noTrap o.k (fun p => (g p).2) → ∃ t, exec (.glen o) s = .next t ∧
      VToV s t o.d 1 per 32 (s.hart.active o.k) (fun p => (g p).1) (s.hart.flagsOf o.k (fun p => (g p).2))) ∧
  (∀ o : OpDABCK, let a (p : Nat) := s.hart.pos o.a p
    ∀ ra : Nat → Resolved, let g (p : Nat) : Nat × Flags := (let c := (countFrom 0 3).foldl (fun acc j => let r := fpMulV fmtF32 (FpEnv.scalar .rne) (fmtF32.decode ((s.hart.getX o.b).toNat % 2 ^ 32)) (fmtF32.decode ((ra p).pos.c.getD j 0)); (acc.1 ++ [r.1], acc.2 ||| r.2)) (([] : List Nat), noFlags); (packPos c.1 ((ra p).tag 1), c.2 ||| (ra p).flags))
    VReady s .gscl (wordGscl o) → s.hart.sew = 4 →
    (∀ p, s.hart.active o.k p = true → tagIndex (a p).tag ≠ 0 ∧ tagKind (a p).tag = 1 ∧ s.resolve (a p) = .ok (ra p) s) →
    s.hart.noTrap o.k (fun p => (g p).2) → ∃ t, exec (.gscl o) s = .next t ∧
      VToV s t o.d 1 per 128 (s.hart.active o.k) (fun p => (g p).1) (s.hart.flagsOf o.k (fun p => (g p).2))) ∧
  (∀ o : OpDBEK, let a (p : Nat) := s.hart.pos o.b p
    ∀ ra : Nat → Resolved, let g (p : Nat) : Nat × Flags := (if tagIndex (a p).tag = 0 then (packPos (a p).c (a p).tag, noFlags) else (packPos (ra p).pos.c (ra p).pos.tag, (ra p).flags))
    VReady s .grehome (wordGrehome o) → s.hart.sew = 4 →
    (∀ p, s.hart.active o.k p = true → tagIndex (a p).tag ≠ 0 → s.resolve (a p) = .ok (ra p) s) →
    s.hart.noTrap o.k (fun p => (g p).2) → ∃ t, exec (.grehome o) s = .next t ∧
      VToV s t o.d 1 per 128 (s.hart.active o.k) (fun p => (g p).1) (s.hart.flagsOf o.k (fun p => (g p).2))) ∧
  (∀ o : OpDABCK, let a (p : Nat) := s.hart.pos o.a p; let tt := mkTag ((s.hart.getX o.b).toNat / 2 ^ 8 % 2 ^ 24) ((s.hart.getX o.b).toNat / 2 % 2 ^ 7) ((s.hart.getX o.b).toNat % 2)
    ∀ (ra : Nat → Resolved) (x : Nat → Xform) (fr : Frame), let g (p : Nat) : Nat × Flags := (let c := (x p).apply (ra p).pos.c (decide (tagKind (a p).tag = 0)); (packPos c.1 (mkTag (tagIndex tt) (tagGen tt) (tagKind (a p).tag)), c.2 ||| (ra p).flags))
    VReady s .gcvt (wordGcvt o) → s.hart.sew = 4 →
    (∀ p, s.hart.active o.k p = true → tagIndex (a p).tag ≠ 0 ∧ tagIndex tt ≠ 0 ∧ s.resolve (a p) = .ok (ra p) s ∧ s.target (s.hart.getX o.b) = .ok (tt, fr) s ∧ s.xform ((ra p).tag 0) (mkTag (tagIndex tt) (tagGen tt) 0) (ra p).pos.tag = .ok (x p) s) →
    s.hart.noTrap o.k (fun p => (g p).2) → ∃ t, exec (.gcvt o) s = .next t ∧
      VToV s t o.d 1 per 128 (s.hart.active o.k) (fun p => (g p).1) (s.hart.flagsOf o.k (fun p => (g p).2))) ∧
  (∀ o : OpDABCK, let a (p : Nat) := s.hart.pos o.a p; let tt := mkTag ((s.hart.getX o.b).toNat / 2 ^ 8 % 2 ^ 24) ((s.hart.getX o.b).toNat / 2 % 2 ^ 7) ((s.hart.getX o.b).toNat % 2)
    ∀ (ra : Nat → Resolved) (x : Nat → Xform) (fr : Frame), let g (p : Nat) : Nat × Flags := (let q (j : Nat) : Option Int := floorScaled (exactSum ((x p).terms (ra p).pos.c true j)).1 (21 - fr.ext); ((match q 0, q 1, q 2 with | some i, some j, some l => if 0 ≤ i ∧ i < 2 ^ 21 ∧ 0 ≤ j ∧ j < 2 ^ 21 ∧ 0 ≤ l ∧ l < 2 ^ 21 then interleave i.toNat j.toNat l.toNat else 2 ^ 64 - 1 | _, _, _ => 2 ^ 64 - 1), noFlags))
    VReady s .gmorton (wordGmorton o) → s.hart.sew = 4 →
    (∀ p, s.hart.active o.k p = true → tagIndex (a p).tag ≠ 0 ∧ tagIndex tt ≠ 0 ∧ tagKind (a p).tag = 0 ∧ s.resolve (a p) = .ok (ra p) s ∧ s.target (s.hart.getX o.b) = .ok (tt, fr) s ∧ fr.cell = true ∧ s.xform ((ra p).tag 0) (mkTag (tagIndex tt) (tagGen tt) 0) (ra p).pos.tag = .ok (x p) s) →
    s.hart.noTrap o.k (fun p => (g p).2) → ∃ t, exec (.gmorton o) s = .next t ∧
      VToV s t o.d 1 per 64 (s.hart.active o.k) (fun p => (g p).1) (s.hart.flagsOf o.k (fun p => (g p).2))) ∧
  (∀ o : OpDABCEK, let a (p : Nat) := s.hart.pos o.a p; let b (p : Nat) := s.hart.pos o.b p
    ∀ (ra rb : Nat → Resolved) (x : Nat → Xform), let g (p : Nat) : Nat × Flags := (let c (j : Nat) := exactSum ((x p).terms (rb p).pos.c false j); let r := roundSum ((countFrom 0 3).map (fun j => exactMul (fmtF32.decode ((ra p).pos.c.getD j 0)) (c j).1)); (r.1, r.2 ||| (c 0).2 ||| (c 1).2 ||| (c 2).2 ||| (ra p).flags ||| (rb p).flags))
    VReady s .gdot (wordGdot o) → s.hart.sew = 4 →
    (∀ p, s.hart.active o.k p = true → tagIndex (a p).tag ≠ 0 ∧ tagIndex (b p).tag ≠ 0 ∧ tagKind (a p).tag = 1 ∧ tagKind (b p).tag = 1 ∧ s.resolve (a p) = .ok (ra p) s ∧ s.resolve (b p) = .ok (rb p) s ∧ s.xform ((rb p).tag 0) ((ra p).tag 0) (rb p).pos.tag = .ok (x p) s) →
    s.hart.noTrap o.k (fun p => (g p).2) → ∃ t, exec (.gdot o) s = .next t ∧
      VToV s t o.d 1 per 32 (s.hart.active o.k) (fun p => (g p).1) (s.hart.flagsOf o.k (fun p => (g p).2))) ∧
  (∀ o : OpDABCEK, let a (p : Nat) := s.hart.pos o.a p; let b (p : Nat) := s.hart.pos o.b p
    ∀ (ra rb : Nat → Resolved) (x : Nat → Xform) (kind : Nat → Nat), let g (p : Nat) : Nat × Flags :=
      (let c := (countFrom 0 3).foldl (fun acc j => let r := (let e := exactSum ((x p).terms (rb p).pos.c (decide (tagKind (b p).tag = 0)) j); let w := roundSum [some (fmtF32.decode ((ra p).pos.c.getD j 0)), some e.1.negate]; (w.1, e.2 ||| w.2)); (acc.1 ++ [r.1], acc.2 ||| r.2)) (([] : List Nat), noFlags); (packPos c.1 ((ra p).tag (kind p)), c.2 ||| (ra p).flags ||| (rb p).flags))
    VReady s .gsub (wordGsub o) → s.hart.sew = 4 →
    (∀ p, s.hart.active o.k p = true → tagIndex (a p).tag ≠ 0 ∧ tagIndex (b p).tag ≠ 0 ∧ s.resolve (a p) = .ok (ra p) s ∧ s.resolve (b p) = .ok (rb p) s ∧
      s.xform ((rb p).tag 0) ((ra p).tag 0) (rb p).pos.tag = .ok (x p) s ∧ some (kind p) = (match tagKind (a p).tag, tagKind (b p).tag with | 0, 0 => some 1 | 0, _ => some 0 | _, 0 => none | _, _ => some 1)) →
    s.hart.noTrap o.k (fun p => (g p).2) → ∃ t, exec (.gsub o) s = .next t ∧
      VToV s t o.d 1 per 128 (s.hart.active o.k) (fun p => (g p).1) (s.hart.flagsOf o.k (fun p => (g p).2))) ∧
  (∀ o : OpDABCEK, let a (p : Nat) := s.hart.pos o.a p; let b (p : Nat) := s.hart.pos o.b p
    ∀ (ra rb : Nat → Resolved) (x : Nat → Xform) (kind : Nat → Nat), let g (p : Nat) : Nat × Flags :=
      (let c := (countFrom 0 3).foldl (fun acc j => let r := (let e := exactSum ((x p).terms (rb p).pos.c (decide (tagKind (b p).tag = 0)) j); let w := roundSum [some (fmtF32.decode ((ra p).pos.c.getD j 0)), some e.1]; (w.1, e.2 ||| w.2)); (acc.1 ++ [r.1], acc.2 ||| r.2)) (([] : List Nat), noFlags); (packPos c.1 ((ra p).tag (kind p)), c.2 ||| (ra p).flags ||| (rb p).flags))
    VReady s .gadd (wordGadd o) → s.hart.sew = 4 →
    (∀ p, s.hart.active o.k p = true → tagIndex (a p).tag ≠ 0 ∧ tagIndex (b p).tag ≠ 0 ∧ s.resolve (a p) = .ok (ra p) s ∧ s.resolve (b p) = .ok (rb p) s ∧
      s.xform ((rb p).tag 0) ((ra p).tag 0) (rb p).pos.tag = .ok (x p) s ∧ some (kind p) = (match tagKind (a p).tag, tagKind (b p).tag with | 0, 0 => none | 0, _ => some 0 | _, 0 => some 0 | _, _ => some 1)) →
    s.hart.noTrap o.k (fun p => (g p).2) → ∃ t, exec (.gadd o) s = .next t ∧
      VToV s t o.d 1 per 128 (s.hart.active o.k) (fun p => (g p).1) (s.hart.flagsOf o.k (fun p => (g p).2)))

/-- O42. R259 to R262: cell tables. -/
def Obligations.CellTableResults : Prop :=
  ∀ s : State, s.hart.fits → s.hart.bridle = [] → s.ulines = [] → s.hart.group = none → s.hart.sew = 3 → s.mem.wf = true →
  (∀ (o : OpDABEK) (h : CellHead) (r : Nat → Probe), let T := (s.hart.getX o.a).toNat
    VReady s .vcellfind (wordVcellfind o) → T % 64 = 0 → ReadsAs s (fun u => u.cellHead T) h →
    (∀ p, s.hart.active o.k p = true → s.hart.el o.b 64 p < 2 ^ 63 →
      ReadsAs s (fun u => u.probe T h (s.hart.el o.b 64 p) (h.hash (s.hart.el o.b 64 p)) (min 32 h.cap) 0) (r p)) →
    ∃ t, exec (.vcellfind o) s = .next t ∧ VToV s (t.uncached s) o.d 1 s.hart.perReg 64 (s.hart.active o.k)
      (fun p => if 2 ^ 63 ≤ s.hart.el o.b 64 p then 2 ^ 64 - 1 else match r p with | .held slot _ => slot | _ => 2 ^ 64 - 1) noFlags) ∧
  (∀ (o : OpDABEK) (h : CellHead) (p pa pb : Nat), let T := (s.hart.getX o.a).toNat; let key := s.hart.el o.b 64 p; let v (t : State) := t.hart.el o.d 64 p
    let sweep := 2 ^ ((s.hart.csr.cellsweep).toNat % 8)
    VReady s .vcellins (wordVcellins o) → T % 64 = 0 → ReadsAs s (fun u => u.cellHead T) h → s.hart.activeList o.k = [p] →
    (2 ^ 63 ≤ key → ∃ t, exec (.vcellins o) s = .next t ∧ v t = 2 ^ 64 - 1 ∧ t.mem = s.mem ∧ t.hart.queue = [] ∧ t.hart.pc = s.hart.pc + 4#64) ∧
    (∀ slot w, key < 2 ^ 63 → ReadsAs s (fun u => u.probe T h key (h.hash key) (min 32 h.cap) 0) (.held slot w) →
      (∃ leaf, s.access (slotAddr T slot + 8) 8 8 .store true = .ok (.phys pa leaf) s) → ∃ t, exec (.vcellins o) s = .next t ∧ v t = 2 ^ 63 + slot ∧
        Stored s t pa 8 (w % 2 ^ 32 + min (w / 2 ^ 32 % 65536 + 1) 65535 * 2 ^ 32 + (w / 2 ^ 48 % 256 ||| sweep) * 2 ^ 48 + w / 2 ^ 56 * 2 ^ 56) ∧
        t.hart.x = s.hart.x ∧ t.hart.queue = [] ∧ t.hart.pc = s.hart.pc + 4#64) ∧
    (∀ slot, key < 2 ^ 63 → h.count < h.limit → ReadsAs s (fun u => u.probe T h key (h.hash key) (min 32 h.cap) 0) (.free slot) →
      (∃ leaf, s.access (slotAddr T slot) 8 8 .store true = .ok (.phys pa leaf) s) → (∃ leaf, s.access (slotAddr T slot + 8) 8 8 .store true = .ok (.phys (pa + 8) leaf) s) →
      (∃ leaf, s.access (T + 8) 8 8 .store true = .ok (.phys pb leaf) s) → (pb + 8 ≤ pa ∨ pa + 16 ≤ pb) →
      ∃ t, exec (.vcellins o) s = .next t ∧ v t = slot ∧ t.mem.readN pa 8 = key ∧
        t.mem.readN (pa + 8) 8 = s.hart.el o.d 64 p % 2 ^ 32 + 2 ^ 32 + sweep * 2 ^ 48 + 2 ^ 56 ∧
        t.mem.readN pb 8 = (h.count + 1 + h.ovf * 2 ^ 32) % 2 ^ 64 ∧ t.hart.x = s.hart.x ∧ t.hart.queue = [] ∧
        ∀ a, (a < pa ∨ pa + 16 ≤ a) → (a < pb ∨ pb + 8 ≤ a) → t.mem.read a = s.mem.read a))

/-- O43. R278 to R282: the instructions of recursion routines. The last clauses are about the lanes' work in a routine, which RECUR runs. -/
def Obligations.RecursionRowResults : Prop :=
  ∀ s : State, s.hart.fits →
  (∀ o : OpACK, VReady s .rspawn (wordRspawn o) → s.hart.recur = none →
    (s.hart.activeList o.k = [] → ∃ t, exec (.rspawn o) s = .next t ∧ VDone s t 4 ∧ t.hart.x = s.hart.x ∧ t.hart.v = s.hart.v ∧ t.hart.k = s.hart.k ∧ t.hart.csr.fflags = s.hart.csr.fflags) ∧
    (∀ p l, s.hart.activeList o.k = p :: l → ∃ t v, exec (.rspawn o) s = .next t ∧ VRefused s t { cause := 0x9D, tval := v } ∧ t.hart.vstart = p)) ∧
  (∀ o : OpACK, VReady s .rret (wordRret o) → s.hart.recur = none →
    (s.hart.activeList o.k = [] → ∃ t, exec (.rret o) s = .next t ∧ VDone s t 4 ∧ t.hart.x = s.hart.x ∧ t.hart.v = s.hart.v ∧ t.hart.k = s.hart.k ∧ t.hart.csr.fflags = s.hart.csr.fflags) ∧
    (∀ p l, s.hart.activeList o.k = p :: l → ∃ t v, exec (.rret o) s = .next t ∧ VRefused s t { cause := 0x9D, tval := v } ∧ t.hart.vstart = p)) ∧
  (∀ o : OpDBK, VReady s .rkids (wordRkids o) → s.hart.recur = none →
    (s.hart.activeList o.k = [] → ∃ t, exec (.rkids o) s = .next t ∧ VDone s t 4 ∧ t.hart.x = s.hart.x ∧ t.hart.v = s.hart.v ∧ t.hart.k = s.hart.k ∧ t.hart.csr.fflags = s.hart.csr.fflags) ∧
    (∀ p l, s.hart.activeList o.k = p :: l → ∃ t v, exec (.rkids o) s = .next t ∧ VRefused s t { cause := 0x9D, tval := v } ∧ t.hart.vstart = p)) ∧
  (∀ o : OpDK, VReady s .rdepth (wordRdepth o) → s.hart.recur = none →
    (s.hart.activeList o.k = [] → ∃ t, exec (.rdepth o) s = .next t ∧ VDone s t 4 ∧ t.hart.x = s.hart.x ∧ t.hart.v = s.hart.v ∧ t.hart.k = s.hart.k ∧ t.hart.csr.fflags = s.hart.csr.fflags) ∧
    (∀ p l, s.hart.activeList o.k = p :: l → ∃ t v, exec (.rdepth o) s = .next t ∧ VRefused s t { cause := 0x9D, tval := v } ∧ t.hart.vstart = p)) ∧
  (∀ o : OpDK, VReady s .rnkid (wordRnkid o) → s.hart.recur = none →
    (s.hart.activeList o.k = [] → ∃ t, exec (.rnkid o) s = .next t ∧ VDone s t 4 ∧ t.hart.x = s.hart.x ∧ t.hart.v = s.hart.v ∧ t.hart.k = s.hart.k ∧ t.hart.csr.fflags = s.hart.csr.fflags) ∧
    (∀ p l, s.hart.activeList o.k = p :: l → ∃ t v, exec (.rnkid o) s = .next t ∧ VRefused s t { cause := 0x9D, tval := v } ∧ t.hart.vstart = p)) ∧
  (∀ (e : QEntry) (r : RecRun) (q : RVp) (i p : Nat), s.hart.recur = some r → s.hart.rvp i = some q → r.vps ≠ [] → s.hart.mask e.fk p = true →
    (r.rout = 0 → e.fa.toNat + r.nfw ≤ 32 → q.spawns.length ≠ r.fan → q.depth + 1 ≤ r.dlim →
      effRspawn e [(i, p)] s = .done (s.putVp { q with spawns := q.spawns ++ [s.hart.vpWords e.fa r.w p r.nfw], sites := q.sites ++ [e.pc] })) ∧
    (r.rout = 1 ∨ r.rout = 2 → r.nrw ≠ 0 → e.fa.toNat + r.nrw ≤ 32 →
      effRret e [(i, p)] s = .done (s.putVp { q with ret := some (s.hart.vpWords e.fa r.w p r.nrw) })) ∧
    (r.rout ≤ 2 → effRdepth e [(i, p)] s = .done (s.setEl e.fd r.w p q.depth)) ∧
    (r.rout ≤ 2 → effRnkid e [(i, p)] s = .done (s.setEl e.fd r.w p (if r.rout = 0 then q.spawns.length else q.kids.length))))

/-- O44. R203, R205, R210, R211: matrix state and slices. -/
def Obligations.MatrixStateResults : Prop :=
  ∀ s : State, s.hart.fits →
  (∀ o : OpA, let a := s.hart.getX o.a; VReady s .mmode (wordMmode o) → s.hart.vstart = 0 →
    (a.toNat < 4 → ∃ t, exec (.mmode o) s = .next t ∧ VMDone s t 4 ∧ t.hart.csr.mmode = a ∧ t.hart.x = s.hart.x ∧ t.hart.v = s.hart.v ∧ t.hart.z = s.hart.z ∧
      t.hart.csr.mshape = s.hart.csr.mshape ∧ t.hart.csr.fflags = s.hart.csr.fflags) ∧
    (4 ≤ a.toNat → ∃ t, exec (.mmode o) s = .next t ∧ VRefused s t { cause := 0x62, tval := a })) ∧
  (∀ o : OpDA, let q := (s.hart.getX o.a).toNat; let m := q % 2 ^ 8; let n := q / 2 ^ 8 % 2 ^ 8; let k := q / 2 ^ 16 % 2 ^ 16
    let m1 := min m (8 * s.liveClusters); let k1 := min 16 (s.hart.perReg / max m1 n); let k2 := if k ≠ 0 then min k1 k else k1
    let v := BitVec.ofNat 64 (m1 + n * 2 ^ 8 + k2 * 2 ^ 16 + k2 * max m1 n * 2 ^ 32)
    VReady s .mshape (wordMshape o) → s.hart.vstart = 0 →
    (m = 0 ∨ 128 < m ∨ n = 0 ∨ 128 < n ∨ 2 ^ 32 ≤ q → ∃ t, exec (.mshape o) s = .next t ∧ VRefused s t { cause := 0x62, tval := s.hart.getX o.a }) ∧
    (1 ≤ m → m ≤ 128 → 1 ≤ n → n ≤ 128 → q < 2 ^ 32 → s.hart.sew ≤ 2 → ∃ t, exec (.mshape o) s = .next t ∧ VMDone s t 4 ∧ t.hart.csr.mshape = v ∧
      t.hart.x = (if o.d = 0#5 then s.hart.x else s.hart.x.set o.d.toNat v o.d.isLt) ∧ t.hart.v = s.hart.v ∧ t.hart.z = s.hart.z ∧ t.hart.csr.mmode = s.hart.csr.mmode)) ∧
  (∀ o : OpD, VReady s .mzero (wordMzero o) → s.hart.vstart = 0 → ∃ t, exec (.mzero o) s = .next t ∧ VMDone s t 4 ∧ t.hart.getZ (o.d.toNat % 2) = 0#524288 ∧
    t.hart.getZ (1 - (o.d.toNat % 2)) = s.hart.getZ (1 - (o.d.toNat % 2)) ∧ t.hart.x = s.hart.x ∧ t.hart.v = s.hart.v ∧ t.hart.csr.mshape = s.hart.csr.mshape ∧ t.hart.csr.mmode = s.hart.csr.mmode) ∧
  (∀ o : OpDABK, let r := (s.hart.getX o.b).toNat; VReady s .mrowv (wordMrowv o) → s.hart.sew = 2 → s.hart.vstart = 0 →
    (128 ≤ r → s.hart.activeList o.k ≠ [] → ∃ t, exec (.mrowv o) s = .next t ∧ VRefused s t { cause := 0x62, tval := s.hart.getX o.b }) ∧
    (r < 128 ∨ s.hart.activeList o.k = [] → ∃ t, exec (.mrowv o) s = .next t ∧ VToV s t o.d 1 s.hart.perReg 32 (fun p => s.hart.active o.k p && decide (p < 128)) (fun p => cell (s.hart.getZ (o.a.toNat % 2)) r p) noFlags)) ∧
  (∀ o : OpDABK, let r := (s.hart.getX o.b).toNat; VReady s .mcolv (wordMcolv o) → s.hart.sew = 2 → s.hart.vstart = 0 →
    (128 ≤ r → s.hart.activeList o.k ≠ [] → ∃ t, exec (.mcolv o) s = .next t ∧ VRefused s t { cause := 0x62, tval := s.hart.getX o.b }) ∧
    (r < 128 ∨ s.hart.activeList o.k = [] → ∃ t, exec (.mcolv o) s = .next t ∧ VToV s t o.d 1 s.hart.perReg 32 (fun p => s.hart.active o.k p && decide (p < 128)) (fun p => cell (s.hart.getZ (o.a.toNat % 2)) p r) noFlags)) ∧
  (∀ o : OpDABCK, let r := (s.hart.getX o.b).toNat; VReady s .mvrow (wordMvrow o) → s.hart.sew = 2 → s.hart.vstart = 0 →
    (128 ≤ r → s.hart.activeList o.k ≠ [] → ∃ t, exec (.mvrow o) s = .next t ∧ VRefused s t { cause := 0x62, tval := s.hart.getX o.b }) ∧
    (r < 128 ∨ s.hart.activeList o.k = [] → ∃ t, exec (.mvrow o) s = .next t ∧ VMDone s t 4 ∧ t.hart.x = s.hart.x ∧ t.hart.v = s.hart.v ∧ t.hart.csr.mshape = s.hart.csr.mshape ∧ t.hart.csr.mmode = s.hart.csr.mmode ∧
      t.hart.csr.fflags = s.hart.csr.fflags ∧ t.hart.getZ (1 - (o.d.toNat % 2)) = s.hart.getZ (1 - (o.d.toNat % 2)) ∧
      ∀ i j, i < 128 → j < 128 → cell (t.hart.getZ (o.d.toNat % 2)) i j = if i = r ∧ s.hart.active o.k j = true then s.hart.el o.a 32 j else cell (s.hart.getZ (o.d.toNat % 2)) i j)) ∧
  (∀ o : OpDABCK, let r := (s.hart.getX o.b).toNat; VReady s .mvcol (wordMvcol o) → s.hart.sew = 2 → s.hart.vstart = 0 →
    (128 ≤ r → s.hart.activeList o.k ≠ [] → ∃ t, exec (.mvcol o) s = .next t ∧ VRefused s t { cause := 0x62, tval := s.hart.getX o.b }) ∧
    (r < 128 ∨ s.hart.activeList o.k = [] → ∃ t, exec (.mvcol o) s = .next t ∧ VMDone s t 4 ∧ t.hart.x = s.hart.x ∧ t.hart.v = s.hart.v ∧ t.hart.csr.mshape = s.hart.csr.mshape ∧ t.hart.csr.mmode = s.hart.csr.mmode ∧
      t.hart.csr.fflags = s.hart.csr.fflags ∧ t.hart.getZ (1 - (o.d.toNat % 2)) = s.hart.getZ (1 - (o.d.toNat % 2)) ∧
      ∀ i j, i < 128 → j < 128 → cell (t.hart.getZ (o.d.toNat % 2)) i j = if j = r ∧ s.hart.active o.k i = true then s.hart.el o.a 32 i else cell (s.hart.getZ (o.d.toNat % 2)) i j))

/-- O45. R207 to R209, R167: outer products. -/
def Obligations.OuterProductResults : Prop :=
  ∀ (s : State) (o : OpTile), let M := s.hart.shM; let N := s.hart.shN; let kk := if o.kdep = 0#4 then s.hart.shKs else o.kdep.toNat
  let z := o.zd.toNat % 2; let Z := s.hart.getZ z; let fa := s.hart.tileFmt o.fa.toNat; let fb := s.hart.tileFmt o.fb.toNat
  let rm := s.hart.roundField o.arnd.toNat; let sa := scaleOf o.xA.toNat (s.hart.getX o.xA); let sb := scaleOf o.xB.toNat (s.hart.getX o.xB)
  (VReady s .opacc (wordOpacc o) → s.hart.vstart = 0 → s.badShape = false → kk ≤ s.hart.shKs → kk * M ≤ s.hart.vlmax / fa.width → kk * N ≤ s.hart.vlmax / fb.width →
    ((s.hart.mRed = true ∨ o.chk = 1#1) → 2 ≤ s.liveClusters) →
    let ib (k c : Nat) : Nat := k * N + c
    let P (r c : Nat) : List (Option FVal) := ((countFrom 0 kk).filter (fun k => s.hart.mask o.kA (k * M + r) && s.hart.mask o.kB (ib k c))).map (fun k =>
      product false (scaled sa (fa.decode (elem (s.hart.getV o.vs1) fa.width (k * M + r)).toNat)) (scaled sb (fb.decode (elem (s.hart.getV o.vs2) fb.width (ib k c)).toNat)))
    let S (r c : Nat) : Nat × Flags := if o.fa = 0#3 ∨ o.fb = 0#3 then accumulateFused rm (cell Z r c) (P r c) else accumulateWide rm (fmtF32.decode (cell Z r c)) (P r c)
    ∃ t, exec (.opacc o) s = .next t ∧ VMDone s t 8 ∧ t.hart.x = s.hart.x ∧ t.hart.v = s.hart.v ∧ t.hart.csr.mshape = s.hart.csr.mshape ∧ t.hart.csr.mmode = s.hart.csr.mmode ∧
      t.hart.getZ (1 - z) = s.hart.getZ (1 - z) ∧
      ∀ r c, r < 128 → c < 128 → cell (t.hart.getZ z) r c = if r < M ∧ c < N ∧ P r c ≠ [] then (S r c).1 % 2 ^ 32 else cell Z r c) ∧
  (VReady s .opsub (wordOpsub o) → s.hart.vstart = 0 → s.badShape = false → kk ≤ s.hart.shKs → kk * M ≤ s.hart.vlmax / fa.width → kk * N ≤ s.hart.vlmax / fb.width →
    ((s.hart.mRed = true ∨ o.chk = 1#1) → 2 ≤ s.liveClusters) →
    let ib (k c : Nat) : Nat := k * N + c
    let P (r c : Nat) : List (Option FVal) := ((countFrom 0 kk).filter (fun k => s.hart.mask o.kA (k * M + r) && s.hart.mask o.kB (ib k c))).map (fun k =>
      product true (scaled sa (fa.decode (elem (s.hart.getV o.vs1) fa.width (k * M + r)).toNat)) (scaled sb (fb.decode (elem (s.hart.getV o.vs2) fb.width (ib k c)).toNat)))
    let S (r c : Nat) : Nat × Flags := if o.fa = 0#3 ∨ o.fb = 0#3 then accumulateFused rm (cell Z r c) (P r c) else accumulateWide rm (fmtF32.decode (cell Z r c)) (P r c)
    ∃ t, exec (.opsub o) s = .next t ∧ VMDone s t 8 ∧ t.hart.x = s.hart.x ∧ t.hart.v = s.hart.v ∧ t.hart.csr.mshape = s.hart.csr.mshape ∧ t.hart.csr.mmode = s.hart.csr.mmode ∧
      t.hart.getZ (1 - z) = s.hart.getZ (1 - z) ∧
      ∀ r c, r < 128 → c < 128 → cell (t.hart.getZ z) r c = if r < M ∧ c < N ∧ P r c ≠ [] then (S r c).1 % 2 ^ 32 else cell Z r c) ∧
  (VReady s .opaccw (wordOpaccw o) → s.hart.vstart = 0 → s.badShape = false → kk ≤ s.hart.shKs → kk * M ≤ s.hart.vlmax / fa.width → kk * N ≤ s.hart.vlmax / fb.width →
    ((s.hart.mRed = true ∨ o.chk = 1#1) → 2 ≤ s.liveClusters) →
    let ib (k c : Nat) : Nat := c * kk + k
    let P (r c : Nat) : List (Option FVal) := ((countFrom 0 kk).filter (fun k => s.hart.mask o.kA (k * M + r) && s.hart.mask o.kB (ib k c))).map (fun k =>
      product false (scaled sa (fa.decode (elem (s.hart.getV o.vs1) fa.width (k * M + r)).toNat)) (scaled sb (fb.decode (elem (s.hart.getV o.vs2) fb.width (ib k c)).toNat)))
    let S (r c : Nat) : Nat × Flags := if o.fa = 0#3 ∨ o.fb = 0#3 then accumulateFused rm (cell Z r c) (P r c) else accumulateWide rm (fmtF32.decode (cell Z r c)) (P r c)
    ∃ t, exec (.opaccw o) s = .next t ∧ VMDone s t 8 ∧ t.hart.x = s.hart.x ∧ t.hart.v = s.hart.v ∧ t.hart.csr.mshape = s.hart.csr.mshape ∧ t.hart.csr.mmode = s.hart.csr.mmode ∧
      t.hart.getZ (1 - z) = s.hart.getZ (1 - z) ∧
      ∀ r c, r < 128 → c < 128 → cell (t.hart.getZ z) r c = if r < M ∧ c < N ∧ P r c ≠ [] then (S r c).1 % 2 ^ 32 else cell Z r c)

/-- O46. R212, R213: matrix loads and drains. That MDRAIN checks the pages of the cells that it writes, where R213 speaks of every page of its footprint, is the model's reading (log 38). -/
def Obligations.MatrixMemoryResults : Prop :=
  ∀ (s : State) (o : OpDAB) (pa : Nat → Nat → Nat), let M := s.hart.shM; let N := s.hart.shN; let z := o.d.toNat % 2
  let A := s.hart.getX o.a; let B := s.hart.getX o.b; let addr (r c : Nat) : Nat := (A.toNat + r * B.toNat + 4 * c) % 2 ^ 64
  s.hart.vstart = 0 → s.badShape = false → s.hart.bridle = [] → s.ulines = [] → s.hart.group = none →
  (VReady s .mload (wordMload o) → A.toNat % 4 = 0 → B.toNat % 4 = 0 →
    (∀ r c, r < M → c < N → ∃ leaf, s.access (addr r c) 4 4 .load true = .ok (.phys (pa r c) leaf) s) →
    ∃ t, exec (.mload o) s = .next t ∧ VMDone s (t.uncached s) 4 ∧ t.hart.x = s.hart.x ∧ t.hart.v = s.hart.v ∧ t.hart.csr.mshape = s.hart.csr.mshape ∧ t.hart.csr.fflags = s.hart.csr.fflags ∧
      t.hart.getZ (1 - z) = s.hart.getZ (1 - z) ∧
      ∀ r c, r < 128 → c < 128 → cell (t.hart.getZ z) r c = if r < M ∧ c < N then s.mem.readN (pa r c) 4 else cell (s.hart.getZ z) r c) ∧
  (VReady s .mdrain (wordMdrain o) → 4 * N ≤ B.toNat → B.toNat % 4 = 0 → A.toNat % 4 = 0 → s.hart.z = s.hart.zchk →
    (∀ r c, r < M → c < N → ∃ leaf, s.access (addr r c) 4 4 .store false = .ok (.phys (pa r c) leaf) s) →
    ∃ t b rows, exec (.mdrain o) s = .next t ∧ VMDone s { t with hart := { t.hart with bridle := [] } } 4 ∧ t.hart.x = s.hart.x ∧ t.hart.v = s.hart.v ∧ t.hart.z = s.hart.z ∧ t.hart.bridle = [b] ∧
      b.kind = .drain A.toNat B.toNat rows ∧ rows.map (fun q => q.bytes) = (List.range M).map (fun r => (List.range N).flatMap (fun c => toBytes 4 (cell (s.hart.getZ z) r c)))) ∧
  (VReady s .mdrain (wordMdrain o) → B.toNat < 4 * N ∨ B.toNat % 4 ≠ 0 → ∃ t, exec (.mdrain o) s = .next t ∧ VRefused s t { cause := 0x62, tval := B })

/-- O47. R328 to R340: accumulations. `fold` is the accumulation of one input, `uLinesIn` finds the lines in U that a virtual range meets, and `fixInput` is the conversion of R336. -/
def Obligations.AccumulationResults : Prop :=
  ∀ s : State, s.hart.fits → s.hart.bridle = [] → s.hart.group = none → s.failing = [] → s.ulines.all (fun l => devLine l.line) = true →
  let plus (op a b : Nat) : Nat :=
    let env := FpEnv.scalar .rne; let f (v : Nat) := fmtF32.decode v; let i32 (v : Nat) : Int := (BitVec.ofNat 32 v).toInt
    if op = 0 then (a + b) % 2 ^ 32 else if op = 1 ∨ op = 12 then (a + b) % 2 ^ 64 else if op = 2 then (if i32 b < i32 a then b else a)
    else if op = 3 then (if i32 a < i32 b then b else a) else if op = 4 then min a b else if op = 5 then max a b else if op = 6 then a &&& b
    else if op = 7 then a ||| b else if op = 8 then a ^^^ b else if op = 9 then (fpAddV fmtF32 env (f a) (f b)).1
    else (fpMinMaxV fmtF32 env (op == 11) (f a) (f b)).1
  let after (u : State) : State := { u with hart := s.hart.vectorPassed (s.hart.pc + 4#64) }
  (∀ (o : OpDABCK) (tg : Nat → AccTarget), let w := s.hart.width; let addr (p : Nat) : Nat := ((s.hart.getX o.a).toNat + s.hart.el o.b w p) % 2 ^ 64
    VReady s .vacc (wordVacc o) → w = 32 ∨ w = 64 → (∀ p, s.hart.active o.k p = true → s.accTargetAt (some w) (addr p) = .ok (tg p) s) →
    exec (.vacc o) s = .next (after ((s.hart.activeList o.k).foldl (fun u p =>
      u.fold { elem := p, pa := (tg p).pa, op := (tg p).op, fscale := (tg p).fscale, win := (tg p).win, x := s.hart.el o.d w p }) s))) ∧
  (∀ (o : OpAB) (tg : AccTarget), VReady s .sacc (wordSacc o) → s.hart.vstart = 0 → s.accTargetAt none (s.hart.getX o.a).toNat = .ok tg s →
    exec (.sacc o) s = .next (after (s.fold
      { elem := 0, pa := tg.pa, op := tg.op, fscale := tg.fscale, win := tg.win, x := (s.hart.getX o.b).toNat % 2 ^ accInput tg.op }))) ∧
  (∀ (o : OpAB), VReady s .amerge (wordAmerge o) → s.hart.vstart = 0 → let a := (s.hart.getX o.a).toNat; let n := (s.hart.getX o.b).toNat
    (∀ u, s.mergeVirtual a n = .ok () u → exec (.amerge o) s = .next (after u)) ∧
    (n = 0 → exec (.amerge o) s = .next (after s)) ∧
    (∀ ls t, a < 2 ^ 56 → a + n ≤ 2 ^ 56 → s.uLinesIn a n = .ok ls t → (ls.map (fun q => q.2)).Nodup → ∃ u, exec (.amerge o) s = .next (after u) ∧
      u.ulines = t.ulines.filter (fun l => !(ls.any (fun q => q.2 == l.line))) ∧
      u.mem = ls.foldl (fun m q => match findBy (fun l : ULine => l.line == q.2) t.ulines with | some l => (mergeLine m l).1 | none => m) t.mem) ∧
    (2 ^ 56 ≤ a → n ≠ 0 → ∃ t, exec (.amerge o) s = .next t ∧ VRefused s t { cause := 0x46, tval := s.hart.getX o.a })) ∧
  (∀ (g : AccFold), g.op ≤ 12 → let u := s.fold g; let line := g.pa / 128; let off := g.pa % 128; let st := s.hart.stable; let die := s.hart.die
    let x := if g.op = 12 then (fixInput g.fscale (g.x % 2 ^ 32)).1 else g.x % 2 ^ accInput g.op
    u.partialAt die st line g.op off = plus g.op (s.partialAt die st line g.op off) x ∧
    (s.ulines = [] → ∃ l, u.ulines = [l] ∧ l.line = line ∧ l.op = g.op ∧ l.parts.length = 1 ∧ u.mem = s.mem) ∧
    (∀ l, findBy (fun l : ULine => l.line == line) s.ulines = some l → l.op = g.op → l.asked.contains die = false →
      anyBy (fun p : UPart => p.stable == st) l.parts = true →
      u = { s with ulines := u.ulines, satf := u.satf, coh := { s.coh with links := u.coh.links } } ∧
      ∀ line' st' off', (line', st', off') ≠ (line, st, off) → u.partialAt die st' line' g.op off' = s.partialAt die st' line' g.op off') ∧
    (∀ l, findBy (fun l : ULine => l.line == line) s.ulines = some l → l.op ≠ g.op ∨ l.asked.contains die = true →
      u = (s.mergeU line).fold g ∧ (s.mergeU line).mem = (mergeLine s.mem l).1)) ∧
  (∀ (m : Memory) (l : ULine), m.wf = true → l.op ≤ 12 → let w := accTarget l.op
    (∀ k, k < 128 / w → let a := l.line * 128 + k * w
      let onDie (d : Nat) : Option Nat := match l.parts.filter (fun p => p.die == d) with
        | [] => none
        | p :: ps => some (ps.foldl (fun v q => plus l.op v (q.value l.op (k * w))) (p.value l.op (k * w)))
      (mergeLine m l).1.readN a w =
        ((List.range 6).foldl (fun v d => match onDie d with | none => v | some x => plus l.op v x) (m.readN a w)) % 2 ^ (8 * w)) ∧
    (∀ a, a < l.line * 128 ∨ l.line * 128 + 128 ≤ a → (mergeLine m l).1.read a = m.read a))

/-- O48. R125: entry into the vector queue. The lanes are idle here (`laneEager` false): when they run is a schedule of the model. -/
def Obligations.IssueResults : Prop :=
  ∀ (s : State) (r : Row) (w : BitVec 64), let i := r.instr w; let v := encode i
  r.isVec v = true →
  (∀ c, s.decodeStop r v = some c → exec i s = .next (s.takeTrap c none)) ∧
  let slots := (s.hart.queue.filter (fun e => e.dest.isSome && (e.state != 0 || e.ret.isSome))).length
  (s.decodeStop r v = none → s.hart.mustWait r v = true ∨ 32 ≤ s.hart.queue.length ∨ ((r.xDest v).isSome = true ∧ 8 ≤ slots) →
    exec i s = .next s.idleWork) ∧
  (s.decodeStop r v = none → s.hart.mustWait r v = false → s.hart.queue.length < 32 → ((r.xDest v).isSome = true → slots < 8) →
    (∀ b m, s.blockFor r v = .ok b m → (m.laneEager = false ∨ m.hart.queue ≠ []) → (∀ x ∈ m.hart.blockReads b, x ∉ m.hart.pendingX) →
      exec i s = .next (m.queued r v b (lenOf v))) ∧
    (∀ b m, s.blockFor r v = .ok b m → (∃ x ∈ m.hart.blockReads b, x ∈ m.hart.pendingX) → exec i s = .next m.idleWork) ∧
    (∀ c m, s.blockFor r v = .stop c m → exec i s = .next (m.takeTrap c none)) ∧
    (∀ b m, s.blockFor r v = .ok b m → s.ulines = [] →
      m = { s with hart := { s.hart with moved := m.hart.moved }, stables := m.stables, coh := m.coh, fresh := m.fresh }))

/-- O49. R141 to R144, R148: lane management. That the arbiter acts in the same step is an order of the model (R55, log 75), that VCOMMIT completes past transfers which wait for a replay its choice (log 97), and which lines leave a stable cache with banks that move is open (log 103). -/
def Obligations.LaneManagementResults : Prop :=
  ∀ s : State, s.hart.run = .running →
  (∀ o : OpDAB, let q := s.hart.getX o.b; let a := (s.hart.getX o.a).toNat
    let most := codeLimit (s.stableAt s.hart.stable).live
    let m := if bits q 5 2 ≠ 3 then s.requestStorage (bits q 5 2) else if most < bits s.hart.csr.vcfg 35 2 then s.requestStorage most else s
    let h : Hart := { m.hart with csr := { m.hart.csr with vcfg := setBits (setBits m.hart.csr.vcfg 16 3 (bits q 0 3)) 22 2 (bits q 3 2) } }
    let e := h.perReg
    let n := if a ≤ e then a else if a < 2 * e then (if h.la then (a + 1) / 2 - (a + 1) / 2 % 32 else (a + 1) / 2) else e
    VReady s .vsetl (wordVsetl o) →
    (q.toNat < 128 → bits q 0 3 < 5 → exec (.vsetl o) s = .next { m with hart := ((h.setVl n).setX o.d (BitVec.ofNat 64 n)).vectorPassed (s.hart.pc + 4#64) }) ∧
    (128 ≤ q.toNat ∨ 5 ≤ bits q 0 3 → ∃ t v, exec (.vsetl o) s = .next t ∧ VRefused s t { cause := 0x0B, tval := v })) ∧
  (∀ o : OpDAB, let n := (s.stableAt s.hart.stable).live; let m := max 1 (min (s.hart.getX o.a).toNat n); let old := s.hart.csr.leaseMin
    let new := if old < m ∧ n < s.minSum s.hart.stable - old + m then old else m
    let h : Hart := { s.hart with age := s.clock + 1, csr := { s.hart.csr with leaseMin := new, leasePref := max new (min (s.hart.getX o.b).toNat n) } }
    let u := State.retarget { s with clock := s.clock + 1, hart := h } s.hart.stable
    VReady s .vlease (wordVlease o) →
    exec (.vlease o) s = .next { u with hart := (u.hart.setX o.d u.hart.leaseImage).vectorPassed (s.hart.pc + 4#64) }) ∧
  (VReady s .vcommit wordVcommit → s.hart.bridle.all (fun t => t.after != 0 || t.held) = true → exec .vcommit s = .next { s with hart := s.hart.vectorPassed (s.hart.pc + 4#64) }) ∧
  (∀ o : OpDA, let g := s.hart.csr.grant; let m := s.hart.csr.leaseMin; let m2 := max 1 (m - g / 2); let n := (s.stableAt s.hart.stable).live
    VReady s .vfork (wordVfork o) → badTarget (s.hart.getX o.a) = none →
    ((∀ j, s.job = some j → s.freeCore s.hart.stable = none ∨ g < 2 ∨ 8 ≤ j.members.length ∨
        s.banksFit s.hart.stable (extraBanks (bits s.hart.csr.vcfg 35 2)) = false ∨ (m < m2 + 1 ∧ n < s.minSum s.hart.stable - m + m2 + 1)) →
      exec (.vfork o) s = .next { s with hart := (s.hart.setX o.d (BitVec.allOnes 64)).vectorPassed (s.hart.pc + 4#64) }) ∧
    (∀ j id, s.job = some j → s.freeCore s.hart.stable = some id → 2 ≤ g → j.members.length < 8 →
      s.banksFit s.hart.stable (extraBanks (bits s.hart.csr.vcfg 35 2)) = true →
      (m2 + 1 ≤ m ∨ s.minSum s.hart.stable - m + m2 + 1 ≤ n) → ∃ t c, exec (.vfork o) s = .next t ∧ t.findHart id = some c ∧ c.run = .running ∧ c.pc = s.hart.getX o.a ∧ c.x = (s.hart.setX o.d 0#64).x ∧
        c.v = Vector.replicate 32 0#65536 ∧ c.z = Vector.replicate 2 0#524288 ∧ (∀ r, r ≠ 0#3 → c.getK r = 0#8192) ∧ c.csr.vcfg = s.hart.csr.vcfg ∧
        c.csr.fen = s.hart.csr.fen ∧ c.csr.rkey = s.hart.csr.rkey ∧ c.csr.bypth = s.hart.csr.bypth ∧ c.mode = s.hart.mode ∧ c.ie = s.hart.ie ∧
        c.csr.vstart = 0#64 ∧ c.csr.vsc = 0#64 ∧ c.csr.vdirty = 0#64 ∧ c.csr.fflags = 0#64 ∧ c.job = s.hart.job ∧
        c.csr.member = j.freeMember ∧ c.csr.grant = g / 2 ∧ c.csr.leaseMin = 1 ∧
        t.hart.x = (s.hart.setX o.d (BitVec.ofNat 64 j.freeMember)).x ∧ t.hart.csr.grant = g - g / 2 ∧ t.hart.csr.leaseMin = m2 ∧
        t.hart.csr.leasePref = max m2 (s.hart.csr.leasePref - g / 2) ∧ t.hart.pc = s.hart.pc + 4#64 ∧ t.hart.csr.instret = s.hart.csr.instret + 1#64 ∧
        t.hart.v = s.hart.v ∧ t.hart.k = s.hart.k ∧ t.hart.z = s.hart.z ∧ (s.ulines = [] → t.mem = s.mem))) ∧
  (∀ o : OpDA, let n := (s.stableAt s.hart.stable).live
    VReady s .vjoin (wordVjoin o) →
    (findBy (fun f : Fork => f.member == (s.hart.getX o.a).toNat) s.hart.forks = none →
      exec (.vjoin o) s = .next (State.boundary { s with hart := (s.hart.setX o.d (BitVec.allOnes 64)).vectorPassed (s.hart.pc + 4#64) } s.hart.id)) ∧
    (∀ f j m c, findBy (fun f : Fork => f.member == (s.hart.getX o.a).toNat) s.hart.forks = some f → s.job = some j →
      findBy (fun m : Member => m.n == f.member) j.members = some m → s.findHart m.hart = some c → c.idle = true →
      let m2 := s.hart.csr.leaseMin + min f.d (n - (s.minSum s.hart.stable - c.csr.leaseMin))
      ∃ t : State, exec (.vjoin o) s = .next (t.boundary s.hart.id) ∧ t.hart.x = (s.hart.setX o.d 0#64).x ∧ t.hart.csr.fflags = s.hart.csr.fflags ||| c.csr.fflags ∧
        t.hart.csr.leaseMin = m2 ∧ t.hart.csr.leasePref = min n (max m2 (s.hart.csr.leasePref + f.k)) ∧
        t.hart.forks = dropBy (fun g : Fork => g.member == f.member) s.hart.forks ∧ t.hart.pc = s.hart.pc + 4#64 ∧
        t.hart.csr.instret = s.hart.csr.instret + 1#64 ∧ t.hart.v = s.hart.v ∧ t.hart.k = s.hart.k ∧ t.hart.z = s.hart.z ∧ t.mem = s.mem))

/-- O50. R138, R139, R145 to R147, R277: blocks and RECUR. That a group runs in one step, and how far the lanes go in one, are the schedule of the model. -/
def Obligations.BlockResults : Prop :=
  ∀ s : State,
  (∀ (o : OpA) (b : List (BitVec 32)) (m : State), let a := m.hart.getX o.a; let q := m.queued .vfetch (wordVfetch o) b 4
    VReady s .vfetch (wordVfetch o) → s.readBlock (s.hart.getX o.a) = .ok b m → VReady m .vfetch (wordVfetch o) → b ≠ [] →
    (∀ els, (m.hart.vstart = 0 ∧ m.hart.count ≤ m.hart.perGroup ∧ els = rangeElems 0 m.hart.count) ∨ (m.hart.vstart ≠ 0 ∧ m.hart.count ≤ m.hart.vstart ∧ els = []) →
      let g := q.runGroup b a els
      (∀ t, g = .done t → exec (.vfetch o) s = .next t.headDone) ∧
      (∀ p x t, g = .fault p x t → ∃ u, exec (.vfetch o) s = .next u ∧ u.hart.vcause.map (fun v => (v.stop, v.vpc)) = some (x, p) ∧ u.hart.queue = q.hart.queue ∧
        u.hart.x = m.hart.x ∧ u.hart.v = m.hart.v ∧ u.hart.k = m.hart.k ∧ u.hart.csr.fflags = m.hart.csr.fflags ∧ u.mem = m.mem)) ∧
    (m.hart.vstart = 0 → exec (.vfetch o) s = .next (q.fetchGroups 8192))) ∧
  (∀ (o : OpCA) (b : List (BitVec 32)) (m : State), let a := m.hart.getX o.a; let q := m.queued .cVfetch (wordCVfetch o) b 2
    VReady s .cVfetch (wordCVfetch o) → s.readBlock (s.hart.getX o.a) = .ok b m → VReady m .cVfetch (wordCVfetch o) → b ≠ [] →
    (∀ els, (m.hart.vstart = 0 ∧ m.hart.count ≤ m.hart.perGroup ∧ els = rangeElems 0 m.hart.count) ∨ (m.hart.vstart ≠ 0 ∧ m.hart.count ≤ m.hart.vstart ∧ els = []) →
      let g := q.runGroup b a els
      (∀ t, g = .done t → exec (.cVfetch o) s = .next t.headDone) ∧
      (∀ p x t, g = .fault p x t → ∃ u, exec (.cVfetch o) s = .next u ∧ u.hart.vcause.map (fun v => (v.stop, v.vpc)) = some (x, p) ∧ u.hart.queue = q.hart.queue ∧
        u.hart.x = m.hart.x ∧ u.hart.v = m.hart.v ∧ u.hart.k = m.hart.k ∧ u.hart.csr.fflags = m.hart.csr.fflags ∧ u.mem = m.mem)) ∧
    (m.hart.vstart = 0 → exec (.cVfetch o) s = .next (q.fetchGroups 8192))) ∧
  (∀ (o : OpAK) (b : List (BitVec 32)) (m : State), let a := m.hart.getX o.a; let q := m.queued .vfetchw (wordVfetchw o) b 4
    VReady s .vfetchw (wordVfetchw o) → s.readBlock (s.hart.getX o.a) = .ok b m → VReady m .vfetchw (wordVfetchw o) → b ≠ [] →
    (m.hart.vstart ≠ 0 → ∃ t v, exec (.vfetchw o) s = .next t ∧ VRefused m t { cause := 0x0D, tval := v }) ∧
    (m.hart.vstart = 0 → exec (.vfetchw o) s = .next (q.passGroups o.k b 8193)) ∧
    (m.hart.vstart = 0 → m.hart.count ≤ m.hart.perGroup →
      let l := (rangeElems 0 m.hart.count).filter (fun p => m.hart.mask o.k p.2)
      ∀ t, q.runGroup b a l = .done t → t.hart.queue = q.hart.queue → t.hart.count = m.hart.count → t.hart.perGroup = m.hart.perGroup →
        exec (.vfetchw o) s = .next (if l = [] then t.headDone else t.onHead (fun e => { e with begun := true, state := 2, grp := 0, any := false })))) ∧
  (∀ (o : OpAB) (b : List (BitVec 32)) (m : State), let a := m.hart.getX o.a; let n := (m.hart.getX o.b).toNat; let q := m.queued .vloop (wordVloop o) b 4
    VReady s .vloop (wordVloop o) → s.readBlock (s.hart.getX o.a) = .ok b m → VReady m .vloop (wordVloop o) → b ≠ [] →
    (m.hart.vstart ≠ 0 → ∃ t v, exec (.vloop o) s = .next t ∧ VRefused m t { cause := 0x0D, tval := v }) ∧
    (m.hart.vstart = 0 → n ≤ m.hart.csr.vsc.toNat → let h := m.hart.vectorPassed (m.hart.pc + 4#64)
      exec (.vloop o) s = .next { m with hart := { h with csr := { h.csr with vsc := 0#64 } } }) ∧
    (m.hart.vstart = 0 → m.hart.csr.vsc.toNat < n → exec (.vloop o) s =
      .next ((q.onHead (fun e => { e with begun := true, grp := m.hart.csr.vsc.toNat, any := false })).stripGroups b 9))) ∧
  (∀ o : OpDAB, let q := s.queued .recur (wordRecur o) [] 4; let e := s.hart.entry .recur (wordRecur o) s.hart.pc []
    VReady s .recur (wordRecur o) → s.hart.recur = none → s.hart.ecauses.any (fun c => c.after == 0) = false →
    (s.hart.vstart ≠ 0 → ∃ t v, exec (.recur o) s = .next t ∧ VRefused s t { cause := 0x0D, tval := v }) ∧
    (s.hart.vstart = 0 → s.hart.width ≠ 32 → s.hart.width ≠ 64 → ∃ t v, exec (.recur o) s = .next t ∧ VRefused s t { cause := 0x0C, tval := v }) ∧
    (s.hart.vstart = 0 → s.hart.width = 32 ∨ s.hart.width = 64 → (s.hart.getX o.a).toNat % 64 ≠ 0 →
      ∃ t, exec (.recur o) s = .next t ∧ VRefused s t { cause := 0x40, tval := s.hart.getX o.a }) ∧
    (∀ r t, q.recurStart e = .ok r t → ∃ u, exec (.recur o) s = .next u ∧ u.hart.recur = some r ∧ u.hart.csr.frozen = true ∧
      u = { t with hart := { t.hart with recur := some r, queue := u.hart.queue, csr := { t.hart.csr with frozen := true } } }))

/-- O51. R36 to R48, R358, R366 to R371: what a host does at a port. That an event of a unit which does not exist is none (log 7), the offsets of configuration (log 23), the layout of the SPDM mailbox (log 24), that a reply reaches its access by its record number (log 83) and the offsets in records of ignored writes (log 88) are the model's. -/
def Obligations.HostPortResults : Prop :=
  ∀ (s : State) (port off : Nat) (value : Word), MemOk s → let p := s.portAt port
  let log (c a : Nat) : State := s.logPort port (dieRecord c 0 (3 * port) a 0)
  let answers (w : Word) : State := s.putPort { p with reply := w };
  (2 ≤ port → exec (.hsemRead port) s = .next s ∧ exec (.hsemRelease port) s = .next s ∧ exec (.ctrlModelock port) s = .next s ∧ exec (.ctrlCfglock port) s = .next s ∧ exec (.ctrlWinlock port) s = .next s ∧ exec (.funcmodeWrite port value) s = .next s ∧ exec (.wakeWindowWrite port off value) s = .next s ∧ exec (.eventPost port) s = .next s ∧ exec (.evackWrite port value) s = .next s ∧ exec (.sealWindowSeal port) s = .next s ∧ exec (.sealWindowRevoke port) s = .next s ∧ exec (.spdmRequest port off) s = .next s ∧ exec (.bar2Access port true off value) s = .next s) ∧
  (8 ≤ port → exec (.registerWrite port off value) s = .next s) ∧
  (2 ≤ port → port < 8 → off % 8 = 0 → 0x10000 ≤ off → exec (.registerWrite port off value) s = .next (
    if s.cfglock then s.logAll (dieRecord 1 0 (port - 2) off 0) else s.writeConfig off value true) ∧
    (s.cfglock = false → exec (.registerWrite port 0x10008 value) s = .next { s with exportSlice := min 8 value.toNat })) ∧
  (port < 2 →
  exec (.hsemRead port) s = .next ({ answers (BitVec.ofNat 64 s.hsem) with hsem := if s.hsem = 0 then port + 1 else s.hsem }) ∧
  exec (.hsemRelease port) s = .next ({ s with hsem := if s.hsem = port + 1 then 0 else s.hsem }) ∧
  exec (.registerWrite port 0x10 value) s = .next ({ s with hsem := if bits value 0 2 = 0 ∧ s.hsem = port + 1 then 0 else s.hsem }) ∧
  (s.hsem = port + 1 → exec (.funcmodeWrite port value) s = .next ({ s with funcmode := if s.modelock then s.funcmode else value &&& 0x3F3F#64 }) ∧ exec (.ctrlModelock port) s = .next ({ s with modelock := true }) ∧ exec (.ctrlCfglock port) s = .next ({ s with cfglock := true }) ∧ exec (.ctrlWinlock port) s = .next ({ s with winlock := true })) ∧
  (s.hsem ≠ port + 1 → exec (.funcmodeWrite port value) s = .next (log 1 0x18) ∧ exec (.ctrlModelock port) s = .next (log 1 0x20) ∧ exec (.ctrlCfglock port) s = .next (log 1 0x20) ∧ exec (.ctrlWinlock port) s = .next (log 1 0x20) ∧ exec (.ctrlWreset port) s = .next (log 1 0x20) ∧ exec (.ctrlBootretry port) s = .next (log 1 0x20)) ∧
  bits (s.readRegister port 0) 0 16 = 0x5A36 ∧ bits (s.readRegister port 0) 32 1 = port ∧ bits (s.readRegister port 8) 0 1 = s.ready.toNat ∧ bits (s.readRegister port 8) 8 4 = s.stage % 16 ∧ bits (s.readRegister port 8) 12 4 = s.booterr % 16 ∧
  (p.events = [] → bits (s.readRegister port 0x200) 0 8 = 0xFF) ∧ (∀ e l, p.events = e :: l → bits (s.readRegister port 0x200) 32 32 = e.seq % 2 ^ 32 ∧ s.readRegister port 0x208 = e.value) ∧
  (p.blocked = true → off % 8 = 0 → off < 64 → exec (.wakeWindowWrite port off value) s = .next (s.putPort { p with behind := p.behind ++ [.wakeWindowWrite port off value] })) ∧
  (p.blocked = false → off % 8 = 0 → off < 32 → exec (.wakeWindowWrite port off value) s = .next (s.putPort { p with wake := putBytes p.wake off value.toNat })) ∧
  (p.blocked = false → off % 8 = 0 → 32 < off → off < 64 → exec (.wakeWindowWrite port off value) s = .next (s)) ∧
  (off % 8 ≠ 0 ∨ 64 ≤ off → exec (.wakeWindowWrite port off value) s = .next s) ∧
  (p.blocked = false → let w := putBytes p.wake 32 value.toNat; let d (i : Nat) : Word := BitVec.ofNat 64 (getBytes w (8 * i)); let u := s.putPort { p with wake := w };
    (∀ c, u.capFails (d 0) (d 1) (d 2) (d 3) [.wake, .host] = some c →
      exec (.wakeWindowWrite port 32 value) s = .next (u.logPort port (dieRecord 0 c (3 * port) 0 (getBytes w 32)))) ∧
    (u.capFails (d 0) (d 1) (d 2) (d 3) [.wake, .host] = none → let c := capOf (d 0) (d 1) (d 2) (d 3)
      let r := u.ringWake { unitWho (3 * port) c.owner 0#64 with service := false } c (getBytes w 32);
      (∀ x t, r = .ok x t → exec (.wakeWindowWrite port 32 value) s = .next t) ∧
      (∀ x t, r = .stop x t → exec (.wakeWindowWrite port 32 value) s =
        .next ((u.keepAttempt t false).logPort port (dieRecord 0 x.cause (3 * port) x.tval.toNat (getBytes w 32)))) ∧
      (∀ t, r = .wait t → let v := u.keepAttempt t true;
        exec (.wakeWindowWrite port 32 value) s = .next (v.putPort { v.portAt port with writes := [(32, value)] })))) ∧
  (p.waiting = [] → exec (.eventPost port) s = .next (s)) ∧
  (∀ e l, p.waiting = e :: l → exec (.eventPost port) s = .next (if p.events.length < 64 then s.putPort { p with events := p.events ++ [{ e with seq := p.seq }], waiting := l, seq := (p.seq + 1) % 2 ^ 32, msix := p.msix ++ [e.source] } else s)) ∧
  (p.events = [] → exec (.evackWrite port value) s = .next (s)) ∧
  (∀ e l, p.events = e :: l → (e.seq ≠ bits value 0 32 → exec (.evackWrite port value) s = .next (s)) ∧ (e.seq = bits value 0 32 → e.source ≠ 1 → e.source ≠ 6 → p.waiting = [] → exec (.evackWrite port value) s = .next (s.putPort { p with events := l }))) ∧
  (s.hostFn 5 = false → exec (.sealWindowSeal port) s = .next (log 1 0x420) ∧ exec (.sealWindowRevoke port) s = .next (log 1 0x420)) ∧
  (s.hostFn 5 = true → let d (i : Nat) : Word := BitVec.ofNat 64 (getBytes p.sealWin (8 * i)); let c := capOf (d 0) (d 1) (d 2) (d 3);
    (c.formOk = true → exec (.sealWindowSeal port) s =
      .next (s.putPort ({ p with sealWin := putBytes p.sealWin 24 (sealOf (Config.sealKey s.epoch) (d 0) (d 1) (d 2)).toNat }.sealResult 0))) ∧
    (c.formOk = false → exec (.sealWindowSeal port) s = .next (s.putPort (p.sealResult 0xA5))) ∧
    (∀ x, s.capFails (d 0) (d 1) (d 2) (d 3) [.admin] = some x → exec (.sealWindowRevoke port) s = .next (s.putPort (p.sealResult x))) ∧
    (s.capFails (d 0) (d 1) (d 2) (d 3) [.admin] = none → let u := s.raiseFloor c.owner (getBytes p.sealWin 0x28 % 65536);
      exec (.sealWindowRevoke port) s = .next (u.putPort ({ p with sealWin := putBytes p.sealWin 0x38 (u.floorOf c.owner) }.sealResult 0)))) ∧
  exec (.registerWrite port 0x18 value) s = exec (.funcmodeWrite port value) s ∧
  exec (.registerWrite port 0x240 value) s = exec (.evackWrite port value) s ∧
  exec (.registerWrite port 0x1000 value) s = .next (if bit value 32 then s.putPort { p with errOvf := false } else s) ∧
  exec (.registerWrite port 0x1008 value) s = .next (s.putPort { p with errTail := bits value 0 32 }) ∧
  exec (.registerWrite port 0x1010 value) s = .next (s.putPort { p with sramce := bits value 48 16, memce := bits value 32 16, linkce := bits value 16 16, cethr := bits value 0 16 }) ∧
  (off < 64 → off % 8 = 0 → exec (.registerWrite port (0x100 + off) value) s = .next ({ s with turns := s.turns ++ [Turn.device (.wakeWindowWrite port off value)] })) ∧
  (off / 2 ^ 32 % 2 = 0 → exec (.spdmRequest port off) s = .next ({ s.putPort { p with doe := [off, (Config.digest s.firmware).toNat, (Config.recordDigest s.record).toNat, s.fwver, s.secver, Config.signature s.fresh] } with fresh := s.fresh + 1 })) ∧
  (off / 2 ^ 32 % 2 = 1 → exec (.spdmRequest port off) s = .next ({ s.putPort { p with doe := [off, (Config.openWord s.fresh).toNat] } with fresh := s.fresh + 1 })) ∧
  (p.up = false → exec (.bar2Access port true off value) s = .next (s) ∧ exec (.bar2Access port false off value) s = .next (s)) ∧
  (p.up = true → s.ready = false → s.recovery = false ∨ 2 ^ 26 < off + 8 → exec (.bar2Access port true off value) s = .next (log 1 off) ∧ exec (.bar2Access port false off value) s = .next (answers (BitVec.allOnes 64))) ∧
  (p.up = true → s.ready = false → s.recovery = true → off + 8 ≤ 2 ^ 26 → exec (.bar2Access port true off value) s = .next ({ s with staging := s.staging.writeN off 8 value.toNat }) ∧ exec (.bar2Access port false off value) s = .next (answers (BitVec.ofNat 64 (s.staging.readN off 8)))) ∧
  (p.up = true → s.ready = true → deviceTop < off + 8 → exec (.bar2Access port true off value) s = .next (s) ∧ exec (.bar2Access port false off value) s = .next (answers (BitVec.allOnes 64))) ∧
  (p.up = true → s.ready = true → s.ulines = [] → s.movedLine (off / 128) = false → off + 8 ≤ deviceTop →
    (∃ t, exec (.bar2Access port true off value) s = .next t ∧ Stored s t off 8 value.toNat ∧ t.hart = s.hart) ∧ (s.failsAt off 8 = false → exec (.bar2Access port false off value) s = .next (answers (BitVec.ofNat 64 (s.mem.readN off 8)))) ∧ (s.failsAt off 8 = true → exec (.bar2Access port false off value) s = .next (s.contain (dieRecord 3 0x49 (off / dieBytes) off 0))))) ∧
  (∀ die slot : Nat, (6 ≤ die ∨ 32 ≤ slot → exec (.translationFaultReply die slot) s = .next s) ∧
    (die < 6 → slot < 32 → let d := s.dieAt die; let a := 8192 + 64 * slot; let w := d.pad.readN (a + 8) 8; let reply := (d.pad.read (a + 16)).toNat
      let posted := (d.faultAt + 31 - slot) / 32; let record := 32 * (posted - 1) + slot;
      (reply ≠ 1 → reply ≠ 2 → exec (.translationFaultReply die slot) s = .next s) ∧
      (posted = 0 → w / 2 ^ 24 % 4096 ≠ 0xFFF → exec (.translationFaultReply die slot) s = .next s) ∧
      (posted ≠ 0 → w / 2 ^ 24 % 4096 = s.hart.id → s.hart.id < 2304 →
        (reply = 1 → exec (.translationFaultReply die slot) s =
          .next { s with hart := { s.hart with offers := dropBy (fun o : Offer => o.record == record) s.hart.offers } }) ∧
        (reply = 2 → exec (.translationFaultReply die slot) s =
          .next { s with hart := { s.hart with offers := s.hart.offers.map (fun o => if o.record = record then { o with answer := some true } else o) } }))))

/-- O52. R18, R47 to R49, R324, R364 to R372: power, bring-up, errors, recovery, shutdown. The model's are: that an event of a unit which does not exist is none (log 7); which replays lie within 1 ms (log 26); what a warm reset keeps (log 89); what outlasts power (log 90); how the outcome of a stage is given (log 91); that a stage which fails while ready is 1 leaves it 1 (log 111); that requests for a moved line are dropped (log 112); and what another device has written to its buddy (log 120). -/
def Obligations.PowerAndErrorResults : Prop :=
  ∀ s : State, MemOk s →
  (∃ t, exec .powerGood s = .next t ∧ t.epoch = s.epoch + 1 ∧ t.stage = 1 ∧ t.bringup = true ∧ t.ready = false ∧ t.secver = s.secver ∧ t.hart = State.reset.hart ∧
    t.others = State.reset.others ∧ t.jobs = [] ∧ t.stables = [] ∧ t.floors = [] ∧ t.rings = [] ∧ t.graphs = [] ∧ (∀ a, a < deviceTop → t.mem.read a = 0#8) ∧
    (∀ a, deviceTop ≤ a → t.mem.read a = s.mem.read a)) ∧
  (∃ t, exec .powerLoss s = .next t ∧ t.epoch = s.epoch ∧ t.stage = 0 ∧ t.others = [] ∧ t.hart = State.reset.hart ∧ t.jobs = [] ∧
    (∀ d, d < 6 → (t.dieAt d).run = .stopped) ∧ (∀ p, p < 2 → (t.portAt p).up = false) ∧ (∀ a, a < deviceTop → t.mem.read a = 0#8) ∧
    (∀ a, deviceTop ≤ a → t.mem.read a = s.mem.read a)) ∧
  (∀ err : Nat, let fails := (err % 256 ≠ 0 ∧ bootError s.stage (err % 256) ≠ 0) ∨ (s.stage = 3 ∧ err / 512 < s.secver);
    (s.bringup = false → exec (.bringupStageComplete err) s = .next s) ∧
    (s.bringup = true → fails → ∃ t, exec (.bringupStageComplete err) s = .next t ∧
      t = { s with ports := t.ports, booterr := bootError s.stage (err % 256), recovery := true, bringup := false }) ∧
    (s.bringup = true → ¬ fails → ∃ t, exec (.bringupStageComplete err) s = .next t ∧ t.recovery = s.recovery ∧ t.hart = s.hart ∧ (s.stage ≠ 9 ∨ s.ulines = [] → t.mem = s.mem) ∧
      t.stage = (if s.stage = 9 ∨ (s.stage = 7 ∧ s.ready = true) then 9 else s.stage + 1) ∧ t.fwok = (s.fwok || decide (s.stage = 2)) ∧
      t.secver = (if s.stage = 3 ∧ err / 256 % 2 = 1 then err / 512 else s.secver) ∧ t.fwver = (if s.stage = 3 then err / 512 else s.fwver) ∧
      t.ready = (s.ready || decide (s.stage = 9)) ∧ t.bringup = decide (s.stage ≠ 9) ∧
      (s.stage = 8 → t.initNext = 0 ∧ t.initSet = [] ∧ t.initdone = false) ∧ (s.stage = 9 → ∀ d ∈ t.dies, d.run ≠ .reset))) ∧
  (∀ port : Nat, port < 2 → s.hsem = port + 1 →
    (s.ulines = [] → ∃ t, exec (.ctrlWreset port) s = .next t ∧ t.stage = 4 ∧ t.bringup = true ∧ t.ready = s.ready ∧ t.mem = s.mem ∧ t.jobs = [] ∧ t.graphs = [] ∧
      t.rings = [] ∧ t.pending = [] ∧ t.taken = [] ∧ t.windows = [] ∧ t.hart = State.reset.hart ∧ t.others = State.reset.others ∧ t.funcmode = 0#64 ∧ t.hsem = 0 ∧
      t.modelock = false ∧ t.cfglock = false ∧ t.winlock = false ∧ t.booterr = 0 ∧ t.recovery = false ∧ t.epoch = s.epoch ∧ t.floors = s.floors ∧
      t.coh.homes = [] ∧ t.coh.dir = [] ∧ t.coh.links = [] ∧ t.coh.caches = s.caches.filter (fun c => decide (hostBuffer 0 ≤ c.cache)) ∧
      t.turns = ([1, 0].flatMap (fun q => ({ s.portAt q with writes := [] } : Port).arrivals)).map Turn.device ++ s.turns ∧
      (∀ d, d < 6 → ((s.dieAt d).run = .stopped → t.dieAt d = { Die.reset d with run := .stopped }) ∧
        ((s.dieAt d).run ≠ .stopped → t.dieAt d = { Die.reset d with run := .reset, table := s.hostCopies d })) ∧
      ∀ q, q < 2 → (t.portAt q).errTail = 0 ∧ (t.portAt q).errOvf = false ∧ (t.portAt q).cethr = 0 ∧ (t.portAt q).errHead = (s.portAt q).errHead) ∧
    (s.recovery = false → exec (.ctrlBootretry port) s = .next s) ∧
    (s.recovery = true → ∃ t, exec (.ctrlBootretry port) s = .next t ∧
      t = { s with ports := t.ports, recovery := false, booterr := 0, fwok := false, firmware := s.staging, stage := 2, bringup := true })) ∧
  (589824 ≤ s.initNext → exec .backgroundInitRegion s = .next s) ∧
  (s.initNext < 589824 → ∃ t, exec .backgroundInitRegion s = .next t ∧ t.initNext = s.initNext + 1 ∧ t.hart = s.hart ∧
    t.initdone = (s.initdone || decide (s.initNext = 589823)) ∧
    t.failing = (if s.initSet.contains s.initNext = true then s.failing else dropBy (fun f => f * 32 / 2097152 == s.initNext) s.failing) ∧
    (∀ a, t.mem.read a = if s.initNext * 2097152 ≤ a ∧ a < (s.initNext + 1) * 2097152 ∧ s.initSet.contains s.initNext = false then 0#8 else s.mem.read a)) ∧
  (∀ port : Nat, (2 ≤ port → exec (.hostLinkDown port) s = .next s ∧ exec (.ioDomainPowerLoss port) s = .next s) ∧
    (port < 2 → let caches := dropBy (fun c : CacheLine => c.cache == hostBuffer port) s.caches; let p := s.portAt port
      let hsem := if s.hsem = port + 1 then 0 else s.hsem;
      (s.homes = [] →
        (∃ t, exec (.hostLinkDown port) s = .next t ∧ t.portAt port = { p with up := false, pending := [], writes := [], behind := [] } ∧
          (∀ q, q ≠ port → t.portAt q = s.portAt q) ∧ t = { s with ports := t.ports, hsem := hsem, coh := { s.coh with caches := caches }, turns := ({ p with pending := [] } : Port).arrivals.map Turn.device ++ s.turns }) ∧
        ∃ t, exec (.ioDomainPowerLoss port) s = .next t ∧ t.portAt port = { Port.reset port with up := false } ∧
          (∀ q, q ≠ port → t.portAt q = s.portAt q) ∧ t = { s with ports := t.ports, hsem := hsem, coh := { s.coh with caches := caches } }) ∧
      ((∀ e ∈ s.homes, e.ask = none) → ∃ t, exec (.hostLinkDown port) s = .next t ∧ (t.portAt port).up = false ∧ t.caches = caches ∧ t.mem = s.mem ∧
        ∀ line, (s.homeAt line).state ≠ .i → (s.homeAt line).state ≠ .u → (t.homeAt line).ports = (s.homeAt line).ports &&& ~~~(1#2 <<< port)))) ∧
  (∃ t, exec .thermalShutdown s = .next t ∧ (∀ d ∈ t.dies, d.run = .stopped) ∧ t = { s.logAll (dieRecord 11 0 0 0 0) with dies := t.dies }) ∧
  (∃ t, exec .coolantLossShutdown s = .next t ∧ (∀ d ∈ t.dies, d.run = .stopped) ∧ t = { s.logAll (dieRecord 11 0 0 0 1) with dies := t.dies }) ∧
  (∀ die n : Nat, (6 ≤ die → exec (.clockThrottle die n) s = .next s ∧ exec (.correctedError die n) s = .next s) ∧ (3 ≤ n → exec (.correctedError die n) s = .next s) ∧
    (die < 6 → exec (.clockThrottle die n) s = .next (s.putDie { s.dieAt die with clock := min n s.record.clock })) ∧
    (die < 6 → n < 3 → ∃ t, exec (.correctedError die n) s = .next t ∧
      (∀ q, q < 2 → (t.portAt q).corrected n = min 65535 ((s.portAt q).corrected n + 1) ∧ ∀ m, m < 3 → m ≠ n → (t.portAt q).corrected m = (s.portAt q).corrected m) ∧
      t.mem = s.mem ∧ ((s.portAt 0).cethr = 0 → (s.portAt 1).cethr = 0 → t = { s with ports := t.ports }))) ∧
  (∀ addr : Nat, let bad := (countFrom (addr / 128 * 4) 4).filter (fun f => s.failing.contains f);
    (deviceTop ≤ addr ∨ (s.dieAt (addr / dieBytes)).run ≠ .running ∨ bad = [] → exec (.memoryScrub addr) s = .next s) ∧
    (addr < deviceTop → (s.dieAt (addr / dieBytes)).run = .running → ∃ t, exec (.memoryScrub addr) s = .next t ∧ t = { s with ports := t.ports, dies := t.dies } ∧
      (s.hostFn 4 = false → (t.dieAt 0).inbox = (s.dieAt 0).inbox ++ bad.map (fun f => stopAt 0 (f * 32))) ∧
      ∀ q, q < 2 → (t.portAt q).errHead = ((s.portAt q).errHead + bad.length) % 2 ^ 32 ∨ (bad = [] ∧ t = s))) ∧
  (∀ link : Nat, exec (.burzerHeartbeat link) s = .next s ∧
    (16 ≤ link ∨ s.linkDown.contains link = true → exec (.burzerCrcReplay link) s = .next s) ∧
    (link < 16 → s.linkDown.contains link = false → ∃ t n, exec (.burzerCrcReplay link) s = .next t ∧ t.mem = s.mem ∧ 1 ≤ n ∧ n ≤ s.replaysOf link + 1 ∧
      t.linkDown = (if 16 ≤ n then link :: s.linkDown else s.linkDown) ∧ (n < 16 → t.replaysOf link = n))) ∧
  (∀ dev : Nat,
    exec (.peerSilenceTimeout dev) s = .next (if dev < 8192 ∧ s.peers.contains dev = true ∧ s.failedDev.contains dev = false then
      State.logAll { s with failedDev := dev :: s.failedDev, linkDown := (s.linksTo dev).filter (fun l => !s.linkDown.contains l) ++ s.linkDown } (dieRecord 8 0 0 0 dev)
      else s) ∧
    exec (.spareAssign dev) s = .next (if dev < 8192 ∧ s.ready = true then
      { s with device := dev, failedDev := dropBy (fun d : Nat => d == dev) s.failedDev, peers := dropBy (fun d : Nat => d == dev) s.peers } else s)) ∧
  (s.ulines = [] → ∃ t c, exec .checkpointWrite s = .next t ∧ t = { s with checkpts := t.checkpts } ∧
    findBy (fun p : Nat × Checkpoint => p.1 == s.device) t.checkpts = some (s.device, c) ∧ c.rings = s.rings ∧ c.graphs = s.graphs ∧
    c.ranges = s.checkpointRanges ∧ ∀ a, c.mem.read a = if inRanges s.checkpointRanges a then s.mem.read a else 0#8) ∧
  (let links := ((s.linksTo (if s.device % 2 = 0 then s.device + 1 else s.device - 1)).filter (fun l => !s.linkDown.contains l)).length;
    (∀ c, findBy (fun p : Nat × Checkpoint => p.1 == s.device) s.checkpts = some (s.device, c) → s.lastCheckpoint = some c) ∧
    (links < 4 → exec .checkpointRestore s = .next s) ∧
    (4 ≤ links → s.lastCheckpoint = none → exec .checkpointRestore s = .next { s with fresh := s.fresh + 1 }) ∧
    (∀ c, 4 ≤ links → s.lastCheckpoint = some c → let size := sumBy (fun r : Range => r.len) c.ranges;
      (2 ^ 36 < size → exec .checkpointRestore s = .next { s with fresh := s.fresh + 1 }) ∧
      (size ≤ 2 ^ 36 → c.mem.wf = true → c.graphs = [] → ∃ t, exec .checkpointRestore s = .next t ∧ t.rings = c.rings ∧ t.graphs = [] ∧ t.hart = s.hart ∧
        ∀ a, (inRanges c.ranges a = true → t.mem.read a = c.mem.read a) ∧ (inRanges c.ranges a = false → c.mem.read a = 0#8 → t.mem.read a = s.mem.read a)))) ∧
  (∀ (link bytes addr : Nat) (write : Bool) (value : Word), let pa := s.exportSlice * 2 ^ 37 + addr
    let ok := (bytes = 1 ∨ bytes = 2 ∨ bytes = 4 ∨ bytes = 8) ∧ addr % bytes = 0 ∧ addr + bytes ≤ 2 ^ 37 ∧ pa + bytes ≤ deviceTop
    let runs := (s.dieAt (linkDie link)).run = .running ∧ (s.dieAt (pa / dieBytes)).run = .running;
    (16 ≤ link ∨ s.linkDown.contains link = true ∨ ¬ ok ∨ ¬ runs ∨ s.movedLine (pa / 128) = true → exec (.inboundPeerAccess link write (addr, bytes) value) s = .next s) ∧
    (link < 16 → s.linkDown.contains link = false → ok → runs → s.movedLine (pa / 128) = false → s.ulines = [] →
      (∃ t, exec (.inboundPeerAccess link true (addr, bytes) value) s = .next t ∧ Stored s t pa bytes value.toNat ∧ t.hart = s.hart) ∧
      (s.failsAt pa bytes = false → exec (.inboundPeerAccess link false (addr, bytes) value) s = .next s) ∧
      (s.failsAt pa bytes = true → exec (.inboundPeerAccess link false (addr, bytes) value) s = .next (s.contain (dieRecord 3 0x49 (pa / dieBytes) pa 0)))))

/-- O53. R316 to R332: coherence. The model's are: that an event of a unit which does not exist is none (log 7); that accesses themselves take effect at once (log 25); whether a sole reader gets its line in E (log 102); which line a full set gives up (logs 14 and 104); that a host's copies stand in the die's table at a reset (log 105); that requests for a moved line are dropped (log 112); and that a page whose merge meets a failing sector does not move (log 119). -/
def Obligations.CoherenceResults : Prop :=
  ∀ s : State,
  (∀ die agent line op : Nat, let e := s.dirAt die line; let h := s.homeAt line;
    (6 ≤ die ∨ 433 ≤ agent ∨ devLine line = false ∨ (s.dieAt die).run ≠ .running → exec (.directoryReadRequest die agent line) s = .next s ∧ exec (.directoryWriteRequest die agent line) s = .next s ∧ exec (.invalidation die agent line) s = .next s ∧ exec (.invalidationAck die agent line) s = .next s ∧ exec (.evictionNotice die agent line) s = .next s ∧ exec (.forwardSnoop die agent line) s = .next s ∧ exec (.writeBack die agent line) s = .next s ∧ exec (.uRequest die agent line op) s = .next s) ∧
    (13 ≤ op → exec (.uRequest die agent line op) s = .next s) ∧
    (die < 6 → agent < 433 → devLine line = true → (s.dieAt die).run = .running →
    (s.ulines = [] → s.movedLine line = false → agent < 432 → e.ask = none → e.rest = [] → e.recalling = none → let cache := agentCache die agent;
      (e.st ≤ 1 → e.perm = 1 ∨ e.perm = 2 → let d : DirEntry := if e.ptrs.contains agent then e
          else ({ e with st := if e.perm = 2 ∧ e.ptrs = [] ∧ e.crs = false then 2 else 1 } : DirEntry).add agent
        let st := (match findBy (fun l : CacheLine => l.cache == cache && l.line == line) s.caches with | some l => l.st | none => if d.st = 2 then .e else .s);
        ∃ t, exec (.directoryReadRequest die agent line) s = .next t ∧ t = { s with coh := t.coh } ∧ t.dirAt die line = d ∧
          t.caches.head? = some { cache := cache, line := line, prio := 1, st := st } ∧ t.coh.holds (l2Cache die) line = true) ∧
      (e.st ≠ 4 → e.perm = 2 → e.others agent = [] → ∃ t, exec (.directoryWriteRequest die agent line) s = .next t ∧ t = { s with coh := t.coh } ∧
        t.dirAt die line = ({ e.cleared with st := 3 } : DirEntry).add agent ∧
        t.caches.head? = some { cache := cache, line := line, prio := 1, st := .m } ∧ t.coh.holds (l2Cache die) line = true)) ∧
    (s.ulines = [] → s.movedLine line = false → (s.dieAt (homeDie line)).run = .running → e.ask = none → s.behind line = none → h.state = .i → h.holders = 0#7 → h.ports = 0#2 →
      die = homeDie line ∨ s.coh.filterVictim line = none →
      (∃ t, exec (.directoryReadRequest die 432 line) s = .next t ∧ (t.homeAt line).holders = holderBit die ∧ t = { s with coh := t.coh, fresh := s.fresh + 1 } ∧
        t.coh.holds (l2Cache die) line = true ∧
        (((t.homeAt line).state = .s ∧ (t.dirAt die line).perm = 1) ∨ ((t.homeAt line).state = .e ∧ (t.homeAt line).owner = die ∧ (t.dirAt die line).perm = 2))) ∧
      (∃ t, exec (.directoryWriteRequest die 432 line) s = .next t ∧ (t.homeAt line).state = .m ∧ (t.homeAt line).owner = die ∧ (t.homeAt line).holders = holderBit die ∧
        (t.dirAt die line).perm = 2 ∧ t.coh.holds (l2Cache die) line = true ∧ t = { s with coh := t.coh }) ∧
      (op < 13 → ∃ t, exec (.uRequest die 432 line op) s = .next t ∧ (t.homeAt line).state = .u ∧ (t.homeAt line).op = op ∧ (t.homeAt line).holders = holderBit die ∧
        (t.dirAt die line).perm = 3 ∧ (∃ u, findBy (fun u : ULine => u.line == line) t.ulines = some u ∧ u.op = op ∧ u.parts = []) ∧ t.mem = s.mem)) ∧
    (∀ g, agent < 432 → e.ask = some g → e.recalling = none →
      (g.req.kind = 0 ∨ g.due.contains agent = false → exec (.invalidation die agent line) s = .next s) ∧
      (g.req.kind ≠ 0 → g.due.contains agent = true → ∃ t, exec (.invalidation die agent line) s = .next t ∧ t = { s with coh := t.coh } ∧
        t.coh.holds (agentCache die agent) line = false ∧ (t.dirAt die line).ask = some { g with due := g.due.filter (fun b => b != agent), acks := g.acks ++ [agent] }) ∧
      (s.ulines = [] → g.req.kind ≠ 0 → g.due = [] → g.acks = [agent] → e.rest = [] → e.permits g.req = true → ∃ t, exec (.invalidationAck die agent line) s = .next t ∧
        t.dirAt die line = e.grant g.req ∧ t.coh.holds (agentCache die g.req.who) line = true ∧ t = { s with coh := t.coh }) ∧
      (g.req.kind ≠ 0 ∨ g.due.contains agent = false → exec (.forwardSnoop die agent line) s = .next s) ∧
      (s.ulines = [] → g.req.kind = 0 → g.due = [agent] → g.acks = [] → e.rest = [] → e.permits g.req = true → ∃ t, exec (.forwardSnoop die agent line) s = .next t ∧
        t.dirAt die line = ({ e with st := if e.st = 2 ∨ e.st = 3 then 1 else e.st } : DirEntry).grant g.req ∧ t = { s with coh := t.coh } ∧
        ∀ c ∈ t.caches, c.line = line → cacheDie c.cache = die → c.cache ≠ agentCache die g.req.who → c.st ≠ .m ∧ c.st ≠ .e)) ∧
    (∀ g, h.ask = some g → g.req.kind ≠ 0 → g.due.contains die = true → e.ask = none → e.recalling = none →
      (e.others 432 = [] → ∃ t, exec (.invalidation die 432 line) s = .next t ∧ t = { s with coh := t.coh } ∧ (t.dirAt die line).perm = 0 ∧
        (∀ c ∈ t.caches, c.line = line → cacheDie c.cache ≠ die) ∧
        (t.homeAt line).ask = some { g with due := g.due.filter (fun b => b != die), acks := g.acks ++ [die] }) ∧
      (e.others 432 ≠ [] → ∃ t, exec (.invalidation die 432 line) s = .next t ∧ t = { s with coh := t.coh } ∧
        (t.dirAt die line).recalling = some { req := { line := line, kind := 1, who := 432 }, due := e.others 432, acks := [] })) ∧
    (agent < 432 → e.ask = none → e.recalling = none → e.crs = false → e.ptrs.contains agent = true →
      (s.ulines = [] → e.st ≠ 4 → ∃ t, exec (.evictionNotice die agent line) s = .next t ∧ (t.dirAt die line).ptrs = e.ptrs.filter (fun b => b != agent) ∧
        t.coh.holds (agentCache die agent) line = false ∧ t = { s with coh := t.coh }) ∧
      (∀ u, findBy (fun u : ULine => u.line == line) s.ulines = some u → s.dataFault (line * 128) 128 true = none → agent % 9 = 8 → e.st = 4 →
        ∃ t, exec (.evictionNotice die agent line) s = .next t ∧ t.mem = (mergeLine s.mem u).1 ∧ findBy (fun u : ULine => u.line == line) t.ulines = none)) ∧
    (agent < 432 → (s.coh.quiet line && s.dirtyIn die agent line) = false → exec (.writeBack die agent line) s = .next s) ∧
    (agent < 432 → s.coh.quiet line = true → s.dirtyIn die agent line = true → e.crs = false → e.ptrs.contains agent = true → ∃ t, exec (.writeBack die agent line) s = .next t ∧
      (t.dirAt die line).ptrs = e.ptrs.filter (fun b => b != agent) ∧ t.coh.holds (agentCache die agent) line = false ∧ t = { s with coh := t.coh }) ∧
    (s.pinnedIn (l2Cache die) line = true → exec (.writeBack die 432 line) s = .next s ∧ exec (.evictionNotice die 432 line) s = .next s) ∧
    (s.pinnedIn (l2Cache die) line = false → h.ask = none → h.owner = die → h.state = .m → ∃ t, exec (.writeBack die 432 line) s = .next t ∧
      (t.homeAt line).holders = h.holders &&& ~~~holderBit die ∧ (t.dirAt die line).perm = 0 ∧ (∀ c ∈ t.caches, c.line = line → cacheDie c.cache ≠ die) ∧
      t = { s with coh := t.coh }))) ∧
  (∀ line : Nat, let h := s.homeAt line; let due := (h.others 8).filter (fun d => d != homeDie line);
    (devLine line = false ∨ h.ask ≠ none → exec (.backInvalidation line) s = .next s) ∧
    (devLine line = true → h.ask = none → s.ulines = [] → h.state ≠ .u → due ≠ [] → ∃ t, exec (.backInvalidation line) s = .next t ∧
      (t.homeAt line).ask = some { req := { line := line, kind := 1, who := 8 }, due := due, acks := [] } ∧ t = { s with coh := t.coh }) ∧
    (findBy (fun u : ULine => u.line == line) s.ulines = none → exec (.mergeRequest line) s = .next s ∧ exec (.mergeResponse line) s = .next s) ∧
    (∀ u, findBy (fun u : ULine => u.line == line) s.ulines = some u →
      (∀ d, findBy (fun d => !u.asked.contains d) u.dies = some d → ∃ t v, exec (.mergeRequest line) s = .next t ∧
        findBy (fun u : ULine => u.line == line) t.ulines = some v ∧ v.asked = u.asked ++ [d] ∧ t = { s with ulines := t.ulines, satf := t.satf }) ∧
      (u.asked.length ≤ u.got → exec (.mergeResponse line) s = .next s) ∧
      (u.got < u.asked.length → u.got + 1 < u.dies.length →
        exec (.mergeResponse line) s = .next { s with ulines := putBy (fun w : ULine => w.line == line) { u with got := u.got + 1 } s.ulines }) ∧
      (u.got < u.asked.length → u.dies.length ≤ u.got + 1 → s.dataFault (line * 128) 128 true = none → ∃ t, exec (.mergeResponse line) s = .next t ∧
        findBy (fun u : ULine => u.line == line) t.ulines = none ∧ t.mem = (mergeLine s.mem u).1 ∧ t.hart = s.hart))) ∧
  (∀ port line addr : Nat, ∀ value : Word, let p := s.portAt port;
    (2 ≤ port → exec (.bisnpResponse port line) s = .next s ∧ exec (.hostSnoop port line) s = .next s) ∧
    (2 ≤ port ∨ deviceTop < addr + 8 → ∀ w, exec (.hostCxlRequest port w addr value) s = .next s) ∧
    (port < 2 → let h := s.homeAt line;
      (h.state ≠ .i → h.state ≠ .u → h.ask = none → ∃ t, exec (.bisnpResponse port line) s = .next t ∧
        (t.homeAt line).ports = h.ports &&& ~~~(1#2 <<< port) ∧ t = { s with coh := t.coh }) ∧
      (∀ g, h.ask = some g → (g.req.kind ≠ 0 → h.state ≠ .u → (∃ d ∈ g.due, d ≠ 6) → ∃ t, exec (.bisnpResponse port line) s = .next t ∧
          (t.homeAt line).ports = h.ports &&& ~~~(1#2 <<< port) ∧ t = { s with coh := t.coh }) ∧
        (g.req.kind = 0 → h.ports.getLsbD port = false ∨ portBit g.req.who = 1#2 <<< port → exec (.bisnpResponse port line) s = .next s))) ∧
    (port < 2 → ∃ t, exec (.hostSnoop port line) s = .next t ∧ t.caches = dropBy (fun c : CacheLine => c.cache == hostBuffer port && c.line == line) s.caches ∧
      t = { s with coh := { s.coh with caches := t.caches, links := t.links } } ∧ ((∀ l ∈ s.links, l.stable < 288) → t.links = s.links)) ∧
    (port < 2 → addr + 8 ≤ deviceTop → p.up = false → ∀ w, exec (.hostCxlRequest port w addr value) s = .next s) ∧
    (port < 2 → addr + 8 ≤ deviceTop → p.up = true → s.ready = false →
      exec (.hostCxlRequest port true addr value) s = .next (s.logPort port (dieRecord 1 0 (3 * port) addr 0)) ∧
      exec (.hostCxlRequest port false addr value) s = .next (s.putPort { p with reply := BitVec.allOnes 64 })) ∧
    (port < 2 → addr + 8 ≤ deviceTop → p.up = true → s.ready = true → let d := s.dieAt (homeDie (addr / 128));
      (p.blocked = true → ∀ w, exec (.hostCxlRequest port w addr value) s = .next (s.putPort { p with behind := p.behind ++ [.hostCxlRequest port w addr value] })) ∧
      (p.blocked = false → d.run ≠ .running → ∀ w, exec (.hostCxlRequest port w addr value) s = .next ((s.putDie (d.record (addr / 128) port w)).hostAccess port addr w value)) ∧
      (p.blocked = false → p.behind = [] → d.run = .running → s.movedLine (addr / 128) = false → s.ulines = [] → s.homes = [] → MemOk s →
        (∃ t, exec (.hostCxlRequest port true addr value) s = .next t ∧ Stored s t addr 8 value.toNat ∧ (t.homeAt (addr / 128)).state = .m ∧ (t.homeAt (addr / 128)).owner = 6 ∧
          (∀ c ∈ t.caches, c.line ≠ addr / 128) ∧ t.hart = s.hart) ∧
        (s.failsAt addr 8 = false → ∃ t, exec (.hostCxlRequest port false addr value) s = .next t ∧ (t.portAt port).reply = BitVec.ofNat 64 (s.mem.readN addr 8) ∧
          ((t.homeAt (addr / 128)).state = .s ∨ (t.homeAt (addr / 128)).state = .e) ∧
          t = { s with coh := t.coh, ports := t.ports, fresh := s.fresh + 1 })))) ∧
  (∀ die : Nat, (6 ≤ die → exec (.migrationGo die) s = .next s ∧ exec (.migrationRetire die) s = .next s ∧ exec (.dieResetRecall die) s = .next s ∧ exec (.dieReturn die) s = .next s) ∧
    (die < 6 → let d := s.dieAt die; let src := d.pad.readN 512 8; let dst := d.pad.readN 520 8;
      (targetOf src ≠ .device die ∨ (∀ e, targetOf dst ≠ .device e) → exec (.migrationGo die) s = .next (s.putDie { d with pad := d.pad.writeN 528 8 8 })) ∧
      (∀ e, targetOf src = .device die → targetOf dst = .device e → MemInv s →
        let stuck := s.ulines.filter (fun u => u.line / 512 == src / 65536 && (s.dataFault (u.line * 128) 128 true).isSome);
        (stuck = [] → ∃ t, exec (.migrationGo die) s = .next t ∧ t.movedPages.contains (src / 65536) = true ∧ (t.dieAt die).pad.readN 528 8 = 2 ∧ t.hart = s.hart) ∧
        (stuck ≠ [] → ∃ t, exec (.migrationGo die) s = .next t ∧ t.movedPages = s.movedPages ∧ (t.dieAt die).pad.readN 528 8 = 0 ∧ t.mem = s.mem ∧ t.hart = s.hart)) ∧
      exec (.migrationRetire die) s = .next { s with movedPages := dropBy (fun q : Nat => q == src / 65536) s.movedPages } ∧
      (d.run ≠ .reset → exec (.dieReturn die) s = .next s) ∧
      (d.run = .reset → let u := d.table.foldl State.loadCopy s;
        exec (.dieReturn die) s = .next ((u.putDie { u.dieAt die with run := .running, table := [] }).push
          ((s.taken.filter (fun q => q.host && (requestFrom true q.n q.words).die == die)).map (fun q => .launchRequestGo true q.n)))) ∧
      (s.jobs = [] → s.ulines = [] → (∀ h ∈ s.homes, h.ask = none) → ∃ t, exec (.dieResetRecall die) s = .next t ∧ (t.dieAt die).run = .reset ∧
        (t.dieAt die).table = s.hostCopies die ∧ t.findHart (2304 + die) = some (Hart.groomReset die) ∧ (∀ q ∈ t.taken, q.host = true ∨ q.n ≠ die) ∧
        (∀ h ∈ t.homes, homeDie h.line ≠ die) ∧ (∀ f ∈ t.dir, f.die ≠ die) ∧ (∀ x ∈ t.stables, x.n / 48 ≠ die) ∧ (∀ c ∈ t.caches, cacheDie c.cache ≠ die) ∧ t.mem = s.mem))) ∧
  (∀ h line : Nat, (2310 ≤ h → exec (.movedResponse h line) s = .next s) ∧
    (h < 2310 → h = s.hart.id → (∀ m ∈ s.hart.moved, m.1 / 128 ≠ line) →
      exec (.movedResponse h line) s = .next { s with hart := { s.hart with moved := (line * 128, 1, true) :: s.hart.moved } }))

/-- O54. R37, R56, R58, R125, R138, R213, R216, R232, R343, R356: what happens at a hart beside its instructions. Which of them comes next is a schedule of the model; that an event of a unit which does not exist is none (log 7), the offset in the record of an ignored PREEMPT (log 88) and which drains pre-emption waits for (log 97) are its choices too. -/
def Obligations.HartEventResults : Prop :=
  ∀ (s : State) (h n : Nat),
  (2310 ≤ h → exec (.trapTake h) s = .next s ∧ exec (.stripBoundaryGrantChange h) s = .next s ∧ exec (.forcedBoundary h) s = .next s ∧ exec (.leaseStallPreempt h) s = .next s ∧ exec (.vectorEntryComplete h) s = .next s ∧ exec (.readQueueReturn h) s = .next s ∧ exec (.blockGroupCommit h) s = .next s ∧ exec (.stripAssign h) s = .next s ∧ exec (.recursionPassComplete h) s = .next s ∧ exec (.mdrainTransferComplete h n) s = .next s ∧ exec (.wfeTimeout h) s = .next s ∧ exec (.waitmTimeout h) s = .next s ∧ exec (.hartHaltComplete h) s = .next s) ∧
  (2310 ≤ h → (h < 4096 ∨ 4102 ≤ h) → exec (.engineTransferStart h n) s = .next s ∧ exec (.engineChunkComplete h n) s = .next s ∧ exec (.engineTransferComplete h n) s = .next s) ∧
  (h < 2310 → h = s.hart.id → (s.dieAt s.hart.die).run ≠ .running → exec (.trapTake h) s = .next s ∧ exec (.stripBoundaryGrantChange h) s = .next s ∧ exec (.forcedBoundary h) s = .next s ∧ exec (.leaseStallPreempt h) s = .next s ∧ exec (.vectorEntryComplete h) s = .next s ∧ exec (.readQueueReturn h) s = .next s ∧ exec (.blockGroupCommit h) s = .next s ∧ exec (.stripAssign h) s = .next s ∧ exec (.recursionPassComplete h) s = .next s ∧ exec (.mdrainTransferComplete h n) s = .next s ∧ exec (.wfeTimeout h) s = .next s ∧ exec (.waitmTimeout h) s = .next s ∧ exec (.hartHaltComplete h) s = .next s ∧ exec (.engineTransferStart h n) s = .next s ∧ exec (.engineChunkComplete h n) s = .next s ∧ exec (.engineTransferComplete h n) s = .next s) ∧
  (h < 2310 → h = s.hart.id → (s.dieAt s.hart.die).run = .running →
  (s.hart.vcause = none → s.hart.ecauses = [] → s.hart.ie = true → s.hart.waits = false → s.hart.softErr = [] → (s.hart.preT || s.hart.preH) = true → s.hart.draining = true → s.takeReady = some s.resumeTransfers.drainWork) ∧
  (s.hart.run = .running → ∀ t, s.takeReady = some t → t.hart.id = s.hart.id → exec (.trapTake h) s = .next (t)) ∧
  (s.takeReady = none ∨ s.hart.run ≠ .running → exec (.trapTake h) s = .next (s)) ∧
  (s.laneStep.hart.id = s.hart.id → exec (.vectorEntryComplete h) s = .next (s.laneStep)) ∧
  (s.hart.queue = [] → exec (.vectorEntryComplete h) s = .next (s) ∧ exec (.readQueueReturn h) s = .next (s) ∧ exec (.blockGroupCommit h) s = .next (s) ∧ exec (.stripAssign h) s = .next (s) ∧ exec (.recursionPassComplete h) s = .next (s)) ∧
  ((∃ e l, s.hart.queue = e :: l ∧ e.dest.isSome = true) → s.laneStep.hart.id = s.hart.id → exec (.readQueueReturn h) s = .next (s.laneStep)) ∧ (¬(∃ e l, s.hart.queue = e :: l ∧ e.dest.isSome = true) → exec (.readQueueReturn h) s = .next (s)) ∧
  ((∃ e l, s.hart.queue = e :: l ∧ (e.row = .vfetch ∨ e.row = .cVfetch ∨ e.row = .vfetchw ∨ e.row = .vloop)) → (s.lanes false).hart.id = s.hart.id → exec (.blockGroupCommit h) s = .next ((s.lanes false))) ∧ (¬(∃ e l, s.hart.queue = e :: l ∧ (e.row = .vfetch ∨ e.row = .cVfetch ∨ e.row = .vfetchw ∨ e.row = .vloop)) → exec (.blockGroupCommit h) s = .next (s)) ∧
  ((∃ e l, s.hart.queue = e :: l ∧ e.row = .vloop) → (s.lanes false).hart.id = s.hart.id → exec (.stripAssign h) s = .next ((s.lanes false))) ∧ (¬(∃ e l, s.hart.queue = e :: l ∧ e.row = .vloop) → exec (.stripAssign h) s = .next (s)) ∧
  ((∃ e l, s.hart.queue = e :: l ∧ e.row = .recur) → s.laneStep.hart.id = s.hart.id → exec (.recursionPassComplete h) s = .next (s.laneStep)) ∧ (¬(∃ e l, s.hart.queue = e :: l ∧ e.row = .recur) → exec (.recursionPassComplete h) s = .next (s)) ∧
  (s.hart.runnable n = false → exec (.engineTransferStart h n) s = .next (s) ∧ exec (.engineChunkComplete h n) s = .next (s) ∧ exec (.engineTransferComplete h n) s = .next (s) ∧ exec (.mdrainTransferComplete h n) s = .next (s)) ∧
  (∀ x, nth s.hart.bridle n = some x → s.hart.runnable n = true → exec (.engineTransferStart h n) s = .next { s with hart := { s.hart with bridle := setNth s.hart.bridle n { x with started := true } } }) ∧
  (∀ t b, s.hart.runnable n = true → s.bridleChunk n = (t, b) → t.hart.id = s.hart.id → exec (.engineChunkComplete h n) s = .next (t) ∧ (∀ x i f c, nth s.hart.bridle n = some x → x.kind = .drain i f c → exec (.mdrainTransferComplete h n) s = .next (t)) ∧ (t.hart.bridle.length ≠ s.hart.bridle.length ∨ b = false → exec (.engineTransferComplete h n) s = .next (t))) ∧
  (s.hart.csr.frozen = false → s.hart.vcause = none → s.hart.queue = [] → s.hart.csr.target ≤ s.hart.csr.grant → ∃ t, exec (.stripBoundaryGrantChange h) s = .next t ∧ t.hart.csr.grant = s.hart.csr.target ∧ t.mem = s.mem) ∧
  (s.hart.csr.frozen = false → s.hart.vcause = none → s.hart.queue = [] → s.hart.csr.target < s.hart.csr.grant → ∃ t, exec (.forcedBoundary h) s = .next t ∧ t.hart.csr.grant = s.hart.csr.target ∧ t.hart.hold = false ∧ t.mem = s.mem) ∧
  (s.hart.csr.frozen = false → s.hart.csr.target < s.hart.csr.grant → s.hart.atBoundary = false → exec (.forcedBoundary h) s = .next ({ s with hart := { s.hart with hold := true } })) ∧
  (s.hart.csr.grant ≤ s.hart.csr.target ∨ s.hart.csr.frozen = true → exec (.forcedBoundary h) s = .next (s)) ∧
  exec (.leaseStallPreempt h) s = .next (if s.hart.csr.target < s.hart.csr.grant && !s.hart.atBoundary then { s with hart := { s.hart with preT := true, event := true } } else s) ∧
  exec (.wfeTimeout h) s = .next ({ s with hart := { s.hart with event := true } }) ∧
  exec (.waitmTimeout h) s = .next (if s.hart.waits then { s with hart := { s.hart with timeout := true } } else s)) ∧
  (∀ (die stable cluster : Nat) (value : Word), let d := s.dieAt die; let x := s.stableAt (die * 48 + stable);
    (6 ≤ die → exec (.preemptTimer die value) s = .next s ∧ exec (.preemptHost die value) s = .next s ∧ exec (.watchdogWrite die) s = .next s ∧ exec (.watchdogExpiry die) s = .next s ∧ exec (.clusterRetire die stable cluster) s = .next s ∧ exec (.cycleCountAdvance die stable n) s = .next s) ∧
    (die < 6 → d.run ≠ .running → exec (.preemptTimer die value) s = .next s ∧ exec (.preemptHost die value) s = .next s ∧ exec (.watchdogWrite die) s = .next s ∧ exec (.watchdogExpiry die) s = .next s ∧ exec (.clusterRetire die stable cluster) s = .next s ∧ exec (.cycleCountAdvance die stable n) s = .next s) ∧
    (die < 6 → d.run = .running →
      (bits value 0 12 = s.hart.id → s.hart.id < 2304 → s.hart.id / 384 = die → s.hart.job ≠ none → s.hart.run = .running →
        exec (.preemptTimer die value) s = .next { s with hart := { s.hart with preT := true, event := true } } ∧
        exec (.preemptHost die value) s = .next { s with hart := { s.hart with preH := true, event := true } }) ∧
      (bits value 0 12 / 384 ≠ die → exec (.preemptTimer die value) s = .next (s.logAll (dieRecord 1 0 die 544 0)) ∧ exec (.preemptHost die value) s = .next (s.logAll (dieRecord 1 0 die 544 0))) ∧
      exec (.watchdogWrite die) s = .next (s.putDie { d with watchdog := true }) ∧
      (d.watchdog = true → exec (.watchdogExpiry die) s = .next (s.putDie { d with watchdog := false })) ∧
      (d.watchdog = false → ∃ t, exec (.watchdogExpiry die) s = .next t ∧ t.findHart (2304 + die) = some (Hart.groomReset die) ∧ t.mem = s.mem ∧
        (s.hostFn 4 = false → let agent := if die = 0 then 1 else 0
          (t.dieAt agent).inbox = (s.dieAt agent).inbox ++ [stopAt 0xB0 0])) ∧
      (stable < 48 → exec (.cycleCountAdvance die stable n) s = .next (s.putStable { x with cycle := x.cycle + BitVec.ofNat 64 n })) ∧
      (stable < 48 → cluster < 16 → exec (.clusterRetire die stable cluster) s = .next (
        if x.lanedis.getLsbD cluster && !x.retired.getLsbD cluster && decide (sumBy (fun h : Hart => h.csr.grant) (s.admitted (die * 48 + stable)) < x.live) then
          (s.setRetired (die * 48 + stable) (x.retired ||| (1#16 <<< cluster))).retarget (die * 48 + stable) else s))) ∧
    (die < 6 → d.copies = [] → exec (.engineTransferStart (4096 + die) n) s = .next (s) ∧ exec (.engineChunkComplete (4096 + die) n) s = .next (s) ∧ exec (.engineTransferComplete (4096 + die) n) s = .next (s)))

/-- O55. R9 to R15, R30 to R40, R117, R363: launches, ends of jobs, graphs. The model's are: that an event of a job, ring or graph which does not exist is none (log 7), when the register lines of an image are read (log 70), the offset 0x318 in the record of an ignored request (log 88), and result 3 for a fault on the node of a request (log 109). -/
def Obligations.LaunchAndGraphResults : Prop :=
  ∀ s : State, let runs (die : Nat) : Prop := (s.dieAt die).run = .running;
  (∀ (host : Bool) (n : Nat),
    (6 ≤ n ∨ (host = true ∧ 2 ≤ n) → exec (.launchRequestGo host n) s = .next s) ∧
    (host = true → n < 2 → s.hostFn 0 = false → s.takenRequest host n = none → exec (.launchRequestGo host n) s = .next (s.logPort n (dieRecord 1 0 (3 * n) 0x318 0))) ∧
    (n < 6 → (host = true → n < 2) →
      (s.takenRequest host n = none → (host = true → s.hostFn 0 = true) → let r := s.requestOf host n; let p := (s.setRequest host n true 0).takeRequest host n;
        (¬ runs r.die → exec (.launchRequestGo host n) s = .next s) ∧
        (runs r.die → r.stray = true ∨ 48 ≤ r.stable ∨ 6 ≤ r.die → exec (.launchRequestGo host n) s = .next (s.setRequest host n false 3)) ∧
        (runs r.die → r.stray = false → r.stable < 48 → r.die < 6 → exec (.launchRequestGo host n) s = p.2.serveRequest p.1 ∧ p.2.takenRequest host n = some p.1 ∧
          p.1.words = (s.setRequest host n true 0).requestWords host n)) ∧
      (∀ q, s.takenRequest host n = some q → let r := requestFrom host n q.words;
        (¬ runs r.die → exec (.launchRequestGo host n) s = .next s) ∧ (runs r.die → exec (.launchRequestGo host n) s = s.serveRequest q)))) ∧
  (∀ q : TakenLaunch, let r := requestFrom q.host q.n q.words;
    (∀ v, s.requestNode r q.root = .ok none v → s.serveRequest q = .next (v.endRequest q.host q.n 3)) ∧
    (∀ v, s.requestNode r q.root = .wait v → s.serveRequest q = .next (s.keepAttempt v true)) ∧
    (∀ node v, s.requestNode r q.root = .ok (some node) v →
      (∀ k t, v.offerImage r node q.entry = .ok k t → s.serveRequest q = .next (t.endRequest q.host q.n k)) ∧
      (∀ t, v.offerImage r node q.entry = .wait t → s.serveRequest q = .next (s.keepAttempt t true)))) ∧
  (∀ r : Nat, (nth s.pending r = none → exec (.admissionGranted r) s = .next s) ∧
    (∀ gang, nth s.pending r = some gang →
      (s.jobAt gang = none → exec (.admissionGranted r) s = .next s) ∧
      (∀ j, s.jobAt gang = some j →
        (¬ runs (j.stable / 48) ∨ (∃ m ∈ j.members, ∃ h, s.findHart m.hart = some h ∧ h.csr.grant < h.csr.leaseMin) → exec (.admissionGranted r) s = .next s) ∧
        (∀ xs vs ks zs u, runs (j.stable / 48) → (∀ m ∈ j.members, ∃ h, s.findHart m.hart = some h ∧ h.csr.leaseMin ≤ h.csr.grant) →
          (j.members.map (fun m => m.hart)).Nodup →
          s.readImage (unitWho (j.stable / 48) j.ctx j.pgroot) j.image j.vcode j.xdecl j.vdecl j.kdecl j.zdecl = .ok (xs, vs, ks, zs) u →
          ∃ t, exec (.admissionGranted r) s = .next t ∧ t.pending = dropBy (fun g : Nat => g == gang) u.pending ∧ t.mem = u.mem ∧
            ∀ m ∈ j.members, ∀ h, u.findHart m.hart = some h → t.findHart m.hart = some { h.loadRegs xs vs ks zs with run := .running })))) ∧
  (∀ h : Nat, h < 2310 → h = s.hart.id →
    (s.hart.job = none → exec (.hartHaltComplete h) s = .next s) ∧
    (∀ g j, runs s.hart.die → s.hart.job = some g → s.jobAt g = some j → s.hart.idle = true → (∀ m ∈ j.members, m.hart = h → m.halted = false) →
      ∃ t k, exec (.hartHaltComplete h) s = .next t ∧ t.jobAt g = some k ∧ k.members = j.members.map (fun m => if m.hart = h then { m with halted := true } else m) ∧
        k.mask = j.mask &&& ~~~(1#8 <<< s.hart.csr.member) ∧ t.mem = s.mem)) ∧
  (∀ g : Nat, (s.jobAt g = none → exec (.jobComplete g) s = .next s ∧ exec (.jobEndByRecovery g) s = .next s) ∧
    (∀ j, s.jobAt g = some j → let ids := j.members.map (fun m => m.hart); let u := ids.foldl State.endHart s
      let drains := ids.filter (fun id => match u.findHart id with | some h => h.bridle.any (fun t => t.isDrain && !t.held) | none => false);
      (¬ runs (j.stable / 48) ∨ (∃ m ∈ j.members, m.halted = false) ∨ j.ending = true → exec (.jobComplete g) s = .next s) ∧
      (runs (j.stable / 48) → drains ≠ [] → exec (.jobEndByRecovery g) s = .next ((u.drainHarts drains).push [.jobEndByRecovery g])) ∧
      (runs (j.stable / 48) → j.sigaddr = 0 → j.node = none → j.ending = false →
        ((∀ m ∈ j.members, m.halted = true ∧ ∀ h, s.findHart m.hart = some h → h.idle = true) →
          j.xspill = 0#32 → j.vspill = 0#32 → j.kspill = 0#8 → j.zspill = 0#2 →
          ∃ t, exec (.jobComplete g) s = .next t ∧ t.jobAt g = none ∧ t.mem = s.mem ∧
            ∀ m ∈ j.members, ∀ h, t.findHart m.hart = some h → h.job = none) ∧
        (drains = [] → ∃ t, exec (.jobEndByRecovery g) s = .next t ∧ t.jobAt g = none ∧ t.mem = u.mem ∧
          ∀ m ∈ j.members, ∀ h, t.findHart m.hart = some h → h.job = none)))) ∧
  (∀ ring : Nat, (nth s.rings ring = none → exec (.graphSubmissionPop ring) s = .next s) ∧
    (∀ die c, nth s.rings ring = some (die, c) → runs die →
      (∀ u, s.popSlot (unitWho die c.owner 0#64) c = .ok none u → exec (.graphSubmissionPop ring) s = .next u) ∧
      (∀ slot pl u t x, s.popSlot (unitWho die c.owner 0#64) c = .ok (some (slot, pl)) u → u.startGraph die c slot pl = .ok t x →
        exec (.graphSubmissionPop ring) s = .next t) ∧
      (∀ slot pl u, let k := (nth pl 1).getD 0;
        s.popSlot (unitWho die c.owner 0#64) c = .ok (some (slot, pl)) u → k % 2 ^ 32 = 0 → (nth pl 2).getD 0 = 0 → u.graphAt u.nextGraph = none →
        ∃ t, exec (.graphSubmissionPop ring) s = .next t ∧ t.graphAt u.nextGraph = none ∧ t.nextGraph = u.nextGraph + 1 ∧ t.mem = u.mem))) ∧
  (∀ g n : Nat, (s.graphAt g = none → exec (.nodeStart g n) s = .next s ∧ exec (.readyRingPost g n) s = .next s ∧ exec (.remoteSuccessorReady g n) s = .next s ∧ exec (.nodeFinish g n) s = .next s ∧ exec (.completionPushRetry g) s = .next s) ∧
    (∀ q, s.graphAt g = some q →
      (findBy (fun p : Nat × Nat => p.1 == n) q.ready = none → exec (.nodeStart g n) s = .next s ∧ exec (.readyRingPost g n) s = .next s) ∧
      (∀ die w u t x, findBy (fun p : Nat × Nat => p.1 == n) q.ready = some (n, die) → runs die → s.unitOf die q.ctx = (some w, u) →
        (u.startNode w q n die = .ok t x → exec (.nodeStart g n) s = .next t) ∧
        (∀ c, u.startNode w q n die = .stop c t → exec (.nodeStart g n) s =
          .next ((((s.keepAttempt t false).record10 die q.ctx c (q.va n)).putGraph (q.run n die)).endNode (g, n) false)) ∧
        (∀ y v, u.readNode w q n = .ok y v → y.type = 1 → v.hostFn 0 = false → (v.dieAt die).readyFree = true → exec (.readyRingPost g n) s =
          .next ((v.postReady die (q.va n) y.work q.ctx).putGraph { q with ready := dropKey n q.ready, offered := q.offered ++ [(n, die)] }))) ∧
      (findBy (fun p : Nat × Nat => p.1 == n) q.remote = none → exec (.remoteSuccessorReady g n) s = .next s) ∧
      (∀ p, findBy (fun p : Nat × Nat => p.1 == n) q.remote = some p → runs p.2 → ∃ t, exec (.remoteSuccessorReady g n) s = .next t ∧
        t.graphAt g = some { q with remote := dropKey n q.remote, ready := q.ready ++ [p] } ∧ t = { s with graphs := t.graphs, turns := s.turns ++ [Turn.device (.nodeStart g n)] }) ∧
      (findBy (fun p : Nat × Bool => p.1 == n) q.ended = none → exec (.nodeFinish g n) s = .next s) ∧
      (∀ ok die w u t x, findBy (fun p : Nat × Bool => p.1 == n) q.ended = some (n, ok) → findBy (fun p : Nat × Nat => p.1 == n) q.running = some (n, die) → runs die →
        s.unitOf die q.ctx = (some w, u) → (if ok then u.finishNode w q n die else u.failNode w q n) = .ok t x → exec (.nodeFinish g n) s = .next t) ∧
      (q.retry = false → exec (.completionPushRetry g) s = .next s) ∧
      (runs q.die → q.retry = true → q.compl = 0 → exec (.completionPushRetry g) s = .next { s with graphs := dropBy (fun r : Graph => r.n == g) s.graphs }) ∧
      (runs q.die → q.retry = true → q.compl ≠ 0 →
        let fails (c : Stop) (t : State) : State := ((t.agentEvent 0 c.cause q.die q.ctx (BitVec.ofNat 64 q.compl) 0#64).record10 q.die q.ctx c q.compl).dropGraph g
        (∀ u, s.unitOf q.die q.ctx = (none, u) → exec (.completionPushRetry g) s = .next (fails (stopAt 0x41 q.compl) u)) ∧
        (∀ w u, s.unitOf q.die q.ctx = (some w, u) → let cap := u.presentTyped w (BitVec.ofNat 64 q.compl) [.push, .wake] 2;
          (∀ c v, cap = .stop c v → exec (.completionPushRetry g) s = .next (fails c (u.keepAttempt v false))) ∧
          (∀ v, cap = .wait v → exec (.completionPushRetry g) s = .next ((u.keepAttempt v true).putGraph { q with retry := true })) ∧
          (∀ c v, cap = .ok c v →
            let push := v.ringPush w c ([q.tag.toNat, q.done % 2 ^ 32 + q.failed % 2 ^ 32 * 2 ^ 32] ++ List.replicate (2 ^ c.lgsize / 8 - 3) 0);
            (∀ t, push = .ok none t → exec (.completionPushRetry g) s = .next (t.putGraph { q with retry := true })) ∧
            (∀ n t a z, push = .ok (some n) t → t.ringWake w c (n + 1) = .ok a z →
              ∃ e, exec (.completionPushRetry g) s = .next e ∧ e.graphAt g = none ∧ e.mem = z.mem ∧ e = { z with graphs := e.graphs }) ∧
            (∀ x t, push = .stop x t → exec (.completionPushRetry g) s = .next (fails x (u.keepAttempt t false))))))))

/-- O56. Words that the tables of examples of the spec write out. -/
def Obligations.DecodeWords : Prop :=
  decode 0x001CC501#64 = .ok (.add { d := 5#5, a := 6#5, b := 7#5 }) ∧
  decode 0xFFC14A11#64 = .ok (.addi { d := 10#5, a := 10#5, i := 0x3FF0#14 }) ∧
  decode 0x241CC589#64 = .ok (.cas { d := 5#5, a := 6#5, b := 7#5, e := 8#5, w := 0#1, o := 1#2 }) ∧
  decode 0x3018A409#64 = .ok (.fadd { d := 4#5, a := 5#5, b := 6#5, f := 1#1, r := 1#3 }) ∧
  decode 0xFFF0C571#64 = .ok (.bltn { a := 5#5, b := 6#5, i := 0x3FFC#14 }) ∧
  decode 0x0000207D#64 = .ok (.jalr { d := 0#5, a := 1#5, i := 0#14 }) ∧
  decode 0x018C4106#64 = .ok (.vaddVV { d := 1#5, a := 2#5, b := 3#5, c := 1#1, e := 1#1, k := 0#3 }) ∧
  decode 0xB6B10422#64 = .ok (.vfmaVV { d := 4#5, a := 8#5, b := 12#5, c := 1#1, e := 0#1, k := 3#3 }) ∧
  decode 0x002D4502#64 = .ok (.vsetl { d := 5#5, a := 10#5, b := 11#5 }) ∧
  decode 0x000044C504A08103#64 = .ok (.opacc { zd := 1#5, vs1 := 4#5, vs2 := 8#5, fa := 1#3, fb := 1#3, arnd := 0#3, xA := 5#5, xB := 6#5, kA := 1#3, kB := 2#3, kdep := 0#4, chk := 0#1 }) ∧
  decode 0x02B0#64 = .ok (.cVfetch { a := 10#5 }) ∧
  decode 0x00800095#64 = .ok .tret ∧
  decode 0x04000002#64 = .ok .endb ∧
  decode 0x000000A9#64 = .error .opcode ∧ decode 0x0009C12A#64 = .error .function ∧ decode 0x5008012A#64 = .error .reserved ∧ decode 0#64 = .error .zero

/-- O57. Reset. That unlisted memory reads 0 and that x registers reset to 0 are the model's choices (logs 2 and 1). -/
def Obligations.ResetState : Prop :=
  MemInv State.reset ∧ HartInv State.reset ∧ (∀ a, State.reset.mem.read a = 0#8) ∧ State.reset.hart.run = .off ∧ State.reset.jobs = [] ∧
  State.reset.ready = false ∧ State.reset.initdone = false ∧ State.reset.funcmode = 0#64 ∧ State.reset.hsem = 0 ∧ State.reset.windows = [] ∧ State.reset.floors = [] ∧
  State.reset.hart.x = Vector.replicate 32 0#64 ∧ State.reset.hart.getK 0#3 = BitVec.allOnes 8192 ∧
  (∀ d, d < 6 → ∃ h, State.reset.findHart (2304 + d) = some h ∧ h.run = .running ∧ h.mode = 2 ∧ bits h.csr.vcfg 35 2 = 3)

/-- O58. R66 to R75: the decoder and the encoder agree. -/
def Obligations.EncodeDecode : Prop :=
  ∀ i : Instr, i.wf = true → i.len ≠ 0 → decode (encode i) = .ok i ∧ lenOf (encode i) = i.len

/-- O59. R4, R223: memory. The canonical form is the model's (log 2). -/
def Obligations.MemoryStaysCanonical : Prop :=
  ∀ s t : State, MemInv s → step s = .next t → MemInv t

/-- O60. R93, R94: the legal values of `vcfg` and `status.mode`. -/
def Obligations.HartsStayLegal : Prop :=
  ∀ s t : State, HartInv s → step s = .next t → HartInv t
end

