-- ==== Sys2Proof/Laws/Memory.lean ====
section
/-! SUPPORT. Memory: what a read gives after a write, and that every operation on it keeps the canonical form. -/

namespace Sys2Proof.Machine

/-! ## The canonical form -/

theorem Memory.wfFrom_mono {lo lo' : Nat} {m : Memory} (h : lo' ≤ lo) (w : m.wfFrom lo = true) : m.wfFrom lo' = true := by
  cases m with
  | nil => rfl
  | cons p r =>
    obtain ⟨a, b⟩ := p
    simp only [Memory.wfFrom, Bool.and_eq_true, decide_eq_true_eq] at w ⊢
    exact ⟨⟨by omega, w.1.2⟩, w.2⟩

/-- Below the first address of a canonical memory every byte reads 0. -/
theorem Memory.read_below {lo k : Nat} {m : Memory} (w : m.wfFrom lo = true) (h : k < lo) : m.read k = 0#8 := by
  cases m with
  | nil => rfl
  | cons p r =>
    obtain ⟨a, b⟩ := p
    simp only [Memory.wfFrom, Bool.and_eq_true, decide_eq_true_eq] at w
    have h1 : ¬a = k := by omega
    have h2 : k < a := by omega
    simp [Memory.read, h1, h2]

theorem Memory.wfFrom_write {lo k : Nat} {m : Memory} {b : Byte} (w : m.wfFrom lo = true) (h : lo ≤ k) :
    (m.write k b).wfFrom lo = true := by
  induction m generalizing lo with
  | nil =>
    by_cases hb : b = 0#8
    · simp [Memory.write, hb, Memory.wfFrom]
    · simp [Memory.write, hb, Memory.wfFrom, h]
  | cons p r ih =>
    obtain ⟨a, c⟩ := p
    simp only [Memory.wfFrom, Bool.and_eq_true, decide_eq_true_eq] at w
    obtain ⟨⟨w1, w2⟩, w3⟩ := w
    by_cases h1 : k < a
    · by_cases hb : b = 0#8
      · simp [Memory.write, h1, hb, Memory.wfFrom, w1, w2, w3]
      · have h3 : k + 1 ≤ a := h1
        simp [Memory.write, h1, hb, Memory.wfFrom, h, h3, w2, w3]
    · by_cases h2 : a = k
      · subst h2
        by_cases hb : b = 0#8
        · simpa [Memory.write, hb] using Memory.wfFrom_mono (by omega) w3
        · simp [Memory.write, hb, Memory.wfFrom, h, w3]
      · have := ih w3 (by omega)
        simp [Memory.write, h1, h2, Memory.wfFrom, w1, w2, this]

/-- A write keeps the canonical form. -/
theorem Memory.wf_write {m : Memory} {k : Nat} {b : Byte} (w : m.wf = true) : (m.write k b).wf = true :=
  Memory.wfFrom_write w (Nat.zero_le _)

/-- A write of several bytes keeps the canonical form. -/
theorem Memory.wf_writeN {m : Memory} {a n v : Nat} (w : m.wf = true) : (m.writeN a n v).wf = true := by
  induction n generalizing m a v with
  | zero => exact w
  | succ n ih => exact ih (Memory.wf_write w)

theorem Memory.wfFrom_filter {lo : Nat} {m : Memory} (p : Nat × Byte → Bool) (w : m.wfFrom lo = true) :
    Memory.wfFrom lo (m.filter p) = true := by
  induction m generalizing lo with
  | nil => rfl
  | cons q r ih =>
    obtain ⟨a, b⟩ := q
    simp only [Memory.wfFrom, Bool.and_eq_true, decide_eq_true_eq] at w
    by_cases h : p (a, b) = true
    · rw [List.filter_cons_of_pos h]
      simp [Memory.wfFrom, w.1.1, w.1.2, ih w.2]
    · rw [List.filter_cons_of_neg h]
      exact ih (Memory.wfFrom_mono (by omega) w.2)

theorem Memory.wf_filter {m : Memory} (p : Nat × Byte → Bool) (w : m.wf = true) : Memory.wf (m.filter p) = true :=
  Memory.wfFrom_filter p w

theorem Memory.clear_eq_filter (lo hi : Nat) (m : Memory) : m.clear lo hi = m.filter (fun p => !decide (lo ≤ p.1 ∧ p.1 < hi)) := by
  induction m with
  | nil => rfl
  | cons p r ih =>
    obtain ⟨a, b⟩ := p
    by_cases h : lo ≤ a ∧ a < hi
    · rw [Memory.clear, if_pos h, List.filter_cons_of_neg (by simp [h]), ih]
    · rw [Memory.clear, if_neg h, List.filter_cons_of_pos (by rw [decide_eq_false h]; rfl), ih]

/-- Clearing a range keeps the canonical form. -/
theorem Memory.wf_clear {m : Memory} {lo hi : Nat} (w : m.wf = true) : (m.clear lo hi).wf = true := by
  rw [Memory.clear_eq_filter]
  exact Memory.wf_filter _ w

/-! ## Reads after writes -/

theorem Memory.read_write {m : Memory} {a k : Nat} {b : Byte} {lo : Nat} (w : m.wfFrom lo = true) :
    (m.write a b).read k = if k = a then b else m.read k := by
  induction m generalizing lo with
  | nil =>
    by_cases hb : b = 0#8
    · simp [Memory.write, hb, Memory.read]
    · simp only [Memory.write, hb, if_false, Memory.read]
      by_cases h : a = k
      · simp [h]
      · simp [h, Ne.symm h]
  | cons p r ih =>
    obtain ⟨c, d⟩ := p
    simp only [Memory.wfFrom, Bool.and_eq_true, decide_eq_true_eq] at w
    obtain ⟨⟨_, _⟩, w3⟩ := w
    by_cases h1 : a < c
    · by_cases hb : b = 0#8
      · simp only [Memory.write, h1, hb, if_true]
        by_cases h : k = a
        · subst h
          have h4 : ¬c = k := by omega
          simp [Memory.read, h4, h1]
        · simp [h]
      · simp only [Memory.write, h1, hb, if_true, if_false, Memory.read]
        by_cases h : a = k
        · simp [h]
        · by_cases h6 : k < a
          · have h4 : ¬c = k := by omega
            have h5 : k < c := by omega
            simp [h, h6, h4, h5, Ne.symm h]
          · simp [h, h6, Ne.symm h]
    · by_cases h2 : c = a
      · subst h2
        by_cases hb : b = 0#8
        · simp only [Memory.write, hb, if_true, Nat.lt_irrefl, if_false]
          by_cases h : k = c
          · simp [h, Memory.read_below w3 (Nat.lt_succ_self c)]
          · have h4 : ¬c = k := Ne.symm h
            by_cases h5 : k < c
            · simp [h, Memory.read, h4, h5, Memory.read_below w3 (show k < c + 1 by omega)]
            · simp [h, Memory.read, h4, h5]
        · simp only [Memory.write, hb, if_false, Nat.lt_irrefl, if_true, Memory.read]
          by_cases h : k = c
          · simp [h]
          · simp [h, Ne.symm h]
      · simp only [Memory.write, h1, h2, if_false, Memory.read]
        by_cases h4 : c = k
        · have : ¬k = a := by omega
          simp [h4, this]
        · by_cases h5 : k < c
          · have : ¬k = a := by omega
            simp [h4, h5, this]
          · simp [h4, h5, ih w3]

/-- The byte written is read back. -/
theorem Memory.read_write_same {m : Memory} {a : Nat} {b : Byte} (w : m.wf = true) : (m.write a b).read a = b := by
  simp [Memory.read_write w]

/-- A write leaves every other byte alone. -/
theorem Memory.read_write_other {m : Memory} {a k : Nat} {b : Byte} (w : m.wf = true) (h : k ≠ a) : (m.write a b).read k = m.read k := by
  simp [Memory.read_write w, h]

/-- What the bytes are after a write of several. -/
theorem Memory.read_writeN {m : Memory} {a n v k : Nat} (w : m.wf = true) :
    (m.writeN a n v).read k = if a ≤ k ∧ k < a + n then BitVec.ofNat 8 (v / 256 ^ (k - a)) else m.read k := by
  induction n generalizing m a v with
  | zero =>
    rw [if_neg (by omega)]
    rfl
  | succ n ih =>
    rw [Memory.writeN, ih (Memory.wf_write w)]
    by_cases h : k = a
    · subst h
      have h1 : ¬(k + 1 ≤ k ∧ k < k + 1 + n) := by omega
      have h2 : k ≤ k ∧ k < k + (n + 1) := by omega
      rw [if_neg h1, if_pos h2, Memory.read_write_same w]
      simp
    · by_cases h1 : a + 1 ≤ k ∧ k < a + 1 + n
      · have h2 : a ≤ k ∧ k < a + (n + 1) := by omega
        have h3 : k - a = (k - (a + 1)) + 1 := by omega
        rw [if_pos h1, if_pos h2, h3, Nat.pow_succ, Nat.mul_comm, Nat.div_div_eq_div_mul]
      · have h2 : ¬(a ≤ k ∧ k < a + (n + 1)) := by omega
        rw [if_neg h1, if_neg h2, Memory.read_write_other w h]

/-! ## Physical accesses -/

theorem wf_foldl_writeN {α : Type} (l : List α) (f : Memory × Bool → α → Memory × Bool)
    (hf : ∀ acc a, acc.1.wf = true → (f acc a).1.wf = true) (acc : Memory × Bool) (w : acc.1.wf = true) : (l.foldl f acc).1.wf = true := by
  induction l generalizing acc with
  | nil => exact w
  | cons a l ih => exact ih _ (hf acc a w)

/-- The merge of a line keeps the canonical form. -/
theorem wf_mergeLine {m : Memory} (u : ULine) (w : m.wf = true) : (mergeLine m u).1.wf = true :=
  wf_foldl_writeN _ _ (fun _ _ h => Memory.wf_writeN h) _ w

/-- What a host-line buffer holds is no part of memory (R323). -/
@[simp] theorem State.bufferHost_mem (s : State) (pa n : Nat) (write : Bool) : (s.bufferHost pa n write).mem = s.mem := by
  unfold State.bufferHost
  split <;> rfl

theorem State.wf_mergeU {s : State} (l : Nat) (w : s.mem.wf = true) : (s.mergeU l).mem.wf = true := by
  unfold State.mergeU
  split
  · exact w
  · exact wf_mergeLine _ w

theorem State.wf_foldl {α : Type} (l : List α) (f : State → α → State) (hf : ∀ s a, s.mem.wf = true → (f s a).mem.wf = true)
    (s : State) (w : s.mem.wf = true) : (l.foldl f s).mem.wf = true := by
  induction l generalizing s with
  | nil => exact w
  | cons a l ih => exact ih _ (hf s a w)

theorem State.wf_mergeRange {s : State} (a n : Nat) (w : s.mem.wf = true) : (s.mergeRange a n).mem.wf = true := by
  unfold State.mergeRange
  split
  · exact w
  · exact State.wf_foldl _ _ (fun _ _ h => State.wf_mergeU _ h) _ w

theorem State.wf_touchRegion {s : State} (a : Nat) (w : s.mem.wf = true) : (s.touchRegion a).mem.wf = true := by
  unfold State.touchRegion
  dsimp only
  split <;> exact w

/-- A physical write keeps memory in canonical form. -/
theorem State.wf_physWrite {s : State} (who pa n v : Nat) (w : s.mem.wf = true) : (s.physWrite who pa n v).mem.wf = true := by
  unfold State.physWrite
  dsimp only
  rw [State.bufferHost_mem]
  exact Memory.wf_writeN (State.wf_touchRegion _ (State.wf_mergeRange _ _ w))

/-- A physical read keeps memory in canonical form. -/
theorem State.wf_physRead {s : State} (pa n : Nat) (w : s.mem.wf = true) : (s.physRead pa n).2.mem.wf = true := by
  unfold State.physRead
  rw [State.bufferHost_mem]
  exact State.wf_mergeRange _ _ w

@[simp] theorem State.mergeU_nil {s : State} (h : s.ulines = []) (l : Nat) : s.mergeU l = s := by
  simp [State.mergeU, h, findBy]

/-- Where no line is in the update-only state a read merges nothing. -/
@[simp] theorem State.mergeRange_nil {s : State} (h : s.ulines = []) (a n : Nat) : s.mergeRange a n = s := by
  simp [State.mergeRange, h]

/-- There a read changes what a host-line buffer holds, and nothing else (R323). -/
theorem State.physRead_nil {s : State} (h : s.ulines = []) (pa n : Nat) : s.physRead pa n = (s.mem.readN pa n, s.bufferHost pa n false) := by
  simp [State.physRead, h]

end Sys2Proof.Machine
end

