-- ==== Sys2Proof/Laws/Lookup.lean ====
section
/-! SUPPORT. Looking up an item of a list by a key, after one is replaced or removed. -/

namespace Sys2Proof.Machine

@[simp] theorem findBy_nil {α : Type} (p : α → Bool) : findBy p [] = none := rfl

theorem findBy_some {α : Type} {p : α → Bool} {l : List α} {a : α} (h : findBy p l = some a) : p a = true := by
  induction l with
  | nil => cases h
  | cons b l ih =>
    simp only [findBy] at h
    split at h
    · cases h; assumption
    · exact ih h

theorem findBy_mem {α : Type} {p : α → Bool} {l : List α} {a : α} (h : findBy p l = some a) : a ∈ l := by
  induction l with
  | nil => cases h
  | cons b l ih =>
    simp only [findBy] at h
    split at h
    · cases h; exact List.mem_cons_self
    · exact List.mem_cons_of_mem _ (ih h)

/-- What replaces the item that meets `p` is found by `p`. -/
theorem findBy_putBy_same {α : Type} (p : α → Bool) (b : α) (l : List α) (h : p b = true) : findBy p (putBy p b l) = some b := by
  induction l with
  | nil => simp [putBy, findBy, h]
  | cons a l ih =>
    simp only [putBy]
    split
    · simp [findBy, h]
    · simp [findBy, *]

/-- Replacing the item that meets `p` does not change what another key finds. -/
theorem findBy_putBy_other {α : Type} (p q : α → Bool) (b : α) (l : List α) (hb : q b = false) (h : ∀ a, p a = true → q a = false) :
    findBy q (putBy p b l) = findBy q l := by
  induction l with
  | nil => simp [putBy, findBy, hb]
  | cons a l ih =>
    simp only [putBy]
    split
    · rename_i ha
      simp [findBy, hb, h a ha]
    · simp [findBy, ih]

theorem findBy_dropBy_same {α : Type} (p : α → Bool) (l : List α) : findBy p (dropBy p l) = none := by
  induction l with
  | nil => rfl
  | cons a l ih =>
    simp only [dropBy]
    split
    · exact ih
    · simp [findBy, *]

theorem findBy_dropBy_other {α : Type} (p q : α → Bool) (l : List α) (h : ∀ a, p a = true → q a = false) :
    findBy q (dropBy p l) = findBy q l := by
  induction l with
  | nil => rfl
  | cons a l ih =>
    simp only [dropBy]
    split
    · rename_i ha
      simp [findBy, h a ha, ih]
    · simp [findBy, ih]

/-! ## Units -/

theorem State.portAt_n (s : State) (n : Nat) : (s.portAt n).n = n := by
  unfold State.portAt
  cases h : findBy (fun p : Port => p.n == n) s.ports with
  | none => rfl
  | some p => simpa using findBy_some h

theorem State.dieAt_n (s : State) (n : Nat) : (s.dieAt n).n = n := by
  unfold State.dieAt
  cases h : findBy (fun d : Die => d.n == n) s.dies with
  | none => rfl
  | some p => simpa using findBy_some h

theorem State.stableAt_n (s : State) (n : Nat) : (s.stableAt n).n = n := by
  unfold State.stableAt
  cases h : findBy (fun t : Stable => t.n == n) s.stables with
  | none => rfl
  | some p => simpa using findBy_some h

theorem State.portAt_putPort (s : State) (p : Port) : (s.putPort p).portAt p.n = p := by
  simp [State.portAt, State.putPort, findBy_putBy_same]

theorem State.portAt_putPort_other (s : State) (p : Port) (n : Nat) (h : p.n ≠ n) : (s.putPort p).portAt n = s.portAt n := by
  unfold State.portAt State.putPort
  rw [findBy_putBy_other]
  · simpa using h
  · intro a ha; simp at ha; simpa [ha] using h

theorem State.dieAt_putDie (s : State) (d : Die) : (s.putDie d).dieAt d.n = d := by
  simp [State.dieAt, State.putDie, findBy_putBy_same]

theorem State.dieAt_putDie_other (s : State) (d : Die) (n : Nat) (h : d.n ≠ n) : (s.putDie d).dieAt n = s.dieAt n := by
  unfold State.dieAt State.putDie
  rw [findBy_putBy_other]
  · simpa using h
  · intro a ha; simp at ha; simpa [ha] using h

theorem State.stableAt_putStable (s : State) (t : Stable) : (s.putStable t).stableAt t.n = t := by
  simp [State.stableAt, State.putStable, findBy_putBy_same]

theorem State.stableAt_putStable_other (s : State) (t : Stable) (n : Nat) (h : t.n ≠ n) : (s.putStable t).stableAt n = s.stableAt n := by
  have hf : (s.putStable t).freshStable n = s.freshStable n := rfl
  unfold State.stableAt
  rw [hf]
  unfold State.putStable
  rw [findBy_putBy_other]
  · simpa using h
  · intro a ha; simp at ha; simpa [ha] using h

theorem State.jobAt_putJob (s : State) (j : Job) : (s.putJob j).jobAt j.gang = some j := by
  simp [State.jobAt, State.putJob, findBy_putBy_same]

theorem State.graphAt_putGraph (s : State) (g : Graph) : (s.putGraph g).graphAt g.n = some g := by
  simp [State.graphAt, State.putGraph, findBy_putBy_same]

/-- The hart in focus is found by its id. -/
@[simp] theorem State.findHart_focus (s : State) : s.findHart s.hart.id = some s.hart := by simp [State.findHart]

/-- A hart's record replaced is found by its id. -/
theorem State.findHart_putHart (s : State) (h : Hart) : (s.putHart h).findHart h.id = some h := by
  unfold State.putHart
  split
  · simp [State.findHart]
  · rename_i n
    simp [State.findHart, n, findBy_putBy_same]

/-- Focus on the hart that is in focus changes nothing. -/
@[simp] theorem State.focusOn_self (s : State) : s.focusOn s.hart.id = s := by simp [State.focusOn]

end Sys2Proof.Machine
end

