-- ==== Sys2Proof/Laws/State.lean ====
section
/-! SUPPORT. One lemma for each field under each update of the state and of a hart, so that no proof unfolds a record update. -/

namespace Sys2Proof.Machine

/-! ## `State.onHart` -/

@[simp] theorem State.onHart_hart (s : State) (f : Hart → Hart) : (s.onHart f).hart = f s.hart := rfl
@[simp] theorem State.onHart_others (s : State) (f : Hart → Hart) : (s.onHart f).others = s.others := rfl
@[simp] theorem State.onHart_turns (s : State) (f : Hart → Hart) : (s.onHart f).turns = s.turns := rfl
@[simp] theorem State.onHart_laneEager (s : State) (f : Hart → Hart) : (s.onHart f).laneEager = s.laneEager := rfl
@[simp] theorem State.onHart_jobs (s : State) (f : Hart → Hart) : (s.onHart f).jobs = s.jobs := rfl
@[simp] theorem State.onHart_stables (s : State) (f : Hart → Hart) : (s.onHart f).stables = s.stables := rfl
@[simp] theorem State.onHart_dies (s : State) (f : Hart → Hart) : (s.onHart f).dies = s.dies := rfl
@[simp] theorem State.onHart_ports (s : State) (f : Hart → Hart) : (s.onHart f).ports = s.ports := rfl
@[simp] theorem State.onHart_mem (s : State) (f : Hart → Hart) : (s.onHart f).mem = s.mem := rfl
@[simp] theorem State.onHart_initNext (s : State) (f : Hart → Hart) : (s.onHart f).initNext = s.initNext := rfl
@[simp] theorem State.onHart_initSet (s : State) (f : Hart → Hart) : (s.onHart f).initSet = s.initSet := rfl
@[simp] theorem State.onHart_failing (s : State) (f : Hart → Hart) : (s.onHart f).failing = s.failing := rfl
@[simp] theorem State.onHart_aborting (s : State) (f : Hart → Hart) : (s.onHart f).aborting = s.aborting := rfl
@[simp] theorem State.onHart_funcmode (s : State) (f : Hart → Hart) : (s.onHart f).funcmode = s.funcmode := rfl
@[simp] theorem State.onHart_modelock (s : State) (f : Hart → Hart) : (s.onHart f).modelock = s.modelock := rfl
@[simp] theorem State.onHart_cfglock (s : State) (f : Hart → Hart) : (s.onHart f).cfglock = s.cfglock := rfl
@[simp] theorem State.onHart_winlock (s : State) (f : Hart → Hart) : (s.onHart f).winlock = s.winlock := rfl
@[simp] theorem State.onHart_booterr (s : State) (f : Hart → Hart) : (s.onHart f).booterr = s.booterr := rfl
@[simp] theorem State.onHart_stage (s : State) (f : Hart → Hart) : (s.onHart f).stage = s.stage := rfl
@[simp] theorem State.onHart_recovery (s : State) (f : Hart → Hart) : (s.onHart f).recovery = s.recovery := rfl
@[simp] theorem State.onHart_initdone (s : State) (f : Hart → Hart) : (s.onHart f).initdone = s.initdone := rfl
@[simp] theorem State.onHart_fwok (s : State) (f : Hart → Hart) : (s.onHart f).fwok = s.fwok := rfl
@[simp] theorem State.onHart_ready (s : State) (f : Hart → Hart) : (s.onHart f).ready = s.ready := rfl
@[simp] theorem State.onHart_hsem (s : State) (f : Hart → Hart) : (s.onHart f).hsem = s.hsem := rfl
@[simp] theorem State.onHart_windows (s : State) (f : Hart → Hart) : (s.onHart f).windows = s.windows := rfl
@[simp] theorem State.onHart_epoch (s : State) (f : Hart → Hart) : (s.onHart f).epoch = s.epoch := rfl
@[simp] theorem State.onHart_floors (s : State) (f : Hart → Hart) : (s.onHart f).floors = s.floors := rfl
@[simp] theorem State.onHart_created (s : State) (f : Hart → Hart) : (s.onHart f).created = s.created := rfl
@[simp] theorem State.onHart_secver (s : State) (f : Hart → Hart) : (s.onHart f).secver = s.secver := rfl
@[simp] theorem State.onHart_rings (s : State) (f : Hart → Hart) : (s.onHart f).rings = s.rings := rfl
@[simp] theorem State.onHart_graphs (s : State) (f : Hart → Hart) : (s.onHart f).graphs = s.graphs := rfl
@[simp] theorem State.onHart_nextGraph (s : State) (f : Hart → Hart) : (s.onHart f).nextGraph = s.nextGraph := rfl
@[simp] theorem State.onHart_pending (s : State) (f : Hart → Hart) : (s.onHart f).pending = s.pending := rfl
@[simp] theorem State.onHart_taken (s : State) (f : Hart → Hart) : (s.onHart f).taken = s.taken := rfl
@[simp] theorem State.onHart_nextGang (s : State) (f : Hart → Hart) : (s.onHart f).nextGang = s.nextGang := rfl
@[simp] theorem State.onHart_pins (s : State) (f : Hart → Hart) : (s.onHart f).pins = s.pins := rfl
@[simp] theorem State.onHart_coh (s : State) (f : Hart → Hart) : (s.onHart f).coh = s.coh := rfl
@[simp] theorem State.onHart_ulines (s : State) (f : Hart → Hart) : (s.onHart f).ulines = s.ulines := rfl
@[simp] theorem State.onHart_satf (s : State) (f : Hart → Hart) : (s.onHart f).satf = s.satf := rfl
@[simp] theorem State.onHart_movedPages (s : State) (f : Hart → Hart) : (s.onHart f).movedPages = s.movedPages := rfl
@[simp] theorem State.onHart_linkDown (s : State) (f : Hart → Hart) : (s.onHart f).linkDown = s.linkDown := rfl
@[simp] theorem State.onHart_replays (s : State) (f : Hart → Hart) : (s.onHart f).replays = s.replays := rfl
@[simp] theorem State.onHart_linkTo (s : State) (f : Hart → Hart) : (s.onHart f).linkTo = s.linkTo := rfl
@[simp] theorem State.onHart_device (s : State) (f : Hart → Hart) : (s.onHart f).device = s.device := rfl
@[simp] theorem State.onHart_peers (s : State) (f : Hart → Hart) : (s.onHart f).peers = s.peers := rfl
@[simp] theorem State.onHart_failedDev (s : State) (f : Hart → Hart) : (s.onHart f).failedDev = s.failedDev := rfl
@[simp] theorem State.onHart_exportSlice (s : State) (f : Hart → Hart) : (s.onHart f).exportSlice = s.exportSlice := rfl
@[simp] theorem State.onHart_pcie (s : State) (f : Hart → Hart) : (s.onHart f).pcie = s.pcie := rfl
@[simp] theorem State.onHart_named (s : State) (f : Hart → Hart) : (s.onHart f).named = s.named := rfl
@[simp] theorem State.onHart_checkpts (s : State) (f : Hart → Hart) : (s.onHart f).checkpts = s.checkpts := rfl
@[simp] theorem State.onHart_record (s : State) (f : Hart → Hart) : (s.onHart f).record = s.record := rfl
@[simp] theorem State.onHart_firmware (s : State) (f : Hart → Hart) : (s.onHart f).firmware = s.firmware := rfl
@[simp] theorem State.onHart_fwver (s : State) (f : Hart → Hart) : (s.onHart f).fwver = s.fwver := rfl
@[simp] theorem State.onHart_bringup (s : State) (f : Hart → Hart) : (s.onHart f).bringup = s.bringup := rfl
@[simp] theorem State.onHart_staging (s : State) (f : Hart → Hart) : (s.onHart f).staging = s.staging := rfl
@[simp] theorem State.onHart_fresh (s : State) (f : Hart → Hart) : (s.onHart f).fresh = s.fresh := rfl
@[simp] theorem State.onHart_clock (s : State) (f : Hart → Hart) : (s.onHart f).clock = s.clock := rfl

/-! ## `State.putPort` -/

@[simp] theorem State.putPort_hart (s : State) (p : Port) : (s.putPort p).hart = s.hart := rfl
@[simp] theorem State.putPort_others (s : State) (p : Port) : (s.putPort p).others = s.others := rfl
@[simp] theorem State.putPort_turns (s : State) (p : Port) : (s.putPort p).turns = s.turns := rfl
@[simp] theorem State.putPort_laneEager (s : State) (p : Port) : (s.putPort p).laneEager = s.laneEager := rfl
@[simp] theorem State.putPort_jobs (s : State) (p : Port) : (s.putPort p).jobs = s.jobs := rfl
@[simp] theorem State.putPort_stables (s : State) (p : Port) : (s.putPort p).stables = s.stables := rfl
@[simp] theorem State.putPort_dies (s : State) (p : Port) : (s.putPort p).dies = s.dies := rfl
@[simp] theorem State.putPort_ports (s : State) (p : Port) : (s.putPort p).ports = putBy (fun q : Port => q.n == p.n) p s.ports := rfl
@[simp] theorem State.putPort_mem (s : State) (p : Port) : (s.putPort p).mem = s.mem := rfl
@[simp] theorem State.putPort_initNext (s : State) (p : Port) : (s.putPort p).initNext = s.initNext := rfl
@[simp] theorem State.putPort_initSet (s : State) (p : Port) : (s.putPort p).initSet = s.initSet := rfl
@[simp] theorem State.putPort_failing (s : State) (p : Port) : (s.putPort p).failing = s.failing := rfl
@[simp] theorem State.putPort_aborting (s : State) (p : Port) : (s.putPort p).aborting = s.aborting := rfl
@[simp] theorem State.putPort_funcmode (s : State) (p : Port) : (s.putPort p).funcmode = s.funcmode := rfl
@[simp] theorem State.putPort_modelock (s : State) (p : Port) : (s.putPort p).modelock = s.modelock := rfl
@[simp] theorem State.putPort_cfglock (s : State) (p : Port) : (s.putPort p).cfglock = s.cfglock := rfl
@[simp] theorem State.putPort_winlock (s : State) (p : Port) : (s.putPort p).winlock = s.winlock := rfl
@[simp] theorem State.putPort_booterr (s : State) (p : Port) : (s.putPort p).booterr = s.booterr := rfl
@[simp] theorem State.putPort_stage (s : State) (p : Port) : (s.putPort p).stage = s.stage := rfl
@[simp] theorem State.putPort_recovery (s : State) (p : Port) : (s.putPort p).recovery = s.recovery := rfl
@[simp] theorem State.putPort_initdone (s : State) (p : Port) : (s.putPort p).initdone = s.initdone := rfl
@[simp] theorem State.putPort_fwok (s : State) (p : Port) : (s.putPort p).fwok = s.fwok := rfl
@[simp] theorem State.putPort_ready (s : State) (p : Port) : (s.putPort p).ready = s.ready := rfl
@[simp] theorem State.putPort_hsem (s : State) (p : Port) : (s.putPort p).hsem = s.hsem := rfl
@[simp] theorem State.putPort_windows (s : State) (p : Port) : (s.putPort p).windows = s.windows := rfl
@[simp] theorem State.putPort_epoch (s : State) (p : Port) : (s.putPort p).epoch = s.epoch := rfl
@[simp] theorem State.putPort_floors (s : State) (p : Port) : (s.putPort p).floors = s.floors := rfl
@[simp] theorem State.putPort_created (s : State) (p : Port) : (s.putPort p).created = s.created := rfl
@[simp] theorem State.putPort_secver (s : State) (p : Port) : (s.putPort p).secver = s.secver := rfl
@[simp] theorem State.putPort_rings (s : State) (p : Port) : (s.putPort p).rings = s.rings := rfl
@[simp] theorem State.putPort_graphs (s : State) (p : Port) : (s.putPort p).graphs = s.graphs := rfl
@[simp] theorem State.putPort_nextGraph (s : State) (p : Port) : (s.putPort p).nextGraph = s.nextGraph := rfl
@[simp] theorem State.putPort_pending (s : State) (p : Port) : (s.putPort p).pending = s.pending := rfl
@[simp] theorem State.putPort_taken (s : State) (p : Port) : (s.putPort p).taken = s.taken := rfl
@[simp] theorem State.putPort_nextGang (s : State) (p : Port) : (s.putPort p).nextGang = s.nextGang := rfl
@[simp] theorem State.putPort_pins (s : State) (p : Port) : (s.putPort p).pins = s.pins := rfl
@[simp] theorem State.putPort_coh (s : State) (p : Port) : (s.putPort p).coh = s.coh := rfl
@[simp] theorem State.putPort_ulines (s : State) (p : Port) : (s.putPort p).ulines = s.ulines := rfl
@[simp] theorem State.putPort_satf (s : State) (p : Port) : (s.putPort p).satf = s.satf := rfl
@[simp] theorem State.putPort_movedPages (s : State) (p : Port) : (s.putPort p).movedPages = s.movedPages := rfl
@[simp] theorem State.putPort_linkDown (s : State) (p : Port) : (s.putPort p).linkDown = s.linkDown := rfl
@[simp] theorem State.putPort_replays (s : State) (p : Port) : (s.putPort p).replays = s.replays := rfl
@[simp] theorem State.putPort_linkTo (s : State) (p : Port) : (s.putPort p).linkTo = s.linkTo := rfl
@[simp] theorem State.putPort_device (s : State) (p : Port) : (s.putPort p).device = s.device := rfl
@[simp] theorem State.putPort_peers (s : State) (p : Port) : (s.putPort p).peers = s.peers := rfl
@[simp] theorem State.putPort_failedDev (s : State) (p : Port) : (s.putPort p).failedDev = s.failedDev := rfl
@[simp] theorem State.putPort_exportSlice (s : State) (p : Port) : (s.putPort p).exportSlice = s.exportSlice := rfl
@[simp] theorem State.putPort_pcie (s : State) (p : Port) : (s.putPort p).pcie = s.pcie := rfl
@[simp] theorem State.putPort_named (s : State) (p : Port) : (s.putPort p).named = s.named := rfl
@[simp] theorem State.putPort_checkpts (s : State) (p : Port) : (s.putPort p).checkpts = s.checkpts := rfl
@[simp] theorem State.putPort_record (s : State) (p : Port) : (s.putPort p).record = s.record := rfl
@[simp] theorem State.putPort_firmware (s : State) (p : Port) : (s.putPort p).firmware = s.firmware := rfl
@[simp] theorem State.putPort_fwver (s : State) (p : Port) : (s.putPort p).fwver = s.fwver := rfl
@[simp] theorem State.putPort_bringup (s : State) (p : Port) : (s.putPort p).bringup = s.bringup := rfl
@[simp] theorem State.putPort_staging (s : State) (p : Port) : (s.putPort p).staging = s.staging := rfl
@[simp] theorem State.putPort_fresh (s : State) (p : Port) : (s.putPort p).fresh = s.fresh := rfl
@[simp] theorem State.putPort_clock (s : State) (p : Port) : (s.putPort p).clock = s.clock := rfl

/-! ## `State.putDie` -/

@[simp] theorem State.putDie_hart (s : State) (d : Die) : (s.putDie d).hart = s.hart := rfl
@[simp] theorem State.putDie_others (s : State) (d : Die) : (s.putDie d).others = s.others := rfl
@[simp] theorem State.putDie_turns (s : State) (d : Die) : (s.putDie d).turns = s.turns := rfl
@[simp] theorem State.putDie_laneEager (s : State) (d : Die) : (s.putDie d).laneEager = s.laneEager := rfl
@[simp] theorem State.putDie_jobs (s : State) (d : Die) : (s.putDie d).jobs = s.jobs := rfl
@[simp] theorem State.putDie_stables (s : State) (d : Die) : (s.putDie d).stables = s.stables := rfl
@[simp] theorem State.putDie_dies (s : State) (d : Die) : (s.putDie d).dies = putBy (fun e : Die => e.n == d.n) d s.dies := rfl
@[simp] theorem State.putDie_ports (s : State) (d : Die) : (s.putDie d).ports = s.ports := rfl
@[simp] theorem State.putDie_mem (s : State) (d : Die) : (s.putDie d).mem = s.mem := rfl
@[simp] theorem State.putDie_initNext (s : State) (d : Die) : (s.putDie d).initNext = s.initNext := rfl
@[simp] theorem State.putDie_initSet (s : State) (d : Die) : (s.putDie d).initSet = s.initSet := rfl
@[simp] theorem State.putDie_failing (s : State) (d : Die) : (s.putDie d).failing = s.failing := rfl
@[simp] theorem State.putDie_aborting (s : State) (d : Die) : (s.putDie d).aborting = s.aborting := rfl
@[simp] theorem State.putDie_funcmode (s : State) (d : Die) : (s.putDie d).funcmode = s.funcmode := rfl
@[simp] theorem State.putDie_modelock (s : State) (d : Die) : (s.putDie d).modelock = s.modelock := rfl
@[simp] theorem State.putDie_cfglock (s : State) (d : Die) : (s.putDie d).cfglock = s.cfglock := rfl
@[simp] theorem State.putDie_winlock (s : State) (d : Die) : (s.putDie d).winlock = s.winlock := rfl
@[simp] theorem State.putDie_booterr (s : State) (d : Die) : (s.putDie d).booterr = s.booterr := rfl
@[simp] theorem State.putDie_stage (s : State) (d : Die) : (s.putDie d).stage = s.stage := rfl
@[simp] theorem State.putDie_recovery (s : State) (d : Die) : (s.putDie d).recovery = s.recovery := rfl
@[simp] theorem State.putDie_initdone (s : State) (d : Die) : (s.putDie d).initdone = s.initdone := rfl
@[simp] theorem State.putDie_fwok (s : State) (d : Die) : (s.putDie d).fwok = s.fwok := rfl
@[simp] theorem State.putDie_ready (s : State) (d : Die) : (s.putDie d).ready = s.ready := rfl
@[simp] theorem State.putDie_hsem (s : State) (d : Die) : (s.putDie d).hsem = s.hsem := rfl
@[simp] theorem State.putDie_windows (s : State) (d : Die) : (s.putDie d).windows = s.windows := rfl
@[simp] theorem State.putDie_epoch (s : State) (d : Die) : (s.putDie d).epoch = s.epoch := rfl
@[simp] theorem State.putDie_floors (s : State) (d : Die) : (s.putDie d).floors = s.floors := rfl
@[simp] theorem State.putDie_created (s : State) (d : Die) : (s.putDie d).created = s.created := rfl
@[simp] theorem State.putDie_secver (s : State) (d : Die) : (s.putDie d).secver = s.secver := rfl
@[simp] theorem State.putDie_rings (s : State) (d : Die) : (s.putDie d).rings = s.rings := rfl
@[simp] theorem State.putDie_graphs (s : State) (d : Die) : (s.putDie d).graphs = s.graphs := rfl
@[simp] theorem State.putDie_nextGraph (s : State) (d : Die) : (s.putDie d).nextGraph = s.nextGraph := rfl
@[simp] theorem State.putDie_pending (s : State) (d : Die) : (s.putDie d).pending = s.pending := rfl
@[simp] theorem State.putDie_taken (s : State) (d : Die) : (s.putDie d).taken = s.taken := rfl
@[simp] theorem State.putDie_nextGang (s : State) (d : Die) : (s.putDie d).nextGang = s.nextGang := rfl
@[simp] theorem State.putDie_pins (s : State) (d : Die) : (s.putDie d).pins = s.pins := rfl
@[simp] theorem State.putDie_coh (s : State) (d : Die) : (s.putDie d).coh = s.coh := rfl
@[simp] theorem State.putDie_ulines (s : State) (d : Die) : (s.putDie d).ulines = s.ulines := rfl
@[simp] theorem State.putDie_satf (s : State) (d : Die) : (s.putDie d).satf = s.satf := rfl
@[simp] theorem State.putDie_movedPages (s : State) (d : Die) : (s.putDie d).movedPages = s.movedPages := rfl
@[simp] theorem State.putDie_linkDown (s : State) (d : Die) : (s.putDie d).linkDown = s.linkDown := rfl
@[simp] theorem State.putDie_replays (s : State) (d : Die) : (s.putDie d).replays = s.replays := rfl
@[simp] theorem State.putDie_linkTo (s : State) (d : Die) : (s.putDie d).linkTo = s.linkTo := rfl
@[simp] theorem State.putDie_device (s : State) (d : Die) : (s.putDie d).device = s.device := rfl
@[simp] theorem State.putDie_peers (s : State) (d : Die) : (s.putDie d).peers = s.peers := rfl
@[simp] theorem State.putDie_failedDev (s : State) (d : Die) : (s.putDie d).failedDev = s.failedDev := rfl
@[simp] theorem State.putDie_exportSlice (s : State) (d : Die) : (s.putDie d).exportSlice = s.exportSlice := rfl
@[simp] theorem State.putDie_pcie (s : State) (d : Die) : (s.putDie d).pcie = s.pcie := rfl
@[simp] theorem State.putDie_named (s : State) (d : Die) : (s.putDie d).named = s.named := rfl
@[simp] theorem State.putDie_checkpts (s : State) (d : Die) : (s.putDie d).checkpts = s.checkpts := rfl
@[simp] theorem State.putDie_record (s : State) (d : Die) : (s.putDie d).record = s.record := rfl
@[simp] theorem State.putDie_firmware (s : State) (d : Die) : (s.putDie d).firmware = s.firmware := rfl
@[simp] theorem State.putDie_fwver (s : State) (d : Die) : (s.putDie d).fwver = s.fwver := rfl
@[simp] theorem State.putDie_bringup (s : State) (d : Die) : (s.putDie d).bringup = s.bringup := rfl
@[simp] theorem State.putDie_staging (s : State) (d : Die) : (s.putDie d).staging = s.staging := rfl
@[simp] theorem State.putDie_fresh (s : State) (d : Die) : (s.putDie d).fresh = s.fresh := rfl
@[simp] theorem State.putDie_clock (s : State) (d : Die) : (s.putDie d).clock = s.clock := rfl

/-! ## `State.putStable` -/

@[simp] theorem State.putStable_hart (s : State) (t : Stable) : (s.putStable t).hart = s.hart := rfl
@[simp] theorem State.putStable_others (s : State) (t : Stable) : (s.putStable t).others = s.others := rfl
@[simp] theorem State.putStable_turns (s : State) (t : Stable) : (s.putStable t).turns = s.turns := rfl
@[simp] theorem State.putStable_laneEager (s : State) (t : Stable) : (s.putStable t).laneEager = s.laneEager := rfl
@[simp] theorem State.putStable_jobs (s : State) (t : Stable) : (s.putStable t).jobs = s.jobs := rfl
@[simp] theorem State.putStable_stables (s : State) (t : Stable) : (s.putStable t).stables = putBy (fun u : Stable => u.n == t.n) t s.stables := rfl
@[simp] theorem State.putStable_dies (s : State) (t : Stable) : (s.putStable t).dies = s.dies := rfl
@[simp] theorem State.putStable_ports (s : State) (t : Stable) : (s.putStable t).ports = s.ports := rfl
@[simp] theorem State.putStable_mem (s : State) (t : Stable) : (s.putStable t).mem = s.mem := rfl
@[simp] theorem State.putStable_initNext (s : State) (t : Stable) : (s.putStable t).initNext = s.initNext := rfl
@[simp] theorem State.putStable_initSet (s : State) (t : Stable) : (s.putStable t).initSet = s.initSet := rfl
@[simp] theorem State.putStable_failing (s : State) (t : Stable) : (s.putStable t).failing = s.failing := rfl
@[simp] theorem State.putStable_aborting (s : State) (t : Stable) : (s.putStable t).aborting = s.aborting := rfl
@[simp] theorem State.putStable_funcmode (s : State) (t : Stable) : (s.putStable t).funcmode = s.funcmode := rfl
@[simp] theorem State.putStable_modelock (s : State) (t : Stable) : (s.putStable t).modelock = s.modelock := rfl
@[simp] theorem State.putStable_cfglock (s : State) (t : Stable) : (s.putStable t).cfglock = s.cfglock := rfl
@[simp] theorem State.putStable_winlock (s : State) (t : Stable) : (s.putStable t).winlock = s.winlock := rfl
@[simp] theorem State.putStable_booterr (s : State) (t : Stable) : (s.putStable t).booterr = s.booterr := rfl
@[simp] theorem State.putStable_stage (s : State) (t : Stable) : (s.putStable t).stage = s.stage := rfl
@[simp] theorem State.putStable_recovery (s : State) (t : Stable) : (s.putStable t).recovery = s.recovery := rfl
@[simp] theorem State.putStable_initdone (s : State) (t : Stable) : (s.putStable t).initdone = s.initdone := rfl
@[simp] theorem State.putStable_fwok (s : State) (t : Stable) : (s.putStable t).fwok = s.fwok := rfl
@[simp] theorem State.putStable_ready (s : State) (t : Stable) : (s.putStable t).ready = s.ready := rfl
@[simp] theorem State.putStable_hsem (s : State) (t : Stable) : (s.putStable t).hsem = s.hsem := rfl
@[simp] theorem State.putStable_windows (s : State) (t : Stable) : (s.putStable t).windows = s.windows := rfl
@[simp] theorem State.putStable_epoch (s : State) (t : Stable) : (s.putStable t).epoch = s.epoch := rfl
@[simp] theorem State.putStable_floors (s : State) (t : Stable) : (s.putStable t).floors = s.floors := rfl
@[simp] theorem State.putStable_created (s : State) (t : Stable) : (s.putStable t).created = s.created := rfl
@[simp] theorem State.putStable_secver (s : State) (t : Stable) : (s.putStable t).secver = s.secver := rfl
@[simp] theorem State.putStable_rings (s : State) (t : Stable) : (s.putStable t).rings = s.rings := rfl
@[simp] theorem State.putStable_graphs (s : State) (t : Stable) : (s.putStable t).graphs = s.graphs := rfl
@[simp] theorem State.putStable_nextGraph (s : State) (t : Stable) : (s.putStable t).nextGraph = s.nextGraph := rfl
@[simp] theorem State.putStable_pending (s : State) (t : Stable) : (s.putStable t).pending = s.pending := rfl
@[simp] theorem State.putStable_taken (s : State) (t : Stable) : (s.putStable t).taken = s.taken := rfl
@[simp] theorem State.putStable_nextGang (s : State) (t : Stable) : (s.putStable t).nextGang = s.nextGang := rfl
@[simp] theorem State.putStable_pins (s : State) (t : Stable) : (s.putStable t).pins = s.pins := rfl
@[simp] theorem State.putStable_coh (s : State) (t : Stable) : (s.putStable t).coh = s.coh := rfl
@[simp] theorem State.putStable_ulines (s : State) (t : Stable) : (s.putStable t).ulines = s.ulines := rfl
@[simp] theorem State.putStable_satf (s : State) (t : Stable) : (s.putStable t).satf = s.satf := rfl
@[simp] theorem State.putStable_movedPages (s : State) (t : Stable) : (s.putStable t).movedPages = s.movedPages := rfl
@[simp] theorem State.putStable_linkDown (s : State) (t : Stable) : (s.putStable t).linkDown = s.linkDown := rfl
@[simp] theorem State.putStable_replays (s : State) (t : Stable) : (s.putStable t).replays = s.replays := rfl
@[simp] theorem State.putStable_linkTo (s : State) (t : Stable) : (s.putStable t).linkTo = s.linkTo := rfl
@[simp] theorem State.putStable_device (s : State) (t : Stable) : (s.putStable t).device = s.device := rfl
@[simp] theorem State.putStable_peers (s : State) (t : Stable) : (s.putStable t).peers = s.peers := rfl
@[simp] theorem State.putStable_failedDev (s : State) (t : Stable) : (s.putStable t).failedDev = s.failedDev := rfl
@[simp] theorem State.putStable_exportSlice (s : State) (t : Stable) : (s.putStable t).exportSlice = s.exportSlice := rfl
@[simp] theorem State.putStable_pcie (s : State) (t : Stable) : (s.putStable t).pcie = s.pcie := rfl
@[simp] theorem State.putStable_named (s : State) (t : Stable) : (s.putStable t).named = s.named := rfl
@[simp] theorem State.putStable_checkpts (s : State) (t : Stable) : (s.putStable t).checkpts = s.checkpts := rfl
@[simp] theorem State.putStable_record (s : State) (t : Stable) : (s.putStable t).record = s.record := rfl
@[simp] theorem State.putStable_firmware (s : State) (t : Stable) : (s.putStable t).firmware = s.firmware := rfl
@[simp] theorem State.putStable_fwver (s : State) (t : Stable) : (s.putStable t).fwver = s.fwver := rfl
@[simp] theorem State.putStable_bringup (s : State) (t : Stable) : (s.putStable t).bringup = s.bringup := rfl
@[simp] theorem State.putStable_staging (s : State) (t : Stable) : (s.putStable t).staging = s.staging := rfl
@[simp] theorem State.putStable_fresh (s : State) (t : Stable) : (s.putStable t).fresh = s.fresh := rfl
@[simp] theorem State.putStable_clock (s : State) (t : Stable) : (s.putStable t).clock = s.clock := rfl

/-! ## `State.putJob` -/

@[simp] theorem State.putJob_hart (s : State) (j : Job) : (s.putJob j).hart = s.hart := rfl
@[simp] theorem State.putJob_others (s : State) (j : Job) : (s.putJob j).others = s.others := rfl
@[simp] theorem State.putJob_turns (s : State) (j : Job) : (s.putJob j).turns = s.turns := rfl
@[simp] theorem State.putJob_laneEager (s : State) (j : Job) : (s.putJob j).laneEager = s.laneEager := rfl
@[simp] theorem State.putJob_jobs (s : State) (j : Job) : (s.putJob j).jobs = putBy (fun k : Job => k.gang == j.gang) j s.jobs := rfl
@[simp] theorem State.putJob_stables (s : State) (j : Job) : (s.putJob j).stables = s.stables := rfl
@[simp] theorem State.putJob_dies (s : State) (j : Job) : (s.putJob j).dies = s.dies := rfl
@[simp] theorem State.putJob_ports (s : State) (j : Job) : (s.putJob j).ports = s.ports := rfl
@[simp] theorem State.putJob_mem (s : State) (j : Job) : (s.putJob j).mem = s.mem := rfl
@[simp] theorem State.putJob_initNext (s : State) (j : Job) : (s.putJob j).initNext = s.initNext := rfl
@[simp] theorem State.putJob_initSet (s : State) (j : Job) : (s.putJob j).initSet = s.initSet := rfl
@[simp] theorem State.putJob_failing (s : State) (j : Job) : (s.putJob j).failing = s.failing := rfl
@[simp] theorem State.putJob_aborting (s : State) (j : Job) : (s.putJob j).aborting = s.aborting := rfl
@[simp] theorem State.putJob_funcmode (s : State) (j : Job) : (s.putJob j).funcmode = s.funcmode := rfl
@[simp] theorem State.putJob_modelock (s : State) (j : Job) : (s.putJob j).modelock = s.modelock := rfl
@[simp] theorem State.putJob_cfglock (s : State) (j : Job) : (s.putJob j).cfglock = s.cfglock := rfl
@[simp] theorem State.putJob_winlock (s : State) (j : Job) : (s.putJob j).winlock = s.winlock := rfl
@[simp] theorem State.putJob_booterr (s : State) (j : Job) : (s.putJob j).booterr = s.booterr := rfl
@[simp] theorem State.putJob_stage (s : State) (j : Job) : (s.putJob j).stage = s.stage := rfl
@[simp] theorem State.putJob_recovery (s : State) (j : Job) : (s.putJob j).recovery = s.recovery := rfl
@[simp] theorem State.putJob_initdone (s : State) (j : Job) : (s.putJob j).initdone = s.initdone := rfl
@[simp] theorem State.putJob_fwok (s : State) (j : Job) : (s.putJob j).fwok = s.fwok := rfl
@[simp] theorem State.putJob_ready (s : State) (j : Job) : (s.putJob j).ready = s.ready := rfl
@[simp] theorem State.putJob_hsem (s : State) (j : Job) : (s.putJob j).hsem = s.hsem := rfl
@[simp] theorem State.putJob_windows (s : State) (j : Job) : (s.putJob j).windows = s.windows := rfl
@[simp] theorem State.putJob_epoch (s : State) (j : Job) : (s.putJob j).epoch = s.epoch := rfl
@[simp] theorem State.putJob_floors (s : State) (j : Job) : (s.putJob j).floors = s.floors := rfl
@[simp] theorem State.putJob_created (s : State) (j : Job) : (s.putJob j).created = s.created := rfl
@[simp] theorem State.putJob_secver (s : State) (j : Job) : (s.putJob j).secver = s.secver := rfl
@[simp] theorem State.putJob_rings (s : State) (j : Job) : (s.putJob j).rings = s.rings := rfl
@[simp] theorem State.putJob_graphs (s : State) (j : Job) : (s.putJob j).graphs = s.graphs := rfl
@[simp] theorem State.putJob_nextGraph (s : State) (j : Job) : (s.putJob j).nextGraph = s.nextGraph := rfl
@[simp] theorem State.putJob_pending (s : State) (j : Job) : (s.putJob j).pending = s.pending := rfl
@[simp] theorem State.putJob_taken (s : State) (j : Job) : (s.putJob j).taken = s.taken := rfl
@[simp] theorem State.putJob_nextGang (s : State) (j : Job) : (s.putJob j).nextGang = s.nextGang := rfl
@[simp] theorem State.putJob_pins (s : State) (j : Job) : (s.putJob j).pins = s.pins := rfl
@[simp] theorem State.putJob_coh (s : State) (j : Job) : (s.putJob j).coh = s.coh := rfl
@[simp] theorem State.putJob_ulines (s : State) (j : Job) : (s.putJob j).ulines = s.ulines := rfl
@[simp] theorem State.putJob_satf (s : State) (j : Job) : (s.putJob j).satf = s.satf := rfl
@[simp] theorem State.putJob_movedPages (s : State) (j : Job) : (s.putJob j).movedPages = s.movedPages := rfl
@[simp] theorem State.putJob_linkDown (s : State) (j : Job) : (s.putJob j).linkDown = s.linkDown := rfl
@[simp] theorem State.putJob_replays (s : State) (j : Job) : (s.putJob j).replays = s.replays := rfl
@[simp] theorem State.putJob_linkTo (s : State) (j : Job) : (s.putJob j).linkTo = s.linkTo := rfl
@[simp] theorem State.putJob_device (s : State) (j : Job) : (s.putJob j).device = s.device := rfl
@[simp] theorem State.putJob_peers (s : State) (j : Job) : (s.putJob j).peers = s.peers := rfl
@[simp] theorem State.putJob_failedDev (s : State) (j : Job) : (s.putJob j).failedDev = s.failedDev := rfl
@[simp] theorem State.putJob_exportSlice (s : State) (j : Job) : (s.putJob j).exportSlice = s.exportSlice := rfl
@[simp] theorem State.putJob_pcie (s : State) (j : Job) : (s.putJob j).pcie = s.pcie := rfl
@[simp] theorem State.putJob_named (s : State) (j : Job) : (s.putJob j).named = s.named := rfl
@[simp] theorem State.putJob_checkpts (s : State) (j : Job) : (s.putJob j).checkpts = s.checkpts := rfl
@[simp] theorem State.putJob_record (s : State) (j : Job) : (s.putJob j).record = s.record := rfl
@[simp] theorem State.putJob_firmware (s : State) (j : Job) : (s.putJob j).firmware = s.firmware := rfl
@[simp] theorem State.putJob_fwver (s : State) (j : Job) : (s.putJob j).fwver = s.fwver := rfl
@[simp] theorem State.putJob_bringup (s : State) (j : Job) : (s.putJob j).bringup = s.bringup := rfl
@[simp] theorem State.putJob_staging (s : State) (j : Job) : (s.putJob j).staging = s.staging := rfl
@[simp] theorem State.putJob_fresh (s : State) (j : Job) : (s.putJob j).fresh = s.fresh := rfl
@[simp] theorem State.putJob_clock (s : State) (j : Job) : (s.putJob j).clock = s.clock := rfl

/-! ## `State.putGraph` -/

@[simp] theorem State.putGraph_hart (s : State) (g : Graph) : (s.putGraph g).hart = s.hart := rfl
@[simp] theorem State.putGraph_others (s : State) (g : Graph) : (s.putGraph g).others = s.others := rfl
@[simp] theorem State.putGraph_turns (s : State) (g : Graph) : (s.putGraph g).turns = s.turns := rfl
@[simp] theorem State.putGraph_laneEager (s : State) (g : Graph) : (s.putGraph g).laneEager = s.laneEager := rfl
@[simp] theorem State.putGraph_jobs (s : State) (g : Graph) : (s.putGraph g).jobs = s.jobs := rfl
@[simp] theorem State.putGraph_stables (s : State) (g : Graph) : (s.putGraph g).stables = s.stables := rfl
@[simp] theorem State.putGraph_dies (s : State) (g : Graph) : (s.putGraph g).dies = s.dies := rfl
@[simp] theorem State.putGraph_ports (s : State) (g : Graph) : (s.putGraph g).ports = s.ports := rfl
@[simp] theorem State.putGraph_mem (s : State) (g : Graph) : (s.putGraph g).mem = s.mem := rfl
@[simp] theorem State.putGraph_initNext (s : State) (g : Graph) : (s.putGraph g).initNext = s.initNext := rfl
@[simp] theorem State.putGraph_initSet (s : State) (g : Graph) : (s.putGraph g).initSet = s.initSet := rfl
@[simp] theorem State.putGraph_failing (s : State) (g : Graph) : (s.putGraph g).failing = s.failing := rfl
@[simp] theorem State.putGraph_aborting (s : State) (g : Graph) : (s.putGraph g).aborting = s.aborting := rfl
@[simp] theorem State.putGraph_funcmode (s : State) (g : Graph) : (s.putGraph g).funcmode = s.funcmode := rfl
@[simp] theorem State.putGraph_modelock (s : State) (g : Graph) : (s.putGraph g).modelock = s.modelock := rfl
@[simp] theorem State.putGraph_cfglock (s : State) (g : Graph) : (s.putGraph g).cfglock = s.cfglock := rfl
@[simp] theorem State.putGraph_winlock (s : State) (g : Graph) : (s.putGraph g).winlock = s.winlock := rfl
@[simp] theorem State.putGraph_booterr (s : State) (g : Graph) : (s.putGraph g).booterr = s.booterr := rfl
@[simp] theorem State.putGraph_stage (s : State) (g : Graph) : (s.putGraph g).stage = s.stage := rfl
@[simp] theorem State.putGraph_recovery (s : State) (g : Graph) : (s.putGraph g).recovery = s.recovery := rfl
@[simp] theorem State.putGraph_initdone (s : State) (g : Graph) : (s.putGraph g).initdone = s.initdone := rfl
@[simp] theorem State.putGraph_fwok (s : State) (g : Graph) : (s.putGraph g).fwok = s.fwok := rfl
@[simp] theorem State.putGraph_ready (s : State) (g : Graph) : (s.putGraph g).ready = s.ready := rfl
@[simp] theorem State.putGraph_hsem (s : State) (g : Graph) : (s.putGraph g).hsem = s.hsem := rfl
@[simp] theorem State.putGraph_windows (s : State) (g : Graph) : (s.putGraph g).windows = s.windows := rfl
@[simp] theorem State.putGraph_epoch (s : State) (g : Graph) : (s.putGraph g).epoch = s.epoch := rfl
@[simp] theorem State.putGraph_floors (s : State) (g : Graph) : (s.putGraph g).floors = s.floors := rfl
@[simp] theorem State.putGraph_created (s : State) (g : Graph) : (s.putGraph g).created = s.created := rfl
@[simp] theorem State.putGraph_secver (s : State) (g : Graph) : (s.putGraph g).secver = s.secver := rfl
@[simp] theorem State.putGraph_rings (s : State) (g : Graph) : (s.putGraph g).rings = s.rings := rfl
@[simp] theorem State.putGraph_graphs (s : State) (g : Graph) : (s.putGraph g).graphs = putBy (fun q : Graph => q.n == g.n) g s.graphs := rfl
@[simp] theorem State.putGraph_nextGraph (s : State) (g : Graph) : (s.putGraph g).nextGraph = s.nextGraph := rfl
@[simp] theorem State.putGraph_pending (s : State) (g : Graph) : (s.putGraph g).pending = s.pending := rfl
@[simp] theorem State.putGraph_taken (s : State) (g : Graph) : (s.putGraph g).taken = s.taken := rfl
@[simp] theorem State.putGraph_nextGang (s : State) (g : Graph) : (s.putGraph g).nextGang = s.nextGang := rfl
@[simp] theorem State.putGraph_pins (s : State) (g : Graph) : (s.putGraph g).pins = s.pins := rfl
@[simp] theorem State.putGraph_coh (s : State) (g : Graph) : (s.putGraph g).coh = s.coh := rfl
@[simp] theorem State.putGraph_ulines (s : State) (g : Graph) : (s.putGraph g).ulines = s.ulines := rfl
@[simp] theorem State.putGraph_satf (s : State) (g : Graph) : (s.putGraph g).satf = s.satf := rfl
@[simp] theorem State.putGraph_movedPages (s : State) (g : Graph) : (s.putGraph g).movedPages = s.movedPages := rfl
@[simp] theorem State.putGraph_linkDown (s : State) (g : Graph) : (s.putGraph g).linkDown = s.linkDown := rfl
@[simp] theorem State.putGraph_replays (s : State) (g : Graph) : (s.putGraph g).replays = s.replays := rfl
@[simp] theorem State.putGraph_linkTo (s : State) (g : Graph) : (s.putGraph g).linkTo = s.linkTo := rfl
@[simp] theorem State.putGraph_device (s : State) (g : Graph) : (s.putGraph g).device = s.device := rfl
@[simp] theorem State.putGraph_peers (s : State) (g : Graph) : (s.putGraph g).peers = s.peers := rfl
@[simp] theorem State.putGraph_failedDev (s : State) (g : Graph) : (s.putGraph g).failedDev = s.failedDev := rfl
@[simp] theorem State.putGraph_exportSlice (s : State) (g : Graph) : (s.putGraph g).exportSlice = s.exportSlice := rfl
@[simp] theorem State.putGraph_pcie (s : State) (g : Graph) : (s.putGraph g).pcie = s.pcie := rfl
@[simp] theorem State.putGraph_named (s : State) (g : Graph) : (s.putGraph g).named = s.named := rfl
@[simp] theorem State.putGraph_checkpts (s : State) (g : Graph) : (s.putGraph g).checkpts = s.checkpts := rfl
@[simp] theorem State.putGraph_record (s : State) (g : Graph) : (s.putGraph g).record = s.record := rfl
@[simp] theorem State.putGraph_firmware (s : State) (g : Graph) : (s.putGraph g).firmware = s.firmware := rfl
@[simp] theorem State.putGraph_fwver (s : State) (g : Graph) : (s.putGraph g).fwver = s.fwver := rfl
@[simp] theorem State.putGraph_bringup (s : State) (g : Graph) : (s.putGraph g).bringup = s.bringup := rfl
@[simp] theorem State.putGraph_staging (s : State) (g : Graph) : (s.putGraph g).staging = s.staging := rfl
@[simp] theorem State.putGraph_fresh (s : State) (g : Graph) : (s.putGraph g).fresh = s.fresh := rfl
@[simp] theorem State.putGraph_clock (s : State) (g : Graph) : (s.putGraph g).clock = s.clock := rfl

/-! ## `State.push` -/

@[simp] theorem State.push_hart (s : State) (l : List Instr) : (s.push l).hart = s.hart := rfl
@[simp] theorem State.push_others (s : State) (l : List Instr) : (s.push l).others = s.others := rfl
@[simp] theorem State.push_turns (s : State) (l : List Instr) : (s.push l).turns = s.turns ++ l.map Turn.device := rfl
@[simp] theorem State.push_laneEager (s : State) (l : List Instr) : (s.push l).laneEager = s.laneEager := rfl
@[simp] theorem State.push_jobs (s : State) (l : List Instr) : (s.push l).jobs = s.jobs := rfl
@[simp] theorem State.push_stables (s : State) (l : List Instr) : (s.push l).stables = s.stables := rfl
@[simp] theorem State.push_dies (s : State) (l : List Instr) : (s.push l).dies = s.dies := rfl
@[simp] theorem State.push_ports (s : State) (l : List Instr) : (s.push l).ports = s.ports := rfl
@[simp] theorem State.push_mem (s : State) (l : List Instr) : (s.push l).mem = s.mem := rfl
@[simp] theorem State.push_initNext (s : State) (l : List Instr) : (s.push l).initNext = s.initNext := rfl
@[simp] theorem State.push_initSet (s : State) (l : List Instr) : (s.push l).initSet = s.initSet := rfl
@[simp] theorem State.push_failing (s : State) (l : List Instr) : (s.push l).failing = s.failing := rfl
@[simp] theorem State.push_aborting (s : State) (l : List Instr) : (s.push l).aborting = s.aborting := rfl
@[simp] theorem State.push_funcmode (s : State) (l : List Instr) : (s.push l).funcmode = s.funcmode := rfl
@[simp] theorem State.push_modelock (s : State) (l : List Instr) : (s.push l).modelock = s.modelock := rfl
@[simp] theorem State.push_cfglock (s : State) (l : List Instr) : (s.push l).cfglock = s.cfglock := rfl
@[simp] theorem State.push_winlock (s : State) (l : List Instr) : (s.push l).winlock = s.winlock := rfl
@[simp] theorem State.push_booterr (s : State) (l : List Instr) : (s.push l).booterr = s.booterr := rfl
@[simp] theorem State.push_stage (s : State) (l : List Instr) : (s.push l).stage = s.stage := rfl
@[simp] theorem State.push_recovery (s : State) (l : List Instr) : (s.push l).recovery = s.recovery := rfl
@[simp] theorem State.push_initdone (s : State) (l : List Instr) : (s.push l).initdone = s.initdone := rfl
@[simp] theorem State.push_fwok (s : State) (l : List Instr) : (s.push l).fwok = s.fwok := rfl
@[simp] theorem State.push_ready (s : State) (l : List Instr) : (s.push l).ready = s.ready := rfl
@[simp] theorem State.push_hsem (s : State) (l : List Instr) : (s.push l).hsem = s.hsem := rfl
@[simp] theorem State.push_windows (s : State) (l : List Instr) : (s.push l).windows = s.windows := rfl
@[simp] theorem State.push_epoch (s : State) (l : List Instr) : (s.push l).epoch = s.epoch := rfl
@[simp] theorem State.push_floors (s : State) (l : List Instr) : (s.push l).floors = s.floors := rfl
@[simp] theorem State.push_created (s : State) (l : List Instr) : (s.push l).created = s.created := rfl
@[simp] theorem State.push_secver (s : State) (l : List Instr) : (s.push l).secver = s.secver := rfl
@[simp] theorem State.push_rings (s : State) (l : List Instr) : (s.push l).rings = s.rings := rfl
@[simp] theorem State.push_graphs (s : State) (l : List Instr) : (s.push l).graphs = s.graphs := rfl
@[simp] theorem State.push_nextGraph (s : State) (l : List Instr) : (s.push l).nextGraph = s.nextGraph := rfl
@[simp] theorem State.push_pending (s : State) (l : List Instr) : (s.push l).pending = s.pending := rfl
@[simp] theorem State.push_taken (s : State) (l : List Instr) : (s.push l).taken = s.taken := rfl
@[simp] theorem State.push_nextGang (s : State) (l : List Instr) : (s.push l).nextGang = s.nextGang := rfl
@[simp] theorem State.push_pins (s : State) (l : List Instr) : (s.push l).pins = s.pins := rfl
@[simp] theorem State.push_coh (s : State) (l : List Instr) : (s.push l).coh = s.coh := rfl
@[simp] theorem State.push_ulines (s : State) (l : List Instr) : (s.push l).ulines = s.ulines := rfl
@[simp] theorem State.push_satf (s : State) (l : List Instr) : (s.push l).satf = s.satf := rfl
@[simp] theorem State.push_movedPages (s : State) (l : List Instr) : (s.push l).movedPages = s.movedPages := rfl
@[simp] theorem State.push_linkDown (s : State) (l : List Instr) : (s.push l).linkDown = s.linkDown := rfl
@[simp] theorem State.push_replays (s : State) (l : List Instr) : (s.push l).replays = s.replays := rfl
@[simp] theorem State.push_linkTo (s : State) (l : List Instr) : (s.push l).linkTo = s.linkTo := rfl
@[simp] theorem State.push_device (s : State) (l : List Instr) : (s.push l).device = s.device := rfl
@[simp] theorem State.push_peers (s : State) (l : List Instr) : (s.push l).peers = s.peers := rfl
@[simp] theorem State.push_failedDev (s : State) (l : List Instr) : (s.push l).failedDev = s.failedDev := rfl
@[simp] theorem State.push_exportSlice (s : State) (l : List Instr) : (s.push l).exportSlice = s.exportSlice := rfl
@[simp] theorem State.push_pcie (s : State) (l : List Instr) : (s.push l).pcie = s.pcie := rfl
@[simp] theorem State.push_named (s : State) (l : List Instr) : (s.push l).named = s.named := rfl
@[simp] theorem State.push_checkpts (s : State) (l : List Instr) : (s.push l).checkpts = s.checkpts := rfl
@[simp] theorem State.push_record (s : State) (l : List Instr) : (s.push l).record = s.record := rfl
@[simp] theorem State.push_firmware (s : State) (l : List Instr) : (s.push l).firmware = s.firmware := rfl
@[simp] theorem State.push_fwver (s : State) (l : List Instr) : (s.push l).fwver = s.fwver := rfl
@[simp] theorem State.push_bringup (s : State) (l : List Instr) : (s.push l).bringup = s.bringup := rfl
@[simp] theorem State.push_staging (s : State) (l : List Instr) : (s.push l).staging = s.staging := rfl
@[simp] theorem State.push_fresh (s : State) (l : List Instr) : (s.push l).fresh = s.fresh := rfl
@[simp] theorem State.push_clock (s : State) (l : List Instr) : (s.push l).clock = s.clock := rfl

/-! ## `State.went` -/

@[simp] theorem State.went_hart (s : State) (pc : Word) : (s.went pc).hart = s.hart.passed pc := rfl
@[simp] theorem State.went_others (s : State) (pc : Word) : (s.went pc).others = s.others := rfl
@[simp] theorem State.went_turns (s : State) (pc : Word) : (s.went pc).turns = s.turns := rfl
@[simp] theorem State.went_laneEager (s : State) (pc : Word) : (s.went pc).laneEager = s.laneEager := rfl
@[simp] theorem State.went_jobs (s : State) (pc : Word) : (s.went pc).jobs = s.jobs := rfl
@[simp] theorem State.went_stables (s : State) (pc : Word) : (s.went pc).stables = s.stables := rfl
@[simp] theorem State.went_dies (s : State) (pc : Word) : (s.went pc).dies = s.dies := rfl
@[simp] theorem State.went_ports (s : State) (pc : Word) : (s.went pc).ports = s.ports := rfl
@[simp] theorem State.went_mem (s : State) (pc : Word) : (s.went pc).mem = s.mem := rfl
@[simp] theorem State.went_initNext (s : State) (pc : Word) : (s.went pc).initNext = s.initNext := rfl
@[simp] theorem State.went_initSet (s : State) (pc : Word) : (s.went pc).initSet = s.initSet := rfl
@[simp] theorem State.went_failing (s : State) (pc : Word) : (s.went pc).failing = s.failing := rfl
@[simp] theorem State.went_aborting (s : State) (pc : Word) : (s.went pc).aborting = s.aborting := rfl
@[simp] theorem State.went_funcmode (s : State) (pc : Word) : (s.went pc).funcmode = s.funcmode := rfl
@[simp] theorem State.went_modelock (s : State) (pc : Word) : (s.went pc).modelock = s.modelock := rfl
@[simp] theorem State.went_cfglock (s : State) (pc : Word) : (s.went pc).cfglock = s.cfglock := rfl
@[simp] theorem State.went_winlock (s : State) (pc : Word) : (s.went pc).winlock = s.winlock := rfl
@[simp] theorem State.went_booterr (s : State) (pc : Word) : (s.went pc).booterr = s.booterr := rfl
@[simp] theorem State.went_stage (s : State) (pc : Word) : (s.went pc).stage = s.stage := rfl
@[simp] theorem State.went_recovery (s : State) (pc : Word) : (s.went pc).recovery = s.recovery := rfl
@[simp] theorem State.went_initdone (s : State) (pc : Word) : (s.went pc).initdone = s.initdone := rfl
@[simp] theorem State.went_fwok (s : State) (pc : Word) : (s.went pc).fwok = s.fwok := rfl
@[simp] theorem State.went_ready (s : State) (pc : Word) : (s.went pc).ready = s.ready := rfl
@[simp] theorem State.went_hsem (s : State) (pc : Word) : (s.went pc).hsem = s.hsem := rfl
@[simp] theorem State.went_windows (s : State) (pc : Word) : (s.went pc).windows = s.windows := rfl
@[simp] theorem State.went_epoch (s : State) (pc : Word) : (s.went pc).epoch = s.epoch := rfl
@[simp] theorem State.went_floors (s : State) (pc : Word) : (s.went pc).floors = s.floors := rfl
@[simp] theorem State.went_created (s : State) (pc : Word) : (s.went pc).created = s.created := rfl
@[simp] theorem State.went_secver (s : State) (pc : Word) : (s.went pc).secver = s.secver := rfl
@[simp] theorem State.went_rings (s : State) (pc : Word) : (s.went pc).rings = s.rings := rfl
@[simp] theorem State.went_graphs (s : State) (pc : Word) : (s.went pc).graphs = s.graphs := rfl
@[simp] theorem State.went_nextGraph (s : State) (pc : Word) : (s.went pc).nextGraph = s.nextGraph := rfl
@[simp] theorem State.went_pending (s : State) (pc : Word) : (s.went pc).pending = s.pending := rfl
@[simp] theorem State.went_taken (s : State) (pc : Word) : (s.went pc).taken = s.taken := rfl
@[simp] theorem State.went_nextGang (s : State) (pc : Word) : (s.went pc).nextGang = s.nextGang := rfl
@[simp] theorem State.went_pins (s : State) (pc : Word) : (s.went pc).pins = s.pins := rfl
@[simp] theorem State.went_coh (s : State) (pc : Word) : (s.went pc).coh = s.coh := rfl
@[simp] theorem State.went_ulines (s : State) (pc : Word) : (s.went pc).ulines = s.ulines := rfl
@[simp] theorem State.went_satf (s : State) (pc : Word) : (s.went pc).satf = s.satf := rfl
@[simp] theorem State.went_movedPages (s : State) (pc : Word) : (s.went pc).movedPages = s.movedPages := rfl
@[simp] theorem State.went_linkDown (s : State) (pc : Word) : (s.went pc).linkDown = s.linkDown := rfl
@[simp] theorem State.went_replays (s : State) (pc : Word) : (s.went pc).replays = s.replays := rfl
@[simp] theorem State.went_linkTo (s : State) (pc : Word) : (s.went pc).linkTo = s.linkTo := rfl
@[simp] theorem State.went_device (s : State) (pc : Word) : (s.went pc).device = s.device := rfl
@[simp] theorem State.went_peers (s : State) (pc : Word) : (s.went pc).peers = s.peers := rfl
@[simp] theorem State.went_failedDev (s : State) (pc : Word) : (s.went pc).failedDev = s.failedDev := rfl
@[simp] theorem State.went_exportSlice (s : State) (pc : Word) : (s.went pc).exportSlice = s.exportSlice := rfl
@[simp] theorem State.went_pcie (s : State) (pc : Word) : (s.went pc).pcie = s.pcie := rfl
@[simp] theorem State.went_named (s : State) (pc : Word) : (s.went pc).named = s.named := rfl
@[simp] theorem State.went_checkpts (s : State) (pc : Word) : (s.went pc).checkpts = s.checkpts := rfl
@[simp] theorem State.went_record (s : State) (pc : Word) : (s.went pc).record = s.record := rfl
@[simp] theorem State.went_firmware (s : State) (pc : Word) : (s.went pc).firmware = s.firmware := rfl
@[simp] theorem State.went_fwver (s : State) (pc : Word) : (s.went pc).fwver = s.fwver := rfl
@[simp] theorem State.went_bringup (s : State) (pc : Word) : (s.went pc).bringup = s.bringup := rfl
@[simp] theorem State.went_staging (s : State) (pc : Word) : (s.went pc).staging = s.staging := rfl
@[simp] theorem State.went_fresh (s : State) (pc : Word) : (s.went pc).fresh = s.fresh := rfl
@[simp] theorem State.went_clock (s : State) (pc : Word) : (s.went pc).clock = s.clock := rfl

/-! ## `Hart.setX`: a write to x0 is discarded (R5) -/

@[simp] theorem Hart.setX_id (h : Hart) (r : Reg) (v : Word) : (h.setX r v).id = h.id := by unfold Hart.setX; split <;> rfl
@[simp] theorem Hart.setX_run (h : Hart) (r : Reg) (v : Word) : (h.setX r v).run = h.run := by unfold Hart.setX; split <;> rfl
@[simp] theorem Hart.setX_pc (h : Hart) (r : Reg) (v : Word) : (h.setX r v).pc = h.pc := by unfold Hart.setX; split <;> rfl
@[simp] theorem Hart.setX_x (h : Hart) (r : Reg) (v : Word) : (h.setX r v).x = if r = 0#5 then h.x else h.x.set r.toNat v r.isLt := by unfold Hart.setX; split <;> rfl
@[simp] theorem Hart.setX_v (h : Hart) (r : Reg) (v : Word) : (h.setX r v).v = h.v := by unfold Hart.setX; split <;> rfl
@[simp] theorem Hart.setX_k (h : Hart) (r : Reg) (v : Word) : (h.setX r v).k = h.k := by unfold Hart.setX; split <;> rfl
@[simp] theorem Hart.setX_z (h : Hart) (r : Reg) (v : Word) : (h.setX r v).z = h.z := by unfold Hart.setX; split <;> rfl
@[simp] theorem Hart.setX_zchk (h : Hart) (r : Reg) (v : Word) : (h.setX r v).zchk = h.zchk := by unfold Hart.setX; split <;> rfl
@[simp] theorem Hart.setX_csr (h : Hart) (r : Reg) (v : Word) : (h.setX r v).csr = h.csr := by unfold Hart.setX; split <;> rfl
@[simp] theorem Hart.setX_job (h : Hart) (r : Reg) (v : Word) : (h.setX r v).job = h.job := by unfold Hart.setX; split <;> rfl
@[simp] theorem Hart.setX_queue (h : Hart) (r : Reg) (v : Word) : (h.setX r v).queue = h.queue := by unfold Hart.setX; split <;> rfl
@[simp] theorem Hart.setX_image (h : Hart) (r : Reg) (v : Word) : (h.setX r v).image = h.image := by unfold Hart.setX; split <;> rfl
@[simp] theorem Hart.setX_vcause (h : Hart) (r : Reg) (v : Word) : (h.setX r v).vcause = h.vcause := by unfold Hart.setX; split <;> rfl
@[simp] theorem Hart.setX_ecauses (h : Hart) (r : Reg) (v : Word) : (h.setX r v).ecauses = h.ecauses := by unfold Hart.setX; split <;> rfl
@[simp] theorem Hart.setX_preT (h : Hart) (r : Reg) (v : Word) : (h.setX r v).preT = h.preT := by unfold Hart.setX; split <;> rfl
@[simp] theorem Hart.setX_preH (h : Hart) (r : Reg) (v : Word) : (h.setX r v).preH = h.preH := by unfold Hart.setX; split <;> rfl
@[simp] theorem Hart.setX_softErr (h : Hart) (r : Reg) (v : Word) : (h.setX r v).softErr = h.softErr := by unfold Hart.setX; split <;> rfl
@[simp] theorem Hart.setX_event (h : Hart) (r : Reg) (v : Word) : (h.setX r v).event = h.event := by unfold Hart.setX; split <;> rfl
@[simp] theorem Hart.setX_watched (h : Hart) (r : Reg) (v : Word) : (h.setX r v).watched = h.watched := by unfold Hart.setX; split <;> rfl
@[simp] theorem Hart.setX_bridle (h : Hart) (r : Reg) (v : Word) : (h.setX r v).bridle = h.bridle := by unfold Hart.setX; split <;> rfl
@[simp] theorem Hart.setX_age (h : Hart) (r : Reg) (v : Word) : (h.setX r v).age = h.age := by unfold Hart.setX; split <;> rfl
@[simp] theorem Hart.setX_vlmaxTo (h : Hart) (r : Reg) (v : Word) : (h.setX r v).vlmaxTo = h.vlmaxTo := by unfold Hart.setX; split <;> rfl
@[simp] theorem Hart.setX_hold (h : Hart) (r : Reg) (v : Word) : (h.setX r v).hold = h.hold := by unfold Hart.setX; split <;> rfl
@[simp] theorem Hart.setX_forks (h : Hart) (r : Reg) (v : Word) : (h.setX r v).forks = h.forks := by unfold Hart.setX; split <;> rfl
@[simp] theorem Hart.setX_bad (h : Hart) (r : Reg) (v : Word) : (h.setX r v).bad = h.bad := by unfold Hart.setX; split <;> rfl
@[simp] theorem Hart.setX_gwait (h : Hart) (r : Reg) (v : Word) : (h.setX r v).gwait = h.gwait := by unfold Hart.setX; split <;> rfl
@[simp] theorem Hart.setX_offers (h : Hart) (r : Reg) (v : Word) : (h.setX r v).offers = h.offers := by unfold Hart.setX; split <;> rfl
@[simp] theorem Hart.setX_moved (h : Hart) (r : Reg) (v : Word) : (h.setX r v).moved = h.moved := by unfold Hart.setX; split <;> rfl
@[simp] theorem Hart.setX_timeout (h : Hart) (r : Reg) (v : Word) : (h.setX r v).timeout = h.timeout := by unfold Hart.setX; split <;> rfl
@[simp] theorem Hart.setX_waits (h : Hart) (r : Reg) (v : Word) : (h.setX r v).waits = h.waits := by unfold Hart.setX; split <;> rfl
@[simp] theorem Hart.setX_group (h : Hart) (r : Reg) (v : Word) : (h.setX r v).group = h.group := by unfold Hart.setX; split <;> rfl
@[simp] theorem Hart.setX_recur (h : Hart) (r : Reg) (v : Word) : (h.setX r v).recur = h.recur := by unfold Hart.setX; split <;> rfl
@[simp] theorem Hart.setX_objects (h : Hart) (r : Reg) (v : Word) : (h.setX r v).objects = h.objects := by unfold Hart.setX; split <;> rfl
@[simp] theorem Hart.setX_fences (h : Hart) (r : Reg) (v : Word) : (h.setX r v).fences = h.fences := by unfold Hart.setX; split <;> rfl

/-! ## `Hart.passed` -/

@[simp] theorem Hart.passed_id (h : Hart) (pc : Word) : (h.passed pc).id = h.id := rfl
@[simp] theorem Hart.passed_run (h : Hart) (pc : Word) : (h.passed pc).run = h.run := rfl
@[simp] theorem Hart.passed_pc (h : Hart) (pc : Word) : (h.passed pc).pc = pc := rfl
@[simp] theorem Hart.passed_x (h : Hart) (pc : Word) : (h.passed pc).x = h.x := rfl
@[simp] theorem Hart.passed_v (h : Hart) (pc : Word) : (h.passed pc).v = h.v := rfl
@[simp] theorem Hart.passed_k (h : Hart) (pc : Word) : (h.passed pc).k = h.k := rfl
@[simp] theorem Hart.passed_z (h : Hart) (pc : Word) : (h.passed pc).z = h.z := rfl
@[simp] theorem Hart.passed_zchk (h : Hart) (pc : Word) : (h.passed pc).zchk = h.zchk := rfl
@[simp] theorem Hart.passed_job (h : Hart) (pc : Word) : (h.passed pc).job = h.job := rfl
@[simp] theorem Hart.passed_queue (h : Hart) (pc : Word) : (h.passed pc).queue = h.queue := rfl
@[simp] theorem Hart.passed_image (h : Hart) (pc : Word) : (h.passed pc).image = h.image := rfl
@[simp] theorem Hart.passed_vcause (h : Hart) (pc : Word) : (h.passed pc).vcause = h.vcause := rfl
@[simp] theorem Hart.passed_ecauses (h : Hart) (pc : Word) : (h.passed pc).ecauses = h.ecauses := rfl
@[simp] theorem Hart.passed_preT (h : Hart) (pc : Word) : (h.passed pc).preT = h.preT := rfl
@[simp] theorem Hart.passed_preH (h : Hart) (pc : Word) : (h.passed pc).preH = h.preH := rfl
@[simp] theorem Hart.passed_softErr (h : Hart) (pc : Word) : (h.passed pc).softErr = h.softErr := rfl
@[simp] theorem Hart.passed_event (h : Hart) (pc : Word) : (h.passed pc).event = h.event := rfl
@[simp] theorem Hart.passed_watched (h : Hart) (pc : Word) : (h.passed pc).watched = h.watched := rfl
@[simp] theorem Hart.passed_bridle (h : Hart) (pc : Word) : (h.passed pc).bridle = h.bridle := rfl
@[simp] theorem Hart.passed_age (h : Hart) (pc : Word) : (h.passed pc).age = h.age := rfl
@[simp] theorem Hart.passed_vlmaxTo (h : Hart) (pc : Word) : (h.passed pc).vlmaxTo = h.vlmaxTo := rfl
@[simp] theorem Hart.passed_hold (h : Hart) (pc : Word) : (h.passed pc).hold = h.hold := rfl
@[simp] theorem Hart.passed_forks (h : Hart) (pc : Word) : (h.passed pc).forks = h.forks := rfl
@[simp] theorem Hart.passed_bad (h : Hart) (pc : Word) : (h.passed pc).bad = h.bad := rfl
@[simp] theorem Hart.passed_gwait (h : Hart) (pc : Word) : (h.passed pc).gwait = h.gwait := rfl
@[simp] theorem Hart.passed_offers (h : Hart) (pc : Word) : (h.passed pc).offers = h.offers := rfl
@[simp] theorem Hart.passed_moved (h : Hart) (pc : Word) : (h.passed pc).moved = h.moved := rfl
@[simp] theorem Hart.passed_timeout (h : Hart) (pc : Word) : (h.passed pc).timeout = false := rfl
@[simp] theorem Hart.passed_waits (h : Hart) (pc : Word) : (h.passed pc).waits = false := rfl
@[simp] theorem Hart.passed_group (h : Hart) (pc : Word) : (h.passed pc).group = h.group := rfl
@[simp] theorem Hart.passed_recur (h : Hart) (pc : Word) : (h.passed pc).recur = h.recur := rfl
@[simp] theorem Hart.passed_objects (h : Hart) (pc : Word) : (h.passed pc).objects = h.objects := rfl
@[simp] theorem Hart.passed_fences (h : Hart) (pc : Word) : (h.passed pc).fences = h.fences := rfl
@[simp] theorem Hart.passed_csr_status (h : Hart) (pc : Word) : (h.passed pc).csr.status = h.csr.status := rfl
@[simp] theorem Hart.passed_csr_tvec (h : Hart) (pc : Word) : (h.passed pc).csr.tvec = h.csr.tvec := rfl
@[simp] theorem Hart.passed_csr_tcause (h : Hart) (pc : Word) : (h.passed pc).csr.tcause = h.csr.tcause := rfl
@[simp] theorem Hart.passed_csr_tval (h : Hart) (pc : Word) : (h.passed pc).csr.tval = h.csr.tval := rfl
@[simp] theorem Hart.passed_csr_tpc (h : Hart) (pc : Word) : (h.passed pc).csr.tpc = h.csr.tpc := rfl
@[simp] theorem Hart.passed_csr_tvpc (h : Hart) (pc : Word) : (h.passed pc).csr.tvpc = h.csr.tvpc := rfl
@[simp] theorem Hart.passed_csr_tqpos (h : Hart) (pc : Word) : (h.passed pc).csr.tqpos = h.csr.tqpos := rfl
@[simp] theorem Hart.passed_csr_tscratch (h : Hart) (pc : Word) : (h.passed pc).csr.tscratch = h.csr.tscratch := rfl
@[simp] theorem Hart.passed_csr_vcfg (h : Hart) (pc : Word) : (h.passed pc).csr.vcfg = h.csr.vcfg := rfl
@[simp] theorem Hart.passed_csr_vstart (h : Hart) (pc : Word) : (h.passed pc).csr.vstart = h.csr.vstart := rfl
@[simp] theorem Hart.passed_csr_vdirty (h : Hart) (pc : Word) : (h.passed pc).csr.vdirty = h.csr.vdirty := rfl
@[simp] theorem Hart.passed_csr_vsc (h : Hart) (pc : Word) : (h.passed pc).csr.vsc = h.csr.vsc := rfl
@[simp] theorem Hart.passed_csr_bypth (h : Hart) (pc : Word) : (h.passed pc).csr.bypth = h.csr.bypth := rfl
@[simp] theorem Hart.passed_csr_rkey (h : Hart) (pc : Word) : (h.passed pc).csr.rkey = h.csr.rkey := rfl
@[simp] theorem Hart.passed_csr_mshape (h : Hart) (pc : Word) : (h.passed pc).csr.mshape = h.csr.mshape := rfl
@[simp] theorem Hart.passed_csr_mmode (h : Hart) (pc : Word) : (h.passed pc).csr.mmode = h.csr.mmode := rfl
@[simp] theorem Hart.passed_csr_fflags (h : Hart) (pc : Word) : (h.passed pc).csr.fflags = h.csr.fflags := rfl
@[simp] theorem Hart.passed_csr_fen (h : Hart) (pc : Word) : (h.passed pc).csr.fen = h.csr.fen := rfl
@[simp] theorem Hart.passed_csr_ftbase (h : Hart) (pc : Word) : (h.passed pc).csr.ftbase = h.csr.ftbase := rfl
@[simp] theorem Hart.passed_csr_ftlimit (h : Hart) (pc : Word) : (h.passed pc).csr.ftlimit = h.csr.ftlimit := rfl
@[simp] theorem Hart.passed_csr_fcfg (h : Hart) (pc : Word) : (h.passed pc).csr.fcfg = h.csr.fcfg := rfl
@[simp] theorem Hart.passed_csr_cellsweep (h : Hart) (pc : Word) : (h.passed pc).csr.cellsweep = h.csr.cellsweep := rfl
@[simp] theorem Hart.passed_csr_awbase (h : Hart) (pc : Word) : (h.passed pc).csr.awbase = h.csr.awbase := rfl
@[simp] theorem Hart.passed_csr_awcfg (h : Hart) (pc : Word) : (h.passed pc).csr.awcfg = h.csr.awcfg := rfl
@[simp] theorem Hart.passed_csr_instret (h : Hart) (pc : Word) : (h.passed pc).csr.instret = h.csr.instret + 1#64 := rfl
@[simp] theorem Hart.passed_csr_pgroot (h : Hart) (pc : Word) : (h.passed pc).csr.pgroot = h.csr.pgroot := rfl
@[simp] theorem Hart.passed_csr_ctxid (h : Hart) (pc : Word) : (h.passed pc).csr.ctxid = h.csr.ctxid := rfl
@[simp] theorem Hart.passed_csr_quota (h : Hart) (pc : Word) : (h.passed pc).csr.quota = h.csr.quota := rfl
@[simp] theorem Hart.passed_csr_errinfo (h : Hart) (pc : Word) : (h.passed pc).csr.errinfo = h.csr.errinfo := rfl
@[simp] theorem Hart.passed_csr_gang (h : Hart) (pc : Word) : (h.passed pc).csr.gang = h.csr.gang := rfl
@[simp] theorem Hart.passed_csr_member (h : Hart) (pc : Word) : (h.passed pc).csr.member = h.csr.member := rfl
@[simp] theorem Hart.passed_csr_leaseMin (h : Hart) (pc : Word) : (h.passed pc).csr.leaseMin = h.csr.leaseMin := rfl
@[simp] theorem Hart.passed_csr_leasePref (h : Hart) (pc : Word) : (h.passed pc).csr.leasePref = h.csr.leasePref := rfl
@[simp] theorem Hart.passed_csr_grant (h : Hart) (pc : Word) : (h.passed pc).csr.grant = h.csr.grant := rfl
@[simp] theorem Hart.passed_csr_target (h : Hart) (pc : Word) : (h.passed pc).csr.target = h.csr.target := rfl
@[simp] theorem Hart.passed_csr_frozen (h : Hart) (pc : Word) : (h.passed pc).csr.frozen = h.csr.frozen := rfl

/-! ## `Hart.vectorPassed` -/

@[simp] theorem Hart.vectorPassed_id (h : Hart) (pc : Word) : (h.vectorPassed pc).id = h.id := rfl
@[simp] theorem Hart.vectorPassed_run (h : Hart) (pc : Word) : (h.vectorPassed pc).run = h.run := rfl
@[simp] theorem Hart.vectorPassed_pc (h : Hart) (pc : Word) : (h.vectorPassed pc).pc = pc := rfl
@[simp] theorem Hart.vectorPassed_x (h : Hart) (pc : Word) : (h.vectorPassed pc).x = h.x := rfl
@[simp] theorem Hart.vectorPassed_v (h : Hart) (pc : Word) : (h.vectorPassed pc).v = h.v := rfl
@[simp] theorem Hart.vectorPassed_k (h : Hart) (pc : Word) : (h.vectorPassed pc).k = h.k := rfl
@[simp] theorem Hart.vectorPassed_z (h : Hart) (pc : Word) : (h.vectorPassed pc).z = h.z := rfl
@[simp] theorem Hart.vectorPassed_zchk (h : Hart) (pc : Word) : (h.vectorPassed pc).zchk = h.zchk := rfl
@[simp] theorem Hart.vectorPassed_job (h : Hart) (pc : Word) : (h.vectorPassed pc).job = h.job := rfl
@[simp] theorem Hart.vectorPassed_queue (h : Hart) (pc : Word) : (h.vectorPassed pc).queue = h.queue := rfl
@[simp] theorem Hart.vectorPassed_image (h : Hart) (pc : Word) : (h.vectorPassed pc).image = h.image := rfl
@[simp] theorem Hart.vectorPassed_vcause (h : Hart) (pc : Word) : (h.vectorPassed pc).vcause = h.vcause := rfl
@[simp] theorem Hart.vectorPassed_ecauses (h : Hart) (pc : Word) : (h.vectorPassed pc).ecauses = h.causesLeft := rfl
@[simp] theorem Hart.vectorPassed_preT (h : Hart) (pc : Word) : (h.vectorPassed pc).preT = h.preT := rfl
@[simp] theorem Hart.vectorPassed_preH (h : Hart) (pc : Word) : (h.vectorPassed pc).preH = h.preH := rfl
@[simp] theorem Hart.vectorPassed_softErr (h : Hart) (pc : Word) : (h.vectorPassed pc).softErr = h.softErr := rfl
@[simp] theorem Hart.vectorPassed_event (h : Hart) (pc : Word) : (h.vectorPassed pc).event = h.event := rfl
@[simp] theorem Hart.vectorPassed_watched (h : Hart) (pc : Word) : (h.vectorPassed pc).watched = h.watched := rfl
@[simp] theorem Hart.vectorPassed_bridle (h : Hart) (pc : Word) : (h.vectorPassed pc).bridle = h.bridleLeft := rfl
@[simp] theorem Hart.vectorPassed_age (h : Hart) (pc : Word) : (h.vectorPassed pc).age = h.age := rfl
@[simp] theorem Hart.vectorPassed_vlmaxTo (h : Hart) (pc : Word) : (h.vectorPassed pc).vlmaxTo = h.vlmaxTo := rfl
@[simp] theorem Hart.vectorPassed_hold (h : Hart) (pc : Word) : (h.vectorPassed pc).hold = h.hold := rfl
@[simp] theorem Hart.vectorPassed_forks (h : Hart) (pc : Word) : (h.vectorPassed pc).forks = h.forks := rfl
@[simp] theorem Hart.vectorPassed_bad (h : Hart) (pc : Word) : (h.vectorPassed pc).bad = h.bad := rfl
@[simp] theorem Hart.vectorPassed_gwait (h : Hart) (pc : Word) : (h.vectorPassed pc).gwait = h.gwait := rfl
@[simp] theorem Hart.vectorPassed_offers (h : Hart) (pc : Word) : (h.vectorPassed pc).offers = h.offers := rfl
@[simp] theorem Hart.vectorPassed_moved (h : Hart) (pc : Word) : (h.vectorPassed pc).moved = h.moved := rfl
@[simp] theorem Hart.vectorPassed_timeout (h : Hart) (pc : Word) : (h.vectorPassed pc).timeout = false := rfl
@[simp] theorem Hart.vectorPassed_waits (h : Hart) (pc : Word) : (h.vectorPassed pc).waits = false := rfl
@[simp] theorem Hart.vectorPassed_group (h : Hart) (pc : Word) : (h.vectorPassed pc).group = h.group := rfl
@[simp] theorem Hart.vectorPassed_recur (h : Hart) (pc : Word) : (h.vectorPassed pc).recur = h.recur := rfl
@[simp] theorem Hart.vectorPassed_objects (h : Hart) (pc : Word) : (h.vectorPassed pc).objects = h.objects := rfl
@[simp] theorem Hart.vectorPassed_fences (h : Hart) (pc : Word) : (h.vectorPassed pc).fences = h.fences := rfl
@[simp] theorem Hart.vectorPassed_csr_status (h : Hart) (pc : Word) : (h.vectorPassed pc).csr.status = h.csr.status := rfl
@[simp] theorem Hart.vectorPassed_csr_tvec (h : Hart) (pc : Word) : (h.vectorPassed pc).csr.tvec = h.csr.tvec := rfl
@[simp] theorem Hart.vectorPassed_csr_tcause (h : Hart) (pc : Word) : (h.vectorPassed pc).csr.tcause = h.csr.tcause := rfl
@[simp] theorem Hart.vectorPassed_csr_tval (h : Hart) (pc : Word) : (h.vectorPassed pc).csr.tval = h.csr.tval := rfl
@[simp] theorem Hart.vectorPassed_csr_tpc (h : Hart) (pc : Word) : (h.vectorPassed pc).csr.tpc = h.csr.tpc := rfl
@[simp] theorem Hart.vectorPassed_csr_tvpc (h : Hart) (pc : Word) : (h.vectorPassed pc).csr.tvpc = h.csr.tvpc := rfl
@[simp] theorem Hart.vectorPassed_csr_tqpos (h : Hart) (pc : Word) : (h.vectorPassed pc).csr.tqpos = h.csr.tqpos := rfl
@[simp] theorem Hart.vectorPassed_csr_tscratch (h : Hart) (pc : Word) : (h.vectorPassed pc).csr.tscratch = h.csr.tscratch := rfl
@[simp] theorem Hart.vectorPassed_csr_vcfg (h : Hart) (pc : Word) : (h.vectorPassed pc).csr.vcfg = h.csr.vcfg := rfl
@[simp] theorem Hart.vectorPassed_csr_vstart (h : Hart) (pc : Word) : (h.vectorPassed pc).csr.vstart = 0#64 := rfl
@[simp] theorem Hart.vectorPassed_csr_vdirty (h : Hart) (pc : Word) : (h.vectorPassed pc).csr.vdirty = h.csr.vdirty := rfl
@[simp] theorem Hart.vectorPassed_csr_vsc (h : Hart) (pc : Word) : (h.vectorPassed pc).csr.vsc = h.csr.vsc := rfl
@[simp] theorem Hart.vectorPassed_csr_bypth (h : Hart) (pc : Word) : (h.vectorPassed pc).csr.bypth = h.csr.bypth := rfl
@[simp] theorem Hart.vectorPassed_csr_rkey (h : Hart) (pc : Word) : (h.vectorPassed pc).csr.rkey = h.csr.rkey := rfl
@[simp] theorem Hart.vectorPassed_csr_mshape (h : Hart) (pc : Word) : (h.vectorPassed pc).csr.mshape = h.csr.mshape := rfl
@[simp] theorem Hart.vectorPassed_csr_mmode (h : Hart) (pc : Word) : (h.vectorPassed pc).csr.mmode = h.csr.mmode := rfl
@[simp] theorem Hart.vectorPassed_csr_fflags (h : Hart) (pc : Word) : (h.vectorPassed pc).csr.fflags = h.csr.fflags := rfl
@[simp] theorem Hart.vectorPassed_csr_fen (h : Hart) (pc : Word) : (h.vectorPassed pc).csr.fen = h.csr.fen := rfl
@[simp] theorem Hart.vectorPassed_csr_ftbase (h : Hart) (pc : Word) : (h.vectorPassed pc).csr.ftbase = h.csr.ftbase := rfl
@[simp] theorem Hart.vectorPassed_csr_ftlimit (h : Hart) (pc : Word) : (h.vectorPassed pc).csr.ftlimit = h.csr.ftlimit := rfl
@[simp] theorem Hart.vectorPassed_csr_fcfg (h : Hart) (pc : Word) : (h.vectorPassed pc).csr.fcfg = h.csr.fcfg := rfl
@[simp] theorem Hart.vectorPassed_csr_cellsweep (h : Hart) (pc : Word) : (h.vectorPassed pc).csr.cellsweep = h.csr.cellsweep := rfl
@[simp] theorem Hart.vectorPassed_csr_awbase (h : Hart) (pc : Word) : (h.vectorPassed pc).csr.awbase = h.csr.awbase := rfl
@[simp] theorem Hart.vectorPassed_csr_awcfg (h : Hart) (pc : Word) : (h.vectorPassed pc).csr.awcfg = h.csr.awcfg := rfl
@[simp] theorem Hart.vectorPassed_csr_instret (h : Hart) (pc : Word) : (h.vectorPassed pc).csr.instret = h.csr.instret + 1#64 := rfl
@[simp] theorem Hart.vectorPassed_csr_pgroot (h : Hart) (pc : Word) : (h.vectorPassed pc).csr.pgroot = h.csr.pgroot := rfl
@[simp] theorem Hart.vectorPassed_csr_ctxid (h : Hart) (pc : Word) : (h.vectorPassed pc).csr.ctxid = h.csr.ctxid := rfl
@[simp] theorem Hart.vectorPassed_csr_quota (h : Hart) (pc : Word) : (h.vectorPassed pc).csr.quota = h.csr.quota := rfl
@[simp] theorem Hart.vectorPassed_csr_errinfo (h : Hart) (pc : Word) : (h.vectorPassed pc).csr.errinfo = h.csr.errinfo := rfl
@[simp] theorem Hart.vectorPassed_csr_gang (h : Hart) (pc : Word) : (h.vectorPassed pc).csr.gang = h.csr.gang := rfl
@[simp] theorem Hart.vectorPassed_csr_member (h : Hart) (pc : Word) : (h.vectorPassed pc).csr.member = h.csr.member := rfl
@[simp] theorem Hart.vectorPassed_csr_leaseMin (h : Hart) (pc : Word) : (h.vectorPassed pc).csr.leaseMin = h.csr.leaseMin := rfl
@[simp] theorem Hart.vectorPassed_csr_leasePref (h : Hart) (pc : Word) : (h.vectorPassed pc).csr.leasePref = h.csr.leasePref := rfl
@[simp] theorem Hart.vectorPassed_csr_grant (h : Hart) (pc : Word) : (h.vectorPassed pc).csr.grant = h.csr.grant := rfl
@[simp] theorem Hart.vectorPassed_csr_target (h : Hart) (pc : Word) : (h.vectorPassed pc).csr.target = h.csr.target := rfl
@[simp] theorem Hart.vectorPassed_csr_frozen (h : Hart) (pc : Word) : (h.vectorPassed pc).csr.frozen = h.csr.frozen := rfl

/-! ## `Hart.setVstart` -/

@[simp] theorem Hart.setVstart_id (h : Hart) (n : Nat) : (h.setVstart n).id = h.id := rfl
@[simp] theorem Hart.setVstart_run (h : Hart) (n : Nat) : (h.setVstart n).run = h.run := rfl
@[simp] theorem Hart.setVstart_pc (h : Hart) (n : Nat) : (h.setVstart n).pc = h.pc := rfl
@[simp] theorem Hart.setVstart_x (h : Hart) (n : Nat) : (h.setVstart n).x = h.x := rfl
@[simp] theorem Hart.setVstart_v (h : Hart) (n : Nat) : (h.setVstart n).v = h.v := rfl
@[simp] theorem Hart.setVstart_k (h : Hart) (n : Nat) : (h.setVstart n).k = h.k := rfl
@[simp] theorem Hart.setVstart_z (h : Hart) (n : Nat) : (h.setVstart n).z = h.z := rfl
@[simp] theorem Hart.setVstart_zchk (h : Hart) (n : Nat) : (h.setVstart n).zchk = h.zchk := rfl
@[simp] theorem Hart.setVstart_job (h : Hart) (n : Nat) : (h.setVstart n).job = h.job := rfl
@[simp] theorem Hart.setVstart_queue (h : Hart) (n : Nat) : (h.setVstart n).queue = h.queue := rfl
@[simp] theorem Hart.setVstart_image (h : Hart) (n : Nat) : (h.setVstart n).image = h.image := rfl
@[simp] theorem Hart.setVstart_vcause (h : Hart) (n : Nat) : (h.setVstart n).vcause = h.vcause := rfl
@[simp] theorem Hart.setVstart_ecauses (h : Hart) (n : Nat) : (h.setVstart n).ecauses = h.ecauses := rfl
@[simp] theorem Hart.setVstart_preT (h : Hart) (n : Nat) : (h.setVstart n).preT = h.preT := rfl
@[simp] theorem Hart.setVstart_preH (h : Hart) (n : Nat) : (h.setVstart n).preH = h.preH := rfl
@[simp] theorem Hart.setVstart_softErr (h : Hart) (n : Nat) : (h.setVstart n).softErr = h.softErr := rfl
@[simp] theorem Hart.setVstart_event (h : Hart) (n : Nat) : (h.setVstart n).event = h.event := rfl
@[simp] theorem Hart.setVstart_watched (h : Hart) (n : Nat) : (h.setVstart n).watched = h.watched := rfl
@[simp] theorem Hart.setVstart_bridle (h : Hart) (n : Nat) : (h.setVstart n).bridle = h.bridle := rfl
@[simp] theorem Hart.setVstart_age (h : Hart) (n : Nat) : (h.setVstart n).age = h.age := rfl
@[simp] theorem Hart.setVstart_vlmaxTo (h : Hart) (n : Nat) : (h.setVstart n).vlmaxTo = h.vlmaxTo := rfl
@[simp] theorem Hart.setVstart_hold (h : Hart) (n : Nat) : (h.setVstart n).hold = h.hold := rfl
@[simp] theorem Hart.setVstart_forks (h : Hart) (n : Nat) : (h.setVstart n).forks = h.forks := rfl
@[simp] theorem Hart.setVstart_bad (h : Hart) (n : Nat) : (h.setVstart n).bad = h.bad := rfl
@[simp] theorem Hart.setVstart_gwait (h : Hart) (n : Nat) : (h.setVstart n).gwait = h.gwait := rfl
@[simp] theorem Hart.setVstart_offers (h : Hart) (n : Nat) : (h.setVstart n).offers = h.offers := rfl
@[simp] theorem Hart.setVstart_moved (h : Hart) (n : Nat) : (h.setVstart n).moved = h.moved := rfl
@[simp] theorem Hart.setVstart_timeout (h : Hart) (n : Nat) : (h.setVstart n).timeout = h.timeout := rfl
@[simp] theorem Hart.setVstart_waits (h : Hart) (n : Nat) : (h.setVstart n).waits = h.waits := rfl
@[simp] theorem Hart.setVstart_group (h : Hart) (n : Nat) : (h.setVstart n).group = h.group := rfl
@[simp] theorem Hart.setVstart_recur (h : Hart) (n : Nat) : (h.setVstart n).recur = h.recur := rfl
@[simp] theorem Hart.setVstart_objects (h : Hart) (n : Nat) : (h.setVstart n).objects = h.objects := rfl
@[simp] theorem Hart.setVstart_fences (h : Hart) (n : Nat) : (h.setVstart n).fences = h.fences := rfl
@[simp] theorem Hart.setVstart_csr_status (h : Hart) (n : Nat) : (h.setVstart n).csr.status = h.csr.status := rfl
@[simp] theorem Hart.setVstart_csr_tvec (h : Hart) (n : Nat) : (h.setVstart n).csr.tvec = h.csr.tvec := rfl
@[simp] theorem Hart.setVstart_csr_tcause (h : Hart) (n : Nat) : (h.setVstart n).csr.tcause = h.csr.tcause := rfl
@[simp] theorem Hart.setVstart_csr_tval (h : Hart) (n : Nat) : (h.setVstart n).csr.tval = h.csr.tval := rfl
@[simp] theorem Hart.setVstart_csr_tpc (h : Hart) (n : Nat) : (h.setVstart n).csr.tpc = h.csr.tpc := rfl
@[simp] theorem Hart.setVstart_csr_tvpc (h : Hart) (n : Nat) : (h.setVstart n).csr.tvpc = h.csr.tvpc := rfl
@[simp] theorem Hart.setVstart_csr_tqpos (h : Hart) (n : Nat) : (h.setVstart n).csr.tqpos = h.csr.tqpos := rfl
@[simp] theorem Hart.setVstart_csr_tscratch (h : Hart) (n : Nat) : (h.setVstart n).csr.tscratch = h.csr.tscratch := rfl
@[simp] theorem Hart.setVstart_csr_vcfg (h : Hart) (n : Nat) : (h.setVstart n).csr.vcfg = h.csr.vcfg := rfl
@[simp] theorem Hart.setVstart_csr_vstart (h : Hart) (n : Nat) : (h.setVstart n).csr.vstart = BitVec.ofNat 64 (n % 65536) := rfl
@[simp] theorem Hart.setVstart_csr_vdirty (h : Hart) (n : Nat) : (h.setVstart n).csr.vdirty = h.csr.vdirty := rfl
@[simp] theorem Hart.setVstart_csr_vsc (h : Hart) (n : Nat) : (h.setVstart n).csr.vsc = h.csr.vsc := rfl
@[simp] theorem Hart.setVstart_csr_bypth (h : Hart) (n : Nat) : (h.setVstart n).csr.bypth = h.csr.bypth := rfl
@[simp] theorem Hart.setVstart_csr_rkey (h : Hart) (n : Nat) : (h.setVstart n).csr.rkey = h.csr.rkey := rfl
@[simp] theorem Hart.setVstart_csr_mshape (h : Hart) (n : Nat) : (h.setVstart n).csr.mshape = h.csr.mshape := rfl
@[simp] theorem Hart.setVstart_csr_mmode (h : Hart) (n : Nat) : (h.setVstart n).csr.mmode = h.csr.mmode := rfl
@[simp] theorem Hart.setVstart_csr_fflags (h : Hart) (n : Nat) : (h.setVstart n).csr.fflags = h.csr.fflags := rfl
@[simp] theorem Hart.setVstart_csr_fen (h : Hart) (n : Nat) : (h.setVstart n).csr.fen = h.csr.fen := rfl
@[simp] theorem Hart.setVstart_csr_ftbase (h : Hart) (n : Nat) : (h.setVstart n).csr.ftbase = h.csr.ftbase := rfl
@[simp] theorem Hart.setVstart_csr_ftlimit (h : Hart) (n : Nat) : (h.setVstart n).csr.ftlimit = h.csr.ftlimit := rfl
@[simp] theorem Hart.setVstart_csr_fcfg (h : Hart) (n : Nat) : (h.setVstart n).csr.fcfg = h.csr.fcfg := rfl
@[simp] theorem Hart.setVstart_csr_cellsweep (h : Hart) (n : Nat) : (h.setVstart n).csr.cellsweep = h.csr.cellsweep := rfl
@[simp] theorem Hart.setVstart_csr_awbase (h : Hart) (n : Nat) : (h.setVstart n).csr.awbase = h.csr.awbase := rfl
@[simp] theorem Hart.setVstart_csr_awcfg (h : Hart) (n : Nat) : (h.setVstart n).csr.awcfg = h.csr.awcfg := rfl
@[simp] theorem Hart.setVstart_csr_instret (h : Hart) (n : Nat) : (h.setVstart n).csr.instret = h.csr.instret := rfl
@[simp] theorem Hart.setVstart_csr_pgroot (h : Hart) (n : Nat) : (h.setVstart n).csr.pgroot = h.csr.pgroot := rfl
@[simp] theorem Hart.setVstart_csr_ctxid (h : Hart) (n : Nat) : (h.setVstart n).csr.ctxid = h.csr.ctxid := rfl
@[simp] theorem Hart.setVstart_csr_quota (h : Hart) (n : Nat) : (h.setVstart n).csr.quota = h.csr.quota := rfl
@[simp] theorem Hart.setVstart_csr_errinfo (h : Hart) (n : Nat) : (h.setVstart n).csr.errinfo = h.csr.errinfo := rfl
@[simp] theorem Hart.setVstart_csr_gang (h : Hart) (n : Nat) : (h.setVstart n).csr.gang = h.csr.gang := rfl
@[simp] theorem Hart.setVstart_csr_member (h : Hart) (n : Nat) : (h.setVstart n).csr.member = h.csr.member := rfl
@[simp] theorem Hart.setVstart_csr_leaseMin (h : Hart) (n : Nat) : (h.setVstart n).csr.leaseMin = h.csr.leaseMin := rfl
@[simp] theorem Hart.setVstart_csr_leasePref (h : Hart) (n : Nat) : (h.setVstart n).csr.leasePref = h.csr.leasePref := rfl
@[simp] theorem Hart.setVstart_csr_grant (h : Hart) (n : Nat) : (h.setVstart n).csr.grant = h.csr.grant := rfl
@[simp] theorem Hart.setVstart_csr_target (h : Hart) (n : Nat) : (h.setVstart n).csr.target = h.csr.target := rfl
@[simp] theorem Hart.setVstart_csr_frozen (h : Hart) (n : Nat) : (h.setVstart n).csr.frozen = h.csr.frozen := rfl

/-! ## `Hart.setVl` -/

@[simp] theorem Hart.setVl_id (h : Hart) (n : Nat) : (h.setVl n).id = h.id := rfl
@[simp] theorem Hart.setVl_run (h : Hart) (n : Nat) : (h.setVl n).run = h.run := rfl
@[simp] theorem Hart.setVl_pc (h : Hart) (n : Nat) : (h.setVl n).pc = h.pc := rfl
@[simp] theorem Hart.setVl_x (h : Hart) (n : Nat) : (h.setVl n).x = h.x := rfl
@[simp] theorem Hart.setVl_v (h : Hart) (n : Nat) : (h.setVl n).v = h.v := rfl
@[simp] theorem Hart.setVl_k (h : Hart) (n : Nat) : (h.setVl n).k = h.k := rfl
@[simp] theorem Hart.setVl_z (h : Hart) (n : Nat) : (h.setVl n).z = h.z := rfl
@[simp] theorem Hart.setVl_zchk (h : Hart) (n : Nat) : (h.setVl n).zchk = h.zchk := rfl
@[simp] theorem Hart.setVl_job (h : Hart) (n : Nat) : (h.setVl n).job = h.job := rfl
@[simp] theorem Hart.setVl_queue (h : Hart) (n : Nat) : (h.setVl n).queue = h.queue := rfl
@[simp] theorem Hart.setVl_image (h : Hart) (n : Nat) : (h.setVl n).image = h.image := rfl
@[simp] theorem Hart.setVl_vcause (h : Hart) (n : Nat) : (h.setVl n).vcause = h.vcause := rfl
@[simp] theorem Hart.setVl_ecauses (h : Hart) (n : Nat) : (h.setVl n).ecauses = h.ecauses := rfl
@[simp] theorem Hart.setVl_preT (h : Hart) (n : Nat) : (h.setVl n).preT = h.preT := rfl
@[simp] theorem Hart.setVl_preH (h : Hart) (n : Nat) : (h.setVl n).preH = h.preH := rfl
@[simp] theorem Hart.setVl_softErr (h : Hart) (n : Nat) : (h.setVl n).softErr = h.softErr := rfl
@[simp] theorem Hart.setVl_event (h : Hart) (n : Nat) : (h.setVl n).event = h.event := rfl
@[simp] theorem Hart.setVl_watched (h : Hart) (n : Nat) : (h.setVl n).watched = h.watched := rfl
@[simp] theorem Hart.setVl_bridle (h : Hart) (n : Nat) : (h.setVl n).bridle = h.bridle := rfl
@[simp] theorem Hart.setVl_age (h : Hart) (n : Nat) : (h.setVl n).age = h.age := rfl
@[simp] theorem Hart.setVl_vlmaxTo (h : Hart) (n : Nat) : (h.setVl n).vlmaxTo = h.vlmaxTo := rfl
@[simp] theorem Hart.setVl_hold (h : Hart) (n : Nat) : (h.setVl n).hold = h.hold := rfl
@[simp] theorem Hart.setVl_forks (h : Hart) (n : Nat) : (h.setVl n).forks = h.forks := rfl
@[simp] theorem Hart.setVl_bad (h : Hart) (n : Nat) : (h.setVl n).bad = h.bad := rfl
@[simp] theorem Hart.setVl_gwait (h : Hart) (n : Nat) : (h.setVl n).gwait = h.gwait := rfl
@[simp] theorem Hart.setVl_offers (h : Hart) (n : Nat) : (h.setVl n).offers = h.offers := rfl
@[simp] theorem Hart.setVl_moved (h : Hart) (n : Nat) : (h.setVl n).moved = h.moved := rfl
@[simp] theorem Hart.setVl_timeout (h : Hart) (n : Nat) : (h.setVl n).timeout = h.timeout := rfl
@[simp] theorem Hart.setVl_waits (h : Hart) (n : Nat) : (h.setVl n).waits = h.waits := rfl
@[simp] theorem Hart.setVl_group (h : Hart) (n : Nat) : (h.setVl n).group = h.group := rfl
@[simp] theorem Hart.setVl_recur (h : Hart) (n : Nat) : (h.setVl n).recur = h.recur := rfl
@[simp] theorem Hart.setVl_objects (h : Hart) (n : Nat) : (h.setVl n).objects = h.objects := rfl
@[simp] theorem Hart.setVl_fences (h : Hart) (n : Nat) : (h.setVl n).fences = h.fences := rfl
@[simp] theorem Hart.setVl_csr_status (h : Hart) (n : Nat) : (h.setVl n).csr.status = h.csr.status := rfl
@[simp] theorem Hart.setVl_csr_tvec (h : Hart) (n : Nat) : (h.setVl n).csr.tvec = h.csr.tvec := rfl
@[simp] theorem Hart.setVl_csr_tcause (h : Hart) (n : Nat) : (h.setVl n).csr.tcause = h.csr.tcause := rfl
@[simp] theorem Hart.setVl_csr_tval (h : Hart) (n : Nat) : (h.setVl n).csr.tval = h.csr.tval := rfl
@[simp] theorem Hart.setVl_csr_tpc (h : Hart) (n : Nat) : (h.setVl n).csr.tpc = h.csr.tpc := rfl
@[simp] theorem Hart.setVl_csr_tvpc (h : Hart) (n : Nat) : (h.setVl n).csr.tvpc = h.csr.tvpc := rfl
@[simp] theorem Hart.setVl_csr_tqpos (h : Hart) (n : Nat) : (h.setVl n).csr.tqpos = h.csr.tqpos := rfl
@[simp] theorem Hart.setVl_csr_tscratch (h : Hart) (n : Nat) : (h.setVl n).csr.tscratch = h.csr.tscratch := rfl
@[simp] theorem Hart.setVl_csr_vcfg (h : Hart) (n : Nat) : (h.setVl n).csr.vcfg = setBits h.csr.vcfg 0 16 n := rfl
@[simp] theorem Hart.setVl_csr_vstart (h : Hart) (n : Nat) : (h.setVl n).csr.vstart = h.csr.vstart := rfl
@[simp] theorem Hart.setVl_csr_vdirty (h : Hart) (n : Nat) : (h.setVl n).csr.vdirty = h.csr.vdirty := rfl
@[simp] theorem Hart.setVl_csr_vsc (h : Hart) (n : Nat) : (h.setVl n).csr.vsc = h.csr.vsc := rfl
@[simp] theorem Hart.setVl_csr_bypth (h : Hart) (n : Nat) : (h.setVl n).csr.bypth = h.csr.bypth := rfl
@[simp] theorem Hart.setVl_csr_rkey (h : Hart) (n : Nat) : (h.setVl n).csr.rkey = h.csr.rkey := rfl
@[simp] theorem Hart.setVl_csr_mshape (h : Hart) (n : Nat) : (h.setVl n).csr.mshape = h.csr.mshape := rfl
@[simp] theorem Hart.setVl_csr_mmode (h : Hart) (n : Nat) : (h.setVl n).csr.mmode = h.csr.mmode := rfl
@[simp] theorem Hart.setVl_csr_fflags (h : Hart) (n : Nat) : (h.setVl n).csr.fflags = h.csr.fflags := rfl
@[simp] theorem Hart.setVl_csr_fen (h : Hart) (n : Nat) : (h.setVl n).csr.fen = h.csr.fen := rfl
@[simp] theorem Hart.setVl_csr_ftbase (h : Hart) (n : Nat) : (h.setVl n).csr.ftbase = h.csr.ftbase := rfl
@[simp] theorem Hart.setVl_csr_ftlimit (h : Hart) (n : Nat) : (h.setVl n).csr.ftlimit = h.csr.ftlimit := rfl
@[simp] theorem Hart.setVl_csr_fcfg (h : Hart) (n : Nat) : (h.setVl n).csr.fcfg = h.csr.fcfg := rfl
@[simp] theorem Hart.setVl_csr_cellsweep (h : Hart) (n : Nat) : (h.setVl n).csr.cellsweep = h.csr.cellsweep := rfl
@[simp] theorem Hart.setVl_csr_awbase (h : Hart) (n : Nat) : (h.setVl n).csr.awbase = h.csr.awbase := rfl
@[simp] theorem Hart.setVl_csr_awcfg (h : Hart) (n : Nat) : (h.setVl n).csr.awcfg = h.csr.awcfg := rfl
@[simp] theorem Hart.setVl_csr_instret (h : Hart) (n : Nat) : (h.setVl n).csr.instret = h.csr.instret := rfl
@[simp] theorem Hart.setVl_csr_pgroot (h : Hart) (n : Nat) : (h.setVl n).csr.pgroot = h.csr.pgroot := rfl
@[simp] theorem Hart.setVl_csr_ctxid (h : Hart) (n : Nat) : (h.setVl n).csr.ctxid = h.csr.ctxid := rfl
@[simp] theorem Hart.setVl_csr_quota (h : Hart) (n : Nat) : (h.setVl n).csr.quota = h.csr.quota := rfl
@[simp] theorem Hart.setVl_csr_errinfo (h : Hart) (n : Nat) : (h.setVl n).csr.errinfo = h.csr.errinfo := rfl
@[simp] theorem Hart.setVl_csr_gang (h : Hart) (n : Nat) : (h.setVl n).csr.gang = h.csr.gang := rfl
@[simp] theorem Hart.setVl_csr_member (h : Hart) (n : Nat) : (h.setVl n).csr.member = h.csr.member := rfl
@[simp] theorem Hart.setVl_csr_leaseMin (h : Hart) (n : Nat) : (h.setVl n).csr.leaseMin = h.csr.leaseMin := rfl
@[simp] theorem Hart.setVl_csr_leasePref (h : Hart) (n : Nat) : (h.setVl n).csr.leasePref = h.csr.leasePref := rfl
@[simp] theorem Hart.setVl_csr_grant (h : Hart) (n : Nat) : (h.setVl n).csr.grant = h.csr.grant := rfl
@[simp] theorem Hart.setVl_csr_target (h : Hart) (n : Nat) : (h.setVl n).csr.target = h.csr.target := rfl
@[simp] theorem Hart.setVl_csr_frozen (h : Hart) (n : Nat) : (h.setVl n).csr.frozen = h.csr.frozen := rfl

/-! ## `Hart.setV` -/

@[simp] theorem Hart.setV_id (h : Hart) (r : Reg) (u : VReg) : (h.setV r u).id = h.id := rfl
@[simp] theorem Hart.setV_run (h : Hart) (r : Reg) (u : VReg) : (h.setV r u).run = h.run := rfl
@[simp] theorem Hart.setV_pc (h : Hart) (r : Reg) (u : VReg) : (h.setV r u).pc = h.pc := rfl
@[simp] theorem Hart.setV_x (h : Hart) (r : Reg) (u : VReg) : (h.setV r u).x = h.x := rfl
@[simp] theorem Hart.setV_v (h : Hart) (r : Reg) (u : VReg) : (h.setV r u).v = h.v.set r.toNat u r.isLt := rfl
@[simp] theorem Hart.setV_k (h : Hart) (r : Reg) (u : VReg) : (h.setV r u).k = h.k := rfl
@[simp] theorem Hart.setV_z (h : Hart) (r : Reg) (u : VReg) : (h.setV r u).z = h.z := rfl
@[simp] theorem Hart.setV_zchk (h : Hart) (r : Reg) (u : VReg) : (h.setV r u).zchk = h.zchk := rfl
@[simp] theorem Hart.setV_job (h : Hart) (r : Reg) (u : VReg) : (h.setV r u).job = h.job := rfl
@[simp] theorem Hart.setV_queue (h : Hart) (r : Reg) (u : VReg) : (h.setV r u).queue = h.queue := rfl
@[simp] theorem Hart.setV_image (h : Hart) (r : Reg) (u : VReg) : (h.setV r u).image = h.image := rfl
@[simp] theorem Hart.setV_vcause (h : Hart) (r : Reg) (u : VReg) : (h.setV r u).vcause = h.vcause := rfl
@[simp] theorem Hart.setV_ecauses (h : Hart) (r : Reg) (u : VReg) : (h.setV r u).ecauses = h.ecauses := rfl
@[simp] theorem Hart.setV_preT (h : Hart) (r : Reg) (u : VReg) : (h.setV r u).preT = h.preT := rfl
@[simp] theorem Hart.setV_preH (h : Hart) (r : Reg) (u : VReg) : (h.setV r u).preH = h.preH := rfl
@[simp] theorem Hart.setV_softErr (h : Hart) (r : Reg) (u : VReg) : (h.setV r u).softErr = h.softErr := rfl
@[simp] theorem Hart.setV_event (h : Hart) (r : Reg) (u : VReg) : (h.setV r u).event = h.event := rfl
@[simp] theorem Hart.setV_watched (h : Hart) (r : Reg) (u : VReg) : (h.setV r u).watched = h.watched := rfl
@[simp] theorem Hart.setV_bridle (h : Hart) (r : Reg) (u : VReg) : (h.setV r u).bridle = h.bridle := rfl
@[simp] theorem Hart.setV_age (h : Hart) (r : Reg) (u : VReg) : (h.setV r u).age = h.age := rfl
@[simp] theorem Hart.setV_vlmaxTo (h : Hart) (r : Reg) (u : VReg) : (h.setV r u).vlmaxTo = h.vlmaxTo := rfl
@[simp] theorem Hart.setV_hold (h : Hart) (r : Reg) (u : VReg) : (h.setV r u).hold = h.hold := rfl
@[simp] theorem Hart.setV_forks (h : Hart) (r : Reg) (u : VReg) : (h.setV r u).forks = h.forks := rfl
@[simp] theorem Hart.setV_bad (h : Hart) (r : Reg) (u : VReg) : (h.setV r u).bad = h.bad := rfl
@[simp] theorem Hart.setV_gwait (h : Hart) (r : Reg) (u : VReg) : (h.setV r u).gwait = h.gwait := rfl
@[simp] theorem Hart.setV_offers (h : Hart) (r : Reg) (u : VReg) : (h.setV r u).offers = h.offers := rfl
@[simp] theorem Hart.setV_moved (h : Hart) (r : Reg) (u : VReg) : (h.setV r u).moved = h.moved := rfl
@[simp] theorem Hart.setV_timeout (h : Hart) (r : Reg) (u : VReg) : (h.setV r u).timeout = h.timeout := rfl
@[simp] theorem Hart.setV_waits (h : Hart) (r : Reg) (u : VReg) : (h.setV r u).waits = h.waits := rfl
@[simp] theorem Hart.setV_group (h : Hart) (r : Reg) (u : VReg) : (h.setV r u).group = h.group := rfl
@[simp] theorem Hart.setV_recur (h : Hart) (r : Reg) (u : VReg) : (h.setV r u).recur = h.recur := rfl
@[simp] theorem Hart.setV_objects (h : Hart) (r : Reg) (u : VReg) : (h.setV r u).objects = h.objects := rfl
@[simp] theorem Hart.setV_fences (h : Hart) (r : Reg) (u : VReg) : (h.setV r u).fences = h.fences := rfl
@[simp] theorem Hart.setV_csr_status (h : Hart) (r : Reg) (u : VReg) : (h.setV r u).csr.status = vsDirty h.csr.status := rfl
@[simp] theorem Hart.setV_csr_tvec (h : Hart) (r : Reg) (u : VReg) : (h.setV r u).csr.tvec = h.csr.tvec := rfl
@[simp] theorem Hart.setV_csr_tcause (h : Hart) (r : Reg) (u : VReg) : (h.setV r u).csr.tcause = h.csr.tcause := rfl
@[simp] theorem Hart.setV_csr_tval (h : Hart) (r : Reg) (u : VReg) : (h.setV r u).csr.tval = h.csr.tval := rfl
@[simp] theorem Hart.setV_csr_tpc (h : Hart) (r : Reg) (u : VReg) : (h.setV r u).csr.tpc = h.csr.tpc := rfl
@[simp] theorem Hart.setV_csr_tvpc (h : Hart) (r : Reg) (u : VReg) : (h.setV r u).csr.tvpc = h.csr.tvpc := rfl
@[simp] theorem Hart.setV_csr_tqpos (h : Hart) (r : Reg) (u : VReg) : (h.setV r u).csr.tqpos = h.csr.tqpos := rfl
@[simp] theorem Hart.setV_csr_tscratch (h : Hart) (r : Reg) (u : VReg) : (h.setV r u).csr.tscratch = h.csr.tscratch := rfl
@[simp] theorem Hart.setV_csr_vcfg (h : Hart) (r : Reg) (u : VReg) : (h.setV r u).csr.vcfg = h.csr.vcfg := rfl
@[simp] theorem Hart.setV_csr_vstart (h : Hart) (r : Reg) (u : VReg) : (h.setV r u).csr.vstart = h.csr.vstart := rfl
@[simp] theorem Hart.setV_csr_vdirty (h : Hart) (r : Reg) (u : VReg) : (h.setV r u).csr.vdirty = setBit h.csr.vdirty r.toNat true := rfl
@[simp] theorem Hart.setV_csr_vsc (h : Hart) (r : Reg) (u : VReg) : (h.setV r u).csr.vsc = h.csr.vsc := rfl
@[simp] theorem Hart.setV_csr_bypth (h : Hart) (r : Reg) (u : VReg) : (h.setV r u).csr.bypth = h.csr.bypth := rfl
@[simp] theorem Hart.setV_csr_rkey (h : Hart) (r : Reg) (u : VReg) : (h.setV r u).csr.rkey = h.csr.rkey := rfl
@[simp] theorem Hart.setV_csr_mshape (h : Hart) (r : Reg) (u : VReg) : (h.setV r u).csr.mshape = h.csr.mshape := rfl
@[simp] theorem Hart.setV_csr_mmode (h : Hart) (r : Reg) (u : VReg) : (h.setV r u).csr.mmode = h.csr.mmode := rfl
@[simp] theorem Hart.setV_csr_fflags (h : Hart) (r : Reg) (u : VReg) : (h.setV r u).csr.fflags = h.csr.fflags := rfl
@[simp] theorem Hart.setV_csr_fen (h : Hart) (r : Reg) (u : VReg) : (h.setV r u).csr.fen = h.csr.fen := rfl
@[simp] theorem Hart.setV_csr_ftbase (h : Hart) (r : Reg) (u : VReg) : (h.setV r u).csr.ftbase = h.csr.ftbase := rfl
@[simp] theorem Hart.setV_csr_ftlimit (h : Hart) (r : Reg) (u : VReg) : (h.setV r u).csr.ftlimit = h.csr.ftlimit := rfl
@[simp] theorem Hart.setV_csr_fcfg (h : Hart) (r : Reg) (u : VReg) : (h.setV r u).csr.fcfg = h.csr.fcfg := rfl
@[simp] theorem Hart.setV_csr_cellsweep (h : Hart) (r : Reg) (u : VReg) : (h.setV r u).csr.cellsweep = h.csr.cellsweep := rfl
@[simp] theorem Hart.setV_csr_awbase (h : Hart) (r : Reg) (u : VReg) : (h.setV r u).csr.awbase = h.csr.awbase := rfl
@[simp] theorem Hart.setV_csr_awcfg (h : Hart) (r : Reg) (u : VReg) : (h.setV r u).csr.awcfg = h.csr.awcfg := rfl
@[simp] theorem Hart.setV_csr_instret (h : Hart) (r : Reg) (u : VReg) : (h.setV r u).csr.instret = h.csr.instret := rfl
@[simp] theorem Hart.setV_csr_pgroot (h : Hart) (r : Reg) (u : VReg) : (h.setV r u).csr.pgroot = h.csr.pgroot := rfl
@[simp] theorem Hart.setV_csr_ctxid (h : Hart) (r : Reg) (u : VReg) : (h.setV r u).csr.ctxid = h.csr.ctxid := rfl
@[simp] theorem Hart.setV_csr_quota (h : Hart) (r : Reg) (u : VReg) : (h.setV r u).csr.quota = h.csr.quota := rfl
@[simp] theorem Hart.setV_csr_errinfo (h : Hart) (r : Reg) (u : VReg) : (h.setV r u).csr.errinfo = h.csr.errinfo := rfl
@[simp] theorem Hart.setV_csr_gang (h : Hart) (r : Reg) (u : VReg) : (h.setV r u).csr.gang = h.csr.gang := rfl
@[simp] theorem Hart.setV_csr_member (h : Hart) (r : Reg) (u : VReg) : (h.setV r u).csr.member = h.csr.member := rfl
@[simp] theorem Hart.setV_csr_leaseMin (h : Hart) (r : Reg) (u : VReg) : (h.setV r u).csr.leaseMin = h.csr.leaseMin := rfl
@[simp] theorem Hart.setV_csr_leasePref (h : Hart) (r : Reg) (u : VReg) : (h.setV r u).csr.leasePref = h.csr.leasePref := rfl
@[simp] theorem Hart.setV_csr_grant (h : Hart) (r : Reg) (u : VReg) : (h.setV r u).csr.grant = h.csr.grant := rfl
@[simp] theorem Hart.setV_csr_target (h : Hart) (r : Reg) (u : VReg) : (h.setV r u).csr.target = h.csr.target := rfl
@[simp] theorem Hart.setV_csr_frozen (h : Hart) (r : Reg) (u : VReg) : (h.setV r u).csr.frozen = h.csr.frozen := rfl

/-! ## `Hart.setK`: a write to k0 is discarded (R7) -/

@[simp] theorem Hart.setK_id (h : Hart) (r : KReg) (m : KMask) : (h.setK r m).id = h.id := by unfold Hart.setK; split <;> rfl
@[simp] theorem Hart.setK_run (h : Hart) (r : KReg) (m : KMask) : (h.setK r m).run = h.run := by unfold Hart.setK; split <;> rfl
@[simp] theorem Hart.setK_pc (h : Hart) (r : KReg) (m : KMask) : (h.setK r m).pc = h.pc := by unfold Hart.setK; split <;> rfl
@[simp] theorem Hart.setK_x (h : Hart) (r : KReg) (m : KMask) : (h.setK r m).x = h.x := by unfold Hart.setK; split <;> rfl
@[simp] theorem Hart.setK_v (h : Hart) (r : KReg) (m : KMask) : (h.setK r m).v = h.v := by unfold Hart.setK; split <;> rfl
@[simp] theorem Hart.setK_k (h : Hart) (r : KReg) (m : KMask) : (h.setK r m).k = if r = 0#3 then h.k else h.k.set r.toNat m r.isLt := by unfold Hart.setK; split <;> rfl
@[simp] theorem Hart.setK_z (h : Hart) (r : KReg) (m : KMask) : (h.setK r m).z = h.z := by unfold Hart.setK; split <;> rfl
@[simp] theorem Hart.setK_zchk (h : Hart) (r : KReg) (m : KMask) : (h.setK r m).zchk = h.zchk := by unfold Hart.setK; split <;> rfl
@[simp] theorem Hart.setK_job (h : Hart) (r : KReg) (m : KMask) : (h.setK r m).job = h.job := by unfold Hart.setK; split <;> rfl
@[simp] theorem Hart.setK_queue (h : Hart) (r : KReg) (m : KMask) : (h.setK r m).queue = h.queue := by unfold Hart.setK; split <;> rfl
@[simp] theorem Hart.setK_image (h : Hart) (r : KReg) (m : KMask) : (h.setK r m).image = h.image := by unfold Hart.setK; split <;> rfl
@[simp] theorem Hart.setK_vcause (h : Hart) (r : KReg) (m : KMask) : (h.setK r m).vcause = h.vcause := by unfold Hart.setK; split <;> rfl
@[simp] theorem Hart.setK_ecauses (h : Hart) (r : KReg) (m : KMask) : (h.setK r m).ecauses = h.ecauses := by unfold Hart.setK; split <;> rfl
@[simp] theorem Hart.setK_preT (h : Hart) (r : KReg) (m : KMask) : (h.setK r m).preT = h.preT := by unfold Hart.setK; split <;> rfl
@[simp] theorem Hart.setK_preH (h : Hart) (r : KReg) (m : KMask) : (h.setK r m).preH = h.preH := by unfold Hart.setK; split <;> rfl
@[simp] theorem Hart.setK_softErr (h : Hart) (r : KReg) (m : KMask) : (h.setK r m).softErr = h.softErr := by unfold Hart.setK; split <;> rfl
@[simp] theorem Hart.setK_event (h : Hart) (r : KReg) (m : KMask) : (h.setK r m).event = h.event := by unfold Hart.setK; split <;> rfl
@[simp] theorem Hart.setK_watched (h : Hart) (r : KReg) (m : KMask) : (h.setK r m).watched = h.watched := by unfold Hart.setK; split <;> rfl
@[simp] theorem Hart.setK_bridle (h : Hart) (r : KReg) (m : KMask) : (h.setK r m).bridle = h.bridle := by unfold Hart.setK; split <;> rfl
@[simp] theorem Hart.setK_age (h : Hart) (r : KReg) (m : KMask) : (h.setK r m).age = h.age := by unfold Hart.setK; split <;> rfl
@[simp] theorem Hart.setK_vlmaxTo (h : Hart) (r : KReg) (m : KMask) : (h.setK r m).vlmaxTo = h.vlmaxTo := by unfold Hart.setK; split <;> rfl
@[simp] theorem Hart.setK_hold (h : Hart) (r : KReg) (m : KMask) : (h.setK r m).hold = h.hold := by unfold Hart.setK; split <;> rfl
@[simp] theorem Hart.setK_forks (h : Hart) (r : KReg) (m : KMask) : (h.setK r m).forks = h.forks := by unfold Hart.setK; split <;> rfl
@[simp] theorem Hart.setK_bad (h : Hart) (r : KReg) (m : KMask) : (h.setK r m).bad = h.bad := by unfold Hart.setK; split <;> rfl
@[simp] theorem Hart.setK_gwait (h : Hart) (r : KReg) (m : KMask) : (h.setK r m).gwait = h.gwait := by unfold Hart.setK; split <;> rfl
@[simp] theorem Hart.setK_offers (h : Hart) (r : KReg) (m : KMask) : (h.setK r m).offers = h.offers := by unfold Hart.setK; split <;> rfl
@[simp] theorem Hart.setK_moved (h : Hart) (r : KReg) (m : KMask) : (h.setK r m).moved = h.moved := by unfold Hart.setK; split <;> rfl
@[simp] theorem Hart.setK_timeout (h : Hart) (r : KReg) (m : KMask) : (h.setK r m).timeout = h.timeout := by unfold Hart.setK; split <;> rfl
@[simp] theorem Hart.setK_waits (h : Hart) (r : KReg) (m : KMask) : (h.setK r m).waits = h.waits := by unfold Hart.setK; split <;> rfl
@[simp] theorem Hart.setK_group (h : Hart) (r : KReg) (m : KMask) : (h.setK r m).group = h.group := by unfold Hart.setK; split <;> rfl
@[simp] theorem Hart.setK_recur (h : Hart) (r : KReg) (m : KMask) : (h.setK r m).recur = h.recur := by unfold Hart.setK; split <;> rfl
@[simp] theorem Hart.setK_objects (h : Hart) (r : KReg) (m : KMask) : (h.setK r m).objects = h.objects := by unfold Hart.setK; split <;> rfl
@[simp] theorem Hart.setK_fences (h : Hart) (r : KReg) (m : KMask) : (h.setK r m).fences = h.fences := by unfold Hart.setK; split <;> rfl
@[simp] theorem Hart.setK_csr_tvec (h : Hart) (r : KReg) (m : KMask) : (h.setK r m).csr.tvec = h.csr.tvec := by unfold Hart.setK; split <;> rfl
@[simp] theorem Hart.setK_csr_tcause (h : Hart) (r : KReg) (m : KMask) : (h.setK r m).csr.tcause = h.csr.tcause := by unfold Hart.setK; split <;> rfl
@[simp] theorem Hart.setK_csr_tval (h : Hart) (r : KReg) (m : KMask) : (h.setK r m).csr.tval = h.csr.tval := by unfold Hart.setK; split <;> rfl
@[simp] theorem Hart.setK_csr_tpc (h : Hart) (r : KReg) (m : KMask) : (h.setK r m).csr.tpc = h.csr.tpc := by unfold Hart.setK; split <;> rfl
@[simp] theorem Hart.setK_csr_tvpc (h : Hart) (r : KReg) (m : KMask) : (h.setK r m).csr.tvpc = h.csr.tvpc := by unfold Hart.setK; split <;> rfl
@[simp] theorem Hart.setK_csr_tqpos (h : Hart) (r : KReg) (m : KMask) : (h.setK r m).csr.tqpos = h.csr.tqpos := by unfold Hart.setK; split <;> rfl
@[simp] theorem Hart.setK_csr_tscratch (h : Hart) (r : KReg) (m : KMask) : (h.setK r m).csr.tscratch = h.csr.tscratch := by unfold Hart.setK; split <;> rfl
@[simp] theorem Hart.setK_csr_vcfg (h : Hart) (r : KReg) (m : KMask) : (h.setK r m).csr.vcfg = h.csr.vcfg := by unfold Hart.setK; split <;> rfl
@[simp] theorem Hart.setK_csr_vstart (h : Hart) (r : KReg) (m : KMask) : (h.setK r m).csr.vstart = h.csr.vstart := by unfold Hart.setK; split <;> rfl
@[simp] theorem Hart.setK_csr_vsc (h : Hart) (r : KReg) (m : KMask) : (h.setK r m).csr.vsc = h.csr.vsc := by unfold Hart.setK; split <;> rfl
@[simp] theorem Hart.setK_csr_bypth (h : Hart) (r : KReg) (m : KMask) : (h.setK r m).csr.bypth = h.csr.bypth := by unfold Hart.setK; split <;> rfl
@[simp] theorem Hart.setK_csr_rkey (h : Hart) (r : KReg) (m : KMask) : (h.setK r m).csr.rkey = h.csr.rkey := by unfold Hart.setK; split <;> rfl
@[simp] theorem Hart.setK_csr_mshape (h : Hart) (r : KReg) (m : KMask) : (h.setK r m).csr.mshape = h.csr.mshape := by unfold Hart.setK; split <;> rfl
@[simp] theorem Hart.setK_csr_mmode (h : Hart) (r : KReg) (m : KMask) : (h.setK r m).csr.mmode = h.csr.mmode := by unfold Hart.setK; split <;> rfl
@[simp] theorem Hart.setK_csr_fflags (h : Hart) (r : KReg) (m : KMask) : (h.setK r m).csr.fflags = h.csr.fflags := by unfold Hart.setK; split <;> rfl
@[simp] theorem Hart.setK_csr_fen (h : Hart) (r : KReg) (m : KMask) : (h.setK r m).csr.fen = h.csr.fen := by unfold Hart.setK; split <;> rfl
@[simp] theorem Hart.setK_csr_ftbase (h : Hart) (r : KReg) (m : KMask) : (h.setK r m).csr.ftbase = h.csr.ftbase := by unfold Hart.setK; split <;> rfl
@[simp] theorem Hart.setK_csr_ftlimit (h : Hart) (r : KReg) (m : KMask) : (h.setK r m).csr.ftlimit = h.csr.ftlimit := by unfold Hart.setK; split <;> rfl
@[simp] theorem Hart.setK_csr_fcfg (h : Hart) (r : KReg) (m : KMask) : (h.setK r m).csr.fcfg = h.csr.fcfg := by unfold Hart.setK; split <;> rfl
@[simp] theorem Hart.setK_csr_cellsweep (h : Hart) (r : KReg) (m : KMask) : (h.setK r m).csr.cellsweep = h.csr.cellsweep := by unfold Hart.setK; split <;> rfl
@[simp] theorem Hart.setK_csr_awbase (h : Hart) (r : KReg) (m : KMask) : (h.setK r m).csr.awbase = h.csr.awbase := by unfold Hart.setK; split <;> rfl
@[simp] theorem Hart.setK_csr_awcfg (h : Hart) (r : KReg) (m : KMask) : (h.setK r m).csr.awcfg = h.csr.awcfg := by unfold Hart.setK; split <;> rfl
@[simp] theorem Hart.setK_csr_instret (h : Hart) (r : KReg) (m : KMask) : (h.setK r m).csr.instret = h.csr.instret := by unfold Hart.setK; split <;> rfl
@[simp] theorem Hart.setK_csr_pgroot (h : Hart) (r : KReg) (m : KMask) : (h.setK r m).csr.pgroot = h.csr.pgroot := by unfold Hart.setK; split <;> rfl
@[simp] theorem Hart.setK_csr_ctxid (h : Hart) (r : KReg) (m : KMask) : (h.setK r m).csr.ctxid = h.csr.ctxid := by unfold Hart.setK; split <;> rfl
@[simp] theorem Hart.setK_csr_quota (h : Hart) (r : KReg) (m : KMask) : (h.setK r m).csr.quota = h.csr.quota := by unfold Hart.setK; split <;> rfl
@[simp] theorem Hart.setK_csr_errinfo (h : Hart) (r : KReg) (m : KMask) : (h.setK r m).csr.errinfo = h.csr.errinfo := by unfold Hart.setK; split <;> rfl
@[simp] theorem Hart.setK_csr_gang (h : Hart) (r : KReg) (m : KMask) : (h.setK r m).csr.gang = h.csr.gang := by unfold Hart.setK; split <;> rfl
@[simp] theorem Hart.setK_csr_member (h : Hart) (r : KReg) (m : KMask) : (h.setK r m).csr.member = h.csr.member := by unfold Hart.setK; split <;> rfl
@[simp] theorem Hart.setK_csr_leaseMin (h : Hart) (r : KReg) (m : KMask) : (h.setK r m).csr.leaseMin = h.csr.leaseMin := by unfold Hart.setK; split <;> rfl
@[simp] theorem Hart.setK_csr_leasePref (h : Hart) (r : KReg) (m : KMask) : (h.setK r m).csr.leasePref = h.csr.leasePref := by unfold Hart.setK; split <;> rfl
@[simp] theorem Hart.setK_csr_grant (h : Hart) (r : KReg) (m : KMask) : (h.setK r m).csr.grant = h.csr.grant := by unfold Hart.setK; split <;> rfl
@[simp] theorem Hart.setK_csr_target (h : Hart) (r : KReg) (m : KMask) : (h.setK r m).csr.target = h.csr.target := by unfold Hart.setK; split <;> rfl
@[simp] theorem Hart.setK_csr_frozen (h : Hart) (r : KReg) (m : KMask) : (h.setK r m).csr.frozen = h.csr.frozen := by unfold Hart.setK; split <;> rfl

end Sys2Proof.Machine
end

