-- ==== Sys2Proof/Laws/Ops.lean ====
section
/-! SUPPORT. What each shared operation can do, said once. -/

namespace Sys2Proof.Machine

/-! ## The control thread -/

/-- An instruction of the control thread that decodes and waits for nothing does its work (R75, R126). -/
theorem State.scalar_ready {s : State} {r : Row} {w : BitVec 64} (h : Ready s r w) (k : State → Answer) : s.scalar r w k = k s := by
  simp [State.scalar, h.decodes, h.free, h.fence]

/-- What its decode finds traps (R75, R343). -/
theorem State.scalar_stops {s : State} {r : Row} {w : BitVec 64} {c : Stop} (h : s.decodeStop r w = some c) (k : State → Answer) :
    s.scalar r w k = .next (s.takeTrap c none) := by
  simp [State.scalar, h, State.raise]

/-- A register that it names is awaited: it waits, and the lanes or the engines go on (R126). -/
theorem State.scalar_waits {s : State} {r : Row} {w : BitVec 64} (h : s.decodeStop r w = none) (m : s.hart.mustWait r w = true)
    (k : State → Answer) : s.scalar r w k = .next s.idleWork := by
  simp only [State.scalar, h, m, if_true]

/-- It would write ahead of a release fence: it waits for the accesses before the fence (R303). -/
theorem State.scalar_fenced {s : State} {r : Row} {w : BitVec 64} (h : s.decodeStop r w = none) (m : s.hart.mustWait r w = false)
    (f : (writesShared r && s.hart.fencedAhead) = true) (k : State → Answer) : s.scalar r w k = s.waitOlder := by
  simp only [State.scalar, h, m, f, if_true, Bool.false_eq_true, if_false]

/-- Everything that an instruction of the control thread can do. -/
theorem State.scalar_cases {s u : State} {r : Row} {w : BitVec 64} {k : State → Answer} (h : s.scalar r w k = .next u) :
    (∃ c, s.decodeStop r w = some c ∧ u = s.takeTrap c none) ∨
    (s.decodeStop r w = none ∧ s.hart.mustWait r w = true ∧ u = s.idleWork) ∨
    (s.decodeStop r w = none ∧ (writesShared r && s.hart.fencedAhead) = true ∧ u = s.resumeTransfers.idleWork) ∨
    (Ready s r w ∧ k s = .next u) := by
  cases hd : s.decodeStop r w with
  | some c => exact .inl ⟨c, rfl, by rw [State.scalar_stops hd] at h; injection h with h; exact h.symm⟩
  | none =>
    cases hm : s.hart.mustWait r w with
    | true => exact .inr (.inl ⟨rfl, rfl, by rw [State.scalar_waits hd hm] at h; injection h with h; exact h.symm⟩)
    | false =>
      cases hf : writesShared r && s.hart.fencedAhead with
      | true => exact .inr (.inr (.inl ⟨rfl, rfl, by rw [State.scalar_fenced hd hm hf] at h; injection h with h; exact h.symm⟩))
      | false =>
        have hr : Ready s r w := ⟨hd, hm, hf⟩
        exact .inr (.inr (.inr ⟨hr, by rwa [State.scalar_ready hr] at h⟩))

/-- An x register written and the instruction completed. -/
theorem State.writeX_eq (s : State) (d : Reg) (v : Word) (len : Nat) : s.writeX d v len = .next (s.wrote d v len) := by
  unfold State.writeX State.retire State.advance State.onHart Hart.setX
  by_cases h : d = 0#5
  · simp [h, State.wrote, State.wroteTo, Hart.passed]
  · simp [h, State.wrote, State.wroteTo, Hart.passed]

/-- The instruction completed, with nothing written. -/
theorem State.retire_eq (s : State) (len : Nat) : s.retire len = .next (s.went (s.hart.pc + BitVec.ofNat 64 len)) := rfl

theorem State.retireTo_eq (s : State) (pc : Word) : s.retireTo pc = .next (s.went pc) := rfl

/-- An instruction that writes a function of the registers writes it, and nothing else changes. -/
theorem State.compute_ready {s : State} {r : Row} {w : BitVec 64} (h : Ready s r w) (len : Nat) (d : Reg) (f : Hart → Word) :
    s.compute r w len d f = .next (s.wrote d (f s.hart) len) := by
  rw [State.compute, State.scalar_ready h, State.writeX_eq]

/-- A branch goes to its target or to the next instruction. -/
theorem State.branch_ready {s : State} {r : Row} {w : BitVec 64} (h : Ready s r w) (len : Nat) (c : Hart → Bool) (off : Word) :
    s.branch r w len c off = .next (s.went (if c s.hart then s.hart.pc + off else s.hart.pc + BitVec.ofNat 64 len)) := by
  rw [State.branch, State.scalar_ready h]
  split <;> simp [State.retireTo_eq, State.retire_eq]

/-! ## Results of operations -/

@[simp] theorem Res.bind_ok {α β : Type} (a : α) (s : State) (f : α → State → Res β) : (Res.ok a s).bind f = f a s := rfl
@[simp] theorem Res.bind_stop {α β : Type} (c : Stop) (s : State) (f : α → State → Res β) : (Res.stop c s).bind f = .stop c s := rfl
@[simp] theorem Res.bind_wait {α β : Type} (s : State) (f : α → State → Res β) : (Res.wait s).bind f = .wait s := rfl
@[simp] theorem Res.finish_ok {α : Type} (a : α) (s : State) (k : α → State → Answer) : (Res.ok a s).finish k = k a s := rfl
@[simp] theorem Res.finish_stop {α : Type} (c : Stop) (s : State) (k : α → State → Answer) :
    (Res.stop c s).finish k = .next (s.takeTrap c none) := rfl
@[simp] theorem Res.finish_wait {α : Type} (s : State) (k : α → State → Answer) : (Res.wait s).finish k = .next s.idleWork := rfl

/-- What a bind that succeeds has done. -/
theorem Res.bind_eq_ok {α β : Type} {r : Res α} {f : α → State → Res β} {b : β} {t : State} (h : r.bind f = .ok b t) :
    ∃ a u, r = .ok a u ∧ f a u = .ok b t := by
  cases r with
  | ok a u => exact ⟨a, u, rfl, h⟩
  | stop c u => cases h
  | wait u => cases h

@[simp] theorem Eff.andThen_done (s : State) (f : State → Eff) : (Eff.done s).andThen f = f s := rfl
@[simp] theorem Eff.andThen_fault (i : Nat) (c : Stop) (s : State) (f : State → Eff) : (Eff.fault i c s).andThen f = .fault i c s := rfl
@[simp] theorem Eff.andThen_wait (i : Nat) (s : State) (f : State → Eff) : (Eff.wait i s).andThen f = .wait i s := rfl

/-! ## Taking a trap (R344) -/

theorem State.saveRecursion_idle {s : State} (h : s.hart.recur = none) : s.saveRecursion = s := by simp [State.saveRecursion, h]

theorem State.dropRecursion_idle {s : State} (h : s.hart.recur = none) : s.dropRecursion = s := by simp [State.dropRecursion, h]

/-- Withdrawing an arrival changes only what says that the hart waits, and its job's arrivals (R311). -/
theorem State.withdrawArrival_frame (s : State) :
    s.withdrawArrival = { s with hart := { s.hart with gwait := none }, jobs := s.withdrawArrival.jobs } := by
  unfold State.withdrawArrival
  split
  · rename_i h
    cases s with
    | mk hart => cases hart; simp_all
  · dsimp only
    split
    · split <;> rfl
    · rfl

/-- Clearing links changes only the link tables (R229). -/
theorem State.dropLinks_frame (s : State) : s.dropLinks = { s with coh := { s.coh with links := s.dropLinks.links } } := rfl

/-- Where no recursion runs, the entry into a handler changes the hart in focus, its job's arrivals, its links, and the count of free
values. -/
theorem State.enterTrap_frame {s : State} (h : s.hart.recur = none) (c : Stop) (v : Option Word) :
    s.enterTrap c v = { s with
      hart := (s.enterTrap c v).hart, jobs := (s.enterTrap c v).jobs, coh := { s.coh with links := (s.enterTrap c v).links }, fresh := s.fresh + 1 } := by
  unfold State.enterTrap
  have e : (if s.hart.qip then s.dropRecursion else s.saveRecursion) = s := by
    split
    · exact State.dropRecursion_idle h
    · exact State.saveRecursion_idle h
  simp only [e]
  rw [State.dropLinks_frame, State.withdrawArrival_frame]
  rfl

/-- With an empty queue there is nothing to stop before a trap (R349). -/
theorem State.settle_empty {s : State} (h : s.hart.queue = []) : s.settle = s := by
  have hl : s.hart.leave = s.hart := by simp [Hart.leave, Hart.deliver, anyBy, h, leaveDone]
  have hs : s.onHart Hart.leave = s := by unfold State.onHart; rw [hl]
  unfold State.settle
  split
  · rfl
  · rw [hs]
    simp [h]

/-- With nothing under way and no boundary to be forced a trap that is no pre-emption is the entry into the handler alone (R344). -/
theorem State.takeTrap_quiet {s : State} {c : Stop} {v : Option Word} (h : Quiet s) (d : (s.enterTrap c v).hart.hold = false)
    (p : c.cause ≠ 0xA0 ∧ c.cause ≠ 0xA1) : s.takeTrap c v = s.enterTrap c v := by
  have hl : s.hart.loosen = s.hart := by
    have := h.bridle
    rcases hs : s.hart with ⟨⟩
    simp_all [Hart.loosen]
  have hs : s.onHart Hart.loosen = s := by unfold State.onHart; rw [hl]
  unfold State.takeTrap
  rw [State.settle_empty h.queue, hs]
  simp [p.1, p.2, d]

/-! ## Entering the vector queue (R125) -/

theorem Hart.mustWait_empty {h : Hart} (q : h.queue = []) (r : Row) (w : BitVec 64) : h.mustWait r w = false := by
  have h1 : h.pendingX = [] := by simp [Hart.pendingX, q]
  have h2 : ∀ d, h.stillReads d = false := by intro d; simp [Hart.stillReads, q]
  have h3 : ((r.xNames w).any fun x => ([] : List Reg).contains x) = false := by simp
  unfold Hart.mustWait
  simp only [q, h1, h2, h3, List.any_nil, Bool.false_or, Bool.and_false]
  cases r.xDest w <;> simp

/-- With one entry in the queue a step of the lanes is a step on that entry. -/
theorem State.laneStep_single {s : State} (h : s.hart.queue.length = 1) : s.laneStep = s.lanes true := by
  unfold State.laneStep
  dsimp only
  split
  · rename_i e
    rw [e, h]
    rfl
  · rfl

theorem Hart.pendingX_empty {h : Hart} (q : h.queue = []) : h.pendingX = [] := by simp [Hart.pendingX, q]

/-- A vector instruction that finds nothing in its way: the lanes take it up as the only entry of the queue. -/
theorem State.issue_ready {s : State} {r : Row} {w : BitVec 64} {b : List (BitVec 32)} (h : VReady s r w)
    (hb : s.blockFor r w = .ok b s) : s.issue r w = .next ((s.queued r w b (lenOf w)).lanes true) := by
  have hq : (s.queued r w b (lenOf w)).hart.queue.length = 1 := by simp [State.queued, h.empty]
  rw [← State.laneStep_single hq]
  unfold State.issue
  rw [h.decodes]
  simp only [Hart.mustWait_empty h.empty, h.empty, hb, Res.finish_ok, Hart.pendingX_empty h.empty]
  simp [State.advance, State.onHart, State.queued, Hart.passed, h.eager, h.empty]

/-- No fence holds the first entry of an empty queue where none is ahead (R303). -/
theorem State.fenceHolds_queued {s : State} {r : Row} {w : BitVec 64} {b : List (BitVec 32)} (n : Nat) (f : s.hart.fencedAhead = false) :
    (s.queued r w b n).hart.fenceHolds 0 (s.hart.entry r w s.hart.pc b) = false := by
  have hb : s.hart.bridle.any (fun t => decide (t.fence < s.hart.fences) && !t.held) = false := (Bool.or_eq_false_iff.1 f).2
  unfold Hart.fenceHolds
  simp only [List.take_zero, List.any_nil, Bool.false_or, Bool.and_eq_false_iff]
  right
  rw [List.any_eq_false] at hb ⊢
  intro t ht
  have := hb t ht
  simp only [Hart.entry, Bool.and_eq_true, decide_eq_true_eq, Bool.not_eq_true', not_and] at this ⊢
  intro h1
  exact this (of_decide_eq_true h1).2

/-- The work of one entry: what is left of it after one step of the lanes. -/
def State.afterLanes (r : Row) (pc : Word) (o : Eff) : State :=
  match o with
  | .done t => t.headDone
  | .fault i c t => (t.entryAt r i).headCause c pc
  | .wait i t => (t.entryAt r i).headWaits

/-- The rows whose entries act on elements: all but the fetch, loop, recursion and lane-management instructions. -/
def onElements (r : Row) : Bool :=
  !(r == .vfetch || r == .cVfetch || r == .vfetchw || r == .vloop || r == .recur || r == .vsetl || r == .vlease || r == .vfork || r == .vjoin ||
    r == .vcommit)

/-- An entry that acts on elements and that no fence holds does so on all that remain (R132). -/
theorem State.headWork_onElements {s : State} {e : QEntry} (h : onElements e.row = true) (f : s.hart.fenceHolds 0 e = false) (all : Bool) :
    s.headWork e all = s.plainStep e := by
  have h2 : ¬ (onElements e.row = false) := by simp [h]
  unfold State.headWork
  rw [f]
  simp only [Bool.false_eq_true, if_false]
  split <;> rename_i hr <;> first | rfl | (exfalso; apply h2; rw [hr]; rfl)

/-- An instruction that acts on elements does its work on those from `vstart` to the count (R132, R135). -/
theorem State.issue_plain {s : State} {r : Row} {w : BitVec 64} (h : VReady s r w) (hb : s.blockFor r w = .ok [] s)
    (hp : onElements r = true) :
    s.issue r w = .next (State.afterLanes r s.hart.pc
      (laneWork (s.hart.entry r w s.hart.pc []) (rangeElems s.hart.vstart (s.hart.entryCount r)) (s.queued r w [] (lenOf w)))) := by
  rw [State.issue_ready h hb]
  congr 1
  have hq : (s.queued r w [] (lenOf w)).hart.queue = [s.hart.entry r w s.hart.pc []] := by simp [State.queued, h.empty]
  have hc : (s.queued r w [] (lenOf w)).hart.vcause = none := h.clean
  have hbad : (s.queued r w [] (lenOf w)).hart.bad = [] := h.sound
  have h1 : (s.hart.entry r w s.hart.pc []).state = 1 := rfl
  have h2 : (s.hart.entry r w s.hart.pc []).row = r := rfl
  have h3 : (s.hart.entry r w s.hart.pc []).pc = s.hart.pc := rfl
  have h5 : (s.queued r w [] (lenOf w)).hart.vstart = s.hart.vstart := rfl
  have h6 : (s.queued r w [] (lenOf w)).hart.entryCount r = s.hart.entryCount r := rfl
  have hh : (s.queued r w [] (lenOf w)).hart.hold = false := h.unheld
  have hk : (s.queued r w [] (lenOf w)).hart.heldBack (s.hart.entry r w s.hart.pc []) = false := by simp [Hart.heldBack, hh]
  unfold State.lanes
  rw [hc, hq]
  simp only [Option.isSome_none, h1, hh, hk, if_false, Bool.false_eq_true, Bool.false_and, Nat.one_ne_zero]
  rw [State.headWork_onElements (by rw [h2]; exact hp) (State.fenceHolds_queued _ h.fence)]
  unfold State.plainStep State.plainTo State.afterLanes laneEffect
  simp only [h2, h3, h5, h6, hbad, List.all_nil, if_true, Nat.min_self, Nat.lt_irrefl, if_false] <;>
  cases laneWork (s.hart.entry r w s.hart.pc []) (rangeElems s.hart.vstart (s.hart.entryCount r)) (s.queued r w [] (lenOf w)) <;> rfl

end Sys2Proof.Machine
end

