-- ==== Sys2Proof/Laws/Access.lean ====
section
/-! SUPPORT. What an access answers does not depend on what the caches hold, and a load of the lanes changes nothing else. -/

namespace Sys2Proof.Machine

/-- A choice between a stop and a value that ends in the value. -/
theorem Res.of_stop_or_ok {α : Type} {p : Prop} [Decidable p] {c : Stop} {u s t : State} {a x : α}
    (h : (if p then Res.stop c u else .ok a s) = .ok x t) : ¬p ∧ a = x ∧ s = t := by
  split at h
  · cases h
  · cases h; exact ⟨‹_›, rfl, rfl⟩

/-- The check of a moved page does not ask the caches (R327). -/
theorem State.movedCheck_coh {s t : State} {w : Who} {va pa : Nat} (h : s.movedCheck w va pa = .ok () t) (c : Coherence) :
    State.movedCheck { s with coh := c } w va pa = .ok () { t with coh := c } := by
  have e1 : State.movedOf { s with coh := c } w = s.movedOf w := rfl
  have e2 (l) : State.setMoved { s with coh := c } w l = { s.setMoved w l with coh := c } := by
    unfold State.setMoved; split <;> rfl
  unfold State.movedCheck at h ⊢
  simp only [e1, e2] at h ⊢
  repeat' split at h
  all_goals first | contradiction | skip
  all_goals cases h
  all_goals simp_all

/-- Nor do the data checks (R365). -/
theorem State.dataCheck_coh {s t : State} {w : Who} {va pa n : Nat} {k : AKind} (h : s.dataCheck w va pa n k = .ok () t) (c : Coherence) :
    State.dataCheck { s with coh := c } w va pa n k = .ok () { t with coh := c } := by
  have e : State.dataFault { s with coh := c } pa n (k == .store) = s.dataFault pa n (k == .store) := rfl
  unfold State.dataCheck at h ⊢
  rw [e]
  split at h
  · simp [State.dataStop] at h
  · cases h; simp_all

/-- Nor does the page of an access, where the TLBs hold its translation (R225). -/
theorem State.pageAs_coh {s t : State} {w : Who} {va n pa : Nat} {k : AKind} {x : Nat × Word} {leaf : Word}
    (hit : tlbFind (s.stableAt w.stable).tlb w.ctx va = some (pa, leaf)) (h : s.pageAs w va n k = .ok x t) (c : Coherence) :
    State.pageAs { s with coh := c } w va n k = .ok x { t with coh := c } := by
  have e1 : State.offered { s with coh := c } w va (k == .store) (k == .fetch) = s.offered w va (k == .store) (k == .fetch) := rfl
  have e2 : State.translate s w.stable w.ctx w.pgroot va = (.present pa leaf, s) := by simp [State.translate, hit]
  have e3 : State.translate { s with coh := c } w.stable w.ctx w.pgroot va = (.present pa leaf, { s with coh := c }) := by
    have : tlbFind (State.stableAt { s with coh := c } w.stable).tlb w.ctx va = some (pa, leaf) := hit
    simp [State.translate, this]
  have e4 : State.noPeer { s with coh := c } pa = s.noPeer pa := rfl
  have e5 : State.outboundOk { s with coh := c } pa n k = s.outboundOk pa n k := rfl
  unfold State.pageAs at h ⊢
  simp only [e1, e2, e3] at h ⊢
  cases ho : s.offered w va (k == .store) (k == .fetch) with
  | some o => simp only [ho, State.answered] at h; split at h <;> contradiction
  | none =>
    simp only [ho] at h ⊢
    by_cases h1 : targetOf pa = .absent ∨ s.noPeer pa = true
    · rw [if_pos (by simpa using h1)] at h
      unfold State.notPresent at h
      repeat' split at h
      all_goals cases h
    · have h1' : ¬(targetOf pa = .absent || s.noPeer pa) = true := by simpa using h1
      rw [e4, if_neg h1', e5]
      rw [if_neg h1'] at h
      by_cases h2 : (!leafAllows leaf w.rider k) = true
      · rw [if_pos h2] at h; cases h
      · rw [if_neg h2] at h ⊢
        obtain ⟨h3, rfl, rfl⟩ := Res.of_stop_or_ok h
        exact if_neg h3

/-- Nor does an access with all its checks. -/
theorem State.accessAs_coh {s t : State} {w : Who} {va n al pa : Nat} {k : AKind} {p : Place} {leaf : Word}
    (hit : tlbFind (s.stableAt w.stable).tlb w.ctx va = some (pa, leaf)) (h : s.accessAs w va n al k = .ok p t) (c : Coherence) :
    State.accessAs { s with coh := c } w va n al k = .ok p { t with coh := c } := by
  have e : State.padSize { s with coh := c } = s.padSize := rfl
  unfold State.accessAs at h ⊢
  rw [e]
  split at h
  · contradiction
  rename_i h1
  split at h
  · contradiction
  rename_i h2
  rw [if_neg h1, if_neg h2]
  split at h
  · rename_i h3
    rw [if_pos h3]
    split at h
    · rename_i h4; cases h; rw [if_pos h4]
    · contradiction
  · rename_i h3
    rw [if_neg h3]
    obtain ⟨x, u, hx, h⟩ := Res.bind_eq_ok h
    obtain ⟨⟨⟩, v, hv, h⟩ := Res.bind_eq_ok h
    obtain ⟨⟨⟩, z, hz, h⟩ := Res.bind_eq_ok h
    cases h
    rw [State.pageAs_coh hit hx c, Res.bind_ok, State.movedCheck_coh hv c, Res.bind_ok, State.dataCheck_coh hz c, Res.bind_ok]

/-- A line placed for a read changes what caches, directories and homes hold alone. -/
theorem State.readLine_frame (s : State) (die : Nat) (a : Option Nat) (prio line : Nat) :
    s.readLine die a prio line = { s with coh := (s.readLine die a prio line).coh } := by
  unfold State.readLine
  dsimp only
  repeat' split
  all_goals rfl

/-- So do lines placed for a read. -/
theorem State.readLines_frame (s : State) (die : Nat) (a : Option Nat) (prio pa n : Nat) :
    s.readLines die a prio pa n = { s with coh := (s.readLines die a prio pa n).coh } := by
  unfold State.readLines
  split
  · generalize linesOf pa n = l
    induction l generalizing s with
    | nil => rfl
    | cons x l ih =>
      rw [List.foldl_cons, ih (s.readLine die a prio x), State.readLine_frame s]
  · rfl

/-- A line placed for a write changes what caches, directories and homes hold alone. -/
theorem State.wroteLine_frame (s : State) (die : Nat) (a : Option Nat) (keep prio line : Nat) :
    s.wroteLine die a keep prio line = { s with coh := (s.wroteLine die a keep prio line).coh } := by
  unfold State.wroteLine
  dsimp only
  repeat' split
  all_goals rfl

/-- So do lines placed for a write. -/
theorem State.wroteLines_frame (s : State) (die : Nat) (a : Option Nat) (keep prio pa n : Nat) :
    s.wroteLines die a keep prio pa n = { s with coh := (s.wroteLines die a keep prio pa n).coh } := by
  unfold State.wroteLines
  split
  · generalize linesOf pa n = l
    induction l generalizing s with
    | nil => rfl
    | cons x l ih =>
      rw [List.foldl_cons, ih (s.wroteLine die a keep prio x), State.wroteLine_frame s]
  · rfl

/-- A vector access places its lines, and changes nothing else. -/
theorem State.placeVector_frame (s : State) (f : Nat) (w : Bool) (p : Place) (n : Nat) :
    s.placeVector f w p n = { s with coh := (s.placeVector f w p n).coh } := by
  unfold State.placeVector
  cases p with
  | pad _ => rfl
  | phys pa leaf =>
    dsimp only
    repeat' split
    all_goals first | rfl | exact State.readLines_frame _ _ _ _ _ _ | exact State.wroteLines_frame _ _ _ _ _ _ _

/-- So does an access of a core or an engine. -/
theorem State.placeAs_frame (s : State) (w : Who) (p : Place) (n : Nat) (write : Bool) :
    s.placeAs w p n write = { s with coh := (s.placeAs w p n write).coh } := by
  unfold State.placeAs
  cases p with
  | pad _ => rfl
  | phys pa leaf =>
    dsimp only
    repeat' split
    all_goals first | rfl | exact State.readLines_frame _ _ _ _ _ _ | exact State.wroteLines_frame _ _ _ _ _ _ _

/-- A read of host memory changes what its buffer holds alone. -/
theorem State.bufferHost_frame (s : State) (pa n : Nat) (w : Bool) : s.bufferHost pa n w = { s with coh := (s.bufferHost pa n w).coh } := by
  unfold State.bufferHost; split <;> rfl

/-- An element loaded where no line is in U and no group runs: its value, with the caches alone changed, whatever they held. -/
theorem State.loadEl_coh {s : State} {f a n al pa q : Nat} {win : Bool} {leaf l : Word} (hu : s.ulines = []) (hg : s.hart.group = none)
    (hb : s.hart.bridle = []) (hit : tlbFind (s.stableAt s.hart.stable).tlb (s.hartWho win).ctx a = some (q, l))
    (h : s.access a n al .load win = .ok (.phys pa leaf) s) (c : Coherence) :
    ∃ d, State.loadEl { s with coh := c } f a n al win = .ok (s.mem.readN pa n) { s with coh := d } := by
  have e : State.access { s with coh := c } a n al .load win = .ok (.phys pa leaf) { s with coh := c } := State.accessAs_coh hit h c
  have b : s.hart.bars a n = false := by simp [Hart.bars, hb]
  simp only [State.loadEl, State.loadVec, e, b, Res.bind_ok, State.settleGroup, hg, State.readPlace, Bool.false_eq_true, if_false]
  rw [State.physRead_nil (s := { s with coh := c }) hu, State.bufferHost_frame, State.placeVector_frame]
  exact ⟨_, rfl⟩

/-- The images of a run of numbers, counted from the next one. -/
theorem map_countFrom_succ {α : Type} (g : Nat → α) (n : Nat) : ∀ a, (countFrom a n).map (fun i => g (i + 1)) = (countFrom (a + 1) n).map g := by
  induction n with
  | zero => intro a; rfl
  | succ n ih => intro a; simp [countFrom, ih (a + 1)]

/-- Doublewords loaded one after another: likewise. -/
theorem State.loadElWords_coh {s : State} (hu : s.ulines = []) (hg : s.hart.group = none) (hb : s.hart.bridle = []) (n : Nat) :
    ∀ (a : Nat) (pa : Nat → Nat), (∀ i, i < n → (∃ x, tlbFind (s.stableAt s.hart.stable).tlb (s.hartWho true).ctx ((a + 8 * i) % 2 ^ 64) = some x) ∧
      ∃ leaf, s.access ((a + 8 * i) % 2 ^ 64) 8 8 .load true = .ok (.phys (pa i) leaf) s) →
    ∀ c, ∃ d, State.loadElWords { s with coh := c } a n = .ok ((countFrom 0 n).map (fun i => s.mem.readN (pa i) 8)) { s with coh := d } := by
  induction n with
  | zero => intro a pa _ c; exact ⟨c, rfl⟩
  | succ n ih =>
    intro a pa h c
    obtain ⟨⟨x, hx⟩, leaf, ha⟩ := h 0 (by omega)
    obtain ⟨d, hd⟩ := State.loadEl_coh (f := s.hart.count * 8) hu hg hb hx ha c
    obtain ⟨d', hd'⟩ := ih (a + 8) (fun i => pa (i + 1)) (fun i hi => by
      have := h (i + 1) (by omega)
      rwa [show a + 8 * (i + 1) = a + 8 + 8 * i by ring] at this) d
    refine ⟨d', ?_⟩
    simp only [Nat.mul_zero, Nat.add_zero] at hd
    simp only [State.loadElWords, hd, Res.bind_ok, hd']
    rw [map_countFrom_succ (fun i => s.mem.readN (pa i) 8) n 0]
    rfl

end Sys2Proof.Machine
end

