-- ==== Sys2Proof/Laws/PerInstr.lean ====
section
/-! SUPPORT. What holds of every instruction as syntax, one lemma for each: its word has no bit beyond its length. -/

namespace Sys2Proof.Laws

theorem setWidth_lt {n : Nat} (x : BitVec n) : (x.setWidth 64).toNat < 2 ^ n := by
  rw [BitVec.toNat_setWidth]
  exact Nat.lt_of_le_of_lt (Nat.mod_le _ _) x.isLt

/-- The word of an instruction has no bit beyond its length (R66): fetching so many bytes loses nothing. -/
def EncodedBits.Statement (i : Instr) : Prop := (encode i).toNat < 2 ^ (8 * i.len)

namespace EncodedBits

theorem powerGood : Statement .powerGood := show (0#64).toNat < 2 ^ 0 by decide
theorem bringupStageComplete (err : Nat) : Statement (.bringupStageComplete err) := show (0#64).toNat < 2 ^ 0 by decide
theorem ctrlWreset (port : Nat) : Statement (.ctrlWreset port) := show (0#64).toNat < 2 ^ 0 by decide
theorem ctrlBootretry (port : Nat) : Statement (.ctrlBootretry port) := show (0#64).toNat < 2 ^ 0 by decide
theorem ctrlModelock (port : Nat) : Statement (.ctrlModelock port) := show (0#64).toNat < 2 ^ 0 by decide
theorem ctrlCfglock (port : Nat) : Statement (.ctrlCfglock port) := show (0#64).toNat < 2 ^ 0 by decide
theorem ctrlWinlock (port : Nat) : Statement (.ctrlWinlock port) := show (0#64).toNat < 2 ^ 0 by decide
theorem hsemRead (port : Nat) : Statement (.hsemRead port) := show (0#64).toNat < 2 ^ 0 by decide
theorem hsemRelease (port : Nat) : Statement (.hsemRelease port) := show (0#64).toNat < 2 ^ 0 by decide
theorem funcmodeWrite (port : Nat) (value : Word) : Statement (.funcmodeWrite port value) := show (0#64).toNat < 2 ^ 0 by decide
theorem registerWrite (port : Nat) (off : Nat) (value : Word) : Statement (.registerWrite port off value) := show (0#64).toNat < 2 ^ 0 by decide
theorem hostLinkDown (port : Nat) : Statement (.hostLinkDown port) := show (0#64).toNat < 2 ^ 0 by decide
theorem wakeWindowWrite (port : Nat) (off : Nat) (value : Word) : Statement (.wakeWindowWrite port off value) := show (0#64).toNat < 2 ^ 0 by decide
theorem evackWrite (port : Nat) (value : Word) : Statement (.evackWrite port value) := show (0#64).toNat < 2 ^ 0 by decide
theorem eventPost (port : Nat) : Statement (.eventPost port) := show (0#64).toNat < 2 ^ 0 by decide
theorem launchRequestGo (host : Bool) (n : Nat) : Statement (.launchRequestGo host n) := show (0#64).toNat < 2 ^ 0 by decide
theorem sealWindowSeal (port : Nat) : Statement (.sealWindowSeal port) := show (0#64).toNat < 2 ^ 0 by decide
theorem sealWindowRevoke (port : Nat) : Statement (.sealWindowRevoke port) := show (0#64).toNat < 2 ^ 0 by decide
theorem preemptTimer (die : Nat) (value : Word) : Statement (.preemptTimer die value) := show (0#64).toNat < 2 ^ 0 by decide
theorem preemptHost (die : Nat) (value : Word) : Statement (.preemptHost die value) := show (0#64).toNat < 2 ^ 0 by decide
theorem migrationGo (die : Nat) : Statement (.migrationGo die) := show (0#64).toNat < 2 ^ 0 by decide
theorem migrationRetire (die : Nat) : Statement (.migrationRetire die) := show (0#64).toNat < 2 ^ 0 by decide
theorem watchdogWrite (die : Nat) : Statement (.watchdogWrite die) := show (0#64).toNat < 2 ^ 0 by decide
theorem watchdogExpiry (die : Nat) : Statement (.watchdogExpiry die) := show (0#64).toNat < 2 ^ 0 by decide
theorem backgroundInitRegion : Statement .backgroundInitRegion := show (0#64).toNat < 2 ^ 0 by decide
theorem graphSubmissionPop (ring : Nat) : Statement (.graphSubmissionPop ring) := show (0#64).toNat < 2 ^ 0 by decide
theorem nodeStart (g : Nat) (n : Nat) : Statement (.nodeStart g n) := show (0#64).toNat < 2 ^ 0 by decide
theorem readyRingPost (g : Nat) (n : Nat) : Statement (.readyRingPost g n) := show (0#64).toNat < 2 ^ 0 by decide
theorem nodeFinish (g : Nat) (n : Nat) : Statement (.nodeFinish g n) := show (0#64).toNat < 2 ^ 0 by decide
theorem remoteSuccessorReady (g : Nat) (n : Nat) : Statement (.remoteSuccessorReady g n) := show (0#64).toNat < 2 ^ 0 by decide
theorem completionPushRetry (g : Nat) : Statement (.completionPushRetry g) := show (0#64).toNat < 2 ^ 0 by decide
theorem admissionGranted (r : Nat) : Statement (.admissionGranted r) := show (0#64).toNat < 2 ^ 0 by decide
theorem jobComplete (j : Nat) : Statement (.jobComplete j) := show (0#64).toNat < 2 ^ 0 by decide
theorem jobEndByRecovery (j : Nat) : Statement (.jobEndByRecovery j) := show (0#64).toNat < 2 ^ 0 by decide
theorem stripBoundaryGrantChange (h : Nat) : Statement (.stripBoundaryGrantChange h) := show (0#64).toNat < 2 ^ 0 by decide
theorem forcedBoundary (h : Nat) : Statement (.forcedBoundary h) := show (0#64).toNat < 2 ^ 0 by decide
theorem leaseStallPreempt (h : Nat) : Statement (.leaseStallPreempt h) := show (0#64).toNat < 2 ^ 0 by decide
theorem clusterRetire (die : Nat) (stable : Nat) (cluster : Nat) : Statement (.clusterRetire die stable cluster) := show (0#64).toNat < 2 ^ 0 by decide
theorem vectorEntryComplete (h : Nat) : Statement (.vectorEntryComplete h) := show (0#64).toNat < 2 ^ 0 by decide
theorem readQueueReturn (h : Nat) : Statement (.readQueueReturn h) := show (0#64).toNat < 2 ^ 0 by decide
theorem blockGroupCommit (h : Nat) : Statement (.blockGroupCommit h) := show (0#64).toNat < 2 ^ 0 by decide
theorem stripAssign (h : Nat) : Statement (.stripAssign h) := show (0#64).toNat < 2 ^ 0 by decide
theorem hartHaltComplete (h : Nat) : Statement (.hartHaltComplete h) := show (0#64).toNat < 2 ^ 0 by decide
theorem trapTake (h : Nat) : Statement (.trapTake h) := show (0#64).toNat < 2 ^ 0 by decide
theorem translationFaultReply (die : Nat) (slot : Nat) : Statement (.translationFaultReply die slot) := show (0#64).toNat < 2 ^ 0 by decide
theorem engineTransferStart (h : Nat) (i : Nat) : Statement (.engineTransferStart h i) := show (0#64).toNat < 2 ^ 0 by decide
theorem engineChunkComplete (h : Nat) (i : Nat) : Statement (.engineChunkComplete h i) := show (0#64).toNat < 2 ^ 0 by decide
theorem engineTransferComplete (h : Nat) (i : Nat) : Statement (.engineTransferComplete h i) := show (0#64).toNat < 2 ^ 0 by decide
theorem mdrainTransferComplete (h : Nat) (i : Nat) : Statement (.mdrainTransferComplete h i) := show (0#64).toNat < 2 ^ 0 by decide
theorem recursionPassComplete (h : Nat) : Statement (.recursionPassComplete h) := show (0#64).toNat < 2 ^ 0 by decide
theorem directoryReadRequest (die : Nat) (agent : Nat) (line : Nat) : Statement (.directoryReadRequest die agent line) := show (0#64).toNat < 2 ^ 0 by decide
theorem directoryWriteRequest (die : Nat) (agent : Nat) (line : Nat) : Statement (.directoryWriteRequest die agent line) := show (0#64).toNat < 2 ^ 0 by decide
theorem invalidation (die : Nat) (agent : Nat) (line : Nat) : Statement (.invalidation die agent line) := show (0#64).toNat < 2 ^ 0 by decide
theorem invalidationAck (die : Nat) (agent : Nat) (line : Nat) : Statement (.invalidationAck die agent line) := show (0#64).toNat < 2 ^ 0 by decide
theorem evictionNotice (die : Nat) (agent : Nat) (line : Nat) : Statement (.evictionNotice die agent line) := show (0#64).toNat < 2 ^ 0 by decide
theorem forwardSnoop (die : Nat) (agent : Nat) (line : Nat) : Statement (.forwardSnoop die agent line) := show (0#64).toNat < 2 ^ 0 by decide
theorem writeBack (die : Nat) (agent : Nat) (line : Nat) : Statement (.writeBack die agent line) := show (0#64).toNat < 2 ^ 0 by decide
theorem backInvalidation (line : Nat) : Statement (.backInvalidation line) := show (0#64).toNat < 2 ^ 0 by decide
theorem uRequest (die : Nat) (agent : Nat) (line : Nat) (op : Nat) : Statement (.uRequest die agent line op) := show (0#64).toNat < 2 ^ 0 by decide
theorem mergeRequest (line : Nat) : Statement (.mergeRequest line) := show (0#64).toNat < 2 ^ 0 by decide
theorem mergeResponse (line : Nat) : Statement (.mergeResponse line) := show (0#64).toNat < 2 ^ 0 by decide
theorem movedResponse (h : Nat) (line : Nat) : Statement (.movedResponse h line) := show (0#64).toNat < 2 ^ 0 by decide
theorem hostCxlRequest (port : Nat) (write : Bool) (addr : Nat) (value : Word) : Statement (.hostCxlRequest port write addr value) := show (0#64).toNat < 2 ^ 0 by decide
theorem bisnpResponse (port : Nat) (line : Nat) : Statement (.bisnpResponse port line) := show (0#64).toNat < 2 ^ 0 by decide
theorem hostSnoop (port : Nat) (line : Nat) : Statement (.hostSnoop port line) := show (0#64).toNat < 2 ^ 0 by decide
theorem dieResetRecall (die : Nat) : Statement (.dieResetRecall die) := show (0#64).toNat < 2 ^ 0 by decide
theorem dieReturn (die : Nat) : Statement (.dieReturn die) := show (0#64).toNat < 2 ^ 0 by decide
theorem memoryScrub (addr : Nat) : Statement (.memoryScrub addr) := show (0#64).toNat < 2 ^ 0 by decide
theorem correctedError (die : Nat) (counter : Nat) : Statement (.correctedError die counter) := show (0#64).toNat < 2 ^ 0 by decide
theorem burzerCrcReplay (link : Nat) : Statement (.burzerCrcReplay link) := show (0#64).toNat < 2 ^ 0 by decide
theorem burzerHeartbeat (link : Nat) : Statement (.burzerHeartbeat link) := show (0#64).toNat < 2 ^ 0 by decide
theorem peerSilenceTimeout (dev : Nat) : Statement (.peerSilenceTimeout dev) := show (0#64).toNat < 2 ^ 0 by decide
theorem spareAssign (dev : Nat) : Statement (.spareAssign dev) := show (0#64).toNat < 2 ^ 0 by decide
theorem checkpointRestore : Statement .checkpointRestore := show (0#64).toNat < 2 ^ 0 by decide
theorem checkpointWrite : Statement .checkpointWrite := show (0#64).toNat < 2 ^ 0 by decide
theorem thermalShutdown : Statement .thermalShutdown := show (0#64).toNat < 2 ^ 0 by decide
theorem coolantLossShutdown : Statement .coolantLossShutdown := show (0#64).toNat < 2 ^ 0 by decide
theorem clockThrottle (die : Nat) (level : Nat) : Statement (.clockThrottle die level) := show (0#64).toNat < 2 ^ 0 by decide
theorem wfeTimeout (h : Nat) : Statement (.wfeTimeout h) := show (0#64).toNat < 2 ^ 0 by decide
theorem waitmTimeout (h : Nat) : Statement (.waitmTimeout h) := show (0#64).toNat < 2 ^ 0 by decide
theorem add (o : OpDAB) : Statement (.add o) := setWidth_lt _
theorem sub (o : OpDAB) : Statement (.sub o) := setWidth_lt _
theorem and (o : OpDAB) : Statement (.and o) := setWidth_lt _
theorem or (o : OpDAB) : Statement (.or o) := setWidth_lt _
theorem xor (o : OpDAB) : Statement (.xor o) := setWidth_lt _
theorem sll (o : OpDAB) : Statement (.sll o) := setWidth_lt _
theorem srl (o : OpDAB) : Statement (.srl o) := setWidth_lt _
theorem sra (o : OpDAB) : Statement (.sra o) := setWidth_lt _
theorem slt (o : OpDAB) : Statement (.slt o) := setWidth_lt _
theorem sltn (o : OpDAB) : Statement (.sltn o) := setWidth_lt _
theorem min (o : OpDAB) : Statement (.min o) := setWidth_lt _
theorem max (o : OpDAB) : Statement (.max o) := setWidth_lt _
theorem minn (o : OpDAB) : Statement (.minn o) := setWidth_lt _
theorem maxn (o : OpDAB) : Statement (.maxn o) := setWidth_lt _
theorem andn (o : OpDAB) : Statement (.andn o) := setWidth_lt _
theorem orn (o : OpDAB) : Statement (.orn o) := setWidth_lt _
theorem rol (o : OpDAB) : Statement (.rol o) := setWidth_lt _
theorem ror (o : OpDAB) : Statement (.ror o) := setWidth_lt _
theorem addw (o : OpDAB) : Statement (.addw o) := setWidth_lt _
theorem subw (o : OpDAB) : Statement (.subw o) := setWidth_lt _
theorem mul (o : OpDAB) : Statement (.mul o) := setWidth_lt _
theorem mulh (o : OpDAB) : Statement (.mulh o) := setWidth_lt _
theorem mulhn (o : OpDAB) : Statement (.mulhn o) := setWidth_lt _
theorem mulhsn (o : OpDAB) : Statement (.mulhsn o) := setWidth_lt _
theorem div (o : OpDAB) : Statement (.div o) := setWidth_lt _
theorem divn (o : OpDAB) : Statement (.divn o) := setWidth_lt _
theorem rem (o : OpDAB) : Statement (.rem o) := setWidth_lt _
theorem remn (o : OpDAB) : Statement (.remn o) := setWidth_lt _
theorem fadd (o : OpDABFR) : Statement (.fadd o) := setWidth_lt _
theorem fsub (o : OpDABFR) : Statement (.fsub o) := setWidth_lt _
theorem fmul (o : OpDABFR) : Statement (.fmul o) := setWidth_lt _
theorem fdiv (o : OpDABFR) : Statement (.fdiv o) := setWidth_lt _
theorem fsqrt (o : OpDAFR) : Statement (.fsqrt o) := setWidth_lt _
theorem fmin (o : OpDABF) : Statement (.fmin o) := setWidth_lt _
theorem fmax (o : OpDABF) : Statement (.fmax o) := setWidth_lt _
theorem fsgnj (o : OpDABF) : Statement (.fsgnj o) := setWidth_lt _
theorem fsgnjn (o : OpDABF) : Statement (.fsgnjn o) := setWidth_lt _
theorem fsgnjx (o : OpDABF) : Statement (.fsgnjx o) := setWidth_lt _
theorem feq (o : OpDABF) : Statement (.feq o) := setWidth_lt _
theorem flt (o : OpDABF) : Statement (.flt o) := setWidth_lt _
theorem fle (o : OpDABF) : Statement (.fle o) := setWidth_lt _
theorem fclass (o : OpDAF) : Statement (.fclass o) := setWidth_lt _
theorem fma (o : OpDABEF) : Statement (.fma o) := setWidth_lt _
theorem fms (o : OpDABEF) : Statement (.fms o) := setWidth_lt _
theorem fnma (o : OpDABEF) : Statement (.fnma o) := setWidth_lt _
theorem fnms (o : OpDABEF) : Statement (.fnms o) := setWidth_lt _
theorem addi (o : OpDAI) : Statement (.addi o) := setWidth_lt _
theorem andi (o : OpDAI) : Statement (.andi o) := setWidth_lt _
theorem ori (o : OpDAI) : Statement (.ori o) := setWidth_lt _
theorem xori (o : OpDAI) : Statement (.xori o) := setWidth_lt _
theorem slti (o : OpDAI) : Statement (.slti o) := setWidth_lt _
theorem sltni (o : OpDAI) : Statement (.sltni o) := setWidth_lt _
theorem slli (o : OpDAS) : Statement (.slli o) := setWidth_lt _
theorem srli (o : OpDAS) : Statement (.srli o) := setWidth_lt _
theorem srai (o : OpDAS) : Statement (.srai o) := setWidth_lt _
theorem roli (o : OpDAS) : Statement (.roli o) := setWidth_lt _
theorem lui (o : OpDI) : Statement (.lui o) := setWidth_lt _
theorem auipc (o : OpDI) : Statement (.auipc o) := setWidth_lt _
theorem lb (o : OpDAI) : Statement (.lb o) := setWidth_lt _
theorem lh (o : OpDAI) : Statement (.lh o) := setWidth_lt _
theorem lw (o : OpDAI) : Statement (.lw o) := setWidth_lt _
theorem ld (o : OpDAI) : Statement (.ld o) := setWidth_lt _
theorem lbn (o : OpDAI) : Statement (.lbn o) := setWidth_lt _
theorem lhn (o : OpDAI) : Statement (.lhn o) := setWidth_lt _
theorem lwn (o : OpDAI) : Statement (.lwn o) := setWidth_lt _
theorem sb (o : OpSAI) : Statement (.sb o) := setWidth_lt _
theorem sh (o : OpSAI) : Statement (.sh o) := setWidth_lt _
theorem sw (o : OpSAI) : Statement (.sw o) := setWidth_lt _
theorem sd (o : OpSAI) : Statement (.sd o) := setWidth_lt _
theorem beq (o : OpABI) : Statement (.beq o) := setWidth_lt _
theorem bne (o : OpABI) : Statement (.bne o) := setWidth_lt _
theorem blt (o : OpABI) : Statement (.blt o) := setWidth_lt _
theorem bge (o : OpABI) : Statement (.bge o) := setWidth_lt _
theorem bltn (o : OpABI) : Statement (.bltn o) := setWidth_lt _
theorem bgen (o : OpABI) : Statement (.bgen o) := setWidth_lt _
theorem jal (o : OpDI) : Statement (.jal o) := setWidth_lt _
theorem jalr (o : OpDAI) : Statement (.jalr o) := setWidth_lt _
theorem amoswapW (o : OpDABO) : Statement (.amoswapW o) := setWidth_lt _
theorem amoaddW (o : OpDABO) : Statement (.amoaddW o) := setWidth_lt _
theorem amoandW (o : OpDABO) : Statement (.amoandW o) := setWidth_lt _
theorem amoorW (o : OpDABO) : Statement (.amoorW o) := setWidth_lt _
theorem amoxorW (o : OpDABO) : Statement (.amoxorW o) := setWidth_lt _
theorem amominW (o : OpDABO) : Statement (.amominW o) := setWidth_lt _
theorem amomaxW (o : OpDABO) : Statement (.amomaxW o) := setWidth_lt _
theorem amominnW (o : OpDABO) : Statement (.amominnW o) := setWidth_lt _
theorem amomaxnW (o : OpDABO) : Statement (.amomaxnW o) := setWidth_lt _
theorem amoswapD (o : OpDABO) : Statement (.amoswapD o) := setWidth_lt _
theorem amoaddD (o : OpDABO) : Statement (.amoaddD o) := setWidth_lt _
theorem amoandD (o : OpDABO) : Statement (.amoandD o) := setWidth_lt _
theorem amoorD (o : OpDABO) : Statement (.amoorD o) := setWidth_lt _
theorem amoxorD (o : OpDABO) : Statement (.amoxorD o) := setWidth_lt _
theorem amominD (o : OpDABO) : Statement (.amominD o) := setWidth_lt _
theorem amomaxD (o : OpDABO) : Statement (.amomaxD o) := setWidth_lt _
theorem amominnD (o : OpDABO) : Statement (.amominnD o) := setWidth_lt _
theorem amomaxnD (o : OpDABO) : Statement (.amomaxnD o) := setWidth_lt _
theorem cas (o : OpDABEWO) : Statement (.cas o) := setWidth_lt _
theorem fence (o : OpSK) : Statement (.fence o) := setWidth_lt _
theorem pause : Statement .pause := by unfold Statement; decide
theorem waitm (o : OpDAB) : Statement (.waitm o) := setWidth_lt _
theorem arrive (o : OpDAB) : Statement (.arrive o) := setWidth_lt _
theorem await (o : OpDAB) : Statement (.await o) := setWidth_lt _
theorem gbar (o : OpD) : Statement (.gbar o) := setWidth_lt _
theorem gbarRlx (o : OpD) : Statement (.gbarRlx o) := setWidth_lt _
theorem csrrw (o : OpDACsr) : Statement (.csrrw o) := setWidth_lt _
theorem csrrs (o : OpDACsr) : Statement (.csrrs o) := setWidth_lt _
theorem csrrc (o : OpDACsr) : Statement (.csrrc o) := setWidth_lt _
theorem csrrwi (o : OpDUCsr) : Statement (.csrrwi o) := setWidth_lt _
theorem csrrsi (o : OpDUCsr) : Statement (.csrrsi o) := setWidth_lt _
theorem csrrci (o : OpDUCsr) : Statement (.csrrci o) := setWidth_lt _
theorem trap (o : OpA) : Statement (.trap o) := setWidth_lt _
theorem trapBrk : Statement .trapBrk := by unfold Statement; decide
theorem tret : Statement .tret := by unfold Statement; decide
theorem halt : Statement .halt := by unfold Statement; decide
theorem wfe : Statement .wfe := by unfold Statement; decide
theorem tlbinv (o : OpAB) : Statement (.tlbinv o) := setWidth_lt _
theorem cflush (o : OpAB) : Statement (.cflush o) := setWidth_lt _
theorem cinval (o : OpAB) : Statement (.cinval o) := setWidth_lt _
theorem pin (o : OpDAB) : Statement (.pin o) := setWidth_lt _
theorem unpin (o : OpDAB) : Statement (.unpin o) := setWidth_lt _
theorem vqsave (o : OpA) : Statement (.vqsave o) := setWidth_lt _
theorem vqload (o : OpA) : Statement (.vqload o) := setWidth_lt _
theorem finval (o : OpA) : Statement (.finval o) := setWidth_lt _
theorem clz (o : OpDA) : Statement (.clz o) := setWidth_lt _
theorem ctz (o : OpDA) : Statement (.ctz o) := setWidth_lt _
theorem popc (o : OpDA) : Statement (.popc o) := setWidth_lt _
theorem bswap (o : OpDA) : Statement (.bswap o) := setWidth_lt _
theorem sextb (o : OpDA) : Statement (.sextb o) := setWidth_lt _
theorem sexth (o : OpDA) : Statement (.sexth o) := setWidth_lt _
theorem sextw (o : OpDA) : Statement (.sextw o) := setWidth_lt _
theorem zextb (o : OpDA) : Statement (.zextb o) := setWidth_lt _
theorem zexth (o : OpDA) : Statement (.zexth o) := setWidth_lt _
theorem zextw (o : OpDA) : Statement (.zextw o) := setWidth_lt _
theorem qpush (o : OpDAB) : Statement (.qpush o) := setWidth_lt _
theorem qpop (o : OpDAB) : Statement (.qpop o) := setWidth_lt _
theorem qpeek (o : OpDAB) : Statement (.qpeek o) := setWidth_lt _
theorem qwake (o : OpDAB) : Statement (.qwake o) := setWidth_lt _
theorem qseal (o : OpDA) : Statement (.qseal o) := setWidth_lt _
theorem qrevoke (o : OpDAB) : Statement (.qrevoke o) := setWidth_lt _
theorem qgrow (o : OpDAB) : Statement (.qgrow o) := setWidth_lt _
theorem cpy (o : OpDAB) : Statement (.cpy o) := setWidth_lt _
theorem cpybt (o : OpA) : Statement (.cpybt o) := setWidth_lt _
theorem cpywait : Statement .cpywait := by unfold Statement; decide
theorem nsub (o : OpDAB) : Statement (.nsub o) := setWidth_lt _
theorem cpyfill (o : OpDAB) : Statement (.cpyfill o) := setWidth_lt _
theorem fcvtI32F32 (o : OpDAR) : Statement (.fcvtI32F32 o) := setWidth_lt _
theorem fcvtN32F32 (o : OpDAR) : Statement (.fcvtN32F32 o) := setWidth_lt _
theorem fcvtI64F32 (o : OpDAR) : Statement (.fcvtI64F32 o) := setWidth_lt _
theorem fcvtN64F32 (o : OpDAR) : Statement (.fcvtN64F32 o) := setWidth_lt _
theorem fcvtF32I32 (o : OpDAR) : Statement (.fcvtF32I32 o) := setWidth_lt _
theorem fcvtF32N32 (o : OpDAR) : Statement (.fcvtF32N32 o) := setWidth_lt _
theorem fcvtF32I64 (o : OpDAR) : Statement (.fcvtF32I64 o) := setWidth_lt _
theorem fcvtF32N64 (o : OpDAR) : Statement (.fcvtF32N64 o) := setWidth_lt _
theorem fcvtI32F64 (o : OpDAR) : Statement (.fcvtI32F64 o) := setWidth_lt _
theorem fcvtN32F64 (o : OpDAR) : Statement (.fcvtN32F64 o) := setWidth_lt _
theorem fcvtI64F64 (o : OpDAR) : Statement (.fcvtI64F64 o) := setWidth_lt _
theorem fcvtN64F64 (o : OpDAR) : Statement (.fcvtN64F64 o) := setWidth_lt _
theorem fcvtF64I32 (o : OpDAR) : Statement (.fcvtF64I32 o) := setWidth_lt _
theorem fcvtF64N32 (o : OpDAR) : Statement (.fcvtF64N32 o) := setWidth_lt _
theorem fcvtF64I64 (o : OpDAR) : Statement (.fcvtF64I64 o) := setWidth_lt _
theorem fcvtF64N64 (o : OpDAR) : Statement (.fcvtF64N64 o) := setWidth_lt _
theorem fcvtF32F64 (o : OpDAR) : Statement (.fcvtF32F64 o) := setWidth_lt _
theorem fcvtF64F32 (o : OpDAR) : Statement (.fcvtF64F32 o) := setWidth_lt _
theorem vsetl (o : OpDAB) : Statement (.vsetl o) := setWidth_lt _
theorem vlease (o : OpDAB) : Statement (.vlease o) := setWidth_lt _
theorem vfork (o : OpDA) : Statement (.vfork o) := setWidth_lt _
theorem vjoin (o : OpDA) : Statement (.vjoin o) := setWidth_lt _
theorem vfetch (o : OpA) : Statement (.vfetch o) := setWidth_lt _
theorem vfetchw (o : OpAK) : Statement (.vfetchw o) := setWidth_lt _
theorem vloop (o : OpAB) : Statement (.vloop o) := setWidth_lt _
theorem vcommit : Statement .vcommit := by unfold Statement; decide
theorem endb : Statement .endb := by unfold Statement; decide
theorem mmode (o : OpA) : Statement (.mmode o) := setWidth_lt _
theorem mshape (o : OpDA) : Statement (.mshape o) := setWidth_lt _
theorem vaddVV (o : OpDABCEK) : Statement (.vaddVV o) := setWidth_lt _
theorem vaddVX (o : OpDABCK) : Statement (.vaddVX o) := setWidth_lt _
theorem vaddVI (o : OpDAICK) : Statement (.vaddVI o) := setWidth_lt _
theorem vsubVV (o : OpDABCEK) : Statement (.vsubVV o) := setWidth_lt _
theorem vsubVX (o : OpDABCK) : Statement (.vsubVX o) := setWidth_lt _
theorem vsubVI (o : OpDAICK) : Statement (.vsubVI o) := setWidth_lt _
theorem vrsubVV (o : OpDABCEK) : Statement (.vrsubVV o) := setWidth_lt _
theorem vrsubVX (o : OpDABCK) : Statement (.vrsubVX o) := setWidth_lt _
theorem vrsubVI (o : OpDAICK) : Statement (.vrsubVI o) := setWidth_lt _
theorem vmulVV (o : OpDABCEK) : Statement (.vmulVV o) := setWidth_lt _
theorem vmulVX (o : OpDABCK) : Statement (.vmulVX o) := setWidth_lt _
theorem vmulVI (o : OpDAICK) : Statement (.vmulVI o) := setWidth_lt _
theorem vmulhVV (o : OpDABCEK) : Statement (.vmulhVV o) := setWidth_lt _
theorem vmulhVX (o : OpDABCK) : Statement (.vmulhVX o) := setWidth_lt _
theorem vmulhVI (o : OpDAICK) : Statement (.vmulhVI o) := setWidth_lt _
theorem vmulhnVV (o : OpDABCEK) : Statement (.vmulhnVV o) := setWidth_lt _
theorem vmulhnVX (o : OpDABCK) : Statement (.vmulhnVX o) := setWidth_lt _
theorem vmulhnVI (o : OpDAICK) : Statement (.vmulhnVI o) := setWidth_lt _
theorem vandVV (o : OpDABCEK) : Statement (.vandVV o) := setWidth_lt _
theorem vandVX (o : OpDABCK) : Statement (.vandVX o) := setWidth_lt _
theorem vandVI (o : OpDAICK) : Statement (.vandVI o) := setWidth_lt _
theorem vorVV (o : OpDABCEK) : Statement (.vorVV o) := setWidth_lt _
theorem vorVX (o : OpDABCK) : Statement (.vorVX o) := setWidth_lt _
theorem vorVI (o : OpDAICK) : Statement (.vorVI o) := setWidth_lt _
theorem vxorVV (o : OpDABCEK) : Statement (.vxorVV o) := setWidth_lt _
theorem vxorVX (o : OpDABCK) : Statement (.vxorVX o) := setWidth_lt _
theorem vxorVI (o : OpDAICK) : Statement (.vxorVI o) := setWidth_lt _
theorem vsllVV (o : OpDABCEK) : Statement (.vsllVV o) := setWidth_lt _
theorem vsllVX (o : OpDABCK) : Statement (.vsllVX o) := setWidth_lt _
theorem vsllVI (o : OpDAICK) : Statement (.vsllVI o) := setWidth_lt _
theorem vsrlVV (o : OpDABCEK) : Statement (.vsrlVV o) := setWidth_lt _
theorem vsrlVX (o : OpDABCK) : Statement (.vsrlVX o) := setWidth_lt _
theorem vsrlVI (o : OpDAICK) : Statement (.vsrlVI o) := setWidth_lt _
theorem vsraVV (o : OpDABCEK) : Statement (.vsraVV o) := setWidth_lt _
theorem vsraVX (o : OpDABCK) : Statement (.vsraVX o) := setWidth_lt _
theorem vsraVI (o : OpDAICK) : Statement (.vsraVI o) := setWidth_lt _
theorem vminVV (o : OpDABCEK) : Statement (.vminVV o) := setWidth_lt _
theorem vminVX (o : OpDABCK) : Statement (.vminVX o) := setWidth_lt _
theorem vminVI (o : OpDAICK) : Statement (.vminVI o) := setWidth_lt _
theorem vmaxVV (o : OpDABCEK) : Statement (.vmaxVV o) := setWidth_lt _
theorem vmaxVX (o : OpDABCK) : Statement (.vmaxVX o) := setWidth_lt _
theorem vmaxVI (o : OpDAICK) : Statement (.vmaxVI o) := setWidth_lt _
theorem vminnVV (o : OpDABCEK) : Statement (.vminnVV o) := setWidth_lt _
theorem vminnVX (o : OpDABCK) : Statement (.vminnVX o) := setWidth_lt _
theorem vminnVI (o : OpDAICK) : Statement (.vminnVI o) := setWidth_lt _
theorem vmaxnVV (o : OpDABCEK) : Statement (.vmaxnVV o) := setWidth_lt _
theorem vmaxnVX (o : OpDABCK) : Statement (.vmaxnVX o) := setWidth_lt _
theorem vmaxnVI (o : OpDAICK) : Statement (.vmaxnVI o) := setWidth_lt _
theorem vsaddVV (o : OpDABCEK) : Statement (.vsaddVV o) := setWidth_lt _
theorem vsaddVX (o : OpDABCK) : Statement (.vsaddVX o) := setWidth_lt _
theorem vssubVV (o : OpDABCEK) : Statement (.vssubVV o) := setWidth_lt _
theorem vssubVX (o : OpDABCK) : Statement (.vssubVX o) := setWidth_lt _
theorem vsaddnVV (o : OpDABCEK) : Statement (.vsaddnVV o) := setWidth_lt _
theorem vsaddnVX (o : OpDABCK) : Statement (.vsaddnVX o) := setWidth_lt _
theorem vssubnVV (o : OpDABCEK) : Statement (.vssubnVV o) := setWidth_lt _
theorem vssubnVX (o : OpDABCK) : Statement (.vssubnVX o) := setWidth_lt _
theorem vdivVV (o : OpDABCEK) : Statement (.vdivVV o) := setWidth_lt _
theorem vdivVX (o : OpDABCK) : Statement (.vdivVX o) := setWidth_lt _
theorem vdivnVV (o : OpDABCEK) : Statement (.vdivnVV o) := setWidth_lt _
theorem vdivnVX (o : OpDABCK) : Statement (.vdivnVX o) := setWidth_lt _
theorem vremVV (o : OpDABCEK) : Statement (.vremVV o) := setWidth_lt _
theorem vremVX (o : OpDABCK) : Statement (.vremVX o) := setWidth_lt _
theorem vremnVV (o : OpDABCEK) : Statement (.vremnVV o) := setWidth_lt _
theorem vremnVX (o : OpDABCK) : Statement (.vremnVX o) := setWidth_lt _
theorem vmaccVV (o : OpDABCEK) : Statement (.vmaccVV o) := setWidth_lt _
theorem vmaccVX (o : OpDABCK) : Statement (.vmaccVX o) := setWidth_lt _
theorem vnmsacVV (o : OpDABCEK) : Statement (.vnmsacVV o) := setWidth_lt _
theorem vnmsacVX (o : OpDABCK) : Statement (.vnmsacVX o) := setWidth_lt _
theorem vavgVV (o : OpDABCEK) : Statement (.vavgVV o) := setWidth_lt _
theorem vavgVX (o : OpDABCK) : Statement (.vavgVX o) := setWidth_lt _
theorem vavgnVV (o : OpDABCEK) : Statement (.vavgnVV o) := setWidth_lt _
theorem vavgnVX (o : OpDABCK) : Statement (.vavgnVX o) := setWidth_lt _
theorem vabs (o : OpDBEK) : Statement (.vabs o) := setWidth_lt _
theorem vneg (o : OpDBEK) : Statement (.vneg o) := setWidth_lt _
theorem vpopc (o : OpDBEK) : Statement (.vpopc o) := setWidth_lt _
theorem vclz (o : OpDBEK) : Statement (.vclz o) := setWidth_lt _
theorem vwaddVV (o : OpDABCEK) : Statement (.vwaddVV o) := setWidth_lt _
theorem vwaddVX (o : OpDABCK) : Statement (.vwaddVX o) := setWidth_lt _
theorem vwaddnVV (o : OpDABCEK) : Statement (.vwaddnVV o) := setWidth_lt _
theorem vwaddnVX (o : OpDABCK) : Statement (.vwaddnVX o) := setWidth_lt _
theorem vwsubVV (o : OpDABCEK) : Statement (.vwsubVV o) := setWidth_lt _
theorem vwsubVX (o : OpDABCK) : Statement (.vwsubVX o) := setWidth_lt _
theorem vwsubnVV (o : OpDABCEK) : Statement (.vwsubnVV o) := setWidth_lt _
theorem vwsubnVX (o : OpDABCK) : Statement (.vwsubnVX o) := setWidth_lt _
theorem vwmulVV (o : OpDABCEK) : Statement (.vwmulVV o) := setWidth_lt _
theorem vwmulVX (o : OpDABCK) : Statement (.vwmulVX o) := setWidth_lt _
theorem vwmulnVV (o : OpDABCEK) : Statement (.vwmulnVV o) := setWidth_lt _
theorem vwmulnVX (o : OpDABCK) : Statement (.vwmulnVX o) := setWidth_lt _
theorem vwmaccVV (o : OpDABCEK) : Statement (.vwmaccVV o) := setWidth_lt _
theorem vwmaccVX (o : OpDABCK) : Statement (.vwmaccVX o) := setWidth_lt _
theorem vwmaccnVV (o : OpDABCEK) : Statement (.vwmaccnVV o) := setWidth_lt _
theorem vwmaccnVX (o : OpDABCK) : Statement (.vwmaccnVX o) := setWidth_lt _
theorem vnsrlVV (o : OpDABCEK) : Statement (.vnsrlVV o) := setWidth_lt _
theorem vnsrlVX (o : OpDABCK) : Statement (.vnsrlVX o) := setWidth_lt _
theorem vnsraVV (o : OpDABCEK) : Statement (.vnsraVV o) := setWidth_lt _
theorem vnsraVX (o : OpDABCK) : Statement (.vnsraVX o) := setWidth_lt _
theorem vnclipVV (o : OpDABCEK) : Statement (.vnclipVV o) := setWidth_lt _
theorem vnclipVX (o : OpDABCK) : Statement (.vnclipVX o) := setWidth_lt _
theorem vnclipnVV (o : OpDABCEK) : Statement (.vnclipnVV o) := setWidth_lt _
theorem vnclipnVX (o : OpDABCK) : Statement (.vnclipnVX o) := setWidth_lt _
theorem vfaddVV (o : OpDABCEK) : Statement (.vfaddVV o) := setWidth_lt _
theorem vfaddVX (o : OpDABCK) : Statement (.vfaddVX o) := setWidth_lt _
theorem vfsubVV (o : OpDABCEK) : Statement (.vfsubVV o) := setWidth_lt _
theorem vfsubVX (o : OpDABCK) : Statement (.vfsubVX o) := setWidth_lt _
theorem vfrsubVV (o : OpDABCEK) : Statement (.vfrsubVV o) := setWidth_lt _
theorem vfrsubVX (o : OpDABCK) : Statement (.vfrsubVX o) := setWidth_lt _
theorem vfmulVV (o : OpDABCEK) : Statement (.vfmulVV o) := setWidth_lt _
theorem vfmulVX (o : OpDABCK) : Statement (.vfmulVX o) := setWidth_lt _
theorem vfdivVV (o : OpDABCEK) : Statement (.vfdivVV o) := setWidth_lt _
theorem vfdivVX (o : OpDABCK) : Statement (.vfdivVX o) := setWidth_lt _
theorem vfrdivVV (o : OpDABCEK) : Statement (.vfrdivVV o) := setWidth_lt _
theorem vfrdivVX (o : OpDABCK) : Statement (.vfrdivVX o) := setWidth_lt _
theorem vfminVV (o : OpDABCEK) : Statement (.vfminVV o) := setWidth_lt _
theorem vfminVX (o : OpDABCK) : Statement (.vfminVX o) := setWidth_lt _
theorem vfmaxVV (o : OpDABCEK) : Statement (.vfmaxVV o) := setWidth_lt _
theorem vfmaxVX (o : OpDABCK) : Statement (.vfmaxVX o) := setWidth_lt _
theorem vfsgnjVV (o : OpDABCEK) : Statement (.vfsgnjVV o) := setWidth_lt _
theorem vfsgnjVX (o : OpDABCK) : Statement (.vfsgnjVX o) := setWidth_lt _
theorem vfsgnjnVV (o : OpDABCEK) : Statement (.vfsgnjnVV o) := setWidth_lt _
theorem vfsgnjnVX (o : OpDABCK) : Statement (.vfsgnjnVX o) := setWidth_lt _
theorem vfsgnjxVV (o : OpDABCEK) : Statement (.vfsgnjxVV o) := setWidth_lt _
theorem vfsgnjxVX (o : OpDABCK) : Statement (.vfsgnjxVX o) := setWidth_lt _
theorem vfmaVV (o : OpDABCEK) : Statement (.vfmaVV o) := setWidth_lt _
theorem vfmaVX (o : OpDABCK) : Statement (.vfmaVX o) := setWidth_lt _
theorem vfmsVV (o : OpDABCEK) : Statement (.vfmsVV o) := setWidth_lt _
theorem vfmsVX (o : OpDABCK) : Statement (.vfmsVX o) := setWidth_lt _
theorem vfnmaVV (o : OpDABCEK) : Statement (.vfnmaVV o) := setWidth_lt _
theorem vfnmaVX (o : OpDABCK) : Statement (.vfnmaVX o) := setWidth_lt _
theorem vfnmsVV (o : OpDABCEK) : Statement (.vfnmsVV o) := setWidth_lt _
theorem vfnmsVX (o : OpDABCK) : Statement (.vfnmsVX o) := setWidth_lt _
theorem vfsqrt (o : OpDBEKR) : Statement (.vfsqrt o) := setWidth_lt _
theorem vfrcp (o : OpDBEKR) : Statement (.vfrcp o) := setWidth_lt _
theorem vfrsq (o : OpDBEKR) : Statement (.vfrsq o) := setWidth_lt _
theorem vfexp2 (o : OpDBEKR) : Statement (.vfexp2 o) := setWidth_lt _
theorem vflog2 (o : OpDBEKR) : Statement (.vflog2 o) := setWidth_lt _
theorem vfsinp (o : OpDBEKR) : Statement (.vfsinp o) := setWidth_lt _
theorem vfcosp (o : OpDBEKR) : Statement (.vfcosp o) := setWidth_lt _
theorem vftanh (o : OpDBEKR) : Statement (.vftanh o) := setWidth_lt _
theorem vfabs (o : OpDBEKR) : Statement (.vfabs o) := setWidth_lt _
theorem vfneg (o : OpDBEKR) : Statement (.vfneg o) := setWidth_lt _
theorem vfclass (o : OpDBEKR) : Statement (.vfclass o) := setWidth_lt _
theorem vffloor (o : OpDBEKR) : Statement (.vffloor o) := setWidth_lt _
theorem vfceil (o : OpDBEKR) : Statement (.vfceil o) := setWidth_lt _
theorem vfround (o : OpDBEKR) : Statement (.vfround o) := setWidth_lt _
theorem vcvtI32F32 (o : OpDBEKSR) : Statement (.vcvtI32F32 o) := setWidth_lt _
theorem vcvtN32F32 (o : OpDBEKSR) : Statement (.vcvtN32F32 o) := setWidth_lt _
theorem vcvtF32I32 (o : OpDBEKSR) : Statement (.vcvtF32I32 o) := setWidth_lt _
theorem vcvtF32N32 (o : OpDBEKSR) : Statement (.vcvtF32N32 o) := setWidth_lt _
theorem vcvtI64F64 (o : OpDBEKSR) : Statement (.vcvtI64F64 o) := setWidth_lt _
theorem vcvtN64F64 (o : OpDBEKSR) : Statement (.vcvtN64F64 o) := setWidth_lt _
theorem vcvtF64I64 (o : OpDBEKSR) : Statement (.vcvtF64I64 o) := setWidth_lt _
theorem vcvtF64N64 (o : OpDBEKSR) : Statement (.vcvtF64N64 o) := setWidth_lt _
theorem vcvtF64F32 (o : OpDBEKSR) : Statement (.vcvtF64F32 o) := setWidth_lt _
theorem vcvtF32F64 (o : OpDBEKSR) : Statement (.vcvtF32F64 o) := setWidth_lt _
theorem vcvtHF32 (o : OpDBEKSR) : Statement (.vcvtHF32 o) := setWidth_lt _
theorem vcvtBfF32 (o : OpDBEKSR) : Statement (.vcvtBfF32 o) := setWidth_lt _
theorem vcvtF32H (o : OpDBEKSR) : Statement (.vcvtF32H o) := setWidth_lt _
theorem vcvtF32Bf (o : OpDBEKSR) : Statement (.vcvtF32Bf o) := setWidth_lt _
theorem vcvtB8F32 (o : OpDBEKSR) : Statement (.vcvtB8F32 o) := setWidth_lt _
theorem vcvtF32B8 (o : OpDBEKSR) : Statement (.vcvtF32B8 o) := setWidth_lt _
theorem vcvtB8H (o : OpDBEKSR) : Statement (.vcvtB8H o) := setWidth_lt _
theorem vcvtHB8 (o : OpDBEKSR) : Statement (.vcvtHB8 o) := setWidth_lt _
theorem vcvtB8Bf (o : OpDBEKSR) : Statement (.vcvtB8Bf o) := setWidth_lt _
theorem vcvtBfB8 (o : OpDBEKSR) : Statement (.vcvtBfB8 o) := setWidth_lt _
theorem vcvtE4F32 (o : OpDBEKSR) : Statement (.vcvtE4F32 o) := setWidth_lt _
theorem vcvtF32E4 (o : OpDBEKSR) : Statement (.vcvtF32E4 o) := setWidth_lt _
theorem vcvtHE4 (o : OpDBEKSR) : Statement (.vcvtHE4 o) := setWidth_lt _
theorem vcvtQ4F32 (o : OpDBEKSR) : Statement (.vcvtQ4F32 o) := setWidth_lt _
theorem vcvtF32Q4 (o : OpDBEKSR) : Statement (.vcvtF32Q4 o) := setWidth_lt _
theorem vcvtHQ4 (o : OpDBEKSR) : Statement (.vcvtHQ4 o) := setWidth_lt _
theorem vcmpEqVV (o : OpD3ABCEK) : Statement (.vcmpEqVV o) := setWidth_lt _
theorem vcmpEqVX (o : OpD3ABCK) : Statement (.vcmpEqVX o) := setWidth_lt _
theorem vcmpNeVV (o : OpD3ABCEK) : Statement (.vcmpNeVV o) := setWidth_lt _
theorem vcmpNeVX (o : OpD3ABCK) : Statement (.vcmpNeVX o) := setWidth_lt _
theorem vcmpLtVV (o : OpD3ABCEK) : Statement (.vcmpLtVV o) := setWidth_lt _
theorem vcmpLtVX (o : OpD3ABCK) : Statement (.vcmpLtVX o) := setWidth_lt _
theorem vcmpLeVV (o : OpD3ABCEK) : Statement (.vcmpLeVV o) := setWidth_lt _
theorem vcmpLeVX (o : OpD3ABCK) : Statement (.vcmpLeVX o) := setWidth_lt _
theorem vcmpLtnVV (o : OpD3ABCEK) : Statement (.vcmpLtnVV o) := setWidth_lt _
theorem vcmpLtnVX (o : OpD3ABCK) : Statement (.vcmpLtnVX o) := setWidth_lt _
theorem vcmpLenVV (o : OpD3ABCEK) : Statement (.vcmpLenVV o) := setWidth_lt _
theorem vcmpLenVX (o : OpD3ABCK) : Statement (.vcmpLenVX o) := setWidth_lt _
theorem vcmpGtVV (o : OpD3ABCEK) : Statement (.vcmpGtVV o) := setWidth_lt _
theorem vcmpGtVX (o : OpD3ABCK) : Statement (.vcmpGtVX o) := setWidth_lt _
theorem vcmpGeVV (o : OpD3ABCEK) : Statement (.vcmpGeVV o) := setWidth_lt _
theorem vcmpGeVX (o : OpD3ABCK) : Statement (.vcmpGeVX o) := setWidth_lt _
theorem vcmpFeqVV (o : OpD3ABCEK) : Statement (.vcmpFeqVV o) := setWidth_lt _
theorem vcmpFeqVX (o : OpD3ABCK) : Statement (.vcmpFeqVX o) := setWidth_lt _
theorem vcmpFneVV (o : OpD3ABCEK) : Statement (.vcmpFneVV o) := setWidth_lt _
theorem vcmpFneVX (o : OpD3ABCK) : Statement (.vcmpFneVX o) := setWidth_lt _
theorem vcmpFltVV (o : OpD3ABCEK) : Statement (.vcmpFltVV o) := setWidth_lt _
theorem vcmpFltVX (o : OpD3ABCK) : Statement (.vcmpFltVX o) := setWidth_lt _
theorem vcmpFleVV (o : OpD3ABCEK) : Statement (.vcmpFleVV o) := setWidth_lt _
theorem vcmpFleVX (o : OpD3ABCK) : Statement (.vcmpFleVX o) := setWidth_lt _
theorem vcmpFgtVV (o : OpD3ABCEK) : Statement (.vcmpFgtVV o) := setWidth_lt _
theorem vcmpFgtVX (o : OpD3ABCK) : Statement (.vcmpFgtVX o) := setWidth_lt _
theorem vcmpFgeVV (o : OpD3ABCEK) : Statement (.vcmpFgeVV o) := setWidth_lt _
theorem vcmpFgeVX (o : OpD3ABCK) : Statement (.vcmpFgeVX o) := setWidth_lt _
theorem vcmpFunordVV (o : OpD3ABCEK) : Statement (.vcmpFunordVV o) := setWidth_lt _
theorem vcmpFunordVX (o : OpD3ABCK) : Statement (.vcmpFunordVX o) := setWidth_lt _
theorem vcmpFordVV (o : OpD3ABCEK) : Statement (.vcmpFordVV o) := setWidth_lt _
theorem vcmpFordVX (o : OpD3ABCK) : Statement (.vcmpFordVX o) := setWidth_lt _
theorem kand (o : OpD3A3B3CEK) : Statement (.kand o) := setWidth_lt _
theorem kor (o : OpD3A3B3CEK) : Statement (.kor o) := setWidth_lt _
theorem kxor (o : OpD3A3B3CEK) : Statement (.kxor o) := setWidth_lt _
theorem kandn (o : OpD3A3B3CEK) : Statement (.kandn o) := setWidth_lt _
theorem knot (o : OpD3B3EK) : Statement (.knot o) := setWidth_lt _
theorem kmov (o : OpD3B3EK) : Statement (.kmov o) := setWidth_lt _
theorem kpop (o : OpDB3EK) : Statement (.kpop o) := setWidth_lt _
theorem kfirst (o : OpDB3EK) : Statement (.kfirst o) := setWidth_lt _
theorem kiota (o : OpDB3EK) : Statement (.kiota o) := setWidth_lt _
theorem vmerge (o : OpDABCEK) : Statement (.vmerge o) := setWidth_lt _
theorem vcompress (o : OpDBEK) : Statement (.vcompress o) := setWidth_lt _
theorem vexpand (o : OpDBEK) : Statement (.vexpand o) := setWidth_lt _
theorem ksetx (o : OpD3ABK) : Statement (.ksetx o) := setWidth_lt _
theorem vslideup (o : OpDABCK) : Statement (.vslideup o) := setWidth_lt _
theorem vslidedn (o : OpDABCK) : Statement (.vslidedn o) := setWidth_lt _
theorem vpermv (o : OpDABCEK) : Statement (.vpermv o) := setWidth_lt _
theorem vbcast (o : OpDABCK) : Statement (.vbcast o) := setWidth_lt _
theorem vextract (o : OpDABC) : Statement (.vextract o) := setWidth_lt _
theorem vinsert (o : OpDAB) : Statement (.vinsert o) := setWidth_lt _
theorem vilv (o : OpDABCEK) : Statement (.vilv o) := setWidth_lt _
theorem vdilv (o : OpDACK) : Statement (.vdilv o) := setWidth_lt _
theorem vid (o : OpDK) : Statement (.vid o) := setWidth_lt _
theorem vrand (o : OpDAK) : Statement (.vrand o) := setWidth_lt _
theorem vmvV (o : OpDBEK) : Statement (.vmvV o) := setWidth_lt _
theorem vmvX (o : OpDBK) : Statement (.vmvX o) := setWidth_lt _
theorem vredsum (o : OpDABCEK) : Statement (.vredsum o) := setWidth_lt _
theorem vredmin (o : OpDABCEK) : Statement (.vredmin o) := setWidth_lt _
theorem vredmax (o : OpDABCEK) : Statement (.vredmax o) := setWidth_lt _
theorem vredminn (o : OpDABCEK) : Statement (.vredminn o) := setWidth_lt _
theorem vredmaxn (o : OpDABCEK) : Statement (.vredmaxn o) := setWidth_lt _
theorem vredand (o : OpDABCEK) : Statement (.vredand o) := setWidth_lt _
theorem vredor (o : OpDABCEK) : Statement (.vredor o) := setWidth_lt _
theorem vredxor (o : OpDABCEK) : Statement (.vredxor o) := setWidth_lt _
theorem vfsum (o : OpDABCEK) : Statement (.vfsum o) := setWidth_lt _
theorem vfsumo (o : OpDABCEK) : Statement (.vfsumo o) := setWidth_lt _
theorem vfredmin (o : OpDABCEK) : Statement (.vfredmin o) := setWidth_lt _
theorem vfredmax (o : OpDABCEK) : Statement (.vfredmax o) := setWidth_lt _
theorem vwsum (o : OpDABCEK) : Statement (.vwsum o) := setWidth_lt _
theorem vbshl (o : OpDABCK) : Statement (.vbshl o) := setWidth_lt _
theorem vbshr (o : OpDABCK) : Statement (.vbshr o) := setWidth_lt _
theorem vbfun (o : OpDABCK) : Statement (.vbfun o) := setWidth_lt _
theorem vternlog (o : OpDABI) : Statement (.vternlog o) := setWidth_lt _
theorem vld (o : OpDAOK) : Statement (.vld o) := setWidth_lt _
theorem vldReg (o : OpDA) : Statement (.vldReg o) := setWidth_lt _
theorem vlds (o : OpDABOK) : Statement (.vlds o) := setWidth_lt _
theorem vldx (o : OpDABCOK) : Statement (.vldx o) := setWidth_lt _
theorem vst (o : OpDACOK) : Statement (.vst o) := setWidth_lt _
theorem vstReg (o : OpDAC) : Statement (.vstReg o) := setWidth_lt _
theorem vsts (o : OpDABCOK) : Statement (.vsts o) := setWidth_lt _
theorem vstx (o : OpDABCOK) : Statement (.vstx o) := setWidth_lt _
theorem vgll (o : OpDABCK) : Statement (.vgll o) := setWidth_lt _
theorem vscc (o : OpDABCK) : Statement (.vscc o) := setWidth_lt _
theorem vacc (o : OpDABCK) : Statement (.vacc o) := setWidth_lt _
theorem vldwE4H (o : OpDABK) : Statement (.vldwE4H o) := setWidth_lt _
theorem vldwE4Bf (o : OpDABK) : Statement (.vldwE4Bf o) := setWidth_lt _
theorem vldwE4B8 (o : OpDABK) : Statement (.vldwE4B8 o) := setWidth_lt _
theorem vldwQ4H (o : OpDABK) : Statement (.vldwQ4H o) := setWidth_lt _
theorem vldwQ4Bf (o : OpDABK) : Statement (.vldwQ4Bf o) := setWidth_lt _
theorem vldwQ4B8 (o : OpDABK) : Statement (.vldwQ4B8 o) := setWidth_lt _
theorem gsub (o : OpDABCEK) : Statement (.gsub o) := setWidth_lt _
theorem gadd (o : OpDABCEK) : Statement (.gadd o) := setWidth_lt _
theorem glen (o : OpDBEK) : Statement (.glen o) := setWidth_lt _
theorem gtag (o : OpDBEK) : Statement (.gtag o) := setWidth_lt _
theorem gpack (o : OpDABCEK) : Statement (.gpack o) := setWidth_lt _
theorem gunpack (o : OpDBEK) : Statement (.gunpack o) := setWidth_lt _
theorem grehome (o : OpDBEK) : Statement (.grehome o) := setWidth_lt _
theorem gdot (o : OpDABCEK) : Statement (.gdot o) := setWidth_lt _
theorem gcvt (o : OpDABCK) : Statement (.gcvt o) := setWidth_lt _
theorem gscl (o : OpDABCK) : Statement (.gscl o) := setWidth_lt _
theorem gsettag (o : OpDABCK) : Statement (.gsettag o) := setWidth_lt _
theorem gmorton (o : OpDABCK) : Statement (.gmorton o) := setWidth_lt _
theorem gnbr (o : OpDABCK) : Statement (.gnbr o) := setWidth_lt _
theorem vcellins (o : OpDABEK) : Statement (.vcellins o) := setWidth_lt _
theorem vcellfind (o : OpDABEK) : Statement (.vcellfind o) := setWidth_lt _
theorem recur (o : OpDAB) : Statement (.recur o) := setWidth_lt _
theorem rspawn (o : OpACK) : Statement (.rspawn o) := setWidth_lt _
theorem rret (o : OpACK) : Statement (.rret o) := setWidth_lt _
theorem rkids (o : OpDBK) : Statement (.rkids o) := setWidth_lt _
theorem rdepth (o : OpDK) : Statement (.rdepth o) := setWidth_lt _
theorem rnkid (o : OpDK) : Statement (.rnkid o) := setWidth_lt _
theorem mzero (o : OpD) : Statement (.mzero o) := setWidth_lt _
theorem mrowv (o : OpDABK) : Statement (.mrowv o) := setWidth_lt _
theorem mvrow (o : OpDABCK) : Statement (.mvrow o) := setWidth_lt _
theorem mcolv (o : OpDABK) : Statement (.mcolv o) := setWidth_lt _
theorem mvcol (o : OpDABCK) : Statement (.mvcol o) := setWidth_lt _
theorem mdrain (o : OpDAB) : Statement (.mdrain o) := setWidth_lt _
theorem mload (o : OpDAB) : Statement (.mload o) := setWidth_lt _
theorem amerge (o : OpAB) : Statement (.amerge o) := setWidth_lt _
theorem sacc (o : OpAB) : Statement (.sacc o) := setWidth_lt _
theorem opacc (o : OpTile) : Statement (.opacc o) := BitVec.isLt _
theorem opsub (o : OpTile) : Statement (.opsub o) := BitVec.isLt _
theorem opaccw (o : OpTile) : Statement (.opaccw o) := BitVec.isLt _
theorem cAddi (o : OpCDI) : Statement (.cAddi o) := setWidth_lt _
theorem cMv (o : OpCDS) : Statement (.cMv o) := setWidth_lt _
theorem cAdd (o : OpCDS) : Statement (.cAdd o) := setWidth_lt _
theorem cSub (o : OpCDS) : Statement (.cSub o) := setWidth_lt _
theorem cLd (o : OpCDAO) : Statement (.cLd o) := setWidth_lt _
theorem cSd (o : OpCSAO) : Statement (.cSd o) := setWidth_lt _
theorem cLw (o : OpCDAO) : Statement (.cLw o) := setWidth_lt _
theorem cSw (o : OpCSAO) : Statement (.cSw o) := setWidth_lt _
theorem cJ (o : OpCO) : Statement (.cJ o) := setWidth_lt _
theorem cBeqz (o : OpCSO) : Statement (.cBeqz o) := setWidth_lt _
theorem cBnez (o : OpCSO) : Statement (.cBnez o) := setWidth_lt _
theorem cVfetch (o : OpCA) : Statement (.cVfetch o) := setWidth_lt _
theorem inboundPeerAccess (link : Nat) (write : Bool) (addr : Nat × Nat) (value : Word) : Statement (.inboundPeerAccess link write addr value) := show (0#64).toNat < 2 ^ 0 by decide
theorem spdmRequest (port : Nat) (req : Nat) : Statement (.spdmRequest port req) := show (0#64).toNat < 2 ^ 0 by decide
theorem bar2Access (port : Nat) (write : Bool) (addr : Nat) (value : Word) : Statement (.bar2Access port write addr value) := show (0#64).toNat < 2 ^ 0 by decide
theorem ioDomainPowerLoss (port : Nat) : Statement (.ioDomainPowerLoss port) := show (0#64).toNat < 2 ^ 0 by decide
theorem powerLoss : Statement .powerLoss := show (0#64).toNat < 2 ^ 0 by decide
theorem cycleCountAdvance (die : Nat) (stable : Nat) (n : Nat) : Statement (.cycleCountAdvance die stable n) := show (0#64).toNat < 2 ^ 0 by decide

end EncodedBits

end Sys2Proof.Laws
end

