-- ==== Sys2Proof/Laws/Vector.lean ====
section
/-! SUPPORT. Elements of registers, and the loop that writes them (R84, R168). -/

namespace Sys2Proof.Machine

/-! ## One element -/

/-- The bits of a register after one of its elements is written (R84). -/
theorem getLsbD_setElem {m : Nat} (r : BitVec m) (w i : Nat) (e : BitVec w) (b : Nat) (hb : b < m) :
    (setElem r w i e).getLsbD b = if i * w ≤ b ∧ b < i * w + w then e.getLsbD (b - i * w) else r.getLsbD b := by
  unfold setElem
  simp only [BitVec.getLsbD_or, BitVec.getLsbD_and, BitVec.getLsbD_not, BitVec.getLsbD_shiftLeft, BitVec.getLsbD_ofNat,
    Nat.testBit_two_pow_sub_one, hb, decide_true, Bool.true_and]
  by_cases h1 : b < i * w
  · have h2 : ¬(i * w ≤ b ∧ b < i * w + w) := by omega
    simp [h1, h2]
  · have h3 : b - i * w < m := by omega
    have ht : e.toNat.testBit (b - i * w) = e.getLsbD (b - i * w) := by rw [BitVec.getLsbD]
    by_cases h4 : b < i * w + w
    · have h5 : i * w ≤ b ∧ b < i * w + w := by omega
      have h6 : b - i * w < w := by omega
      simp [h1, h3, h5, h6, ht]
    · have h5 : ¬(i * w ≤ b ∧ b < i * w + w) := by omega
      have h6 : ¬b - i * w < w := by omega
      have h7 : e.getLsbD (b - i * w) = false := BitVec.getLsbD_of_ge _ _ (by omega)
      simp [h1, h3, h5, h6, ht, h7]

/-- Bit `b` is in element `i` of width `w` where `b / w` is `i`. -/
theorem in_elem {w i b : Nat} (hw : 0 < w) : (i * w ≤ b ∧ b < i * w + w) ↔ b / w = i := by
  constructor
  · intro ⟨h1, h2⟩
    exact Nat.div_eq_of_lt_le h1 (by rw [Nat.add_mul, Nat.one_mul]; exact h2)
  · intro h
    subst h
    refine ⟨Nat.div_mul_le_self b w, ?_⟩
    have := Nat.lt_div_mul_add (a := b) hw
    exact this

/-! ## The loop -/

/-- The loop where no element raises an enabled flag. -/
theorem mapElems_noTrap (per w : Nat) (fen : Flags) (f : Nat → Nat → Nat × Flags) (els : Elems) (t : Dst) (fl : Flags)
    (h : ∀ q ∈ els, flagStop fen (f q.1 q.2).2 q.1 = none) :
    mapElems per w fen f els t fl =
      (els.foldl (fun t q => t.put per w q.2 (f q.1 q.2).1) t, els.foldl (fun a q => a ||| (f q.1 q.2).2) fl, none) := by
  induction els generalizing t fl with
  | nil => rfl
  | cons q els ih =>
    obtain ⟨i, p⟩ := q
    have h1 := h (i, p) List.mem_cons_self
    simp only [mapElems, h1, List.foldl_cons]
    exact ih _ _ (fun q hq => h q (List.mem_cons_of_mem _ hq))

/-- The loop over elements of one register leaves the other two alone, and marks the first where there are elements. -/
theorem foldl_put_first {per w : Nat} (g : Nat → Nat) (els : Elems) (t : Dst) (h : ∀ q ∈ els, q.2 < per) :
    let u := els.foldl (fun t q => t.put per w q.2 (g q.2)) t
    u.r1 = t.r1 ∧ u.r2 = t.r2 ∧ u.w1 = t.w1 ∧ u.w2 = t.w2 ∧ u.w0 = (t.w0 || !els.isEmpty) := by
  induction els generalizing t with
  | nil => simp
  | cons q els ih =>
    have h1 := h q List.mem_cons_self
    have := ih (t.put per w q.2 (g q.2)) (fun q hq => h q (List.mem_cons_of_mem _ hq))
    simp only [List.foldl_cons]
    simp only [Dst.put, h1, if_true] at this ⊢
    obtain ⟨a1, a2, a3, a4, a5⟩ := this
    refine ⟨a1, a2, a3, a4, ?_⟩
    rw [a5]
    simp

/-- The bits of the first register after the loop: those of the elements written, and what was there. -/
theorem foldl_put_bits {per w : Nat} (hw : 0 < w) (g : Nat → Nat) (els : Elems) (t : Dst)
    (h : ∀ q ∈ els, q.2 < per) (b : Nat) (hb : b < 65536) :
    (els.foldl (fun t q => t.put per w q.2 (g q.2)) t).r0.getLsbD b =
      if b / w ∈ els.map Prod.snd then (BitVec.ofNat w (g (b / w))).getLsbD (b % w) else t.r0.getLsbD b := by
  induction els generalizing t with
  | nil => simp
  | cons q els ih =>
    have h1 := h q List.mem_cons_self
    rw [List.foldl_cons, ih _ (fun q hq => h q (List.mem_cons_of_mem _ hq))]
    simp only [Dst.put, h1, if_true, List.map_cons, List.mem_cons]
    rw [getLsbD_setElem _ _ _ _ _ hb]
    by_cases h2 : b / w ∈ els.map Prod.snd
    · simp [h2]
    · rw [if_neg h2]
      by_cases h3 : b / w = q.2
      · have h4 : b - q.2 * w = b % w := by
          have := Nat.div_add_mod b w
          rw [h3, Nat.mul_comm] at this
          omega
        rw [if_pos ((in_elem hw).2 h3), if_pos (.inl h3), h4, h3]
      · rw [if_neg (fun c => h3 ((in_elem hw).1 c)), if_neg (by simp [h2, h3])]

/-! ## The whole instruction -/

theorem mem_countFrom {a n i : Nat} : i ∈ countFrom a n ↔ a ≤ i ∧ i < a + n := by
  induction n generalizing a with
  | zero => simp [countFrom]
  | succ n ih => simp [countFrom, ih]; omega

/-- The active elements of an instruction, in ascending order. -/
theorem actives_eq (h : Hart) (k : KReg) :
    h.actives k (rangeElems h.vstart h.count) = (h.activeList k).map (fun i => (i, i)) := by
  unfold Hart.actives rangeElems Hart.activeList
  rw [List.filter_map]
  rfl

theorem mem_activeList {h : Hart} {k : KReg} {p : Nat} : p ∈ h.activeList k ↔ h.active k p = true := by
  unfold Hart.activeList Hart.active
  simp only [List.mem_filter, mem_countFrom, Bool.and_eq_true, decide_eq_true_eq]
  constructor
  · intro ⟨h1, h2⟩
    exact ⟨by omega, h2⟩
  · intro ⟨h1, h2⟩
    exact ⟨by omega, h2⟩

theorem getLsbD_setBit_true {m : Nat} (x : BitVec m) (i j : Nat) (hi : i < m) :
    (setBit x i true).getLsbD j = (decide (j = i) || x.getLsbD j) := by
  unfold setBit setBits
  simp only [BitVec.getLsbD_or, BitVec.getLsbD_and, BitVec.getLsbD_not, BitVec.getLsbD_shiftLeft, BitVec.getLsbD_ofNat]
  by_cases h1 : j < m
  · by_cases h2 : j < i
    · have h3 : ¬j = i := by omega
      simp [h1, h2, h3]
    · by_cases h3 : j = i
      · subst h3
        simp [h1]
        right
        omega
      · have h4 : j - i ≠ 0 := by omega
        have h5 : j - i < m := by omega
        have h6 : Nat.testBit 1 (j - i) = false := by
          cases hk : j - i with
          | zero => exact absurd hk h4
          | succ n => simp [Nat.testBit_succ]
        simp [h1, h2, h3, h5, h6]
  · have h2 : ¬j = i := by omega
    simp [h1, h2, BitVec.getLsbD_of_ge _ _ (Nat.le_of_not_lt h1)]

/-- An element-wise instruction that raises no enabled flag: its destination takes the results of the active elements, its flags are
ORed, and nothing else changes. -/
theorem vmap_done {s : State} {r : Row} {u : BitVec 64} (h : VReady s r u) (hl : lenOf u = 4) (d : Reg) (k : KReg) (per w : Nat)
    (hw : 0 < w) (hper : per * w ≤ 65536) (hfit : ∀ p, s.hart.active k p = true → p < per) (f : Nat → Nat → Nat × Flags)
    (g : Nat → Nat × Flags) (hg : ∀ p, f p p = g p) (hn : s.hart.noTrap k (fun p => (g p).2)) :
    ∃ t, State.afterLanes r s.hart.pc ((s.queued r u [] (lenOf u)).vmap d k per w (rangeElems s.hart.vstart s.hart.count) f) = t ∧
      VToV s t d 1 per w (s.hart.active k) (fun p => (g p).1) (s.hart.flagsOf k (fun p => (g p).2)) := by
  refine ⟨_, rfl, ?_⟩
  have hact : (s.queued r u [] (lenOf u)).hart.actives k (rangeElems s.hart.vstart s.hart.count) =
      (s.hart.activeList k).map (fun i => (i, i)) := actives_eq s.hart k
  have hmem : ∀ q ∈ (s.hart.activeList k).map (fun i => (i, i)), q.1 = q.2 ∧ s.hart.active k q.2 = true := by
    intro q hq
    obtain ⟨i, hi, rfl⟩ := List.mem_map.1 hq
    exact ⟨rfl, mem_activeList.1 hi⟩
  have hfl : ∀ q ∈ (s.hart.activeList k).map (fun i => (i, i)), flagStop (s.queued r u [] (lenOf u)).hart.fen (f q.1 q.2).2 q.1 = none := by
    intro q hq
    obtain ⟨h1, h2⟩ := hmem q hq
    rw [h1, hg]
    exact hn q.2 h2
  unfold State.vmap
  simp only [hact]
  rw [mapElems_noTrap _ _ _ _ _ _ _ hfl]
  have hput : ((s.hart.activeList k).map (fun i => (i, i))).foldl (fun t q => t.put per w q.2 (f q.1 q.2).1) (s.hart.dst d) =
      ((s.hart.activeList k).map (fun i => (i, i))).foldl (fun t q => t.put per w q.2 (g q.2).1) (s.hart.dst d) := by
    apply List.foldl_ext
    intro a q hq
    rw [(hmem q hq).1, hg]
  have hflg : ((s.hart.activeList k).map (fun i => (i, i))).foldl (fun a q => a ||| (f q.1 q.2).2) noFlags =
      s.hart.flagsOf k (fun p => (g p).2) := by
    rw [List.foldl_map]
    unfold Hart.flagsOf
    apply List.foldl_ext
    intro a p _
    rw [hg]
  have hlt : ∀ q ∈ (s.hart.activeList k).map (fun i => (i, i)), q.2 < per := fun q hq => hfit _ (hmem q hq).2
  have hfirst := foldl_put_first (w := w) (fun p => (g p).1) ((s.hart.activeList k).map (fun i => (i, i))) (s.hart.dst d) hlt
  have hbits := foldl_put_bits hw (fun p => (g p).1) ((s.hart.activeList k).map (fun i => (i, i))) (s.hart.dst d) hlt
  have hd : (s.queued r u [] (lenOf u)).hart.dst d = s.hart.dst d := rfl
  rw [hd, hput, hflg]
  generalize hT : ((s.hart.activeList k).map (fun i => (i, i))).foldl (fun t q => t.put per w q.2 (g q.2).1) (s.hart.dst d) = T at *
  generalize hF : s.hart.flagsOf k (fun p => (g p).2) = F at *
  obtain ⟨-, -, h1, h2, h0⟩ := hfirst
  have hw1 : T.w1 = false := h1
  have hw2 : T.w2 = false := h2
  have hsnd : ((s.hart.activeList k).map (fun i => (i, i))).map Prod.snd = s.hart.activeList k := by simp [Function.comp_def]
  rw [hsnd] at hbits
  have hm (p : Nat) : p ∈ s.hart.activeList k ↔ s.hart.active k p = true := mem_activeList
  -- the registers of the result
  have hbit : ∀ b, T.r0.getLsbD b = if decide (b / w < per) && s.hart.active k (b / w) then (BitVec.ofNat w (g (b / w)).1).getLsbD (b % w)
      else (s.hart.getV d).getLsbD b := by
    intro b
    by_cases hb : b < 65536
    · rw [hbits b hb]
      by_cases ha : s.hart.active k (b / w) = true
      · simp [hm, ha, hfit _ ha]
      · simp [hm, ha, Hart.dst]
    · have hb' : 65536 ≤ b := by omega
      have hx : ¬b / w < per := by
        intro hc
        have := (Nat.div_lt_iff_lt_mul hw).1 hc
        omega
      simp [hx, BitVec.getLsbD_of_ge _ _ hb']
  have hwr : ∀ (t : State), (t.hart.v = if T.w0 then s.hart.v.set d.toNat T.r0 d.isLt else s.hart.v) →
      (t.hart.csr.vdirty = if T.w0 then setBit s.hart.csr.vdirty d.toNat true else s.hart.csr.vdirty) →
      VWritten s t d 1 per w (s.hart.active k) (fun p => (g p).1) := by
    intro t hv hdirty
    have hw0 : T.w0 = !(s.hart.activeList k).isEmpty := by simpa [Hart.dst] using h0
    have hj : ∀ j, j < 1 → d + BitVec.ofNat 5 j = d := by
      intro j hj
      have : j = 0 := by omega
      subst this
      simp
    have hd32 : d.toNat < 64 := by have := d.isLt; omega
    have hne : (∃ p, s.hart.active k p = true) → T.w0 = true := by
      intro ⟨p, hp⟩
      have := (hm p).2 hp
      rw [hw0]
      cases hl : s.hart.activeList k with
      | nil => rw [hl] at this; cases this
      | cons a l => rfl
    have hno : T.w0 = false → ∀ p, s.hart.active k p = false := by
      intro h p
      cases hp : s.hart.active k p with
      | false => rfl
      | true => rw [hne ⟨p, hp⟩] at h; cases h
    refine ⟨?_, ?_, ?_, ?_⟩
    · intro j h b
      have hj0 : j = 0 := by omega
      rw [hj j h, hj0, Nat.zero_mul, Nat.zero_add]
      rw [← hbit b]
      cases h0 : T.w0 with
      | true => simp [Hart.getV, hv, h0]
      | false => rw [hbit b]; simp [Hart.getV, hv, h0, hno h0]
    · intro r hr
      have hne : d ≠ r := fun c => hr 0 (by omega) (by rw [hj 0 (by omega), c])
      have hne' : d.toNat ≠ r.toNat := fun c => hne (BitVec.eq_of_toNat_eq c)
      cases h0 : T.w0 with
      | true => simp [Hart.getV, hv, h0, Vector.getElem_set_ne _ _ hne']
      | false => simp [Hart.getV, hv, h0]
    · intro i hi
      have hne : i ≠ d.toNat := by have := hi 0 (by omega); rwa [hj 0 (by omega)] at this
      cases h0 : T.w0 with
      | true => simp [hdirty, h0, getLsbD_setBit_true _ _ _ hd32, hne]
      | false => simp [hdirty, h0]
    · intro j h ⟨p, _, hp⟩
      have hj0 : j = 0 := by omega
      rw [hj0, Nat.zero_mul, Nat.zero_add] at hp
      rw [hj j h, hdirty, hne ⟨p, hp⟩]
      simp [getLsbD_setBit_true _ _ _ hd32]
  have hvm : (s.queued r u [] (lenOf u)).hart.vlmaxTo = none := h.steady
  cases hw0 : T.w0 with
  | false =>
    have hx : State.afterLanes r s.hart.pc (Eff.done ((s.queued r u [] (lenOf u)).onHart fun h => (h.putDst d T).orFlags F)) =
        { s with hart := { (s.hart.orFlags F).vectorPassed (s.hart.pc + 4#64) with queue := [] } } := by
      simp [State.afterLanes, State.headDone, State.takeVlmax, State.onHart, State.onHead, Hart.leave, Hart.deliver, anyBy, leaveDone, Hart.bridleLeft, Hart.causesLeft, Hart.entry, Hart.putDst, hw0, hw1, hw2, State.queued, Hart.orFlags,
        Hart.setVstart, Hart.vectorPassed, Hart.passed, h.empty, h.steady, hl]
    dsimp only
    rw [hx]
    refine ⟨⟨?_, .inl rfl⟩, rfl, rfl, hwr _ (by simp [hw0, Hart.vectorPassed, Hart.passed, Hart.orFlags]) (by simp [hw0, Hart.vectorPassed, Hart.passed, Hart.orFlags]), rfl⟩
    simp [Hart.vectorPassed, Hart.passed, Hart.orFlags, Hart.bridleLeft, Hart.causesLeft, h.empty]
  | true =>
    have hx : State.afterLanes r s.hart.pc (Eff.done ((s.queued r u [] (lenOf u)).onHart fun h => (h.putDst d T).orFlags F)) =
        { s with hart := { ((s.hart.setV d T.r0).orFlags F).vectorPassed (s.hart.pc + 4#64) with queue := [] } } := by
      simp [State.afterLanes, State.headDone, State.takeVlmax, State.onHart, State.onHead, Hart.leave, Hart.deliver, anyBy, leaveDone, Hart.bridleLeft, Hart.causesLeft, Hart.entry, Hart.putDst, hw0, hw1, hw2, State.queued, Hart.orFlags,
        Hart.setVstart, Hart.vectorPassed, Hart.passed, h.empty, h.steady, hl, Hart.setV]
    dsimp only
    rw [hx]
    refine ⟨⟨?_, .inr rfl⟩, rfl, rfl, hwr _ (by simp [hw0, Hart.vectorPassed, Hart.passed, Hart.orFlags, Hart.setV]) (by simp [hw0, Hart.vectorPassed, Hart.passed, Hart.orFlags, Hart.setV]), rfl⟩
    simp [Hart.vectorPassed, Hart.passed, Hart.orFlags, Hart.bridleLeft, Hart.causesLeft, h.empty, Hart.setV]

end Sys2Proof.Machine
end

