-- ==== Sys2Proof/Tests/Slice0.lean ====
section
/-! SUPPORT. Small tests: well-formedness, decoding of words that the spec writes out, single steps with results worked out by hand. -/

open Sys2Proof Sys2Proof.Machine

namespace Sys2Proof.Tests

/-! ## Well-formedness: a term that has an encoding, and for each check one that has none -/

theorem test_wf_port : Instr.wf (.hsemRead 1) = true ∧ Instr.wf (.hsemRead 2) = false ∧ Instr.wf (.wakeWindowWrite 2 0 0#64) = false ∧ Instr.wf (.bar2Access 2 false 0 0#64) = false ∧ Instr.wf (.spdmRequest 2 0) = false := by decide
theorem test_wf_die : Instr.wf (.watchdogWrite 5) = true ∧ Instr.wf (.watchdogWrite 6) = false ∧ Instr.wf (.translationFaultReply 6 0) = false ∧ Instr.wf (.clusterRetire 6 0 0) = false ∧ Instr.wf (.clockThrottle 6 0) = false := by decide
theorem test_wf_slot : Instr.wf (.translationFaultReply 5 31) = true ∧ Instr.wf (.translationFaultReply 5 32) = false := by decide
theorem test_wf_hart : Instr.wf (.trapTake 2309) = true ∧ Instr.wf (.trapTake 2310) = false ∧ Instr.wf (.vectorEntryComplete 2310) = false ∧ Instr.wf (.wfeTimeout 2310) = false := by decide
theorem test_wf_engine : Instr.wf (.engineChunkComplete 4101 0) = true ∧ Instr.wf (.engineChunkComplete 2310 0) = false ∧ Instr.wf (.engineChunkComplete 4095 0) = false ∧ Instr.wf (.engineChunkComplete 4102 0) = false := by decide
theorem test_wf_cluster : Instr.wf (.clusterRetire 5 47 15) = true ∧ Instr.wf (.clusterRetire 5 47 16) = false ∧ Instr.wf (.clusterRetire 5 48 15) = false := by decide
theorem test_wf_counter : Instr.wf (.correctedError 5 2) = true ∧ Instr.wf (.correctedError 5 3) = false := by decide
theorem test_wf_link : Instr.wf (.burzerHeartbeat 15) = true ∧ Instr.wf (.burzerHeartbeat 16) = false ∧ Instr.wf (.burzerCrcReplay 16) = false := by decide
theorem test_wf_device : Instr.wf (.spareAssign 8191) = true ∧ Instr.wf (.spareAssign 8192) = false ∧ Instr.wf (.peerSilenceTimeout 8192) = false := by decide
theorem test_wf_launch : Instr.wf (.launchRequestGo true 1) = true ∧ Instr.wf (.launchRequestGo true 2) = false ∧ Instr.wf (.launchRequestGo false 6) = false := by decide
theorem test_wf_round : Instr.wf (.fadd { d := 8#5, a := 4#5, b := 6#5, f := 0#1, r := 4#3 }) = true ∧ Instr.wf (.fadd { d := 8#5, a := 4#5, b := 6#5, f := 0#1, r := 5#3 }) = false ∧ Instr.wf (.fadd { d := 8#5, a := 4#5, b := 6#5, f := 0#1, r := 6#3 }) = false := by decide
theorem test_wf_fence_scope : Instr.wf (.fence { s := 5#3, k := 2#2 }) = true ∧ Instr.wf (.fence { s := 6#3, k := 2#2 }) = false ∧ Instr.wf (.fence { s := 7#3, k := 0#2 }) = false := by decide
theorem test_wf_fence_kind : Instr.wf (.fence { s := 0#3, k := 0#2 }) = true ∧ Instr.wf (.fence { s := 0#3, k := 3#2 }) = false := by decide
theorem test_wf_csr : Instr.wf (.csrrs { d := 8#5, a := 0#5, c := 64#11 }) = true ∧ Instr.wf (.csrrs { d := 8#5, a := 1#5, c := 64#11 }) = false ∧ Instr.wf (.csrrs { d := 8#5, a := 0#5, c := 2047#11 }) = false ∧ Instr.wf (.csrrw { d := 8#5, a := 0#5, c := 64#11 }) = false ∧ Instr.wf (.csrrsi { d := 8#5, u := 1#5, c := 64#11 }) = false ∧ Instr.wf (.csrrwi { d := 8#5, u := 0#5, c := 64#11 }) = false := by decide
theorem test_wf_vfetchw : Instr.wf (.vfetchw { a := 4#5, k := 1#3 }) = true ∧ Instr.wf (.vfetchw { a := 4#5, k := 0#3 }) = false := by decide
theorem test_wf_vfu_round : Instr.wf (.vfsqrt { d := 8#5, b := 6#5, e := 0#1, k := 0#3, r := 12#4 }) = true ∧ Instr.wf (.vfsqrt { d := 8#5, b := 6#5, e := 0#1, k := 0#3, r := 1#4 }) = false ∧ Instr.wf (.vfsqrt { d := 8#5, b := 6#5, e := 0#1, k := 0#3, r := 13#4 }) = false := by decide
theorem test_wf_cvt_round : Instr.wf (.vcvtHF32 { d := 8#5, b := 6#5, e := 0#1, k := 0#3, s := 0#1, r := 5#3 }) = true ∧ Instr.wf (.vcvtHF32 { d := 8#5, b := 6#5, e := 0#1, k := 0#3, s := 0#1, r := 6#3 }) = false ∧ Instr.wf (.vcvtF32H { d := 8#5, b := 6#5, e := 0#1, k := 0#3, s := 0#1, r := 5#3 }) = false ∧ Instr.wf (.vcvtF32H { d := 8#5, b := 6#5, e := 0#1, k := 0#3, s := 0#1, r := 6#3 }) = false := by decide
theorem test_wf_tile_register : Instr.wf (.mzero { d := 1#5 }) = true ∧ Instr.wf (.mzero { d := 2#5 }) = false ∧ Instr.wf (.mrowv { d := 8#5, a := 2#5, b := 6#5, k := 0#3 }) = false ∧ Instr.wf (.mload { d := 31#5, a := 4#5, b := 6#5 }) = false := by decide
theorem test_wf_opacc : Instr.wf (.opacc { zd := 1#5, vs1 := 4#5, vs2 := 8#5, fa := 3#3, fb := 0#3, arnd := 4#3, xA := 0#5, xB := 0#5, kA := 0#3, kB := 0#3, kdep := 0#4, chk := 0#1 }) = true ∧ Instr.wf (.opacc { zd := 2#5, vs1 := 4#5, vs2 := 8#5, fa := 1#3, fb := 1#3, arnd := 0#3, xA := 0#5, xB := 0#5, kA := 0#3, kB := 0#3, kdep := 0#4, chk := 0#1 }) = false ∧ Instr.wf (.opacc { zd := 0#5, vs1 := 4#5, vs2 := 8#5, fa := 4#3, fb := 1#3, arnd := 0#3, xA := 0#5, xB := 0#5, kA := 0#3, kB := 0#3, kdep := 0#4, chk := 0#1 }) = false ∧ Instr.wf (.opacc { zd := 0#5, vs1 := 4#5, vs2 := 8#5, fa := 1#3, fb := 4#3, arnd := 0#3, xA := 0#5, xB := 0#5, kA := 0#3, kB := 0#3, kdep := 0#4, chk := 0#1 }) = false ∧ Instr.wf (.opacc { zd := 0#5, vs1 := 4#5, vs2 := 8#5, fa := 1#3, fb := 1#3, arnd := 5#3, xA := 0#5, xB := 0#5, kA := 0#3, kB := 0#3, kdep := 0#4, chk := 0#1 }) = false := by decide
theorem test_wf_opaccw : Instr.wf (.opaccw { zd := 0#5, vs1 := 4#5, vs2 := 8#5, fa := 0#3, fb := 3#3, arnd := 0#3, xA := 0#5, xB := 0#5, kA := 0#3, kB := 0#3, kdep := 0#4, chk := 0#1 }) = true ∧ Instr.wf (.opaccw { zd := 0#5, vs1 := 4#5, vs2 := 8#5, fa := 1#3, fb := 0#3, arnd := 0#3, xA := 0#5, xB := 0#5, kA := 0#3, kB := 0#3, kdep := 0#4, chk := 0#1 }) = false ∧ Instr.wf (.opaccw { zd := 0#5, vs1 := 4#5, vs2 := 8#5, fa := 1#3, fb := 4#3, arnd := 0#3, xA := 0#5, xB := 0#5, kA := 0#3, kB := 0#3, kdep := 0#4, chk := 0#1 }) = false := by decide
theorem test_wf_compressed : Instr.wf (.cMv { d := 31#5, s := 0#5 }) = true ∧ Instr.wf (.cMv { d := 0#5, s := 0#5 }) = false ∧ Instr.wf (.cAdd { d := 0#5, s := 0#5 }) = false ∧ Instr.wf (.cSub { d := 0#5, s := 0#5 }) = false ∧ Instr.wf (.cAddi { d := 0#5, i := 0#5 }) = false := by decide

/-! ## Words that the tables of examples of the spec write out -/

theorem test_decode_add : decode 0x001CC501#64 = .ok (.add { d := 5#5, a := 6#5, b := 7#5 }) := by rfl
theorem test_decode_addi : decode 0xFFC14A11#64 = .ok (.addi { d := 10#5, a := 10#5, i := 16368#14 }) := by rfl
theorem test_decode_lui : decode 0x40002B2D#64 = .ok (.lui { d := 11#5, i := 131073#19 }) := by rfl
theorem test_decode_addi_2 : decode 0x11A16B11#64 = .ok (.addi { d := 11#5, a := 11#5, i := 1128#14 }) := by rfl
theorem test_decode_vfmaVV : decode 0xB6B10422#64 = .ok (.vfmaVV { d := 4#5, a := 8#5, b := 12#5, c := 1#1, e := 0#1, k := 3#3 }) := by rfl
theorem test_decode_vcmpLtVV : decode 0x21948232#64 = .ok (.vcmpLtVV { d := 2#3, a := 4#5, b := 5#5, c := 1#1, e := 1#1, k := 0#3 }) := by rfl
theorem test_decode_vldx : decode 0x03894656#64 = .ok (.vldx { d := 6#5, a := 10#5, b := 2#5, c := 1#1, o := 1#1, k := 1#3 }) := by rfl
theorem test_decode_endb : decode 0x04000002#64 = .ok .endb := by rfl
theorem test_decode_tlbinv : decode 0x02000095#64 = .ok (.tlbinv { a := 0#5, b := 0#5 }) := by rfl
theorem test_decode_csrrs : decode 0x08040591#64 = .ok (.csrrs { d := 5#5, a := 0#5, c := 64#11 }) := by rfl
theorem test_decode_qpush : decode 0x002D459D#64 = .ok (.qpush { d := 5#5, a := 10#5, b := 11#5 }) := by rfl
theorem test_decode_qwake : decode 0x01B1469D#64 = .ok (.qwake { d := 6#5, a := 10#5, b := 12#5 }) := by rfl
theorem test_decode_amoaddD : decode 0x11A50785#64 = .ok (.amoaddD { d := 7#5, a := 8#5, b := 9#5, o := 3#2 }) := by rfl
theorem test_decode_cas : decode 0x241CC589#64 = .ok (.cas { d := 5#5, a := 6#5, b := 7#5, e := 8#5, w := 0#1, o := 1#2 }) := by rfl
theorem test_decode_fadd : decode 0x3018A409#64 = .ok (.fadd { d := 4#5, a := 5#5, b := 6#5, f := 1#1, r := 1#3 }) := by rfl
theorem test_decode_bltn : decode 0xFFF0C571#64 = .ok (.bltn { a := 5#5, b := 6#5, i := 16380#14 }) := by rfl
theorem test_decode_jalr : decode 0x0000207D#64 = .ok (.jalr { d := 0#5, a := 1#5, i := 0#14 }) := by rfl
theorem test_decode_csrrsi : decode 0x06548091#64 = .ok (.csrrsi { d := 0#5, u := 4#5, c := 50#11 }) := by rfl
theorem test_decode_vsetl : decode 0x002D4502#64 = .ok (.vsetl { d := 5#5, a := 10#5, b := 11#5 }) := by rfl
theorem test_decode_vlease : decode 0x00A0E602#64 = .ok (.vlease { d := 6#5, a := 7#5, b := 8#5 }) := by rfl
theorem test_decode_vfork : decode 0x01018902#64 = .ok (.vfork { d := 9#5, a := 12#5 }) := by rfl
theorem test_decode_vjoin : decode 0x01812302#64 = .ok (.vjoin { d := 3#5, a := 9#5 }) := by rfl
theorem test_decode_vfetch : decode 0x02014002#64 = .ok (.vfetch { a := 10#5 }) := by rfl
theorem test_decode_vfetchw : decode 0x02894002#64 = .ok (.vfetchw { a := 10#5, k := 2#3 }) := by rfl
theorem test_decode_vloop : decode 0x032D4002#64 = .ok (.vloop { a := 10#5, b := 11#5 }) := by rfl
theorem test_decode_vcommit : decode 0x03800002#64 = .ok .vcommit := by rfl
theorem test_decode_vaddVV : decode 0x018C4106#64 = .ok (.vaddVV { d := 1#5, a := 2#5, b := 3#5, c := 1#1, e := 1#1, k := 0#3 }) := by rfl
theorem test_decode_vsraVI : decode 0xB48CC50E#64 = .ok (.vsraVI { d := 5#5, a := 6#5, i := 3#5, c := 1#1, k := 2#3 }) := by rfl
theorem test_decode_vsaddVX : decode 0x009C6216#64 = .ok (.vsaddVX { d := 2#5, a := 3#5, b := 7#5, c := 1#1, k := 0#3 }) := by rfl
theorem test_decode_vwmulVV : decode 0x4194881A#64 = .ok (.vwmulVV { d := 8#5, a := 4#5, b := 5#5, c := 1#1, e := 1#1, k := 0#3 }) := by rfl
theorem test_decode_vnclipVX : decode 0xA0A5031E#64 = .ok (.vnclipVX { d := 3#5, a := 8#5, b := 9#5, c := 1#1, k := 0#3 }) := by rfl
theorem test_decode_vfsqrt : decode 0x9108012A#64 = .ok (.vfsqrt { d := 1#5, b := 2#5, e := 1#1, k := 0#3, r := 9#4 }) := by rfl
theorem test_decode_vcvtHF32 : decode 0xB115442E#64 = .ok (.vcvtHF32 { d := 4#5, b := 5#5, e := 1#1, k := 0#3, s := 1#1, r := 5#3 }) := by rfl
theorem test_decode_vcmpFgeVX : decode 0xD2A0C336#64 = .ok (.vcmpFgeVX { d := 3#3, a := 6#5, b := 8#5, c := 1#1, k := 1#3 }) := by rfl
theorem test_decode_kand : decode 0x018C413A#64 = .ok (.kand { d := 1#3, a := 2#3, b := 3#3, c := 1#1, e := 1#1, k := 0#3 }) := by rfl
theorem test_decode_kpop : decode 0x6308053A#64 = .ok (.kpop { d := 5#5, b := 2#3, e := 1#1, k := 1#3 }) := by rfl
theorem test_decode_vcompress : decode 0xA708063A#64 = .ok (.vcompress { d := 6#5, b := 2#5, e := 1#1, k := 3#3 }) := by rfl
theorem test_decode_vslidedn : decode 0x1098A43E#64 = .ok (.vslidedn { d := 4#5, a := 5#5, b := 6#5, c := 1#1, k := 0#3 }) := by rfl
theorem test_decode_vrand : decode 0x9001273E#64 = .ok (.vrand { d := 7#5, a := 9#5, k := 0#3 }) := by rfl
theorem test_decode_vfsum : decode 0x81A02142#64 = .ok (.vfsum { d := 1#5, a := 1#5, b := 8#5, c := 1#1, e := 1#1, k := 0#3 }) := by rfl
theorem test_decode_vternlog : decode 0x3494834A#64 = .ok (.vternlog { d := 3#5, a := 4#5, b := 5#5, i := 105#8 }) := by rfl
theorem test_decode_opacc : decode 0x000044C504A08103#64 = .ok (.opacc { zd := 1#5, vs1 := 4#5, vs2 := 8#5, fa := 1#3, fb := 1#3, arnd := 0#3, xA := 5#5, xB := 6#5, kA := 1#3, kB := 2#3, kdep := 0#4, chk := 0#1 }) := by rfl
theorem test_decode_opacc_2 : decode 0x00000000E9208003#64 = .ok (.opacc { zd := 0#5, vs1 := 4#5, vs2 := 8#5, fa := 2#3, fb := 2#3, arnd := 7#3, xA := 0#5, xB := 0#5, kA := 0#3, kB := 0#3, kdep := 0#4, chk := 0#1 }) := by rfl
theorem test_decode_opsub : decode 0x00040000200C4107#64 = .ok (.opsub { zd := 1#5, vs1 := 2#5, vs2 := 3#5, fa := 0#3, fb := 0#3, arnd := 1#3, xA := 0#5, xB := 0#5, kA := 0#3, kB := 0#3, kdep := 4#4, chk := 0#1 }) := by rfl
theorem test_decode_opaccw : decode 0x00100000EDA8C00B#64 = .ok (.opaccw { zd := 0#5, vs1 := 6#5, vs2 := 10#5, fa := 3#3, fb := 3#3, arnd := 7#3, xA := 0#5, xB := 0#5, kA := 0#3, kB := 0#3, kdep := 0#4, chk := 1#1 }) := by rfl
theorem test_decode_pin : decode 0x03AD4595#64 = .ok (.pin { d := 5#5, a := 10#5, b := 11#5 }) := by rfl
theorem test_decode_unpin : decode 0x042D4595#64 = .ok (.unpin { d := 5#5, a := 10#5, b := 11#5 }) := by rfl
theorem test_decode_cflush : decode 0x02AD4095#64 = .ok (.cflush { a := 10#5, b := 11#5 }) := by rfl
theorem test_decode_cinval : decode 0x032D4095#64 = .ok (.cinval { a := 10#5, b := 11#5 }) := by rfl
theorem test_decode_vld : decode 0x0001414E#64 = .ok (.vld { d := 1#5, a := 10#5, o := 0#1, k := 0#3 }) := by rfl
theorem test_decode_vlds : decode 0x002D4252#64 = .ok (.vlds { d := 2#5, a := 10#5, b := 11#5, o := 0#1, k := 0#3 }) := by rfl
theorem test_decode_vstx : decode 0x04914362#64 = .ok (.vstx { d := 3#5, a := 10#5, b := 4#5, c := 1#1, o := 0#1, k := 2#3 }) := by rfl
theorem test_decode_vstReg : decode 0x1080455A#64 = .ok (.vstReg { d := 5#5, a := 2#5, c := 1#1 }) := by rfl
theorem test_decode_vgll : decode 0x00894666#64 = .ok (.vgll { d := 6#5, a := 10#5, b := 2#5, c := 1#1, k := 0#3 }) := by rfl
theorem test_decode_vscc : decode 0x0689476A#64 = .ok (.vscc { d := 7#5, a := 10#5, b := 2#5, c := 1#1, k := 3#3 }) := by rfl
theorem test_decode_vldwE4H : decode 0x0035C872#64 = .ok (.vldwE4H { d := 8#5, a := 14#5, b := 13#5, k := 0#3 }) := by rfl
theorem test_decode_cpy : decode 0x002D4CA1#64 = .ok (.cpy { d := 12#5, a := 10#5, b := 11#5 }) := by rfl
theorem test_decode_cpyfill : decode 0x022D4CA1#64 = .ok (.cpyfill { d := 12#5, a := 10#5, b := 11#5 }) := by rfl
theorem test_decode_cpywait : decode 0x010000A1#64 = .ok .cpywait := by rfl
theorem test_decode_cpybt : decode 0x008140A1#64 = .ok (.cpybt { a := 10#5 }) := by rfl
theorem test_decode_gsub : decode 0x01882476#64 = .ok (.gsub { d := 4#5, a := 1#5, b := 2#5, c := 1#1, e := 1#1, k := 0#3 }) := by rfl
theorem test_decode_gadd : decode 0x158C8576#64 = .ok (.gadd { d := 5#5, a := 4#5, b := 3#5, c := 1#1, e := 1#1, k := 2#3 }) := by rfl
theorem test_decode_glen : decode 0x21140676#64 = .ok (.glen { d := 6#5, b := 5#5, e := 1#1, k := 0#3 }) := by rfl
theorem test_decode_gcvt : decode 0x00A4877A#64 = .ok (.gcvt { d := 7#5, a := 4#5, b := 9#5, c := 1#1, k := 0#3 }) := by rfl
theorem test_decode_gsettag : decode 0x20A8E87A#64 = .ok (.gsettag { d := 8#5, a := 7#5, b := 10#5, c := 1#1, k := 0#3 }) := by rfl
theorem test_decode_halt : decode 0x01000095#64 = .ok .halt := by rfl
theorem test_decode_sd : decode 0x0003FC5D#64 = .ok (.sd { s := 28#5, a := 31#5, i := 0#14 }) := by rfl
theorem test_decode_csrrc : decode 0x000B6091#64 = .ok (.csrrc { d := 0#5, a := 27#5, c := 0#11 }) := by rfl
theorem test_decode_tret : decode 0x00800095#64 = .ok .tret := by rfl
theorem test_decode_recur : decode 0x002D4582#64 = .ok (.recur { d := 5#5, a := 10#5, b := 11#5 }) := by rfl
theorem test_decode_rspawn : decode 0x12810082#64 = .ok (.rspawn { a := 8#5, c := 1#1, k := 1#3 }) := by rfl
theorem test_decode_rret : decode 0x2082C082#64 = .ok (.rret { a := 22#5, c := 1#1, k := 0#3 }) := by rfl
theorem test_decode_rkids : decode 0x301C0C82#64 = .ok (.rkids { d := 12#5, b := 7#5, k := 0#3 }) := by rfl
theorem test_decode_rdepth : decode 0x40000582#64 = .ok (.rdepth { d := 5#5, k := 0#3 }) := by rfl
theorem test_decode_rnkid : decode 0x50000682#64 = .ok (.rnkid { d := 6#5, k := 0#3 }) := by rfl
theorem test_decode_fence : decode 0x0014008D#64 = .ok (.fence { s := 5#3, k := 0#2 }) := by rfl
theorem test_decode_fence_2 : decode 0x0030008D#64 = .ok (.fence { s := 4#3, k := 1#2 }) := by rfl
theorem test_decode_trap : decode 0x00014095#64 = .ok (.trap { a := 10#5 }) := by rfl
theorem test_decode_trapBrk : decode 0x00000195#64 = .ok .trapBrk := by rfl
theorem test_decode_vqsave : decode 0x04814095#64 = .ok (.vqsave { a := 10#5 }) := by rfl
theorem test_decode_vqload : decode 0x05014095#64 = .ok (.vqload { a := 10#5 }) := by rfl
theorem test_decode_mmode : decode 0x04814002#64 = .ok (.mmode { a := 10#5 }) := by rfl
theorem test_decode_cVfetch : decode 0x02B0#64 = .ok (.cVfetch { a := 10#5 }) := by rfl

/-- R67, R75: a zero word, an opcode without a row, a function without a row, a field that must be zero. -/
theorem test_decode_refuses : decode 0#64 = .error .zero ∧ decode 0xA9#64 = .error .opcode ∧ decode 0x9C12A#64 = .error .function ∧
    decode 0x5008012A#64 = .error .reserved := by decide

/-! ## Single steps -/

/-- The state in which the next step runs an instruction. -/
def runs (i : Instr) : State := State.reset.withFetchWord (8 * i.len) (encode i).toNat

/-- `s` with `v` in the x register `d`. -/
def withX (s : State) (d : Reg) (v : Word) : State := { s with hart := { s.hart with x := s.hart.x.set d.toNat v d.isLt } }

/-- `s` with bits of `vcfg` set: a vector length, a code of the element width, and more. -/
def withV (s : State) (sew vl : Nat) (more : Word) : State :=
  { s with hart := { s.hart with csr := { s.hart.csr with vcfg := s.hart.csr.vcfg ||| BitVec.ofNat 64 (sew * 65536 + vl) ||| more } } }

/-- `s` with the low bits of the v register `d` set. -/
def withVreg (s : State) (d : Reg) (v : Nat) : State := { s with hart := { s.hart with v := s.hart.v.set d.toNat (BitVec.ofNat 65536 v) d.isLt } }

/-- `s` with the mask register `d` set. -/
def withK (s : State) (d : KReg) (v : Nat) : State := { s with hart := { s.hart with k := s.hart.k.set d.toNat (BitVec.ofNat 8192 v) d.isLt } }

/-- `s` with more bits of `status` set. -/
def withStatus (s : State) (v : Word) : State := { s with hart := { s.hart with csr := { s.hart.csr with status := s.hart.csr.status ||| v } } }

/-- `s` with flags enabled. -/
def withFen (s : State) (v : Word) : State := { s with hart := { s.hart with csr := { s.hart.csr with fen := v } } }

/-- What a step answers is a next state of which `p` holds. -/
def holdsAfter (s : State) (p : State → Bool) : Bool :=
  match step s with
  | .next t => p t
  | _ => false

/-- An x register after a step, and the PC behind an instruction of 4 bytes. -/
def gives (s : State) (d : Reg) (v : Word) : Bool := holdsAfter s (fun t => t.hart.getX d == v && t.hart.pc == s.hart.pc + 4#64)

/-- The elements 0, 1, … of the v register `d`, of width `w`, after a step. -/
def givesV (s : State) (d : Reg) (w : Nat) (l : List Nat) : Bool :=
  holdsAfter s (fun t => (List.range l.length).map (fun p => t.hart.el d w p) == l && t.hart.queue.isEmpty)

/-- A step has taken a trap with this cause and value, the PC saved being that of the instruction. -/
def trapsWith (s : State) (cause : Nat) (tval : Word) : Bool :=
  holdsAfter s (fun t => t.hart.csr.tcause == BitVec.ofNat 64 cause && t.hart.csr.tval == tval && t.hart.csr.tpc == s.hart.pc && t.hart.mode == 1)

/-- The lanes have stopped with a cause at an element. -/
def stopsAt (s : State) (cause p : Nat) : Bool :=
  holdsAfter s (fun t => (t.hart.vcause.map (fun c => c.stop.cause)) == some cause && t.hart.vstart == p)

/-- R103: the sum wraps; a source may be the destination. -/
theorem test_add_wraps : gives (withX (runs (.add { d := 6#5, a := 6#5, b := 6#5 })) 6#5 0x8000000000000001#64) 6#5 2#64 = true := by decide

/-- R5: x0 stays 0. -/
theorem test_addi_x0 : gives (runs (.addi { d := 0#5, a := 0#5, i := 5#14 })) 0#5 0#64 = true := by decide

/-- R103: ADDW sign-extends bit 31. -/
theorem test_addw_sign : gives (withX (runs (.addw { d := 5#5, a := 6#5, b := 0#5 })) 6#5 0x180000000#64) 5#5 0xFFFFFFFF80000000#64 = true := by decide

/-- R103: the shift amount is taken modulo 64. -/
theorem test_sra_modulo :
    gives (withX (withX (runs (.sra { d := 5#5, a := 6#5, b := 7#5 })) 6#5 0x8000000000000000#64) 7#5 65#64) 5#5 0xC000000000000000#64 = true := by decide

/-- R105: MULHSN multiplies signed by unsigned: -1 times 2^63 has the high half -1. -/
theorem test_mulhsn_sign :
    gives (withX (withX (runs (.mulhsn { d := 5#5, a := 6#5, b := 7#5 })) 6#5 0xFFFFFFFFFFFFFFFF#64) 7#5 0x8000000000000000#64) 5#5 0xFFFFFFFFFFFFFFFF#64 = true := by
  decide

/-- R105: division by zero gives all ones and raises the flag; the remainder rounds towards zero. -/
theorem test_div_zero : holdsAfter (withX (runs (.div { d := 5#5, a := 6#5, b := 0#5 })) 6#5 9#64)
    (fun t => t.hart.getX 5#5 == BitVec.allOnes 64 && t.hart.csr.fflags == 0x20#64) = true := by decide
theorem test_rem_sign : gives (withX (withX (runs (.rem { d := 5#5, a := 6#5, b := 7#5 })) 6#5 0xFFFFFFFFFFFFFFF9#64) 7#5 2#64) 5#5 0xFFFFFFFFFFFFFFFF#64 = true := by
  decide

/-- R105, R344: with its flag enabled the division traps with cause 0x20. -/
theorem test_div_trap : trapsWith (withFen (runs (.div { d := 5#5, a := 6#5, b := 0#5 })) 0x20#64) 0x20 0#64 = true := by decide

/-- R104: LUI takes bits 31..13. -/
theorem test_lui_sign : gives (runs (.lui { d := 5#5, i := 0x40000#19 })) 5#5 0xFFFFFFFF80000000#64 = true := by decide

/-- R106: leading and trailing zeros of 0 are 64. -/
theorem test_clz_zero : gives (runs (.clz { d := 5#5, a := 0#5 })) 5#5 64#64 = true := by decide
theorem test_bswap : gives (withX (runs (.bswap { d := 5#5, a := 6#5 })) 6#5 0x0102030405060708#64) 5#5 0x0807060504030201#64 = true := by decide

/-- R107: the offset of a branch is doubled and added to the branch's own PC. -/
theorem test_beq_back : holdsAfter (runs (.beq { a := 0#5, b := 0#5, i := 0x3FFC#14 })) (fun t => t.hart.pc == 0xFFF8#64) = true := by decide
theorem test_jalr_odd : trapsWith (withX (runs (.jalr { d := 5#5, a := 6#5, i := 0#14 })) 6#5 0x10001#64) 0x40 0x10001#64 = true := by decide
theorem test_jal_link : holdsAfter (runs (.jal { d := 1#5, i := 8#19 })) (fun t => t.hart.getX 1#5 == 0x10004#64 && t.hart.pc == 0x10010#64) = true := by decide

/-- R74: a compressed form moves the PC by 2. -/
theorem test_caddi : holdsAfter (runs (.cAddi { d := 9#5, i := 0x1F#5 })) (fun t => t.hart.getX 9#5 == BitVec.allOnes 64 && t.hart.pc == 0x10002#64) = true := by decide

/-- R108: bytes are little-endian; LB extends the sign. The word at the PC is the instruction itself. -/
theorem test_lb_sign : gives (withX (runs (.lb { d := 5#5, a := 6#5, i := 3#14 })) 6#5 0x10000#64) 5#5 0#64 = true := by decide
theorem test_lwn_self : gives (withX (runs (.lwn { d := 5#5, a := 6#5, i := 0#14 })) 6#5 0x10000#64) 5#5
    ((encode (.lwn { d := 5#5, a := 6#5, i := 0#14 })).setWidth 64) = true := by decide
theorem test_ld_misaligned : trapsWith (withX (runs (.ld { d := 5#5, a := 6#5, i := 0#14 })) 6#5 0x10004#64) 0x40 0x10004#64 = true := by decide
theorem test_sh_bytes : holdsAfter (withX (withX (runs (.sh { s := 5#5, a := 6#5, i := 0#14 })) 6#5 0x10040#64) 5#5 0xAABBCC#64)
    (fun t => t.mem.readN 0x10040 4 == 0xBBCC && t.hart.pc == 0x10004#64) = true := by decide
theorem test_sd_range : trapsWith (withX (runs (.sd { s := 5#5, a := 6#5, i := 0#14 })) 6#5 0x100000000000000#64) 0x46 0x100000000000000#64 = true := by decide

/-- R113: the old value, sign-extended, is returned; the sum of the words is stored. -/
theorem test_amoadd : holdsAfter (withX (withX (runs (.amoaddW { d := 5#5, a := 6#5, b := 7#5, o := 0#2 })) 6#5 0x10040#64) 7#5 0x1FFFFFFFF#64)
    (fun t => t.hart.getX 5#5 == 0#64 && t.mem.readN 0x10040 8 == 0xFFFFFFFF) = true := by decide

/-- R110: 1 + 2 is 3 in binary32; 1/0 raises the flag of a division by zero. -/
theorem test_fadd : gives (withX (withX (runs (.fadd { d := 5#5, a := 6#5, b := 7#5, f := 0#1, r := 0#3 })) 6#5 0x3F800000#64) 7#5 0x40000000#64) 5#5 0x40400000#64 = true := by
  decide
theorem test_fdiv_zero : gives (withX (runs (.fdiv { d := 5#5, a := 6#5, b := 0#5, f := 0#1, r := 0#3 })) 6#5 0x3F800000#64) 5#5 0x7F800000#64 = true := by decide

/-- R112: 2.5 converts to 2, the tie going to even; -1 converts to 0 as an unsigned number. -/
theorem test_fcvt_tie : gives (withX (runs (.fcvtI32F32 { d := 5#5, a := 6#5, r := 1#3 })) 6#5 0x40200000#64) 5#5 2#64 = true := by decide
theorem test_fcvt_unsigned : gives (withX (runs (.fcvtN32F32 { d := 5#5, a := 6#5, r := 0#3 })) 6#5 0xBF800000#64) 5#5 0#64 = true := by decide

/-- R91, R92: a rider may not read `tpc`. R116: CSRRS with x0 only reads. -/
theorem test_csr_privilege : trapsWith (runs (.csrrs { d := 5#5, a := 0#5, c := 4#11 })) 4 ((encode (.csrrs { d := 5#5, a := 0#5, c := 4#11 }))) = true := by decide
theorem test_csr_swap : holdsAfter (withX (runs (.csrrw { d := 6#5, a := 6#5, c := 0x1A#11 })) 6#5 0xFF#64)
    (fun t => t.hart.getX 6#5 == 0#64 && t.hart.csr.fflags == 0x3F#64) = true := by decide

/-- R346, R344: TRAP hands over a register; the mode before is saved. -/
theorem test_trap : trapsWith (withX (runs (.trap { a := 6#5 })) 6#5 77#64) 0x10 77#64 = true := by decide
theorem test_brk : trapsWith (runs .trapBrk) 0x0E 0x10000#64 = true := by decide

/-- R354: TRET goes to `tpc` in the mode of `pmode`. -/
theorem test_tret : holdsAfter (withStatus (runs .tret) 1#64) (fun t => t.hart.pc == 0#64 && t.hart.mode == 0) = true := by decide

/-- R117: HALT ends the hart. -/
theorem test_halt : holdsAfter (runs .halt) (fun t => t.hart.run == .halted) = true := by decide

/-- R141: half the registers' elements, rounded up, where the count does not fit one register. -/
theorem test_vsetl_half : holdsAfter (withX (withX (runs (.vsetl { d := 5#5, a := 6#5, b := 7#5 })) 6#5 513#64) 7#5 2#64)
    (fun t => t.hart.getX 5#5 == 257#64 && t.hart.vl == 257 && t.hart.width == 32) = true := by decide

/-- R168, R171: two elements of 32 bits; the rest of the register stays. -/
theorem test_vadd : givesV (withVreg (withVreg (withV (runs (.vaddVV { d := 1#5, a := 1#5, b := 2#5, c := 0#1, e := 0#1, k := 0#3 })) 2 2 0#64)
    1#5 0x0000000700000005FFFFFFFF) 2#5 0x000000010000000100000001) 1#5 32 [0, 6, 7] = true := by decide +kernel

/-- R132: an element whose mask bit is 0 stays. -/
theorem test_vadd_mask : givesV (withK (withVreg (withV (runs (.vaddVX { d := 1#5, a := 2#5, b := 0#5, c := 0#1, k := 1#3 })) 0 2 0#64) 2#5 0x0505) 1#3 2)
    1#5 8 [0, 5] = true := by decide +kernel

/-- R172: saturation. R174: widening, into the pair from d. -/
theorem test_vsadd : givesV (withVreg (withV (runs (.vsaddVV { d := 1#5, a := 2#5, b := 2#5, c := 0#1, e := 0#1, k := 0#3 })) 0 2 0#64) 2#5 0x807F) 1#5 8 [0x7F, 0x80] = true := by decide +kernel
theorem test_vwmul : givesV (withVreg (withV (runs (.vwmulVV { d := 4#5, a := 2#5, b := 2#5, c := 0#1, e := 0#1, k := 0#3 })) 0 2 0#64) 2#5 0xFF80) 4#5 16 [0x4000, 1] = true := by decide +kernel

/-- R173, R163: with the flag enabled, the division stops at the first element that divides by zero, and `vstart` names it. -/
theorem test_vdiv_stop : stopsAt (withFen (withVreg (withV (runs (.vdivVV { d := 1#5, a := 2#5, b := 2#5, c := 0#1, e := 0#1, k := 0#3 })) 0 2 0#64) 2#5 1) 0x20#64) 0x20 1 = true := by decide +kernel

/-- R177: 1.5 times 2 in binary32. R182: binary32 to binary16. -/
theorem test_vfmul : givesV (withVreg (withVreg (withV (runs (.vfmulVV { d := 1#5, a := 2#5, b := 3#5, c := 0#1, e := 0#1, k := 0#3 })) 2 1 0#64) 2#5 0x3FC00000) 3#5 0x40000000)
    1#5 32 [0x40400000] = true := by decide +kernel
theorem test_vcmp : holdsAfter (withVreg (withV (runs (.vcmpLtVX { d := 1#3, a := 2#5, b := 0#5, c := 0#1, k := 0#3 })) 0 3 0#64) 2#5 0x01FF80)
    (fun t => (t.hart.getK 1#3).toNat == 3) = true := by decide +kernel

/-- R189: the number of set bits. R191: compress. R195: VID. -/
theorem test_kpop : gives (withK (withV (runs (.kpop { d := 5#5, b := 1#3, e := 0#1, k := 0#3 })) 0 3 0#64) 1#3 0xD) 5#5 2#64 = true := by decide +kernel
theorem test_vcompress : givesV (withK (withVreg (withV (runs (.vcompress { d := 1#5, b := 2#5, e := 0#1, k := 1#3 })) 0 3 0#64) 2#5 0x070605) 1#3 5) 1#5 8 [5, 7, 0] = true := by decide +kernel
theorem test_vid : givesV (withV (runs (.vid { d := 1#5, k := 0#3 })) 1 3 0#64) 1#5 16 [0, 1, 2, 0] = true := by decide +kernel

/-- R197: a sum into element 0. -/
theorem test_vredsum : givesV (withVreg (withVreg (withV (runs (.vredsum { d := 1#5, a := 3#5, b := 2#5, c := 0#1, e := 0#1, k := 0#3 })) 0 3 0#64) 2#5 0x030201) 3#5 10) 1#5 8 [16, 0] = true := by decide +kernel

/-- R226: elements from memory, and to it. -/
theorem test_vld : givesV (withX (withV (runs (.vld { d := 1#5, a := 6#5, o := 0#1, k := 0#3 })) 2 1 0#64) 6#5 0x10000#64) 1#5 32
    [(encode (.vld { d := 1#5, a := 6#5, o := 0#1, k := 0#3 })).toNat, 0] = true := by decide +kernel
theorem test_vst : holdsAfter (withX (withVreg (withV (runs (.vst { d := 1#5, a := 6#5, c := 0#1, o := 0#1, k := 0#3 })) 1 1 0#64) 1#5 0x12345678) 6#5 0x10040#64)
    (fun t => t.mem.readN 0x10040 4 == 0x5678) = true := by decide +kernel

/-- R203: a matrix mode above 3 is refused. -/
theorem test_mmode_refused : stopsAt (withX (runs (.mmode { a := 6#5 })) 6#5 4#64) 0x62 0 = true := by decide +kernel

/-- R44: a port takes the semaphore that is free, and releases its own only. -/
theorem test_hsem : (match exec (.hsemRead 1) State.reset with | .next t => t.hsem | _ => 9) = 2 := by decide
theorem test_hsem_other : (match exec (.hsemRelease 0) { State.reset with hsem := 2 } with | .next t => t.hsem | _ => 9) = 2 := by decide

/-- An event of a port that does not exist changes nothing. -/
theorem test_no_such_port : exec (.eventPost 2) State.reset = .next State.reset := by rfl

/-- R48: a signature that fails leaves the device in recovery, and so does a security version below the counter. -/
theorem test_bringup_error : (match exec (.bringupStageComplete 2) { State.reset with bringup := true, stage := 2 } with
    | .next t => (t.recovery, t.booterr) | _ => (false, 0)) = (true, 2) := by decide
theorem test_security_version : (match exec (.bringupStageComplete (4 * 512)) { State.reset with bringup := true, stage := 3, secver := 5 } with
    | .next t => (t.recovery, t.ready) | _ => (false, true)) = (true, false) := by decide

end Sys2Proof.Tests
end

