-- ==== Sys2Proof/Tests/Witness.lean ====
section
/-! SUPPORT. For each statement with hypotheses, a concrete state and operands that meet them together. -/

open Sys2Proof Sys2Proof.Machine

namespace Sys2Proof.Tests

set_option maxRecDepth 200000
set_option Elab.async false

/-! ## The states of the witnesses -/

/-- The part after the launch of a job: a rider at its first instruction. -/
def ts : State := State.reset.withFetchWord 32 0x001CC501

/-- `Ready` as a check. -/
def rdy (s : State) (p : Row × BitVec 64) : Bool := (s.decodeStop p.1 p.2).isNone && !s.hart.mustWait p.1 p.2 && !(writesShared p.1 && s.hart.fencedAhead)

/-- The check implies `Ready`, for a list of instructions. -/
theorem ready_of {s : State} {l : List (Row × BitVec 64)} (h : l.all (rdy s) = true) : ∀ p ∈ l, Ready s p.1 p.2 := by
  intro p hp
  have h := List.all_eq_true.mp h p hp
  simp only [rdy, Bool.and_eq_true, Option.isNone_iff_eq_none, Bool.not_eq_true'] at h
  exact ⟨h.1.1, h.1.2, h.2⟩

/-- What `VReady` asks beside the decode, as a check. -/
def calm (s : State) : Bool :=
  s.hart.queue.isEmpty && !s.hart.fencedAhead && s.hart.vcause.isNone && s.hart.bad.isEmpty && s.hart.vlmaxTo.isNone && !s.hart.hold && s.laneEager

/-- The checks imply `VReady`, for a list of instructions. -/
theorem vready_of {s : State} {l : List (Row × BitVec 64)} (h : calm s = true) (hd : l.all (fun p => (s.decodeStop p.1 p.2).isNone) = true) :
    ∀ p ∈ l, VReady s p.1 p.2 := by
  intro p hp
  have hd := List.all_eq_true.mp hd p hp
  simp only [calm, Bool.and_eq_true, Option.isNone_iff_eq_none, List.isEmpty_iff, Bool.not_eq_true'] at h hd
  obtain ⟨⟨⟨⟨⟨⟨h1, h2⟩, h3⟩, h4⟩, h5⟩, h6⟩, h7⟩ := h
  exact ⟨hd, h1, h2, h3, h4, h5, h6, h7⟩

/-- One instruction of such a list. -/
theorem vready_one {s : State} {r : Row} {w : BitVec 64} (h : calm s = true) (hd : (s.decodeStop r w).isNone = true) : VReady s r w :=
  vready_of (l := [(r, w)]) h (by simpa using hd) (r, w) (by simp)

/-- One instruction of the control thread. -/
theorem ready_one {s : State} {r : Row} {w : BitVec 64} (h : rdy s (r, w) = true) : Ready s r w :=
  ready_of (l := [(r, w)]) (by simpa using h) (r, w) (by simp)

/-- An active element is below the count. -/
theorem active_lt {h : Hart} {k : KReg} {p : Nat} (ha : h.active k p = true) : p < h.count := by
  simp only [Hart.active, Bool.and_eq_true, decide_eq_true_eq] at ha
  exact ha.1.2

/-- The base of the page of code, in the registers that the operands of the witnesses name as bases. -/
def tx : State := withX (withX ts 4#5 0x10040#64) 12#5 0x10040#64

/-- The same state with its pages uncached, so that accesses place no lines. -/
def bare (s : State) : State :=
  { s with stables := s.stables.map (fun t => { t with tlb := t.tlb.map (fun e => { e with leaf := e.leaf ||| 0x800#64 }) }) }

/-- O1: and where division by zero traps, and the divisor is not 0. -/
theorem witness_IntegerRegisterResults :
    (∀ p ∈ [(Row.add, wordAdd { d := 8#5, a := 4#5, b := 6#5 }), (Row.sub, wordSub { d := 8#5, a := 4#5, b := 6#5 }), (Row.and, wordAnd { d := 8#5, a := 4#5, b := 6#5 }), (Row.or, wordOr { d := 8#5, a := 4#5, b := 6#5 }), (Row.xor, wordXor { d := 8#5, a := 4#5, b := 6#5 }), (Row.sll, wordSll { d := 8#5, a := 4#5, b := 6#5 }), (Row.srl, wordSrl { d := 8#5, a := 4#5, b := 6#5 }), (Row.sra, wordSra { d := 8#5, a := 4#5, b := 6#5 }), (Row.slt, wordSlt { d := 8#5, a := 4#5, b := 6#5 }), (Row.sltn, wordSltn { d := 8#5, a := 4#5, b := 6#5 }), (Row.min, wordMin { d := 8#5, a := 4#5, b := 6#5 }), (Row.max, wordMax { d := 8#5, a := 4#5, b := 6#5 }), (Row.minn, wordMinn { d := 8#5, a := 4#5, b := 6#5 }), (Row.maxn, wordMaxn { d := 8#5, a := 4#5, b := 6#5 }), (Row.andn, wordAndn { d := 8#5, a := 4#5, b := 6#5 }), (Row.orn, wordOrn { d := 8#5, a := 4#5, b := 6#5 }), (Row.rol, wordRol { d := 8#5, a := 4#5, b := 6#5 }), (Row.ror, wordRor { d := 8#5, a := 4#5, b := 6#5 }), (Row.addw, wordAddw { d := 8#5, a := 4#5, b := 6#5 }), (Row.subw, wordSubw { d := 8#5, a := 4#5, b := 6#5 }), (Row.mul, wordMul { d := 8#5, a := 4#5, b := 6#5 }), (Row.mulh, wordMulh { d := 8#5, a := 4#5, b := 6#5 }), (Row.mulhn, wordMulhn { d := 8#5, a := 4#5, b := 6#5 }), (Row.mulhsn, wordMulhsn { d := 8#5, a := 4#5, b := 6#5 }), (Row.div, wordDiv { d := 8#5, a := 4#5, b := 6#5 }), (Row.divn, wordDivn { d := 8#5, a := 4#5, b := 6#5 }), (Row.rem, wordRem { d := 8#5, a := 4#5, b := 6#5 }), (Row.remn, wordRemn { d := 8#5, a := 4#5, b := 6#5 })], Ready ts p.1 p.2) ∧ ts.hart.csr.fen.getLsbD 5 = false :=
  ⟨ready_of (by decide), by decide⟩

theorem witness_IntegerRegisterResults_traps :
    (∀ p ∈ [(Row.div, wordDiv { d := 8#5, a := 4#5, b := 6#5 }), (Row.divn, wordDivn { d := 8#5, a := 4#5, b := 6#5 }), (Row.rem, wordRem { d := 8#5, a := 4#5, b := 6#5 }), (Row.remn, wordRemn { d := 8#5, a := 4#5, b := 6#5 })], Ready (withFen ts 0x20#64) p.1 p.2) ∧ (withFen ts 0x20#64).hart.csr.fen.getLsbD 5 = true ∧ (withFen ts 0x20#64).hart.getX 6#5 = 0#64 ∧ (withX ts 6#5 1#64).hart.getX 6#5 ≠ 0#64 :=
  ⟨ready_of (by decide), by decide, by decide, by decide⟩

/-- O2. -/
theorem witness_ImmediateAndBitResults :
    ∀ p ∈ [(Row.addi, wordAddi { d := 8#5, a := 4#5, i := 0#14 }), (Row.andi, wordAndi { d := 8#5, a := 4#5, i := 0#14 }), (Row.ori, wordOri { d := 8#5, a := 4#5, i := 0#14 }), (Row.xori, wordXori { d := 8#5, a := 4#5, i := 0#14 }), (Row.slti, wordSlti { d := 8#5, a := 4#5, i := 0#14 }), (Row.sltni, wordSltni { d := 8#5, a := 4#5, i := 0#14 }), (Row.slli, wordSlli { d := 8#5, a := 4#5, s := 0#6 }), (Row.srli, wordSrli { d := 8#5, a := 4#5, s := 0#6 }), (Row.srai, wordSrai { d := 8#5, a := 4#5, s := 0#6 }), (Row.roli, wordRoli { d := 8#5, a := 4#5, s := 0#6 }), (Row.lui, wordLui { d := 8#5, i := 0#19 }), (Row.auipc, wordAuipc { d := 8#5, i := 0#19 }), (Row.clz, wordClz { d := 8#5, a := 4#5 }), (Row.ctz, wordCtz { d := 8#5, a := 4#5 }), (Row.popc, wordPopc { d := 8#5, a := 4#5 }), (Row.bswap, wordBswap { d := 8#5, a := 4#5 }), (Row.sextb, wordSextb { d := 8#5, a := 4#5 }), (Row.sexth, wordSexth { d := 8#5, a := 4#5 }), (Row.sextw, wordSextw { d := 8#5, a := 4#5 }), (Row.zextb, wordZextb { d := 8#5, a := 4#5 }), (Row.zexth, wordZexth { d := 8#5, a := 4#5 }), (Row.zextw, wordZextw { d := 8#5, a := 4#5 })], Ready ts p.1 p.2 :=
  ready_of (by decide)

/-- O3. -/
theorem witness_CompressedResults :
    ∀ p ∈ [(Row.cAddi, wordCAddi { d := 8#5, i := 0#5 }), (Row.cMv, wordCMv { d := 8#5, s := 0#5 }), (Row.cAdd, wordCAdd { d := 8#5, s := 0#5 }), (Row.cSub, wordCSub { d := 8#5, s := 0#5 })], Ready ts p.1 p.2 :=
  ready_of (by decide)

/-- O4. -/
theorem witness_ControlTransferResults :
    ∀ p ∈ [(Row.beq, wordBeq { a := 4#5, b := 6#5, i := 0#14 }), (Row.bne, wordBne { a := 4#5, b := 6#5, i := 0#14 }), (Row.blt, wordBlt { a := 4#5, b := 6#5, i := 0#14 }), (Row.bge, wordBge { a := 4#5, b := 6#5, i := 0#14 }), (Row.bltn, wordBltn { a := 4#5, b := 6#5, i := 0#14 }), (Row.bgen, wordBgen { a := 4#5, b := 6#5, i := 0#14 }), (Row.cBeqz, wordCBeqz { s := 0#3, o := 0#7 }), (Row.cBnez, wordCBnez { s := 0#3, o := 0#7 }), (Row.cJ, wordCJ { o := 0#10 }), (Row.jal, wordJal { d := 8#5, i := 0#19 }), (Row.jalr, wordJalr { d := 8#5, a := 4#5, i := 0#14 })], Ready ts p.1 p.2 :=
  ready_of (by decide)

/-- O4: the targets of `JALR` where the clauses meet. -/
theorem witness_ControlTransferResults_jalr :
    (Ready (withX ts 4#5 0xFFFFFFFFFFFFFE#64) .jalr (wordJalr { d := 8#5, a := 4#5, i := 0#14 }) ∧ (0xFFFFFFFFFFFFFE#64 : Word).toNat < 2 ^ 56 ∧ (0xFFFFFFFFFFFFFE#64 : Word).getLsbD 0 = false) ∧
    (Ready (withX ts 4#5 0x100000000000000#64) .jalr (wordJalr { d := 8#5, a := 4#5, i := 0#14 }) ∧ 2 ^ 56 ≤ (0x100000000000000#64 : Word).toNat) ∧
    (Ready (withX ts 4#5 0xFFFFFFFFFFFFFF#64) .jalr (wordJalr { d := 8#5, a := 4#5, i := 0#14 }) ∧ (0xFFFFFFFFFFFFFF#64 : Word).toNat < 2 ^ 56 ∧ (0xFFFFFFFFFFFFFF#64 : Word).getLsbD 0 = true) :=
  ⟨⟨ready_one (by decide), by decide, by decide⟩, ⟨ready_one (by decide), by decide⟩, ⟨ready_one (by decide), by decide, by decide⟩⟩

/-- O5. -/
theorem witness_LoadResults :
    (∀ p ∈ [(Row.lb, wordLb { d := 8#5, a := 4#5, i := 0#14 }), (Row.lh, wordLh { d := 8#5, a := 4#5, i := 0#14 }), (Row.lw, wordLw { d := 8#5, a := 4#5, i := 0#14 }), (Row.ld, wordLd { d := 8#5, a := 4#5, i := 0#14 }), (Row.lbn, wordLbn { d := 8#5, a := 4#5, i := 0#14 }), (Row.lhn, wordLhn { d := 8#5, a := 4#5, i := 0#14 }), (Row.lwn, wordLwn { d := 8#5, a := 4#5, i := 0#14 }), (Row.cLd, wordCLd { d := 1#3, a := 4#3, o := 0#4 }), (Row.cLw, wordCLw { d := 1#3, a := 4#3, o := 0#4 })], Ready tx p.1 p.2) ∧ MemOk tx ∧ Reaches tx 0x10040 1 .load 0x10040 ∧ Reaches tx 0x10040 2 .load 0x10040 ∧ Reaches tx 0x10040 4 .load 0x10040 ∧ Reaches tx 0x10040 8 .load 0x10040 :=
  ⟨ready_of (by decide), by unfold MemOk; decide, ⟨⟨codeLeaf, by rfl⟩, by rfl, by rfl, by rfl⟩, ⟨⟨codeLeaf, by rfl⟩, by rfl, by rfl, by rfl⟩, ⟨⟨codeLeaf, by rfl⟩, by rfl, by rfl, by rfl⟩, ⟨⟨codeLeaf, by rfl⟩, by rfl, by rfl, by rfl⟩⟩

/-- O6. -/
theorem witness_StoreResults :
    (∀ p ∈ [(Row.sb, wordSb { s := 0#5, a := 4#5, i := 0#14 }), (Row.sh, wordSh { s := 0#5, a := 4#5, i := 0#14 }), (Row.sw, wordSw { s := 0#5, a := 4#5, i := 0#14 }), (Row.sd, wordSd { s := 0#5, a := 4#5, i := 0#14 }), (Row.cSd, wordCSd { s := 0#3, a := 4#3, o := 0#4 }), (Row.cSw, wordCSw { s := 0#3, a := 4#3, o := 0#4 })], Ready tx p.1 p.2) ∧ MemOk tx ∧ Reaches tx 0x10040 1 .store 0x10040 ∧ Reaches tx 0x10040 2 .store 0x10040 ∧ Reaches tx 0x10040 4 .store 0x10040 ∧ Reaches tx 0x10040 8 .store 0x10040 :=
  ⟨ready_of (by decide), by unfold MemOk; decide, ⟨⟨codeLeaf, by rfl⟩, by rfl, by rfl, by rfl⟩, ⟨⟨codeLeaf, by rfl⟩, by rfl, by rfl, by rfl⟩, ⟨⟨codeLeaf, by rfl⟩, by rfl, by rfl, by rfl⟩, ⟨⟨codeLeaf, by rfl⟩, by rfl, by rfl, by rfl⟩⟩

/-- O7: the first address outside the address space, and the last inside it, which only a byte may have. -/
theorem witness_AccessFaults :
    (∀ p ∈ [(Row.lb, wordLb { d := 8#5, a := 4#5, i := 0#14 }), (Row.lh, wordLh { d := 8#5, a := 4#5, i := 0#14 }), (Row.lw, wordLw { d := 8#5, a := 4#5, i := 0#14 }), (Row.ld, wordLd { d := 8#5, a := 4#5, i := 0#14 }), (Row.lbn, wordLbn { d := 8#5, a := 4#5, i := 0#14 }), (Row.lhn, wordLhn { d := 8#5, a := 4#5, i := 0#14 }), (Row.lwn, wordLwn { d := 8#5, a := 4#5, i := 0#14 }), (Row.sb, wordSb { s := 0#5, a := 4#5, i := 0#14 }), (Row.sh, wordSh { s := 0#5, a := 4#5, i := 0#14 }), (Row.sw, wordSw { s := 0#5, a := 4#5, i := 0#14 }), (Row.sd, wordSd { s := 0#5, a := 4#5, i := 0#14 })], Ready (withX ts 4#5 0x100000000000000#64) p.1 p.2 ∧ Ready (withX ts 4#5 0xFFFFFFFFFFFFFF#64) p.1 p.2) ∧
    (∀ n ∈ [1, 2, 4, 8], (withX ts 4#5 0x100000000000000#64).hart.memHeld 0x100000000000000 n = false ∧ (withX ts 4#5 0xFFFFFFFFFFFFFF#64).hart.memHeld 0xFFFFFFFFFFFFFF n = false) ∧
    (withX ts 4#5 0x100000000000000#64).hart.fencedAhead = false ∧ (withX ts 4#5 0xFFFFFFFFFFFFFF#64).hart.fencedAhead = false ∧
    ¬ 2 ^ 56 ≤ 0xFFFFFFFFFFFFFF ∧ (∀ n ∈ [2, 4, 8], 0xFFFFFFFFFFFFFF % n ≠ 0) :=
  ⟨fun p hp => ⟨ready_of (by decide) p hp, ready_of (by decide) p hp⟩, by decide, by decide, by decide, by decide, by decide⟩

/-- O8: `CAS` finds what it compares with; it does not where x8 is 1. -/
theorem witness_AtomicResults :
    (∀ p ∈ [(Row.amoswapW, wordAmoswapW { d := 8#5, a := 4#5, b := 6#5, o := 0#2 }), (Row.amoaddW, wordAmoaddW { d := 8#5, a := 4#5, b := 6#5, o := 0#2 }), (Row.amoandW, wordAmoandW { d := 8#5, a := 4#5, b := 6#5, o := 0#2 }), (Row.amoorW, wordAmoorW { d := 8#5, a := 4#5, b := 6#5, o := 0#2 }), (Row.amoxorW, wordAmoxorW { d := 8#5, a := 4#5, b := 6#5, o := 0#2 }), (Row.amominW, wordAmominW { d := 8#5, a := 4#5, b := 6#5, o := 0#2 }), (Row.amomaxW, wordAmomaxW { d := 8#5, a := 4#5, b := 6#5, o := 0#2 }), (Row.amominnW, wordAmominnW { d := 8#5, a := 4#5, b := 6#5, o := 0#2 }), (Row.amomaxnW, wordAmomaxnW { d := 8#5, a := 4#5, b := 6#5, o := 0#2 }), (Row.amoswapD, wordAmoswapD { d := 8#5, a := 4#5, b := 6#5, o := 0#2 }), (Row.amoaddD, wordAmoaddD { d := 8#5, a := 4#5, b := 6#5, o := 0#2 }), (Row.amoandD, wordAmoandD { d := 8#5, a := 4#5, b := 6#5, o := 0#2 }), (Row.amoorD, wordAmoorD { d := 8#5, a := 4#5, b := 6#5, o := 0#2 }), (Row.amoxorD, wordAmoxorD { d := 8#5, a := 4#5, b := 6#5, o := 0#2 }), (Row.amominD, wordAmominD { d := 8#5, a := 4#5, b := 6#5, o := 0#2 }), (Row.amomaxD, wordAmomaxD { d := 8#5, a := 4#5, b := 6#5, o := 0#2 }), (Row.amominnD, wordAmominnD { d := 8#5, a := 4#5, b := 6#5, o := 0#2 }), (Row.amomaxnD, wordAmomaxnD { d := 8#5, a := 4#5, b := 6#5, o := 0#2 }), (Row.cas, wordCas { d := 8#5, a := 4#5, b := 6#5, e := 0#5, w := 0#1, o := 0#2 })], Ready tx p.1 p.2) ∧ MemOk tx ∧ tx.failsAt 0x10040 8 = false ∧ Reaches tx 0x10040 4 .store 0x10040 ∧ Reaches tx 0x10040 8 .store 0x10040 ∧ Quiet tx :=
  ⟨ready_of (by decide), by unfold MemOk; decide, by decide, ⟨⟨codeLeaf, by rfl⟩, by rfl, by rfl, by rfl⟩, ⟨⟨codeLeaf, by rfl⟩, by rfl, by rfl, by rfl⟩, ⟨by rfl, by rfl⟩⟩

theorem witness_AtomicResults_cas :
    tx.mem.readN 0x10040 4 = (tx.hart.getX 0#5).toNat % 2 ^ 32 ∧ tx.mem.readN 0x10040 4 ≠ ((withX tx 8#5 1#64).hart.getX 8#5).toNat % 2 ^ 32 :=
  by decide

/-- O9: and 1/0 with its flag enabled. -/
theorem witness_ScalarFpResults :
    (∀ p ∈ [(Row.fadd, wordFadd { d := 8#5, a := 4#5, b := 6#5, f := 0#1, r := 0#3 }), (Row.fsub, wordFsub { d := 8#5, a := 4#5, b := 6#5, f := 0#1, r := 0#3 }), (Row.fmul, wordFmul { d := 8#5, a := 4#5, b := 6#5, f := 0#1, r := 0#3 }), (Row.fdiv, wordFdiv { d := 8#5, a := 4#5, b := 6#5, f := 0#1, r := 0#3 }), (Row.fmin, wordFmin { d := 8#5, a := 4#5, b := 6#5, f := 0#1 }), (Row.fmax, wordFmax { d := 8#5, a := 4#5, b := 6#5, f := 0#1 }), (Row.fsgnj, wordFsgnj { d := 8#5, a := 4#5, b := 6#5, f := 0#1 }), (Row.fsgnjn, wordFsgnjn { d := 8#5, a := 4#5, b := 6#5, f := 0#1 }), (Row.fsgnjx, wordFsgnjx { d := 8#5, a := 4#5, b := 6#5, f := 0#1 }), (Row.feq, wordFeq { d := 8#5, a := 4#5, b := 6#5, f := 0#1 }), (Row.flt, wordFlt { d := 8#5, a := 4#5, b := 6#5, f := 0#1 }), (Row.fle, wordFle { d := 8#5, a := 4#5, b := 6#5, f := 0#1 }), (Row.fsqrt, wordFsqrt { d := 8#5, a := 4#5, f := 0#1, r := 0#3 }), (Row.fclass, wordFclass { d := 8#5, a := 4#5, f := 0#1 })], Ready ts p.1 p.2) ∧ enabledCause ts.hart.fen (fpDivV fmtF32 (FpEnv.scalar .rne) (fmtF32.decode 0x3F800000) (fmtF32.decode 0)).2 = none :=
  ⟨ready_of (by decide), by decide⟩

theorem witness_ScalarFpResults_trap :
    Ready (withX (withFen ts 2#64) 4#5 0x3F800000#64) .fdiv (wordFdiv { d := 8#5, a := 4#5, b := 6#5, f := 0#1, r := 0#3 }) ∧ ∃ c, enabledCause (withX (withFen ts 2#64) 4#5 0x3F800000#64).hart.fen (fpDivV fmtF32 (FpEnv.scalar .rne) (fmtF32.decode 0x3F800000) (fmtF32.decode 0)).2 = some c :=
  ⟨ready_one (by decide), ⟨_, by rfl⟩⟩

/-- O10. -/
theorem witness_ScalarFmaResults :
    (∀ p ∈ [(Row.fma, wordFma { d := 8#5, a := 4#5, b := 6#5, e := 0#5, f := 0#1 }), (Row.fms, wordFms { d := 8#5, a := 4#5, b := 6#5, e := 0#5, f := 0#1 }), (Row.fnma, wordFnma { d := 8#5, a := 4#5, b := 6#5, e := 0#5, f := 0#1 }), (Row.fnms, wordFnms { d := 8#5, a := 4#5, b := 6#5, e := 0#5, f := 0#1 })], Ready (withFen ts 1#64) p.1 p.2) ∧ (∃ c, enabledCause (withFen ts 1#64).hart.fen (fpFmaV fmtF32 (FpEnv.scalar .rne) (.inf false) (.fin false 0 0) (.inf true)).2 = some c) ∧ enabledCause ts.hart.fen flagNv = none :=
  ⟨ready_of (by decide), ⟨_, by rfl⟩, by decide⟩

/-- O11. -/
theorem witness_ScalarConversionResults :
    (∀ p ∈ [(Row.fcvtI32F32, wordFcvtI32F32 { d := 8#5, a := 4#5, r := 0#3 }), (Row.fcvtF32I32, wordFcvtF32I32 { d := 8#5, a := 4#5, r := 0#3 }), (Row.fcvtN32F32, wordFcvtN32F32 { d := 8#5, a := 4#5, r := 0#3 }), (Row.fcvtF32N32, wordFcvtF32N32 { d := 8#5, a := 4#5, r := 0#3 }), (Row.fcvtI32F64, wordFcvtI32F64 { d := 8#5, a := 4#5, r := 0#3 }), (Row.fcvtF64I32, wordFcvtF64I32 { d := 8#5, a := 4#5, r := 0#3 }), (Row.fcvtN32F64, wordFcvtN32F64 { d := 8#5, a := 4#5, r := 0#3 }), (Row.fcvtF64N32, wordFcvtF64N32 { d := 8#5, a := 4#5, r := 0#3 }), (Row.fcvtI64F32, wordFcvtI64F32 { d := 8#5, a := 4#5, r := 0#3 }), (Row.fcvtF32I64, wordFcvtF32I64 { d := 8#5, a := 4#5, r := 0#3 }), (Row.fcvtN64F32, wordFcvtN64F32 { d := 8#5, a := 4#5, r := 0#3 }), (Row.fcvtF32N64, wordFcvtF32N64 { d := 8#5, a := 4#5, r := 0#3 }), (Row.fcvtI64F64, wordFcvtI64F64 { d := 8#5, a := 4#5, r := 0#3 }), (Row.fcvtF64I64, wordFcvtF64I64 { d := 8#5, a := 4#5, r := 0#3 }), (Row.fcvtN64F64, wordFcvtN64F64 { d := 8#5, a := 4#5, r := 0#3 }), (Row.fcvtF64N64, wordFcvtF64N64 { d := 8#5, a := 4#5, r := 0#3 }), (Row.fcvtF32F64, wordFcvtF32F64 { d := 8#5, a := 4#5, r := 0#3 }), (Row.fcvtF64F32, wordFcvtF64F32 { d := 8#5, a := 4#5, r := 0#3 })], Ready (withFen ts 1#64) p.1 p.2) ∧ (∃ c, enabledCause (withFen ts 1#64).hart.fen (fpToInt .rne (-(2 ^ 31)) (2 ^ 31 - 1) (fmtF32.decode 0x7FC00000)).2 = some c) ∧ enabledCause (withFen ts 1#64).hart.fen (fpToInt .rne (-(2 ^ 31)) (2 ^ 31 - 1) (fmtF32.decode 0)).2 = none :=
  ⟨ready_of (by decide), ⟨_, by rfl⟩, by decide⟩

/-- O12. -/
theorem witness_StepRunsDecoded_0 :
    (State.reset.withFetchWord 32 0x001CC501).turns = [] ∧ (State.reset.withFetchWord 32 0x001CC501).still = false ∧ (State.reset.withFetchWord 32 0x001CC501).takeReady = none ∧ (∃ v t, (State.reset.withFetchWord 32 0x001CC501).fetchAt (State.reset.withFetchWord 32 0x001CC501).hart.pc.toNat = .ok v t ∧ decode v = .ok (.add { d := 5#5, a := 6#5, b := 7#5 })) :=
  ⟨by rfl, by rfl, by rfl, ⟨0x001CC501#64, ts.fillCode 0x10000, by rfl, by rfl⟩⟩

theorem witness_StepRunsDecoded_1 :
    (State.reset.withFetchWord 32 0).turns = [] ∧ (State.reset.withFetchWord 32 0).still = false ∧ (State.reset.withFetchWord 32 0).takeReady = none ∧ (∃ v t, (State.reset.withFetchWord 32 0).fetchAt (State.reset.withFetchWord 32 0).hart.pc.toNat = .ok v t ∧ decode v = .error .zero) :=
  ⟨by rfl, by rfl, by rfl, ⟨_, _, by rfl, by rfl⟩⟩

theorem witness_StepRunsDecoded_2 :
    (State.reset.withFetchWord 32 0xA9).turns = [] ∧ (State.reset.withFetchWord 32 0xA9).still = false ∧ (State.reset.withFetchWord 32 0xA9).takeReady = none ∧ (∃ v t, (State.reset.withFetchWord 32 0xA9).fetchAt (State.reset.withFetchWord 32 0xA9).hart.pc.toNat = .ok v t ∧ decode v = .error .opcode) :=
  ⟨by rfl, by rfl, by rfl, ⟨_, _, by rfl, by rfl⟩⟩

theorem witness_StepRunsDecoded_3 :
    (State.reset.withFetchWord 32 0x9C12A).turns = [] ∧ (State.reset.withFetchWord 32 0x9C12A).still = false ∧ (State.reset.withFetchWord 32 0x9C12A).takeReady = none ∧ (∃ v t, (State.reset.withFetchWord 32 0x9C12A).fetchAt (State.reset.withFetchWord 32 0x9C12A).hart.pc.toNat = .ok v t ∧ decode v = .error .function) :=
  ⟨by rfl, by rfl, by rfl, ⟨_, _, by rfl, by rfl⟩⟩

theorem witness_StepRunsDecoded_4 :
    (State.reset.withFetchWord 32 0x5008012A).turns = [] ∧ (State.reset.withFetchWord 32 0x5008012A).still = false ∧ (State.reset.withFetchWord 32 0x5008012A).takeReady = none ∧ (∃ v t, (State.reset.withFetchWord 32 0x5008012A).fetchAt (State.reset.withFetchWord 32 0x5008012A).hart.pc.toNat = .ok v t ∧ decode v = .error .reserved) :=
  ⟨by rfl, by rfl, by rfl, ⟨_, _, by rfl, by rfl⟩⟩

/-- The state with the code of a launch in the instruction cache. -/
def cachedCode (n w : Nat) : State := (State.reset.withFetchWord n w).fillCode 0x10000

/-- O13: copies that agree with memory. -/
theorem witness_FetchReadsMemory_2 :
    State.ulines (cachedCode 16 0x02B0) = [] ∧ 2 = (if Memory.readN (State.mem (cachedCode 16 0x02B0)) 0x10000 2 % 4 = 0 then 2 else if Memory.readN (State.mem (cachedCode 16 0x02B0)) 0x10000 2 % 4 = 3 then 8 else 4) ∧ (∀ j, 2 * j < 2 → State.access (cachedCode 16 0x02B0) (0x10000 + 2 * j) 2 2 .fetch false = .ok (.phys (0x10000 + 2 * j) codeLeaf) (cachedCode 16 0x02B0)) ∧
    (∀ j, 2 * j < 2 → State.codeCopy (cachedCode 16 0x02B0) (0x10000 + 2 * j) = some (Memory.readN (State.mem (cachedCode 16 0x02B0)) (0x10000 + 2 * j) 2)) :=
  ⟨by rfl, by decide, fun j h => by
    match j, h with
    | 0, _ => rfl
    | j + 1, h => omega,
  fun j h => by
    match j, h with
    | 0, _ => rfl
    | j + 1, h => omega⟩

theorem witness_FetchReadsMemory_4 :
    State.ulines (cachedCode 32 0x001CC501) = [] ∧ 4 = (if Memory.readN (State.mem (cachedCode 32 0x001CC501)) 0x10000 2 % 4 = 0 then 2 else if Memory.readN (State.mem (cachedCode 32 0x001CC501)) 0x10000 2 % 4 = 3 then 8 else 4) ∧ (∀ j, 2 * j < 4 → State.access (cachedCode 32 0x001CC501) (0x10000 + 2 * j) 2 2 .fetch false = .ok (.phys (0x10000 + 2 * j) codeLeaf) (cachedCode 32 0x001CC501)) ∧
    (∀ j, 2 * j < 4 → State.codeCopy (cachedCode 32 0x001CC501) (0x10000 + 2 * j) = some (Memory.readN (State.mem (cachedCode 32 0x001CC501)) (0x10000 + 2 * j) 2)) :=
  ⟨by rfl, by decide, fun j h => by
    match j, h with
    | 0, _ => rfl
    | 1, _ => rfl
    | j + 2, h => omega,
  fun j h => by
    match j, h with
    | 0, _ => rfl
    | 1, _ => rfl
    | j + 2, h => omega⟩

theorem witness_FetchReadsMemory_8 :
    State.ulines (cachedCode 64 0x44C504A08103) = [] ∧ 8 = (if Memory.readN (State.mem (cachedCode 64 0x44C504A08103)) 0x10000 2 % 4 = 0 then 2 else if Memory.readN (State.mem (cachedCode 64 0x44C504A08103)) 0x10000 2 % 4 = 3 then 8 else 4) ∧ (∀ j, 2 * j < 8 → State.access (cachedCode 64 0x44C504A08103) (0x10000 + 2 * j) 2 2 .fetch false = .ok (.phys (0x10000 + 2 * j) codeLeaf) (cachedCode 64 0x44C504A08103)) ∧
    (∀ j, 2 * j < 8 → State.codeCopy (cachedCode 64 0x44C504A08103) (0x10000 + 2 * j) = some (Memory.readN (State.mem (cachedCode 64 0x44C504A08103)) (0x10000 + 2 * j) 2)) :=
  ⟨by rfl, by decide, fun j h => by
    match j, h with
    | 0, _ => rfl
    | 1, _ => rfl
    | 2, _ => rfl
    | 3, _ => rfl
    | j + 4, h => omega,
  fun j h => by
    match j, h with
    | 0, _ => rfl
    | 1, _ => rfl
    | 2, _ => rfl
    | 3, _ => rfl
    | j + 4, h => omega⟩

/-- O13: no copy. -/
theorem witness_FetchReadsMemory_miss :
    State.ulines (State.reset.withFetchWord 16 0x02B0) = [] ∧ State.access (State.reset.withFetchWord 16 0x02B0) 0x10000 2 2 .fetch false = .ok (.phys 0x10000 codeLeaf) (State.reset.withFetchWord 16 0x02B0) ∧ State.codeCopy (State.reset.withFetchWord 16 0x02B0) 0x10000 = none ∧ Memory.readN (State.mem (State.reset.withFetchWord 16 0x02B0)) 0x10000 2 % 4 = 0 :=
  ⟨by rfl, by rfl, by rfl, by decide⟩

/-- O13: a copy that memory has left behind. -/
theorem witness_FetchReadsMemory_stale :
    State.ulines { cachedCode 16 0x02B0 with mem := [] } = [] ∧ State.access { cachedCode 16 0x02B0 with mem := [] } 0x10000 2 2 .fetch false = .ok (.phys 0x10000 codeLeaf) { cachedCode 16 0x02B0 with mem := [] } ∧ State.codeCopy { cachedCode 16 0x02B0 with mem := [] } 0x10000 = some 0x02B0 ∧ 0x02B0 % 4 = 0 ∧ Memory.readN (State.mem { cachedCode 16 0x02B0 with mem := [] }) 0x10000 2 = 0 :=
  ⟨by rfl, by rfl, by rfl, by decide, by decide⟩

/-- O14. -/
theorem witness_TrapEntry :
    ts.hart.recur = none ∧ ts.hart.queue = [] ∧ (withStatus ts 0x200#64).hart.qip = true ∧ (State.hart { ts with hart := { ts.hart with vcause := some { stop := stopAt 0x69 0, vpc := 0#64 } } }).vcause.isSome = true ∧ 0x46 ≠ 0xA0 ∧ 0x46 ≠ 0xA1 :=
  by decide

/-- O15: no queue image; an odd target; an image with vector state off; an image of one entry, with `vstart` as it must be and not. -/
theorem witness_TrapReturns :
    Ready (withStatus ts 1#64) .tret wordTret ∧ (withStatus ts 1#64).hart.queue = [] ∧ (withStatus ts 1#64).hart.qip = false ∧ (withStatus ts 1#64).hart.csr.tpc.getLsbD 0 = false :=
  ⟨ready_one (by decide), by rfl, by rfl, by decide⟩

theorem witness_TrapReturns_odd :
    Ready (withStatus { ts with hart := { ts.hart with csr := { ts.hart.csr with tpc := 1#64 } } } 1#64) .tret wordTret ∧ (withStatus { ts with hart := { ts.hart with csr := { ts.hart.csr with tpc := 1#64 } } } 1#64).hart.queue = [] ∧ (withStatus { ts with hart := { ts.hart with csr := { ts.hart.csr with tpc := 1#64 } } } 1#64).hart.csr.tpc.getLsbD 0 = true :=
  ⟨ready_one (by decide), by rfl, by decide⟩

theorem witness_TrapReturns_off :
    Ready (withStatus { ts with hart := { ts.hart with csr := { ts.hart.csr with status := 0x10#64 } } } 0x201#64) .tret wordTret ∧ (withStatus { ts with hart := { ts.hart with csr := { ts.hart.csr with status := 0x10#64 } } } 0x201#64).hart.queue = [] ∧ (withStatus { ts with hart := { ts.hart with csr := { ts.hart.csr with status := 0x10#64 } } } 0x201#64).hart.qip = true ∧ (withStatus { ts with hart := { ts.hart with csr := { ts.hart.csr with status := 0x10#64 } } } 0x201#64).hart.vs = 0 ∧ (withStatus { ts with hart := { ts.hart with csr := { ts.hart.csr with status := 0x10#64 } } } 0x201#64).hart.csr.tpc.getLsbD 0 = false :=
  ⟨ready_one (by decide), by rfl, by rfl, by decide, by decide⟩

/-- A handler with an image of one addition of vectors, from element `vstart` on. -/
def timage (vstart : Word) : State :=
  withStatus { ts with hart := { ts.hart with
    image := { vstart := 0, lrec := 0#64, slots := [{ QSlot.empty with w0 := 0x018C4106#32, pc := 0x10000#64, state := 1 }] }
    csr := { ts.hart.csr with vstart := vstart } } } 0x201#64

theorem witness_TrapReturns_image :
    ((timage 0#64).hart.replayed (timage 0#64).hart.image.slots (timage 0#64).hart.image.lrec 0).all (fun e => !(timage 0#64).hart.badResume e && (timage 300#64).hart.badResume e) = true ∧
    (∀ v ∈ [0#64, 300#64], Ready (timage v) .tret wordTret ∧ (timage v).hart.queue = [] ∧ (timage v).hart.qip = true ∧ (timage v).hart.vs ≠ 0 ∧ (timage v).hart.ms ≠ 0 ∧ (timage v).hart.csr.tpc.getLsbD 0 = false ∧
      ∃ e q, (timage v).hart.replayed (timage v).hart.image.slots (timage v).hart.image.lrec 0 = e :: q) :=
  ⟨by decide, fun v h => by
    simp only [List.mem_cons, List.not_mem_nil, or_false] at h
    rcases h with rfl | rfl <;> exact ⟨ready_one (by decide), by rfl, by rfl, by decide, by decide, by decide, ⟨_, _, by rfl⟩⟩⟩

/-- O16: `vcfg` among them. -/
theorem witness_CsrResults :
    (∀ p ∈ [(Row.csrrw, wordCsrrw { d := 8#5, a := 4#5, c := 16#11 }), (Row.csrrs, wordCsrrs { d := 8#5, a := 4#5, c := 26#11 }), (Row.csrrc, wordCsrrc { d := 8#5, a := 4#5, c := 0#11 }), (Row.csrrwi, wordCsrrwi { d := 8#5, u := 0#5, c := 0#11 }), (Row.csrrsi, wordCsrrsi { d := 8#5, u := 0#5, c := 0#11 }), (Row.csrrci, wordCsrrci { d := 8#5, u := 0#5, c := 0#11 })], Ready (withStatus ts 1#64) p.1 p.2) ∧ (withStatus ts 1#64).hart.queue = [] ∧ (withStatus ts 1#64).hart.badVcfg 0x80000000#64 = false :=
  ⟨ready_of (by decide), by rfl, by decide⟩

/-- O18. -/
theorem witness_PrivilegeTraps :
    ts.hart.mode = 0 ∧ (State.hart { ts with hart := { ts.hart with csr := { ts.hart.csr with status := 0x10#64 } } }).vs = 0 ∧ (State.hart { ts with hart := { ts.hart with csr := { ts.hart.csr with status := 0x10#64 } } }).ms = 0 ∧ (State.hart { ts with hart := { ts.hart with csr := { ts.hart.csr with status := 0x10#64 } } }).mode = 0 :=
  by decide

/-- O19. -/
theorem witness_TrapInstructions :
    ∀ p ∈ [(Row.trap, wordTrap { a := 4#5 }), (Row.trapBrk, wordTrapBrk)], Ready ts p.1 p.2 :=
  ready_of (by decide)

/-- O20: with an event, and with an asynchronous cause that is pending. -/
theorem witness_WaitsAndStops :
    (∀ p ∈ [(Row.pause, wordPause), (Row.fence, wordFence { s := 0#3, k := 0#2 }), (Row.wfe, wordWfe), (Row.halt, wordHalt), (Row.cpywait, wordCpywait)], Ready ts p.1 p.2) ∧ ts.hart.released = true ∧ ts.hart.event = false ∧ ts.hart.asyncPending = false ∧ Quiet ts ∧
    (State.hart { ts with hart := { ts.hart with event := true } }).event = true ∧ Ready { ts with hart := { ts.hart with event := true } } .wfe wordWfe ∧ (State.hart { ts with hart := { ts.hart with preT := true } }).asyncPending = true ∧ Ready { ts with hart := { ts.hart with preT := true } } .wfe wordWfe :=
  ⟨ready_of (by decide), by decide, by decide, by decide, ⟨by rfl, by rfl⟩, by decide, ready_one (by decide), by decide, ready_one (by decide)⟩

/-- O20: an acquire and a release fence behind a store of a vector. -/
theorem witness_WaitsAndStops_fence :
    Ready (State.queued ts .vst (wordVst { d := 8#5, a := 4#5, c := 0#1, o := 0#1, k := 0#3 }) [] 4) .fence (wordFence { s := 1#3, k := 1#2 }) ∧ Ready (State.queued ts .vst (wordVst { d := 8#5, a := 4#5, c := 0#1, o := 0#1, k := 0#3 }) [] 4) .fence (wordFence { s := 1#3, k := 2#2 }) ∧ (State.queued ts .vst (wordVst { d := 8#5, a := 4#5, c := 0#1, o := 0#1, k := 0#3 }) [] 4).hart.released = false ∧ (State.queued ts .vst (wordVst { d := 8#5, a := 4#5, c := 0#1, o := 0#1, k := 0#3 }) [] 4).hart.readsBack = true :=
  ⟨ready_one (by decide), ready_one (by decide), by decide, by decide⟩

/-- A barrier word at 0x10040, its address in x4 and the expected word or token in x6. -/
def tbar (v : Nat) (x : Word) : State := withX { tx with mem := tx.mem.writeN 0x10040 8 v } 6#5 x

/-- O21: the word that `WAITM` waits to see change, and another. -/
theorem witness_SynchronisationResults :
    ∀ s ∈ [tbar 0x2000100000000 0x2000100000000#64, tbar 0x2000100000000 0#64],
    s.ulines = [] ∧ s.failsAt 0x10040 8 = false ∧ s.mem.wf = true ∧ (∀ p ∈ [(Row.waitm, wordWaitm { d := 8#5, a := 4#5, b := 6#5 })], Ready s p.1 p.2) ∧ Reaches s 0x10040 8 .load 0x10040 ∧ Reaches s 0x10040 8 .store 0x10040 :=
  by
  intro s hs
  simp only [List.mem_cons, List.not_mem_nil, or_false] at hs
  rcases hs with rfl | rfl <;>
    exact ⟨by rfl, by decide, by decide, ready_of (by decide), ⟨⟨codeLeaf, by rfl⟩, by rfl, by rfl, by rfl⟩, ⟨⟨codeLeaf, by rfl⟩, by rfl, by rfl, by rfl⟩⟩

/-- O21: two arrivals are left, one is left, none is left; a barrier for nobody; a barrier word with bit 63. -/
theorem witness_SynchronisationResults_barrier :
    ∀ s ∈ [tbar 0x2000100000000 0x10000#64, tbar 0x2000100000001 0x10000#64, tbar 0x2000100000002 0x10000#64, tbar 0 0x10000#64, tbar 0x8000000000000000 0x10000#64],
    s.ulines = [] ∧ s.failsAt 0x10040 8 = false ∧ s.mem.wf = true ∧ (∀ p ∈ [(Row.await, wordAwait { d := 8#5, a := 4#5, b := 6#5 }), (Row.arrive, wordArrive { d := 8#5, a := 4#5, b := 6#5 })], Ready s p.1 p.2) ∧ Reaches s 0x10040 8 .load 0x10040 ∧ Reaches s 0x10040 8 .store 0x10040 :=
  by
  intro s hs
  simp only [List.mem_cons, List.not_mem_nil, or_false] at hs
  rcases hs with rfl | rfl | rfl | rfl | rfl <;>
    exact ⟨by rfl, by decide, by decide, ready_of (by decide), ⟨⟨codeLeaf, by rfl⟩, by rfl, by rfl, by rfl⟩, ⟨⟨codeLeaf, by rfl⟩, by rfl, by rfl, by rfl⟩⟩

theorem witness_SynchronisationResults_words :
    (tbar 0x2000100000000 0x2000100000000#64).mem.readN 0x10040 8 = 0x2000100000000 ∧ 0x2000100000000 / 2 ^ 32 % 2 ^ 16 ≠ (0x10000#64 : Word).toNat % 2 ^ 16 ∧ ts.hart.timeout = false ∧ ts.hart.asyncPending = false ∧ ts.hart.queue = [] ∧ ts.hart.bridle = [] ∧ ts.hart.released = true ∧ (0x1010000#64 : Word).getLsbD 24 = true ∧ (State.hart { ts with hart := { ts.hart with timeout := true } }).timeout = true :=
  by decide

theorem witness_SynchronisationResults_gang :
    ∃ j, ts.job = some j ∧ j.mask = 1#8 <<< ts.hart.csr.member ∧ ts.hart.gwait = none ∧ j.arrived = 0#8 ∧ (∀ p ∈ [(Row.gbar, wordGbar { d := 8#5 }), (Row.gbarRlx, wordGbarRlx { d := 8#5 })], Ready ts p.1 p.2) ∧ ts.hart.released = true :=
  ⟨launchedJob State.reset, by rfl, by decide, by rfl, by decide, ready_of (by decide), by decide⟩

/-- O22: with no byte, the last byte of the address space, and the first beyond it. -/
theorem witness_CacheAndTlbResults :
    (∀ p ∈ [(Row.cflush, wordCflush { a := 4#5, b := 6#5 }), (Row.cinval, wordCinval { a := 4#5, b := 6#5 }), (Row.pin, wordPin { d := 8#5, a := 4#5, b := 6#5 }), (Row.unpin, wordUnpin { d := 8#5, a := 4#5, b := 6#5 }), (Row.finval, wordFinval { a := 4#5 }), (Row.tlbinv, wordTlbinv { a := 4#5, b := 6#5 })], Ready (withStatus ts 1#64) p.1 p.2) ∧ State.ulines (withStatus ts 1#64) = [] ∧ Quiet (withStatus ts 1#64) ∧ (State.hart (withStatus ts 1#64)).id < 2310 ∧ (∀ h ∈ State.others (withStatus ts 1#64), h.bridle = []) ∧ Sound (withStatus ts 1#64) :=
  ⟨ready_of (by decide), by rfl, ⟨by rfl, by rfl⟩, by decide, by decide, ⟨by rfl, by rfl, by rfl, by rfl, by rfl⟩⟩

/-- O22: a line of code in the cache. -/
theorem witness_CacheAndTlbResults_code :
    State.presentAt (withStatus (withX (withX (cachedCode 32 0x02D0C095) 4#5 0x10040#64) 6#5 4#64) 1#64) ((State.hart (withStatus (withX (withX (cachedCode 32 0x02D0C095) 4#5 0x10040#64) 6#5 4#64) 1#64)).getX 4#5).toNat = .ok (some (0x10040, codeLeaf)) (withStatus (withX (withX (cachedCode 32 0x02D0C095) 4#5 0x10040#64) 6#5 4#64) 1#64) ∧ (State.hart (withStatus (withX (withX (cachedCode 32 0x02D0C095) 4#5 0x10040#64) 6#5 4#64) 1#64)).getX 6#5 ≠ 0#64 ∧
    ((State.hart (withStatus (withX (withX (cachedCode 32 0x02D0C095) 4#5 0x10040#64) 6#5 4#64) 1#64)).getX 4#5).toNat / 65536 = (((State.hart (withStatus (withX (withX (cachedCode 32 0x02D0C095) 4#5 0x10040#64) 6#5 4#64) 1#64)).getX 4#5).toNat + ((State.hart (withStatus (withX (withX (cachedCode 32 0x02D0C095) 4#5 0x10040#64) 6#5 4#64) 1#64)).getX 6#5).toNat - 1) / 65536 ∧ State.codeCopy (withStatus (withX (withX (cachedCode 32 0x02D0C095) 4#5 0x10040#64) 6#5 4#64) 1#64) 0x10040 ≠ none :=
  ⟨by rfl, by decide, by decide, by decide⟩

theorem witness_CacheAndTlbResults_ranges :
    (0#64 : Word) = 0#64 ∧ ((0xFFFFFFFFFFFFFF#64 : Word).toNat < 2 ^ 56 ∧ (0xFFFFFFFFFFFFFF#64 : Word).toNat + (1#64 : Word).toNat - 1 < 2 ^ 56) ∧ (0x100000000000000#64 : Word) ≠ BitVec.allOnes 64 ∧ 2 ^ 56 ≤ (0x100000000000000#64 : Word).toNat :=
  by decide

/-- O23. -/
theorem witness_QueueImageResults :
    (∀ p ∈ [(Row.vqsave, wordVqsave { a := 4#5 }), (Row.vqload, wordVqload { a := 4#5 })], Ready (withStatus (bare tx) 1#64) p.1 p.2) ∧ (0x10040#64 : Word).toNat < 2 ^ 56 ∧ (0x10040#64 : Word).toNat % 16 = 0 ∧ (State.hart (withStatus (bare tx) 1#64)).bridle = [] ∧ (State.hart (withStatus (bare tx) 1#64)).memHeld 0x10040 1040 = false ∧
    (∃ t, State.storeRun (withStatus (bare tx) 1#64) 0x10040 QImage.empty.words = .ok () t) ∧ (∃ d t q, State.loadRun (withStatus (bare tx) 1#64) 0x10040 130 = .ok d t ∧ t.imageOfWords d = some q) ∧
    (∃ d t, State.loadRun { (withStatus (bare tx) 1#64) with mem := [(0x10040, 33#8)] } 0x10040 130 = .ok d t ∧ t.imageOfWords d = none) :=
  ⟨ready_of (by decide), by decide, by decide, by rfl, by rfl, ⟨_, by rfl⟩, ⟨_, _, _, by rfl, by rfl⟩, ⟨_, _, by rfl, by rfl⟩⟩

/-! ## A ring and a capability on it

The seal depends on a key without a body (log 11), so the capability's last doubleword is kept as a term. -/

/-- The eight bytes of a number below 2^64 make it again. -/
theorem bytes_of (v : Nat) (h : v < 2 ^ 64) :
    (BitVec.ofNat 8 (v / 256 ^ 0)).toNat + 256 * ((BitVec.ofNat 8 (v / 256 ^ 1)).toNat + 256 * ((BitVec.ofNat 8 (v / 256 ^ 2)).toNat +
      256 * ((BitVec.ofNat 8 (v / 256 ^ 3)).toNat + 256 * ((BitVec.ofNat 8 (v / 256 ^ 4)).toNat + 256 * ((BitVec.ofNat 8 (v / 256 ^ 5)).toNat +
        256 * ((BitVec.ofNat 8 (v / 256 ^ 6)).toNat + 256 * ((BitVec.ofNat 8 (v / 256 ^ 7)).toNat + 256 * 0))))))) = v := by
  simp only [BitVec.toNat_ofNat]
  omega

/-- The first doublewords of the capability: base 0x10100, slots of 64 bytes, a lap of 2, one consumer, every right, a type. -/
def d0 : Word := 0x0100000000010100#64
def d1 (type : Nat) : Word := BitVec.ofNat 64 (0x13F06 + type * 2 ^ 20)

/-- Its seal. -/
@[irreducible] def sealNow (type : Nat) : Word := sealOf (Config.sealKey 0) d0 (d1 type) 0#64

/-- A byte of it. -/
@[irreducible] def sealByte (type i : Nat) : Byte := BitVec.ofNat 8 ((sealNow type).toNat / 256 ^ i)

/-- A groom rider with the capability at 0x10040, which x4 names, a ring at 0x10100, a valid context 0, and its page held by the units of die 0. -/
def tring (type : Nat) (x6 : Word) (ring : Memory) : State :=
  let m : Memory := [(0x10041, 1#8), (0x10042, 1#8), (0x10047, 1#8), (0x10048, 6#8), (0x10049, 0x3F#8), (0x1004A, BitVec.ofNat 8 (16 * type + 1)),
    (0x10058, sealByte type 0), (0x10059, sealByte type 1), (0x1005A, sealByte type 2), (0x1005B, sealByte type 3), (0x1005C, sealByte type 4),
    (0x1005D, sealByte type 5), (0x1005E, sealByte type 6), (0x1005F, sealByte type 7)] ++ ring ++ [(0x11000, 1#8)]
  let s := withStatus (withX (withX (bare ts) 4#5 0x10040#64) 6#5 x6) 1#64
  let s := { s with mem := m, dies := [{ s.dieAt 0 with pad := [(552, 1#8), (553, 16#8), (554, 1#8)] }] }
  s.putStable { s.stableAt 300 with tlb := [{ ctx := 0, level := 3, vpn := 1, leaf := codeLeaf }] }

/-- A ring of one segment, empty; then further bytes. -/
def ringWith (l : Memory) : Memory := [(0x10161, 1#8), (0x10162, 1#8), (0x10168, 1#8)] ++ l

/-- The same with position 0 full. -/
def fullRing : Memory := [(0x10100, 1#8), (0x10161, 1#8), (0x10162, 1#8), (0x10168, 1#8), (0x10180, 1#8)]

/-- The last doubleword as memory holds it. -/
def sealBytes (type : Nat) : Nat := (sealByte type 0).toNat + 256 * ((sealByte type 1).toNat + 256 * ((sealByte type 2).toNat + 256 * ((sealByte type 3).toNat +
  256 * ((sealByte type 4).toNat + 256 * ((sealByte type 5).toNat + 256 * ((sealByte type 6).toNat + 256 * ((sealByte type 7).toNat + 256 * 0)))))))

theorem sealBytes_eq (type : Nat) : BitVec.ofNat 64 (sealBytes type) = sealNow type := by
  have h := bytes_of (sealNow type).toNat (sealNow type).isLt
  unfold sealBytes sealByte
  rw [h, BitVec.ofNat_toNat, BitVec.setWidth_eq]

/-- The capability as it is presented. -/
def capNow (type : Nat) : Cap := capOf d0 (d1 type) 0#64 (sealNow type)

/-- The seal is no part of the form, the generation, the owner and the rights. -/
theorem cap_form (a b c d e : Word) : (capOf a b c d).formOk = (capOf a b c e).formOk := rfl
theorem cap_gen (a b c d e : Word) : (capOf a b c d).gen = (capOf a b c e).gen := rfl
theorem cap_owner (a b c d e : Word) : (capOf a b c d).owner = (capOf a b c e).owner := rfl
theorem cap_has (a b c d e : Word) : (capOf a b c d).has = (capOf a b c e).has := rfl
theorem cap_tag (a b c d : Word) : (capOf a b c d).tag = d := rfl

/-- The seal of the key that is drawn. -/
theorem sealNow_eq (s : State) (type : Nat) (he : s.epoch = 0) : sealNow type = sealOf (Config.sealKey s.epoch) d0 (d1 type) 0#64 := by
  rw [he]; unfold sealNow; rfl

/-- The checks of a capability that succeed. -/
theorem capFails_none {s : State} {a b c z : Word} {need : List Right} (hf : (capOf a b c z).formOk = true)
    (hg : ¬ (capOf a b c z).gen < s.floorOf (capOf a b c z).owner) (hn : need.all (capOf a b c z).has = true)
    (ht : z = sealOf (Config.sealKey s.epoch) a b c) : s.capFails a b c z need = none := by
  unfold State.capFails
  rw [← ht]
  simp only [hf, cap_tag, beq_self_eq_true, Bool.and_self, Bool.not_true, Bool.false_eq_true, if_false, hg, hn, if_true]

/-- A capability that is read and passes the checks is presented. -/
theorem present_ok {s t : State} {w : Who} {x a b c z : Word} {need : List Right} (hr : s.readCap w x = .ok (a, b, c, z) t)
    (hc : t.capFails a b c z need = none) : s.presentCap w x need = .ok (capOf a b c z) t := by
  unfold State.presentCap
  rw [hr]
  simp only [Res.bind, hc]

/-- The checks do not depend on the seal. -/
theorem checks_of {s : State} {a b c z : Word} {need : List Right} (hf : (capOf a b c 0#64).formOk = true)
    (hg : ¬ (capOf a b c 0#64).gen < s.floorOf (capOf a b c 0#64).owner) (hn : need.all (capOf a b c 0#64).has = true)
    (ht : z = sealOf (Config.sealKey s.epoch) a b c) : s.capFails a b c z need = none :=
  capFails_none (cap_form a b c 0#64 z ▸ hf) (by rw [cap_gen a b c z 0#64, cap_owner a b c z 0#64]; exact hg) (by rw [cap_has a b c z 0#64]; exact hn) ht

/-- A state that reads those doublewords presents the capability with success. -/
theorem present_of {s t : State} {w : Who} {type : Nat} {a : Word} {need : List Right} (he : t.epoch = 0)
    (hr : s.readCap w a = .ok (d0, d1 type, 0#64, BitVec.ofNat 64 (sealBytes type)) t)
    (hf : (capOf d0 (d1 type) 0#64 0#64).formOk = true)
    (hg : ¬ (capOf d0 (d1 type) 0#64 0#64).gen < t.floorOf (capOf d0 (d1 type) 0#64 0#64).owner)
    (hn : need.all (capOf d0 (d1 type) 0#64 0#64).has = true) :
    s.presentCap w a need = .ok (capNow type) t := by
  rw [sealBytes_eq] at hr
  exact present_ok hr (checks_of hf hg hn (sealNow_eq t type he))

/-- O24: a push into an empty ring. -/
theorem witness_QueueInstructionResults_qpush :
    (State.hart (tring 1 0x10000#64 (ringWith []))).memHeld 0x10040 32 = false ∧ Ready (tring 1 0x10000#64 (ringWith [])) .qpush (wordQpush { d := 8#5, a := 4#5, b := 6#5 }) ∧ State.presentCap (tring 1 0x10000#64 (ringWith [])) (State.hartWho (tring 1 0x10000#64 (ringWith [])) false) 0x10040#64 [.push] = .ok (capNow 1) (tring 1 0x10000#64 (ringWith [])) ∧
    (State.hart (tring 1 0x10000#64 (ringWith []))).memHeld 0x10000 (8 * (2 ^ (capNow 1).lgsize / 8 - 1)) = false ∧
    ∃ l u q v, State.loadWords (tring 1 0x10000#64 (ringWith [])) (State.hartWho (tring 1 0x10000#64 (ringWith [])) false) 0x10000 (2 ^ (capNow 1).lgsize / 8 - 1) = .ok l u ∧ u.hart.released = true ∧
      u.ringPush (u.hartWho false) (capNow 1) l = .ok q v :=
  ⟨by rfl, ready_one (by decide), present_of (by rfl) (by rfl) (by decide) (by decide) (by decide), by rfl, ⟨_, _, _, _, by rfl, by rfl, by rfl⟩⟩

theorem witness_QueueInstructionResults_qpop_empty :
    Ready (tring 1 0x10200#64 (ringWith [])) .qpop (wordQpop { d := 8#5, a := 4#5, b := 6#5 }) ∧ Ready (tring 1 0x10200#64 (ringWith [])) .qpeek (wordQpeek { d := 8#5, a := 4#5, b := 6#5 }) ∧ State.presentCap (tring 1 0x10200#64 (ringWith [])) (State.hartWho (tring 1 0x10200#64 (ringWith [])) false) 0x10040#64 [.pop] = .ok (capNow 1) (tring 1 0x10200#64 (ringWith [])) ∧
    (0x10200#64 : Word).toNat % 8 < (capNow 1).ncons ∧ (State.hart (tring 1 0x10200#64 (ringWith []))).memHeld 0x10200 (2 ^ (capNow 1).lgsize - 8) = false ∧ (State.hart (tring 1 0x10200#64 (ringWith []))).fencedAhead = false ∧
    ∃ who home u, State.ringOpen (tring 1 0x10200#64 (ringWith [])) (State.hartWho (tring 1 0x10200#64 (ringWith [])) false) (capNow 1) = .ok (who, home) u ∧ ∃ v, u.ringPeek who (capNow 1) 0 = .ok none v :=
  ⟨ready_one (by decide), ready_one (by decide), present_of (by rfl) (by rfl) (by decide) (by decide) (by decide), by decide, by rfl, by rfl, ⟨_, _, _, by rfl, ⟨_, by rfl⟩⟩⟩

theorem witness_QueueInstructionResults_qpop_full :
    Ready (tring 1 0x10200#64 (fullRing)) .qpop (wordQpop { d := 8#5, a := 4#5, b := 6#5 }) ∧ Ready (tring 1 0x10200#64 (fullRing)) .qpeek (wordQpeek { d := 8#5, a := 4#5, b := 6#5 }) ∧ State.presentCap (tring 1 0x10200#64 (fullRing)) (State.hartWho (tring 1 0x10200#64 (fullRing)) false) 0x10040#64 [.pop] = .ok (capNow 1) (tring 1 0x10200#64 (fullRing)) ∧
    (0x10200#64 : Word).toNat % 8 < (capNow 1).ncons ∧ (State.hart (tring 1 0x10200#64 (fullRing))).memHeld 0x10200 (2 ^ (capNow 1).lgsize - 8) = false ∧ (State.hart (tring 1 0x10200#64 (fullRing))).fencedAhead = false ∧
    ∃ who home u, State.ringOpen (tring 1 0x10200#64 (fullRing)) (State.hartWho (tring 1 0x10200#64 (fullRing)) false) (capNow 1) = .ok (who, home) u ∧ ∃ pos slot l v v' v2, u.ringPeek who (capNow 1) 0 = .ok (some (pos, slot, l)) v ∧ v.storeWords (v.hartWho false) 0x10200 l = .ok () v' ∧ v'.ringTake who (capNow 1) 0 pos = .ok () v2 :=
  ⟨ready_one (by decide), ready_one (by decide), present_of (by rfl) (by rfl) (by decide) (by decide) (by decide), by decide, by rfl, by rfl, ⟨_, _, _, by rfl, ⟨_, _, _, _, _, _, by rfl, by rfl, by rfl⟩⟩⟩

theorem witness_QueueInstructionResults_consumer :
    (capNow 1).ncons ≤ (0x10201#64 : Word).toNat % 8 :=
  by decide

theorem witness_QueueInstructionResults_admin :
    (∀ p ∈ [(Row.qwake, wordQwake { d := 8#5, a := 4#5, b := 6#5 }), (Row.qrevoke, wordQrevoke { d := 8#5, a := 4#5, b := 6#5 }), (Row.qgrow, wordQgrow { d := 8#5, a := 4#5, b := 6#5 }), (Row.nsub, wordNsub { d := 8#5, a := 4#5, b := 6#5 })], Ready (tring 1 1#64 (fullRing)) p.1 p.2) ∧ State.hostFn (tring 1 1#64 (fullRing)) 5 = false ∧ (State.hart (tring 1 1#64 (fullRing))).memHeld 0x10040 32 = false ∧ (∀ n ∈ [[Right.wake], [.admin], [.grow], [.push, .wake]], State.presentCap (tring 1 1#64 (fullRing)) (State.hartWho (tring 1 1#64 (fullRing)) false) 0x10040#64 n = .ok (capNow 1) (tring 1 1#64 (fullRing))) ∧
    ∃ ok u, State.ringWake (tring 1 1#64 (fullRing)) (State.hartWho (tring 1 1#64 (fullRing)) false) (capNow 1) 1 = .ok ok u :=
  ⟨ready_of (by decide), by rfl, by rfl, by
    intro n hn
    simp only [List.mem_cons, List.not_mem_nil, or_false] at hn
    rcases hn with rfl | rfl | rfl | rfl <;> exact present_of (by rfl) (by rfl) (by decide) (by decide) (by decide), ⟨_, _, by rfl⟩⟩

theorem witness_QueueInstructionResults_qgrow :
    2 ^ 56 ≤ (0x100000000000000#64 : Word).toNat ∧ ((0xFFFFFFFFFFFFFF#64 : Word).toNat < 2 ^ 56 ∧ (0xFFFFFFFFFFFFFF#64 : Word).toNat % 128 ≠ 0) ∧
    (0x10300#64 : Word).toNat % 128 = 0 ∧ ∃ n u, State.ringGrow (tring 1 0x10300#64 (ringWith [])) (State.hartWho (tring 1 0x10300#64 (ringWith [])) false) (capNow 1) 0x10300 = .ok n u :=
  ⟨by decide, by decide, by decide, ⟨_, _, by rfl⟩⟩

theorem witness_QueueInstructionResults_nsub_zero :
    Ready (tring 1 0x10300#64 (ringWith [])) .nsub (wordNsub { d := 8#5, a := 4#5, b := 6#5 }) ∧ State.presentCap (tring 1 0x10300#64 (ringWith [])) (State.hartWho (tring 1 0x10300#64 (ringWith [])) false) 0x10040#64 [.push, .wake] = .ok (capNow 1) (tring 1 0x10300#64 (ringWith [])) ∧ (capNow 1).type = 1 ∧
    (State.hart (tring 1 0x10300#64 (ringWith []))).memHeld 0x10300 32 = false ∧ ∃ w0 w1 w2 w3 u, State.loadWords (tring 1 0x10300#64 (ringWith [])) (State.hartWho (tring 1 0x10300#64 (ringWith [])) false) 0x10300 4 = .ok [w0, w1, w2, w3] u ∧ w1 = 0 :=
  ⟨ready_one (by decide), present_of (by rfl) (by rfl) (by decide) (by decide) (by decide), by decide, by rfl, ⟨_, _, _, _, _, by rfl, by decide⟩⟩

theorem witness_QueueInstructionResults_nsub_one :
    Ready (tring 1 0x10300#64 (ringWith [(0x10308, 1#8)])) .nsub (wordNsub { d := 8#5, a := 4#5, b := 6#5 }) ∧ State.presentCap (tring 1 0x10300#64 (ringWith [(0x10308, 1#8)])) (State.hartWho (tring 1 0x10300#64 (ringWith [(0x10308, 1#8)])) false) 0x10040#64 [.push, .wake] = .ok (capNow 1) (tring 1 0x10300#64 (ringWith [(0x10308, 1#8)])) ∧ (capNow 1).type = 1 ∧
    (State.hart (tring 1 0x10300#64 (ringWith [(0x10308, 1#8)]))).memHeld 0x10300 32 = false ∧ ∃ w0 w1 w2 w3 u, State.loadWords (tring 1 0x10300#64 (ringWith [(0x10308, 1#8)])) (State.hartWho (tring 1 0x10300#64 (ringWith [(0x10308, 1#8)])) false) 0x10300 4 = .ok [w0, w1, w2, w3] u ∧ w1 = 1 ∧ u.hart.released = true ∧
      ∃ n v ok y, u.ringPush (u.hartWho false) (capNow 1) ([w0, w1, w2, w3] ++ List.replicate (2 ^ (capNow 1).lgsize / 8 - 5) 0) = .ok (some n) v ∧ v.ringWake (v.hartWho false) (capNow 1) (n + 1) = .ok ok y :=
  ⟨ready_one (by decide), present_of (by rfl) (by rfl) (by decide) (by decide) (by decide), by decide, by rfl, ⟨_, _, _, _, _, by rfl, by decide, by rfl, ⟨_, _, _, _, by rfl, by rfl⟩⟩⟩

theorem witness_QueueInstructionResults_nsub_most :
    Ready (tring 1 0x10300#64 (ringWith [(0x1030B, 1#8)])) .nsub (wordNsub { d := 8#5, a := 4#5, b := 6#5 }) ∧ State.presentCap (tring 1 0x10300#64 (ringWith [(0x1030B, 1#8)])) (State.hartWho (tring 1 0x10300#64 (ringWith [(0x1030B, 1#8)])) false) 0x10040#64 [.push, .wake] = .ok (capNow 1) (tring 1 0x10300#64 (ringWith [(0x1030B, 1#8)])) ∧ (capNow 1).type = 1 ∧
    (State.hart (tring 1 0x10300#64 (ringWith [(0x1030B, 1#8)]))).memHeld 0x10300 32 = false ∧ ∃ w0 w1 w2 w3 u, State.loadWords (tring 1 0x10300#64 (ringWith [(0x1030B, 1#8)])) (State.hartWho (tring 1 0x10300#64 (ringWith [(0x1030B, 1#8)])) false) 0x10300 4 = .ok [w0, w1, w2, w3] u ∧ w1 = 2 ^ 24 ∧ u.hart.released = true ∧
      ∃ n v ok y, u.ringPush (u.hartWho false) (capNow 1) ([w0, w1, w2, w3] ++ List.replicate (2 ^ (capNow 1).lgsize / 8 - 5) 0) = .ok (some n) v ∧ v.ringWake (v.hartWho false) (capNow 1) (n + 1) = .ok ok y :=
  ⟨ready_one (by decide), present_of (by rfl) (by rfl) (by decide) (by decide) (by decide), by decide, by rfl, ⟨_, _, _, _, _, by rfl, by decide, by rfl, ⟨_, _, _, _, by rfl, by rfl⟩⟩⟩

theorem witness_QueueInstructionResults_nsub_beyond :
    Ready (tring 1 0x10300#64 (ringWith [(0x10308, 1#8), (0x1030B, 1#8)])) .nsub (wordNsub { d := 8#5, a := 4#5, b := 6#5 }) ∧ State.presentCap (tring 1 0x10300#64 (ringWith [(0x10308, 1#8), (0x1030B, 1#8)])) (State.hartWho (tring 1 0x10300#64 (ringWith [(0x10308, 1#8), (0x1030B, 1#8)])) false) 0x10040#64 [.push, .wake] = .ok (capNow 1) (tring 1 0x10300#64 (ringWith [(0x10308, 1#8), (0x1030B, 1#8)])) ∧ (capNow 1).type = 1 ∧
    (State.hart (tring 1 0x10300#64 (ringWith [(0x10308, 1#8), (0x1030B, 1#8)]))).memHeld 0x10300 32 = false ∧ ∃ w0 w1 w2 w3 u, State.loadWords (tring 1 0x10300#64 (ringWith [(0x10308, 1#8), (0x1030B, 1#8)])) (State.hartWho (tring 1 0x10300#64 (ringWith [(0x10308, 1#8), (0x1030B, 1#8)])) false) 0x10300 4 = .ok [w0, w1, w2, w3] u ∧ w1 = 2 ^ 24 + 1 :=
  ⟨ready_one (by decide), present_of (by rfl) (by rfl) (by decide) (by decide) (by decide), by decide, by rfl, ⟨_, _, _, _, _, by rfl, by decide⟩⟩

theorem witness_QueueInstructionResults_nsub_full :
    ∃ w0 w1 w2 w3 u v, State.loadWords (tring 1 0x10300#64 ([(0x10100, 2#8), (0x10159, 1#8), (0x1015A, 1#8), (0x10161, 1#8), (0x10162, 1#8), (0x10168, 1#8), (0x10308, 1#8)])) (State.hartWho (tring 1 0x10300#64 ([(0x10100, 2#8), (0x10159, 1#8), (0x1015A, 1#8), (0x10161, 1#8), (0x10162, 1#8), (0x10168, 1#8), (0x10308, 1#8)])) false) 0x10300 4 = .ok [w0, w1, w2, w3] u ∧ w1 = 1 ∧ u.hart.released = true ∧
    u.ringPush (u.hartWho false) (capNow 1) ([w0, w1, w2, w3] ++ List.replicate (2 ^ (capNow 1).lgsize / 8 - 5) 0) = .ok none v :=
  ⟨_, _, _, _, _, _, by rfl, by rfl, by rfl, by rfl⟩

theorem witness_QueueInstructionResults_nsub_type :
    Ready (tring 2 0x10300#64 (ringWith [])) .nsub (wordNsub { d := 8#5, a := 4#5, b := 6#5 }) ∧ State.presentCap (tring 2 0x10300#64 (ringWith [])) (State.hartWho (tring 2 0x10300#64 (ringWith [])) false) 0x10040#64 [.push, .wake] = .ok (capNow 2) (tring 2 0x10300#64 (ringWith [])) ∧ (capNow 2).type ≠ 1 :=
  ⟨ready_one (by decide), present_of (by rfl) (by rfl) (by decide) (by decide) (by decide), by decide⟩

theorem witness_QueueInstructionResults_qseal :
    (Ready (tring 1 0#64 (ringWith [])) .qseal (wordQseal { d := 8#5, a := 4#5 }) ∧ State.hostFn (tring 1 0#64 (ringWith [])) 5 = false ∧ (State.hart (tring 1 0#64 (ringWith []))).memHeld 0x10040 32 = false ∧ (State.hart (tring 1 0#64 (ringWith []))).fencedAhead = false ∧
      State.readCap (tring 1 0#64 (ringWith [])) (State.hartWho (tring 1 0#64 (ringWith [])) false) 0x10040#64 = .ok (d0, d1 1, 0#64, BitVec.ofNat 64 (sealBytes 1)) (tring 1 0#64 (ringWith [])) ∧ (capOf d0 (d1 1) 0#64 (BitVec.ofNat 64 (sealBytes 1))).formOk = true ∧
      ∃ u, State.storeRaw (tring 1 0#64 (ringWith [])) (0x10040 + 24) 8 8 (sealOf (Config.sealKey (State.epoch (tring 1 0#64 (ringWith [])))) d0 (d1 1) 0#64).toNat false = .ok () u) ∧
    (Ready (withStatus (bare tx) 1#64) .qseal (wordQseal { d := 8#5, a := 4#5 }) ∧ State.hostFn (withStatus (bare tx) 1#64) 5 = false ∧ (State.hart (withStatus (bare tx) 1#64)).memHeld 0x10040 32 = false ∧ (State.hart (withStatus (bare tx) 1#64)).fencedAhead = false ∧ State.readCap (withStatus (bare tx) 1#64) (State.hartWho (withStatus (bare tx) 1#64) false) 0x10040#64 = .ok (0#64, 0#64, 0#64, 0#64) (withStatus (bare tx) 1#64) ∧
      (capOf 0#64 0#64 0#64 0#64).formOk = false) :=
  ⟨⟨ready_one (by decide), by rfl, by rfl, by rfl, by rfl, by rfl, ⟨_, by rfl⟩⟩, ⟨ready_one (by decide), by rfl, by rfl, by rfl, by rfl, by decide⟩⟩

/-- O25: no byte; the least count that is too great; beyond the address space; the last byte of local memory. -/
theorem witness_CopyResults :
    ∀ s ∈ [(withX (withX (withX ts 8#5 0#64) 4#5 0#64) 6#5 0#64), (withX (withX (withX ts 8#5 0#64) 4#5 0#64) 6#5 0x10000000000#64), (withX (withX (withX ts 8#5 0xFFFFFFFFFFFFFF#64) 4#5 0#64) 6#5 2#64), (withX (withX (withX ts 8#5 0xFDFFFFFFFFFFFF#64) 4#5 0#64) 6#5 1#64)], s.hart.queue = [] ∧ s.hart.bridle.length < 16 ∧ (∀ p ∈ [(Row.cpy, wordCpy { d := 8#5, a := 4#5, b := 6#5 }), (Row.cpyfill, wordCpyfill { d := 8#5, a := 4#5, b := 6#5 })], Ready s p.1 p.2) :=
  by
  intro s hs
  simp only [List.mem_cons, List.not_mem_nil, or_false] at hs
  rcases hs with rfl | rfl | rfl | rfl <;> exact ⟨by rfl, by decide, ready_of (by decide)⟩

theorem witness_CopyResults_ranges :
    2 ^ 40 ≤ (0x10000000000#64 : Word).toNat ∧ 2 ^ 56 < (0xFFFFFFFFFFFFFF#64 : Word).toNat + 2 ∧ (0xFDFFFFFFFFFFFF#64 : Word).toNat + 1 ≤ 254 * 2 ^ 48 ∧ 2 ^ 56 ≤ (0x100000000000000#64 : Word).toNat ∧ (0x10041#64 : Word).toNat % 64 ≠ 0 :=
  by decide

theorem witness_CopyResults_table :
    Ready (bare tx) .cpybt (wordCpybt { a := 4#5 }) ∧ (0x10040#64 : Word).toNat % 64 = 0 ∧ (bare tx).hart.memHeld 0x10040 64 = false ∧
    (∃ d t, State.loadWords (bare tx) ((bare tx).hartWho false) 0x10040 8 = .ok d t ∧ t.hart = (bare tx).hart ∧ (blockDesc d).ok = false) ∧
    (∃ d t, State.loadWords { bare tx with mem := [(0x10048, 1#8), (0x1004C, 7#8)] } ((bare tx).hartWho false) 0x10040 8 = .ok d t ∧ t.hart = (bare tx).hart ∧ (blockDesc d).ok = true ∧ (blockDesc d).mode = 0) :=
  ⟨ready_one (by decide), by decide, by rfl, ⟨_, _, by rfl, by rfl, by decide⟩, ⟨_, _, by rfl, by rfl, by decide, by decide⟩⟩

/-! ## Vector instructions -/

/-- Two elements of the width that the code `sew` says. -/
def tv (sew : Nat) : State := withV tx sew 2 0#64

/-- A hart with no flag enabled never stops for flags. -/
theorem noTrap_of {h : Hart} (hf : h.fen = 0#6) (k : KReg) (g : Nat → Flags) : h.noTrap k g := by
  intro p _
  simp [flagStop, enabledCause, hf]

/-- The first two elements are active, and no other. -/
theorem two_active (sew : Nat) (p : Nat) (h : (tv sew).hart.count = 2) (ha : (tv sew).hart.active 0#3 p = true) : p = 0 ∨ p = 1 := by
  have := active_lt ha
  omega

/-- O26. -/
theorem witness_VectorIntegerResults :
    (tv 2).hart.fits ∧ (tv 2).hart.sew = 2 ∧ (tv 2).hart.vstart = 0 ∧ (tv 2).hart.active 0#3 1 = true ∧ (∀ g, (tv 2).hart.noTrap 0#3 g) ∧ ∀ p ∈ [(Row.vaddVV, wordVaddVV { d := 8#5, a := 4#5, b := 6#5, c := 0#1, e := 0#1, k := 0#3 }), (Row.vsubVV, wordVsubVV { d := 8#5, a := 4#5, b := 6#5, c := 0#1, e := 0#1, k := 0#3 }), (Row.vrsubVV, wordVrsubVV { d := 8#5, a := 4#5, b := 6#5, c := 0#1, e := 0#1, k := 0#3 }), (Row.vmulVV, wordVmulVV { d := 8#5, a := 4#5, b := 6#5, c := 0#1, e := 0#1, k := 0#3 }), (Row.vmulhVV, wordVmulhVV { d := 8#5, a := 4#5, b := 6#5, c := 0#1, e := 0#1, k := 0#3 }), (Row.vmulhnVV, wordVmulhnVV { d := 8#5, a := 4#5, b := 6#5, c := 0#1, e := 0#1, k := 0#3 }), (Row.vandVV, wordVandVV { d := 8#5, a := 4#5, b := 6#5, c := 0#1, e := 0#1, k := 0#3 }), (Row.vorVV, wordVorVV { d := 8#5, a := 4#5, b := 6#5, c := 0#1, e := 0#1, k := 0#3 }), (Row.vxorVV, wordVxorVV { d := 8#5, a := 4#5, b := 6#5, c := 0#1, e := 0#1, k := 0#3 }), (Row.vsllVV, wordVsllVV { d := 8#5, a := 4#5, b := 6#5, c := 0#1, e := 0#1, k := 0#3 }), (Row.vsrlVV, wordVsrlVV { d := 8#5, a := 4#5, b := 6#5, c := 0#1, e := 0#1, k := 0#3 }), (Row.vsraVV, wordVsraVV { d := 8#5, a := 4#5, b := 6#5, c := 0#1, e := 0#1, k := 0#3 }), (Row.vminVV, wordVminVV { d := 8#5, a := 4#5, b := 6#5, c := 0#1, e := 0#1, k := 0#3 }), (Row.vmaxVV, wordVmaxVV { d := 8#5, a := 4#5, b := 6#5, c := 0#1, e := 0#1, k := 0#3 }), (Row.vminnVV, wordVminnVV { d := 8#5, a := 4#5, b := 6#5, c := 0#1, e := 0#1, k := 0#3 }), (Row.vmaxnVV, wordVmaxnVV { d := 8#5, a := 4#5, b := 6#5, c := 0#1, e := 0#1, k := 0#3 }), (Row.vaddVX, wordVaddVX { d := 8#5, a := 4#5, b := 6#5, c := 0#1, k := 0#3 }), (Row.vsubVX, wordVsubVX { d := 8#5, a := 4#5, b := 6#5, c := 0#1, k := 0#3 }), (Row.vrsubVX, wordVrsubVX { d := 8#5, a := 4#5, b := 6#5, c := 0#1, k := 0#3 }), (Row.vmulVX, wordVmulVX { d := 8#5, a := 4#5, b := 6#5, c := 0#1, k := 0#3 }), (Row.vmulhVX, wordVmulhVX { d := 8#5, a := 4#5, b := 6#5, c := 0#1, k := 0#3 }), (Row.vmulhnVX, wordVmulhnVX { d := 8#5, a := 4#5, b := 6#5, c := 0#1, k := 0#3 }), (Row.vandVX, wordVandVX { d := 8#5, a := 4#5, b := 6#5, c := 0#1, k := 0#3 }), (Row.vorVX, wordVorVX { d := 8#5, a := 4#5, b := 6#5, c := 0#1, k := 0#3 }), (Row.vxorVX, wordVxorVX { d := 8#5, a := 4#5, b := 6#5, c := 0#1, k := 0#3 }), (Row.vsllVX, wordVsllVX { d := 8#5, a := 4#5, b := 6#5, c := 0#1, k := 0#3 }), (Row.vsrlVX, wordVsrlVX { d := 8#5, a := 4#5, b := 6#5, c := 0#1, k := 0#3 }), (Row.vsraVX, wordVsraVX { d := 8#5, a := 4#5, b := 6#5, c := 0#1, k := 0#3 }), (Row.vminVX, wordVminVX { d := 8#5, a := 4#5, b := 6#5, c := 0#1, k := 0#3 }), (Row.vmaxVX, wordVmaxVX { d := 8#5, a := 4#5, b := 6#5, c := 0#1, k := 0#3 }), (Row.vminnVX, wordVminnVX { d := 8#5, a := 4#5, b := 6#5, c := 0#1, k := 0#3 }), (Row.vmaxnVX, wordVmaxnVX { d := 8#5, a := 4#5, b := 6#5, c := 0#1, k := 0#3 }), (Row.vaddVI, wordVaddVI { d := 8#5, a := 4#5, i := 0#5, c := 0#1, k := 0#3 }), (Row.vsubVI, wordVsubVI { d := 8#5, a := 4#5, i := 0#5, c := 0#1, k := 0#3 }), (Row.vrsubVI, wordVrsubVI { d := 8#5, a := 4#5, i := 0#5, c := 0#1, k := 0#3 }), (Row.vmulVI, wordVmulVI { d := 8#5, a := 4#5, i := 0#5, c := 0#1, k := 0#3 }), (Row.vmulhVI, wordVmulhVI { d := 8#5, a := 4#5, i := 0#5, c := 0#1, k := 0#3 }), (Row.vmulhnVI, wordVmulhnVI { d := 8#5, a := 4#5, i := 0#5, c := 0#1, k := 0#3 }), (Row.vandVI, wordVandVI { d := 8#5, a := 4#5, i := 0#5, c := 0#1, k := 0#3 }), (Row.vorVI, wordVorVI { d := 8#5, a := 4#5, i := 0#5, c := 0#1, k := 0#3 }), (Row.vxorVI, wordVxorVI { d := 8#5, a := 4#5, i := 0#5, c := 0#1, k := 0#3 }), (Row.vminVI, wordVminVI { d := 8#5, a := 4#5, i := 0#5, c := 0#1, k := 0#3 }), (Row.vmaxVI, wordVmaxVI { d := 8#5, a := 4#5, i := 0#5, c := 0#1, k := 0#3 }), (Row.vminnVI, wordVminnVI { d := 8#5, a := 4#5, i := 0#5, c := 0#1, k := 0#3 }), (Row.vmaxnVI, wordVmaxnVI { d := 8#5, a := 4#5, i := 0#5, c := 0#1, k := 0#3 }), (Row.vsllVI, wordVsllVI { d := 8#5, a := 4#5, i := 0#5, c := 0#1, k := 0#3 }), (Row.vsrlVI, wordVsrlVI { d := 8#5, a := 4#5, i := 0#5, c := 0#1, k := 0#3 }), (Row.vsraVI, wordVsraVI { d := 8#5, a := 4#5, i := 0#5, c := 0#1, k := 0#3 })], VReady (tv 2) p.1 p.2 :=
  ⟨by unfold Hart.fits; decide, by decide, by rfl, by decide, noTrap_of (by decide) 0#3, vready_of (by decide) (by decide)⟩

/-- O27. -/
theorem witness_VectorSaturatingResults :
    (tv 2).hart.fits ∧ (tv 2).hart.sew = 2 ∧ (tv 2).hart.vstart = 0 ∧ (tv 2).hart.active 0#3 1 = true ∧ (∀ g, (tv 2).hart.noTrap 0#3 g) ∧ ∀ p ∈ [(Row.vsaddVV, wordVsaddVV { d := 8#5, a := 4#5, b := 6#5, c := 0#1, e := 0#1, k := 0#3 }), (Row.vssubVV, wordVssubVV { d := 8#5, a := 4#5, b := 6#5, c := 0#1, e := 0#1, k := 0#3 }), (Row.vsaddnVV, wordVsaddnVV { d := 8#5, a := 4#5, b := 6#5, c := 0#1, e := 0#1, k := 0#3 }), (Row.vssubnVV, wordVssubnVV { d := 8#5, a := 4#5, b := 6#5, c := 0#1, e := 0#1, k := 0#3 }), (Row.vavgVV, wordVavgVV { d := 8#5, a := 4#5, b := 6#5, c := 0#1, e := 0#1, k := 0#3 }), (Row.vavgnVV, wordVavgnVV { d := 8#5, a := 4#5, b := 6#5, c := 0#1, e := 0#1, k := 0#3 }), (Row.vmaccVV, wordVmaccVV { d := 8#5, a := 4#5, b := 6#5, c := 0#1, e := 0#1, k := 0#3 }), (Row.vnmsacVV, wordVnmsacVV { d := 8#5, a := 4#5, b := 6#5, c := 0#1, e := 0#1, k := 0#3 }), (Row.vsaddVX, wordVsaddVX { d := 8#5, a := 4#5, b := 6#5, c := 0#1, k := 0#3 }), (Row.vssubVX, wordVssubVX { d := 8#5, a := 4#5, b := 6#5, c := 0#1, k := 0#3 }), (Row.vsaddnVX, wordVsaddnVX { d := 8#5, a := 4#5, b := 6#5, c := 0#1, k := 0#3 }), (Row.vssubnVX, wordVssubnVX { d := 8#5, a := 4#5, b := 6#5, c := 0#1, k := 0#3 }), (Row.vavgVX, wordVavgVX { d := 8#5, a := 4#5, b := 6#5, c := 0#1, k := 0#3 }), (Row.vavgnVX, wordVavgnVX { d := 8#5, a := 4#5, b := 6#5, c := 0#1, k := 0#3 }), (Row.vmaccVX, wordVmaccVX { d := 8#5, a := 4#5, b := 6#5, c := 0#1, k := 0#3 }), (Row.vnmsacVX, wordVnmsacVX { d := 8#5, a := 4#5, b := 6#5, c := 0#1, k := 0#3 }), (Row.vabs, wordVabs { d := 8#5, b := 6#5, e := 0#1, k := 0#3 }), (Row.vneg, wordVneg { d := 8#5, b := 6#5, e := 0#1, k := 0#3 }), (Row.vpopc, wordVpopc { d := 8#5, b := 6#5, e := 0#1, k := 0#3 }), (Row.vclz, wordVclz { d := 8#5, b := 6#5, e := 0#1, k := 0#3 })], VReady (tv 2) p.1 p.2 :=
  ⟨by unfold Hart.fits; decide, by decide, by rfl, by decide, noTrap_of (by decide) 0#3, vready_of (by decide) (by decide)⟩

/-- O28: no flag is enabled; then, with its flag enabled, element 1 is the first to divide by zero. -/
theorem witness_VectorDivisionResults :
    (tv 2).hart.fits ∧ (tv 2).hart.sew = 2 ∧ (tv 2).hart.vstart = 0 ∧ (tv 2).hart.active 0#3 1 = true ∧ (∀ g, (tv 2).hart.noTrap 0#3 g) ∧ ∀ p ∈ [(Row.vdivVV, wordVdivVV { d := 8#5, a := 4#5, b := 6#5, c := 0#1, e := 0#1, k := 0#3 }), (Row.vdivnVV, wordVdivnVV { d := 8#5, a := 4#5, b := 6#5, c := 0#1, e := 0#1, k := 0#3 }), (Row.vremVV, wordVremVV { d := 8#5, a := 4#5, b := 6#5, c := 0#1, e := 0#1, k := 0#3 }), (Row.vremnVV, wordVremnVV { d := 8#5, a := 4#5, b := 6#5, c := 0#1, e := 0#1, k := 0#3 }), (Row.vdivVX, wordVdivVX { d := 8#5, a := 4#5, b := 6#5, c := 0#1, k := 0#3 }), (Row.vdivnVX, wordVdivnVX { d := 8#5, a := 4#5, b := 6#5, c := 0#1, k := 0#3 }), (Row.vremVX, wordVremVX { d := 8#5, a := 4#5, b := 6#5, c := 0#1, k := 0#3 }), (Row.vremnVX, wordVremnVX { d := 8#5, a := 4#5, b := 6#5, c := 0#1, k := 0#3 })], VReady (tv 2) p.1 p.2 :=
  ⟨by unfold Hart.fits; decide, by decide, by rfl, by decide, noTrap_of (by decide) 0#3, vready_of (by decide) (by decide)⟩

theorem witness_VectorDivisionResults_trap :
    VReady (withFen (withVreg (withVreg (tv 0) 6#5 1) 4#5 0x0707) 0x20#64) .vdivVV (wordVdivVV { d := 8#5, a := 4#5, b := 6#5, c := 0#1, e := 0#1, k := 0#3 }) ∧ (State.hart (withFen (withVreg (withVreg (tv 0) 6#5 1) 4#5 0x0707) 0x20#64)).active 0#3 1 = true ∧ (State.hart (withFen (withVreg (withVreg (tv 0) 6#5 1) 4#5 0x0707) 0x20#64)).el 6#5 8 1 = 0 ∧ (∃ c, flagStop (State.hart (withFen (withVreg (withVreg (tv 0) 6#5 1) 4#5 0x0707) 0x20#64)).fen flagIdz 1 = some c) ∧ ∀ q, q < 1 → flagStop (State.hart (withFen (withVreg (withVreg (tv 0) 6#5 1) 4#5 0x0707) 0x20#64)).fen noFlags q = none :=
  ⟨vready_one (by decide +kernel) (by decide +kernel), by decide +kernel, by decide +kernel, ⟨_, by rfl⟩, fun q _ => by simp [flagStop, enabledCause, noFlags]⟩

/-- O29. -/
theorem witness_VectorWidthChangeResults :
    (tv 2).hart.fits ∧ (tv 2).hart.sew = 2 ∧ (tv 2).hart.vstart = 0 ∧ (tv 2).hart.active 0#3 1 = true ∧ (∀ g, (tv 2).hart.noTrap 0#3 g) ∧ ∀ p ∈ [(Row.vwaddVV, wordVwaddVV { d := 8#5, a := 4#5, b := 6#5, c := 0#1, e := 0#1, k := 0#3 }), (Row.vwaddnVV, wordVwaddnVV { d := 8#5, a := 4#5, b := 6#5, c := 0#1, e := 0#1, k := 0#3 }), (Row.vwsubVV, wordVwsubVV { d := 8#5, a := 4#5, b := 6#5, c := 0#1, e := 0#1, k := 0#3 }), (Row.vwsubnVV, wordVwsubnVV { d := 8#5, a := 4#5, b := 6#5, c := 0#1, e := 0#1, k := 0#3 }), (Row.vwmulVV, wordVwmulVV { d := 8#5, a := 4#5, b := 6#5, c := 0#1, e := 0#1, k := 0#3 }), (Row.vwmulnVV, wordVwmulnVV { d := 8#5, a := 4#5, b := 6#5, c := 0#1, e := 0#1, k := 0#3 }), (Row.vwmaccVV, wordVwmaccVV { d := 8#5, a := 4#5, b := 6#5, c := 0#1, e := 0#1, k := 0#3 }), (Row.vwmaccnVV, wordVwmaccnVV { d := 8#5, a := 4#5, b := 6#5, c := 0#1, e := 0#1, k := 0#3 }), (Row.vwaddVX, wordVwaddVX { d := 8#5, a := 4#5, b := 6#5, c := 0#1, k := 0#3 }), (Row.vwaddnVX, wordVwaddnVX { d := 8#5, a := 4#5, b := 6#5, c := 0#1, k := 0#3 }), (Row.vwsubVX, wordVwsubVX { d := 8#5, a := 4#5, b := 6#5, c := 0#1, k := 0#3 }), (Row.vwsubnVX, wordVwsubnVX { d := 8#5, a := 4#5, b := 6#5, c := 0#1, k := 0#3 }), (Row.vwmulVX, wordVwmulVX { d := 8#5, a := 4#5, b := 6#5, c := 0#1, k := 0#3 }), (Row.vwmulnVX, wordVwmulnVX { d := 8#5, a := 4#5, b := 6#5, c := 0#1, k := 0#3 }), (Row.vwmaccVX, wordVwmaccVX { d := 8#5, a := 4#5, b := 6#5, c := 0#1, k := 0#3 }), (Row.vwmaccnVX, wordVwmaccnVX { d := 8#5, a := 4#5, b := 6#5, c := 0#1, k := 0#3 }), (Row.vnsrlVV, wordVnsrlVV { d := 8#5, a := 4#5, b := 6#5, c := 0#1, e := 0#1, k := 0#3 }), (Row.vnsraVV, wordVnsraVV { d := 8#5, a := 4#5, b := 6#5, c := 0#1, e := 0#1, k := 0#3 }), (Row.vnclipVV, wordVnclipVV { d := 8#5, a := 4#5, b := 6#5, c := 0#1, e := 0#1, k := 0#3 }), (Row.vnclipnVV, wordVnclipnVV { d := 8#5, a := 4#5, b := 6#5, c := 0#1, e := 0#1, k := 0#3 }), (Row.vnsrlVX, wordVnsrlVX { d := 8#5, a := 4#5, b := 6#5, c := 0#1, k := 0#3 }), (Row.vnsraVX, wordVnsraVX { d := 8#5, a := 4#5, b := 6#5, c := 0#1, k := 0#3 }), (Row.vnclipVX, wordVnclipVX { d := 8#5, a := 4#5, b := 6#5, c := 0#1, k := 0#3 }), (Row.vnclipnVX, wordVnclipnVX { d := 8#5, a := 4#5, b := 6#5, c := 0#1, k := 0#3 })], VReady (tv 2) p.1 p.2 :=
  ⟨by unfold Hart.fits; decide, by decide, by rfl, by decide, noTrap_of (by decide) 0#3, vready_of (by decide) (by decide)⟩

/-- O30. -/
theorem witness_VectorFpResults :
    (tv 2).hart.fits ∧ (tv 2).hart.sew = 2 ∧ (tv 2).hart.vstart = 0 ∧ (tv 2).hart.active 0#3 1 = true ∧ (∀ g, (tv 2).hart.noTrap 0#3 g) ∧ ∀ p ∈ [(Row.vfaddVV, wordVfaddVV { d := 8#5, a := 4#5, b := 6#5, c := 0#1, e := 0#1, k := 0#3 }), (Row.vfsubVV, wordVfsubVV { d := 8#5, a := 4#5, b := 6#5, c := 0#1, e := 0#1, k := 0#3 }), (Row.vfrsubVV, wordVfrsubVV { d := 8#5, a := 4#5, b := 6#5, c := 0#1, e := 0#1, k := 0#3 }), (Row.vfmulVV, wordVfmulVV { d := 8#5, a := 4#5, b := 6#5, c := 0#1, e := 0#1, k := 0#3 }), (Row.vfdivVV, wordVfdivVV { d := 8#5, a := 4#5, b := 6#5, c := 0#1, e := 0#1, k := 0#3 }), (Row.vfrdivVV, wordVfrdivVV { d := 8#5, a := 4#5, b := 6#5, c := 0#1, e := 0#1, k := 0#3 }), (Row.vfminVV, wordVfminVV { d := 8#5, a := 4#5, b := 6#5, c := 0#1, e := 0#1, k := 0#3 }), (Row.vfmaxVV, wordVfmaxVV { d := 8#5, a := 4#5, b := 6#5, c := 0#1, e := 0#1, k := 0#3 }), (Row.vfsgnjVV, wordVfsgnjVV { d := 8#5, a := 4#5, b := 6#5, c := 0#1, e := 0#1, k := 0#3 }), (Row.vfsgnjnVV, wordVfsgnjnVV { d := 8#5, a := 4#5, b := 6#5, c := 0#1, e := 0#1, k := 0#3 }), (Row.vfsgnjxVV, wordVfsgnjxVV { d := 8#5, a := 4#5, b := 6#5, c := 0#1, e := 0#1, k := 0#3 }), (Row.vfaddVX, wordVfaddVX { d := 8#5, a := 4#5, b := 6#5, c := 0#1, k := 0#3 }), (Row.vfsubVX, wordVfsubVX { d := 8#5, a := 4#5, b := 6#5, c := 0#1, k := 0#3 }), (Row.vfrsubVX, wordVfrsubVX { d := 8#5, a := 4#5, b := 6#5, c := 0#1, k := 0#3 }), (Row.vfmulVX, wordVfmulVX { d := 8#5, a := 4#5, b := 6#5, c := 0#1, k := 0#3 }), (Row.vfdivVX, wordVfdivVX { d := 8#5, a := 4#5, b := 6#5, c := 0#1, k := 0#3 }), (Row.vfrdivVX, wordVfrdivVX { d := 8#5, a := 4#5, b := 6#5, c := 0#1, k := 0#3 }), (Row.vfminVX, wordVfminVX { d := 8#5, a := 4#5, b := 6#5, c := 0#1, k := 0#3 }), (Row.vfmaxVX, wordVfmaxVX { d := 8#5, a := 4#5, b := 6#5, c := 0#1, k := 0#3 }), (Row.vfsgnjVX, wordVfsgnjVX { d := 8#5, a := 4#5, b := 6#5, c := 0#1, k := 0#3 }), (Row.vfsgnjnVX, wordVfsgnjnVX { d := 8#5, a := 4#5, b := 6#5, c := 0#1, k := 0#3 }), (Row.vfsgnjxVX, wordVfsgnjxVX { d := 8#5, a := 4#5, b := 6#5, c := 0#1, k := 0#3 }), (Row.vfmaVV, wordVfmaVV { d := 8#5, a := 4#5, b := 6#5, c := 0#1, e := 0#1, k := 0#3 }), (Row.vfmsVV, wordVfmsVV { d := 8#5, a := 4#5, b := 6#5, c := 0#1, e := 0#1, k := 0#3 }), (Row.vfnmaVV, wordVfnmaVV { d := 8#5, a := 4#5, b := 6#5, c := 0#1, e := 0#1, k := 0#3 }), (Row.vfnmsVV, wordVfnmsVV { d := 8#5, a := 4#5, b := 6#5, c := 0#1, e := 0#1, k := 0#3 }), (Row.vfmaVX, wordVfmaVX { d := 8#5, a := 4#5, b := 6#5, c := 0#1, k := 0#3 }), (Row.vfmsVX, wordVfmsVX { d := 8#5, a := 4#5, b := 6#5, c := 0#1, k := 0#3 }), (Row.vfnmaVX, wordVfnmaVX { d := 8#5, a := 4#5, b := 6#5, c := 0#1, k := 0#3 }), (Row.vfnmsVX, wordVfnmsVX { d := 8#5, a := 4#5, b := 6#5, c := 0#1, k := 0#3 })], VReady (tv 2) p.1 p.2 :=
  ⟨by unfold Hart.fits; decide, by decide, by rfl, by decide, noTrap_of (by decide) 0#3, vready_of (by decide) (by decide)⟩

/-- O31. -/
theorem witness_VectorFpUnaryResults :
    (tv 2).hart.fits ∧ (tv 2).hart.sew = 2 ∧ (tv 2).hart.vstart = 0 ∧ (tv 2).hart.active 0#3 1 = true ∧ (∀ g, (tv 2).hart.noTrap 0#3 g) ∧ ∀ p ∈ [(Row.vfsqrt, wordVfsqrt { d := 8#5, b := 6#5, e := 0#1, k := 0#3, r := 0#4 }), (Row.vfrcp, wordVfrcp { d := 8#5, b := 6#5, e := 0#1, k := 0#3, r := 0#4 }), (Row.vfrsq, wordVfrsq { d := 8#5, b := 6#5, e := 0#1, k := 0#3, r := 0#4 }), (Row.vfexp2, wordVfexp2 { d := 8#5, b := 6#5, e := 0#1, k := 0#3, r := 0#4 }), (Row.vflog2, wordVflog2 { d := 8#5, b := 6#5, e := 0#1, k := 0#3, r := 0#4 }), (Row.vfsinp, wordVfsinp { d := 8#5, b := 6#5, e := 0#1, k := 0#3, r := 0#4 }), (Row.vfcosp, wordVfcosp { d := 8#5, b := 6#5, e := 0#1, k := 0#3, r := 0#4 }), (Row.vftanh, wordVftanh { d := 8#5, b := 6#5, e := 0#1, k := 0#3, r := 0#4 }), (Row.vfround, wordVfround { d := 8#5, b := 6#5, e := 0#1, k := 0#3, r := 0#4 }), (Row.vfabs, wordVfabs { d := 8#5, b := 6#5, e := 0#1, k := 0#3, r := 0#4 }), (Row.vfneg, wordVfneg { d := 8#5, b := 6#5, e := 0#1, k := 0#3, r := 0#4 }), (Row.vfclass, wordVfclass { d := 8#5, b := 6#5, e := 0#1, k := 0#3, r := 0#4 }), (Row.vffloor, wordVffloor { d := 8#5, b := 6#5, e := 0#1, k := 0#3, r := 0#4 }), (Row.vfceil, wordVfceil { d := 8#5, b := 6#5, e := 0#1, k := 0#3, r := 0#4 })], VReady (tv 2) p.1 p.2 :=
  ⟨by unfold Hart.fits; decide, by decide, by rfl, by decide, noTrap_of (by decide) 0#3, vready_of (by decide) (by decide)⟩

/-- O32: each width that a conversion asks for. -/
theorem witness_VectorConversionResults :
    (tv 2).hart.fits ∧ (tv 2).hart.sew = 2 ∧ (tv 2).hart.vstart = 0 ∧ (tv 2).hart.active 0#3 1 = true ∧ (∀ g, (tv 2).hart.noTrap 0#3 g) ∧ ∀ p ∈ [(Row.vcvtI32F32, wordVcvtI32F32 { d := 8#5, b := 6#5, e := 0#1, k := 0#3, s := 0#1, r := 0#3 }), (Row.vcvtN32F32, wordVcvtN32F32 { d := 8#5, b := 6#5, e := 0#1, k := 0#3, s := 0#1, r := 0#3 }), (Row.vcvtF32I32, wordVcvtF32I32 { d := 8#5, b := 6#5, e := 0#1, k := 0#3, s := 0#1, r := 0#3 }), (Row.vcvtF32N32, wordVcvtF32N32 { d := 8#5, b := 6#5, e := 0#1, k := 0#3, s := 0#1, r := 0#3 }), (Row.vcvtHF32, wordVcvtHF32 { d := 8#5, b := 6#5, e := 0#1, k := 0#3, s := 0#1, r := 0#3 }), (Row.vcvtBfF32, wordVcvtBfF32 { d := 8#5, b := 6#5, e := 0#1, k := 0#3, s := 0#1, r := 0#3 }), (Row.vcvtF32H, wordVcvtF32H { d := 8#5, b := 6#5, e := 0#1, k := 0#3, s := 0#1, r := 0#3 }), (Row.vcvtF32Bf, wordVcvtF32Bf { d := 8#5, b := 6#5, e := 0#1, k := 0#3, s := 0#1, r := 0#3 }), (Row.vcvtB8F32, wordVcvtB8F32 { d := 8#5, b := 6#5, e := 0#1, k := 0#3, s := 0#1, r := 0#3 }), (Row.vcvtF32B8, wordVcvtF32B8 { d := 8#5, b := 6#5, e := 0#1, k := 0#3, s := 0#1, r := 0#3 }), (Row.vcvtE4F32, wordVcvtE4F32 { d := 8#5, b := 6#5, e := 0#1, k := 0#3, s := 0#1, r := 0#3 }), (Row.vcvtF32E4, wordVcvtF32E4 { d := 8#5, b := 6#5, e := 0#1, k := 0#3, s := 0#1, r := 0#3 }), (Row.vcvtQ4F32, wordVcvtQ4F32 { d := 8#5, b := 6#5, e := 0#1, k := 0#3, s := 0#1, r := 0#3 }), (Row.vcvtF32Q4, wordVcvtF32Q4 { d := 8#5, b := 6#5, e := 0#1, k := 0#3, s := 0#1, r := 0#3 })], VReady (tv 2) p.1 p.2 :=
  ⟨by unfold Hart.fits; decide, by decide, by rfl, by decide, noTrap_of (by decide) 0#3, vready_of (by decide) (by decide)⟩

theorem witness_VectorConversionResults_64 :
    (tv 3).hart.fits ∧ (tv 3).hart.sew = 3 ∧ (tv 3).hart.vstart = 0 ∧ (tv 3).hart.active 0#3 1 = true ∧ (∀ g, (tv 3).hart.noTrap 0#3 g) ∧ ∀ p ∈ [(Row.vcvtI64F64, wordVcvtI64F64 { d := 8#5, b := 6#5, e := 0#1, k := 0#3, s := 0#1, r := 0#3 }), (Row.vcvtN64F64, wordVcvtN64F64 { d := 8#5, b := 6#5, e := 0#1, k := 0#3, s := 0#1, r := 0#3 }), (Row.vcvtF64I64, wordVcvtF64I64 { d := 8#5, b := 6#5, e := 0#1, k := 0#3, s := 0#1, r := 0#3 }), (Row.vcvtF64N64, wordVcvtF64N64 { d := 8#5, b := 6#5, e := 0#1, k := 0#3, s := 0#1, r := 0#3 }), (Row.vcvtF64F32, wordVcvtF64F32 { d := 8#5, b := 6#5, e := 0#1, k := 0#3, s := 0#1, r := 0#3 }), (Row.vcvtF32F64, wordVcvtF32F64 { d := 8#5, b := 6#5, e := 0#1, k := 0#3, s := 0#1, r := 0#3 })], VReady (tv 3) p.1 p.2 :=
  ⟨by unfold Hart.fits; decide, by decide, by rfl, by decide, noTrap_of (by decide) 0#3, vready_of (by decide) (by decide)⟩

theorem witness_VectorConversionResults_16 :
    (tv 1).hart.fits ∧ (tv 1).hart.sew = 1 ∧ (tv 1).hart.vstart = 0 ∧ (tv 1).hart.active 0#3 1 = true ∧ (∀ g, (tv 1).hart.noTrap 0#3 g) ∧ ∀ p ∈ [(Row.vcvtB8H, wordVcvtB8H { d := 8#5, b := 6#5, e := 0#1, k := 0#3, s := 0#1, r := 0#3 }), (Row.vcvtHB8, wordVcvtHB8 { d := 8#5, b := 6#5, e := 0#1, k := 0#3, s := 0#1, r := 0#3 }), (Row.vcvtB8Bf, wordVcvtB8Bf { d := 8#5, b := 6#5, e := 0#1, k := 0#3, s := 0#1, r := 0#3 }), (Row.vcvtBfB8, wordVcvtBfB8 { d := 8#5, b := 6#5, e := 0#1, k := 0#3, s := 0#1, r := 0#3 }), (Row.vcvtHE4, wordVcvtHE4 { d := 8#5, b := 6#5, e := 0#1, k := 0#3, s := 0#1, r := 0#3 }), (Row.vcvtHQ4, wordVcvtHQ4 { d := 8#5, b := 6#5, e := 0#1, k := 0#3, s := 0#1, r := 0#3 })], VReady (tv 1) p.1 p.2 :=
  ⟨by unfold Hart.fits; decide, by decide, by rfl, by decide, noTrap_of (by decide) 0#3, vready_of (by decide) (by decide)⟩

/-- O33. -/
theorem witness_VectorCompareResults :
    (tv 2).hart.fits ∧ (tv 2).hart.sew = 2 ∧ (tv 2).hart.vstart = 0 ∧ (tv 2).hart.active 0#3 1 = true ∧ (∀ g, (tv 2).hart.noTrap 0#3 g) ∧ ∀ p ∈ [(Row.vcmpEqVV, wordVcmpEqVV { d := 1#3, a := 4#5, b := 6#5, c := 0#1, e := 0#1, k := 0#3 }), (Row.vcmpNeVV, wordVcmpNeVV { d := 1#3, a := 4#5, b := 6#5, c := 0#1, e := 0#1, k := 0#3 }), (Row.vcmpLtVV, wordVcmpLtVV { d := 1#3, a := 4#5, b := 6#5, c := 0#1, e := 0#1, k := 0#3 }), (Row.vcmpLeVV, wordVcmpLeVV { d := 1#3, a := 4#5, b := 6#5, c := 0#1, e := 0#1, k := 0#3 }), (Row.vcmpLtnVV, wordVcmpLtnVV { d := 1#3, a := 4#5, b := 6#5, c := 0#1, e := 0#1, k := 0#3 }), (Row.vcmpLenVV, wordVcmpLenVV { d := 1#3, a := 4#5, b := 6#5, c := 0#1, e := 0#1, k := 0#3 }), (Row.vcmpGtVV, wordVcmpGtVV { d := 1#3, a := 4#5, b := 6#5, c := 0#1, e := 0#1, k := 0#3 }), (Row.vcmpGeVV, wordVcmpGeVV { d := 1#3, a := 4#5, b := 6#5, c := 0#1, e := 0#1, k := 0#3 }), (Row.vcmpFeqVV, wordVcmpFeqVV { d := 1#3, a := 4#5, b := 6#5, c := 0#1, e := 0#1, k := 0#3 }), (Row.vcmpFneVV, wordVcmpFneVV { d := 1#3, a := 4#5, b := 6#5, c := 0#1, e := 0#1, k := 0#3 }), (Row.vcmpFltVV, wordVcmpFltVV { d := 1#3, a := 4#5, b := 6#5, c := 0#1, e := 0#1, k := 0#3 }), (Row.vcmpFleVV, wordVcmpFleVV { d := 1#3, a := 4#5, b := 6#5, c := 0#1, e := 0#1, k := 0#3 }), (Row.vcmpFgtVV, wordVcmpFgtVV { d := 1#3, a := 4#5, b := 6#5, c := 0#1, e := 0#1, k := 0#3 }), (Row.vcmpFgeVV, wordVcmpFgeVV { d := 1#3, a := 4#5, b := 6#5, c := 0#1, e := 0#1, k := 0#3 }), (Row.vcmpFunordVV, wordVcmpFunordVV { d := 1#3, a := 4#5, b := 6#5, c := 0#1, e := 0#1, k := 0#3 }), (Row.vcmpFordVV, wordVcmpFordVV { d := 1#3, a := 4#5, b := 6#5, c := 0#1, e := 0#1, k := 0#3 }), (Row.vcmpEqVX, wordVcmpEqVX { d := 1#3, a := 4#5, b := 6#5, c := 0#1, k := 0#3 }), (Row.vcmpNeVX, wordVcmpNeVX { d := 1#3, a := 4#5, b := 6#5, c := 0#1, k := 0#3 }), (Row.vcmpLtVX, wordVcmpLtVX { d := 1#3, a := 4#5, b := 6#5, c := 0#1, k := 0#3 }), (Row.vcmpLeVX, wordVcmpLeVX { d := 1#3, a := 4#5, b := 6#5, c := 0#1, k := 0#3 }), (Row.vcmpLtnVX, wordVcmpLtnVX { d := 1#3, a := 4#5, b := 6#5, c := 0#1, k := 0#3 }), (Row.vcmpLenVX, wordVcmpLenVX { d := 1#3, a := 4#5, b := 6#5, c := 0#1, k := 0#3 }), (Row.vcmpGtVX, wordVcmpGtVX { d := 1#3, a := 4#5, b := 6#5, c := 0#1, k := 0#3 }), (Row.vcmpGeVX, wordVcmpGeVX { d := 1#3, a := 4#5, b := 6#5, c := 0#1, k := 0#3 }), (Row.vcmpFeqVX, wordVcmpFeqVX { d := 1#3, a := 4#5, b := 6#5, c := 0#1, k := 0#3 }), (Row.vcmpFneVX, wordVcmpFneVX { d := 1#3, a := 4#5, b := 6#5, c := 0#1, k := 0#3 }), (Row.vcmpFltVX, wordVcmpFltVX { d := 1#3, a := 4#5, b := 6#5, c := 0#1, k := 0#3 }), (Row.vcmpFleVX, wordVcmpFleVX { d := 1#3, a := 4#5, b := 6#5, c := 0#1, k := 0#3 }), (Row.vcmpFgtVX, wordVcmpFgtVX { d := 1#3, a := 4#5, b := 6#5, c := 0#1, k := 0#3 }), (Row.vcmpFgeVX, wordVcmpFgeVX { d := 1#3, a := 4#5, b := 6#5, c := 0#1, k := 0#3 }), (Row.vcmpFunordVX, wordVcmpFunordVX { d := 1#3, a := 4#5, b := 6#5, c := 0#1, k := 0#3 }), (Row.vcmpFordVX, wordVcmpFordVX { d := 1#3, a := 4#5, b := 6#5, c := 0#1, k := 0#3 })], VReady (tv 2) p.1 p.2 :=
  ⟨by unfold Hart.fits; decide, by decide, by rfl, by decide, noTrap_of (by decide) 0#3, vready_of (by decide) (by decide)⟩

/-- O34. -/
theorem witness_MaskLogicResults :
    (tv 2).hart.fits ∧ (tv 2).hart.sew = 2 ∧ (tv 2).hart.vstart = 0 ∧ (tv 2).hart.active 0#3 1 = true ∧ (∀ g, (tv 2).hart.noTrap 0#3 g) ∧ ∀ p ∈ [(Row.kand, wordKand { d := 1#3, a := 4#3, b := 6#3, c := 0#1, e := 0#1, k := 0#3 }), (Row.kor, wordKor { d := 1#3, a := 4#3, b := 6#3, c := 0#1, e := 0#1, k := 0#3 }), (Row.kxor, wordKxor { d := 1#3, a := 4#3, b := 6#3, c := 0#1, e := 0#1, k := 0#3 }), (Row.kandn, wordKandn { d := 1#3, a := 4#3, b := 6#3, c := 0#1, e := 0#1, k := 0#3 }), (Row.knot, wordKnot { d := 1#3, b := 6#3, e := 0#1, k := 0#3 }), (Row.kmov, wordKmov { d := 1#3, b := 6#3, e := 0#1, k := 0#3 }), (Row.vmerge, wordVmerge { d := 8#5, a := 4#5, b := 6#5, c := 0#1, e := 0#1, k := 0#3 })], VReady (tv 2) p.1 p.2 :=
  ⟨by unfold Hart.fits; decide, by decide, by rfl, by decide, noTrap_of (by decide) 0#3, vready_of (by decide) (by decide)⟩

/-- O35. -/
theorem witness_MaskTransferResults :
    (tv 2).hart.fits ∧ (tv 2).hart.sew = 2 ∧ (tv 2).hart.vstart = 0 ∧ (tv 2).hart.active 0#3 1 = true ∧ (∀ g, (tv 2).hart.noTrap 0#3 g) ∧ ∀ p ∈ [(Row.kpop, wordKpop { d := 8#5, b := 6#3, e := 0#1, k := 0#3 }), (Row.kfirst, wordKfirst { d := 8#5, b := 6#3, e := 0#1, k := 0#3 }), (Row.kiota, wordKiota { d := 8#5, b := 6#3, e := 0#1, k := 0#3 }), (Row.ksetx, wordKsetx { d := 1#3, a := 4#5, b := 6#5, k := 0#3 }), (Row.vextract, wordVextract { d := 8#5, a := 4#5, b := 6#5, c := 0#1 }), (Row.vinsert, wordVinsert { d := 8#5, a := 4#5, b := 6#5 })], VReady (tv 2) p.1 p.2 :=
  ⟨by unfold Hart.fits; decide, by decide, by rfl, by decide, noTrap_of (by decide) 0#3, vready_of (by decide) (by decide)⟩

/-- O36. -/
theorem witness_CrossLaneResults :
    (tv 2).hart.fits ∧ (tv 2).hart.sew = 2 ∧ (tv 2).hart.vstart = 0 ∧ (tv 2).hart.active 0#3 1 = true ∧ (∀ g, (tv 2).hart.noTrap 0#3 g) ∧ ∀ p ∈ [(Row.vcompress, wordVcompress { d := 8#5, b := 6#5, e := 0#1, k := 0#3 }), (Row.vexpand, wordVexpand { d := 8#5, b := 6#5, e := 0#1, k := 0#3 }), (Row.vslideup, wordVslideup { d := 8#5, a := 4#5, b := 6#5, c := 0#1, k := 0#3 }), (Row.vslidedn, wordVslidedn { d := 8#5, a := 4#5, b := 6#5, c := 0#1, k := 0#3 }), (Row.vpermv, wordVpermv { d := 8#5, a := 4#5, b := 6#5, c := 0#1, e := 0#1, k := 0#3 }), (Row.vbcast, wordVbcast { d := 8#5, a := 4#5, b := 6#5, c := 0#1, k := 0#3 }), (Row.vilv, wordVilv { d := 8#5, a := 4#5, b := 6#5, c := 0#1, e := 0#1, k := 0#3 }), (Row.vdilv, wordVdilv { d := 8#5, a := 4#5, c := 0#1, k := 0#3 }), (Row.vid, wordVid { d := 8#5, k := 0#3 }), (Row.vrand, wordVrand { d := 8#5, a := 4#5, k := 0#3 }), (Row.vmvV, wordVmvV { d := 8#5, b := 6#5, e := 0#1, k := 0#3 }), (Row.vmvX, wordVmvX { d := 8#5, b := 6#5, k := 0#3 })], VReady (tv 2) p.1 p.2 :=
  ⟨by unfold Hart.fits; decide, by decide, by rfl, by decide, noTrap_of (by decide) 0#3, vready_of (by decide) (by decide)⟩

/-- O37. -/
theorem witness_ReductionResults :
    (tv 2).hart.fits ∧ (tv 2).hart.sew = 2 ∧ (tv 2).hart.vstart = 0 ∧ (tv 2).hart.active 0#3 1 = true ∧ (∀ g, (tv 2).hart.noTrap 0#3 g) ∧ ∀ p ∈ [(Row.vredsum, wordVredsum { d := 8#5, a := 4#5, b := 6#5, c := 0#1, e := 0#1, k := 0#3 }), (Row.vredmin, wordVredmin { d := 8#5, a := 4#5, b := 6#5, c := 0#1, e := 0#1, k := 0#3 }), (Row.vredmax, wordVredmax { d := 8#5, a := 4#5, b := 6#5, c := 0#1, e := 0#1, k := 0#3 }), (Row.vredminn, wordVredminn { d := 8#5, a := 4#5, b := 6#5, c := 0#1, e := 0#1, k := 0#3 }), (Row.vredmaxn, wordVredmaxn { d := 8#5, a := 4#5, b := 6#5, c := 0#1, e := 0#1, k := 0#3 }), (Row.vredand, wordVredand { d := 8#5, a := 4#5, b := 6#5, c := 0#1, e := 0#1, k := 0#3 }), (Row.vredor, wordVredor { d := 8#5, a := 4#5, b := 6#5, c := 0#1, e := 0#1, k := 0#3 }), (Row.vredxor, wordVredxor { d := 8#5, a := 4#5, b := 6#5, c := 0#1, e := 0#1, k := 0#3 }), (Row.vwsum, wordVwsum { d := 8#5, a := 4#5, b := 6#5, c := 0#1, e := 0#1, k := 0#3 }), (Row.vfsum, wordVfsum { d := 8#5, a := 4#5, b := 6#5, c := 0#1, e := 0#1, k := 0#3 }), (Row.vfsumo, wordVfsumo { d := 8#5, a := 4#5, b := 6#5, c := 0#1, e := 0#1, k := 0#3 }), (Row.vfredmin, wordVfredmin { d := 8#5, a := 4#5, b := 6#5, c := 0#1, e := 0#1, k := 0#3 }), (Row.vfredmax, wordVfredmax { d := 8#5, a := 4#5, b := 6#5, c := 0#1, e := 0#1, k := 0#3 })], VReady (tv 2) p.1 p.2 :=
  ⟨by unfold Hart.fits; decide, by decide, by rfl, by decide, noTrap_of (by decide) 0#3, vready_of (by decide) (by decide)⟩

theorem witness_ReductionResults_flags :
    enabledCause (tv 2).hart.fen flagNv = none ∧ (withV tx 2 0 0#64).hart.activeList 0#3 = [] :=
  by decide

/-- O38; test firmware only has `VTERNLOG`. -/
theorem witness_BitStringResults :
    (tv 2).hart.fits ∧ (tv 2).hart.sew = 2 ∧ (tv 2).hart.vstart = 0 ∧ (tv 2).hart.active 0#3 1 = true ∧ (∀ g, (tv 2).hart.noTrap 0#3 g) ∧ ∀ p ∈ [(Row.vbshl, wordVbshl { d := 8#5, a := 4#5, b := 6#5, c := 0#1, k := 0#3 }), (Row.vbshr, wordVbshr { d := 8#5, a := 4#5, b := 6#5, c := 0#1, k := 0#3 }), (Row.vbfun, wordVbfun { d := 8#5, a := 4#5, b := 6#5, c := 0#1, k := 0#3 })], VReady (tv 2) p.1 p.2 :=
  ⟨by unfold Hart.fits; decide, by decide, by rfl, by decide, noTrap_of (by decide) 0#3, vready_of (by decide) (by decide)⟩

theorem witness_BitStringResults_ternlog :
    VReady (withStatus (tv 2) 2#64) .vternlog (wordVternlog { d := 8#5, a := 4#5, b := 6#5, i := 0#8 }) :=
  vready_one (by decide) (by decide)

/-- The elements of x4, at 0x10040 and on, are reached. -/
theorem reach_two {s : State} {k : KReg} {addr pa : Nat → Nat} {n : Nat} {kind : AKind} {win : Bool} (hc : s.hart.count = 2)
    (h0 : s.access (addr 0) n n kind win = .ok (.phys (pa 0) codeLeaf) s) (h1 : s.access (addr 1) n n kind win = .ok (.phys (pa 1) codeLeaf) s)
    (hb : s.hart.bridle = []) (hu : s.ulines = []) (hg : s.hart.group = none) : VReaches s k addr pa n kind win := by
  refine ⟨fun p ha => ?_, hb, hu, hg⟩
  have := active_lt ha
  rw [hc] at this
  rcases p with _ | _ | p
  · exact ⟨_, h0⟩
  · exact ⟨_, h1⟩
  · omega

/-- O39: unit, strided and indexed elements. -/
theorem witness_VectorLoadResults :
    (tv 2).hart.fits ∧ (∀ p ∈ [(Row.vld, wordVld { d := 8#5, a := 4#5, o := 0#1, k := 0#3 }), (Row.vlds, wordVlds { d := 8#5, a := 4#5, b := 6#5, o := 0#1, k := 0#3 }), (Row.vldx, wordVldx { d := 8#5, a := 4#5, b := 6#5, c := 0#1, o := 0#1, k := 0#3 }), (Row.vldReg, wordVldReg { d := 8#5, a := 4#5 }), (Row.vgll, wordVgll { d := 8#5, a := 4#5, b := 6#5, c := 0#1, k := 0#3 })], VReady (tv 2) p.1 p.2) ∧ (0x10040#64 : Word).toNat % 8 = 0 ∧ VReaches (tv 2) 0#3 (fun p => (0x10040 + p * 4) % 2 ^ 64) (fun p => 0x10040 + p * 4) 4 .load true ∧ ((tv 2).hart.getX 6#5 = 0#64 ∧ (tv 2).hart.el 6#5 32 0 = 0 ∧ (tv 2).hart.el 6#5 32 1 = 0) ∧ VReaches (tv 2) 0#3 (fun _ => 0x10040) (fun _ => 0x10040) 4 .load true ∧ VReaches (tv 2) 0#3 (fun _ => 0x10040) (fun _ => 0x10040) 4 .load false :=
  ⟨by unfold Hart.fits; decide, vready_of (by decide) (by decide), by decide, reach_two (by decide) (by rfl) (by rfl) (by rfl) (by rfl) (by rfl), ⟨by decide, by decide +kernel, by decide +kernel⟩, reach_two (by decide) (by rfl) (by rfl) (by rfl) (by rfl) (by rfl), reach_two (by decide) (by rfl) (by rfl) (by rfl) (by rfl) (by rfl)⟩

theorem witness_VectorLoadResults_scaled_16 :
    (tv 1).hart.fits ∧ (∀ p ∈ [(Row.vldwE4H, wordVldwE4H { d := 8#5, a := 4#5, b := 12#5, k := 0#3 }), (Row.vldwE4Bf, wordVldwE4Bf { d := 8#5, a := 4#5, b := 12#5, k := 0#3 })], VReady (tv 1) p.1 p.2) ∧ VReaches (tv 1) 0#3 (fun p => (0x10040 + p) % 2 ^ 64) (fun p => 0x10040 + p) 1 .load true ∧ VReaches (tv 1) 0#3 (fun p => (0x10040 + p / 32 * 1) % 2 ^ 64) (fun _ => 0x10040) 1 .load true ∧ ∀ g, (tv 1).hart.noTrap 0#3 g :=
  ⟨by unfold Hart.fits; decide, vready_of (by decide) (by decide), reach_two (by decide) (by rfl) (by rfl) (by rfl) (by rfl) (by rfl), reach_two (by decide) (by rfl) (by rfl) (by rfl) (by rfl) (by rfl), noTrap_of (by decide) 0#3⟩

theorem witness_VectorLoadResults_scaled_16b :
    (tv 1).hart.fits ∧ (∀ p ∈ [(Row.vldwQ4H, wordVldwQ4H { d := 8#5, a := 4#5, b := 12#5, k := 0#3 }), (Row.vldwQ4Bf, wordVldwQ4Bf { d := 8#5, a := 4#5, b := 12#5, k := 0#3 })], VReady (tv 1) p.1 p.2) ∧ VReaches (tv 1) 0#3 (fun p => (0x10040 + p / 2) % 2 ^ 64) (fun p => 0x10040 + p / 2) 1 .load true ∧ VReaches (tv 1) 0#3 (fun p => (0x10040 + p / 32 * 2) % 2 ^ 64) (fun _ => 0x10040) 2 .load true ∧ ∀ g, (tv 1).hart.noTrap 0#3 g :=
  ⟨by unfold Hart.fits; decide, vready_of (by decide) (by decide), reach_two (by decide) (by rfl) (by rfl) (by rfl) (by rfl) (by rfl), reach_two (by decide) (by rfl) (by rfl) (by rfl) (by rfl) (by rfl), noTrap_of (by decide) 0#3⟩

theorem witness_VectorLoadResults_scaled_8 :
    (tv 0).hart.fits ∧ (∀ p ∈ [(Row.vldwE4B8, wordVldwE4B8 { d := 8#5, a := 4#5, b := 12#5, k := 0#3 })], VReady (tv 0) p.1 p.2) ∧ VReaches (tv 0) 0#3 (fun p => (0x10040 + p) % 2 ^ 64) (fun p => 0x10040 + p) 1 .load true ∧ VReaches (tv 0) 0#3 (fun p => (0x10040 + p / 32 * 1) % 2 ^ 64) (fun _ => 0x10040) 1 .load true ∧ ∀ g, (tv 0).hart.noTrap 0#3 g :=
  ⟨by unfold Hart.fits; decide, vready_of (by decide) (by decide), reach_two (by decide) (by rfl) (by rfl) (by rfl) (by rfl) (by rfl), reach_two (by decide) (by rfl) (by rfl) (by rfl) (by rfl) (by rfl), noTrap_of (by decide) 0#3⟩

theorem witness_VectorLoadResults_scaled_8b :
    (tv 0).hart.fits ∧ (∀ p ∈ [(Row.vldwQ4B8, wordVldwQ4B8 { d := 8#5, a := 4#5, b := 12#5, k := 0#3 })], VReady (tv 0) p.1 p.2) ∧ VReaches (tv 0) 0#3 (fun p => (0x10040 + p / 2) % 2 ^ 64) (fun p => 0x10040 + p / 2) 1 .load true ∧ VReaches (tv 0) 0#3 (fun p => (0x10040 + p / 32 * 2) % 2 ^ 64) (fun _ => 0x10040) 2 .load true ∧ ∀ g, (tv 0).hart.noTrap 0#3 g :=
  ⟨by unfold Hart.fits; decide, vready_of (by decide) (by decide), reach_two (by decide) (by rfl) (by rfl) (by rfl) (by rfl) (by rfl), reach_two (by decide) (by rfl) (by rfl) (by rfl) (by rfl) (by rfl), noTrap_of (by decide) 0#3⟩

/-- Registers whole: their first words; the others, up to `VLMAX`, stand in the same page. -/
theorem witness_VectorLoadResults_register :
    ∀ p, (tv 2).hart.vstart ≤ p → p < 2 → ∃ leaf, (tv 2).access ((0x10040 + p * 8) % 2 ^ 64) 8 8 .load true = .ok (.phys (0x10040 + p * 8) leaf) (tv 2) ∧ (tv 2).access ((0x10040 + p * 8) % 2 ^ 64) 8 8 .store true = .ok (.phys (0x10040 + p * 8) leaf) (tv 2) :=
  by
  intro p _ h
  rcases p with _ | _ | p
  · exact ⟨codeLeaf, by rfl, by rfl⟩
  · exact ⟨codeLeaf, by rfl, by rfl⟩
  · omega

theorem witness_VectorLoadResults_page :
    ∀ p, p < (tv 2).hart.vlmax / 64 → 0x10040 + p * 8 + 8 ≤ 0x20000 :=
  by
  intro p h
  have : (tv 2).hart.vlmax / 64 = 256 := by decide
  omega

/-- O40. -/
theorem witness_VectorStoreResults :
    (tv 2).hart.fits ∧ (tv 2).mem.wf = true ∧ (∀ p ∈ [(Row.vst, wordVst { d := 8#5, a := 4#5, c := 0#1, o := 0#1, k := 0#3 }), (Row.vsts, wordVsts { d := 8#5, a := 4#5, b := 6#5, c := 0#1, o := 0#1, k := 0#3 }), (Row.vstx, wordVstx { d := 8#5, a := 4#5, b := 6#5, c := 0#1, o := 0#1, k := 0#3 }), (Row.vstReg, wordVstReg { d := 8#5, a := 4#5, c := 0#1 })], VReady (tv 2) p.1 p.2) ∧ VReaches (tv 2) 0#3 (fun p => (0x10040 + p * 4) % 2 ^ 64) (fun p => 0x10040 + p * 4) 4 .store true ∧ ((tv 2).hart.getX 6#5 = 0#64 ∧ (tv 2).hart.el 6#5 32 0 = 0 ∧ (tv 2).hart.el 6#5 32 1 = 0) ∧ VReaches (tv 2) 0#3 (fun _ => 0x10040) (fun _ => 0x10040) 4 .store true ∧ VReaches (tv 2) 0#3 (fun _ => 0x10040) (fun _ => 0x10040) 4 .store false :=
  ⟨by unfold Hart.fits; decide, by decide, vready_of (by decide) (by decide), reach_two (by decide) (by rfl) (by rfl) (by rfl) (by rfl) (by rfl), ⟨by decide, by decide +kernel, by decide +kernel⟩, reach_two (by decide) (by rfl) (by rfl) (by rfl) (by rfl) (by rfl), reach_two (by decide) (by rfl) (by rfl) (by rfl) (by rfl) (by rfl)⟩

/-- O40: a scatter-conditional under a mask of two elements. -/
theorem witness_VectorStoreResults_conditional :
    (State.hart (withK (tv 2) 1#3 3)).fits ∧ (State.mem (withK (tv 2) 1#3 3)).wf = true ∧ VReady (withK (tv 2) 1#3 3) .vscc (wordVscc { d := 8#5, a := 4#5, b := 6#5, c := 0#1, k := 1#3 }) ∧ (1#3 : KReg) ≠ 0#3 ∧ (State.hart (withK (tv 2) 1#3 3)).sew ≤ 3 ∧ (State.hart (withK (tv 2) 1#3 3)).active 1#3 1 = true ∧ VReaches (withK (tv 2) 1#3 3) 1#3 (fun _ => 0x10040) (fun _ => 0x10040) 4 .store false :=
  ⟨by unfold Hart.fits; decide, by decide, vready_one (by decide +kernel) (by decide +kernel), by decide, by decide, by decide +kernel, reach_two (by decide) (by rfl) (by rfl) (by rfl) (by rfl) (by rfl)⟩

theorem witness_VectorStoreResults_words :
    (0x06#8 ++ 0x0#16 ++ 0x6A#8 : BitVec 32).extractLsb' 0 8 = 0x6A#8 ∧ (0x00#8 ++ 0x0#16 ++ 0x6A#8 : BitVec 32).extractLsb' 25 3 = 0#3 :=
  by decide

/-- One position of frame 1 and a kind in v4 and v6, and frame 1 in x6; the frame is live, in cells, and has no parent. -/
def tpos (kind : Nat) : State :=
  let s := withV (withX (withVreg (withVreg tx 4#5 ((256 + kind) * 2 ^ 96)) 6#5 ((256 + kind) * 2 ^ 96)) 6#5 0x100#64) 4 1 0#64
  { s with mem := [(0x10480, 1#8), (0x10481, 0xC0#8)], hart := { s.hart with csr := { s.hart.csr with ftbase := 0x10400#64, ftlimit := 2#64 } } }

/-- O41: points; then vectors. -/
theorem witness_PositionResults_0 :
    (tpos 0).hart.fits ∧ (tpos 0).hart.sew = 4 ∧ (∀ p ∈ [(Row.gtag, wordGtag { d := 8#5, b := 6#5, e := 0#1, k := 0#3 }), (Row.gpack, wordGpack { d := 8#5, a := 4#5, b := 6#5, c := 0#1, e := 0#1, k := 0#3 }), (Row.gsettag, wordGsettag { d := 8#5, a := 4#5, b := 6#5, c := 0#1, k := 0#3 }), (Row.gunpack, wordGunpack { d := 8#5, b := 6#5, e := 0#1, k := 0#3 }), (Row.glen, wordGlen { d := 8#5, b := 6#5, e := 0#1, k := 0#3 }), (Row.gscl, wordGscl { d := 8#5, a := 4#5, b := 6#5, c := 0#1, k := 0#3 }), (Row.grehome, wordGrehome { d := 8#5, b := 6#5, e := 0#1, k := 0#3 }), (Row.gcvt, wordGcvt { d := 8#5, a := 4#5, b := 6#5, c := 0#1, k := 0#3 }), (Row.gmorton, wordGmorton { d := 8#5, a := 4#5, b := 6#5, c := 0#1, k := 0#3 }), (Row.gdot, wordGdot { d := 8#5, a := 4#5, b := 6#5, c := 0#1, e := 0#1, k := 0#3 }), (Row.gsub, wordGsub { d := 8#5, a := 4#5, b := 6#5, c := 0#1, e := 0#1, k := 0#3 }), (Row.gadd, wordGadd { d := 8#5, a := 4#5, b := 6#5, c := 0#1, e := 0#1, k := 0#3 })], VReady (tpos 0) p.1 p.2) ∧ (∀ g, (tpos 0).hart.noTrap 0#3 g) ∧ (∀ p, (tpos 0).hart.active 0#3 p = true → p = 0) ∧
    tagIndex ((tpos 0).hart.pos 4#5 0).tag ≠ 0 ∧ tagIndex ((tpos 0).hart.pos 6#5 0).tag ≠ 0 ∧ tagKind ((tpos 0).hart.pos 4#5 0).tag = 0 ∧ tagKind ((tpos 0).hart.pos 6#5 0).tag = 0 ∧
    ∃ a b tt fr, (tpos 0).resolve ((tpos 0).hart.pos 4#5 0) = .ok a (tpos 0) ∧ (tpos 0).resolve ((tpos 0).hart.pos 6#5 0) = .ok b (tpos 0) ∧ (tpos 0).target ((tpos 0).hart.getX 6#5) = .ok (tt, fr) (tpos 0) ∧ tagIndex tt ≠ 0 ∧ fr.cell = true ∧
      (tpos 0).xform (b.tag 0) (a.tag 0) b.pos.tag = .ok Xform.same (tpos 0) ∧ (tpos 0).xform (a.tag 0) (mkTag (tagIndex tt) (tagGen tt) 0) a.pos.tag = .ok Xform.same (tpos 0) :=
  by
  have hc : (tpos 0).hart.count = 1 := by decide +kernel
  refine ⟨by unfold Hart.fits; decide +kernel, by decide +kernel, vready_of (by decide +kernel) (by decide +kernel), noTrap_of (by decide +kernel) 0#3,
    fun p ha => by have := active_lt ha; omega, by decide +kernel, by decide +kernel, by decide +kernel, by decide +kernel,
    ⟨_, _, _, _, by rfl, by rfl, by rfl, by decide +kernel, by decide +kernel, by rfl, by rfl⟩⟩

theorem witness_PositionResults_1 :
    (tpos 1).hart.fits ∧ (tpos 1).hart.sew = 4 ∧ (∀ p ∈ [(Row.gtag, wordGtag { d := 8#5, b := 6#5, e := 0#1, k := 0#3 }), (Row.gpack, wordGpack { d := 8#5, a := 4#5, b := 6#5, c := 0#1, e := 0#1, k := 0#3 }), (Row.gsettag, wordGsettag { d := 8#5, a := 4#5, b := 6#5, c := 0#1, k := 0#3 }), (Row.gunpack, wordGunpack { d := 8#5, b := 6#5, e := 0#1, k := 0#3 }), (Row.glen, wordGlen { d := 8#5, b := 6#5, e := 0#1, k := 0#3 }), (Row.gscl, wordGscl { d := 8#5, a := 4#5, b := 6#5, c := 0#1, k := 0#3 }), (Row.grehome, wordGrehome { d := 8#5, b := 6#5, e := 0#1, k := 0#3 }), (Row.gcvt, wordGcvt { d := 8#5, a := 4#5, b := 6#5, c := 0#1, k := 0#3 }), (Row.gmorton, wordGmorton { d := 8#5, a := 4#5, b := 6#5, c := 0#1, k := 0#3 }), (Row.gdot, wordGdot { d := 8#5, a := 4#5, b := 6#5, c := 0#1, e := 0#1, k := 0#3 }), (Row.gsub, wordGsub { d := 8#5, a := 4#5, b := 6#5, c := 0#1, e := 0#1, k := 0#3 }), (Row.gadd, wordGadd { d := 8#5, a := 4#5, b := 6#5, c := 0#1, e := 0#1, k := 0#3 })], VReady (tpos 1) p.1 p.2) ∧ (∀ g, (tpos 1).hart.noTrap 0#3 g) ∧ (∀ p, (tpos 1).hart.active 0#3 p = true → p = 0) ∧
    tagIndex ((tpos 1).hart.pos 4#5 0).tag ≠ 0 ∧ tagIndex ((tpos 1).hart.pos 6#5 0).tag ≠ 0 ∧ tagKind ((tpos 1).hart.pos 4#5 0).tag = 1 ∧ tagKind ((tpos 1).hart.pos 6#5 0).tag = 1 ∧
    ∃ a b tt fr, (tpos 1).resolve ((tpos 1).hart.pos 4#5 0) = .ok a (tpos 1) ∧ (tpos 1).resolve ((tpos 1).hart.pos 6#5 0) = .ok b (tpos 1) ∧ (tpos 1).target ((tpos 1).hart.getX 6#5) = .ok (tt, fr) (tpos 1) ∧ tagIndex tt ≠ 0 ∧ fr.cell = true ∧
      (tpos 1).xform (b.tag 0) (a.tag 0) b.pos.tag = .ok Xform.same (tpos 1) ∧ (tpos 1).xform (a.tag 0) (mkTag (tagIndex tt) (tagGen tt) 0) a.pos.tag = .ok Xform.same (tpos 1) :=
  by
  have hc : (tpos 1).hart.count = 1 := by decide +kernel
  refine ⟨by unfold Hart.fits; decide +kernel, by decide +kernel, vready_of (by decide +kernel) (by decide +kernel), noTrap_of (by decide +kernel) 0#3,
    fun p ha => by have := active_lt ha; omega, by decide +kernel, by decide +kernel, by decide +kernel, by decide +kernel,
    ⟨_, _, _, _, by rfl, by rfl, by rfl, by decide +kernel, by decide +kernel, by rfl, by rfl⟩⟩

theorem witness_PositionResults_kinds :
    (∃ k, some k = (match 0, 0 with | 0, 0 => some 1 | 0, _ => some 0 | _, 0 => none | _, _ => some 1 : Option Nat)) ∧ (∃ k, some k = (match 1, 1 with | 0, 0 => none | 0, _ => some 0 | _, 0 => some 0 | _, _ => some 1 : Option Nat)) :=
  ⟨⟨1, rfl⟩, ⟨1, rfl⟩⟩

theorem witness_PositionResults_cells :
    VReady (withX (tv 3) 6#5 0x140D#64) .gnbr (wordGnbr { d := 8#5, a := 4#5, b := 6#5, c := 0#1, k := 0#3 }) ∧ (0x140D#64 : Word).toNat % 4 ≠ 2 ∧ (0x140D#64 : Word).toNat / 4 % 4 ≠ 2 ∧ (0x140D#64 : Word).toNat / 16 % 4 ≠ 2 ∧ (0x140D#64 : Word).toNat / 64 % 4 = 0 ∧ (0x140D#64 : Word).toNat / 256 % 32 ≤ 20 ∧ (0x140D#64 : Word).toNat / 2 ^ 13 = 0 :=
  ⟨vready_one (by decide) (by decide), by decide⟩

/-- Whether an operation succeeds. -/
def okb {α : Type} (r : Res α) : Bool := match r with | .ok _ _ => true | _ => false

theorem ok_of {α : Type} {r : Res α} (h : okb r = true) : ∃ t x, r = .ok t x := by
  cases r with
  | ok a s => exact ⟨a, s, rfl⟩
  | stop c s => cases h
  | wait s => cases h

/-! ## Tables, recursion, matrices, accumulation -/

/-- A cell table of 16 slots at 0x10040 in x4; one key, 5, in v6; and further bytes. -/
def tcell (key : Nat) (more : Memory) : State :=
  { withV (withVreg tx 6#5 key) 3 1 0#64 with mem := [(0x10040, 16#8), (0x10044, 16#8), (0x10050, 1#8)] ++ more }

/-- The header of that table. -/
def thead : CellHead := { cap := 16, limit := 16, count := 0, ovf := 0, seed := 1 }

theorem thead_free : ReadsAs (tcell (5) []) (fun u => u.cellHead 0x10040) thead := by
  intro c
  obtain ⟨d, hd⟩ := State.loadElWords_coh (s := (tcell (5) [])) rfl rfl rfl 8 (0x10040) (fun i => 0x10040 + 8 * i)
    (fun i hi => by interval_cases i <;> exact ⟨⟨_, by rfl⟩, _, by rfl⟩) c
  have hm : (countFrom 0 8).map (fun i => (State.mem (tcell (5) [])).readN (0x10040 + 8 * i) 8) = [16 + 16 * 2 ^ 32, 0, 1, 0, 0, 0, 0, 0] := by decide +kernel
  exact ⟨d, by simp only [State.cellHead, hd, hm, Res.bind_ok]; rfl⟩

theorem tprobe_free : ReadsAs (tcell (5) []) (fun u => u.probe 0x10040 thead 5 (thead.hash 5) (min 32 thead.cap) 0) (.free 0) := by
  intro c
  obtain ⟨d, hd⟩ := State.loadElWords_coh (s := (tcell (5) [])) rfl rfl rfl 2 (slotAddr 0x10040 0) (fun i => 0x10080 + 8 * i)
    (fun i hi => by interval_cases i <;> exact ⟨⟨_, by rfl⟩, _, by rfl⟩) c
  have hm : (countFrom 0 2).map (fun i => (State.mem (tcell (5) [])).readN (0x10080 + 8 * i) 8) = [0, 0] := by decide +kernel
  have e : (thead.hash 5 + 0) % thead.cap = 0 := by decide
  exact ⟨d, by simp only [show min 32 thead.cap = 15 + 1 from rfl, State.probe, e, hd, hm, Res.bind_ok]; rfl⟩

/-- O42: a key whose slot is free; one that a slot holds; a key with bit 63. -/
theorem witness_CellTableResults_free :
    (State.hart (tcell (5) [])).fits ∧ (State.hart (tcell (5) [])).bridle = [] ∧ State.ulines (tcell (5) []) = [] ∧ (State.hart (tcell (5) [])).group = none ∧ (State.hart (tcell (5) [])).sew = 3 ∧ (State.mem (tcell (5) [])).wf = true ∧
    (∀ p ∈ [(Row.vcellfind, wordVcellfind { d := 8#5, a := 4#5, b := 6#5, e := 0#1, k := 0#3 }), (Row.vcellins, wordVcellins { d := 8#5, a := 4#5, b := 6#5, e := 0#1, k := 0#3 })], VReady (tcell (5) []) p.1 p.2) ∧ (0x10040#64 : Word).toNat % 64 = 0 ∧ (State.hart (tcell (5) [])).activeList 0#3 = [0] ∧ (State.hart (tcell (5) [])).el 6#5 64 0 = 5 ∧
    ∃ h, ReadsAs (tcell (5) []) (fun u => u.cellHead 0x10040) h ∧ ReadsAs (tcell (5) []) (fun u => u.probe 0x10040 h 5 (h.hash 5) (min 32 h.cap) 0) (.free 0) ∧ State.access (tcell (5) []) (slotAddr 0x10040 0) 8 8 .store true = .ok (.phys 0x10080 codeLeaf) (tcell (5) []) ∧ State.access (tcell (5) []) (slotAddr 0x10040 0 + 8) 8 8 .store true = .ok (.phys (0x10080 + 8) codeLeaf) (tcell (5) []) ∧ State.access (tcell (5) []) (0x10040 + 8) 8 8 .store true = .ok (.phys 0x10048 codeLeaf) (tcell (5) []) ∧ 0x10048 + 8 ≤ 0x10080 ∧ h.count < h.limit :=
  ⟨by unfold Hart.fits; decide +kernel, by rfl, by rfl, by rfl, by decide +kernel, by decide, vready_of (by decide +kernel) (by decide +kernel), by decide, by decide +kernel, by decide +kernel, ⟨thead, thead_free, tprobe_free, by rfl, by rfl, by rfl, by decide, by decide⟩⟩

theorem thead_held : ReadsAs (tcell (5) [(0x10080, 5#8), (0x1008F, 1#8)]) (fun u => u.cellHead 0x10040) thead := by
  intro c
  obtain ⟨d, hd⟩ := State.loadElWords_coh (s := (tcell (5) [(0x10080, 5#8), (0x1008F, 1#8)])) rfl rfl rfl 8 (0x10040) (fun i => 0x10040 + 8 * i)
    (fun i hi => by interval_cases i <;> exact ⟨⟨_, by rfl⟩, _, by rfl⟩) c
  have hm : (countFrom 0 8).map (fun i => (State.mem (tcell (5) [(0x10080, 5#8), (0x1008F, 1#8)])).readN (0x10040 + 8 * i) 8) = [16 + 16 * 2 ^ 32, 0, 1, 0, 0, 0, 0, 0] := by decide +kernel
  exact ⟨d, by simp only [State.cellHead, hd, hm, Res.bind_ok]; rfl⟩

theorem tprobe_held : ReadsAs (tcell (5) [(0x10080, 5#8), (0x1008F, 1#8)]) (fun u => u.probe 0x10040 thead 5 (thead.hash 5) (min 32 thead.cap) 0) (.held 0 (2 ^ 56)) := by
  intro c
  obtain ⟨d, hd⟩ := State.loadElWords_coh (s := (tcell (5) [(0x10080, 5#8), (0x1008F, 1#8)])) rfl rfl rfl 2 (slotAddr 0x10040 0) (fun i => 0x10080 + 8 * i)
    (fun i hi => by interval_cases i <;> exact ⟨⟨_, by rfl⟩, _, by rfl⟩) c
  have hm : (countFrom 0 2).map (fun i => (State.mem (tcell (5) [(0x10080, 5#8), (0x1008F, 1#8)])).readN (0x10080 + 8 * i) 8) = [5, 2 ^ 56 * 1] := by decide +kernel
  have e : (thead.hash 5 + 0) % thead.cap = 0 := by decide
  exact ⟨d, by simp only [show min 32 thead.cap = 15 + 1 from rfl, State.probe, e, hd, hm, Res.bind_ok]; rfl⟩

theorem witness_CellTableResults_held :
    (State.hart (tcell (5) [(0x10080, 5#8), (0x1008F, 1#8)])).fits ∧ (State.hart (tcell (5) [(0x10080, 5#8), (0x1008F, 1#8)])).bridle = [] ∧ State.ulines (tcell (5) [(0x10080, 5#8), (0x1008F, 1#8)]) = [] ∧ (State.hart (tcell (5) [(0x10080, 5#8), (0x1008F, 1#8)])).group = none ∧ (State.hart (tcell (5) [(0x10080, 5#8), (0x1008F, 1#8)])).sew = 3 ∧ (State.mem (tcell (5) [(0x10080, 5#8), (0x1008F, 1#8)])).wf = true ∧
    (∀ p ∈ [(Row.vcellfind, wordVcellfind { d := 8#5, a := 4#5, b := 6#5, e := 0#1, k := 0#3 }), (Row.vcellins, wordVcellins { d := 8#5, a := 4#5, b := 6#5, e := 0#1, k := 0#3 })], VReady (tcell (5) [(0x10080, 5#8), (0x1008F, 1#8)]) p.1 p.2) ∧ (0x10040#64 : Word).toNat % 64 = 0 ∧ (State.hart (tcell (5) [(0x10080, 5#8), (0x1008F, 1#8)])).activeList 0#3 = [0] ∧ (State.hart (tcell (5) [(0x10080, 5#8), (0x1008F, 1#8)])).el 6#5 64 0 = 5 ∧
    ∃ h, ReadsAs (tcell (5) [(0x10080, 5#8), (0x1008F, 1#8)]) (fun u => u.cellHead 0x10040) h ∧ ReadsAs (tcell (5) [(0x10080, 5#8), (0x1008F, 1#8)]) (fun u => u.probe 0x10040 h 5 (h.hash 5) (min 32 h.cap) 0) (.held 0 (2 ^ 56)) ∧ State.access (tcell (5) [(0x10080, 5#8), (0x1008F, 1#8)]) (slotAddr 0x10040 0 + 8) 8 8 .store true = .ok (.phys 0x10088 codeLeaf) (tcell (5) [(0x10080, 5#8), (0x1008F, 1#8)]) :=
  ⟨by unfold Hart.fits; decide +kernel, by rfl, by rfl, by rfl, by decide +kernel, by decide, vready_of (by decide +kernel) (by decide +kernel), by decide, by decide +kernel, by decide +kernel, ⟨thead, thead_held, tprobe_held, by rfl⟩⟩

theorem thead_none : ReadsAs (tcell (2 ^ 63) []) (fun u => u.cellHead 0x10040) thead := by
  intro c
  obtain ⟨d, hd⟩ := State.loadElWords_coh (s := (tcell (2 ^ 63) [])) rfl rfl rfl 8 (0x10040) (fun i => 0x10040 + 8 * i)
    (fun i hi => by interval_cases i <;> exact ⟨⟨_, by rfl⟩, _, by rfl⟩) c
  have hm : (countFrom 0 8).map (fun i => (State.mem (tcell (2 ^ 63) [])).readN (0x10040 + 8 * i) 8) = [16 + 16 * 2 ^ 32, 0, 1, 0, 0, 0, 0, 0] := by decide +kernel
  exact ⟨d, by simp only [State.cellHead, hd, hm, Res.bind_ok]; rfl⟩

theorem witness_CellTableResults_none :
    (State.hart (tcell (2 ^ 63) [])).fits ∧ (State.hart (tcell (2 ^ 63) [])).bridle = [] ∧ State.ulines (tcell (2 ^ 63) []) = [] ∧ (State.hart (tcell (2 ^ 63) [])).group = none ∧ (State.hart (tcell (2 ^ 63) [])).sew = 3 ∧ (State.mem (tcell (2 ^ 63) [])).wf = true ∧
    (∀ p ∈ [(Row.vcellfind, wordVcellfind { d := 8#5, a := 4#5, b := 6#5, e := 0#1, k := 0#3 }), (Row.vcellins, wordVcellins { d := 8#5, a := 4#5, b := 6#5, e := 0#1, k := 0#3 })], VReady (tcell (2 ^ 63) []) p.1 p.2) ∧ (0x10040#64 : Word).toNat % 64 = 0 ∧ (State.hart (tcell (2 ^ 63) [])).activeList 0#3 = [0] ∧ (State.hart (tcell (2 ^ 63) [])).el 6#5 64 0 = 2 ^ 63 ∧
    ∃ h, ReadsAs (tcell (2 ^ 63) []) (fun u => u.cellHead 0x10040) h :=
  ⟨by unfold Hart.fits; decide +kernel, by rfl, by rfl, by rfl, by decide +kernel, by decide, vready_of (by decide +kernel) (by decide +kernel), by decide, by decide +kernel, by decide +kernel, ⟨thead, thead_none⟩⟩

/-- O43: outside a routine; then in one. -/
theorem witness_RecursionRowResults :
    (∀ p ∈ [(Row.rspawn, wordRspawn { a := 4#5, c := 0#1, k := 0#3 }), (Row.rret, wordRret { a := 4#5, c := 0#1, k := 0#3 }), (Row.rkids, wordRkids { d := 8#5, b := 6#5, k := 0#3 }), (Row.rdepth, wordRdepth { d := 8#5, k := 0#3 }), (Row.rnkid, wordRnkid { d := 8#5, k := 0#3 })], VReady (tv 2) p.1 p.2 ∧ VReady (withV tx 2 0 0#64) p.1 p.2) ∧ (tv 2).hart.recur = none ∧ (tv 2).hart.activeList 0#3 = [0, 1] ∧ (withV tx 2 0 0#64).hart.activeList 0#3 = [] :=
  ⟨fun p hp => ⟨vready_of (by decide) (by decide) p hp, vready_of (by decide) (by decide) p hp⟩, by rfl, by decide, by decide⟩

/-- A routine under way, its number being given. -/
def trout (rout : Nat) : State :=
  { tv 2 with hart := { (tv 2).hart with recur := some { ({ obj := 0, div := 0, base := 0, comb := 0, nfw := 1, nrw := 1, fan := 2, dlim := 4, deovf := false, fsoff := 0, fssize := 0, stk := 0, stkb := 0, rootr := 0, w := 32, p := 1, phase := 1, lvl := 0, lfirst := 0, lcount := 1, rout := 0, nrec := 1, nproc := 0, next := 0, root := 0, vps := [{ vp := 0, record := 0, depth := 1, words := [], used := 0, kids := [], spawns := [], sites := [], ret := none }] } : RecRun) with rout := rout } } }

theorem witness_RecursionRowResults_routine :
    ∀ n, n ≤ 2 → ∃ r q, (trout n).hart.recur = some r ∧ (trout n).hart.rvp 0 = some q ∧ r.vps ≠ [] ∧ (trout n).hart.mask 0#3 0 = true ∧ r.rout = n ∧ (0#5 : Reg).toNat + r.nfw ≤ 32 ∧ q.spawns.length ≠ r.fan ∧ q.depth + 1 ≤ r.dlim ∧ r.nrw ≠ 0 ∧ (0#5 : Reg).toNat + r.nrw ≤ 32 :=
  by
  intro n h
  rcases n with _ | _ | _ | n
  · exact ⟨_, _, by rfl, by rfl, by simp, by decide, by rfl, by decide, by decide, by decide, by decide, by decide⟩
  · exact ⟨_, _, by rfl, by rfl, by simp, by decide, by rfl, by decide, by decide, by decide, by decide, by decide⟩
  · exact ⟨_, _, by rfl, by rfl, by simp, by decide, by rfl, by decide, by decide, by decide, by decide, by decide⟩
  · omega

/-- O44: and the last and the first value of each range. -/
theorem witness_MatrixStateResults :
    (tv 2).hart.fits ∧ (tv 2).hart.sew = 2 ∧ (tv 2).hart.vstart = 0 ∧ ∀ p ∈ [(Row.mmode, wordMmode { a := 4#5 }), (Row.mshape, wordMshape { d := 8#5, a := 4#5 }), (Row.mzero, wordMzero { d := 1#5 }), (Row.mrowv, wordMrowv { d := 8#5, a := 1#5, b := 6#5, k := 0#3 }), (Row.mcolv, wordMcolv { d := 8#5, a := 1#5, b := 6#5, k := 0#3 }), (Row.mvrow, wordMvrow { d := 1#5, a := 4#5, b := 6#5, c := 0#1, k := 0#3 }), (Row.mvcol, wordMvcol { d := 1#5, a := 4#5, b := 6#5, c := 0#1, k := 0#3 })], VReady (tv 2) p.1 p.2 :=
  ⟨by unfold Hart.fits; decide, by decide, by rfl, vready_of (by decide) (by decide)⟩

theorem witness_MatrixStateResults_slices :
    (tv 2).hart.activeList 0#3 ≠ [] ∧ (withV ts 2 0 0#64).hart.activeList 0#3 = [] ∧ ∀ p ∈ [(Row.mrowv, wordMrowv { d := 8#5, a := 1#5, b := 6#5, k := 0#3 }), (Row.mcolv, wordMcolv { d := 8#5, a := 1#5, b := 6#5, k := 0#3 }), (Row.mvrow, wordMvrow { d := 1#5, a := 4#5, b := 6#5, c := 0#1, k := 0#3 }), (Row.mvcol, wordMvcol { d := 1#5, a := 4#5, b := 6#5, c := 0#1, k := 0#3 })], VReady (withV ts 2 0 0#64) p.1 p.2 :=
  ⟨by decide, by decide, vready_of (by decide) (by decide)⟩

theorem witness_MatrixStateResults_ranges :
    (3#64 : Word).toNat < 4 ∧ 4 ≤ (4#64 : Word).toNat ∧ (127#64 : Word).toNat < 128 ∧ 128 ≤ (128#64 : Word).toNat ∧ (0x8080#64 : Word).toNat % 2 ^ 8 = 128 ∧ (0x8080#64 : Word).toNat / 2 ^ 8 % 2 ^ 8 = 128 ∧ (0x8080#64 : Word).toNat < 2 ^ 32 ∧ 128 < (0x8081#64 : Word).toNat % 2 ^ 8 ∧ 2 ^ 32 ≤ (0x100000101#64 : Word).toNat :=
  by decide

/-- A shape of one row, one column and one product; x6 holds the stride of a row. -/
def tmat (x6 : Word) : State :=
  let s := withX (tv 2) 6#5 x6
  { s with hart := { s.hart with csr := { s.hart.csr with mshape := 0x100010101#64 } } }

/-- O45. -/
theorem witness_OuterProductResults :
    (∀ p ∈ [(Row.opacc, wordOpacc { zd := 0#5, vs1 := 4#5, vs2 := 8#5, fa := 1#3, fb := 1#3, arnd := 0#3, xA := 0#5, xB := 0#5, kA := 0#3, kB := 0#3, kdep := 0#4, chk := 0#1 }), (Row.opsub, wordOpsub { zd := 0#5, vs1 := 4#5, vs2 := 8#5, fa := 1#3, fb := 1#3, arnd := 0#3, xA := 0#5, xB := 0#5, kA := 0#3, kB := 0#3, kdep := 0#4, chk := 0#1 }), (Row.opaccw, wordOpaccw { zd := 0#5, vs1 := 4#5, vs2 := 8#5, fa := 1#3, fb := 1#3, arnd := 0#3, xA := 0#5, xB := 0#5, kA := 0#3, kB := 0#3, kdep := 0#4, chk := 0#1 })], VReady (tmat 4#64) p.1 p.2) ∧ (State.hart (tmat 4#64)).vstart = 0 ∧ State.badShape (tmat 4#64) = false ∧ 1 ≤ (State.hart (tmat 4#64)).shKs ∧ 1 * (State.hart (tmat 4#64)).shM ≤ (State.hart (tmat 4#64)).vlmax / ((State.hart (tmat 4#64)).tileFmt 1).width ∧ 1 * (State.hart (tmat 4#64)).shN ≤ (State.hart (tmat 4#64)).vlmax / ((State.hart (tmat 4#64)).tileFmt 1).width ∧ (State.hart (tmat 4#64)).mRed = false ∧ 2 ≤ State.liveClusters (tmat 4#64) :=
  ⟨vready_of (by decide) (by decide), by rfl, by decide, by decide, by decide, by decide, by decide, by decide⟩

/-- O46; and a stride too short, and one that is no multiple of 4. -/
theorem witness_MatrixMemoryResults :
    (∀ p ∈ [(Row.mload, wordMload { d := 1#5, a := 4#5, b := 6#5 }), (Row.mdrain, wordMdrain { d := 1#5, a := 4#5, b := 6#5 })], VReady (tmat 4#64) p.1 p.2) ∧ (State.hart (tmat 4#64)).vstart = 0 ∧ State.badShape (tmat 4#64) = false ∧ (State.hart (tmat 4#64)).bridle = [] ∧ State.ulines (tmat 4#64) = [] ∧ (State.hart (tmat 4#64)).group = none ∧ (State.hart (tmat 4#64)).z = (State.hart (tmat 4#64)).zchk ∧
    (0x10040#64 : Word).toNat % 4 = 0 ∧ (4#64 : Word).toNat % 4 = 0 ∧ 4 * (State.hart (tmat 4#64)).shN ≤ (4#64 : Word).toNat ∧
    (∀ r c, r < (State.hart (tmat 4#64)).shM → c < (State.hart (tmat 4#64)).shN → ∃ leaf, State.access (tmat 4#64) ((0x10040 + r * 4 + 4 * c) % 2 ^ 64) 4 4 .load true = .ok (.phys 0x10040 leaf) (tmat 4#64) ∧ State.access (tmat 4#64) ((0x10040 + r * 4 + 4 * c) % 2 ^ 64) 4 4 .store false = .ok (.phys 0x10040 leaf) (tmat 4#64)) :=
  by
  refine ⟨vready_of (by decide) (by decide), by rfl, by decide, by rfl, by rfl, by rfl, by decide +kernel, by decide, by decide, by decide, fun r c hr hc => ?_⟩
  have h1 : (State.hart (tmat 4#64)).shM = 1 := by decide
  have h2 : (State.hart (tmat 4#64)).shN = 1 := by decide
  obtain rfl : r = 0 := by omega
  obtain rfl : c = 0 := by omega
  exact ⟨codeLeaf, by rfl, by rfl⟩

theorem witness_MatrixMemoryResults_stride :
    VReady (tmat 3#64) .mdrain (wordMdrain { d := 1#5, a := 4#5, b := 6#5 }) ∧ (3#64 : Word).toNat < 4 * (State.hart (tmat 3#64)).shN ∧ (5#64 : Word).toNat % 4 ≠ 0 :=
  ⟨vready_one (by decide) (by decide), by decide, by decide⟩

/-- Window 0 of accumulation on the page at 0x20000, an operation, and x4 naming its start. -/
def tacc (op : Nat) : State :=
  let s := withX (tv 2) 4#5 0x20000#64
  let t := s.stableAt s.hart.stable
  let s := { s with hart := { s.hart with csr := { s.hart.csr with
    awbase := s.hart.csr.awbase.set 0 0x20000#64, awcfg := s.hart.csr.awcfg.set 0 (BitVec.ofNat 64 (1 + op * 16 + 2 ^ 24)) } } }
  s.putStable { t with tlb := { ctx := 0, level := 3, vpn := 2, leaf := 0x200FF#64 } :: t.tlb }

/-- O47: both elements at one address. -/
theorem witness_AccumulationResults :
    (tacc 0).hart.fits ∧ (tacc 0).hart.bridle = [] ∧ (tacc 0).hart.group = none ∧ (tacc 0).failing = [] ∧ (tacc 0).hart.vstart = 0 ∧ (∀ p ∈ [(Row.vacc, wordVacc { d := 8#5, a := 4#5, b := 6#5, c := 0#1, k := 0#3 }), (Row.sacc, wordSacc { a := 4#5, b := 6#5 }), (Row.amerge, wordAmerge { a := 4#5, b := 6#5 })], VReady (tacc 0) p.1 p.2) ∧ ((tacc 0).hart.width = 32 ∨ (tacc 0).hart.width = 64) ∧
    (tacc 0).hart.count = 2 ∧ (∃ tg, State.accTargetAt (tacc 0) (some (tacc 0).hart.width) 0x20000 = .ok tg (tacc 0) ∧ State.accTargetAt (tacc 0) none 0x20000 = .ok tg (tacc 0) ∧ tg.op ≠ 12) ∧ (tacc 0).hart.el 6#5 32 0 = 0 ∧ (tacc 0).hart.el 6#5 32 1 = 0 ∧
    ∃ u, (tacc 0).mergeVirtual 0x20000 0 = .ok () u :=
  ⟨by unfold Hart.fits; decide, by rfl, by rfl, by rfl, by rfl, vready_of (by decide) (by decide), by decide, by decide, ⟨_, by rfl, by rfl, by decide⟩, by decide +kernel, by decide +kernel, ⟨_, by rfl⟩⟩

theorem witness_AccumulationResults_range :
    VReady (withX (tv 2) 4#5 0x100000000000000#64) .amerge (wordAmerge { a := 4#5, b := 6#5 }) ∧ 2 ^ 56 ≤ (0x100000000000000#64 : Word).toNat :=
  ⟨vready_one (by decide) (by decide), by decide⟩

/-- The lanes idle, with `n` entries in the queue. -/
def tidle (n : Nat) : State :=
  { tv 2 with laneEager := false, hart := { (tv 2).hart with queue := List.replicate n ((tv 2).hart.entry .vaddVV 0x018C4106#64 0#64 []) } }

/-- O48: an empty queue, one place left, none; vector state off; a block that is none. -/
theorem witness_IssueResults :
    (∀ n ∈ [0, 31, 32], Row.isVec .vaddVV (encode (Row.vaddVV.instr 0x018C4106#64)) = true ∧ (tidle n).decodeStop .vaddVV (encode (Row.vaddVV.instr 0x018C4106#64)) = none ∧ (tidle n).hart.mustWait .vaddVV (encode (Row.vaddVV.instr 0x018C4106#64)) = false ∧ (tidle n).hart.queue.length = n ∧
      ((tidle n).hart.queue.filter (fun e => e.dest.isSome && (e.state != 0 || e.ret.isSome))).length < 8 ∧ (tidle n).laneEager = false) ∧
    (∃ c, State.decodeStop { tv 2 with hart := { (tv 2).hart with csr := { (tv 2).hart.csr with status := 0x10#64 } } } .vaddVV (encode (Row.vaddVV.instr 0x018C4106#64)) = some c) ∧ (tidle 0).blockFor .vaddVV (encode (Row.vaddVV.instr 0x018C4106#64)) = .ok [] (tidle 0) ∧
    ∃ c m, (tidle 0).blockFor .vfetch (encode (Row.vfetch.instr (wordVfetch { a := 4#5 }))) = .stop c m :=
  ⟨by decide, ⟨_, by rfl⟩, by rfl, ⟨_, _, by rfl⟩⟩

/-- The lanes idle, with `n` entries that have still to write x6. -/
def tslots (n : Nat) : State :=
  { tv 2 with laneEager := false, hart := { (tv 2).hart with queue := List.replicate n ((tv 2).hart.entry .kpop (wordKpop { d := 6#5, b := 6#3, e := 0#1, k := 0#3 }) 0#64 []) } }

/-- A result slot left, and none; an operand that is still to be written. -/
theorem witness_IssueResults_slots :
    Row.isVec .kpop (encode (Row.kpop.instr (wordKpop { d := 6#5, b := 6#3, e := 0#1, k := 0#3 }))) = true ∧ (Row.xDest .kpop (encode (Row.kpop.instr (wordKpop { d := 6#5, b := 6#3, e := 0#1, k := 0#3 })))).isSome = true ∧ (∀ n ∈ [7, 8], (tslots n).decodeStop .kpop (encode (Row.kpop.instr (wordKpop { d := 6#5, b := 6#3, e := 0#1, k := 0#3 }))) = none ∧ ((tslots n).hart.queue.filter (fun e => e.dest.isSome && (e.state != 0 || e.ret.isSome))).length = n) ∧ (tslots 0).hart.mustWait .kpop (encode (Row.kpop.instr (wordKpop { d := 6#5, b := 6#3, e := 0#1, k := 0#3 }))) = false ∧ Row.isVec .vaddVX (encode (Row.vaddVX.instr (wordVaddVX { d := 8#5, a := 4#5, b := 6#5, c := 0#1, k := 0#3 }))) = true ∧ (tslots 1).decodeStop .vaddVX (encode (Row.vaddVX.instr (wordVaddVX { d := 8#5, a := 4#5, b := 6#5, c := 0#1, k := 0#3 }))) = none ∧ (tslots 1).hart.mustWait .vaddVX (encode (Row.vaddVX.instr (wordVaddVX { d := 8#5, a := 4#5, b := 6#5, c := 0#1, k := 0#3 }))) = true :=
  by decide

/-- A block at 0x10040 that reads x6, which an entry has still to write where `n` is 1. -/
def tblock (n : Nat) : State :=
  let s := tslots n
  withX { s with mem := (s.mem.writeN 0x10040 4 (wordVaddVX { d := 8#5, a := 4#5, b := 6#5, c := 0#1, k := 0#3 }).toNat).writeN 0x10044 4 0x04000002 } 4#5 0x10040#64

theorem witness_IssueResults_block :
    (∀ n ∈ [0, 1], (tblock n).decodeStop .vfetch (encode (Row.vfetch.instr (wordVfetch { a := 4#5 }))) = none ∧ (tblock n).hart.mustWait .vfetch (encode (Row.vfetch.instr (wordVfetch { a := 4#5 }))) = false) ∧ (tblock 0).ulines = [] ∧ (∃ b m, (tblock 0).blockFor .vfetch (encode (Row.vfetch.instr (wordVfetch { a := 4#5 }))) = .ok b m ∧ m.laneEager = false ∧ ∀ x ∈ m.hart.blockReads b, x ∉ m.hart.pendingX) ∧ ∃ b m, (tblock 1).blockFor .vfetch (encode (Row.vfetch.instr (wordVfetch { a := 4#5 }))) = .ok b m ∧ ∃ x ∈ m.hart.blockReads b, x ∈ m.hart.pendingX :=
  ⟨by decide, by rfl, ⟨_, _, by rfl, by rfl, by decide⟩, ⟨_, _, by rfl, by decide⟩⟩

/-- O49: a grant of one cluster, and of two. -/
theorem witness_LaneManagementResults :
    tx.hart.run = .running ∧ (∀ p ∈ [(Row.vsetl, wordVsetl { d := 8#5, a := 4#5, b := 6#5 }), (Row.vlease, wordVlease { d := 8#5, a := 4#5, b := 6#5 }), (Row.vcommit, wordVcommit), (Row.vfork, wordVfork { d := 8#5, a := 4#5 }), (Row.vjoin, wordVjoin { d := 8#5, a := 4#5 })], VReady tx p.1 p.2 ∧ VReady ({ tx with hart := { tx.hart with csr := { tx.hart.csr with grant := 2 } } } : State) p.1 p.2) ∧ ((127#64 : Word).toNat < 128 ∧ bits (124#64 : Word) 0 3 < 5 ∧ 128 ≤ (128#64 : Word).toNat ∧ 5 ≤ bits (5#64 : Word) 0 3) ∧ badTarget (tx.hart.getX 4#5) = none ∧ tx.hart.bridle = [] ∧
    (∃ j, tx.job = some j ∧ tx.hart.csr.grant < 2) ∧
    (∃ j id, State.job ({ tx with hart := { tx.hart with csr := { tx.hart.csr with grant := 2 } } } : State) = some j ∧ State.freeCore ({ tx with hart := { tx.hart with csr := { tx.hart.csr with grant := 2 } } } : State) (State.hart ({ tx with hart := { tx.hart with csr := { tx.hart.csr with grant := 2 } } } : State)).stable = some id ∧ 2 ≤ (State.hart ({ tx with hart := { tx.hart with csr := { tx.hart.csr with grant := 2 } } } : State)).csr.grant ∧ j.members.length < 8 ∧
      State.banksFit ({ tx with hart := { tx.hart with csr := { tx.hart.csr with grant := 2 } } } : State) (State.hart ({ tx with hart := { tx.hart with csr := { tx.hart.csr with grant := 2 } } } : State)).stable (extraBanks (bits (State.hart ({ tx with hart := { tx.hart with csr := { tx.hart.csr with grant := 2 } } } : State)).csr.vcfg 35 2)) = true ∧
      State.minSum ({ tx with hart := { tx.hart with csr := { tx.hart.csr with grant := 2 } } } : State) (State.hart ({ tx with hart := { tx.hart with csr := { tx.hart.csr with grant := 2 } } } : State)).stable - (State.hart ({ tx with hart := { tx.hart with csr := { tx.hart.csr with grant := 2 } } } : State)).csr.leaseMin + max 1 ((State.hart ({ tx with hart := { tx.hart with csr := { tx.hart.csr with grant := 2 } } } : State)).csr.leaseMin - (State.hart ({ tx with hart := { tx.hart with csr := { tx.hart.csr with grant := 2 } } } : State)).csr.grant / 2) + 1 ≤ (State.stableAt ({ tx with hart := { tx.hart with csr := { tx.hart.csr with grant := 2 } } } : State) (State.hart ({ tx with hart := { tx.hart with csr := { tx.hart.csr with grant := 2 } } } : State)).stable).live) :=
  ⟨by rfl, fun p hp => ⟨vready_of (by decide) (by decide) p hp, vready_of (by decide) (by decide) p hp⟩, by decide, by rfl, by rfl, ⟨_, by rfl, by decide⟩, ⟨_, _, by rfl, by rfl, by decide, by decide, by decide, by decide⟩⟩

/-- A parent that has forked member 1, which has halted; x4 names it. -/
def tjoin : State :=
  let s := withX ts 4#5 1#64
  let child : Hart := { s.hart with id := 1, run := .halted, csr := { s.hart.csr with member := 1 } }
  { s with hart := { s.hart with forks := [{ member := 1, k := 1, d := 1 }] }, others := child :: s.others,
           jobs := s.jobs.map (fun j => { j with members := j.members ++ [{ n := 1, hart := 1, launched := false, halted := true }] }) }

theorem witness_LaneManagementResults_join :
    VReady tjoin .vjoin (wordVjoin { d := 8#5, a := 4#5 }) ∧ findBy (fun f : Fork => f.member == (tx.hart.getX 4#5).toNat) tx.hart.forks = none ∧
    ∃ f j m c, findBy (fun f : Fork => f.member == (tjoin.hart.getX 4#5).toNat) tjoin.hart.forks = some f ∧ tjoin.job = some j ∧ findBy (fun m : Member => m.n == f.member) j.members = some m ∧ tjoin.findHart m.hart = some c ∧ c.idle = true :=
  ⟨vready_one (by decide) (by decide), by rfl, ⟨_, _, _, _, by rfl, by rfl, by rfl, by rfl, by decide⟩⟩

/-- A block of one instruction at 0x10040, which x4 and x12 name; x6 holds the strips of a loop. -/
def tblk (w sew vl : Nat) (x6 : Word) : State :=
  withX (withV { tx with mem := (tx.mem.writeN 0x10040 4 w).writeN 0x10044 4 0x04000002 } sew vl 0#64) 6#5 x6

/-- The state after the block at x4 has been read. -/
def afterRead (s : State) : State := match s.readBlock 0x10040#64 with | .ok _ t => t | _ => s

/-- O50: a block with elements, and with none. -/
theorem witness_BlockResults_some :
    (∀ p ∈ [(Row.vfetch, wordVfetch { a := 4#5 }), (Row.cVfetch, wordCVfetch { a := 4#5 }), (Row.vfetchw, wordVfetchw { a := 4#5, k := 1#3 }), (Row.vloop, wordVloop { a := 4#5, b := 6#5 })], VReady (tblk 0x018C4106 2 2 1#64) p.1 p.2) ∧ (∀ p ∈ [(Row.vfetch, wordVfetch { a := 4#5 }), (Row.cVfetch, wordCVfetch { a := 4#5 }), (Row.vfetchw, wordVfetchw { a := 4#5, k := 1#3 }), (Row.vloop, wordVloop { a := 4#5, b := 6#5 })], VReady (afterRead (tblk 0x018C4106 2 2 1#64)) p.1 p.2) ∧ (∃ b, (tblk 0x018C4106 2 2 1#64).readBlock 0x10040#64 = .ok b (afterRead (tblk 0x018C4106 2 2 1#64)) ∧ b ≠ [] ∧ (afterRead (tblk 0x018C4106 2 2 1#64)).hart.vstart = 0 ∧ 0 < (afterRead (tblk 0x018C4106 2 2 1#64)).hart.count ∧ (afterRead (tblk 0x018C4106 2 2 1#64)).hart.count ≤ (afterRead (tblk 0x018C4106 2 2 1#64)).hart.perGroup ∧ (afterRead (tblk 0x018C4106 2 2 1#64)).hart.csr.vsc.toNat < 1 ∧
      (∃ t, (State.queued (afterRead (tblk 0x018C4106 2 2 1#64)) .vfetch (wordVfetch { a := 4#5 }) b 4).runGroup b 0x10040#64 (rangeElems 0 (afterRead (tblk 0x018C4106 2 2 1#64)).hart.count) = .done t) ∧
      (∃ t, (State.queued (afterRead (tblk 0x018C4106 2 2 1#64)) .vfetchw (wordVfetchw { a := 4#5, k := 1#3 }) b 4).runGroup b 0x10040#64 ((rangeElems 0 (afterRead (tblk 0x018C4106 2 2 1#64)).hart.count).filter (fun p => (afterRead (tblk 0x018C4106 2 2 1#64)).hart.mask 1#3 p.2)) = .done t ∧
        t.hart.queue = (State.queued (afterRead (tblk 0x018C4106 2 2 1#64)) .vfetchw (wordVfetchw { a := 4#5, k := 1#3 }) b 4).hart.queue ∧ t.hart.count = (afterRead (tblk 0x018C4106 2 2 1#64)).hart.count ∧ t.hart.perGroup = (afterRead (tblk 0x018C4106 2 2 1#64)).hart.perGroup)) :=
  ⟨vready_of (by decide) (by decide), vready_of (by decide) (by decide), ⟨_, by rfl, by simp, by rfl, by decide, by decide, by decide, ⟨_, by rfl⟩, ⟨_, by rfl, by rfl, by rfl, by rfl⟩⟩⟩

theorem witness_BlockResults_none :
    (∀ p ∈ [(Row.vfetch, wordVfetch { a := 4#5 }), (Row.cVfetch, wordCVfetch { a := 4#5 }), (Row.vfetchw, wordVfetchw { a := 4#5, k := 1#3 }), (Row.vloop, wordVloop { a := 4#5, b := 6#5 })], VReady (tblk 0x018C4106 2 0 0#64) p.1 p.2) ∧ (∀ p ∈ [(Row.vfetch, wordVfetch { a := 4#5 }), (Row.cVfetch, wordCVfetch { a := 4#5 }), (Row.vfetchw, wordVfetchw { a := 4#5, k := 1#3 }), (Row.vloop, wordVloop { a := 4#5, b := 6#5 })], VReady (afterRead (tblk 0x018C4106 2 0 0#64)) p.1 p.2) ∧ (∃ b, (tblk 0x018C4106 2 0 0#64).readBlock 0x10040#64 = .ok b (afterRead (tblk 0x018C4106 2 0 0#64)) ∧ b ≠ [] ∧ (afterRead (tblk 0x018C4106 2 0 0#64)).hart.count = 0 ∧ (afterRead (tblk 0x018C4106 2 0 0#64)).hart.vstart = 0 ∧ 0 ≤ (afterRead (tblk 0x018C4106 2 0 0#64)).hart.csr.vsc.toNat) :=
  ⟨vready_of (by decide) (by decide), vready_of (by decide) (by decide), ⟨_, by rfl, by simp, by decide, by rfl, by decide⟩⟩

theorem witness_BlockResults_fault :
    ∃ b, State.readBlock (withFen (tblk (wordVdivVV { d := 1#5, a := 2#5, b := 3#5, c := 0#1, e := 0#1, k := 0#3 }).toNat 2 2 0#64) 0x20#64) 0x10040#64 = .ok b (afterRead (withFen (tblk (wordVdivVV { d := 1#5, a := 2#5, b := 3#5, c := 0#1, e := 0#1, k := 0#3 }).toNat 2 2 0#64) 0x20#64)) ∧ ∃ p x t, (State.queued (afterRead (withFen (tblk (wordVdivVV { d := 1#5, a := 2#5, b := 3#5, c := 0#1, e := 0#1, k := 0#3 }).toNat 2 2 0#64) 0x20#64)) .vfetch (wordVfetch { a := 4#5 }) b 4).runGroup b 0x10040#64 (rangeElems 0 (State.hart (withFen (tblk (wordVdivVV { d := 1#5, a := 2#5, b := 3#5, c := 0#1, e := 0#1, k := 0#3 }).toNat 2 2 0#64) 0x20#64)).count) = .fault p x t :=
  ⟨_, by rfl, ⟨_, _, _, by rfl⟩⟩

theorem witness_BlockResults_vstart :
    (∀ p ∈ [(Row.vfetchw, wordVfetchw { a := 4#5, k := 1#3 }), (Row.vloop, wordVloop { a := 4#5, b := 6#5 }), (Row.recur, wordRecur { d := 8#5, a := 4#5, b := 6#5 })], VReady { (tblk 0x018C4106 2 2 0#64) with hart := { ((tblk 0x018C4106 2 2 0#64)).hart with csr := { ((tblk 0x018C4106 2 2 0#64)).hart.csr with vstart := 1#64 } } } p.1 p.2) ∧ (State.hart { (tblk 0x018C4106 2 2 0#64) with hart := { ((tblk 0x018C4106 2 2 0#64)).hart with csr := { ((tblk 0x018C4106 2 2 0#64)).hart.csr with vstart := 1#64 } } }).vstart ≠ 0 :=
  ⟨vready_of (by decide) (by decide), by decide⟩

/-- A recursion object at 0x10040 with a scratchpad of 1,024 bytes; x6 is 0, so that the root is the object's. -/
def trec : State :=
  { tv 2 with
    mem := [(0x10042, 1#8), (0x1004A, 1#8), (0x10058, 1#8), (0x1005A, 1#8), (0x1005B, 1#8), (0x10065, 1#8), (0x10069, 2#8), (0x1006A, 1#8), (0x10070, 16#8), (0x10079, 3#8), (0x1007A, 1#8)]
    jobs := (tv 2).jobs.map (fun j => { j with spbytes := 1024 }) }

theorem witness_BlockResults_recur :
    VReady trec .recur (wordRecur { d := 8#5, a := 4#5, b := 6#5 }) ∧ trec.hart.recur = none ∧ trec.hart.vstart = 0 ∧ trec.hart.width = 32 ∧
    ∃ r t, (trec.queued .recur (wordRecur { d := 8#5, a := 4#5, b := 6#5 }) [] 4).recurStart (trec.hart.entry .recur (wordRecur { d := 8#5, a := 4#5, b := 6#5 }) trec.hart.pc []) = .ok r t :=
  ⟨vready_one (by decide) (by decide), by rfl, by rfl, by decide, ok_of (by decide +kernel)⟩

theorem witness_BlockResults_recur_stops :
    VReady (tv 1) .recur (wordRecur { d := 8#5, a := 4#5, b := 6#5 }) ∧ (tv 1).hart.recur = none ∧ (tv 1).hart.width ≠ 32 ∧ (tv 1).hart.width ≠ 64 ∧ VReady (withX (tv 2) 4#5 0x10048#64) .recur (wordRecur { d := 8#5, a := 4#5, b := 6#5 }) ∧ (0x10048#64 : Word).toNat % 64 ≠ 0 :=
  ⟨vready_one (by decide) (by decide), by rfl, by decide, by decide, vready_one (by decide) (by decide), by decide⟩

/-! ## Device events -/

/-- The part after the launch, with its bring-up complete and with none of it failing. -/
def tready : State := { ts with ready := true, dies := ts.dies.map (fun d => { d with run := .running }) }

/-- O51: offsets where the clauses meet are 24, 32, 40 and 64 of the wake window. -/
theorem witness_HostPortResults :
    MemOk ts ∧ ts.hsem ≠ 0 + 1 ∧ (State.hsem { ts with hsem := 1 }) = 0 + 1 ∧ (ts.portAt 0).waiting = [] ∧ (ts.portAt 0).events = [] ∧ (ts.portAt 0).writes = [] ∧ ts.hostFn 5 = false ∧ State.hostFn { ts with funcmode := 0x3F3F#64 } 5 = true ∧
    ts.ready = false ∧ ts.recovery = false ∧ State.recovery { ts with recovery := true } = true ∧ ts.cfglock = false ∧ State.cfglock { ts with cfglock := true } = true ∧ (ts.portAt 0).up = true ∧
    (tready.portAt 0).up = true ∧ tready.ready = true ∧ tready.ulines = [] ∧ tready.movedLine ((deviceTop - 8) / 128) = false ∧ deviceTop - 8 + 8 ≤ deviceTop ∧ tready.failsAt (deviceTop - 8) 8 = false ∧
    State.failsAt { tready with failing := [0] } 0 8 = true ∧ MemOk tready ∧ (State.portAt { ts with ports := [{ Port.reset 0 with up := false }] } 0).up = false :=
  ⟨by unfold MemOk; decide, by decide, by rfl, by rfl, by rfl, by rfl, by decide, by decide, by rfl, by rfl, by rfl, by rfl, by rfl, by decide, by decide, by rfl, by rfl, by decide, by decide, by decide, by decide, by unfold MemOk; decide, by decide⟩

theorem witness_HostPortResults_offsets :
    24 % 8 = 0 ∧ 24 < 32 ∧ 32 < 40 ∧ 40 % 8 = 0 ∧ 40 < 64 ∧ 64 ≤ 64 ∧ 25 % 8 ≠ 0 ∧ 2 ^ 26 - 8 + 8 ≤ 2 ^ 26 ∧ 2 ^ 26 < 2 ^ 26 - 7 + 8 ∧ deviceTop < deviceTop - 7 + 8 ∧ 2 ≤ 7 ∧ 7 < 8 ∧ 0x10000 % 8 = 0 ∧ 0x10000 ≤ 0x10000 :=
  by decide

theorem witness_HostPortResults_events :
    (∃ e l, ({ Port.reset 0 with waiting := [{ source := 1, cause := 0, die := 0, seq := 7, value := 0#64, ctx := 0, detail := 0#64 }] } : Port).waiting = e :: l) ∧
    (∃ e l, ({ Port.reset 0 with events := [{ source := 2, cause := 0, die := 0, seq := 7, value := 0#64, ctx := 0, detail := 0#64 }] } : Port).events = e :: l ∧ e.seq = bits (7#64 : Word) 0 32 ∧ e.seq ≠ bits (8#64 : Word) 0 32 ∧ e.source ≠ 1 ∧ e.source ≠ 6 ∧ ({ Port.reset 0 with events := [{ source := 2, cause := 0, die := 0, seq := 7, value := 0#64, ctx := 0, detail := 0#64 }] } : Port).waiting = []) :=
  ⟨⟨_, _, rfl⟩, ⟨_, _, rfl, by decide, by decide, by decide, by decide, rfl⟩⟩

/-- A capability that fails, and one that holds every right. -/
theorem witness_HostPortResults_seals :
    (∃ c, ts.capFails 0#64 0#64 0#64 0#64 [.wake, .host] = some c) ∧ (capOf 0#64 0#64 0#64 0#64).formOk = false ∧ (capOf d0 (d1 1) 0#64 0#64).formOk = true ∧
    ts.capFails d0 (d1 1) 0#64 (sealNow 1) [.wake, .host] = none ∧ ts.capFails d0 (d1 1) 0#64 (sealNow 1) [.admin] = none ∧
    ∃ x t, State.ringWake (tring 1 0#64 (ringWith [])) { unitWho 0 0 0#64 with service := false } (capNow 1) 0 = .ok x t :=
  ⟨⟨_, by rfl⟩, by decide, by decide, checks_of (by decide) (by decide) (by decide) (sealNow_eq ts 1 rfl), checks_of (by decide) (by decide) (by decide) (sealNow_eq ts 1 rfl), ⟨_, _, by rfl⟩⟩

/-- The groom scratchpad of die 0 with a reply to the record of slot 0, `posted` records having been posted. -/
def treply (n posted : Nat) : Die := { ts.dieAt 0 with faultAt := posted, pad := [(8192 + 16, BitVec.ofNat 8 n)] }

theorem witness_HostPortResults_offers :
    ∀ n ∈ [0, 1, 2], ((treply n 1).pad.read (8192 + 64 * 0 + 16)).toNat = n ∧ (treply n 1).pad.readN (8192 + 64 * 0 + 8) 8 / 2 ^ 24 % 4096 = ts.hart.id ∧ (treply n 1).pad.readN (8192 + 64 * 0 + 8) 8 / 2 ^ 24 % 4096 ≠ 0xFFF ∧ ts.hart.id < 2304 ∧
    ((treply n 1).faultAt + 31 - 0) / 32 ≠ 0 ∧ ((treply n 0).faultAt + 31 - 0) / 32 = 0 :=
  by decide

theorem witness_HostPortResults_wake :
    ∃ x t, State.ringWake ts { unitWho 0 0 0#64 with service := false } (capNow 1) 0 = .stop x t :=
  ⟨_, _, by rfl⟩

/-- Links 0 to 3 join this device to its buddy, which holds its checkpoint. -/
def tbuddy (links : Nat) : State :=
  { ts with
    linkTo := (countFrom 0 links).map (fun l => (l, if ts.device % 2 = 0 then ts.device + 1 else ts.device - 1))
    checkpts := [(ts.device, { mem := [], ranges := [{ lo := 0, len := 8 }], failing := [], rings := [], graphs := [] })] }

/-- O52. -/
theorem witness_PowerAndErrorResults :
    MemOk ts ∧ ts.ulines = [] ∧ ts.recovery = false ∧ State.recovery { ts with recovery := true } = true ∧ (State.hsem { ts with hsem := 1 }) = 0 + 1 ∧ ts.homes = [] ∧
    (∀ k, k < 4 → ts.failing.contains (0 / 128 * 4 + k) = false) ∧ (ts.portAt 0).cethr = 0 ∧ (ts.portAt 1).cethr = 0 ∧ ts.initNext < 589824 ∧ 589824 ≤ State.initNext { ts with initNext := 589824 } ∧ MemInv ts :=
  ⟨by unfold MemOk; decide, by rfl, by rfl, by rfl, by rfl, by rfl, by decide, by rfl, by rfl, by decide, by decide, ⟨by decide, by decide, by decide, by decide, by decide, by decide⟩⟩

/-- A stage that fails, one by its security version, and each stage passed. -/
theorem witness_PowerAndErrorResults_stages :
    ts.bringup = false ∧ State.bringup { ts with bringup := true, stage := 3 } = true ∧ (1 % 256 ≠ 0 ∧ bootError 1 (1 % 256) ≠ 0) ∧ (3 = 3 ∧ 0 / 512 < State.secver { ts with bringup := true, stage := 3, secver := 1 }) ∧
    (∀ st ∈ [1, 2, 3, 4, 5, 6, 7, 8, 9], ¬ ((0x300 % 256 ≠ 0 ∧ bootError st (0x300 % 256) ≠ 0) ∨ (st = 3 ∧ 0x300 / 512 < 1))) ∧ bootError 4 (1 % 256) = 0 ∧ bootError 8 (1 % 256) = 0 ∧ bootError 9 (1 % 256) = 0 ∧ 0x300 / 256 % 2 = 1 :=
  by decide

theorem witness_PowerAndErrorResults_others :
    ts.linkDown.contains 0 = false ∧ (State.linkDown { ts with linkDown := [0] }).contains 0 = true ∧ 15 ≤ State.replaysOf { ts with replays := [(0, 15)] } 0 ∧ State.replaysOf { ts with replays := [(0, 14)] } 0 < 15 ∧ deviceTop - 1 < deviceTop ∧
    (2 ^ 37 < (2 ^ 37 - 7) + 8 ∧ 2 ^ 37 - 8 + 8 ≤ 2 ^ 37) ∧ (State.peers { ts with peers := [5] }).contains 5 = true ∧ ts.failedDev.contains 5 = false ∧ 5 < 8192 ∧ (State.failedDev { ts with failedDev := [5] }).contains 5 = true ∧ tready.ready = true ∧
    ts.exportSlice * 2 ^ 37 + 0 + 8 ≤ deviceTop ∧ ts.movedLine ((ts.exportSlice * 2 ^ 37 + 0) / 128) = false ∧ ts.failsAt (ts.exportSlice * 2 ^ 37 + 0) 8 = false ∧ State.movedLine { ts with movedPages := [0] } 0 = true :=
  by decide +kernel

theorem witness_PowerAndErrorResults_checkpoints :
    findBy (fun p : Nat × Checkpoint => p.1 == ts.device) ts.checkpts = none ∧ (∀ n ∈ [3, 4], ((State.linksTo (tbuddy n) (if (tbuddy n).device % 2 = 0 then (tbuddy n).device + 1 else (tbuddy n).device - 1)).filter (fun l => !(tbuddy n).linkDown.contains l)).length = n) ∧
    MemInv (tbuddy 4) ∧ ∃ c, findBy (fun p : Nat × Checkpoint => p.1 == (tbuddy 4).device) (tbuddy 4).checkpts = some ((tbuddy 4).device, c) ∧ c.graphs = [] ∧ inRanges c.ranges 0 = true ∧ inRanges c.ranges 8 = false ∧ c.mem.read 8 = 0#8 :=
  ⟨by rfl, by decide, ⟨by decide, by decide, by decide, by decide, by decide, by decide⟩, ⟨_, by rfl, by rfl, by decide, by decide, by decide⟩⟩

/-- O53: the last agent, the last line of the part, and the first beyond. -/
theorem witness_CoherenceResults :
    (ts.dieAt 0).run = .running ∧ (ts.dieAt (homeDie 5)).run = .running ∧ devLine (deviceTop / 128 - 1) = true ∧ devLine (deviceTop / 128) = false ∧ devLine 5 = true ∧ ts.movedLine 5 = false ∧
    (ts.dirAt 0 5).ask = none ∧ (ts.dirAt 0 5).rest = [] ∧ (ts.dirAt 0 5).recalling = none ∧ (ts.homeAt 5).ask = none ∧ (ts.homeAt 5).rest = [] ∧ (ts.homeAt 5).state = .i ∧ (ts.homeAt 5).holders = 0#7 ∧ (ts.homeAt 5).ports = 0#2 ∧ ts.coh.filterVictim 5 = none ∧ ts.ulines = [] ∧ (ts.homeAt 5).state ≠ .u ∧
    findBy (fun u : ULine => u.line == 5) ts.ulines = none ∧ (ts.portAt 0).up = true ∧ (ts.portAt 0).pending = [] ∧ ts.ready = false ∧ ts.homes = [] ∧ MemOk ts ∧ (∀ m ∈ ts.hart.moved, m.1 / 128 ≠ 5) :=
  ⟨by decide, by decide, by decide, by decide, by decide, by decide, by rfl, by rfl, by rfl, by rfl, by rfl, by rfl, by rfl, by rfl, by rfl, by rfl, by decide, by rfl, by decide, by rfl, by rfl, by rfl, by unfold MemOk; decide, by decide⟩

theorem witness_CoherenceResults_host :
    (tready.portAt 0).up = true ∧ tready.ready = true ∧ (tready.dieAt (homeDie ((deviceTop - 8) / 128))).run = .running ∧ tready.movedLine ((deviceTop - 8) / 128) = false ∧ tready.ulines = [] ∧ tready.homes = [] ∧ (tready.portAt 0).pending = [] ∧ MemOk tready ∧
    tready.failsAt (deviceTop - 8) 8 = false ∧ (State.dieAt { tready with dies := [{ ts.dieAt 0 with run := .reset }] } 0).run ≠ .running ∧ (State.portAt { ts with ports := [{ Port.reset 0 with up := false }] } 0).up = false :=
  ⟨by decide, by rfl, by decide, by decide, by rfl, by rfl, by rfl, by unfold MemOk; decide, by decide, by decide, by decide⟩

/-- A directory entry of line 5 in die 0. -/
def tdir (e : DirEntry) : State := { ts with coh := { ts.coh with dir := [{ e with die := 0, line := 5 }] } }

/-- A home entry of line 5. -/
def thome (e : HomeEntry) : State := { ts with coh := { ts.coh with homes := [{ e with line := 5 }] } }

theorem witness_CoherenceResults_directory :
    (((tdir ({ DirEntry.empty 0 5 with perm := 1, st := 1 })).dirAt 0 5).ask = none ∧ ((tdir ({ DirEntry.empty 0 5 with perm := 1, st := 1 })).dirAt 0 5).rest = [] ∧ ((tdir ({ DirEntry.empty 0 5 with perm := 1, st := 1 })).dirAt 0 5).recalling = none ∧ ((tdir ({ DirEntry.empty 0 5 with perm := 1, st := 1 })).dirAt 0 5).st ≤ 1 ∧ ((tdir ({ DirEntry.empty 0 5 with perm := 1, st := 1 })).dirAt 0 5).perm = 1) ∧
    (((tdir ({ DirEntry.empty 0 5 with perm := 2, st := 3, ptrs := [3] })).dirAt 0 5).ask = none ∧ ((tdir ({ DirEntry.empty 0 5 with perm := 2, st := 3, ptrs := [3] })).dirAt 0 5).rest = [] ∧ ((tdir ({ DirEntry.empty 0 5 with perm := 2, st := 3, ptrs := [3] })).dirAt 0 5).recalling = none ∧ ((tdir ({ DirEntry.empty 0 5 with perm := 2, st := 3, ptrs := [3] })).dirAt 0 5).st ≠ 4 ∧ ((tdir ({ DirEntry.empty 0 5 with perm := 2, st := 3, ptrs := [3] })).dirAt 0 5).perm = 2 ∧ ((tdir ({ DirEntry.empty 0 5 with perm := 2, st := 3, ptrs := [3] })).dirAt 0 5).others 3 = [] ∧ ((tdir ({ DirEntry.empty 0 5 with perm := 2, st := 3, ptrs := [3] })).dirAt 0 5).crs = false ∧
      ((tdir ({ DirEntry.empty 0 5 with perm := 2, st := 3, ptrs := [3] })).dirAt 0 5).st = 3 ∧ ((tdir ({ DirEntry.empty 0 5 with perm := 2, st := 3, ptrs := [3] })).dirAt 0 5).ptrs.contains 3 = true) ∧
    (∃ g, ((tdir ({ DirEntry.empty 0 5 with ask := some { req := { line := 5, kind := 1, who := 1 }, due := [3], acks := [] } })).dirAt 0 5).ask = some g ∧ ((tdir ({ DirEntry.empty 0 5 with ask := some { req := { line := 5, kind := 1, who := 1 }, due := [3], acks := [] } })).dirAt 0 5).recalling = none ∧ g.req.kind ≠ 0 ∧ g.due.contains 3 = true ∧ g.due.contains 4 = false) ∧
    (∃ g, ((tdir ({ DirEntry.empty 0 5 with perm := 2, ask := some { req := { line := 5, kind := 1, who := 1 }, due := [], acks := [3] } })).dirAt 0 5).ask = some g ∧ ((tdir ({ DirEntry.empty 0 5 with perm := 2, ask := some { req := { line := 5, kind := 1, who := 1 }, due := [], acks := [3] } })).dirAt 0 5).recalling = none ∧ g.req.kind ≠ 0 ∧ g.due = [] ∧ g.acks = [3] ∧ ((tdir ({ DirEntry.empty 0 5 with perm := 2, ask := some { req := { line := 5, kind := 1, who := 1 }, due := [], acks := [3] } })).dirAt 0 5).rest = [] ∧ ((tdir ({ DirEntry.empty 0 5 with perm := 2, ask := some { req := { line := 5, kind := 1, who := 1 }, due := [], acks := [3] } })).dirAt 0 5).permits g.req = true) ∧
    (∃ g, ((tdir ({ DirEntry.empty 0 5 with perm := 2, ask := some { req := { line := 5, kind := 0, who := 1 }, due := [3], acks := [] } })).dirAt 0 5).ask = some g ∧ ((tdir ({ DirEntry.empty 0 5 with perm := 2, ask := some { req := { line := 5, kind := 0, who := 1 }, due := [3], acks := [] } })).dirAt 0 5).recalling = none ∧ g.req.kind = 0 ∧ g.due = [3] ∧ g.acks = [] ∧ ((tdir ({ DirEntry.empty 0 5 with perm := 2, ask := some { req := { line := 5, kind := 0, who := 1 }, due := [3], acks := [] } })).dirAt 0 5).rest = [] ∧ ((tdir ({ DirEntry.empty 0 5 with perm := 2, ask := some { req := { line := 5, kind := 0, who := 1 }, due := [3], acks := [] } })).dirAt 0 5).permits g.req = true) :=
  ⟨by decide, by decide, ⟨_, by rfl, by rfl, by decide, by decide, by decide⟩, ⟨_, by rfl, by rfl, by decide, by decide, by decide, by decide, by decide⟩, ⟨_, by rfl, by rfl, by decide, by decide, by decide, by decide, by decide⟩⟩

theorem witness_CoherenceResults_home :
    ((thome ({ HomeEntry.empty 5 with state := .m, owner := 0, holders := 1#7 })).homeAt 5).ask = none ∧ ((thome ({ HomeEntry.empty 5 with state := .m, owner := 0, holders := 1#7 })).homeAt 5).owner = 0 ∧ ((thome ({ HomeEntry.empty 5 with state := .m, owner := 0, holders := 1#7 })).homeAt 5).state = .m ∧ ((thome ({ HomeEntry.empty 5 with state := .m, owner := 0, holders := 1#7 })).homeAt 5).state ≠ .i ∧ ((thome ({ HomeEntry.empty 5 with ask := some { req := { line := 5, kind := 1, who := 1 }, due := [0], acks := [] } })).homeAt 5).ask ≠ none ∧
    (∃ g, ((thome ({ HomeEntry.empty 5 with ask := some { req := { line := 5, kind := 1, who := 1 }, due := [0], acks := [] } })).homeAt 5).ask = some g ∧ g.req.kind ≠ 0 ∧ g.due.contains 0 = true) ∧ ((thome ({ HomeEntry.empty 5 with ask := some { req := { line := 5, kind := 1, who := 1 }, due := [0], acks := [] } })).dirAt 0 5).ask = none ∧ ((thome ({ HomeEntry.empty 5 with ask := some { req := { line := 5, kind := 1, who := 1 }, due := [0], acks := [] } })).dirAt 0 5).recalling = none ∧ ((thome ({ HomeEntry.empty 5 with ask := some { req := { line := 5, kind := 1, who := 1 }, due := [0], acks := [] } })).dirAt 0 5).others 432 = [] ∧
    ((tdir ({ DirEntry.empty 0 5 with perm := 1, st := 1, ptrs := [3] })).dirAt 0 5).others 432 ≠ [] ∧ ((thome ({ HomeEntry.empty 5 with state := .m, owner := 1, holders := 2#7 })).homeAt 5).ask = none ∧ (thome ({ HomeEntry.empty 5 with state := .m, owner := 1, holders := 2#7 })).ulines = [] ∧ ((thome ({ HomeEntry.empty 5 with state := .m, owner := 1, holders := 2#7 })).homeAt 5).state ≠ .u ∧ (((thome ({ HomeEntry.empty 5 with state := .m, owner := 1, holders := 2#7 })).homeAt 5).others 8).filter (fun d => d != homeDie 5) ≠ [] :=
  ⟨by rfl, by rfl, by rfl, by decide, by decide, ⟨_, by rfl, by decide, by decide⟩, by rfl, by rfl, by decide, by decide, by rfl, by rfl, by decide, by decide⟩

/-- A line in the update-only state with parts on two dies, as many asked and answered as given. -/
def tuline (asked : List Nat) (got : Nat) : State :=
  { ts with ulines := [{ line := 5, op := 0, fscale := 0#8, ctx := 0, win := 0, parts := [{ stable := 0, cells := [] }, { stable := 48, cells := [] }], asked := asked, got := got }] }

theorem witness_CoherenceResults_merge :
    (∃ u d, findBy (fun u : ULine => u.line == 5) (tuline [] 0).ulines = some u ∧ findBy (fun d => !u.asked.contains d) u.dies = some d ∧ u.asked.length ≤ u.got) ∧
    (∃ u, findBy (fun u : ULine => u.line == 5) (tuline [0, 1] 0).ulines = some u ∧ u.got < u.asked.length ∧ u.got + 1 < u.dies.length) ∧
    (∃ u, findBy (fun u : ULine => u.line == 5) (tuline [0, 1] 1).ulines = some u ∧ u.got < u.asked.length ∧ u.dies.length ≤ u.got + 1 ∧ (tuline [0, 1] 1).dataFault (5 * 128) 128 true = none) :=
  ⟨⟨_, _, by rfl, by rfl, by decide⟩, ⟨_, by rfl, by decide, by decide⟩, ⟨_, by rfl, by decide, by decide, by decide⟩⟩

theorem witness_CoherenceResults_migration :
    (targetOf ((ts.dieAt 1).pad.readN 512 8) ≠ .device 1) ∧ (targetOf ((ts.dieAt 0).pad.readN 512 8) = .device 0 ∧ targetOf ((ts.dieAt 0).pad.readN 520 8) = .device 0) ∧ MemInv ts ∧ State.jobs State.reset = [] ∧ State.reset.ulines = [] ∧ (∀ h ∈ State.reset.homes, h.ask = none) :=
  ⟨by decide, by decide, ⟨by decide, by decide, by decide, by decide, by decide, by decide⟩, by rfl, by rfl, by decide⟩

/-- O54. -/
theorem witness_HartEventResults :
    ts.hart.id < 2310 ∧ ts.hart.id < 2304 ∧ ts.hart.id / 384 = 0 ∧ (ts.dieAt ts.hart.die).run = .running ∧ ts.hart.run = .running ∧ ts.takeReady = none ∧ ts.laneStep.hart.id = ts.hart.id ∧ (ts.lanes false).hart.id = ts.hart.id ∧ ts.hart.queue = [] ∧ ts.hart.runnable 0 = false ∧
    ts.hart.csr.frozen = false ∧ ts.hart.csr.target ≤ ts.hart.csr.grant ∧ ts.hart.job ≠ none ∧ (ts.dieAt 0).copies = [] ∧ (ts.dieAt 0).watchdog = true ∧ (State.dieAt { ts with dies := [{ ts.dieAt 0 with watchdog := false }] } 0).watchdog = false ∧ bits (384#64 : Word) 0 12 / 384 ≠ 0 :=
  ⟨by decide, by decide, by decide, by rfl, by rfl, by rfl, by rfl, by rfl, by rfl, by rfl, by rfl, by decide, by decide, by rfl, by rfl, by rfl, by decide⟩

theorem witness_HartEventResults_traps :
    (∃ t, State.takeReady { ts with hart := { ts.hart with ecauses := [{ stop := stopAt 0x41 0, before := 0, after := 0 }] } } = some t) ∧
    (∃ t b, (State.hart { ts with hart := { ts.hart with bridle := [{ kind := .copy 0x10080 0x10040 8, ctx := 0, pgroot := 0#64, rider := true, scope := 0, reads := [], writes := [], phase := 0, done := 0, old := 0, new := 0, saved := [], started := true, after := 0, fence := 0, stopped := false, held := false, node := none }] } }).runnable 0 = true ∧ State.bridleChunk { ts with hart := { ts.hart with bridle := [{ kind := .copy 0x10080 0x10040 8, ctx := 0, pgroot := 0#64, rider := true, scope := 0, reads := [], writes := [], phase := 0, done := 0, old := 0, new := 0, saved := [], started := true, after := 0, fence := 0, stopped := false, held := false, node := none }] } } 0 = (t, b) ∧ t.hart.id = ts.hart.id) ∧
    (∃ x, nth (State.hart { ts with hart := { ts.hart with bridle := [{ kind := .copy 0x10080 0x10040 8, ctx := 0, pgroot := 0#64, rider := true, scope := 0, reads := [], writes := [], phase := 0, done := 0, old := 0, new := 0, saved := [], started := true, after := 0, fence := 0, stopped := false, held := false, node := none }] } }).bridle 0 = some x) :=
  ⟨⟨_, by rfl⟩, ⟨_, _, by rfl, by rfl, by rfl⟩, ⟨_, by rfl⟩⟩

theorem witness_HartEventResults_entries :
    ∀ p ∈ [(Row.vextract, wordVextract { d := 8#5, a := 4#5, b := 6#5, c := 0#1 }), (Row.vloop, wordVloop { a := 4#5, b := 6#5 }), (Row.recur, wordRecur { d := 8#5, a := 4#5, b := 6#5 })], ∃ e l, (State.queued (tv 2) p.1 p.2 [] 4).hart.queue = e :: l ∧ e.row = p.1 ∧ (p.1 = .vextract → e.dest.isSome = true) :=
  by
  intro p hp
  simp only [List.mem_cons, List.not_mem_nil, or_false] at hp
  rcases hp with rfl | rfl | rfl <;> exact ⟨_, _, by rfl, by rfl, by decide⟩

theorem witness_HartEventResults_steps :
    (State.laneStep (State.queued (tv 2) .vextract (wordVextract { d := 8#5, a := 4#5, b := 6#5, c := 0#1 }) [] 4)).hart.id = (tv 2).hart.id ∧ (State.lanes (State.queued (tv 2) .vloop (wordVloop { a := 4#5, b := 6#5 }) [0x018C4106#32] 4) false).hart.id = (tv 2).hart.id :=
  ⟨by decide +kernel, by decide +kernel⟩

theorem witness_HartEventResults_grants :
    (State.hart { ts with hart := { ts.hart with csr := { ts.hart.csr with grant := 2 } } }).csr.target < (State.hart { ts with hart := { ts.hart with csr := { ts.hart.csr with grant := 2 } } }).csr.grant ∧ (State.hart { ts with hart := { ts.hart with csr := { ts.hart.csr with frozen := true } } }).csr.frozen = true :=
  by decide

/-- A part with a valid context 0 whose units' translations hold the page of x4; a node record at 0x10040; a graph that runs. -/
def tgraph (node : Memory) (g : Graph) : State :=
  let s := { ts with mem := node ++ [(0x11000, 1#8)], dies := [{ ts.dieAt 0 with pad := [(552, 1#8), (553, 16#8), (554, 1#8)] }], graphs := [g] }
  s.putStable { s.stableAt 300 with tlb := [{ ctx := 0, level := 3, vpn := 1, leaf := codeLeaf }] }

/-- A graph with one node, at 0x10040. -/
def oneNode : Graph :=
  { n := 1, die := 0, ctx := 0, nodes := 0x10040, count := 1, compl := 0, tag := 0#64, done := 0, failed := 0, ready := [], remote := [], offered := [],
    running := [], ended := [], retry := false }

/-- O55. -/
theorem witness_LaunchAndGraphResults :
    (∀ n, (ts.requestOf false 0).stray = false ∧ (ts.requestOf false 0).stable < 48 ∧ (ts.requestOf false 0).die < 6 ∧ (ts.requestOf false 0).node = 0 ∧ nth ts.pending n = none ∧ ts.takenRequest false 0 = none) ∧ ts.hostFn 0 = false ∧ State.hostFn { ts with funcmode := 1#64 } 0 = true ∧
    (∃ k t, State.offerImage (ts.setRequest false 0 true 0) (ts.requestOf false 0) none none = .ok k t) ∧ (∃ j, ts.job = some j ∧ ts.jobAt 1 = some j ∧ j.sigaddr = 0 ∧ j.node = none ∧ j.ending = false ∧ j.xspill = 0#32 ∧ j.vspill = 0#32 ∧ j.kspill = 0#8 ∧ j.zspill = 0#2 ∧ ∃ m ∈ j.members, m.halted = false) ∧
    State.reset.hart.job = none ∧ ts.jobAt 0 = none ∧ ts.graphAt 1 = none ∧ nth ts.rings 0 = none :=
  ⟨fun n => ⟨by rfl, by decide, by decide, by rfl, by rfl, by rfl⟩, by decide, by decide, ⟨_, _, by rfl⟩, ⟨launchedJob State.reset, by rfl, by rfl, by decide, by rfl, by rfl, by decide, by decide, by decide, by decide, ⟨_, by simp [launchedJob]; rfl, by rfl⟩⟩, by rfl, by rfl, by rfl, by rfl⟩

/-- A gang of one that is admitted and not started, with nothing declared; it has halted where `done` says so. -/
def tgang (done : Bool) (lmin : Nat) : State :=
  { ts with
    pending := [1]
    hart := { ts.hart with run := if done then .halted else .off }
    jobs := ts.jobs.map (fun j => { j with xdecl := 0#32, vdecl := 0#32, kdecl := 0#8, zdecl := 0#2, lmin := lmin, members := j.members.map (fun m => { m with halted := done }) }) }

/-- A gang that may start; one whose grant is short; one that has ended. -/
theorem witness_LaunchAndGraphResults_admission :
    (nth (tgang false 1).pending 0 = some 1 ∧ ∃ j, (tgang false 1).jobAt 1 = some j ∧ (∀ m ∈ j.members, ∃ h, (tgang false 1).findHart m.hart = some h ∧ j.lmin ≤ h.csr.grant) ∧ (j.members.map (fun m => m.hart)).Nodup ∧
      ∃ xs vs ks zs, State.readImage (tgang false 1) (unitWho (j.stable / 48) j.ctx j.pgroot) j.image j.vcode j.xdecl j.vdecl j.kdecl j.zdecl = .ok (xs, vs, ks, zs) (tgang false 1)) ∧
    (∃ j, (tgang false 2).jobAt 1 = some j ∧ ∃ m ∈ j.members, ∃ h, (tgang false 2).findHart m.hart = some h ∧ h.csr.grant < j.lmin) ∧
    (∃ j, (tgang true 1).jobAt 1 = some j ∧ (∀ m ∈ j.members, m.halted = true ∧ ∀ h, (tgang true 1).findHart m.hart = some h → h.idle = true) ∧ (tgang true 1).hart.idle = true) :=
  by
  refine ⟨⟨by rfl, ⟨_, by rfl, fun m hm => ?_, by decide, ⟨_, _, _, _, by rfl⟩⟩⟩, ⟨_, by rfl, ⟨_, List.mem_cons_self, ⟨_, by rfl, by decide⟩⟩⟩, ⟨_, by rfl, fun m hm => ?_, by decide⟩⟩
  · have hm : m ∈ [({ n := 0, hart := 0, launched := true, halted := false } : Member)] := hm
    obtain rfl := List.mem_singleton.mp hm
    exact ⟨_, by rfl, by decide⟩
  · have hm : m ∈ [({ n := 0, hart := 0, launched := true, halted := true } : Member)] := hm
    obtain rfl := List.mem_singleton.mp hm
    refine ⟨rfl, fun h hh => ?_⟩
    have he : (tgang true 1).findHart 0 = some (tgang true 1).hart := by rfl
    rw [he] at hh
    cases hh
    decide

theorem witness_HartEventResults_drain :
    ∃ t b x, (State.hart { ts with hart := { ts.hart with bridle := [{ kind := .drain 0x10080 4 [], ctx := 0, pgroot := 0#64, rider := true, scope := 0, reads := [], writes := [], phase := 0, done := 0, old := 0, new := 0, saved := [], started := true, after := 0, fence := 0, stopped := false, held := false, node := none }] } }).runnable 0 = true ∧ State.bridleChunk { ts with hart := { ts.hart with bridle := [{ kind := .drain 0x10080 4 [], ctx := 0, pgroot := 0#64, rider := true, scope := 0, reads := [], writes := [], phase := 0, done := 0, old := 0, new := 0, saved := [], started := true, after := 0, fence := 0, stopped := false, held := false, node := none }] } } 0 = (t, b) ∧ t.hart.id = ts.hart.id ∧
    (t.hart.bridle.length ≠ 1 ∨ b = false) ∧ nth (State.hart { ts with hart := { ts.hart with bridle := [{ kind := .drain 0x10080 4 [], ctx := 0, pgroot := 0#64, rider := true, scope := 0, reads := [], writes := [], phase := 0, done := 0, old := 0, new := 0, saved := [], started := true, after := 0, fence := 0, stopped := false, held := false, node := none }] } }).bridle 0 = some x ∧ ∃ i f c, x.kind = .drain i f c :=
  ⟨_, _, _, by rfl, by rfl, by rfl, by decide, by rfl, _, _, _, by rfl⟩

theorem witness_LaunchAndGraphResults_request :
    (ts.dieAt 0).run = .running ∧ (State.dieAt { ts with dies := [{ ts.dieAt 0 with run := .stopped }] } 0).run ≠ .running ∧ (∃ v, State.requestNode (ts.setRequest false 0 true 0) (ts.requestOf false 0) none = .ok (some none) v ∧ ∃ k t, v.offerImage (ts.requestOf false 0) none none = .ok k t) ∧
    (∃ v, State.requestNode ts { image := 0, ctx := 0, stable := 0, die := 0, node := 0x10040, stray := false } none = .ok none v) ∧
    (∃ j, State.jobAt { ts with hart := { ts.hart with bridle := [{ kind := .drain 0x10080 4 [], ctx := 0, pgroot := 0#64, rider := true, scope := 0, reads := [], writes := [], phase := 0, done := 0, old := 0, new := 0, saved := [], started := true, after := 0, fence := 0, stopped := false, held := false, node := none }] } } 1 = some j ∧ (j.members.map (fun m => m.hart)).filter (fun id =>
      match (State.findHart ((j.members.map (fun m => m.hart)).foldl State.endHart { ts with hart := { ts.hart with bridle := [{ kind := .drain 0x10080 4 [], ctx := 0, pgroot := 0#64, rider := true, scope := 0, reads := [], writes := [], phase := 0, done := 0, old := 0, new := 0, saved := [], started := true, after := 0, fence := 0, stopped := false, held := false, node := none }] } }) id) with | some h => h.bridle.any (fun t => t.isDrain && !t.held) | none => false) ≠ []) :=
  ⟨by decide, by decide, ⟨_, by rfl, _, _, by rfl⟩, ⟨_, by rfl⟩, ⟨_, by rfl, by decide⟩⟩

theorem witness_LaunchAndGraphResults_halt :
    ∃ g j, (tgang true 1).hart.job = some g ∧ (tgang true 1).jobAt g = some j ∧ (tgang true 1).hart.idle = true :=
  ⟨_, _, by rfl, by rfl, by decide⟩

theorem witness_LaunchAndGraphResults_badNode :
    ∃ w u c t, (tgraph [] { oneNode with nodes := 0x100000000000001, ready := [(0, 0)] }).unitOf 0 0 = (some w, u) ∧ u.startNode w { oneNode with nodes := 0x100000000000001, ready := [(0, 0)] } 0 0 = .stop c t :=
  ⟨_, _, _, _, by rfl, by rfl⟩

theorem witness_LaunchAndGraphResults_nodes :
    (∃ q w u t, (tgraph [(0x10040, 2#8)] ({ oneNode with ready := [(0, 0)] })).graphAt 1 = some q ∧ findBy (fun p : Nat × Nat => p.1 == 0) q.ready = some (0, 0) ∧ (tgraph [(0x10040, 2#8)] ({ oneNode with ready := [(0, 0)] })).unitOf 0 q.ctx = (some w, u) ∧ ∃ x, u.startNode w q 0 0 = .ok t x) ∧
    (∃ q w u y v, (tgraph [(0x10040, 1#8)] ({ oneNode with ready := [(0, 0)] })).graphAt 1 = some q ∧ findBy (fun p : Nat × Nat => p.1 == 0) q.ready = some (0, 0) ∧ (tgraph [(0x10040, 1#8)] ({ oneNode with ready := [(0, 0)] })).unitOf 0 q.ctx = (some w, u) ∧ u.readNode w q 0 = .ok y v ∧ y.type = 1 ∧ v.hostFn 0 = false ∧ (v.dieAt 0).readyFree = true) ∧
    (∃ q p, (tgraph [] ({ oneNode with remote := [(0, 0)] })).graphAt 1 = some q ∧ findBy (fun p : Nat × Nat => p.1 == 0) q.remote = some p ∧ findBy (fun p : Nat × Nat => p.1 == 0) q.ready = none ∧ findBy (fun p : Nat × Bool => p.1 == 0) q.ended = none ∧ q.retry = false) ∧
    (∃ q, (tgraph [] ({ oneNode with retry := true })).graphAt 1 = some q ∧ findBy (fun p : Nat × Nat => p.1 == 0) q.remote = none ∧ q.retry = true ∧ q.compl = 0) :=
  ⟨⟨_, _, _, _, by rfl, by rfl, by rfl, _, by rfl⟩, ⟨_, _, _, _, _, by rfl, by rfl, by rfl, by rfl, by decide, by decide, by decide⟩, ⟨_, _, by rfl, by rfl, by rfl, by rfl, by rfl⟩, ⟨_, by rfl, by rfl, by rfl, by rfl⟩⟩

theorem witness_LaunchAndGraphResults_finish_true :
    ∃ q w u, (tgraph [(0x10040, 2#8), (0x10050, 255#8), (0x10051, 255#8), (0x10052, 255#8), (0x10053, 255#8), (0x10054, 255#8), (0x10055, 255#8), (0x10056, 255#8), (0x10057, 255#8), (0x10058, 255#8), (0x10059, 255#8), (0x1005A, 255#8), (0x1005B, 255#8), (0x1005C, 255#8), (0x1005D, 255#8), (0x1005E, 255#8), (0x1005F, 255#8), (0x10060, 255#8), (0x10061, 255#8), (0x10062, 255#8), (0x10063, 255#8), (0x10064, 255#8), (0x10065, 255#8), (0x10066, 255#8), (0x10067, 255#8)] ({ oneNode with running := [(0, 0)], ended := [(0, true)] })).graphAt 1 = some q ∧ findBy (fun p : Nat × Bool => p.1 == 0) q.ended = some (0, true) ∧ findBy (fun p : Nat × Nat => p.1 == 0) q.running = some (0, 0) ∧ (tgraph [(0x10040, 2#8), (0x10050, 255#8), (0x10051, 255#8), (0x10052, 255#8), (0x10053, 255#8), (0x10054, 255#8), (0x10055, 255#8), (0x10056, 255#8), (0x10057, 255#8), (0x10058, 255#8), (0x10059, 255#8), (0x1005A, 255#8), (0x1005B, 255#8), (0x1005C, 255#8), (0x1005D, 255#8), (0x1005E, 255#8), (0x1005F, 255#8), (0x10060, 255#8), (0x10061, 255#8), (0x10062, 255#8), (0x10063, 255#8), (0x10064, 255#8), (0x10065, 255#8), (0x10066, 255#8), (0x10067, 255#8)] ({ oneNode with running := [(0, 0)], ended := [(0, true)] })).unitOf 0 q.ctx = (some w, u) ∧ ∃ t x, u.finishNode w q 0 0 = .ok t x :=
  ⟨_, _, _, by rfl, by rfl, by rfl, by rfl, ok_of (by decide +kernel)⟩

theorem witness_LaunchAndGraphResults_finish_false :
    ∃ q w u, (tgraph [(0x10040, 2#8), (0x10050, 255#8), (0x10051, 255#8), (0x10052, 255#8), (0x10053, 255#8), (0x10054, 255#8), (0x10055, 255#8), (0x10056, 255#8), (0x10057, 255#8), (0x10058, 255#8), (0x10059, 255#8), (0x1005A, 255#8), (0x1005B, 255#8), (0x1005C, 255#8), (0x1005D, 255#8), (0x1005E, 255#8), (0x1005F, 255#8), (0x10060, 255#8), (0x10061, 255#8), (0x10062, 255#8), (0x10063, 255#8), (0x10064, 255#8), (0x10065, 255#8), (0x10066, 255#8), (0x10067, 255#8)] ({ oneNode with running := [(0, 0)], ended := [(0, false)] })).graphAt 1 = some q ∧ findBy (fun p : Nat × Bool => p.1 == 0) q.ended = some (0, false) ∧ findBy (fun p : Nat × Nat => p.1 == 0) q.running = some (0, 0) ∧ (tgraph [(0x10040, 2#8), (0x10050, 255#8), (0x10051, 255#8), (0x10052, 255#8), (0x10053, 255#8), (0x10054, 255#8), (0x10055, 255#8), (0x10056, 255#8), (0x10057, 255#8), (0x10058, 255#8), (0x10059, 255#8), (0x1005A, 255#8), (0x1005B, 255#8), (0x1005C, 255#8), (0x1005D, 255#8), (0x1005E, 255#8), (0x1005F, 255#8), (0x10060, 255#8), (0x10061, 255#8), (0x10062, 255#8), (0x10063, 255#8), (0x10064, 255#8), (0x10065, 255#8), (0x10066, 255#8), (0x10067, 255#8)] ({ oneNode with running := [(0, 0)], ended := [(0, false)] })).unitOf 0 q.ctx = (some w, u) ∧ ∃ t x, u.failNode w q 0 = .ok t x :=
  ⟨_, _, _, by rfl, by rfl, by rfl, by rfl, ok_of (by decide +kernel)⟩

theorem witness_LaunchAndGraphResults_ring_empty :
    ∃ die c, nth (State.rings ({ tring 1 0#64 (ringWith []) with rings := [(0, capNow 1)] } : State)) 0 = some (die, c) ∧ ∃ u, State.popSlot ({ tring 1 0#64 (ringWith []) with rings := [(0, capNow 1)] } : State) (unitWho die c.owner 0#64) c = .ok none u :=
  ⟨_, _, by rfl, ⟨_, by rfl⟩⟩

theorem witness_LaunchAndGraphResults_ring_some :
    ∃ die c, nth (State.rings ({ tring 1 0#64 ([(0x10100, 1#8), (0x10108, 1#8), (0x10161, 1#8), (0x10162, 1#8), (0x10168, 1#8), (0x10180, 1#8)]) with rings := [(0, capNow 1)] } : State)) 0 = some (die, c) ∧ ∃ slot pl u t x, State.popSlot ({ tring 1 0#64 ([(0x10100, 1#8), (0x10108, 1#8), (0x10161, 1#8), (0x10162, 1#8), (0x10168, 1#8), (0x10180, 1#8)]) with rings := [(0, capNow 1)] } : State) (unitWho die c.owner 0#64) c = .ok (some (slot, pl)) u ∧ u.startGraph die c slot pl = .ok t x ∧ (nth pl 1).getD 0 % 2 ^ 32 = 0 ∧ (nth pl 2).getD 0 = 0 ∧ u.graphAt u.nextGraph = none :=
  ⟨_, _, by rfl, ⟨_, _, _, _, _, by rfl, by rfl, by rfl, by rfl, by rfl⟩⟩

/-- O58. -/
theorem witness_EncodeDecode :
    (Instr.add { d := 5#5, a := 6#5, b := 7#5 }).wf = true ∧ (Instr.add { d := 5#5, a := 6#5, b := 7#5 }).len ≠ 0 :=
  by decide

/-- O59. -/
theorem witness_MemoryStaysCanonical :
    MemInv ts ∧ ∃ t, step ts = .next t :=
  ⟨⟨by decide, by decide, by decide, by decide, by decide, by decide⟩, ⟨_, by rfl⟩⟩

/-- O60. -/
theorem witness_HartsStayLegal :
    HartInv ts ∧ ∃ t, step ts = .next t :=
  ⟨⟨by decide, by decide⟩, ⟨_, by rfl⟩⟩

/-! ## Rings in memory -/

/-- A range of doublewords that is reached holds every shorter one. -/
theorem RingReach.shorter {s : State} {w : Who} {va pa n m : Nat} (h : RingReach s w va pa n) (hm : m ≤ n) : RingReach s w va pa m :=
  ⟨fun u i c k hk => h.access u i c k (Nat.lt_of_lt_of_le hk hm), fun k hk => h.free k (Nat.lt_of_lt_of_le hk hm)⟩

/-- A unit of die 0 reaches every doubleword of the page at 0x10000 that its translations hold. -/
theorem unit_access {s : State} {a : AKind} {va : Nat} (hp : va / 65536 = 1) (hv : va % 8 = 0) (ha : a = .load ∨ a = .store)
    (ht : (s.stableAt 300).tlb = [{ ctx := 0, level := 3, vpn := 1, leaf := codeLeaf }]) (hd : (s.dieAt 0).offers = [] ∧ (s.dieAt 0).moved = [])
    (hm : s.movedPages = []) (hu : s.ulines = []) (hf : s.failing = []) :
    s.accessAs (unitWho 0 0 0#64) va 8 8 a = .ok (.phys va codeLeaf) s := by
  have hlt : va < 131072 := by omega
  have hx : s.translate 300 0 0#64 va = (.present va codeLeaf, s) := by
    simp only [State.translate, ht, tlbFind, findBy, leafShift, beq_self_eq_true, Bool.true_and]
    have : va / 2 ^ 16 = 1 := hp
    simp only [show ¬ (3 = 1) by decide, show ¬ (3 = 2) by decide, if_false, this, beq_self_eq_true, if_true]
    have : pteBase codeLeaf = 65536 := by decide
    rw [this, show 65536 + va % 2 ^ 16 = va by omega]
  have hg : targetOf va = .device 0 := by
    unfold targetOf
    rw [if_pos (by unfold deviceTop; omega), Nat.div_eq_of_lt (by unfold dieBytes; omega)]
  have hq : s.pageAs (unitWho 0 0 0#64) va 8 a = .ok (va, codeLeaf) s := by
    have hl : leafAllows codeLeaf true a = true := by rcases ha with rfl | rfl <;> decide
    rcases ha with rfl | rfl <;>
    simp [State.pageAs, State.offered, State.offersOf, unitWho, hd, findBy, hx, hg, State.noPeer, hl]
  have hw : canonical va = true := by simp [canonical]; omega
  have hi : inWindow va = false := by simp [inWindow]; omega
  have hc : s.movedCheck (unitWho 0 0 0#64) va va = .ok () s := by
    simp [State.movedCheck, State.movedOf, unitWho, hd, findBy, hm, anyBy]
  have hb : s.dataCheck (unitWho 0 0 0#64) va va 8 a = .ok () s := by
    simp [State.dataCheck, State.dataFault, hu, anyBy, hg, State.failsAt, hf]
  simp [State.accessAs, hw, hi, hv, hq, Res.bind, hc, hb]

/-- The ring of `tring` is reached by the units of its die: any range of doublewords of its page. -/
theorem tring_reach (type : Nat) (x6 : Word) (ring : Memory) {va n : Nat} (hv : va % 8 = 0) (hl : 65536 ≤ va) (hn : va + n ≤ 131072) :
    RingReach (tring type x6 ring) (unitWho 0 0 0#64) va va n := by
  constructor
  · intro m i c k hk a ha
    rw [Nat.mod_eq_of_lt (by omega)]
    exact ⟨codeLeaf, unit_access (by omega) (by omega) ha (by rfl) ⟨by rfl, by rfl⟩ (by rfl) (by rfl) (by rfl)⟩
  · intro k _
    rfl

/-- O24: the bytes of rings: an empty ring. -/
theorem witness_QueueInstructionResults_rings :
    State.ulines (tring 1 0#64 (ringWith [])) = [] ∧ State.failing (tring 1 0#64 (ringWith [])) = [] ∧ (capNow 1).formOk = true ∧ State.ringOpen (tring 1 0#64 (ringWith [])) (unitWho 0 0 0#64) (capNow 1) = .ok ((unitWho 0 0 0#64), 0) (tring 1 0#64 (ringWith [])) ∧ RingReach (tring 1 0#64 (ringWith [])) (unitWho 0 0 0#64) (capNow 1).base 0x10100 128 ∧ RingReach (tring 1 0#64 (ringWith [])) (unitWho 0 0 0#64) 0x10100 0x10100 (128 + (capNow 1).lap * 2 ^ (capNow 1).lgsize) :=
  ⟨by rfl, by rfl, cap_form d0 (d1 1) 0#64 0#64 (sealNow 1) ▸ by decide, by rfl, tring_reach 1 0#64 _ (by decide) (by decide) (by decide), tring_reach 1 0#64 _ (by decide) (by decide) (by decide)⟩

/-- A free place; the next segment to be used again; a full ring that asks for growth, and one that has asked. -/
theorem witness_QueueInstructionResults_ring_push :
    (State.ringOpen (tring 1 0#64 (ringWith [])) (unitWho 0 0 0#64) (capNow 1) = .ok ((unitWho 0 0 0#64), 0) (tring 1 0#64 (ringWith [])) ∧ Memory.readN (State.mem (tring 1 0#64 (ringWith []))) 0x10160 8 = 0x10100 ∧ 8 * (([] : List Nat).length + 1) ≤ 2 ^ (capNow 1).lgsize ∧ Memory.readN (State.mem (tring 1 0#64 (ringWith []))) 0x10150 8 ≤ Memory.readN (State.mem (tring 1 0#64 (ringWith []))) 0x10100 8 ∧ Memory.readN (State.mem (tring 1 0#64 (ringWith []))) 0x10100 8 < Memory.readN (State.mem (tring 1 0#64 (ringWith []))) 0x10150 8 + (capNow 1).lap) ∧
    (State.ringOpen (tring 1 0#64 ([(0x10100, 2#8), (0x10110, 2#8), (0x10159, 1#8), (0x1015A, 1#8), (0x10161, 1#8), (0x10162, 1#8), (0x10168, 1#8)])) (unitWho 0 0 0#64) (capNow 1) = .ok ((unitWho 0 0 0#64), 0) (tring 1 0#64 ([(0x10100, 2#8), (0x10110, 2#8), (0x10159, 1#8), (0x1015A, 1#8), (0x10161, 1#8), (0x10162, 1#8), (0x10168, 1#8)])) ∧ Memory.readN (State.mem (tring 1 0#64 ([(0x10100, 2#8), (0x10110, 2#8), (0x10159, 1#8), (0x1015A, 1#8), (0x10161, 1#8), (0x10162, 1#8), (0x10168, 1#8)]))) 0x10160 8 = 0x10100 ∧ Memory.readN (State.mem (tring 1 0#64 ([(0x10100, 2#8), (0x10110, 2#8), (0x10159, 1#8), (0x1015A, 1#8), (0x10161, 1#8), (0x10162, 1#8), (0x10168, 1#8)]))) 0x10150 8 + (capNow 1).lap ≤ Memory.readN (State.mem (tring 1 0#64 ([(0x10100, 2#8), (0x10110, 2#8), (0x10159, 1#8), (0x1015A, 1#8), (0x10161, 1#8), (0x10162, 1#8), (0x10168, 1#8)]))) 0x10100 8 ∧ Memory.readN (State.mem (tring 1 0#64 ([(0x10100, 2#8), (0x10110, 2#8), (0x10159, 1#8), (0x1015A, 1#8), (0x10161, 1#8), (0x10162, 1#8), (0x10168, 1#8)]))) 0x10158 8 = 0x10100 ∧ Memory.readN (State.mem (tring 1 0#64 ([(0x10100, 2#8), (0x10110, 2#8), (0x10159, 1#8), (0x1015A, 1#8), (0x10161, 1#8), (0x10162, 1#8), (0x10168, 1#8)]))) 0x10150 8 + (capNow 1).lap ≤ Memory.readN (State.mem (tring 1 0#64 ([(0x10100, 2#8), (0x10110, 2#8), (0x10159, 1#8), (0x1015A, 1#8), (0x10161, 1#8), (0x10162, 1#8), (0x10168, 1#8)]))) 0x10110 8) ∧
    (State.ringOpen (tring 1 0#64 ([(0x10100, 2#8), (0x10159, 1#8), (0x1015A, 1#8), (0x10161, 1#8), (0x10162, 1#8), (0x10168, 1#8)])) (unitWho 0 0 0#64) (capNow 1) = .ok ((unitWho 0 0 0#64), 0) (tring 1 0#64 ([(0x10100, 2#8), (0x10159, 1#8), (0x1015A, 1#8), (0x10161, 1#8), (0x10162, 1#8), (0x10168, 1#8)])) ∧ Memory.readN (State.mem (tring 1 0#64 ([(0x10100, 2#8), (0x10159, 1#8), (0x1015A, 1#8), (0x10161, 1#8), (0x10162, 1#8), (0x10168, 1#8)]))) 0x10150 8 + (capNow 1).lap ≤ Memory.readN (State.mem (tring 1 0#64 ([(0x10100, 2#8), (0x10159, 1#8), (0x1015A, 1#8), (0x10161, 1#8), (0x10162, 1#8), (0x10168, 1#8)]))) 0x10100 8 ∧ Memory.readN (State.mem (tring 1 0#64 ([(0x10100, 2#8), (0x10159, 1#8), (0x1015A, 1#8), (0x10161, 1#8), (0x10162, 1#8), (0x10168, 1#8)]))) 0x10110 8 < Memory.readN (State.mem (tring 1 0#64 ([(0x10100, 2#8), (0x10159, 1#8), (0x1015A, 1#8), (0x10161, 1#8), (0x10162, 1#8), (0x10168, 1#8)]))) 0x10150 8 + (capNow 1).lap ∧ (capNow 1).has .grow = true ∧ Memory.readN (State.mem (tring 1 0#64 ([(0x10100, 2#8), (0x10159, 1#8), (0x1015A, 1#8), (0x10161, 1#8), (0x10162, 1#8), (0x10168, 1#8)]))) 0x10168 8 / 256 % 2 = 0) ∧
    (State.ringOpen (tring 1 0#64 ([(0x10100, 2#8), (0x10159, 1#8), (0x1015A, 1#8), (0x10161, 1#8), (0x10162, 1#8), (0x10168, 1#8), (0x10169, 1#8)])) (unitWho 0 0 0#64) (capNow 1) = .ok ((unitWho 0 0 0#64), 0) (tring 1 0#64 ([(0x10100, 2#8), (0x10159, 1#8), (0x1015A, 1#8), (0x10161, 1#8), (0x10162, 1#8), (0x10168, 1#8), (0x10169, 1#8)])) ∧ Memory.readN (State.mem (tring 1 0#64 ([(0x10100, 2#8), (0x10159, 1#8), (0x1015A, 1#8), (0x10161, 1#8), (0x10162, 1#8), (0x10168, 1#8), (0x10169, 1#8)]))) 0x10150 8 + (capNow 1).lap ≤ Memory.readN (State.mem (tring 1 0#64 ([(0x10100, 2#8), (0x10159, 1#8), (0x1015A, 1#8), (0x10161, 1#8), (0x10162, 1#8), (0x10168, 1#8), (0x10169, 1#8)]))) 0x10100 8 ∧ Memory.readN (State.mem (tring 1 0#64 ([(0x10100, 2#8), (0x10159, 1#8), (0x1015A, 1#8), (0x10161, 1#8), (0x10162, 1#8), (0x10168, 1#8), (0x10169, 1#8)]))) 0x10110 8 < Memory.readN (State.mem (tring 1 0#64 ([(0x10100, 2#8), (0x10159, 1#8), (0x1015A, 1#8), (0x10161, 1#8), (0x10162, 1#8), (0x10168, 1#8), (0x10169, 1#8)]))) 0x10150 8 + (capNow 1).lap ∧ Memory.readN (State.mem (tring 1 0#64 ([(0x10100, 2#8), (0x10159, 1#8), (0x1015A, 1#8), (0x10161, 1#8), (0x10162, 1#8), (0x10168, 1#8), (0x10169, 1#8)]))) 0x10168 8 / 256 % 2 = 1) :=
  ⟨⟨by rfl, by rfl, by decide, by decide, by decide⟩, ⟨by rfl, by rfl, by decide, by rfl, by decide⟩, ⟨by rfl, by decide, by decide, by decide, by decide⟩, ⟨by rfl, by decide, by decide, by decide⟩⟩

/-- A full place, one not yet full, and a cursor that no lap holds. -/
theorem witness_QueueInstructionResults_ring_pop :
    (State.ringOpen (tring 1 0#64 (fullRing)) (unitWho 0 0 0#64) (capNow 1) = .ok ((unitWho 0 0 0#64), 0) (tring 1 0#64 (fullRing)) ∧ 0 < (capNow 1).ncons ∧ Memory.readN (State.mem (tring 1 0#64 (fullRing))) 0x10168 8 % 32 = 1 ∧ Memory.readN (State.mem (tring 1 0#64 (fullRing))) 0x10150 8 ≤ Memory.readN (State.mem (tring 1 0#64 (fullRing))) 0x10110 8 ∧ Memory.readN (State.mem (tring 1 0#64 (fullRing))) 0x10110 8 < Memory.readN (State.mem (tring 1 0#64 (fullRing))) 0x10150 8 + (capNow 1).lap ∧ Memory.readN (State.mem (tring 1 0#64 (fullRing))) 0x10180 8 = (Memory.readN (State.mem (tring 1 0#64 (fullRing))) 0x10110 8 + 1) % 2 ^ 64) ∧ (State.ringOpen (tring 1 0#64 (ringWith [])) (unitWho 0 0 0#64) (capNow 1) = .ok ((unitWho 0 0 0#64), 0) (tring 1 0#64 (ringWith [])) ∧ Memory.readN (State.mem (tring 1 0#64 (ringWith []))) 0x10150 8 ≤ Memory.readN (State.mem (tring 1 0#64 (ringWith []))) 0x10110 8 ∧ Memory.readN (State.mem (tring 1 0#64 (ringWith []))) 0x10110 8 < Memory.readN (State.mem (tring 1 0#64 (ringWith []))) 0x10150 8 + (capNow 1).lap ∧ Memory.readN (State.mem (tring 1 0#64 (ringWith []))) 0x10180 8 ≠ (Memory.readN (State.mem (tring 1 0#64 (ringWith []))) 0x10110 8 + 1) % 2 ^ 64) ∧
    (State.ringOpen (tring 1 0#64 ([(0x10100, 2#8), (0x10110, 2#8), (0x10159, 1#8), (0x1015A, 1#8), (0x10161, 1#8), (0x10162, 1#8), (0x10168, 1#8)])) (unitWho 0 0 0#64) (capNow 1) = .ok ((unitWho 0 0 0#64), 0) (tring 1 0#64 ([(0x10100, 2#8), (0x10110, 2#8), (0x10159, 1#8), (0x1015A, 1#8), (0x10161, 1#8), (0x10162, 1#8), (0x10168, 1#8)])) ∧ Memory.readN (State.mem (tring 1 0#64 ([(0x10100, 2#8), (0x10110, 2#8), (0x10159, 1#8), (0x1015A, 1#8), (0x10161, 1#8), (0x10162, 1#8), (0x10168, 1#8)]))) 0x10150 8 + (capNow 1).lap ≤ Memory.readN (State.mem (tring 1 0#64 ([(0x10100, 2#8), (0x10110, 2#8), (0x10159, 1#8), (0x1015A, 1#8), (0x10161, 1#8), (0x10162, 1#8), (0x10168, 1#8)]))) 0x10110 8) :=
  ⟨⟨by rfl, by decide, by decide, by decide, by decide, by decide⟩, ⟨by rfl, by decide, by decide, by decide⟩, ⟨by rfl, by decide⟩⟩

/-- The wakes where the clauses meet, and the segment that may be linked, and the one beyond. -/
theorem witness_QueueInstructionResults_ring_wake :
    Memory.readN (State.mem (tring 1 0#64 (ringWith []))) 0x10108 8 < 1 ∧ 1 ≤ Memory.readN (State.mem (tring 1 0#64 (ringWith []))) 0x10110 8 + Memory.readN (State.mem (tring 1 0#64 (ringWith []))) 0x10168 8 % 32 * (capNow 1).lap ∧ 2 ≤ Memory.readN (State.mem (tring 1 0#64 (ringWith []))) 0x10110 8 + Memory.readN (State.mem (tring 1 0#64 (ringWith []))) 0x10168 8 % 32 * (capNow 1).lap ∧ Memory.readN (State.mem (tring 1 0#64 (ringWith []))) 0x10110 8 + Memory.readN (State.mem (tring 1 0#64 (ringWith []))) 0x10168 8 % 32 * (capNow 1).lap < 3 ∧ 0 ≤ Memory.readN (State.mem (tring 1 0#64 (ringWith []))) 0x10108 8 ∧ Memory.readN (State.mem (tring 1 0#64 (ringWith []))) 0x10168 8 % 32 < 16 ∧
    State.ringOpen (tring 1 0#64 ([(0x10161, 1#8), (0x10162, 1#8), (0x10168, 16#8)])) (unitWho 0 0 0#64) (capNow 1) = .ok ((unitWho 0 0 0#64), 0) (tring 1 0#64 ([(0x10161, 1#8), (0x10162, 1#8), (0x10168, 16#8)])) ∧ 16 ≤ Memory.readN (State.mem (tring 1 0#64 ([(0x10161, 1#8), (0x10162, 1#8), (0x10168, 16#8)]))) 0x10168 8 % 32 ∧ RingReach (tring 1 0#64 (ringWith [])) (unitWho 0 0 0#64) 0x10300 0x10300 128 :=
  ⟨by decide, by decide, by decide, by decide, by decide, by decide, by rfl, by decide, tring_reach 1 0#64 _ (by decide) (by decide) (by decide)⟩

/-- `tacc` with the first line of its window in U for addition, a part of this stable, and the dies asked. -/
def taccU (asked : List Nat) : State :=
  { tacc 0 with ulines := [{ line := 1024, op := 0, fscale := 1#8, ctx := 0, win := 0, parts := [{ stable := 0, cells := [] }], asked := asked, got := 0 }] }

/-- A line in U in the range of AMERGE. -/
theorem witness_AccumulationResults_merge :
    ∀ q ∈ [[], [0]], (taccU q).hart.fits ∧ (taccU q).hart.bridle = [] ∧ (taccU q).hart.group = none ∧ (taccU q).failing = [] ∧ (taccU q).ulines.all (fun l => devLine l.line) = true ∧
    VReady (taccU q) .amerge (wordAmerge { a := 4#5, b := 6#5 }) ∧ (taccU q).hart.vstart = 0 ∧ ∃ ls t, (taccU q).uLinesIn 0x20000 128 = .ok ls t ∧ ls ≠ [] ∧ (ls.map (fun q => q.2)).Nodup :=
  by
  intro q hq
  simp only [List.mem_cons, List.not_mem_nil, or_false] at hq
  rcases hq with rfl | rfl <;>
    exact ⟨by unfold Hart.fits; decide, by rfl, by rfl, by rfl, by decide, vready_one (by decide) (by decide), by rfl, ⟨_, _, by rfl, by decide, by decide⟩⟩

/-- The operators where the clauses meet are the line's own and another, at most 12. -/
theorem witness_AccumulationResults_fold :
    (tacc 0).ulines = [] ∧ (∃ l, findBy (fun l : ULine => l.line == 0x20000 / 128) (taccU []).ulines = some l ∧ l.op = 0 ∧ l.op ≠ 12 ∧ l.asked.contains (taccU []).hart.die = false ∧
      anyBy (fun p : UPart => p.stable == (taccU []).hart.stable) l.parts = true) ∧
    (∃ l, findBy (fun l : ULine => l.line == 0x20000 / 128) (taccU [0]).ulines = some l ∧ l.asked.contains (taccU [0]).hart.die = true) ∧ ts.mem.wf = true ∧ 12 ≤ 12 :=
  ⟨by rfl, ⟨_, by rfl, by rfl, by decide, by rfl, by rfl⟩, ⟨_, by rfl, by rfl⟩, by decide, by decide⟩

/-- The block of `tblk` with `vstart` at the end of the elements. -/
def tpast : State := { (tblk 0x018C4106 2 2 0#64) with hart := { State.hart (tblk 0x018C4106 2 2 0#64) with csr := { (State.hart (tblk 0x018C4106 2 2 0#64)).csr with vstart := 2#64 } } }

/-- O50: no element is left. -/
theorem witness_BlockResults_past :
    (∀ p ∈ [(Row.vfetch, wordVfetch { a := 4#5 }), (Row.cVfetch, wordCVfetch { a := 4#5 })], VReady tpast p.1 p.2 ∧ VReady (afterRead tpast) p.1 p.2) ∧ ∃ b, tpast.readBlock 0x10040#64 = .ok b (afterRead tpast) ∧ b ≠ [] ∧ (afterRead tpast).hart.vstart ≠ 0 ∧
    (afterRead tpast).hart.count ≤ (afterRead tpast).hart.vstart ∧ ∃ t, (State.queued (afterRead tpast) .vfetch (wordVfetch { a := 4#5 }) b 4).runGroup b 0x10040#64 [] = .done t :=
  ⟨fun p hp => ⟨vready_of (by decide) (by decide) p hp, vready_of (by decide) (by decide) p hp⟩, ⟨_, by rfl, by simp, by decide, by decide, ⟨_, by rfl⟩⟩⟩

/-- A hart that has arrived at the barrier of its gang and waits there. -/
def tarrived : State := { ts with hart := { ts.hart with gwait := some 0 }, jobs := ts.jobs.map (fun j => { j with arrived := 1#8, mask := 3#8 }) }

/-- O14: a hart that waits at the barrier. -/
theorem witness_TrapEntry_barrier :
    tarrived.hart.recur = none ∧ (∃ p j, tarrived.hart.gwait = some p ∧ tarrived.job = some j ∧ j.phase = p ∧ j.arrived = 1#8) ∧ ts.hart.hold = false ∧ ts.hart.bridle = [] :=
  ⟨by rfl, ⟨_, _, by rfl, by rfl, by rfl, by rfl⟩, by rfl, by rfl⟩

/-- O17: with a job and without; the greatest operation of a window and the first reserved. -/
theorem witness_CsrFields :
    (∃ j, ts.job = some j) ∧ State.reset.job = none ∧ ts.hart.csr.leaseMin < 2 ∧ (12 < 13 ∧ ¬ 13 < 13) :=
  ⟨⟨_, by rfl⟩, by rfl, by decide, by decide⟩

/-- O18: the numbers where the clauses meet. -/
theorem witness_PrivilegeTraps_numbers :
    ∀ n ∈ [1, 7, 0x50, 0x00, 0x14, 0x15, 0x18, 0x19, 0x30, 0x31, 0x38, 0x3F, 0x48, 0x49, 0x51, 0x52, 0x60, 0x61], ((1 ≤ n ∧ n ≤ 7) ∨ n = 0x50 ∨ n = 0x00 ∨ n = 0x14 ∨ n = 0x15 ∨ n = 0x18 ∨ n = 0x19 ∨ n = 0x30 ∨ n = 0x31 ∨
    (0x38 ≤ n ∧ n ≤ 0x3F) ∨ n = 0x48 ∨ n = 0x49 ∨ n = 0x51 ∨ n = 0x52 ∨ n = 0x60 ∨ n = 0x61) ∧ ¬ (0x10 ≤ n ∧ n ≤ 0x13) ∧ (BitVec.ofNat 12 n).toNat = n :=
  by decide

/-! ## What waits, what is stopped, what is held -/

/-- A port with a wake that waits. -/
def tblocked : State := { tready with ports := [{ tready.portAt 0 with writes := [(32, 0#64)] }] }

/-- The part with the page at 0x10000 moved. -/
def tmoved (s : State) : State := { s with movedPages := [1] }

/-- The part with its die 0 as given. -/
def tdie (run : DieRun) : State := { ts with dies := [{ ts.dieAt 0 with run := run }] }

/-- O51: a port with something that waits, and a wake that waits. -/
theorem witness_HostPortResults_blocked :
    (tblocked.portAt 0).blocked = true ∧ (ts.portAt 0).blocked = false ∧ ∃ t, State.ringWake (tmoved (tring 1 0#64 (ringWith []))) { unitWho 0 0 0#64 with service := false } (capNow 1) 1 = .wait t :=
  ⟨by decide, by decide, ⟨_, by rfl⟩⟩

/-- O52: dies that run and do not, sectors that fail and do not, a line that the host holds. -/
theorem witness_PowerAndErrorResults_runs :
    (tready.dieAt (0 / dieBytes)).run = .running ∧ ((countFrom (0 / 128 * 4) 4).filter (fun f => tready.failing.contains f)) = [] ∧
    ((countFrom (0 / 128 * 4) 4).filter (fun f => (State.failing { tready with failing := [0] }).contains f)) ≠ [] ∧ tready.hostFn 4 = false ∧ ((tdie .stopped).dieAt 0).run = .stopped ∧ ((tdie .reset).dieAt 0).run ≠ .running ∧
    ((tready.dieAt (linkDie 0)).run = .running ∧ (tready.dieAt ((tready.exportSlice * 2 ^ 37 + 0) / dieBytes)).run = .running) ∧ (0 % 8 = 0 ∧ 0 + 8 ≤ 2 ^ 37 ∧ tready.exportSlice * 2 ^ 37 + 0 + 8 ≤ deviceTop) ∧
    ((∀ e ∈ (thome { HomeEntry.empty 5 with state := .m, owner := 6, holders := 64#7, ports := 1#2 }).homes, e.ask = none) ∧ ((thome { HomeEntry.empty 5 with state := .m, owner := 6, holders := 64#7, ports := 1#2 }).homeAt 5).state ≠ .i ∧ ((thome { HomeEntry.empty 5 with state := .m, owner := 6, holders := 64#7, ports := 1#2 }).homeAt 5).state ≠ .u) :=
  ⟨by decide, by decide, by decide, by decide, by decide, by decide, by decide, by decide, by decide, by decide, by decide⟩

/-- O52: a checkpoint that fits, and one that does not. -/
theorem witness_PowerAndErrorResults_last :
    (∃ c, (tbuddy 4).lastCheckpoint = some c ∧ sumBy (fun r : Range => r.len) c.ranges ≤ 2 ^ 36 ∧ c.mem.wf = true ∧ c.graphs = []) ∧
    ∃ c, State.lastCheckpoint { tbuddy 4 with checkpts := [(ts.device, { mem := [], ranges := [{ lo := 0, len := 2 ^ 36 + 1 }], failing := [], rings := [], graphs := [] })] } = some c ∧ 2 ^ 36 < sumBy (fun r : Range => r.len) c.ranges :=
  ⟨⟨_, by rfl, by decide, by decide, by rfl⟩, ⟨_, by rfl, by decide⟩⟩

/-- A line that is dirty in the cache of agent 3 of die 0. -/
def tdirty : State :=
  { ts with coh := { ts.coh with
      caches := [{ cache := agentCache 0 3, line := 5, prio := 1, st := .m }]
      dir := [{ DirEntry.empty 0 5 with perm := 2, st := 3, ptrs := [3] }] } }

/-- O53: lines that leave a cache, a pinned one that does not, and a line in U. -/
theorem witness_CoherenceResults_evictions :
    (tdirty.coh.quiet 5 = true ∧ tdirty.dirtyIn 0 3 5 = true ∧ (tdirty.dirAt 0 5).crs = false ∧ (tdirty.dirAt 0 5).ptrs.contains 3 = true) ∧ (ts.coh.quiet 5 && ts.dirtyIn 0 3 5) = false ∧
    State.pinnedIn { ts with pins := [{ die := 0, ctx := 0, line := 5 }] } (l2Cache 0) 5 = true ∧ ((thome { HomeEntry.empty 5 with state := .m, owner := 0, holders := 1#7 }).pinnedIn (l2Cache 0) 5 = false ∧ ((thome { HomeEntry.empty 5 with state := .m, owner := 0, holders := 1#7 }).homeAt 5).ask = none ∧ ((thome { HomeEntry.empty 5 with state := .m, owner := 0, holders := 1#7 }).homeAt 5).owner = 0 ∧ ((thome { HomeEntry.empty 5 with state := .m, owner := 0, holders := 1#7 }).homeAt 5).state = .m) ∧
    ∃ u, findBy (fun u : ULine => u.line == 5) (State.ulines { tdir { DirEntry.empty 0 5 with perm := 3, st := 4, ptrs := [8] } with ulines := [{ line := 5, op := 0, fscale := 0#8, ctx := 0, win := 0, parts := [{ stable := 0, cells := [] }], asked := [], got := 0 }] }) = some u ∧ State.dataFault { tdir { DirEntry.empty 0 5 with perm := 3, st := 4, ptrs := [8] } with ulines := [{ line := 5, op := 0, fscale := 0#8, ctx := 0, win := 0, parts := [{ stable := 0, cells := [] }], asked := [], got := 0 }] } (5 * 128) 128 true = none ∧ 8 % 9 = 8 ∧
      ((tdir { DirEntry.empty 0 5 with perm := 3, st := 4, ptrs := [8] }).dirAt 0 5).st = 4 ∧ ((tdir { DirEntry.empty 0 5 with perm := 3, st := 4, ptrs := [8] }).dirAt 0 5).ptrs.contains 8 = true ∧ ((tdir { DirEntry.empty 0 5 with perm := 3, st := 4, ptrs := [8] }).dirAt 0 5).crs = false ∧ ((tdir { DirEntry.empty 0 5 with perm := 3, st := 4, ptrs := [8] }).dirAt 0 5).ask = none ∧ ((tdir { DirEntry.empty 0 5 with perm := 3, st := 4, ptrs := [8] }).dirAt 0 5).recalling = none :=
  ⟨by decide, by decide, by decide, by decide, ⟨_, by rfl, by decide, by decide, by decide, by decide, by decide, by decide, by decide⟩⟩

theorem witness_CoherenceResults_requests :
    (((tdir { DirEntry.empty 0 5 with perm := 1, st := 1 }).dirAt 0 5).st ≤ 1 ∧ ((tdir { DirEntry.empty 0 5 with perm := 1, st := 1 }).dirAt 0 5).perm = 1 ∧ ((tdir { DirEntry.empty 0 5 with perm := 1, st := 1 }).dirAt 0 5).ptrs.contains 3 = false) ∧ (((tdir { DirEntry.empty 0 5 with perm := 2, st := 1, ptrs := [3] }).dirAt 0 5).st ≤ 1 ∧ ((tdir { DirEntry.empty 0 5 with perm := 2, st := 1, ptrs := [3] }).dirAt 0 5).perm = 2 ∧ ((tdir { DirEntry.empty 0 5 with perm := 2, st := 1, ptrs := [3] }).dirAt 0 5).ptrs.contains 3 = true) ∧
    ts.behind 5 = none ∧ (0 = homeDie 5 ∨ ts.coh.filterVictim 5 = none) ∧ 12 < 13 ∧ ((State.dieAt (tdie .stopped) 0).run ≠ .running) ∧
    (∃ g, ((thome { HomeEntry.empty 5 with ask := some { req := { line := 5, kind := 1, who := 1 }, due := [0], acks := [] } }).homeAt 5).ask = some g ∧ g.req.kind ≠ 0 ∧ ((thome { HomeEntry.empty 5 with ask := some { req := { line := 5, kind := 1, who := 1 }, due := [0], acks := [] } }).homeAt 5).state ≠ .u ∧ ∃ d ∈ g.due, d ≠ 6) ∧ (∃ g, ((thome { HomeEntry.empty 5 with ask := some { req := { line := 5, kind := 0, who := 1 }, due := [6], acks := [] } }).homeAt 5).ask = some g ∧ g.req.kind = 0 ∧ ((thome { HomeEntry.empty 5 with ask := some { req := { line := 5, kind := 0, who := 1 }, due := [6], acks := [] } }).homeAt 5).ports.getLsbD 0 = false) :=
  ⟨by decide, by decide, by rfl, by decide, by decide, by decide, ⟨_, by rfl, by decide, by decide, ⟨0, by decide, by decide⟩⟩, ⟨_, by rfl, by decide, by decide⟩⟩

/-- O53: a port that waits, an absent home, a page that moves and one that does not. -/
theorem witness_CoherenceResults_waiting :
    ((tblocked.portAt 0).up = true ∧ tblocked.ready = true ∧ (tblocked.portAt 0).blocked = true) ∧ ((tready.portAt 0).blocked = false ∧ (tready.portAt 0).behind = []) ∧
    ((State.portAt { tready with dies := [{ ts.dieAt 0 with run := .reset }] } 0).blocked = false ∧ (State.portAt { tready with dies := [{ ts.dieAt 0 with run := .reset }] } 0).up = true ∧ State.ready { tready with dies := [{ ts.dieAt 0 with run := .reset }] } = true ∧ (State.dieAt { tready with dies := [{ ts.dieAt 0 with run := .reset }] } 0).run ≠ .running) ∧
    (targetOf ((ts.dieAt 0).pad.readN 512 8) = .device 0 ∧ ts.ulines.filter (fun u => u.line / 512 == (ts.dieAt 0).pad.readN 512 8 / 65536 && (ts.dataFault (u.line * 128) 128 true).isSome) = []) ∧
    (MemInv { ts with ulines := [{ line := 5, op := 0, fscale := 0#8, ctx := 0, win := 0, parts := [{ stable := 0, cells := [] }], asked := [], got := 0 }], failing := [20] } ∧ (State.ulines { ts with ulines := [{ line := 5, op := 0, fscale := 0#8, ctx := 0, win := 0, parts := [{ stable := 0, cells := [] }], asked := [], got := 0 }], failing := [20] }).filter (fun u => u.line / 512 == ((State.dieAt { ts with ulines := [{ line := 5, op := 0, fscale := 0#8, ctx := 0, win := 0, parts := [{ stable := 0, cells := [] }], asked := [], got := 0 }], failing := [20] } 0).pad.readN 512 8) / 65536 && (State.dataFault { ts with ulines := [{ line := 5, op := 0, fscale := 0#8, ctx := 0, win := 0, parts := [{ stable := 0, cells := [] }], asked := [], got := 0 }], failing := [20] } (u.line * 128) 128 true).isSome) ≠ []) ∧ ((tdie .reset).dieAt 0).run = .reset :=
  ⟨by decide, by decide, by decide, by decide, ⟨⟨by decide, by decide, by decide, by decide, by decide, by decide⟩, by decide⟩, by decide⟩

/-- A rider with a pre-emption pending and a drain to finish. -/
def tdrains : State := { ts with hart := { ts.hart with preT := true, bridle := [{ kind := .drain 0x10080 4 [], ctx := 0, pgroot := 0#64, rider := true, scope := 0, reads := [], writes := [], phase := 0, done := 0, old := 0, new := 0, saved := [], started := true, after := 0, fence := 0, stopped := false, held := false, node := none }], csr := { ts.hart.csr with status := ts.hart.csr.status ||| 0x10#64 } } }

/-- A rider with two clusters, of which one is to go, and with an entry that is under way. -/
def tshrinks : State := { tidle 1 with hart := { (tidle 1).hart with csr := { (tidle 1).hart.csr with grant := 2, target := 1 }, queue := (tidle 1).hart.queue.map (fun e => { e with state := 2 }) } }

/-- O54: pre-emption that waits for a drain; a boundary that is awaited; a die that does not run. -/
theorem witness_HartEventResults_preempt :
    (tdrains.hart.vcause = none ∧ tdrains.hart.ecauses = [] ∧ tdrains.hart.ie = true ∧ tdrains.hart.waits = false ∧ tdrains.hart.softErr = [] ∧ (tdrains.hart.preT || tdrains.hart.preH) = true ∧ tdrains.hart.draining = true) ∧
    (tshrinks.hart.csr.frozen = false ∧ tshrinks.hart.csr.target < tshrinks.hart.csr.grant ∧ tshrinks.hart.atBoundary = false) ∧ ((tdie .stopped).dieAt (tdie .stopped).hart.die).run ≠ .running :=
  ⟨by decide, by decide, by decide⟩

/-- A request that has been taken: its words, and the entry of its context as it was then. -/
def ttaken (words : List Nat) (root : Option Word) (entry : Option (List Word)) : TakenLaunch := { host := false, n := 0, words := words, root := root, entry := entry }

/-- O55: requests that have been taken; a node and an image that must be waited for. -/
theorem witness_LaunchAndGraphResults_taken :
    (State.takenRequest { ts with taken := [ttaken [0, 0, 0] none none] } false 0 = some (ttaken [0, 0, 0] none none)) ∧ (State.requestNode ts (requestFrom false 0 [0, 0, 0x10040]) none = .ok none ts) ∧
    (State.requestNode ts (requestFrom false 0 [0, 0, 0]) none = .ok (some none) ts ∧ ∃ k t, State.offerImage ts (requestFrom false 0 [0, 0, 0]) none none = .ok k t) ∧
    (∃ v, State.requestNode (tmoved (tgraph [] { oneNode with offered := [(0, 0)] })) (requestFrom false 0 [0, 0, 0x10040]) (some 0#64) = .wait v) ∧ ∃ t, State.offerImage (tmoved (tgraph [] oneNode)) (requestFrom false 0 [0x10080, 0, 0]) none (some [1#64, 0#64, 0#64]) = .wait t :=
  ⟨by rfl, by rfl, ⟨by rfl, ⟨_, _, by rfl⟩⟩, ⟨_, by rfl⟩, ⟨_, by rfl⟩⟩

/-- A graph that has ended, whose completion goes to the ring of the capability at 0x10040. -/
def ended (compl : Nat) : Graph := { oneNode with compl := compl, done := 1, retry := true }

/-- The ring of a type with such a graph. -/
def tended (ring : Memory) : State := { tring 2 0#64 ring with graphs := [ended 0x10040] }

theorem typed_of {s t : State} {w : Who} {a : Word} {need : List Right} (h : s.presentCap w a need = .ok (capNow 2) t) :
    s.presentTyped w a need 2 = .ok (capNow 2) t := by
  unfold State.presentTyped
  rw [h]
  rfl

/-- O55: a completion that is pushed, one that finds the ring full, and one whose capability fails or must be waited for. -/
theorem witness_LaunchAndGraphResults_completion :
    ((tended (ringWith [])).dieAt 0).run = .running ∧ (ended 0x10040).retry = true ∧ (ended 0x10040).compl ≠ 0 ∧
    (∃ u, (tdie .running).unitOf 0 0 = (none, u)) ∧ (tended (ringWith [])).unitOf 0 0 = (some (unitWho 0 0 0#64), tended (ringWith [])) ∧
    ((tended (ringWith [])).presentTyped (unitWho 0 0 0#64) 0x10040#64 [.push, .wake] 2 = .ok (capNow 2) (tended (ringWith [])) ∧
      ∃ n t a z, (tended (ringWith [])).ringPush (unitWho 0 0 0#64) (capNow 2) ([(ended 0x10040).tag.toNat, (ended 0x10040).done % 2 ^ 32 + (ended 0x10040).failed % 2 ^ 32 * 2 ^ 32] ++ List.replicate (2 ^ (capNow 2).lgsize / 8 - 3) 0) = .ok (some n) t ∧ t.ringWake (unitWho 0 0 0#64) (capNow 2) (n + 1) = .ok a z) ∧
    ((tended ([(0x10100, 2#8), (0x10159, 1#8), (0x1015A, 1#8), (0x10161, 1#8), (0x10162, 1#8), (0x10168, 1#8)])).presentTyped (unitWho 0 0 0#64) 0x10040#64 [.push, .wake] 2 = .ok (capNow 2) (tended ([(0x10100, 2#8), (0x10159, 1#8), (0x1015A, 1#8), (0x10161, 1#8), (0x10162, 1#8), (0x10168, 1#8)])) ∧ ∃ t, (tended ([(0x10100, 2#8), (0x10159, 1#8), (0x1015A, 1#8), (0x10161, 1#8), (0x10162, 1#8), (0x10168, 1#8)])).ringPush (unitWho 0 0 0#64) (capNow 2) ([(ended 0x10040).tag.toNat, (ended 0x10040).done % 2 ^ 32 + (ended 0x10040).failed % 2 ^ 32 * 2 ^ 32] ++ List.replicate (2 ^ (capNow 2).lgsize / 8 - 3) 0) = .ok none t) ∧
    (∃ c v, (tended (ringWith [])).presentTyped (unitWho 0 0 0#64) 0x10080#64 [.push, .wake] 2 = .stop c v) ∧ ∃ v, (tmoved (tended (ringWith []))).presentTyped (unitWho 0 0 0#64) 0x10040#64 [.push, .wake] 2 = .wait v :=
  ⟨by rfl, by rfl, by decide, ⟨_, by rfl⟩, by rfl, ⟨typed_of (present_of (type := 2) (by rfl) (by rfl) (by decide) (by decide) (by decide)), ⟨_, _, _, _, by rfl, by rfl⟩⟩, ⟨typed_of (present_of (type := 2) (by rfl) (by rfl) (by decide) (by decide) (by decide)), ⟨_, by rfl⟩⟩, ⟨_, _, by rfl⟩, ⟨_, by rfl⟩⟩

end Sys2Proof.Tests
end

section
/-! O59: bytes stay in canonical form (R4, R35, R48, R223, R370). A state is canonical (`MemInv`) where every memory in it lists its bytes in
rising order without zeros: device memory, the scratchpads of dies and jobs, the staging window, the firmware image and the checkpoints.

The development follows the model's definitions in their order. For an operation `f` on states, `MemInv.f` says that `f` keeps a canonical
state canonical; `Res.Keeps`, `Eff.Keeps`, `Group.Keeps`, `RStep.Keeps` and `Answer.Keeps` say the same of an operation that answers more than
a state, whatever the answer. Few operations write bytes: `physWrite`, `padWrite`, `mergeU`, `setPendingBit`, the groom core's registers, the
background initialisation, power loss, the staging window and checkpoints; these rest on the laws of `Memory.write` and `Memory.clear`. All
others move bytes through them, or leave them alone (`MemInv.same`). -/

namespace Sys2Proof.Machine

/-! ## Lists updated by a key -/

theorem all_putBy {α : Type} {q p : α → Bool} {b : α} {l : List α} (hl : l.all q = true) (hb : q b = true) :
    (putBy p b l).all q = true := by
  induction l with
  | nil => simpa [putBy] using hb
  | cons a l ih =>
    simp only [List.all_cons, Bool.and_eq_true] at hl
    unfold putBy
    split
    · simp [hb, hl.2]
    · simp [hl.1, ih hl.2]

theorem all_dropBy {α : Type} {q p : α → Bool} {l : List α} (hl : l.all q = true) : (dropBy p l).all q = true := by
  induction l with
  | nil => rfl
  | cons a l ih =>
    simp only [List.all_cons, Bool.and_eq_true] at hl
    unfold dropBy
    split
    · exact ih hl.2
    · simp [hl.1, ih hl.2]

theorem all_findBy {α : Type} {q p : α → Bool} {l : List α} {a : α} (hl : l.all q = true) (h : findBy p l = some a) : q a = true :=
  List.all_eq_true.1 hl a (findBy_mem h)

/-! ## Memory -/

theorem Memory.wf_foldl_write {l : List (Nat × Byte)} {m : Memory} (w : m.wf = true) :
    Memory.wf (l.foldl (fun (m : Memory) p => m.write p.1 p.2) m) = true :=
  List.foldlRecOn (motive := fun m : Memory => m.wf = true) l _ w fun _ w _ _ => Memory.wf_write w

theorem Memory.wf_foldl_clear {l : List Range} {m : Memory} (w : m.wf = true) :
    Memory.wf (l.foldl (fun (m : Memory) r => m.clear r.lo (r.lo + r.len)) m) = true :=
  List.foldlRecOn (motive := fun m : Memory => m.wf = true) l _ w fun _ w _ _ => Memory.wf_clear w

theorem Memory.wf_withRecords {m new : Memory} {lo n : Nat} (w : m.wf = true) : (m.withRecords new lo n).wf = true := by
  induction n generalizing m lo with
  | zero => exact w
  | succ n ih =>
    unfold Memory.withRecords
    exact ih (Memory.wf_write (Memory.wf_writeN (Memory.wf_clear w)))

/-! ## The invariant and the parts of the state -/

section
variable {s t : State}

/-- What of a state holds bytes: device memory, the dies with their scratchpads, the jobs with theirs, the staging window, the firmware image
and the checkpoints. -/
def State.holders (s : State) : Memory × List Die × List Job × Memory × Memory × List (Nat × Checkpoint) :=
  (s.mem, s.dies, s.jobs, s.staging, s.firmware, s.checkpts)

/-- A state that holds the same bytes as a canonical one is canonical. -/
theorem MemInv.same (h : MemInv s) (e : t.holders = s.holders) : MemInv t := by
  simp only [State.holders, Prod.mk.injEq] at e
  obtain ⟨mem, dies, jobs, staging, firmware, checkpts⟩ := e
  exact ⟨mem ▸ h.mem, dies ▸ h.pads, jobs ▸ h.jobs, staging ▸ h.staging, firmware ▸ h.firmware, checkpts ▸ h.checkpts⟩

/-- Memory replaced by a canonical one, and nothing else that holds bytes. -/
theorem MemInv.withMem (h : MemInv s) (mem : t.mem.wf = true) (e : t.holders = State.holders { s with mem := t.mem }) : MemInv t :=
  MemInv.same (s := { s with mem := t.mem }) ⟨mem, h.pads, h.jobs, h.staging, h.firmware, h.checkpts⟩ e

/-- The dies replaced by some with canonical scratchpads, and nothing else that holds bytes. -/
theorem MemInv.withDies (h : MemInv s) (dies : t.dies.all (fun d => d.pad.wf) = true)
    (e : t.holders = State.holders { s with dies := t.dies }) : MemInv t :=
  MemInv.same (s := { s with dies := t.dies }) ⟨h.mem, dies, h.jobs, h.staging, h.firmware, h.checkpts⟩ e

/-- The jobs replaced by some with canonical scratchpads, and nothing else that holds bytes. -/
theorem MemInv.withJobs (h : MemInv s) (jobs : t.jobs.all (fun j => j.pad.wf) = true)
    (e : t.holders = State.holders { s with jobs := t.jobs }) : MemInv t :=
  MemInv.same (s := { s with jobs := t.jobs }) ⟨h.mem, h.pads, jobs, h.staging, h.firmware, h.checkpts⟩ e

/-- Every die changed in what is no scratchpad. -/
theorem MemInv.pads_map (h : MemInv s) {f : Die → Die} (hf : ∀ d, (f d).pad = d.pad) : (s.dies.map f).all (fun d => d.pad.wf) = true := by
  have := h.pads
  simp_all [List.all_map, List.all_eq_true]

theorem MemInv.dieAt (h : MemInv s) {n : Nat} : (s.dieAt n).pad.wf = true := by
  unfold State.dieAt
  cases e : findBy (fun d : Die => d.n == n) s.dies with
  | none => rfl
  | some d => exact all_findBy (q := fun d : Die => d.pad.wf) h.pads e

theorem MemInv.putDie (h : MemInv s) {d : Die} (hd : d.pad.wf = true) : MemInv (s.putDie d) := h.withDies (all_putBy h.pads hd) rfl

/-- A die replaced by one with the scratchpad of a die of the state. -/
theorem MemInv.putDieOf (h : MemInv s) {n : Nat} {d : Die} (hd : d.pad = (s.dieAt n).pad) : MemInv (s.putDie d) := h.putDie (hd ▸ h.dieAt)

theorem MemInv.jobAt (h : MemInv s) {g : Nat} {j : Job} (e : s.jobAt g = some j) : j.pad.wf = true :=
  all_findBy (q := fun j : Job => j.pad.wf) h.jobs e

theorem MemInv.job (h : MemInv s) {j : Job} (e : s.job = some j) : j.pad.wf = true := by
  unfold State.job at e
  split at e
  · exact h.jobAt e
  · contradiction

theorem MemInv.putJob (h : MemInv s) {j : Job} (hj : j.pad.wf = true) : MemInv (s.putJob j) := h.withJobs (all_putBy h.jobs hj) rfl

theorem MemInv.putPort (h : MemInv s) {p : Port} : MemInv (s.putPort p) := h.same rfl
theorem MemInv.putStable (h : MemInv s) {c : Stable} : MemInv (s.putStable c) := h.same rfl
theorem MemInv.onHart (h : MemInv s) {f : Hart → Hart} : MemInv (s.onHart f) := h.same rfl
theorem MemInv.mapHarts (h : MemInv s) {f : Hart → Hart} : MemInv (s.mapHarts f) := h.same rfl
theorem MemInv.putDir (h : MemInv s) {e : DirEntry} : MemInv (s.putDir e) := h.same rfl
theorem MemInv.putHome (h : MemInv s) {e : HomeEntry} : MemInv (s.putHome e) := h.same rfl

theorem MemInv.setCoh (h : MemInv s) {c : Coherence} : MemInv { s with coh := c } := h.same rfl
theorem MemInv.setFresh (h : MemInv s) {n : Nat} : MemInv { s with fresh := n } := h.same rfl
theorem MemInv.setClock (h : MemInv s) {n : Nat} : MemInv { s with clock := n } := h.same rfl
theorem MemInv.setFailing (h : MemInv s) {l : List Nat} : MemInv { s with failing := l } := h.same rfl
theorem MemInv.setHarts (h : MemInv s) {g : Hart} {l : List Hart} : MemInv { s with hart := g, others := l } := h.same rfl

theorem MemInv.putHart (h : MemInv s) {g : Hart} : MemInv (s.putHart g) := by
  unfold State.putHart
  split <;> exact h.same rfl

theorem MemInv.onHartId (h : MemInv s) {id : Nat} {f : Hart → Hart} : MemInv (s.onHartId id f) := by
  unfold State.onHartId
  split
  · exact h.putHart
  · exact h

theorem MemInv.focusOn (h : MemInv s) {id : Nat} : MemInv (s.focusOn id) := by
  unfold State.focusOn
  split
  · exact h
  · exact h.same rfl

/-- A fold of steps that each keep the canonical form keeps it. -/
theorem MemInv.foldl {α : Type} {l : List α} {f : State → α → State} (h : MemInv s) (hf : ∀ t a, MemInv t → MemInv (f t a)) :
    MemInv (l.foldl f s) := List.foldlRecOn l f h fun t ht a _ => hf t a ht

/-! A branch of the model chooses between two results that are each canonical. -/

theorem MemInv.ite {c : Prop} [Decidable c] (hs : MemInv s) (ht : MemInv t) : MemInv (if c then s else t) := by
  split
  · exact hs
  · exact ht

theorem MemInv.fst_ite {α : Type} {c : Prop} [Decidable c] {x y : State × α} (hx : MemInv x.1) (hy : MemInv y.1) :
    MemInv (if c then x else y).1 := by
  split
  · exact hx
  · exact hy

theorem MemInv.snd_ite {α : Type} {c : Prop} [Decidable c] {x y : α × State} (hx : MemInv x.2) (hy : MemInv y.2) :
    MemInv (if c then x else y).2 := by
  split
  · exact hx
  · exact hy

/-! ## Physical accesses -/

theorem MemInv.touchRegion (h : MemInv s) {pa : Nat} : MemInv (s.touchRegion pa) := by
  unfold State.touchRegion
  dsimp only
  split
  · exact h.same rfl
  · exact h

theorem MemInv.mergeU (h : MemInv s) {line : Nat} : MemInv (s.mergeU line) := by
  unfold State.mergeU
  split
  · exact h
  · exact h.touchRegion.withMem (wf_mergeLine _ h.mem) rfl

theorem MemInv.mergeRange (h : MemInv s) {a n : Nat} : MemInv (s.mergeRange a n) := by
  unfold State.mergeRange
  split
  · exact h
  · exact h.foldl fun _ _ h => h.mergeU

theorem MemInv.bufferHost (h : MemInv s) {pa n : Nat} {w : Bool} : MemInv (s.bufferHost pa n w) := by
  rw [State.bufferHost_frame]
  exact h.same rfl

theorem MemInv.physRead (h : MemInv s) {pa n : Nat} : MemInv (s.physRead pa n).2 := h.mergeRange.bufferHost

theorem MemInv.physWrite (h : MemInv s) {who pa n v : Nat} : MemInv (s.physWrite who pa n v) := by
  have hb {coh : Coherence} : MemInv (({ (s.mergeRange pa n).touchRegion pa with coh } : State).bufferHost pa n true) :=
    h.mergeRange.touchRegion.setCoh.bufferHost
  exact hb.withMem (Memory.wf_writeN hb.mem) rfl

/-! ## Records and events -/

theorem MemInv.logPort (h : MemInv s) {port : Nat} {r : ErrRecord} : MemInv (s.logPort port r) := h.putPort
theorem MemInv.logAll (h : MemInv s) {r : ErrRecord} : MemInv (s.logAll r) := h.logPort.logPort

theorem MemInv.postEvent (h : MemInv s) {port source cause die ctx : Nat} {value detail : Word} :
    MemInv (s.postEvent port source cause die ctx value detail) := by
  unfold State.postEvent
  dsimp only
  split <;> exact h.putPort

theorem MemInv.setPendingBit (h : MemInv s) {die n : Nat} : MemInv (s.setPendingBit die n) := by
  have hd := h.putDie (d := { s.dieAt die with pad := (s.dieAt die).pad.write (n / 8) ((s.dieAt die).pad.read (n / 8) ||| (1#8 <<< (n % 8))) })
    (Memory.wf_write h.dieAt)
  unfold State.setPendingBit
  dsimp only
  split
  · exact hd
  · exact hd.onHartId

theorem MemInv.toGroom (h : MemInv s) {die : Nat} {c : Stop} : MemInv (s.toGroom die c) := h.putDie h.dieAt

theorem MemInv.agentEvent (h : MemInv s) {fn cause die ctx : Nat} {value detail : Word} :
    MemInv (s.agentEvent fn cause die ctx value detail) := by
  unfold State.agentEvent
  split
  · exact h.postEvent
  · exact h.toGroom

theorem MemInv.recoveryEvent (h : MemInv s) {cause die ctx : Nat} {value : Word} : MemInv (s.recoveryEvent cause die ctx value) := by
  unfold State.recoveryEvent
  split
  · exact h.postEvent
  · exact h.toGroom

theorem MemInv.contain (h : MemInv s) {r : ErrRecord} : MemInv (s.contain r) := h.logAll.recoveryEvent

theorem MemInv.evictU (h : MemInv s) {die line : Nat} : MemInv (s.evictU die line).2 := by
  unfold State.evictU
  split
  · exact h.same rfl
  split
  · dsimp only
    split
    · exact h
    · exact h.contain
  · exact h.mergeU

end

/-! ## Results that keep a property of the state -/

/-- Whatever an operation answers, the state that it answers has the property. -/
def Res.Keeps {α : Type} (P : State → Prop) : Res α → Prop
  | .ok _ s => P s
  | .stop _ s => P s
  | .wait s => P s

section
variable {α β : Type} {P : State → Prop} {r : Res α}

theorem Res.Keeps.ok {a : α} {s : State} (h : r.Keeps P) (e : r = .ok a s) : P s := by subst e; exact h
theorem Res.Keeps.stop {c : Stop} {s : State} (h : r.Keeps P) (e : r = .stop c s) : P s := by subst e; exact h
theorem Res.Keeps.wait {s : State} (h : r.Keeps P) (e : r = .wait s) : P s := by subst e; exact h

theorem Res.Keeps.ite {c : Prop} [Decidable c] {q : Res α} (h : r.Keeps P) (hq : q.Keeps P) : (if c then r else q).Keeps P := by
  split
  · exact h
  · exact hq

theorem Res.Keeps.bind {k : α → State → Res β} (h : r.Keeps P) (hk : ∀ a s, P s → (k a s).Keeps P) : (r.bind k).Keeps P := by
  cases r with
  | ok a s => exact hk a s h
  | stop c s => exact h
  | wait s => exact h

end

section
variable {s t : State}

/-! ## Translation and the checks of an access -/

theorem MemInv.walk (h : MemInv s) {va level node : Nat} {shifts : List Nat} :
    MemInv (Machine.walk s va shifts level node).2.2 := by
  induction shifts generalizing s level node with
  | nil => exact h
  | cons sh rest ih =>
    have hr := h.physRead (pa := node + (va / 2 ^ sh % 1024) * 8) (n := 8)
    unfold Machine.walk
    dsimp only
    split
    · exact h
    split
    · exact h
    split
    · exact hr
    split
    · split <;> exact hr
    split
    · exact ih hr
    · exact hr

theorem MemInv.translate (h : MemInv s) {stable ctx va : Nat} {root : Word} {x : Xlat}
    (e : s.translate stable ctx root va = (x, t)) : MemInv t := by
  have hw := h.walk (va := va) (level := 0) (node := bits root 13 39 * 8192) (shifts := [46, 36, 26, 16])
  unfold State.translate at e
  split at e
  · cases e; exact h
  split at e
  all_goals
    rename_i eq
    rw [eq] at hw
    cases e
  · exact hw.putStable
  · exact hw

theorem MemInv.offerFault (h : MemInv s) {die va ctx hart n : Nat} {write fetch malformed : Bool}
    (e : s.offerFault die va ctx hart write fetch malformed = some (n, t)) : MemInv t := by
  unfold State.offerFault at e
  dsimp only at e
  split at e
  · cases e; exact h.postEvent
  split at e
  · contradiction
  · cases e
    exact (h.putDie (Memory.wf_writeN (Memory.wf_writeN (Memory.wf_clear h.dieAt)))).setPendingBit

theorem MemInv.setOffers (h : MemInv s) {w : Who} {l : List Offer} : MemInv (s.setOffers w l) := by
  unfold State.setOffers
  split
  · exact h.putDie h.dieAt
  · exact h.onHart

theorem MemInv.setMoved (h : MemInv s) {w : Who} {l : List (Nat × Nat × Bool)} : MemInv (s.setMoved w l) := by
  unfold State.setMoved
  split
  · exact h.putDie h.dieAt
  · exact h.onHart

theorem MemInv.answered {α : Type} (h : MemInv s) {w : Who} {o : Offer} : (s.answered w o : Res α).Keeps MemInv := by
  unfold State.answered
  split
  · exact h.setOffers
  · exact h

theorem MemInv.notPresent {α : Type} (h : MemInv s) {w : Who} {va : Nat} {write fetch malformed : Bool} :
    (s.notPresent w va write fetch malformed : Res α).Keeps MemInv := by
  unfold State.notPresent
  split
  · exact h
  split
  next e => exact (h.offerFault e).setOffers
  · exact h

theorem MemInv.movedCheck (h : MemInv s) {w : Who} {va pa : Nat} : (s.movedCheck w va pa).Keeps MemInv := by
  unfold State.movedCheck
  dsimp only
  split
  · split
    · exact h.setMoved
    split
    · exact h
    split
    · exact h.setMoved
    split
    · exact h.setMoved
    · exact h.setMoved
  · split
    · exact h.setMoved
    · exact h

theorem MemInv.dataStop {α : Type} (h : MemInv s) {w : Who} {va cause cls pa : Nat} :
    (s.dataStop w va cause cls pa : Res α).Keeps MemInv := by
  change MemInv (if cls = 0 then s else _)
  split
  · exact h
  · exact h.contain

theorem MemInv.dataCheck (h : MemInv s) {w : Who} {va pa n : Nat} {k : AKind} : (s.dataCheck w va pa n k).Keeps MemInv := by
  unfold State.dataCheck
  split
  · exact h.dataStop
  · exact h

theorem MemInv.pageAs (h : MemInv s) {w : Who} {va n : Nat} {k : AKind} : (s.pageAs w va n k).Keeps MemInv := by
  unfold State.pageAs
  split
  · exact h.answered
  next e => exact (h.translate e).dataStop
  next e => exact (h.translate e).movedCheck.bind fun _ _ h => h
  next e => exact (h.translate e).notPresent
  next t e =>
    have ht := h.translate e
    split
    · exact ht.notPresent
    split
    · exact ht
    exact .ite ht.logAll ht

theorem MemInv.accessAs (h : MemInv s) {w : Who} {va n al : Nat} {k : AKind} : (s.accessAs w va n al k).Keeps MemInv := by
  unfold State.accessAs
  split
  · exact h
  split
  · exact h
  split
  · split <;> exact h
  · exact h.pageAs.bind fun _ _ h => h.movedCheck.bind fun _ _ h => h.dataCheck.bind fun _ _ h => h

theorem MemInv.access (h : MemInv s) {va n al : Nat} {k : AKind} {window : Bool} : (s.access va n al k window).Keeps MemInv := h.accessAs

/-! ## Places read and written -/

theorem wf_ite {c : Prop} [Decidable c] {m n : Memory} (hm : m.wf = true) (hn : n.wf = true) : Memory.wf (if c then m else n) = true := by
  split
  · exact hm
  · exact hn

theorem wf_fst_ite {c : Prop} [Decidable c] {x y : Memory × List Turn} (hx : x.1.wf = true) (hy : y.1.wf = true) :
    (if c then x else y).1.wf = true := by
  split
  · exact hx
  · exact hy

/-- The fix-up of a groom scratchpad writes doublewords of its registers, and nothing else (R38, R39, R325, R356). -/
theorem wf_groomPadFix {die off n : Nat} {old new : Memory} (w : new.wf = true) : (groomPadFix die old new off n).1.wf = true := by
  unfold groomPadFix
  dsimp only
  refine wf_fst_ite (Memory.wf_writeN ?launch) ?launch
  case launch =>
    refine wf_ite (Memory.wf_writeN ?contexts) ?contexts
    case contexts =>
      refine wf_ite (Memory.wf_writeN ?preempt) ?preempt
      case preempt =>
        refine wf_fst_ite (Memory.wf_writeN ?replies) ?replies
        case replies =>
          refine wf_ite (Memory.wf_writeN (Memory.wf_writeN ?migration)) ?migration
          case migration => exact wf_fst_ite (Memory.wf_writeN w) w

end

section
variable {s t : State}

theorem MemInv.padWrite (h : MemInv s) {off n v : Nat} : MemInv (s.padWrite off n v) := by
  have hw : ((s.dieAt s.hart.die).pad.writeN off n v).wf = true := Memory.wf_writeN h.dieAt
  unfold State.padWrite
  split
  · dsimp only
    refine MemInv.same (h.putDie ?_) rfl
    change Memory.wf (Prod.fst (if _ then _ else _)) = true
    exact wf_fst_ite (wf_groomPadFix hw) hw
  split
  next e => exact h.putJob (Memory.wf_writeN (h.job e))
  · exact h

theorem MemInv.readPlace (h : MemInv s) {p : Place} {n : Nat} : MemInv (s.readPlace p n).2 := by
  cases p with
  | phys pa leaf => exact h.physRead
  | pad off => exact h

theorem MemInv.writePlace (h : MemInv s) {w : Who} {p : Place} {n v : Nat} : MemInv (s.writePlace w p n v) := by
  cases p with
  | phys pa leaf => exact h.physWrite
  | pad off => exact h.padWrite

theorem MemInv.readLines (h : MemInv s) {die prio pa n : Nat} {a : Option Nat} : MemInv (s.readLines die a prio pa n) := by
  rw [State.readLines_frame]
  exact h.same rfl

theorem MemInv.placeAs (h : MemInv s) {w : Who} {p : Place} {n : Nat} {write : Bool} : MemInv (s.placeAs w p n write) := by
  rw [State.placeAs_frame]
  exact h.same rfl

theorem MemInv.placeVector (h : MemInv s) {f n : Nat} {w : Bool} {p : Place} : MemInv (s.placeVector f w p n) := by
  rw [State.placeVector_frame]
  exact h.same rfl

theorem MemInv.loadAs (h : MemInv s) {w : Who} {va n al : Nat} : (s.loadAs w va n al).Keeps MemInv :=
  h.accessAs.bind fun _ _ h => h.readPlace.placeAs

theorem MemInv.storeAs (h : MemInv s) {w : Who} {va n al v : Nat} : (s.storeAs w va n al v).Keeps MemInv :=
  h.accessAs.bind fun _ _ h => h.writePlace.placeAs

theorem MemInv.loadRaw (h : MemInv s) {va n al : Nat} {window : Bool} : (s.loadRaw va n al window).Keeps MemInv := h.loadAs
theorem MemInv.storeRaw (h : MemInv s) {va n al v : Nat} {window : Bool} : (s.storeRaw va n al v window).Keeps MemInv := h.storeAs

/-- What an attempt leaves is the state before it, with the fault records that a die's ring has taken (R358). -/
theorem MemInv.keepAttempt (h : MemInv s) {waits : Bool} : MemInv (s.keepAttempt t waits) := by
  unfold State.keepAttempt
  split
  · refine h.withDies ?_ rfl
    simp [List.all_map, List.all_eq_true, Memory.wf_withRecords h.dieAt]
  · exact h.withDies (h.pads_map fun _ => rfl) rfl

theorem Res.Keeps.orNothing {α : Type} {r : Res α} (hr : r.Keeps MemInv) (h : MemInv s) : (r.orNothing s).Keeps MemInv := by
  cases r with
  | ok a t => exact hr
  | stop c t => exact h.keepAttempt
  | wait t => exact h.keepAttempt

/-! ## Recursion records and traps -/

theorem MemInv.setStoreTail (h : MemInv s) {r : RecRun} {i v : Nat} : MemInv (s.setStoreTail r i v) := h.padWrite

theorem MemInv.storeAll (h : MemInv s) {w : Who} {a : Nat} {vs : List Nat} : (s.storeAll w a vs).Keeps MemInv := by
  induction vs generalizing s a with
  | nil => exact h
  | cons v vs ih => exact h.storeAs.bind fun _ _ h => ih h

theorem MemInv.engineWords (h : MemInv s) {a : Nat} {vals : List Nat} : MemInv (s.engineWords a vals) := by
  unfold State.engineWords
  split
  next e => exact h.storeAll.ok e
  · exact h.keepAttempt.onHart
  · exact h.keepAttempt.onHart

theorem MemInv.saveRecursion (h : MemInv s) : MemInv s.saveRecursion := by
  unfold State.saveRecursion
  split
  · exact h
  · exact (MemInv.ite (h.engineWords.foldl fun _ _ h => .ite h.setStoreTail h) h.engineWords).onHart

theorem MemInv.dropRecursion (h : MemInv s) : MemInv s.dropRecursion := by
  unfold State.dropRecursion
  split
  · exact h
  · exact h.onHart

theorem MemInv.withdrawArrival (h : MemInv s) : MemInv s.withdrawArrival := by
  unfold State.withdrawArrival
  split
  · exact h
  dsimp only
  split
  next e =>
    have hj := h.job e
    exact .ite (h.onHart.putJob hj) h.onHart
  · exact h.onHart

theorem MemInv.dropLinks (h : MemInv s) : MemInv s.dropLinks := h.same rfl

theorem MemInv.enterTrap (h : MemInv s) {c : Stop} {vpc : Option Word} : MemInv (s.enterTrap c vpc) := by
  unfold State.enterTrap
  exact (MemInv.ite h.dropRecursion h.saveRecursion).withdrawArrival.dropLinks.setFresh.onHart

theorem MemInv.advance (h : MemInv s) {len : Nat} : MemInv (s.advance len) := h.onHart

/-! ## Fetching -/

theorem MemInv.fillCode (h : MemInv s) {pa : Nat} : MemInv (s.fillCode pa) := h.mergeRange.putStable

theorem MemInv.readCode (h : MemInv s) {pa : Nat} : MemInv (s.readCode pa).2 := by
  unfold State.readCode
  split
  · exact h.fillCode
  split
  · exact h
  dsimp only
  split
  · exact h.setFresh
  · exact h.setFresh.fillCode

theorem MemInv.readCodeAt (h : MemInv s) {p : Place} : MemInv (s.readCodeAt p).2 := by
  cases p with
  | phys pa leaf => exact h.readCode
  | pad off => exact h.readPlace

theorem MemInv.fetchHalves (h : MemInv s) {a n : Nat} : (s.fetchHalves a n).Keeps MemInv := by
  induction n generalizing s a with
  | zero => exact h
  | succ n ih => exact h.access.bind fun _ _ h => (ih h.readCodeAt).bind fun _ _ h => h

theorem MemInv.fetchAt (h : MemInv s) {a : Nat} : (s.fetchAt a).Keeps MemInv :=
  h.fetchHalves.bind fun _ _ h => .ite h (h.fetchHalves.bind fun _ _ h => h)

theorem MemInv.readBlockFrom (h : MemInv s) {start a n : Nat} {first : Bool} : (s.readBlockFrom start a n first).Keeps MemInv := by
  induction n generalizing s a first with
  | zero => exact h
  | succ n ih =>
    refine h.fetchAt.bind fun w s h => ?_
    split
    · exact h
    split
    · exact .ite h (.ite h h)
    split
    · exact h
    · exact (ih h).bind fun _ _ h => h

theorem MemInv.readBlock (h : MemInv s) {a : Word} : (s.readBlock a).Keeps MemInv := by
  unfold State.readBlock
  split
  · exact h
  · exact h.readBlockFrom

end

section
variable {s t : State}

/-! ## Rings -/

theorem MemInv.entryRead (h : MemInv s) {die ctx pa n : Nat} : MemInv (s.entryRead die ctx pa n).2 := by
  unfold State.entryRead
  split
  · exact .ite h h.contain
  · exact h.physRead

theorem MemInv.ctxRoot (h : MemInv s) {die ctx : Nat} {r : Option Word} (e : s.ctxRoot die ctx = (r, t)) : MemInv t := by
  unfold State.ctxRoot at e
  split at e
  · cases e; exact h
  next pa _ =>
    have hr := h.entryRead (die := die) (ctx := ctx) (pa := pa) (n := 16)
    split at e
    all_goals
      rename_i eq
      rw [eq] at hr
      cases e
      exact hr

theorem MemInv.ringRd (h : MemInv s) {w : Who} {a : Nat} : (s.ringRd w a).Keeps MemInv := by
  unfold State.ringRd
  exact .ite h h.loadAs

theorem MemInv.ringWr (h : MemInv s) {w : Who} {a v : Nat} : (s.ringWr w a v).Keeps MemInv := by
  unfold State.ringWr
  exact .ite h h.storeAs

theorem MemInv.loadWords (h : MemInv s) {w : Who} {a n : Nat} : (s.loadWords w a n).Keeps MemInv := by
  induction n generalizing s a with
  | zero => exact h
  | succ n ih => exact h.ringRd.bind fun _ _ h => (ih h).bind fun _ _ h => h

theorem MemInv.storeWords (h : MemInv s) {w : Who} {a : Nat} {vs : List Nat} : (s.storeWords w a vs).Keeps MemInv := by
  induction vs generalizing s a with
  | nil => exact h
  | cons v vs ih => exact h.ringWr.bind fun _ _ h => ih h

theorem MemInv.ringOpen (h : MemInv s) {w : Who} {c : Cap} : (s.ringOpen w c).Keeps MemInv := by
  unfold State.ringOpen
  split
  next e => exact h.ctxRoot e
  next e =>
    refine .ite (h.ctxRoot e) ((h.ctxRoot e).accessAs.bind fun p _ h => ?_)
    cases p <;> exact h

theorem MemInv.minCursor (h : MemInv s) {w : Who} {base n : Nat} : (s.minCursor w base n).Keeps MemInv := by
  induction n generalizing s with
  | zero => exact h
  | succ n ih => exact h.ringRd.bind fun _ _ h => (ih h).bind fun _ _ h => h

theorem MemInv.segmentOf (h : MemInv s) {w : Who} {c : Cap} {p n seg : Nat} : (s.segmentOf w c p n seg).Keeps MemInv := by
  induction n generalizing s seg with
  | zero => exact h
  | succ n ih =>
    refine h.ringRd.bind fun _ _ h => h.ringRd.bind fun _ _ h => (ih h).bind fun _ _ h => ?_
    dsimp only
    split <;> exact h

theorem MemInv.slotOf (h : MemInv s) {w : Who} {c : Cap} {p n seg : Nat} : (s.slotOf w c p n seg).Keeps MemInv :=
  h.segmentOf.bind fun _ _ h => h

theorem MemInv.ringClaim (h : MemInv s) {w : Who} {c : Cap} {home : Nat} : (s.ringClaim w c home).Keeps MemInv := by
  unfold State.ringClaim
  refine h.ringRd.bind fun _ _ h => h.ringRd.bind fun _ _ h => h.ringRd.bind fun _ _ h => .ite ?_ ?_
  · exact h.ringWr.bind fun _ _ h => h
  refine h.ringRd.bind fun _ _ h => h.minCursor.bind fun _ _ h => h.ringRd.bind fun _ _ h => .ite ?_ ?_
  · exact h.ringWr.bind fun _ _ h => h.ringWr.bind fun _ _ h => h.ringWr.bind fun _ _ h => h
  · exact h.ringRd.bind fun _ _ h => .ite (h.ringWr.bind fun _ _ h => h.agentEvent) h

theorem MemInv.ringPush (h : MemInv s) {w : Who} {c : Cap} {payload : List Nat} : (s.ringPush w c payload).Keeps MemInv := by
  refine Res.Keeps.orNothing (h.ringOpen.bind fun _ _ h => h.ringClaim.bind fun r _ h => ?_) h
  cases r with
  | none => exact h
  | some r => exact h.storeWords.bind fun _ _ h => h.ringWr.bind fun _ _ h => h

theorem MemInv.ringPeek (h : MemInv s) {w : Who} {c : Cap} {j : Nat} : (s.ringPeek w c j).Keeps MemInv := by
  refine h.ringRd.bind fun _ _ h => h.ringRd.bind fun _ _ h => h.slotOf.bind fun slot _ h => ?_
  cases slot with
  | none => exact h
  | some a => exact h.ringRd.bind fun _ _ h => .ite (h.loadWords.bind fun _ _ h => h) h

theorem MemInv.ringTake (h : MemInv s) {w : Who} {c : Cap} {j pos : Nat} : (s.ringTake w c j pos).Keeps MemInv := h.ringWr

theorem MemInv.wakeWatchers (h : MemInv s) {owner base : Nat} : MemInv (s.wakeWatchers owner base) := h.mapHarts

theorem MemInv.wakeAccepted (h : MemInv s) {c : Cap} {home pbit : Nat} : MemInv (s.wakeAccepted c home pbit) := by
  have hw : MemInv ((if pbit ≤ 4093 then s.setPendingBit home pbit else s).wakeWatchers c.owner c.base) :=
    (MemInv.ite h.setPendingBit h).wakeWatchers
  exact .ite (hw.same rfl) hw

theorem MemInv.ringWake (h : MemInv s) {w : Who} {c : Cap} {n : Nat} : (s.ringWake w c n).Keeps MemInv :=
  Res.Keeps.orNothing (h.ringOpen.bind fun _ _ h => h.ringRd.bind fun _ _ h => h.ringRd.bind fun _ _ h =>
    .ite h.wakeAccepted (h.minCursor.bind fun _ _ h => .ite h.toGroom (h.ringWr.bind fun _ _ h => h.wakeAccepted))) h

theorem MemInv.ringGrow (h : MemInv s) {w : Who} {c : Cap} {g : Nat} : (s.ringGrow w c g).Keeps MemInv :=
  Res.Keeps.orNothing (h.ringOpen.bind fun _ _ h => h.ringRd.bind fun _ _ h =>
    .ite (h.ringWr.bind fun _ _ h => h) (h.ringRd.bind fun _ _ h => h.ringRd.bind fun _ _ h => h.ringRd.bind fun _ _ h =>
      h.ringWr.bind fun _ _ h => h.ringWr.bind fun _ _ h => h.ringWr.bind fun _ _ h => h.ringWr.bind fun _ _ h =>
      h.ringWr.bind fun _ _ h => h)) h

theorem MemInv.readCap (h : MemInv s) {w : Who} {a : Word} : (s.readCap w a).Keeps MemInv := by
  refine .ite h (.ite h (h.loadWords.bind fun _ _ h => ?_))
  split <;> exact h

theorem MemInv.presentCap (h : MemInv s) {w : Who} {a : Word} {need : List Right} : (s.presentCap w a need).Keeps MemInv := by
  refine h.readCap.bind fun _ _ h => ?_
  split <;> exact h

theorem MemInv.presentTyped (h : MemInv s) {w : Who} {a : Word} {need : List Right} {type : Nat} :
    (s.presentTyped w a need type).Keeps MemInv := h.presentCap.bind fun _ _ h => .ite h h

/-! ## Engine transfers -/

theorem MemInv.loadPieces (h : MemInv s) {w : Who} {ps : List (Nat × Nat)} : (s.loadPieces w ps).Keeps MemInv := by
  induction ps generalizing s with
  | nil => exact h
  | cons p ps ih => exact h.loadAs.bind fun _ _ h => (ih h).bind fun _ _ h => h

theorem MemInv.loadBytes (h : MemInv s) {w : Who} {a n : Nat} : (s.loadBytes w a n).Keeps MemInv := h.loadPieces

theorem MemInv.storePieces (h : MemInv s) {w : Who} {ps : List (Nat × Nat)} {bs : List Byte} : (s.storePieces w ps bs).Keeps MemInv := by
  induction ps generalizing s bs with
  | nil => exact h
  | cons p ps ih => exact h.storeAs.bind fun _ _ h => ih h

theorem MemInv.storeBytes (h : MemInv s) {w : Who} {a : Nat} {bs : List Byte} : (s.storeBytes w a bs).Keeps MemInv := h.storePieces

theorem MemInv.peekPieces (h : MemInv s) {w : Who} {ps : List (Nat × Nat)} : (s.peekPieces w ps).Keeps MemInv := by
  induction ps generalizing s with
  | nil => exact h
  | cons p ps ih => exact h.accessAs.bind fun _ _ h => (ih h.readPlace).bind fun _ _ h => h

theorem MemInv.readSource (h : MemInv s) {w : Who} {x : Transfer} {a n : Nat} : (s.readSource w x a n).Keeps MemInv :=
  h.loadBytes.bind fun _ _ h => .ite h h

theorem MemInv.writeDest (h : MemInv s) {w : Who} {x : Transfer} {a : Nat} {bs : List Byte} : (s.writeDest w x a bs).Keeps MemInv :=
  .ite (h.peekPieces.bind fun _ _ h => h.storeBytes.bind fun _ _ h => h) (h.storeBytes.bind fun _ _ h => h)

theorem MemInv.gatherBytes (h : MemInv s) {w : Who} {x : Transfer} {table lgbs pool f pos n : Nat} :
    (s.gatherBytes w x table lgbs pool f pos n).Keeps MemInv := by
  induction f generalizing s pos n with
  | zero => exact h
  | succ f ih =>
    unfold State.gatherBytes
    exact .ite h (h.readSource.bind fun _ _ h => .ite h (h.readSource.bind fun _ _ h => (ih h).bind fun _ _ h => h))

theorem MemInv.copyChunk (h : MemInv s) {w : Who} {x : Transfer} {dst src len : Nat} : (s.copyChunk w x dst src len).Keeps MemInv :=
  h.readSource.bind fun _ _ h => h.writeDest.bind fun _ _ h => h

theorem MemInv.appendChunk (h : MemInv s) {w : Who} {x : Transfer} {desc table lgbs pool data frcap rcbase entry off len : Nat} :
    (s.appendChunk w x desc table lgbs pool data frcap rcbase entry off len).Keeps MemInv := by
  unfold State.appendChunk
  dsimp only
  split
  · refine h.loadBytes.bind fun _ _ h => .ite h (.ite h (h.presentTyped.bind fun _ _ h => h.ringOpen.bind fun _ _ h =>
      h.ringPeek.bind fun r _ h => ?_))
    cases r with
    | none => exact h
    | some r => exact h.ringTake.bind fun _ _ h => .ite h h
  · exact h.copyChunk
  · exact h.copyChunk.bind fun _ _ h => h
  · exact h.copyChunk.bind fun _ _ h => h
  · exact h.storeBytes.bind fun _ _ h => h
  · exact h.storeBytes.bind fun _ _ h => h
  · exact h.loadBytes.bind fun _ _ h => .ite h (h.storeBytes.bind fun _ _ h => h)
  · refine h.presentTyped.bind fun _ _ h => h.ringPush.bind fun r _ h => ?_
    cases r <;> exact h

theorem MemInv.drainRows (h : MemInv s) {w : Who} {base stride m : Nat} {rows : List DrainRow} :
    (s.drainRows w base stride m rows).Keeps MemInv := by
  induction rows generalizing s m with
  | nil => exact h
  | cons r rs ih => exact h.storeBytes.bind fun _ _ h => ih h.setFailing

theorem MemInv.drainChunk (h : MemInv s) {w : Who} {x : Transfer} {base stride : Nat} {rows : List DrainRow} :
    (s.drainChunk w x base stride rows).Keeps MemInv := by
  refine (Res.Keeps.orNothing h.drainRows h).bind fun _ _ h => .ite h ?_
  split
  · exact h
  · exact h.contain

theorem MemInv.chunk (h : MemInv s) {w : Who} {x : Transfer} : (s.chunk w x).Keeps MemInv := by
  unfold State.chunk
  split
  · exact h.copyChunk.orNothing h
  · exact Res.Keeps.orNothing (h.storeBytes.bind fun _ _ h => h) h
  · exact Res.Keeps.orNothing (h.gatherBytes.bind fun _ _ h => h.writeDest.bind fun _ _ h => h) h
  · exact h.appendChunk.orNothing h
  · exact h.drainChunk
  · exact Res.Keeps.orNothing (h.storeAll.bind fun _ _ h => h) h

theorem MemInv.bridleChunk (h : MemInv s) {i : Nat} : MemInv (s.bridleChunk i).1 := by
  unfold State.bridleChunk
  split
  · exact h
  split <;> dsimp only
  next e => exact (h.chunk.ok e).onHart
  next e => exact (h.chunk.ok e).onHart
  next e => exact (h.chunk.stop e).onHart
  next e => exact h.chunk.wait e

theorem MemInv.engineTry (h : MemInv s) {n i : Nat} : MemInv (s.engineTry n i) := by
  induction n generalizing s i with
  | zero => exact h
  | succ n ih => exact .ite (.ite h.bridleChunk (ih h.bridleChunk)) (ih h)

theorem MemInv.engineWork (h : MemInv s) : MemInv s.engineWork := h.engineTry
theorem MemInv.resumeTransfers (h : MemInv s) : MemInv s.resumeTransfers := h.onHart

theorem MemInv.drainWork (h : MemInv s) : MemInv s.drainWork := by
  unfold State.drainWork
  dsimp only
  split
  · exact h.bridleChunk
  · exact h

theorem MemInv.headIdle (h : MemInv s) : MemInv s.headIdle := (MemInv.ite h.resumeTransfers h).engineWork
theorem MemInv.takeBridle (h : MemInv s) {x : Transfer} : MemInv (s.takeBridle x) := h.onHart

/-! ## Accumulation -/

theorem MemInv.accTargetAt (h : MemInv s) {w : Option Nat} {a : Nat} : (s.accTargetAt w a).Keeps MemInv := by
  refine .ite h (.ite h (h.pageAs.bind fun _ _ h => ?_))
  dsimp only
  split
  · exact h
  · exact .ite h (.ite h (.ite h (.ite h (h.movedCheck.bind fun _ _ h => h))))

theorem MemInv.filterRoom (h : MemInv s) {die line : Nat} : MemInv (s.filterRoom die line) := by
  unfold State.filterRoom
  split
  · exact h
  split
  · exact h
  · exact .ite h (.ite (h.evictU.same rfl) h.evictU)

theorem MemInv.makeWay (h : MemInv s) {cache line : Nat} : MemInv (s.makeWay cache line) := by
  unfold State.makeWay
  split
  · exact h.same rfl
  dsimp only
  split
  · exact h
  · exact h.evictU

theorem MemInv.enterU (h : MemInv s) {die stable line op : Nat} : MemInv (s.enterU die stable line op) := by
  have h1 := h.filterRoom (die := die) (line := line)
  unfold State.enterU
  generalize s.filterRoom die line = s1 at h1 ⊢
  dsimp only
  split
  · exact h1.setCoh.makeWay.makeWay.setCoh
  · exact h1.setCoh

theorem MemInv.clearLinks (h : MemInv s) {who line : Nat} : MemInv (s.clearLinks who line) := h.same rfl

theorem MemInv.fold (h : MemInv s) {g : AccFold} : MemInv (s.fold g) := by
  unfold State.fold
  extract_lets line off s1 s2 new u s3 p
  have h1 : MemInv s1 := by
    dsimp only [s1]
    split
    · exact .ite h h.mergeU
    · exact h
  have h3 : MemInv s3 := .ite h1.clearLinks h1.clearLinks.enterU
  exact h3.same rfl

theorem MemInv.accumulate (h : MemInv s) {i a x : Nat} {g : AccTarget} : (s.accumulate i a g x).Keeps MemInv := by
  refine .ite h.contain ?_
  split
  · exact h.onHart
  · exact h.fold

theorem MemInv.foldGroup (h : MemInv s) : MemInv s.foldGroup := by
  unfold State.foldGroup
  split
  · exact h.onHart.foldl fun _ _ h => h.fold
  · exact h

end

/-! ## Work of the lanes -/

/-- Whatever an entry's work comes to, the state that it leaves has the property. -/
def Eff.Keeps (P : State → Prop) : Eff → Prop
  | .done s => P s
  | .fault _ _ s => P s
  | .wait _ s => P s

section
variable {P : State → Prop} {x y : Eff} {s : State}

theorem Eff.Keeps.done (h : x.Keeps P) (e : x = .done s) : P s := by subst e; exact h
theorem Eff.Keeps.fault {i : Nat} {c : Stop} (h : x.Keeps P) (e : x = .fault i c s) : P s := by subst e; exact h
theorem Eff.Keeps.wait {i : Nat} (h : x.Keeps P) (e : x = .wait i s) : P s := by subst e; exact h

theorem Eff.Keeps.ite {c : Prop} [Decidable c] (hx : x.Keeps P) (hy : y.Keeps P) : (if c then x else y).Keeps P := by
  split
  · exact hx
  · exact hy

theorem Eff.Keeps.andThen {k : State → Eff} (h : x.Keeps P) (hk : ∀ s, P s → (k s).Keeps P) : (x.andThen k).Keeps P := by
  cases x with
  | done s => exact hk s h
  | fault i c s => exact h
  | wait i s => exact h

end

section
variable {s t : State}

theorem MemInv.startFault (h : MemInv s) {c : Stop} : (s.startFault c).Keeps MemInv := h

theorem MemInv.needSew (h : MemInv s) {ok : Bool} {k : Eff} (hk : k.Keeps MemInv) : (s.needSew ok k).Keeps MemInv := by
  unfold State.needSew
  exact .ite hk h.startFault

theorem MemInv.needZero (h : MemInv s) {k : Eff} (hk : k.Keeps MemInv) : (s.needZero k).Keeps MemInv := by
  unfold State.needZero
  exact .ite hk h.startFault

theorem MemInv.vmap (h : MemInv s) {d : Reg} {k : KReg} {per w : Nat} {els : Elems} {f : Nat → Nat → Nat × Flags} :
    (s.vmap d k per w els f).Keeps MemInv := by
  unfold State.vmap
  dsimp only
  split
  · exact h.onHart
  · exact h.onHart

theorem MemInv.kmap (h : MemInv s) {kd k : KReg} {els : Elems} {f : Nat → Nat → Bool × Flags} : (s.kmap kd k els f).Keeps MemInv := by
  unfold State.kmap
  dsimp only
  split
  · exact h.onHart
  · exact h.onHart

theorem MemInv.setEl (h : MemInv s) {d : Reg} {w p v : Nat} : MemInv (s.setEl d w p v) := h.onHart
theorem MemInv.giveX (h : MemInv s) {e : QEntry} {v : Word} : (s.giveX e v).Keeps MemInv := h.onHart

theorem MemInv.each (h : MemInv s) {els : Elems} {f : Nat → Nat → State → Res Unit}
    (hf : ∀ i p s, MemInv s → (f i p s).Keeps MemInv) : (State.each f els s).Keeps MemInv := by
  induction els generalizing s with
  | nil => exact h
  | cons q els ih =>
    have hq := hf q.1 q.2 s h
    unfold State.each
    split
    next e => exact ih (hq.ok e)
    next e => exact hq.stop e
    next e => exact hq.wait e

variable {e : QEntry} {els : Elems} {b : BForm}

/-! ## The forms of the arithmetic instructions -/

theorem MemInv.vint (h : MemInv s) {f : Nat → Nat → Nat → Nat} : (s.vint e els b f).Keeps MemInv := h.needSew h.vmap
theorem MemInv.vdivide (h : MemInv s) {f : Nat → Nat → Nat → Nat × Flags} : (s.vdivide e els b f).Keeps MemInv := h.needSew h.vmap
theorem MemInv.vintAcc (h : MemInv s) {f : Nat → Nat → Nat → Nat → Nat} : (s.vintAcc e els b f).Keeps MemInv := h.needSew h.vmap
theorem MemInv.vunary (h : MemInv s) {f : Nat → Nat → Nat} : (s.vunary e els f).Keeps MemInv := h.needSew h.vmap
theorem MemInv.vwiden (h : MemInv s) {signed : Bool} {f : Int → Int → Nat → Int} : (s.vwiden e els b signed f).Keeps MemInv :=
  h.needSew h.vmap
theorem MemInv.vnarrow (h : MemInv s) {f : Nat → Nat → Nat → Nat} : (s.vnarrow e els b f).Keeps MemInv := h.needSew h.vmap
theorem MemInv.vfp (h : MemInv s) {f : FpFmt → FpEnv → Nat → Nat → Nat × Flags} : (s.vfp e els b f).Keeps MemInv := h.needSew h.vmap
theorem MemInv.vfma (h : MemInv s) {np na : Bool} : (s.vfma e els b np na).Keeps MemInv := h.needSew h.vmap
theorem MemInv.vfu (h : MemInv s) {ok : Bool} {rm : RMode} {f : FpFmt → FpEnv → Nat → Nat × Flags} :
    (s.vfu e els ok rm f).Keeps MemInv := h.needSew h.vmap
theorem MemInv.vcvt (h : MemInv s) {src dst : CvtTy} : (s.vcvt e els src dst).Keeps MemInv := h.needSew h.vmap
theorem MemInv.vcmpInt (h : MemInv s) {c : ICond} : (s.vcmpInt e els b c).Keeps MemInv := h.needSew h.kmap
theorem MemInv.vcmpFp (h : MemInv s) {c : FCond} : (s.vcmpFp e els b c).Keeps MemInv := h.needSew h.kmap

/-! ## Masks, moves, reductions and bit strings -/

theorem MemInv.klogic (h : MemInv s) {f : Bool → Bool → Bool} : (s.klogic e els f).Keeps MemInv := h.kmap
theorem MemInv.vmove (h : MemInv s) {f : Hart → Nat → Nat} : (s.vmove e els f).Keeps MemInv := h.needZero h.vmap
theorem MemInv.vgatherTo (h : MemInv s) {moves : List (Nat × Nat)} : (s.vgatherTo e moves).Keeps MemInv := h.vmap
theorem MemInv.vreduce (h : MemInv s) {f : Nat → Nat → Nat → Nat} : (s.vreduce e els f).Keeps MemInv :=
  h.needZero (h.needSew (.ite h h.onHart))

theorem MemInv.fpReduced (h : MemInv s) {r : Nat × Flags} : (s.fpReduced e r).Keeps MemInv := by
  unfold State.fpReduced
  dsimp only
  split
  · exact h.startFault
  · exact h.onHart

theorem MemInv.vfreduce (h : MemInv s) {f : FpFmt → FpEnv → Bool → Nat → List (Option Nat) → Nat × Flags} :
    (s.vfreduce e els f).Keeps MemInv := h.needZero (h.needSew (.ite h h.fpReduced))
theorem MemInv.vstring (h : MemInv s) {f : Nat → Nat → Nat → Nat → Nat} : (s.vstring e els f).Keeps MemInv := h.needZero h.vmap

theorem MemInv.effKpop (h : MemInv s) : (effKpop e els s).Keeps MemInv := h.needZero h.giveX
theorem MemInv.effKfirst (h : MemInv s) : (effKfirst e els s).Keeps MemInv := h.needZero h.giveX
theorem MemInv.effKiota (h : MemInv s) : (effKiota e els s).Keeps MemInv := h.needZero (h.needSew h.vmap)
theorem MemInv.effVmerge (h : MemInv s) : (effVmerge e els s).Keeps MemInv := h.vmap
theorem MemInv.effVcompress (h : MemInv s) : (effVcompress e els s).Keeps MemInv := h.needZero h.vgatherTo
theorem MemInv.effVexpand (h : MemInv s) : (effVexpand e els s).Keeps MemInv := h.needZero h.vgatherTo
theorem MemInv.effVextract (h : MemInv s) : (effVextract e els s).Keeps MemInv := h.needZero (h.needSew h.giveX)
theorem MemInv.effVinsert (h : MemInv s) : (effVinsert e els s).Keeps MemInv := h.needSew h.vmap
theorem MemInv.effVilv (h : MemInv s) : (effVilv e els s).Keeps MemInv := h.needZero h.vmap
theorem MemInv.effVdilv (h : MemInv s) : (effVdilv e els s).Keeps MemInv := h.needZero h.vmap
theorem MemInv.effVid (h : MemInv s) : (effVid e els s).Keeps MemInv := h.needSew h.vmap
theorem MemInv.effVrand (h : MemInv s) : (effVrand e els s).Keeps MemInv := h.needSew h.vmap
theorem MemInv.effVmvX (h : MemInv s) : (effVmvX e els s).Keeps MemInv := h.needSew h.vmap
theorem MemInv.effVwsum (h : MemInv s) : (effVwsum e els s).Keeps MemInv := h.needZero (h.needSew (.ite h h.onHart))

/-! ## Loads and stores -/

theorem MemInv.settleGroup (h : MemInv s) {pa n : Nat} : MemInv (s.settleGroup pa n) := by
  unfold State.settleGroup
  split
  · exact .ite h.foldGroup h
  · exact h

theorem MemInv.loadVec (h : MemInv s) {f a n al : Nat} {window : Bool} : (s.loadVec f a n al window).Keeps MemInv := by
  refine h.access.bind fun p t h => ?_
  cases p <;> dsimp only
  · exact h.settleGroup.readPlace.placeVector
  · exact h.readPlace.placeVector

theorem MemInv.loadEl (h : MemInv s) {f a n al : Nat} {window : Bool} : (s.loadEl f a n al window).Keeps MemInv := by
  unfold State.loadEl
  exact .ite h h.loadVec

theorem MemInv.writeVec (h : MemInv s) {p : Place} {n v : Nat} : MemInv (s.writeVec p n v) := by
  cases p with
  | phys pa leaf => exact h.physWrite
  | pad off => exact h.padWrite

theorem MemInv.storeEl (h : MemInv s) {f a n al v : Nat} {window : Bool} : (s.storeEl f a n al v window).Keeps MemInv := by
  refine .ite h (h.access.bind fun p t h => ?_)
  cases p with
  | phys pa leaf => exact h.settleGroup.writeVec.placeVector
  | pad off => exact h.writeVec.placeVector

theorem MemInv.heal (h : MemInv s) {l : List (Nat × Nat)} : MemInv (s.heal l) := by
  unfold State.heal
  exact .ite h (h.same rfl)

theorem Eff.Keeps.heals {x : Eff} (h : x.Keeps MemInv) {f : Option Nat → List (Nat × Nat)} : (x.heals f).Keeps MemInv := by
  cases x with
  | done t => exact MemInv.heal h
  | fault i c t => exact MemInv.heal h
  | wait i t => exact MemInv.heal h

theorem MemInv.vload (h : MemInv s) {f : Nat} {addr : Hart → Nat → Nat → Nat} : (s.vload e els f addr).Keeps MemInv :=
  h.each fun _ _ _ h => h.loadEl.bind fun _ _ h => h.setEl

theorem MemInv.vstore (h : MemInv s) {f : Nat} {addr : Hart → Nat → Nat → Nat} : (s.vstore e els f addr).Keeps MemInv := by
  unfold State.vstore
  exact Eff.Keeps.heals (h.each fun _ _ _ h => h.storeEl)

theorem MemInv.wholeBase (h : MemInv s) {k : Eff} (hk : k.Keeps MemInv) : (s.wholeBase e k).Keeps MemInv := by
  unfold State.wholeBase
  exact .ite h.startFault hk

theorem MemInv.effVldReg (h : MemInv s) : (effVldReg e els s).Keeps MemInv :=
  h.wholeBase (h.each fun _ _ _ h => h.loadEl.bind fun _ _ h => h.setEl)

theorem MemInv.effVstReg (h : MemInv s) : (effVstReg e els s).Keeps MemInv :=
  h.wholeBase (Eff.Keeps.heals (h.each fun _ _ _ h => h.storeEl))

theorem MemInv.effVgll (h : MemInv s) : (effVgll e els s).Keeps MemInv := by
  refine h.needSew (h.each fun _ _ _ h => .ite h (h.access.bind fun p _ h => ?_))
  have hp {n f : Nat} := (h.readPlace (p := p) (n := n)).placeVector (f := f) (w := false) (p := p) (n := n)
  cases p with
  | phys pa leaf => exact hp.setCoh.setEl
  | pad off => exact hp.setEl

theorem MemInv.vscc (h : MemInv s) {w f : Nat} {seen : List Nat} : (State.vscc e w f els seen s).Keeps MemInv := by
  induction els generalizing s seen with
  | nil => exact h.dropLinks
  | cons q els ih =>
    refine .ite h ?_
    dsimp only
    split
    next eq => exact h.access.stop eq
    next eq => exact h.access.wait eq
    next eq =>
      have ha := h.access.ok eq
      exact ih (MemInv.ite ha.writeVec.placeVector ha).onHart

theorem MemInv.effVscc (h : MemInv s) : (effVscc e els s).Keeps MemInv := by
  refine h.needSew ?_
  split
  · exact h.keepAttempt
  · exact h.vscc

theorem MemInv.vldw (h : MemInv s) {q4 : Bool} {f : FpFmt} {w : Nat} : (s.vldw e els q4 f w).Keeps MemInv := by
  refine h.needSew (h.each fun _ _ _ h => h.loadEl.bind fun _ _ h => h.loadEl.bind fun _ _ h => ?_)
  dsimp only
  split
  · exact h.onHart
  · exact h.onHart.setEl

theorem MemInv.effVacc (h : MemInv s) : (effVacc e els s).Keeps MemInv :=
  h.needSew (h.each fun _ _ _ h => h.accTargetAt.bind fun _ _ h => h.accumulate)

theorem MemInv.effSacc (h : MemInv s) : (effSacc e els s).Keeps MemInv := by
  refine h.needZero ?_
  have ha := (h.accTargetAt (w := none) (a := e.opa.toNat)).bind fun t _ h =>
    h.accumulate (i := 0) (a := e.opa.toNat) (g := t) (x := e.opb.toNat % 2 ^ accInput t.op)
  dsimp only
  split
  next eq => exact ha.ok eq
  next eq => exact ha.stop eq
  next eq => exact ha.wait eq

end

section
variable {s t : State} {e : QEntry} {els : Elems}

/-! ## Lines of a range -/

theorem MemInv.leavesIn (h : MemInv s) {lo hi level node va : Nat} {shifts : List Nat} :
    MemInv (s.leavesIn lo hi shifts level node va).s := by
  induction shifts generalizing s level node va with
  | nil => exact h
  | cons sh rest ih =>
    unfold State.leavesIn
    extract_lets i0 i1
    split
    · exact h
    refine List.foldlRecOn (motive := fun l : Leaves => MemInv l.s) _ _ h fun acc ha i _ => ?_
    have hr {a : Nat} := ha.physRead (pa := a) (n := 8)
    split
    · exact ha
    dsimp only
    split
    · exact ha
    split
    · exact hr
    split
    · split <;> exact hr
    split
    · exact ih hr
    · exact hr

theorem MemInv.uLinesIn (h : MemInv s) {lo n : Nat} : (s.uLinesIn lo n).Keeps MemInv := by
  have hl := h.leavesIn (lo := lo) (hi := lo + n) (shifts := [46, 36, 26, 16]) (level := 0)
    (node := bits s.hart.csr.pgroot 13 39 * 8192) (va := 0)
  refine .ite h ?_
  dsimp only
  split
  · exact hl.dataStop
  · exact hl.movedCheck.bind fun _ _ h => h
  · exact hl

theorem MemInv.mergeLines (h : MemInv s) {ls : List (Nat × Nat)} : (s.mergeLines ls).Keeps MemInv := by
  induction ls generalizing s with
  | nil => exact h
  | cons l ls ih =>
    unfold State.mergeLines
    split
    · exact h.dataStop
    · exact ih h.mergeU

theorem MemInv.mergeVirtual (h : MemInv s) {lo n : Nat} : (s.mergeVirtual lo n).Keeps MemInv := by
  unfold State.mergeVirtual
  split
  · exact h
  · exact .ite h (h.uLinesIn.bind fun _ _ h => h.mergeLines)

theorem MemInv.effAmerge (h : MemInv s) : (effAmerge e els s).Keeps MemInv := by
  refine h.needZero ?_
  split
  next eq => exact h.mergeVirtual.ok eq
  next eq => exact h.mergeVirtual.stop eq
  next eq => exact h.mergeVirtual.wait eq

/-! ## Recursion routines -/

theorem MemInv.putVp (h : MemInv s) {p : RVp} : MemInv (s.putVp p) := h.onHart

theorem MemInv.inRoutine (h : MemInv s) {routs : List Nat} {act : Elems} {k : RecRun → Eff} (hk : ∀ r, (k r).Keeps MemInv) :
    (s.inRoutine routs act k).Keeps MemInv := by
  unfold State.inRoutine
  split
  · exact h
  · exact h
  · exact .ite (hk _) h

theorem MemInv.regsFit (h : MemInv s) {a n : Nat} {act : Elems} {k : Eff} (hk : k.Keeps MemInv) : (s.regsFit a n act k).Keeps MemInv := by
  unfold State.regsFit
  split
  · exact .ite h hk
  · exact hk

theorem MemInv.effRspawn (h : MemInv s) : (effRspawn e els s).Keeps MemInv := by
  refine h.inRoutine fun r => h.regsFit (h.each fun i p s h => ?_)
  split
  · exact h
  · exact .ite h (.ite (.ite h h) h.putVp)

theorem MemInv.effRret (h : MemInv s) : (effRret e els s).Keeps MemInv := by
  refine h.inRoutine fun r => .ite h (h.regsFit (h.each fun i p s h => ?_))
  split
  · exact h
  · exact h.putVp

theorem MemInv.effRkids (h : MemInv s) : (effRkids e els s).Keeps MemInv := by
  refine h.inRoutine fun r => h.each fun i p s h => ?_
  dsimp only
  split
  · exact h
  · exact h.setEl.setEl.onHart

theorem MemInv.effRdepth (h : MemInv s) : (effRdepth e els s).Keeps MemInv := by
  refine h.inRoutine fun r => h.each fun i p s h => ?_
  split
  · exact h
  · exact h.setEl

theorem MemInv.effRnkid (h : MemInv s) : (effRnkid e els s).Keeps MemInv := by
  refine h.inRoutine fun r => h.each fun i p s h => ?_
  split
  · exact h
  · exact h.setEl

/-! ## The matrix unit -/

theorem MemInv.effMmode (h : MemInv s) : (effMmode e els s).Keeps MemInv := h.needZero (.ite h.startFault h.onHart)
theorem MemInv.effMshape (h : MemInv s) : (effMshape e els s).Keeps MemInv :=
  h.needZero (.ite h.startFault (h.needSew h.onHart))
theorem MemInv.effMzero (h : MemInv s) : (effMzero e els s).Keeps MemInv := h.needZero h.onHart

theorem MemInv.laneError (h : MemInv s) {reg el lane tval : Nat} : MemInv (s.laneError reg el lane tval).1 := h.onHart.contain.logAll
theorem MemInv.wordStop (h : MemInv s) {b : BadWord} {el : Nat} : MemInv (s.wordStop b el).1 := h.laneError
theorem MemInv.cellStop (h : MemInv s) {b : BadWord} : (s.cellStop b).Keeps MemInv := h.laneError.startFault

theorem MemInv.readCells (h : MemInv s) {tile : Nat} {cs : List (Nat × Nat)} {k : Eff} (hk : k.Keeps MemInv) :
    (s.readCells tile cs k).Keeps MemInv := by
  unfold State.readCells
  split
  · exact h.cellStop
  · exact hk

theorem MemInv.tileOp (h : MemInv s) {kind : TileKind} : (s.tileOp e kind).Keeps MemInv := by
  refine h.needZero (.ite h.startFault ?_)
  dsimp only
  split
  · exact .ite h.cellStop h.wordStop.startFault
  · exact .ite h h.onHart

theorem MemInv.slice (h : MemInv s) {k : Nat → Eff} (hk : ∀ n, (k n).Keeps MemInv) : (s.slice e els k).Keeps MemInv :=
  h.needZero (h.needSew (.ite h (.ite h.startFault (hk _))))

theorem MemInv.fromTile (h : MemInv s) {f : Nat → Nat × Nat} : (s.fromTile e els f).Keeps MemInv :=
  h.readCells (h.foldl fun _ _ h => h.setEl)

theorem MemInv.toTile (h : MemInv s) {f : Nat → Nat × Nat} : (s.toTile e els f).Keeps MemInv := .ite h h.onHart

theorem MemInv.checkCells (h : MemInv s) {f : State → Nat → Res Nat} (hf : ∀ s a, MemInv s → (f s a).Keeps MemInv) {as : List Nat} :
    MemInv (s.checkCells f as).s := by
  refine List.foldlRecOn (motive := fun c : Checked => MemInv c.s) as _ h fun acc ha a _ => ?_
  have hr := hf acc.s a ha
  split
  next eq => exact hr.ok eq
  next eq => exact hr.wait eq
  next eq =>
    split
    · split <;> exact hr.stop eq
    · exact hr.stop eq

theorem Checked.keeps_andThen {c : Checked} (h : MemInv c.s) {k : State → Eff} (hk : ∀ s, MemInv s → (k s).Keeps MemInv) :
    (c.andThen k).Keeps MemInv := by
  unfold Checked.andThen
  refine .ite h ?_
  split
  · exact h
  · exact hk _ h

theorem MemInv.effMload (h : MemInv s) : (effMload e els s).Keeps MemInv := by
  refine h.needZero (.ite h.startFault (.ite h.startFault (.ite h.startFault (.ite h
    (Checked.keeps_andThen (h.checkCells fun _ _ h => h.loadVec) fun u hu => ?_)))))
  generalize hr : List.foldl _ _ _ = r
  have hk : r.Keeps MemInv := by
    rw [← hr]
    refine List.foldlRecOn (motive := Res.Keeps MemInv) _ _ hu fun acc ha q _ => ?_
    split
    · exact (MemInv.loadVec ha).bind fun _ _ h => h
    · exact ha
  rcases r with ⟨⟨t, chk⟩, v⟩ | ⟨c, v⟩ | v
  · exact MemInv.onHart hk
  · exact hk
  · exact hk

theorem MemInv.effMdrain (h : MemInv s) : (effMdrain e els s).Keeps MemInv := by
  refine h.needZero (.ite h.startFault (.ite h.startFault (.ite h.startFault (h.readCells ?_))))
  split
  · exact h.startFault
  · refine Checked.keeps_andThen (h.checkCells ?_) fun _ h => .ite h h.takeBridle
    exact fun _ _ h => h.access.bind fun _ _ h => h

end

section
variable {s t : State} {e : QEntry} {els : Elems}

/-! ## Positions and frames -/

theorem MemInv.rawFrame (h : MemInv s) {n : Nat} : (s.rawFrame n).Keeps MemInv := by
  refine .ite h (.ite h (h.accessAs.bind fun p _ h => ?_))
  cases p <;> dsimp only
  · exact h.settleGroup.readPlace
  · exact h.readPlace

theorem MemInv.frame (h : MemInv s) {n : Nat} : (s.frame n).Keeps MemInv :=
  h.rawFrame.bind fun _ _ h => .ite h (.ite h (h.rawFrame.bind fun _ _ h => .ite h h))

theorem MemInv.climb (h : MemInv s) {l : List Hop} : (s.climb l).Keeps MemInv := by
  cases l with
  | nil => exact h
  | cons a l => exact h.frame.bind fun _ _ h => h

theorem MemInv.climbBoth (h : MemInv s) {vtag n : Nat} {a b : List Hop} : (s.climbBoth vtag n a b).Keeps MemInv := by
  induction n generalizing s a b with
  | zero => exact h
  | succ n ih =>
    unfold State.climbBoth
    exact .ite (h.climb.bind fun _ _ h => ih h) (.ite (h.climb.bind fun _ _ h => ih h)
      (.ite h (.ite h (h.climb.bind fun _ _ h => h.climb.bind fun _ _ h => ih h))))

theorem MemInv.xform (h : MemInv s) {a b vtag : Nat} : (s.xform a b vtag).Keeps MemInv := by
  refine .ite h ?_
  dsimp only
  split
  · exact h.putStable
  refine h.frame.bind fun _ _ h => .ite h (h.frame.bind fun _ _ h => .ite h (h.climbBoth.bind fun _ _ h => ?_))
  split
  · exact h
  · exact h.putStable

theorem MemInv.follow (h : MemInv s) {n hops : Nat} {p : Pos} {fl : Flags} : (s.follow n p fl hops).Keeps MemInv := by
  induction n generalizing s p fl hops with
  | zero => exact h
  | succ n ih =>
    refine h.frame.bind fun _ _ h => .ite h (.ite h ?_)
    dsimp only
    split
    · exact h
    · exact .ite h (.ite h (h.frame.bind fun _ _ h => h.xform.bind fun _ _ h => ih h))

theorem MemInv.resolve (h : MemInv s) {p : Pos} : (s.resolve p).Keeps MemInv :=
  h.follow.bind fun _ _ h => MemInv.ite h.agentEvent h

theorem MemInv.needTag (h : MemInv s) {tags : List Nat} : (needTag s tags).Keeps MemInv := by
  unfold Machine.needTag
  split
  · exact h
  · exact h

theorem MemInv.target (h : MemInv s) {x : Word} : (s.target x).Keeps MemInv := h.frame.bind fun _ _ h => .ite h h

theorem MemInv.gpos (h : MemInv s) {w : Nat} {f : Nat → Nat → State → Res (Nat × Flags)}
    (hf : ∀ i p s, MemInv s → (f i p s).Keeps MemInv) : (s.gpos e els w f).Keeps MemInv := by
  refine h.needSew (h.each fun i p s h => ?_)
  have hr := hf i p s h
  split
  next eq => exact hr.wait eq
  next eq => exact hr.stop eq
  next eq =>
    have hv := hr.ok eq
    dsimp only
    split
    · exact hv.onHart
    · exact hv.onHart.setEl

theorem MemInv.combine (h : MemInv s) {sub : Bool} : (s.combine e els sub).Keeps MemInv := by
  refine h.gpos fun _ p s h => h.needTag.bind fun _ _ h => ?_
  dsimp only
  split
  · exact h
  · exact h.resolve.bind fun _ _ h => h.resolve.bind fun _ _ h => h.xform.bind fun _ _ h => h

theorem MemInv.effGlen (h : MemInv s) : (effGlen e els s).Keeps MemInv := h.gpos fun _ _ _ h => h.needTag.bind fun _ _ h => .ite h h
theorem MemInv.effGtag (h : MemInv s) : (effGtag e els s).Keeps MemInv := h.gpos fun _ _ _ h => h
theorem MemInv.effGpack (h : MemInv s) : (effGpack e els s).Keeps MemInv := h.gpos fun _ _ _ h => h
theorem MemInv.effGunpack (h : MemInv s) : (effGunpack e els s).Keeps MemInv := h.needSew (h.each fun _ _ _ h => h.setEl.setEl.setEl)
theorem MemInv.effGrehome (h : MemInv s) : (effGrehome e els s).Keeps MemInv :=
  h.gpos fun _ _ _ h => .ite h (h.resolve.bind fun _ _ h => h)
theorem MemInv.effGdot (h : MemInv s) : (effGdot e els s).Keeps MemInv :=
  h.gpos fun _ _ _ h => h.needTag.bind fun _ _ h => .ite h (.ite h
    (h.resolve.bind fun _ _ h => h.resolve.bind fun _ _ h => h.xform.bind fun _ _ h => h))
theorem MemInv.effGcvt (h : MemInv s) : (effGcvt e els s).Keeps MemInv :=
  h.gpos fun _ _ _ h => h.needTag.bind fun _ _ h => h.resolve.bind fun _ _ h => h.target.bind fun _ _ h => h.xform.bind fun _ _ h => h
theorem MemInv.effGscl (h : MemInv s) : (effGscl e els s).Keeps MemInv :=
  h.gpos fun _ _ _ h => h.needTag.bind fun _ _ h => .ite h (h.resolve.bind fun _ _ h => h)
theorem MemInv.effGsettag (h : MemInv s) : (effGsettag e els s).Keeps MemInv := h.gpos fun _ _ _ h => h
theorem MemInv.effGmorton (h : MemInv s) : (effGmorton e els s).Keeps MemInv :=
  h.gpos fun _ _ _ h => h.needTag.bind fun _ _ h => .ite h
    (h.resolve.bind fun _ _ h => h.target.bind fun _ _ h => .ite h (h.xform.bind fun _ _ h => h))

theorem MemInv.effGnbr (h : MemInv s) : (effGnbr e els s).Keeps MemInv := by
  refine h.needSew ?_
  split
  · exact h
  dsimp only
  split
  · exact .ite h (h.each fun _ _ _ h => h.setEl)
  · exact h

/-! ## Cell tables -/

theorem MemInv.loadElWords (h : MemInv s) {a n : Nat} : (s.loadElWords a n).Keeps MemInv := by
  induction n generalizing s a with
  | zero => exact h
  | succ n ih => exact h.loadEl.bind fun _ _ h => (ih h).bind fun _ _ h => h

theorem MemInv.cellHead (h : MemInv s) {a : Nat} : (s.cellHead a).Keeps MemInv := by
  refine h.loadElWords.bind fun _ _ h => ?_
  split
  · exact .ite h h
  · exact h

theorem MemInv.probe (h : MemInv s) {table k hash n i : Nat} {c : CellHead} : (s.probe table c k hash n i).Keeps MemInv := by
  induction n generalizing s i with
  | zero => exact h
  | succ n ih =>
    refine h.loadElWords.bind fun _ _ h => ?_
    split
    · exact .ite (.ite h h) (.ite h (ih h))
    · exact h

theorem MemInv.withTable (h : MemInv s) {k : Elems → State → Eff} (hk : ∀ els s, MemInv s → (k els s).Keeps MemInv) :
    (s.withTable e els k).Keeps MemInv := by
  refine h.needSew ?_
  split
  · exact h
  refine .ite h ?_
  split
  next eq => exact hk _ _ (h.cellHead.ok eq)
  next eq => exact h.cellHead.stop eq
  next eq => exact h.cellHead.wait eq

theorem MemInv.cellInsert (h : MemInv s) {table k i first : Nat} : (s.cellInsert table k i first).Keeps MemInv := by
  refine Res.Keeps.orNothing (h.cellHead.bind fun _ _ h => h.probe.bind fun r _ h => ?_) h
  cases r with
  | held slot w => exact h.storeEl.bind fun _ _ h => h
  | free slot =>
    exact .ite (h.storeEl.bind fun _ _ h => h.storeEl.bind fun _ _ h => h.storeEl.bind fun _ _ h => h)
      (.ite h (h.storeEl.bind fun _ _ h => h.onHart))
  | none => exact .ite h (h.storeEl.bind fun _ _ h => h.onHart)

theorem MemInv.effVcellins (h : MemInv s) : (effVcellins e els s).Keeps MemInv :=
  h.withTable fun _ _ h => h.each fun _ _ _ h => .ite h.setEl (h.cellInsert.bind fun _ _ h => h.setEl)

theorem MemInv.effVcellfind (h : MemInv s) : (effVcellfind e els s).Keeps MemInv :=
  h.withTable fun _ _ h => h.each fun _ _ _ h => .ite h.setEl (h.cellHead.bind fun _ _ h => h.probe.bind fun _ _ h => h.setEl)

/-! ## The work of every row -/

theorem MemInv.laneWork (h : MemInv s) : (Machine.laneWork e els s).Keeps MemInv := by
  unfold Machine.laneWork
  cases e.row with
  | mmode => exact h.effMmode
  | mshape => exact h.effMshape
  | vaddVV | vaddVX | vaddVI | vsubVV | vsubVX | vsubVI | vrsubVV | vrsubVX | vrsubVI | vmulVV | vmulVX | vmulVI | vmulhVV | vmulhVX |
      vmulhVI | vmulhnVV | vmulhnVX | vmulhnVI | vandVV | vandVX | vandVI | vorVV | vorVX | vorVI | vxorVV | vxorVX | vxorVI | vsllVV |
      vsllVX | vsllVI | vsrlVV | vsrlVX | vsrlVI | vsraVV | vsraVX | vsraVI | vminVV | vminVX | vminVI | vmaxVV | vmaxVX | vmaxVI |
      vminnVV | vminnVX | vminnVI | vmaxnVV | vmaxnVX | vmaxnVI | vsaddVV | vsaddVX | vssubVV | vssubVX | vsaddnVV | vsaddnVX | vssubnVV |
      vssubnVX | vavgVV | vavgVX | vavgnVV | vavgnVX => exact h.vint
  | vdivVV | vdivVX | vdivnVV | vdivnVX | vremVV | vremVX | vremnVV | vremnVX => exact h.vdivide
  | vmaccVV | vmaccVX | vnmsacVV | vnmsacVX => exact h.vintAcc
  | vabs | vneg | vpopc | vclz => exact h.vunary
  | vwaddVV | vwaddVX | vwaddnVV | vwaddnVX | vwsubVV | vwsubVX | vwsubnVV | vwsubnVX | vwmulVV | vwmulVX | vwmulnVV | vwmulnVX | vwmaccVV |
      vwmaccVX | vwmaccnVV | vwmaccnVX => exact h.vwiden
  | vnsrlVV | vnsrlVX | vnsraVV | vnsraVX | vnclipVV | vnclipVX | vnclipnVV | vnclipnVX => exact h.vnarrow
  | vfaddVV | vfaddVX | vfsubVV | vfsubVX | vfrsubVV | vfrsubVX | vfmulVV | vfmulVX | vfdivVV | vfdivVX | vfrdivVV | vfrdivVX | vfminVV |
      vfminVX | vfmaxVV | vfmaxVX | vfsgnjVV | vfsgnjVX | vfsgnjnVV | vfsgnjnVX | vfsgnjxVV | vfsgnjxVX => exact h.vfp
  | vfmaVV | vfmaVX | vfmsVV | vfmsVX | vfnmaVV | vfnmaVX | vfnmsVV | vfnmsVX => exact h.vfma
  | vfsqrt | vfrcp | vfrsq | vfexp2 | vflog2 | vfsinp | vfcosp | vftanh | vfabs | vfneg | vfclass | vffloor | vfceil | vfround => exact
      h.vfu
  | vcvtI32F32 | vcvtN32F32 | vcvtF32I32 | vcvtF32N32 | vcvtI64F64 | vcvtN64F64 | vcvtF64I64 | vcvtF64N64 | vcvtF64F32 | vcvtF32F64 |
      vcvtHF32 | vcvtBfF32 | vcvtF32H | vcvtF32Bf | vcvtB8F32 | vcvtF32B8 | vcvtB8H | vcvtHB8 | vcvtB8Bf | vcvtBfB8 | vcvtE4F32 |
      vcvtF32E4 | vcvtHE4 | vcvtQ4F32 | vcvtF32Q4 | vcvtHQ4 => exact h.vcvt
  | vcmpEqVV | vcmpEqVX | vcmpNeVV | vcmpNeVX | vcmpLtVV | vcmpLtVX | vcmpLeVV | vcmpLeVX | vcmpLtnVV | vcmpLtnVX | vcmpLenVV | vcmpLenVX |
      vcmpGtVV | vcmpGtVX | vcmpGeVV | vcmpGeVX => exact h.vcmpInt
  | vcmpFeqVV | vcmpFeqVX | vcmpFneVV | vcmpFneVX | vcmpFltVV | vcmpFltVX | vcmpFleVV | vcmpFleVX | vcmpFgtVV | vcmpFgtVX | vcmpFgeVV |
      vcmpFgeVX | vcmpFunordVV | vcmpFunordVX | vcmpFordVV | vcmpFordVX => exact h.vcmpFp
  | kand | kor | kxor | kandn | knot | kmov => exact h.klogic
  | kpop => exact h.effKpop
  | kfirst => exact h.effKfirst
  | kiota => exact h.effKiota
  | vmerge => exact h.effVmerge
  | vcompress => exact h.effVcompress
  | vexpand => exact h.effVexpand
  | ksetx => exact h.kmap
  | vslideup | vslidedn | vpermv | vbcast => exact h.vmove
  | vextract => exact h.effVextract
  | vinsert => exact h.effVinsert
  | vilv => exact h.effVilv
  | vdilv => exact h.effVdilv
  | vid => exact h.effVid
  | vrand => exact h.effVrand
  | vmvV => exact h.vmap
  | vmvX => exact h.effVmvX
  | vredsum | vredmin | vredmax | vredminn | vredmaxn | vredand | vredor | vredxor => exact h.vreduce
  | vfsum | vfsumo | vfredmin | vfredmax => exact h.vfreduce
  | vwsum => exact h.effVwsum
  | vbshl | vbshr | vbfun => exact h.vstring
  | vternlog => exact h.vmap
  | vld | vlds | vldx => exact h.vload
  | vldReg => exact h.effVldReg
  | vst | vsts | vstx => exact h.vstore
  | vstReg => exact h.effVstReg
  | vgll => exact h.effVgll
  | vscc => exact h.effVscc
  | vacc => exact h.effVacc
  | vldwE4H | vldwE4Bf | vldwE4B8 | vldwQ4H | vldwQ4Bf | vldwQ4B8 => exact h.vldw
  | gsub | gadd => exact h.combine
  | glen => exact h.effGlen
  | gtag => exact h.effGtag
  | gpack => exact h.effGpack
  | gunpack => exact h.effGunpack
  | grehome => exact h.effGrehome
  | gdot => exact h.effGdot
  | gcvt => exact h.effGcvt
  | gscl => exact h.effGscl
  | gsettag => exact h.effGsettag
  | gmorton => exact h.effGmorton
  | gnbr => exact h.effGnbr
  | vcellins => exact h.effVcellins
  | vcellfind => exact h.effVcellfind
  | rspawn => exact h.effRspawn
  | rret => exact h.effRret
  | rkids => exact h.effRkids
  | rdepth => exact h.effRdepth
  | rnkid => exact h.effRnkid
  | mzero => exact h.effMzero
  | mrowv | mcolv => exact h.slice fun _ => h.fromTile
  | mvrow | mvcol => exact h.slice fun _ => h.toTile
  | mdrain => exact h.effMdrain
  | mload => exact h.effMload
  | amerge => exact h.effAmerge
  | sacc => exact h.effSacc
  | opacc | opsub | opaccw => exact h.tileOp
  | _ => exact h

theorem Eff.Keeps.healed {x : Eff} (hx : x.Keeps MemInv) {g : Hart} : (x.healed e els g).Keeps MemInv := by
  cases x with
  | done s => exact hx.onHart
  | fault i c s => exact MemInv.ite hx hx.onHart
  | wait i s => exact MemInv.ite hx hx.onHart

theorem MemInv.laneEffect (h : MemInv s) : (Machine.laneEffect e els s).Keeps MemInv := by
  refine .ite h.laneWork ?_
  split
  · exact h.laneWork.healed
  split
  next eq => exact h.laneWork.fault eq
  next =>
    exact .ite (h.wordStop.startFault) (h.laneWork.healed.andThen fun _ h => h.wordStop)

end

section
variable {s t : State} {e : QEntry} {els : Elems} {block : List (BitVec 32)}

/-! ## Leases, grants and register storage (R53 to R65, R310) -/

theorem MemInv.push (h : MemInv s) {l : List Instr} : MemInv (s.push l) := h.same rfl
theorem MemInv.portAgain (h : MemInv s) {port n : Nat} : MemInv (s.portAgain port n) := h.same rfl
theorem MemInv.retryPending (h : MemInv s) : MemInv s.retryPending := h.same rfl
theorem MemInv.retarget (h : MemInv s) {n : Nat} : MemInv (s.retarget n) := by
  unfold State.retarget
  exact h.mapHarts

theorem MemInv.requestLease (h : MemInv s) {id m p : Nat} : MemInv (s.requestLease id m p) := by
  unfold State.requestLease
  split
  · exact h
  · exact h.setClock.putHart.retarget

theorem MemInv.applyGrant (h : MemInv s) {id : Nat} : MemInv (s.applyGrant id) := by
  unfold State.applyGrant
  split
  · exact h
  · exact .ite h h.putHart

theorem MemInv.dealFree (h : MemInv s) {n : Nat} : MemInv (s.dealFree n) := h.foldl fun _ _ h => h.applyGrant
theorem MemInv.setRetired (h : MemInv s) {n : Nat} {r : BitVec 16} : MemInv (s.setRetired n r) := by
  unfold State.setRetired
  exact h.putStable.mapHarts
theorem MemInv.retireClusters (h : MemInv s) {n : Nat} : MemInv (s.retireClusters n) := .ite h h.setRetired

theorem MemInv.boundary (h : MemInv s) {id : Nat} : MemInv (s.boundary id) := by
  unfold State.boundary
  split
  · exact h
  · exact .ite (MemInv.ite h.putHart h).applyGrant.retireClusters.dealFree.retryPending h

theorem MemInv.evictAgent (h : MemInv s) {die agent line : Nat} : MemInv (s.evictAgent die agent line) := .ite h.evictU h.setCoh

theorem MemInv.moveBanks (h : MemInv s) {n before : Nat} : MemInv (s.moveBanks n before) := by
  refine .ite h (h.setFresh.foldl fun _ _ h => h.evictAgent)

theorem MemInv.requestStorage (h : MemInv s) {code : Nat} : MemInv (s.requestStorage code) := by
  unfold State.requestStorage
  split
  · exact h
  · exact h.setHarts.moveBanks

theorem MemInv.takeVlmax (h : MemInv s) : MemInv s.takeVlmax := by
  unfold State.takeVlmax
  split
  · exact .ite h h.onHart
  · exact h

theorem Job.pad_settle {j : Job} : j.settle.pad = j.pad := by
  unfold Job.settle
  split <;> rfl

theorem Job.pad_leave {j : Job} {n : Nat} : (j.leave n).pad = j.pad := Job.pad_settle

/-! ## Groups of a block (R138, R139) -/

/-- What a group comes to keeps a predicate of the state. -/
def Group.Keeps (P : State → Prop) : Group → Prop
  | .done s => P s
  | .fault _ _ s => P s
  | .wait s => P s

section
variable {g : Group} {P : State → Prop}

theorem Group.Keeps.done (h : g.Keeps P) (e : g = .done s) : P s := by subst e; exact h
theorem Group.Keeps.fault {v : Word} {c : Stop} (h : g.Keeps P) (e : g = .fault v c s) : P s := by subst e; exact h
theorem Group.Keeps.wait (h : g.Keeps P) (e : g = .wait s) : P s := by subst e; exact h

end

theorem MemInv.runWords (h : MemInv s) {pc : Word} {ws : List (BitVec 32)} : (s.runWords pc els ws).Keeps MemInv := by
  induction ws generalizing s pc with
  | nil => exact h
  | cons w ws ih =>
    unfold State.runWords
    split
    · exact h
    split
    next eq => exact ih (h.laneEffect.done eq)
    next eq => exact h.laneEffect.fault eq
    next eq => exact h.laneEffect.wait eq

theorem MemInv.runGroup (h : MemInv s) {base : Word} : (s.runGroup block base els).Keeps MemInv := by
  unfold State.runGroup
  split
  next eq => exact (h.onHart.runWords.done eq).foldGroup.onHart
  next eq => exact h.keepAttempt
  next eq => exact h.keepAttempt

theorem MemInv.onHead (h : MemInv s) {f : QEntry → QEntry} : MemInv (s.onHead f) := h.onHart
theorem MemInv.headWaits (h : MemInv s) : MemInv s.headWaits := h.onHead.headIdle
theorem MemInv.headDone (h : MemInv s) : MemInv s.headDone := h.onHead.onHart.takeVlmax
theorem MemInv.headCause (h : MemInv s) {c : Stop} {vpc : Word} : MemInv (s.headCause c vpc) := h.onHart

theorem MemInv.withBlock (h : MemInv s) {k : List (BitVec 32) → State → State} (hk : ∀ b s, MemInv s → MemInv (k b s)) :
    MemInv (s.withBlock e k) := by
  unfold State.withBlock
  split
  · exact hk _ _ h
  split
  next eq => exact hk _ _ (h.readBlock.ok eq).onHead
  next eq => exact (h.readBlock.stop eq).headCause
  next eq => exact (h.readBlock.wait eq).headIdle

theorem MemInv.fetchGroup (h : MemInv s) : MemInv (s.fetchGroup e block).1 := by
  unfold State.fetchGroup
  extract_lets
  split
  · exact h.headDone
  split
  next eq =>
    exact .fst_ite (h.runGroup.done eq).headDone (h.runGroup.done eq).onHart.onHead
  next eq => exact (h.runGroup.fault eq).headCause
  next eq => exact (h.runGroup.wait eq).headWaits

theorem MemInv.fetchGroups (h : MemInv s) {n : Nat} : MemInv (s.fetchGroups n) := by
  induction n generalizing s with
  | zero => exact h
  | succ n ih =>
    unfold State.fetchGroups
    split
    · exact h
    · exact .ite (ih h.fetchGroup) h.fetchGroup

theorem MemInv.markFetch (h : MemInv s) : MemInv (s.markFetch e) := .ite h.onHead h

theorem MemInv.vfetchStep (h : MemInv s) {all : Bool} : MemInv (s.vfetchStep e all) := h.withBlock fun _ _ h => h.markFetch.fetchGroups

theorem MemInv.passGroups (h : MemInv s) {kw : KReg} {n : Nat} : MemInv (s.passGroups kw block n) := by
  induction n generalizing s with
  | zero => exact h
  | succ n ih =>
    unfold State.passGroups
    split
    · exact h
    refine .ite (.ite h.onHead h.headDone) ?_
    dsimp only
    split
    next eq => exact ih (h.runGroup.done eq).onHead
    next eq => exact (h.runGroup.fault eq).headCause
    next eq => exact (h.runGroup.wait eq).headWaits

theorem MemInv.vfetchwStep (h : MemInv s) {all : Bool} : MemInv (s.vfetchwStep e all) :=
  .ite h.headCause (h.withBlock fun _ _ h => h.passGroups)

theorem MemInv.stripGroups (h : MemInv s) {n : Nat} : MemInv (s.stripGroups block n) := by
  induction n generalizing s with
  | zero => exact h
  | succ n ih =>
    unfold State.stripGroups
    split
    · exact h
    refine .ite (.ite h.onHart.headDone h.onHart.onHead) ?_
    dsimp only
    split
    next eq => exact ih (h.runGroup.done eq).onHead
    next eq => exact (h.runGroup.fault eq).headCause
    next eq => exact (h.runGroup.wait eq).headIdle

theorem MemInv.vloopStep (h : MemInv s) {all : Bool} : MemInv (s.vloopStep e all) :=
  .ite h.headCause (h.withBlock fun _ _ h => .ite h.onHart.headDone (MemInv.ite h h.onHead).stripGroups)

end

section
variable {s t : State} {e : QEntry} {r : RecRun} {w : Who}

/-! ## The unfolding engine (R265 to R275) -/

theorem MemInv.loadSeq (h : MemInv s) {a b n : Nat} : (s.loadSeq w a b n).Keeps MemInv := by
  induction n generalizing s a with
  | zero => exact h
  | succ n ih => exact h.loadAs.bind fun _ _ h => (ih h).bind fun _ _ h => h

theorem MemInv.storeSeq (h : MemInv s) {a b : Nat} {l : List Nat} : (s.storeSeq w a b l).Keeps MemInv := by
  induction l generalizing s a with
  | nil => exact h
  | cons v vs ih => exact h.storeAs.bind fun _ _ h => ih h

theorem MemInv.recurStart (h : MemInv s) : (s.recurStart e).Keeps MemInv := by
  refine .ite h (.ite h (.ite h (.ite h (h.loadSeq.bind fun _ s h => .ite h (.ite h (Res.Keeps.bind (.ite h h.loadSeq) fun _ s h => ?_))))))
  exact .ite h (.ite h (.ite h (h.loadAs.bind fun _ _ h => .ite h
    (h.storeAs.bind fun _ _ h => h.storeSeq.bind fun _ _ h => h.setStoreTail.onHart))))

theorem MemInv.recurLoad (h : MemInv s) {a : List Nat} : MemInv (s.recurLoad r a).2 :=
  .ite (h.foldl fun _ _ h => .ite h.setStoreTail h) h

theorem MemInv.objectKept (h : MemInv s) {obj : Nat} : (s.objectKept w obj).Keeps MemInv := by
  unfold State.objectKept
  split
  · exact h
  · exact h.loadSeq.bind fun _ _ h => h

theorem MemInv.recurResume (h : MemInv s) {a : List Nat} : (s.recurResume e a).Keeps MemInv :=
  h.objectKept.bind fun _ _ h => .ite h.recurLoad h.recurLoad

theorem MemInv.resultWords (h : MemInv s) {a : Nat} : (s.resultWords w r a).Keeps MemInv := h.loadSeq

theorem MemInv.resultsOf (h : MemInv s) {l : List Nat} : (s.resultsOf w r l).Keeps MemInv := by
  induction l generalizing s with
  | nil => exact h
  | cons a as ih => exact h.resultWords.bind fun _ _ h => (ih h).bind fun _ _ h => h

theorem MemInv.tailAt (h : MemInv s) {a : Nat} : (s.tailAt w r a).Keeps MemInv := h.loadAs

theorem MemInv.loadVps (h : MemInv s) {l : List Frm} : (s.loadVps w r l).Keeps MemInv := by
  induction l generalizing s with
  | nil => exact h
  | cons f fs ih =>
    exact h.loadSeq.bind fun _ _ h => h.tailAt.bind fun _ _ h => Res.Keeps.bind (.ite h.resultsOf h) fun _ _ h => (ih h).bind fun _ _ h => h

theorem MemInv.setVp (h : MemInv s) {p : RVp} : MemInv (s.setVp r p) := h.setEl.setEl.foldl fun _ _ h => h.setEl

theorem MemInv.putKids (h : MemInv s) {a prec dep j : Nat} {l : List (List Nat)} : (s.putKids w r a prec dep l j).Keeps MemInv := by
  induction l generalizing s a j with
  | nil => exact h
  | cons k ks ih => exact h.storeSeq.bind fun _ _ h => h.storeAs.bind fun _ _ h => ih h

theorem MemInv.commitVp (h : MemInv s) {p : RVp} : (s.commitVp w r p).Keeps MemInv := by
  refine .ite (h.tailAt.bind fun _ _ h => h.storeAs.bind fun _ _ h =>
    .ite (h.putKids.bind fun _ _ h => h) (h.putKids.bind fun _ _ h => h)) ?_
  split
  · exact h
  · exact h.storeSeq.bind fun _ _ h => h

theorem MemInv.commitVps (h : MemInv s) {l : List RVp} : (s.commitVps w r l).Keeps MemInv := by
  induction l generalizing s r with
  | nil => exact h
  | cons p ps ih => exact h.commitVp.bind fun _ _ h => ih h

/-- What a group of a run comes to keeps a predicate of the state. -/
def RStep.Keeps (P : State → Prop) : RStep → Prop
  | .ok _ s => P s
  | .cause _ _ s => P s
  | .engine _ s => P s
  | .wait s => P s

theorem Res.Keeps.step {α : Type} {P : State → Prop} {x : Res α} {k : α → State → RStep} (h : x.Keeps P)
    (hk : ∀ a s, P s → (k a s).Keeps P) : (x.step k).Keeps P := by
  cases x with
  | ok a s => exact hk a s h
  | stop c s => exact h
  | wait s => exact h

theorem MemInv.recurGroup (h : MemInv s) {fs : List Frm} {after : RecRun → List RVp → State → Res RecRun}
    (ha : ∀ r vps s, MemInv s → (after r vps s).Keeps MemInv) : (s.recurGroup e r fs after).Keeps MemInv := by
  unfold State.recurGroup
  extract_lets
  split
  next eq => exact h.readBlock.stop eq
  next eq => exact h.readBlock.wait eq
  next eq =>
    refine (h.readBlock.ok eq).loadVps.step fun vps s h => ?_
    have hg := (h.foldl (l := vps) fun _ p h => h.setVp (r := r) (p := p)).onHart
      (f := fun g => { g with recur := some { r with vps := vps } })
    dsimp only
    split
    next eq =>
      have ht := hg.runGroup.done eq
      split
      · exact ht
      · exact (ht.commitVps.bind fun _ _ h => ha _ _ _ h).step fun _ _ h => h
    next eq => exact hg.runGroup.fault eq
    next eq => exact hg.runGroup.wait eq

theorem MemInv.settleStep (h : MemInv s) {o : RStep} (ho : o.Keeps MemInv) : MemInv (s.settleStep r o) := by
  unfold State.settleStep
  cases o with
  | ok q t => exact MemInv.onHart ho
  | cause vpc c t => exact h.keepAttempt.onHart.headCause
  | engine c t => exact h.keepAttempt.onHart
  | wait t => exact h.keepAttempt.onHart.headIdle

/-! ### The depth-first phase (R271) -/

theorem MemInv.loadHead (h : MemInv s) {v : Nat} : (s.loadHead w r v).Keeps MemInv := h.loadSeq.bind fun _ _ h => h
theorem MemInv.storeHead (h : MemInv s) {v : Nat} {q : Head} : (s.storeHead w r v q).Keeps MemInv := h.storeSeq

theorem MemInv.initHeads (h : MemInv s) {l : List Nat} : (s.initHeads w r l).Keeps MemInv := by
  induction l generalizing s with
  | nil => exact h
  | cons v vs ih => exact h.storeHead.bind fun _ _ h => ih h

theorem MemInv.divided (h : MemInv s) {a k : Nat} : (s.divided w r a k).Keeps MemInv := by
  induction k generalizing s a with
  | zero => exact h
  | succ k ih => exact h.tailAt.bind fun _ _ h => .ite ((ih h).bind fun _ _ h => h) h

theorem MemInv.path (h : MemInv s) {v n cur idx pos : Nat} {q : Head} {acc : List Step} :
    (s.path w r v q n cur idx pos acc).Keeps MemInv := by
  induction n generalizing s cur idx pos acc with
  | zero => exact h
  | succ n ih => exact h.tailAt.bind fun _ _ h => .ite h (h.divided.bind fun _ _ h => ih h)

theorem MemInv.pathOf (h : MemInv s) {v : Nat} {q : Head} : (s.pathOf w r v q).Keeps MemInv := h.path

theorem MemInv.settledHead (h : MemInv s) {v : Nat} {q : Head} : (s.settledHead w r v q).Keeps MemInv := by
  refine .ite h (.ite h (h.pathOf.bind fun _ _ h => ?_))
  split
  · exact h
  · exact h

theorem MemInv.workOf (h : MemInv s) {v : Nat} {q : Head} : (s.workOf w r v q).Keeps MemInv := by
  refine .ite h (h.pathOf.bind fun _ _ h => ?_)
  split
  · exact h
  · exact .ite h (.ite h h)

theorem MemInv.workFrom (h : MemInv s) {v n : Nat} : (s.workFrom w r v n).Keeps MemInv := by
  induction n generalizing s v with
  | zero => exact h
  | succ n ih => exact h.loadHead.bind fun _ _ h => h.settledHead.bind fun _ _ h => h.workOf.bind fun _ _ h => (ih h).bind fun _ _ h => h

theorem MemInv.nextHeads (h : MemInv s) {l : List (RVp × Work)} : (s.nextHeads w r l).Keeps MemInv := by
  induction l generalizing s with
  | nil => exact h
  | cons p ps ih => exact h.storeHead.bind fun _ _ h => ih h

theorem MemInv.depthGroup (h : MemInv s) {work : List Work} {o : RStep} (eq : s.depthGroup e r work = some o) : o.Keeps MemInv := by
  cases work with
  | nil => cases eq
  | cons q work => cases eq; exact h.recurGroup fun _ _ _ h => h.nextHeads.bind fun _ _ h => h

/-! ### The run (R269, R274) -/

theorem MemInv.passDone (h : MemInv s) : (s.passDone r).Keeps MemInv :=
  .ite (.ite h (.ite h (.ite (h.initHeads.bind fun _ _ h => h) h))) (.ite h (.ite h h))

theorem MemInv.recurEnd (h : MemInv s) : (s.recurEnd e r).Keeps MemInv :=
  .ite h (h.resultWords.bind fun _ _ h => Res.Keeps.bind (.ite h h.storeSeq) fun _ _ h =>
    h.storeSeq.bind fun _ _ h => h.storeAs.bind fun _ _ h => h.onHart)

theorem MemInv.recurRun (h : MemInv s) {n : Nat} : MemInv (s.recurRun e r n) := by
  induction n generalizing s r with
  | zero => exact h.onHart
  | succ n ih =>
    have turn : ∀ u : State, MemInv u → MemInv (match (u.passDone r).orNothing u with
        | .ok q t => State.recurRun t e q n
        | .stop c t => u.settleStep r (.engine c t)
        | .wait t => u.settleStep r (.wait t)) := fun u h => by
      have hp := h.passDone (r := r) |>.orNothing h
      split
      next eq => exact ih (hp.ok eq)
      next eq => exact h.settleStep (hp.stop eq)
      next eq => exact h.settleStep (hp.wait eq)
    unfold State.recurRun
    refine .ite ?_ (.ite ?_ ?_)
    · have he := h.recurEnd (e := e) (r := r) |>.orNothing h
      split
      next eq => exact (he.ok eq).headDone
      next eq => exact h.settleStep (he.stop eq)
      next eq => exact h.settleStep (he.wait eq)
    · split
      next eq => exact h.settleStep (h.workFrom.stop eq)
      next eq => exact h.settleStep (h.workFrom.wait eq)
      next eq =>
        have ht := h.workFrom.ok eq
        split
        · exact turn _ ht
        next eq => exact ht.settleStep (ht.depthGroup eq)
    · split
      · exact turn _ h
      · exact h.settleStep (h.recurGroup fun _ _ _ h => h)

theorem MemInv.recurBegin (h : MemInv s) {o : Started} (ho : o.Keeps MemInv) : MemInv (s.recurBegin e o) := by
  have ho := ho.orNothing h
  unfold State.recurBegin
  split
  next eq => exact MemInv.headCause (ho.stop eq)
  next eq => exact MemInv.headIdle (ho.wait eq)
  next eq => exact MemInv.onHart (MemInv.onHead (ho.ok eq))

theorem MemInv.recurRestart (h : MemInv s) : MemInv (s.recurRestart e) := by
  refine .ite h.headIdle ?_
  have hl := h.loadSeq (w := { s.recurWho with pad := false }) (a := e.opa.toNat + 0x48) (b := 8) (n := 7) |>.orNothing h
  split
  next eq => exact MemInv.onHart (hl.stop eq)
  next eq => exact MemInv.headIdle (hl.wait eq)
  next t eq =>
    have ht : MemInv t := hl.ok eq
    refine .ite (h.recurBegin ht.recurResume) (.ite ?_ ht.headCause)
    have hr := ht.recurStart (e := e) |>.orNothing h
    split
    next eq => exact MemInv.headCause (MemInv.onHead (hr.stop eq))
    · exact h.recurBegin hr

theorem MemInv.recurStep (h : MemInv s) : MemInv (s.recurStep e) := by
  refine .ite h ?_
  split
  · exact h.recurRun
  · exact .ite h.recurRestart (h.recurBegin h.recurStart)

end

section
variable {s t : State} {e : QEntry} {r : Row} {block : List (BitVec 32)}

/-! ## The lanes (R125 to R135, R141 to R148) -/

theorem MemInv.entryAt (h : MemInv s) {i : Nat} : MemInv (s.entryAt r i) := h.onHart.onHead

theorem MemInv.plainTo (h : MemInv s) {hi : Nat} : MemInv (s.plainTo e hi) := by
  unfold State.plainTo
  split
  next eq => exact .ite (h.laneEffect.done eq).entryAt (h.laneEffect.done eq).headDone
  next eq => exact (h.laneEffect.fault eq).entryAt.headCause
  next eq => exact (h.laneEffect.wait eq).entryAt.headWaits

theorem MemInv.plainStep (h : MemInv s) : MemInv (s.plainStep e) := h.plainTo

theorem MemInv.effVsetl (h : MemInv s) : (Machine.effVsetl e s).Keeps MemInv :=
  .ite h (MemInv.onHart (MemInv.onHart (.ite h.requestStorage (.ite h.requestStorage h))))

theorem MemInv.effVlease (h : MemInv s) : (Machine.effVlease e s).Keeps MemInv := h.requestLease.onHart

theorem MemInv.effVcommit (h : MemInv s) : (Machine.effVcommit s).Keeps MemInv := .ite h h

theorem MemInv.effVfork (h : MemInv s) : (Machine.effVfork e s).Keeps MemInv := by
  unfold Machine.effVfork
  extract_lets s' g fail c k m p m2 n t1
  have h' : MemInv s' := h.onHart
  split
  · exact h'
  have hfail : fail.Keeps MemInv := h'.onHart
  split
  · exact hfail
  next j eq =>
    have hj := h'.job eq
    extract_lets
    split
    · exact hfail
    refine .ite hfail ?_
    extract_lets t2 t3 t4
    have h1 : MemInv t1 := h'.same rfl
    have h4 : MemInv t4 := h1.putHart.onHart.putJob hj
    exact h4.retarget.moveBanks

theorem MemInv.effVjoin (h : MemInv s) : (Machine.effVjoin e s).Keeps MemInv := by
  unfold Machine.effVjoin
  extract_lets g fail
  have hfail : fail.Keeps MemInv := h.onHart
  split
  next f j _ eq =>
    split
    · exact hfail
    · extract_lets child sum m2 p2 t2 t3 t4
      have hj : j.pad.wf = true := h.job eq
      have h3 : MemInv t3 := h.setClock.putHart.putJob (by rw [Job.pad_leave]; exact hj)
      exact .ite h3.onHart.retarget h
  · exact hfail

theorem MemInv.vctlStep (h : MemInv s) {o : Eff} (ho : o.Keeps MemInv) : MemInv (s.vctlStep e o) := by
  unfold State.vctlStep
  cases o with
  | done t => exact MemInv.headDone ho
  | fault i c t => exact MemInv.headCause ho
  | wait i t => exact h.keepAttempt.headWaits

theorem MemInv.headWork (h : MemInv s) {all : Bool} : MemInv (s.headWork e all) := by
  refine .ite h.headIdle ?_
  split
  · exact h.vfetchStep
  · exact h.vfetchStep
  · exact h.vfetchwStep
  · exact h.vloopStep
  · exact h.recurStep
  · exact h.vctlStep h.effVsetl
  · exact h.vctlStep h.effVlease
  · exact h.vctlStep h.effVfork
  · exact (h.vctlStep h.effVjoin).boundary
  · exact h.vctlStep h.effVcommit
  · exact h.plainStep

theorem MemInv.lanes (h : MemInv s) {all : Bool} : MemInv (s.lanes all) := by
  refine .ite h (.ite h.boundary ?_)
  split
  · exact h
  · exact .ite h.onHart (.ite h h.headWork)

theorem MemInv.someGroups (h : MemInv s) {base : Word} {top n l : Nat} : (s.someGroups block base top n l).Keeps MemInv := by
  induction n generalizing s l with
  | zero => exact h
  | succ n ih =>
    unfold State.someGroups
    split
    · exact h
    dsimp only
    split
    next eq => exact ih (h.runGroup.done eq)
    · exact h.runGroup

theorem MemInv.asideWork (h : MemInv s) {lo hi : Nat} : (s.asideWork e lo hi).Keeps MemInv := by
  have groups {top : Nat} : (match s.someGroups e.block e.opa top 8192 (lo / s.hart.perGroup) with
      | .done t => Eff.done t
      | .fault _ c t => .fault lo c t
      | .wait t => .wait lo t).Keeps MemInv := by
    split
    next eq => exact h.someGroups.done eq
    next eq => exact h.someGroups.fault eq
    next eq => exact h.someGroups.wait eq
  unfold State.asideWork
  split
  · exact h.effVjoin
  · exact h.effVlease
  · exact groups
  · exact groups
  · exact h.laneEffect

theorem MemInv.youngWork (h : MemInv s) {n : Nat} : MemInv (s.youngWork n).1 := by
  unfold State.youngWork
  extract_lets
  split
  · exact h
  extract_lets
  refine .fst_ite h ?_
  split <;> dsimp only
  next eq => exact (h.onHart.asideWork.done eq).onHart
  next eq => exact h
  next eq => exact h.keepAttempt

theorem MemInv.youngTry (h : MemInv s) {k n : Nat} : MemInv (s.youngTry k n) := by
  induction k generalizing s n with
  | zero => exact h
  | succ k ih => exact .ite h.youngWork (ih h.youngWork)

theorem MemInv.laneStep (h : MemInv s) : MemInv s.laneStep := .ite h.lanes.youngTry h.lanes
theorem MemInv.laneAt (h : MemInv s) {n : Nat} : MemInv (s.laneAt n) := .ite h.lanes h.youngWork
theorem MemInv.idleWork (h : MemInv s) : MemInv s.idleWork := .ite h.engineWork h.laneStep

theorem MemInv.fetchToGranule (h : MemInv s) {n : Nat} : MemInv (s.fetchToGranule n) := by
  induction n generalizing s with
  | zero => exact h
  | succ n ih =>
    unfold State.fetchToGranule
    split
    · exact h
    · exact .ite (ih h.fetchGroup) h.fetchGroup

theorem MemInv.stopHead (h : MemInv s) : MemInv (s.stopHead e) := by
  unfold State.stopHead
  exact MemInv.onHart (.ite h (.ite (h.withBlock fun _ _ h => h.markFetch.fetchToGranule)
    (.ite h.headWork (.ite (.ite h.plainStep h) h.plainTo))))

theorem MemInv.settle (h : MemInv s) : MemInv s.settle := by
  refine .ite h ?_
  dsimp only
  split
  · exact h.onHart
  · exact h.onHart.stopHead

theorem MemInv.takeTrap (h : MemInv s) {c : Stop} {vpc : Option Word} : MemInv (s.takeTrap c vpc) :=
  .ite h.settle.onHart.enterTrap.boundary h.settle.onHart.enterTrap

/-! ## What an instruction answers -/

/-- An answer, where it is a state, is a canonical one. -/
def Answer.Keeps (P : State → Prop) : Answer → Prop
  | .next s => P s
  | _ => True

theorem Answer.Keeps.ite {P : State → Prop} {c : Prop} [Decidable c] {x y : Answer} (hx : x.Keeps P) (hy : y.Keeps P) :
    (if c then x else y).Keeps P := by
  split
  · exact hx
  · exact hy

theorem MemInv.raise (h : MemInv s) {c : Stop} : (s.raise c).Keeps MemInv := h.takeTrap

theorem Res.Keeps.finish {α : Type} {x : Res α} {k : α → State → Answer} (h : x.Keeps MemInv)
    (hk : ∀ a s, MemInv s → (k a s).Keeps MemInv) : (x.finish k).Keeps MemInv := by
  cases x with
  | ok a s => exact hk a s h
  | stop c s => exact MemInv.raise h
  | wait s => exact MemInv.idleWork h

theorem MemInv.writeX (h : MemInv s) {d : Reg} {v : Word} {len : Nat} : (s.writeX d v len).Keeps MemInv := h.onHart.advance

theorem MemInv.fpWrite (h : MemInv s) {d : Reg} {v : Word} {fl : Flags} {len : Nat} : (s.fpWrite d v fl len).Keeps MemInv := by
  unfold State.fpWrite
  extract_lets
  split
  · exact h.onHart.raise
  · exact h.onHart.writeX

theorem MemInv.blockFor (h : MemInv s) {w : BitVec 64} : (s.blockFor r w).Keeps MemInv := by
  unfold State.blockFor
  split
  case h_5 => exact h
  all_goals
    split
    · exact h.readBlock
    · exact h

theorem MemInv.issue (h : MemInv s) {w : BitVec 64} : (s.issue r w).Keeps MemInv := by
  unfold State.issue
  split
  · exact h.raise
  · exact .ite h.idleWork (h.blockFor.finish fun _ _ h => .ite h.idleWork (MemInv.ite h.onHart.advance.laneStep h.onHart.advance))

/-! ## The frame of a scalar instruction (R101, R102) -/

variable {w : BitVec 64} {len : Nat} {k : State → Answer}

theorem MemInv.waitOlder (h : MemInv s) : s.waitOlder.Keeps MemInv := h.resumeTransfers.idleWork

theorem MemInv.scalar (h : MemInv s) (hk : ∀ s, MemInv s → (k s).Keeps MemInv) : (s.scalar r w k).Keeps MemInv := by
  unfold State.scalar
  split
  · exact h.raise
  · exact .ite h.idleWork (.ite h.waitOlder (hk _ h))

theorem MemInv.compute (h : MemInv s) {d : Reg} {f : Hart → Word} : (s.compute r w len d f).Keeps MemInv := h.scalar fun _ h => h.writeX

theorem MemInv.onceFree (h : MemInv s) {a n : Nat} {write : Bool} (hk : (k s).Keeps MemInv) : (s.onceFree a n write k).Keeps MemInv :=
  .ite h.waitOlder hk

theorem MemInv.afterRelease (h : MemInv s) {release : Bool} (hk : (k s).Keeps MemInv) : (s.afterRelease release k).Keeps MemInv :=
  .ite h.waitOlder hk

theorem MemInv.afterQueue (h : MemInv s) (hk : (k s).Keeps MemInv) : (s.afterQueue k).Keeps MemInv := .ite hk h.laneStep

end

section
variable {s t : State} {r : Row} {w : BitVec 64} {len : Nat}

/-! ## Control registers (R91 to R100, R116) -/

theorem MemInv.retire (h : MemInv s) : (s.retire len).Keeps MemInv := h.advance
theorem MemInv.retireTo (h : MemInv s) {pc : Word} : (s.retireTo pc).Keeps MemInv := h.onHart

theorem MemInv.writeCsr (h : MemInv s) {n : Nat} {v clr : Word} : MemInv (s.writeCsr n v clr) := by
  unfold State.writeCsr
  extract_lets s'
  have hs : MemInv s' := h.onHart
  split
  · exact .ite hs hs.onHart
  · exact hs.requestLease
  · split
    next eq =>
      have hj := hs.job eq
      exact hs.putJob hj
    · exact hs
  iterate 4 exact .ite (hs.same rfl) hs
  · exact hs.putStable
  · exact hs.putStable.setRetired.retireClusters.retarget
  · exact hs

theorem MemInv.csrOp (h : MemInv s) {n : Nat} {d : Reg} {reads writes : Bool} {rw : Hart → Word → Word} {clr : Hart → Word} :
    (s.csrOp r w n d reads writes rw clr).Keeps MemInv := by
  refine h.scalar fun s h => ?_
  extract_lets go
  have hgo : (go s).Keeps MemInv := .ite h.raise (.ite (MemInv.ite h.writeCsr h).writeX (MemInv.ite h.writeCsr h).retire)
  exact .ite (h.afterQueue hgo) hgo

/-! ## Copies (R232 to R237) -/

theorem MemInv.hand (h : MemInv s) {k : TransferKind} {reads writes : List Range} : (s.hand k reads writes).Keeps MemInv :=
  .ite h.waitOlder h.takeBridle.retire

theorem MemInv.execCpy (h : MemInv s) {o : OpDAB} : (Machine.execCpy o s).Keeps MemInv := by
  refine h.scalar fun s h => .ite h.retire ?_
  split
  · exact h.raise
  · exact h.hand

theorem MemInv.execCpyfill (h : MemInv s) {o : OpDAB} : (Machine.execCpyfill o s).Keeps MemInv := by
  refine h.scalar fun s h => .ite h.retire ?_
  split
  · exact h.raise
  · exact h.hand

theorem MemInv.execCpywait (h : MemInv s) : (Machine.execCpywait s).Keeps MemInv :=
  h.scalar fun _ h => .ite h.resumeTransfers.laneStep (.ite h.resumeTransfers.retire
    (.ite h.resumeTransfers.idleWork.engineWork h.resumeTransfers.engineWork))

theorem MemInv.ringSegments (h : MemInv s) {v : Who} {c : Cap} {n seg : Nat} : (s.ringSegments v c n seg).Keeps MemInv := by
  induction n generalizing s seg with
  | zero => exact h
  | succ n ih => exact h.ringRd.bind fun _ _ h => .ite h ((ih h).bind fun _ _ h => h)

theorem MemInv.freeRing (h : MemInv s) {a : Nat} : (s.freeRing a).Keeps MemInv :=
  h.readCap.bind fun _ _ h => h.ringOpen.bind fun _ _ h => h.ringSegments

theorem MemInv.execCpybt (h : MemInv s) {o : OpA} : (Machine.execCpybt o s).Keeps MemInv :=
  h.scalar fun _ h => .ite h.raise (.ite h.raise (h.onceFree (h.loadWords.finish fun _ _ h =>
    .ite h.raise (.ite h.hand (h.freeRing.finish fun _ _ h => h.hand)))))

/-! ## The dependence graph and the ready ring (R29 to R34, R40) -/

section
variable {α : Type} {v : Who} {g : Graph} {die n : Nat} {a : Answer}

theorem MemInv.unless (h : MemInv s) {absent : Bool} (ht : MemInv t) : (s.unless absent t).Keeps MemInv := MemInv.ite h ht
theorem MemInv.whenRuns (h : MemInv s) (ha : a.Keeps MemInv) : (s.whenRuns die a).Keeps MemInv := .ite ha h
theorem MemInv.record10 (h : MemInv s) {ctx detail : Nat} {c : Stop} : MemInv (s.record10 die ctx c detail) := h.logAll

theorem MemInv.unitOf (h : MemInv s) {ctx : Nat} {o : Option Who} (e : s.unitOf die ctx = (o, t)) : MemInv t := by
  unfold State.unitOf at e
  split at e
  next eq => cases e; exact h.ctxRoot eq
  next eq => cases e; exact h.ctxRoot eq

theorem MemInv.bumpAs (h : MemInv s) {x : Nat} {f : Nat → Nat} : (s.bumpAs v x n f).Keeps MemInv :=
  h.accessAs.bind fun _ _ h => h.loadAs.bind fun _ _ h => h.storeAs.bind fun _ _ h => h

theorem MemInv.signal (h : MemInv s) {x : Nat} {b : BitVec 8} : (s.signal v x b).Keeps MemInv := .ite h (h.bumpAs.bind fun _ _ h => h)

theorem MemInv.putGraph (h : MemInv s) : MemInv (s.putGraph g) := h.same rfl
theorem MemInv.dropGraph (h : MemInv s) : MemInv (s.dropGraph n) := h.same rfl
theorem MemInv.setRings (h : MemInv s) {l : List (Nat × Cap)} : MemInv { s with rings := l } := h.same rfl

theorem MemInv.setCopies (h : MemInv s) {l : List Transfer} : MemInv (s.putDie { s.dieAt die with copies := l }) := by
  have hd := h.dieAt (n := die)
  exact h.putDie hd

theorem MemInv.readNode (h : MemInv s) : (s.readNode v g n).Keeps MemInv := h.loadWords.bind fun _ _ h => h

theorem MemInv.loadU32s (h : MemInv s) {x : Nat} : (s.loadU32s v x n).Keeps MemInv := by
  induction n generalizing s x with
  | zero => exact h
  | succ n ih => exact h.loadAs.bind fun _ _ h => (ih h).bind fun _ _ h => h

theorem MemInv.successors (h : MemInv s) {q : GNode} : (s.successors v q).Keeps MemInv :=
  .ite h (.ite h (h.loadAs.bind fun _ _ h => .ite h (h.loadU32s.bind fun _ _ h => h)))

theorem MemInv.setNode (h : MemInv s) {st : Nat} : (s.setNode v g n st).Keeps MemInv := h.loadAs.bind fun _ _ h => h.storeAs

theorem MemInv.checkNode (h : MemInv s) : (s.checkNode v g n).Keeps MemInv := by
  refine h.readNode.bind fun _ _ h => .ite h (h.successors.bind fun l _ h => ?_)
  cases l with
  | none => exact h
  | some l => exact h

theorem MemInv.checkNodes (h : MemInv s) {k : Nat} : (s.checkNodes v g k n).Keeps MemInv := by
  induction k generalizing s n with
  | zero => exact h
  | succ k ih =>
    unfold State.checkNodes
    split
    next eq => exact h.checkNode.wait eq
    next eq => exact h.checkNode.stop eq
    next eq =>
      have ht := h.checkNode.ok eq
      exact .ite ht ((ih ht).bind fun _ _ h => h)

theorem MemInv.makeReady (h : MemInv s) {at' : Nat} : (s.makeReady v g at' n).Keeps MemInv :=
  h.readNode.bind fun _ _ h => h.setNode.bind fun _ _ h => .ite h.push h.push

theorem MemInv.makeAllReady (h : MemInv s) {at' : Nat} {l : List Nat} : (s.makeAllReady v at' g l).Keeps MemInv := by
  induction l generalizing s g with
  | nil => exact h
  | cons n ns ih => exact h.makeReady.bind fun _ _ h => ih h

theorem MemInv.pushCompletion (h : MemInv s) : MemInv (s.pushCompletion g) := by
  refine .ite h.dropGraph ?_
  extract_lets fail
  have hfail (c : Stop) (s : State) (h : MemInv s) : MemInv (fail c s) := h.agentEvent.record10.dropGraph
  split
  next eq => exact hfail _ _ (h.unitOf eq)
  next s' eq =>
    have h := h.unitOf eq
    extract_lets x
    have hx : x.Keeps MemInv := Res.Keeps.orNothing (h.presentTyped.bind fun _ _ h => h.ringPush.bind fun p _ h => by
      cases p with
      | none => exact h
      | some m => exact h.ringWake.bind fun _ _ h => h) h
    clear_value x
    split
    · exact MemInv.dropGraph hx
    · exact MemInv.putGraph hx
    · exact hfail _ _ hx
    · exact MemInv.putGraph hx

theorem MemInv.settleGraph (h : MemInv s) : MemInv (s.settleGraph g) := .ite h.pushCompletion h.putGraph

theorem MemInv.endNode (h : MemInv s) {node : Nat × Nat} {ok : Bool} : MemInv (s.endNode node ok) := by
  unfold State.endNode
  split
  · exact h
  · exact h.putGraph.push

theorem MemInv.popSlot (h : MemInv s) {c : Cap} : (s.popSlot v c).Keeps MemInv := by
  refine h.ringOpen.bind fun _ _ h => h.ringRd.bind fun _ _ h => h.ringPeek.bind fun x _ h => ?_
  split
  · exact h
  · exact .ite h (h.ringTake.bind fun _ _ h => h)

/-! ### Results that carry a state -/

/-- A result whose value is a state: both it and the state beside it keep a predicate. -/
def Res.Gives (P : State → Prop) : Res State → Prop
  | .ok a s => P a ∧ P s
  | .stop _ s => P s
  | .wait s => P s

section
variable {P : State → Prop} {x y : Res State}

theorem Res.Gives.ok (h : x.Gives P) (e : x = .ok s t) : P s := by subst e; exact h.1

theorem Res.Gives.ite {c : Prop} [Decidable c] (hx : x.Gives P) (hy : y.Gives P) : (if c then x else y).Gives P := by
  split
  · exact hx
  · exact hy

theorem Res.Keeps.bindGives {z : Res α} {k : α → State → Res State} (h : z.Keeps P) (hk : ∀ a s, P s → (k a s).Gives P) :
    (z.bind k).Gives P := by
  cases z with
  | ok a s => exact hk a s h
  | stop c s => exact h
  | wait s => exact h

end

theorem MemInv.startGraph (h : MemInv s) {c : Cap} {slot : Nat} {pl : List Nat} : (s.startGraph die c slot pl).Gives MemInv := by
  unfold State.startGraph
  extract_lets field count g s1 all broken
  have h1 : MemInv s1 := h.same rfl
  have hb (s : State) (n : Nat) (x : Option Stop) (h : MemInv s) : MemInv (broken s n x) := by
    cases x with
    | none => exact h.agentEvent.settleGraph
    | some c => exact h.agentEvent.record10.settleGraph
  clear_value field count g s1 all broken
  refine .ite ⟨h1.agentEvent.settleGraph, h1⟩ ?_
  split
  next eq => exact ⟨hb _ _ _ (h1.unitOf eq), h1.unitOf eq⟩
  next eq =>
    refine (h1.unitOf eq).checkNodes.bindGives fun x s h => ?_
    split
    · exact ⟨hb _ _ _ h, h⟩
    split
    next eq => exact ⟨(h.makeAllReady.ok eq).settleGraph, h.makeAllReady.ok eq⟩
    next eq => exact ⟨(h.makeAllReady.stop eq).record10.settleGraph, h.makeAllReady.stop eq⟩
    next eq => exact h.makeAllReady.wait eq

theorem MemInv.execGraphSubmissionPop (h : MemInv s) {ring : Nat} : (Machine.execGraphSubmissionPop ring s).Keeps MemInv := by
  unfold Machine.execGraphSubmissionPop
  split
  · exact h
  refine h.whenRuns ?_
  have hg {d : Nat} {c : Cap} : ((s.popSlot (unitWho d c.owner 0#64) c).bind fun r t =>
      match r with
      | none => Res.ok t t
      | some (slot, pl) => t.startGraph d c slot pl).Gives MemInv := h.popSlot.bindGives fun r _ h => by
    cases r with
    | none => exact ⟨h, h⟩
    | some p => exact h.startGraph
  split
  next eq => exact hg.ok eq
  next eq => exact h.keepAttempt
  next x t eq =>
    have hk : MemInv (s.keepAttempt t false) := h.keepAttempt
    exact hk.agentEvent.record10.setRings

theorem MemInv.nodeTransfer (h : MemInv s) {work : Nat} {node : Nat × Nat} : (s.nodeTransfer v work node).Keeps MemInv := by
  refine .ite h (h.loadWords.bind fun _ _ h => ?_)
  dsimp only
  split
  · exact .ite h h
  · exact .ite h h
  · exact .ite h (h.loadWords.bind fun _ _ h => .ite h (.ite h h))
  · exact h

theorem MemInv.postReady (h : MemInv s) {node image ctx : Nat} : MemInv (s.postReady die node image ctx) :=
  (h.putDie (Memory.wf_writeN (Memory.wf_writeN (Memory.wf_writeN (Memory.wf_clear h.dieAt))))).setPendingBit

theorem MemInv.startNode (h : MemInv s) : (s.startNode v g n die).Gives MemInv := by
  refine h.readNode.bindGives fun q s h => ?_
  split
  · split
    · exact ⟨h.postEvent.putGraph, h⟩
    · exact ⟨h.push, h⟩
  · refine h.setNode.bindGives fun _ s h => ?_
    have hn := h.nodeTransfer (v := v) (work := q.work) (node := (g.n, n))
    dsimp only
    split
    next eq =>
      have hu := hn.ok eq
      exact ⟨hu.putGraph.setCopies.push, hu.putGraph⟩
    · exact ⟨h.putGraph.endNode, h.putGraph⟩
    · exact ⟨h.putGraph.record10.endNode, h.putGraph⟩
    next eq => exact ⟨(hn.stop eq).putGraph.record10.endNode, hn.stop eq⟩
    next eq => exact hn.wait eq
  · exact h.setNode.bindGives fun _ _ h => ⟨h.putGraph.endNode, h⟩
  · exact h.setNode.bindGives fun _ _ h => ⟨h.putGraph.postEvent, h⟩

theorem MemInv.walkNode (h : MemInv s) {f : State → Who → Res State} (hf : ∀ v t, MemInv t → (f t v).Gives MemInv) :
    MemInv (s.walkNode g n die f) := by
  unfold State.walkNode
  extract_lets fail
  have hfail (c : Stop) (t : State) : MemInv (fail c t) := h.keepAttempt.record10.putGraph.endNode
  split
  · exact hfail _ _
  next v t eq =>
    have hg := hf v t (h.unitOf eq)
    split
    next eq => exact hg.ok eq
    · exact hfail _ _
    · exact h.keepAttempt

theorem MemInv.execNodeStart (h : MemInv s) {i : Nat} : (Machine.execNodeStart i n s).Keeps MemInv := by
  unfold Machine.execNodeStart
  split
  · exact h
  split
  · exact h
  · exact h.whenRuns (h.walkNode fun _ _ h => h.startNode)

theorem MemInv.execReadyRingPost (h : MemInv s) {i : Nat} : (Machine.execReadyRingPost i n s).Keeps MemInv := by
  unfold Machine.execReadyRingPost
  split
  · exact h
  split
  · exact h
  · exact h.whenRuns (h.walkNode fun _ _ h => h.readNode.bindGives fun _ _ h => .ite ⟨h, h⟩ ⟨h.postReady.putGraph, h⟩)

theorem MemInv.execRemoteSuccessorReady (h : MemInv s) {i : Nat} : (Machine.execRemoteSuccessorReady i n s).Keeps MemInv := by
  unfold Machine.execRemoteSuccessorReady
  split
  · exact h
  split
  · exact h
  · exact h.whenRuns h.putGraph.push

theorem MemInv.decrement (h : MemInv s) {l : List Nat} : (s.decrement v die g l).Keeps MemInv := by
  induction l generalizing s g with
  | nil => exact h
  | cons i l ih =>
    exact h.bumpAs.bind fun _ _ h => .ite ((ih h).bind fun _ _ h => h)
      (.ite (h.readNode.bind fun _ _ h => .ite (ih h) (h.makeReady.bind fun _ _ h => ih h)) (ih h))

theorem MemInv.finishNode (h : MemInv s) : (s.finishNode v g n die).Gives MemInv := by
  refine h.readNode.bindGives fun q s h => ?_
  refine Res.Keeps.bindGives (P := MemInv) ?_ fun bad s h => h.setNode.bindGives fun _ s h => h.successors.bindGives fun l s h =>
    h.decrement.bindGives fun x s h =>
      ⟨MemInv.settleGraph (MemInv.foldl ?_ fun _ _ h => h.agentEvent), MemInv.foldl ?_ fun _ _ h => h.agentEvent⟩
  · have hs := h.signal (v := v) (x := q.sigaddr) (b := q.sigval)
    split
    next eq => exact hs.ok eq
    next eq => exact hs.stop eq
    next eq => exact hs.wait eq
  all_goals
    cases bad with
    | none => exact h
    | some c => exact h.record10

theorem MemInv.cancel (h : MemInv s) {f : Nat} {seen l : List Nat} : (s.cancel v f g seen l).Keeps MemInv := by
  induction f generalizing s g seen l with
  | zero => exact h
  | succ f ih =>
    cases l with
    | nil => exact h
    | cons i l =>
      exact .ite (ih h) (h.readNode.bind fun _ _ h => .ite (h.successors.bind fun _ _ h => ih h) (.ite (ih h)
        (h.setNode.bind fun _ _ h => h.successors.bind fun _ _ h => ih h)))

theorem MemInv.failNode (h : MemInv s) : (s.failNode v g n).Gives MemInv :=
  h.readNode.bindGives fun _ _ h => h.setNode.bindGives fun _ _ h => h.successors.bindGives fun _ _ h =>
    h.cancel.bindGives fun _ _ h => ⟨h.settleGraph, h⟩

theorem MemInv.loseNode (h : MemInv s) {c : Stop} : MemInv (s.loseNode g n die c) := h.record10.settleGraph

theorem MemInv.execNodeFinish (h : MemInv s) {i : Nat} : (Machine.execNodeFinish i n s).Keeps MemInv := by
  unfold Machine.execNodeFinish
  split
  · exact h
  split
  · exact h
  refine h.whenRuns ?_
  split
  next eq => exact (h.unitOf eq).loseNode
  next eq =>
    have ht := h.unitOf eq
    split
    next eq => exact Res.Gives.ok (.ite ht.finishNode ht.failNode) eq
    · exact h.keepAttempt.loseNode
    · exact h.keepAttempt

theorem MemInv.execCompletionPushRetry (h : MemInv s) {i : Nat} : (Machine.execCompletionPushRetry i s).Keeps MemInv := by
  unfold Machine.execCompletionPushRetry
  split
  · exact h
  · exact h.whenRuns (MemInv.ite h.pushCompletion h)

theorem MemInv.copyNodeChunk (h : MemInv s) {i : Nat} : MemInv (s.copyNodeChunk die i).1 := by
  unfold State.copyNodeChunk
  extract_lets d out
  split
  · exact h
  next x _ =>
    have hc := h.chunk (w := { unitWho die x.ctx x.pgroot with engine := true }) (x := { x with started := true })
    extract_lets node w
    have hout (s : State) (h : MemInv s) : MemInv (out s) := h.setCopies
    split
    next eq => exact (hc.ok eq).setCopies
    next eq => exact (hout _ (hc.ok eq)).endNode
    next eq => exact (hout _ (hc.stop eq)).record10.endNode
    next eq => exact hc.wait eq

theorem MemInv.copyNodeAll (h : MemInv s) {i : Nat} : MemInv (s.copyNodeAll die i n) := by
  induction n generalizing s with
  | zero => exact h
  | succ n ih => exact .ite (ih h.copyNodeChunk) h.copyNodeChunk

end
end

section
variable {s t : State} {r : Row} {w : BitVec 64} {len n : Nat}

/-! ## Integers, branches, loads and stores, atomics (R103 to R108, R113 to R115) -/

theorem MemInv.divide (h : MemInv s) {o : OpDAB} {f : Nat → Nat → Nat → Nat × Flags} : (s.divide r w o f).Keeps MemInv :=
  h.scalar fun _ h => h.fpWrite

theorem MemInv.branch (h : MemInv s) {c : Hart → Bool} {off : Word} : (s.branch r w len c off).Keeps MemInv :=
  h.scalar fun _ h => .ite h.retireTo h.retire

theorem MemInv.execJal (h : MemInv s) {o : OpDI} : (Machine.execJal o s).Keeps MemInv := h.scalar fun _ h => h.onHart.retireTo

theorem MemInv.execJalr (h : MemInv s) {o : OpDAI} : (Machine.execJalr o s).Keeps MemInv :=
  h.scalar fun _ h => .ite h.raise (.ite h.raise h.onHart.retireTo)

theorem MemInv.execCJ (h : MemInv s) {o : OpCO} : (Machine.execCJ o s).Keeps MemInv := h.scalar fun _ h => h.retireTo

theorem MemInv.load (h : MemInv s) {d : Reg} {addr : Hart → Word} {f : Nat → Word} : (s.load r w len d addr n f).Keeps MemInv :=
  h.scalar fun _ h => h.onceFree (h.loadRaw.finish fun _ _ h => h.writeX)

theorem MemInv.store (h : MemInv s) {addr : Hart → Word} {src : Reg} : (s.store r w len addr n src).Keeps MemInv :=
  h.scalar fun _ h => h.onceFree (h.storeRaw.finish fun _ _ h => h.retire)

theorem MemInv.modify (h : MemInv s) {a : Nat} {f : Nat → Option Nat} : (s.modify a n f).Keeps MemInv := by
  refine h.access.bind fun p s h => Res.Keeps.bind (P := MemInv) ?_ fun _ s h => ?_
  · cases p with
    | phys pa leaf => exact h.dataCheck
    | pad off => exact h
  · dsimp only
    split
    · exact h.readPlace.placeAs
    · exact h.readPlace.writePlace.placeAs

theorem MemInv.amo (h : MemInv s) {o : OpDABO} {f : BitVec (8 * n) → BitVec (8 * n) → BitVec (8 * n)} : (s.amo r w o n f).Keeps MemInv :=
  h.scalar fun _ h => h.afterRelease (h.onceFree (h.modify.finish fun _ _ h => h.writeX))

theorem MemInv.execCas (h : MemInv s) {o : OpDABEWO} : (Machine.execCas o s).Keeps MemInv :=
  h.scalar fun _ h => h.afterRelease (h.onceFree (h.modify.finish fun _ _ h => h.writeX))

/-! ## Queue instructions (R119 to R124) -/

theorem MemInv.withCap (h : MemInv s) {a : Reg} {need : List Right} {k : Cap → State → Answer}
    (hk : ∀ c s, MemInv s → (k c s).Keeps MemInv) : (s.withCap r w a need k).Keeps MemInv :=
  h.scalar fun _ h => h.onceFree (h.presentCap.finish hk)

theorem MemInv.execQpush (h : MemInv s) {o : OpDAB} : (Machine.execQpush o s).Keeps MemInv :=
  h.withCap fun _ _ h => h.onceFree (h.loadWords.finish fun _ _ h => h.afterRelease (h.ringPush.finish fun _ _ h => h.writeX))

theorem MemInv.popRing (h : MemInv s) {o : OpDAB} {take : Bool} : (s.popRing r w o take).Keeps MemInv := by
  refine h.withCap fun _ _ h => .ite h.raise (h.onceFree (Res.Keeps.finish (Res.Keeps.orNothing ?_ h) fun _ _ h => h.writeX))
  refine h.ringOpen.bind fun _ _ h => h.ringPeek.bind fun q _ h => ?_
  split
  · exact h.onHart
  · exact h.storeWords.bind fun _ _ h => .ite (h.ringTake.bind fun _ _ h => h) h

theorem MemInv.execQwake (h : MemInv s) {o : OpDAB} : (Machine.execQwake o s).Keeps MemInv :=
  h.withCap fun _ _ h => h.ringWake.finish fun _ _ h => h.writeX

theorem MemInv.execQseal (h : MemInv s) {o : OpDA} : (Machine.execQseal o s).Keeps MemInv :=
  .ite h.raise (h.scalar fun _ h => h.onceFree (h.readCap.finish fun _ _ h => .ite (h.storeRaw.finish fun _ _ h => h.writeX) h.raise))

theorem MemInv.raiseFloor (h : MemInv s) {ctx : Nat} : MemInv (s.raiseFloor ctx n) := .ite h (h.same rfl)

theorem MemInv.execQrevoke (h : MemInv s) {o : OpDAB} : (Machine.execQrevoke o s).Keeps MemInv :=
  .ite h.raise (h.withCap fun _ _ h => h.raiseFloor.writeX)

theorem MemInv.execQgrow (h : MemInv s) {o : OpDAB} : (Machine.execQgrow o s).Keeps MemInv :=
  h.withCap fun _ _ h => .ite h.raise (.ite h.raise (h.ringGrow.finish fun _ _ h => h.writeX))

theorem MemInv.execNsub (h : MemInv s) {o : OpDAB} : (Machine.execNsub o s).Keeps MemInv := by
  refine h.withCap fun _ _ h => .ite h.raise (h.onceFree (h.loadWords.finish fun _ _ h => .ite h.raise (h.afterRelease ?_)))
  refine Res.Keeps.finish (Res.Keeps.orNothing (h.ringPush.bind fun p _ h => ?_) h) fun _ _ h => h.writeX
  cases p with
  | none => exact h
  | some m => exact h.ringWake.bind fun _ _ h => h

/-! ## Synchronisation (R302 to R311) -/

theorem MemInv.stay (h : MemInv s) : MemInv s.stay := h.onHart.idleWork

theorem MemInv.asyncTrap (h : MemInv s) : MemInv s.asyncTrap := by
  refine .ite ?_ h.stay
  split
  · exact h.onHart.takeTrap
  · exact h.stay

theorem MemInv.execFence (h : MemInv s) {o : OpSK} : (Machine.execFence o s).Keeps MemInv :=
  h.scalar fun _ h => .ite h.retire (.ite (h.afterRelease h.retire) (.ite (.ite h.retire h.waitOlder) (.ite h.retire h.onHart.retire)))

theorem MemInv.execPause (h : MemInv s) : (Machine.execPause s).Keeps MemInv := h.scalar fun _ h => h.retire

theorem MemInv.execWaitm (h : MemInv s) {o : OpDAB} : (Machine.execWaitm o s).Keeps MemInv :=
  h.scalar fun _ h => h.onceFree (h.loadRaw.finish fun _ _ h => .ite h.writeX h.stay)

theorem MemInv.execArrive (h : MemInv s) {o : OpDAB} : (Machine.execArrive o s).Keeps MemInv :=
  h.scalar fun _ h => h.onceFree (h.access.finish fun _ _ h => h.afterRelease (h.modify.finish fun _ _ h => .ite h.raise h.writeX))

theorem MemInv.execAwait (h : MemInv s) {o : OpDAB} : (Machine.execAwait o s).Keeps MemInv :=
  h.scalar fun _ h => h.onceFree (h.loadRaw.finish fun _ _ h => .ite h.writeX h.asyncTrap)

theorem Job.pad_arrive {j : Job} {m : Nat} : (j.arrive m).pad = j.pad := Job.pad_settle

theorem MemInv.gangBarrier (h : MemInv s) {d : Reg} {release : Bool} : (s.gangBarrier r w d release).Keeps MemInv := by
  refine h.scalar fun s h => ?_
  split
  · exact h.raise
  next j eq =>
    have hj {m : Nat} : (j.arrive m).pad.wf = true := by rw [Job.pad_arrive, h.job eq]
    split
    · exact h.afterRelease (.ite (h.putJob hj).writeX (h.putJob hj).onHart.stay)
    · exact .ite h.onHart.writeX h.asyncTrap

/-! ## System instructions -/

theorem MemInv.execTrap (h : MemInv s) {o : OpA} : (Machine.execTrap o s).Keeps MemInv := h.scalar fun _ h => h.raise
theorem MemInv.execTrapBrk (h : MemInv s) : (Machine.execTrapBrk s).Keeps MemInv := h.scalar fun _ h => h.raise

theorem MemInv.setTurns (h : MemInv s) {l : List Turn} : MemInv { s with turns := l } := h.same rfl

theorem MemInv.execHalt (h : MemInv s) : (Machine.execHalt s).Keeps MemInv :=
  h.scalar fun _ h => .ite (MemInv.ite h.advance.onHart h.advance.onHart.setTurns) h.resumeTransfers.idleWork

theorem MemInv.execWfe (h : MemInv s) : (Machine.execWfe s).Keeps MemInv := h.scalar fun _ h => .ite h.onHart.retire h.stay

theorem MemInv.presentAt (h : MemInv s) {a : Nat} : (s.presentAt a).Keeps MemInv := by
  refine .ite h ?_
  split
  next eq => exact h.translate eq
  next eq => exact h.translate eq
  next eq => exact (h.translate eq).dataStop
  next eq => exact (h.translate eq).movedCheck.bind fun _ _ h => h

theorem MemInv.cleanPages (h : MemInv s) {drop : Bool} {l : List (Nat × Nat)} : (s.cleanPages drop l).Keeps MemInv := by
  induction l generalizing s with
  | nil => exact h
  | cons p l ih =>
    refine h.presentAt.bind fun p _ h => ?_
    cases p with
    | none => exact ih h
    | some q => exact h.mergeLines.bind fun _ _ h => ih (.ite h.putStable.setCoh h.setCoh)

theorem MemInv.cleanRange (h : MemInv s) {o : OpAB} {drop : Bool} : (s.cleanRange r w o drop).Keeps MemInv := by
  refine h.scalar fun s h => ?_
  dsimp only
  split
  · exact h.raise
  · exact .ite h.retire (h.onceFree (.ite h.retire (h.cleanPages.finish fun _ _ h => h.retire)))

theorem MemInv.setPins (h : MemInv s) {l : List Pin} : MemInv { s with pins := l } := h.same rfl

theorem MemInv.pinLines (h : MemInv s) {l acc : Nat} : MemInv (s.pinLines n l acc).2 := by
  induction n generalizing s l acc with
  | zero => exact h
  | succ n ih =>
    unfold State.pinLines
    have hp := h.presentAt (a := l * 128)
    dsimp only
    split
    next eq => exact ih (hp.stop eq)
    next eq => exact ih (hp.wait eq)
    next eq => exact ih (hp.ok eq)
    next t eq =>
      have ht : MemInv t := hp.ok eq
      split
      · exact ih ht
      split
      · exact ih (MemInv.ite ht ht.readLines).setPins
      · exact ih ht

theorem MemInv.unpinLines (h : MemInv s) {l acc : Nat} : MemInv (s.unpinLines n l acc).2 := by
  induction n generalizing s l acc with
  | zero => exact h
  | succ n ih =>
    unfold State.unpinLines
    have hp := h.presentAt (a := l * 128)
    dsimp only
    split
    next eq => exact ih (hp.stop eq)
    next eq => exact ih (hp.wait eq)
    next eq => exact ih (hp.ok eq)
    next t eq =>
      have ht : MemInv t := hp.ok eq
      split
      · exact ih ht.setPins
      · exact ih ht

theorem MemInv.pinRange (h : MemInv s) {o : OpDAB} {f : State → Nat → Nat → Nat × State}
    (hf : ∀ s n l, MemInv s → MemInv (f s n l).2) :
    (s.pinRange r w o f).Keeps MemInv := by
  refine h.scalar fun s h => ?_
  dsimp only
  split
  · exact h.raise
  · exact .ite h.writeX (hf _ _ _ h).writeX

theorem MemInv.execPin (h : MemInv s) {o : OpDAB} : (Machine.execPin o s).Keeps MemInv := h.pinRange fun _ _ _ h => h.pinLines
theorem MemInv.execUnpin (h : MemInv s) {o : OpDAB} : (Machine.execUnpin o s).Keeps MemInv := h.pinRange fun _ _ _ h => h.unpinLines

theorem MemInv.invalidate (h : MemInv s) {ctx : Nat} {va : Word} : MemInv (s.invalidate ctx va) := by
  unfold State.invalidate
  extract_lets gone pinGone t again
  have ht : MemInv t := h.withDies (h.pads_map fun _ => rfl) rfl
  exact ht.mapHarts.foldl fun _ _ h => .ite h h.portAgain

theorem MemInv.drainHarts (h : MemInv s) {ids : List Nat} : MemInv (s.drainHarts ids) :=
  (h.foldl fun _ _ h => h.focusOn.drainWork).focusOn

theorem MemInv.execTlbinv (h : MemInv s) {o : OpAB} : (Machine.execTlbinv o s).Keeps MemInv := by
  refine h.scalar fun s h => .ite h.raise (h.afterRelease ?_)
  split
  · exact h.invalidate.retire
  · exact h.drainHarts

theorem MemInv.setStables (h : MemInv s) {l : List Stable} : MemInv { s with stables := l } := h.same rfl

theorem MemInv.execFinval (h : MemInv s) {o : OpA} : (Machine.execFinval o s).Keeps MemInv :=
  h.scalar fun _ h => h.afterQueue (.ite h.resumeTransfers.engineWork h.resumeTransfers.setStables.retire)

theorem MemInv.storeRun (h : MemInv s) {a : Nat} {l : List Nat} : (s.storeRun a l).Keeps MemInv := by
  induction l generalizing s a with
  | nil => exact h
  | cons v vs ih => exact h.storeRaw.bind fun _ _ h => ih h

theorem MemInv.loadRun (h : MemInv s) {a : Nat} : (s.loadRun a n).Keeps MemInv := by
  induction n generalizing s a with
  | zero => exact h
  | succ n ih => exact h.loadRaw.bind fun _ _ h => (ih h).bind fun _ _ h => h

theorem MemInv.execVqsave (h : MemInv s) {o : OpA} : (Machine.execVqsave o s).Keeps MemInv := by
  refine h.scalar fun s h => ?_
  dsimp only
  split
  · exact h.raise
  · exact .ite h.waitOlder (h.storeRun.finish fun _ _ h => h.retire)

theorem MemInv.execVqload (h : MemInv s) {o : OpA} : (Machine.execVqload o s).Keeps MemInv := by
  refine h.scalar fun s h => ?_
  dsimp only
  split
  · exact h.raise
  refine h.onceFree (h.loadRun.finish fun _ s h => ?_)
  split
  · exact h.raise
  · exact h.onHart.retire

theorem MemInv.trapReturn (h : MemInv s) : MemInv s.trapReturn := by
  unfold State.trapReturn
  extract_lets t resumed q
  have ht : MemInv t := h.onHart
  have hr (s : State) (h : MemInv s) : MemInv (resumed s) := .ite h.resumeTransfers h
  refine .ite (hr _ ht.onHart) (.ite ht.takeTrap (.ite ht.takeTrap ?_))
  cases q with
  | nil => exact hr _ ht.onHart
  | cons e q => exact .ite ht.takeTrap (hr _ ht.onHart)

theorem MemInv.execTret (h : MemInv s) : (Machine.execTret s).Keeps MemInv :=
  h.scalar fun _ h => h.afterQueue (.ite h.raise h.onHart.trapReturn)

end

section
variable {s t : State} {v : Who} {die n : Nat} {j : Job}

/-! ## Launches, admission and completion (R8 to R16, R38, R39, R54, R117, R363) -/

theorem MemInv.createContext (h : MemInv s) {ctx : Nat} : MemInv (s.createContext ctx) := .ite h (h.same rfl)

theorem MemInv.usableEntry (h : MemInv s) {ctx : Nat} : MemInv (s.usableEntry die ctx).2.2 := by
  unfold State.usableEntry
  split
  · exact h
  next pa _ =>
    have hr := h.entryRead (die := die) (ctx := ctx) (pa := pa) (n := 128)
    split
    next eq => rw [eq] at hr; exact hr
    next eq => rw [eq] at hr; exact .ite (MemInv.createContext hr) hr

theorem MemInv.setRequest (h : MemInv s) {host busy : Bool} {result : Nat} : MemInv (s.setRequest host n busy result) := by
  unfold State.setRequest
  extract_lets w
  exact .ite h.putPort (h.putDie (Memory.wf_writeN h.dieAt))

theorem MemInv.setTaken (h : MemInv s) {l : List TakenLaunch} : MemInv { s with taken := l } := h.same rfl
theorem MemInv.setPending (h : MemInv s) {l : List Nat} : MemInv { s with pending := l } := h.same rfl

theorem MemInv.takeRequest (h : MemInv s) {host : Bool} : MemInv (s.takeRequest host n).2 := h.usableEntry.setTaken

theorem MemInv.requestNode (h : MemInv s) {r : Request} {root : Option Word} : (s.requestNode r root).Keeps MemInv := by
  refine .ite h ?_
  split
  · exact h
  split
  next g root _ _ =>
    split
    next eq => exact h.readNode.ok eq
    next eq => exact h.readNode.stop eq
    next eq => exact h.readNode.wait eq
  · exact h

theorem MemInv.admitOne (h : MemInv s) {k image : Nat} {root : Word} {d : Header} {e : List Word} {node : Option (Nat × Nat)} :
    MemInv (s.admitOne k image root d e node) := by
  unfold State.admitOne
  extract_lets gang cores live before s1 job s2 s3
  have h2 : MemInv s2 := h.withJobs (by rw [List.all_append, h.jobs]; rfl) rfl
  have h3 : MemInv s3 := h2.foldl fun _ _ h => h.putHart
  exact h3.retarget.dealFree.moveBanks.push

theorem MemInv.readRegs (h : MemInv s) {image size : Nat} {l : List (Nat × Nat)} : (s.readRegs v image size l).Keeps MemInv := by
  induction l generalizing s with
  | nil => exact h
  | cons p l ih => exact h.loadBytes.bind fun _ _ h => (ih h).bind fun _ _ h => h

theorem MemInv.readImage (h : MemInv s) {image vcode : Nat} {xd vd : BitVec 32} {kd : BitVec 8} {zd : BitVec 2} :
    (s.readImage v image vcode xd vd kd zd).Keeps MemInv :=
  h.readRegs.bind fun _ _ h => h.readRegs.bind fun _ _ h => h.readRegs.bind fun _ _ h => h.readRegs.bind fun _ _ h => h

theorem MemInv.badImageReport (h : MemInv s) {ctx image : Nat} {node : Option (Nat × Nat)} :
    MemInv (s.badImageReport die ctx image node) := by
  cases node with
  | none => exact h.agentEvent
  | some p => exact h.agentEvent.endNode

theorem MemInv.tryAdmit (h : MemInv s) {r : Request} {node : Option (Nat × Nat)} {root : Word} {d : Header} {e : List Word} :
    (s.tryAdmit r node root d e).Keeps MemInv := by
  refine .ite h ?_
  split
  · exact h.admitOne
  split
  · exact h.admitOne
  next g _ =>
    split
    next eq => exact h.setNode.wait eq
    next eq => exact h.setNode.stop eq
    next eq => exact MemInv.admitOne (MemInv.putGraph (h.setNode.ok eq))

theorem MemInv.offerImage (h : MemInv s) {r : Request} {node : Option (Nat × Nat)} {entry : Option (List Word)} :
    (s.offerImage r node entry).Keeps MemInv := by
  unfold State.offerImage
  split
  · exact h.badImageReport
  refine .ite h.badImageReport ?_
  split
  next eq => exact h.loadWords.wait eq
  next eq => exact MemInv.badImageReport (h.loadWords.stop eq)
  next eq =>
    have h := h.loadWords.ok eq
    refine .ite (MemInv.badImageReport h) ?_
    split
    next eq => exact (MemInv.readImage h).wait eq
    next eq => exact MemInv.badImageReport ((MemInv.readImage h).stop eq)
    next eq => exact MemInv.tryAdmit ((MemInv.readImage h).ok eq)

theorem MemInv.endRequest (h : MemInv s) {host : Bool} {result : Nat} : MemInv (s.endRequest host n result) := h.setRequest.setTaken

theorem MemInv.serveRequest (h : MemInv s) {q : TakenLaunch} : (s.serveRequest q).Keeps MemInv := by
  have hq : ((s.requestNode (requestFrom q.host q.n q.words) q.root).bind fun p t =>
      match p with
      | none => Res.ok 3 t
      | some node => t.offerImage (requestFrom q.host q.n q.words) node q.entry).Keeps MemInv := h.requestNode.bind fun p _ h => by
    cases p with
    | none => exact h
    | some p => exact h.offerImage
  unfold State.serveRequest
  dsimp only
  split
  next eq => exact MemInv.endRequest (hq.ok eq)
  next eq => exact MemInv.endRequest (hq.stop eq)
  next eq => exact h.keepAttempt

theorem MemInv.execLaunchRequestGo (h : MemInv s) {host : Bool} : (Machine.execLaunchRequestGo host n s).Keeps MemInv := by
  refine .ite h ?_
  split
  · exact h.whenRuns h.serveRequest
  · exact .ite h.logPort (h.whenRuns (.ite h.setRequest h.setRequest.takeRequest.serveRequest))

theorem MemInv.freeHart (h : MemInv s) {id : Nat} : MemInv (s.freeHart id) := .ite (h.same rfl) (h.same rfl)

theorem MemInv.dropJob (h : MemInv s) : MemInv (s.dropJob j) := by
  unfold State.dropJob
  extract_lets s1 s2
  have h1 : MemInv s1 := h.foldl fun _ _ h => h.freeHart
  have h2 : MemInv s2 := h1.withJobs (all_dropBy h1.jobs) rfl
  exact h2.retireClusters.retarget.dealFree

theorem MemInv.freshCode (h : MemInv s) : MemInv (s.freshCode n) := .ite h h.putStable

theorem MemInv.execAdmissionGranted (h : MemInv s) : (Machine.execAdmissionGranted n s).Keeps MemInv := by
  unfold Machine.execAdmissionGranted
  split
  · exact h
  split
  · exact h
  next j _ =>
    refine h.whenRuns (.ite h ?_)
    have hi := h.readImage (v := unitWho (j.stable / 48) j.ctx j.pgroot) (image := j.image) (vcode := j.vcode) (xd := j.xdecl)
      (vd := j.vdecl) (kd := j.kdecl) (zd := j.zdecl)
    dsimp only
    split
    next eq => exact h.keepAttempt
    next eq => exact MemInv.dropJob (MemInv.badImageReport (hi.stop eq))
    next eq => exact MemInv.setPending (MemInv.foldl (MemInv.freshCode (hi.ok eq)) fun _ _ h => h.onHartId)

theorem MemInv.execHartHaltComplete (h : MemInv s) : (Machine.execHartHaltComplete n s).Keeps MemInv := by
  refine .ite h ?_
  split
  · exact h
  split
  · exact h
  split
  · exact h
  next j eq =>
    refine h.whenRuns (.ite h ?_)
    extract_lets ms k t
    have hk : k.pad.wf = true := by rw [Job.pad_leave, h.jobAt eq]
    have ht : MemInv t := (h.putJob hk).retarget.boundary
    exact MemInv.ite ht.push ht

theorem MemInv.storeRegs (h : MemInv s) {base size : Nat} {val : Nat → Nat} {l : List (Nat × Nat)} :
    (s.storeRegs v base size val l).Keeps MemInv := by
  induction l generalizing s with
  | nil => exact h
  | cons p l ih => exact h.storeBytes.bind fun _ _ h => ih h

theorem MemInv.spillHart (h : MemInv s) {base : Nat} {g : Hart} : (s.spillHart v j base g).Keeps MemInv :=
  h.storeRegs.bind fun _ _ h => h.storeRegs.bind fun _ _ h => h.storeRegs.bind fun _ _ h => h.storeRegs

theorem MemInv.spillAll (h : MemInv s) {size : Nat} {l : List Member} : (s.spillAll v j size l).Keeps MemInv := by
  induction l generalizing s with
  | nil => exact h
  | cons m l ih => exact .ite (ih h) (h.spillHart.bind fun _ _ h => ih h)

theorem MemInv.execJobComplete (h : MemInv s) : (Machine.execJobComplete n s).Keeps MemInv := by
  unfold Machine.execJobComplete
  split
  · exact h
  next k _ =>
    refine h.whenRuns (.ite h ?_)
    extract_lets w fin
    have hfin (ok : Bool) (t : State) (h : MemInv t) : MemInv (fin ok t) := by
      refine MemInv.retryPending (MemInv.dropJob ?_)
      cases k.node with
      | none => exact h
      | some p => exact h.endNode
    have hs {size : Nat} := (h.spillAll (v := w) (j := k) (size := size) (l := k.members)).bind fun _ _ h =>
      h.signal (v := w) (x := k.sigaddr) (b := k.sigval)
    split
    split
    next eq => exact hfin _ _ (hs.ok eq)
    next eq => exact h.keepAttempt
    next eq => exact hfin _ _ (MemInv.record10 (hs.stop eq))

theorem MemInv.endHart (h : MemInv s) {id : Nat} : MemInv (s.endHart id) := by
  unfold State.endHart
  exact MemInv.focusOn (.ite (MemInv.onHart (.ite h.focusOn.settle.dropRecursion h.focusOn.settle.saveRecursion)) h.focusOn)

theorem MemInv.execJobEndByRecovery (h : MemInv s) : (Machine.execJobEndByRecovery n s).Keeps MemInv := by
  unfold Machine.execJobEndByRecovery
  split
  · exact h
  next k _ =>
    refine h.whenRuns ?_
    extract_lets ids s1 busy r t1 t2 t3 t4 s2 w fin
    have h1 : MemInv s1 := h.foldl fun _ _ h => h.endHart
    refine .ite h1.drainHarts.push ?_
    have h2 : MemInv t2 := h1.logAll.foldl fun _ _ h => h.freeHart
    have h3 : MemInv t3 := h2.putJob rfl
    have hs2 : MemInv s2 := .ite h1 h3.setPending.retireClusters.retarget.dealFree
    have hfin (t : State) (h : MemInv t) : MemInv (fin t) := by
      have hd : MemInv { t with jobs := dropBy (fun q : Job => q.gang == n) t.jobs } := h.withJobs (all_dropBy h.jobs) rfl
      refine MemInv.retryPending ?_
      split
      · exact hd.endNode
      · exact hd
    have hs := hs2.signal (v := w) (x := k.sigaddr) (b := k.sigval)
    split
    next eq => exact hfin _ (hs.ok eq)
    next eq => exact hs2.keepAttempt
    next eq => exact hfin _ (MemInv.record10 (hs.stop eq))

end

section
variable {s t : State} {die line n : Nat} {q : LineReq}

/-! ## Directories, homes and the host (R315 to R324) -/

theorem MemInv.leaveCache (h : MemInv s) {agent : Nat} : MemInv (s.leaveCache die agent line) := h.setCoh
theorem MemInv.recallDie (h : MemInv s) : MemInv (s.recallDie die line) := h.setCoh
theorem MemInv.leaveU (h : MemInv s) : MemInv (s.leaveU line).2 := h.evictU

theorem MemInv.seat (h : MemInv s) {agent : Option Nat} {st : LineState} : MemInv (s.seat die agent line st) := by
  unfold State.seat
  extract_lets s1 c s2
  have h2 : MemInv s2 := MemInv.same (s := s1) h.makeWay rfl
  split
  · exact h2
  · exact (MemInv.makeWay h2).setCoh

theorem MemInv.dirSettle (h : MemInv s) : MemInv (s.dirSettle die line) := by
  unfold State.dirSettle
  extract_lets e
  split
  · exact h
  · exact .ite h h.putDir.seat.push

theorem MemInv.notePerm (h : MemInv s) {e : HomeEntry} : MemInv (s.notePerm q e) := h.putDir
theorem MemInv.openU (h : MemInv s) {op : Nat} : MemInv (s.openU line op) := .ite h (h.same rfl)

theorem MemInv.hostAccess (h : MemInv s) {port addr : Nat} {write : Bool} {value : Word} : MemInv (s.hostAccess port addr write value) := by
  unfold State.hostAccess
  split
  · exact h.contain
  · exact .ite h.physWrite h.physRead.putPort

theorem MemInv.hostDone (h : MemInv s) {port : Nat} : MemInv (s.hostDone port) := h.portAgain

theorem MemInv.hostPerform (h : MemInv s) {port : Nat} : MemInv (s.hostPerform port) := by
  unfold State.hostPerform
  split
  · exact h.hostAccess.hostDone
  · exact h

theorem MemInv.dropRequest (h : MemInv s) : MemInv (s.dropRequest q) := .ite h h.hostDone

theorem MemInv.homeGrant (h : MemInv s) : MemInv (s.homeGrant q) := by
  unfold State.homeGrant
  extract_lets e e' c s1
  have h1 : MemInv s1 := h.same rfl
  exact .ite (MemInv.ite h1.putHome.openU h1.putHome).notePerm.seat.dirSettle h1.putHome.hostPerform.putHome

theorem MemInv.backInvalidate (h : MemInv s) : MemInv (s.backInvalidate line) := .ite h.leaveU h.leaveU.putHome

theorem MemInv.homeServe (h : MemInv s) : MemInv (s.homeServe q) := by
  have hl : MemInv (if (s.homeAt q.line).state = .u then s.leaveU q.line else (true, s)).2 := .snd_ite h.leaveU h
  exact .ite h.homeGrant (.ite hl.dropRequest (.ite hl.putHome.homeGrant hl.putHome))

theorem MemInv.homeRequest (h : MemInv s) : MemInv (s.homeRequest q) := by
  refine .ite h.dropRequest ?_
  split
  · exact h.putHome
  split
  · exact h.homeServe
  · exact .ite (MemInv.ite h h.backInvalidate).putHome (MemInv.ite h h.backInvalidate).homeServe

theorem MemInv.homeSettle (h : MemInv s) : MemInv (s.homeSettle line) := by
  unfold State.homeSettle
  extract_lets e
  split
  · exact h
  next g _ =>
    have hl : MemInv (if e.state = .u ∧ g.req.kind ≠ e.op + 2 then (s.putHome { e with ask := none, rest := [] }).leaveU line
        else (true, s.putHome { e with ask := none, rest := [] })).2 := .snd_ite h.putHome.leaveU h.putHome
    exact .ite h (MemInv.foldl (.ite h.putHome (.ite hl.homeGrant hl.dropRequest)) fun _ _ h => h.homeRequest)

theorem MemInv.askAgain (h : MemInv s) : MemInv (s.askAgain die line) := by
  unfold State.askAgain
  extract_lets e
  split
  · exact .ite h h.homeRequest
  · exact h

theorem MemInv.recallSettle (h : MemInv s) : MemInv (s.recallSettle die line) := by
  unfold State.recallSettle
  split
  · exact h
  refine .ite h (MemInv.askAgain ?_)
  dsimp only
  split
  · exact .ite h.recallDie.putDir h.recallDie.putDir.putHome.homeSettle
  · exact h.recallDie.putDir

theorem MemInv.startRecall (h : MemInv s) {kind : Nat} : MemInv (s.startRecall die line kind) := .ite h h.putDir.recallSettle

theorem MemInv.dirRequest (h : MemInv s) : MemInv (s.dirRequest die q) := by
  refine .ite h (.ite h.putDir ?_)
  have hl : MemInv (if (s.dirAt die q.line).st = 4 ∧ q.kind ≠ (s.dirAt die q.line).op + 2 then s.leaveU q.line else (true, s)).2 :=
    .snd_ite h.leaveU h
  refine .ite hl ?_
  dsimp only
  split
  · exact .ite hl.putDir.askAgain.dirSettle hl.putDir.askAgain.putDir
  · exact hl.putDir.askAgain

theorem MemInv.onAgent (h : MemInv s) {agent : Nat} (ht : MemInv t) : (s.onAgent die agent line t).Keeps MemInv := h.unless ht

theorem MemInv.execDirectoryReadRequest (h : MemInv s) {agent : Nat} : (Machine.execDirectoryReadRequest die agent line s).Keeps MemInv :=
  h.onAgent (.ite h.homeRequest h.dirRequest)

theorem MemInv.execDirectoryWriteRequest (h : MemInv s) {agent : Nat} : (Machine.execDirectoryWriteRequest die agent line s).Keeps MemInv :=
  h.onAgent (.ite h.homeRequest h.dirRequest)

theorem MemInv.execURequest (h : MemInv s) {agent op : Nat} : (Machine.execURequest die agent line op s).Keeps MemInv :=
  .ite h (h.onAgent (.ite h.homeRequest h.dirRequest))

theorem MemInv.execInvalidation (h : MemInv s) {agent : Nat} : (Machine.execInvalidation die agent line s).Keeps MemInv := by
  refine h.onAgent (.ite ?_ (.ite h.putDir.leaveCache h))
  split
  · exact .ite h.startRecall h
  · exact h

theorem MemInv.execInvalidationAck (h : MemInv s) {agent : Nat} : (Machine.execInvalidationAck die agent line s).Keeps MemInv :=
  h.onAgent (.ite h.putHome.homeSettle h.putDir.recallSettle.dirSettle.askAgain)

theorem MemInv.dieEvicts (h : MemInv s) : MemInv (s.dieEvicts die line) := .ite h.recallDie h.recallDie.putHome.homeSettle

theorem MemInv.agentEvicts (h : MemInv s) {agent : Nat} : MemInv (s.agentEvicts die agent line) :=
  .ite h.leaveCache h.setCoh.putDir.dirSettle

theorem MemInv.execEvictionNotice (h : MemInv s) {agent : Nat} : (Machine.execEvictionNotice die agent line s).Keeps MemInv := by
  have hl : MemInv (if s.heldInU die agent line then s.leaveU line else (true, s)).2 := .snd_ite h.leaveU h
  exact h.onAgent (.ite h (.ite hl (.ite hl.dieEvicts hl.agentEvicts)))

theorem MemInv.snooped (h : MemInv s) : MemInv (s.snooped die line) := h.setCoh.putDir.putHome

theorem MemInv.execForwardSnoop (h : MemInv s) {agent : Nat} : (Machine.execForwardSnoop die agent line s).Keeps MemInv := by
  refine h.onAgent (.ite ?_ ?_)
  · dsimp only
    split
    · exact .ite h (.ite h.snooped.homeSettle.askAgain (.ite h.startRecall h))
    · exact h
  · split
    · exact .ite h h.setCoh.putDir.dirSettle
    · exact h

theorem MemInv.execWriteBack (h : MemInv s) {agent : Nat} : (Machine.execWriteBack die agent line s).Keeps MemInv :=
  h.onAgent (.ite (.ite h h.dieEvicts) (.ite h.agentEvicts h))

theorem MemInv.execBackInvalidation (h : MemInv s) : (Machine.execBackInvalidation line s).Keeps MemInv := MemInv.ite h h.backInvalidate

theorem MemInv.portGone (h : MemInv s) {port : Nat} : MemInv (s.portGone port line) := h.putHome.homeSettle

theorem MemInv.portAnswered (h : MemInv s) {port : Nat} : MemInv (s.portAnswered port line) := by
  unfold State.portAnswered
  extract_lets e
  split
  · exact .ite h.portGone (.ite h.putHome.homeSettle h)
  · exact h.portGone

theorem MemInv.execBisnpResponse (h : MemInv s) {port : Nat} : (Machine.execBisnpResponse port line s).Keeps MemInv := .ite h h.portAnswered

theorem MemInv.execHostSnoop (h : MemInv s) {port : Nat} : (Machine.execHostSnoop port line s).Keeps MemInv := .ite h h.setCoh

theorem MemInv.execHostCxlRequest (h : MemInv s) {port addr : Nat} {write : Bool} {value : Word} :
    (Machine.execHostCxlRequest port write addr value s).Keeps MemInv := by
  have hd : MemInv (s.putDie ((s.dieAt (homeDie (addr / 128))).record (addr / 128) port write)) := h.putDieOf rfl
  exact .ite h (.ite h (.ite (MemInv.ite h.logPort h.putPort) (.ite h.putPort (.ite hd.hostAccess h.putPort.homeRequest))))

theorem MemInv.execMergeRequest (h : MemInv s) : (Machine.execMergeRequest line s).Keeps MemInv := by
  unfold Machine.execMergeRequest
  split
  · exact h
  split
  · exact h
  · exact MemInv.same h rfl

theorem MemInv.setULines (h : MemInv s) {l : List ULine} : MemInv { s with ulines := l } := h.same rfl

theorem MemInv.execMergeResponse (h : MemInv s) : (Machine.execMergeResponse line s).Keeps MemInv := by
  unfold Machine.execMergeResponse
  split
  · exact h
  · exact .ite h (MemInv.ite h.setULines h.leaveU)

/-! ## Page migration and dies in reset (R324 to R327) -/

theorem MemInv.answerAll (h : MemInv s) {g : Grant} : MemInv (s.answerAll line g) :=
  (h.foldl fun _ _ h => .ite h (.ite h.recallDie h.snooped)).putHome.homeSettle

theorem MemInv.finishLine (h : MemInv s) : MemInv (s.finishLine line n) := by
  induction n generalizing s with
  | zero => exact h
  | succ n ih =>
    unfold State.finishLine
    split
    · exact h
    split
    · exact h
    · exact ih h.answerAll

theorem MemInv.recallAll (h : MemInv s) : MemInv (s.recallAll line) := (h.foldl fun _ _ h => h.recallDie.putDir).putHome

theorem MemInv.copyFailing (h : MemInv s) {src dst : Nat} : MemInv (s.copyFailing src dst n) := h.same rfl

theorem MemInv.moveLine (h : MemInv s) {src dst : Nat} : MemInv (s.moveLine die src dst) :=
  h.finishLine.leaveU.recallAll.recallAll.setULines.physWrite.copyFailing

theorem MemInv.setMovedPages (h : MemInv s) {l : List Nat} : MemInv { s with movedPages := l } := h.same rfl

theorem MemInv.execMigrationGo (h : MemInv s) : (Machine.execMigrationGo die s).Keeps MemInv := by
  unfold Machine.execMigrationGo
  extract_lets pad src dst flags stuck t
  have hf (s : State) (v : Nat) (h : MemInv s) : MemInv (flags s v) := h.putDie (Memory.wf_writeN h.dieAt)
  have ht : MemInv t := h.foldl fun _ _ h => h.moveLine
  clear_value pad src dst flags stuck t
  exact .ite h (.ite (hf _ _ h) (.ite (hf _ _ (h.foldl fun _ _ h => h.leaveU)) (hf _ _ ht.setMovedPages)))

theorem MemInv.execMigrationRetire (h : MemInv s) : (Machine.execMigrationRetire die s).Keeps MemInv := .ite h h.setMovedPages
theorem MemInv.execMovedResponse (h : MemInv s) : (Machine.execMovedResponse n line s).Keeps MemInv := .ite h h.onHartId

theorem MemInv.execDieResetRecall (h : MemInv s) : (Machine.execDieResetRecall die s).Keeps MemInv := by
  refine .ite h ?_
  extract_lets homed s1 s2 s3 s4 c d t1 t2 t3
  have h1 : MemInv s1 := h.foldl fun _ _ h => h.leaveU
  have h3 : MemInv s3 := h1.setULines.foldl fun _ _ h => h.dropJob
  have ht1 : MemInv t1 := h3.putHart.putDie rfl
  have ht2 : MemInv t2 := MemInv.same ht1 rfl
  have ht3 : MemInv t3 := ht2.foldl fun _ _ h => h.homeSettle
  exact MemInv.foldl ht3 fun _ _ h => .ite h.portAgain h

theorem MemInv.loadCopy (h : MemInv s) {c : Nat × Nat × Bool} : MemInv (s.loadCopy c) := by
  unfold State.loadCopy
  extract_lets s1 e k f c s2
  have h2 : MemInv s2 := MemInv.same (s := s1) h.filterRoom rfl
  exact h2.putHome

theorem MemInv.execDieReturn (h : MemInv s) : (Machine.execDieReturn die s).Keeps MemInv := by
  unfold Machine.execDieReturn
  extract_lets d waits t d'
  have ht : MemInv t := h.foldl fun _ _ h => h.loadCopy
  have hd : MemInv (t.putDie { d' with run := .running, table := [] }) := ht.putDieOf (n := die) rfl
  exact .ite h (MemInv.ite hd.push h)

end

section
variable {s t : State} {port off n : Nat} {value : Word}

/-! ## Host ports, wake and SEAL windows (R41 to R46, R366 to R368, R371) -/

theorem MemInv.ignored (h : MemInv s) : MemInv (s.ignored port off) := h.logPort
theorem MemInv.onPort (h : MemInv s) (ht : MemInv t) : (s.onPort port t).Keeps MemInv := h.unless ht

theorem MemInv.owned (h : MemInv s) {f : State → State} (hf : ∀ s, MemInv s → MemInv (f s)) : MemInv (s.owned port off f) :=
  .ite (hf _ h) h.ignored

theorem MemInv.statusChanged (h : MemInv s) : MemInv s.statusChanged := h.putPort.putPort

theorem MemInv.execHsemRead (h : MemInv s) : (Machine.execHsemRead port s).Keeps MemInv := h.onPort (h.same rfl)

theorem MemInv.setHsem (h : MemInv s) : MemInv { s with hsem := n } := h.same rfl

theorem MemInv.execHsemRelease (h : MemInv s) : (Machine.execHsemRelease port s).Keeps MemInv := h.onPort (.ite h.setHsem h)

theorem MemInv.writeFuncmode (h : MemInv s) : MemInv (s.writeFuncmode value) := .ite h (h.same rfl)

theorem MemInv.execFuncmodeWrite (h : MemInv s) : (Machine.execFuncmodeWrite port value s).Keeps MemInv :=
  h.onPort (h.owned fun _ h => h.writeFuncmode)

theorem MemInv.execCtrlModelock (h : MemInv s) : (Machine.execCtrlModelock port s).Keeps MemInv := h.onPort (h.owned fun _ h => h.same rfl)
theorem MemInv.execCtrlCfglock (h : MemInv s) : (Machine.execCtrlCfglock port s).Keeps MemInv := h.onPort (h.owned fun _ h => h.same rfl)
theorem MemInv.execCtrlWinlock (h : MemInv s) : (Machine.execCtrlWinlock port s).Keeps MemInv := h.onPort (h.owned fun _ h => h.same rfl)

theorem MemInv.wakeDiscarded (h : MemInv s) {c : Stop} {tail : Nat} : MemInv (s.wakeDiscarded port c tail) := h.logPort

theorem MemInv.windowWake (h : MemInv s) : MemInv (s.windowWake port).2 := by
  unfold State.windowWake
  extract_lets p d tail c w
  split
  · exact h.wakeDiscarded
  have hr := h.ringWake (w := { w with service := false }) (c := c) (n := tail)
  split <;> dsimp only
  next eq => exact hr.ok eq
  next eq => exact h.keepAttempt.wakeDiscarded
  next eq => exact h.keepAttempt

theorem MemInv.execWakeWindowWrite (h : MemInv s) : (Machine.execWakeWindowWrite port off value s).Keeps MemInv := by
  have ht : MemInv (if off ≤ 0x20 then s.putPort { s.portAt port with wake := putBytes (s.portAt port).wake off value.toNat } else s) :=
    .ite h.putPort h
  have hw := ht.windowWake (port := port)
  refine h.unless (.ite h.putPort (.ite ht ?_))
  dsimp only
  split
  next eq => rw [eq] at hw; exact hw
  next eq => rw [eq] at hw; exact MemInv.putPort hw

theorem MemInv.answerFault (h : MemInv s) {die hart record : Nat} {raise : Bool} : MemInv (s.answerFault die hart record raise) := by
  unfold State.answerFault
  extract_lets f d
  have hd : MemInv (s.putDie { d with offers := f d.offers }) := h.putDieOf (n := die) rfl
  exact .ite hd h.onHartId

theorem MemInv.retryUnits (h : MemInv s) {die : Nat} : MemInv (s.retryUnits die) := h.push.retryPending

theorem MemInv.execTranslationFaultReply (h : MemInv s) {die slot : Nat} : (Machine.execTranslationFaultReply die slot s).Keeps MemInv :=
  .ite h (.ite h (MemInv.ite (MemInv.ite h h.answerFault).retryUnits (MemInv.ite h h.answerFault)))

theorem MemInv.eventAnswered (h : MemInv s) {e : EventRec} {fail : Bool} : MemInv (s.eventAnswered e fail) := by
  refine .ite ?_ (.ite (.ite h.answerFault.retryUnits h.answerFault) h)
  split
  · exact h.endNode
  · exact h

theorem MemInv.execEventPost (h : MemInv s) : (Machine.execEventPost port s).Keeps MemInv := by
  unfold Machine.execEventPost
  extract_lets p
  refine h.onPort ?_
  split
  · exact h
  · exact .ite h.putPort h

theorem MemInv.writeEvack (h : MemInv s) : MemInv (s.writeEvack port value) := by
  unfold State.writeEvack
  extract_lets p
  split
  · exact h
  · exact .ite h (.ite h.putPort.eventAnswered h.putPort.eventAnswered.push)

theorem MemInv.execEvackWrite (h : MemInv s) : (Machine.execEvackWrite port value s).Keeps MemInv := h.onPort h.writeEvack

theorem MemInv.windowSeal (h : MemInv s) : MemInv (s.windowSeal port) := .ite h.ignored (.ite h.putPort h.putPort)

theorem MemInv.windowRevoke (h : MemInv s) : MemInv (s.windowRevoke port) := by
  refine .ite h.ignored ?_
  split
  · exact h.putPort
  · exact h.raiseFloor.putPort

theorem MemInv.execSealWindowSeal (h : MemInv s) : (Machine.execSealWindowSeal port s).Keeps MemInv := h.onPort h.windowSeal
theorem MemInv.execSealWindowRevoke (h : MemInv s) : (Machine.execSealWindowRevoke port s).Keeps MemInv := h.onPort h.windowRevoke

theorem MemInv.withdraw (h : MemInv s) {who : Nat} : MemInv (s.withdraw who) := by
  unfold State.withdraw
  extract_lets c t served
  have ht : MemInv t := h.same rfl
  exact ht.foldl fun _ _ h => h.putHome.foldl fun _ _ h => h.homeRequest

theorem MemInv.linkDrop (h : MemInv s) : MemInv (s.linkDrop port) := by
  unfold State.linkDrop
  extract_lets p t1 t2 c t3
  have h1 : MemInv t1 := h.putPort.withdraw
  have h2 : MemInv t2 := MemInv.same h1 rfl
  have h3 : MemInv t3 := MemInv.same h2 rfl
  exact (h3.foldl fun _ _ h => h.portGone).portAgain

theorem MemInv.execHostLinkDown (h : MemInv s) : (Machine.execHostLinkDown port s).Keeps MemInv := h.onPort h.linkDrop
theorem MemInv.execIoDomainPowerLoss (h : MemInv s) : (Machine.execIoDomainPowerLoss port s).Keeps MemInv :=
  h.onPort h.putPort.linkDrop.putPort

/-! ## Bring-up, reset and power (R18, R47 to R49, R324) -/

/-- The dies of cold reset hold empty scratchpads (R35). -/
theorem pads_reset : State.reset.dies.all (fun d => d.pad.wf) = true := rfl

theorem MemInv.reset : MemInv State.reset := ⟨rfl, pads_reset, rfl, rfl, rfl, rfl⟩

theorem MemInv.afterPower (h : MemInv s) (ht : MemInv t) : MemInv (s.afterPower t) :=
  ⟨Memory.wf_clear h.mem, ht.pads, ht.jobs, ht.staging, ht.firmware, h.checkpts⟩

theorem MemInv.execPowerGood (h : MemInv s) : (Machine.execPowerGood s).Keeps MemInv := MemInv.same (h.afterPower .reset) rfl

theorem MemInv.execPowerLoss (h : MemInv s) : (Machine.execPowerLoss s).Keeps MemInv := by
  have hp := h.afterPower .reset
  exact MemInv.withDies hp (hp.pads_map fun _ => rfl) rfl

theorem MemInv.warmReset (h : MemInv s) : MemInv s.warmReset := by
  unfold State.warmReset
  extract_lets m c t
  have hm : MemInv m := h.foldl fun _ _ h => h.evictU
  have hd : t.dies.all (fun d => d.pad.wf) = true := by
    dsimp only [t]
    refine MemInv.reset.pads_map fun d => ?_
    split <;> rfl
  have ht : MemInv t := ⟨hm.mem, hd, rfl, hm.staging, hm.firmware, hm.checkpts⟩
  exact ht.portAgain.portAgain

theorem MemInv.execCtrlWreset (h : MemInv s) : (Machine.execCtrlWreset port s).Keeps MemInv :=
  h.onPort (h.owned fun _ h => MemInv.same h.warmReset rfl)

theorem MemInv.execCtrlBootretry (h : MemInv s) : (Machine.execCtrlBootretry port s).Keeps MemInv :=
  h.onPort (h.owned fun _ h => .ite (MemInv.statusChanged ⟨h.mem, h.pads, h.jobs, h.staging, h.staging, h.checkpts⟩) h)

theorem MemInv.bootFails (h : MemInv s) : MemInv (s.bootFails n) := MemInv.statusChanged (MemInv.same h rfl)

theorem MemInv.diesReturn (h : MemInv s) : MemInv s.diesReturn := by
  unfold State.diesReturn
  extract_lets back t
  have ht : MemInv t := h.foldl fun _ _ h => h.foldl fun _ _ h => h.loadCopy
  exact ht.withDies (ht.pads_map fun d => by split <;> rfl) rfl

theorem MemInv.execBringupStageComplete (h : MemInv s) : (Machine.execBringupStageComplete n s).Keeps MemInv := by
  refine .ite h (.ite h.bootFails ?_)
  split
  · exact h.same rfl
  · exact h.same rfl
  · exact h.same rfl
  · exact MemInv.ite (MemInv.statusChanged (h.same rfl)) (h.same rfl)
  · have hd := h.diesReturn
    exact MemInv.ite (MemInv.same hd rfl) (MemInv.statusChanged (MemInv.same hd rfl))
  · exact h.same rfl

theorem MemInv.execBackgroundInitRegion (h : MemInv s) : (Machine.execBackgroundInitRegion s).Keeps MemInv := by
  unfold Machine.execBackgroundInitRegion
  extract_lets r was t
  refine .ite h ?_
  have ht : MemInv t := h.withMem (wf_ite h.mem (Memory.wf_clear h.mem)) rfl
  exact MemInv.ite (MemInv.statusChanged (MemInv.same ht rfl)) ht

/-! ## Registers and host accesses (R39, R43, R46 to R48, R366 to R371) -/

theorem MemInv.writeWindow (h : MemInv s) : MemInv (s.writeWindow off value) := .ite h (h.same rfl)

theorem MemInv.writeCtrl (h : MemInv s) : MemInv (Machine.writeCtrl port value s) := by
  unfold Machine.writeCtrl
  extract_lets s1 s2 s3
  have h1 : MemInv s1 := .ite (h.same rfl) h
  have h2 : MemInv s2 := .ite (MemInv.same h1 rfl) h1
  have h3 : MemInv s3 := .ite (MemInv.same h2 rfl) h2
  exact h3.push

theorem MemInv.writeLaunch (h : MemInv s) : MemInv (s.writeLaunch port off value) := .ite h.ignored (.ite (.ite h.push h) h.putPort)

theorem MemInv.writeSeal (h : MemInv s) : MemInv (s.writeSeal port off value) :=
  .ite h.ignored (.ite (.ite h.push (.ite h.push h)) (.ite h.putPort (.ite h.putPort h)))

theorem MemInv.writeConfig (h : MemInv s) {groom : Bool} : MemInv (s.writeConfig off value groom) :=
  .ite (h.same rfl) (.ite (.ite (h.same rfl) h) (.ite (h.same rfl) (.ite (h.same rfl)
    (.ite (.ite (h.same rfl) (.ite h (h.same rfl))) (.ite (h.same rfl) h)))))

theorem MemInv.execRegisterWrite (h : MemInv s) : (Machine.execRegisterWrite port off value s).Keeps MemInv :=
  h.unless (.ite h (.ite (.ite h (.ite h.logAll h.writeConfig)) (.ite (.ite h.setHsem h)
    (.ite (h.owned fun _ h => h.writeFuncmode) (.ite (h.owned fun _ h => h.writeCtrl) (.ite h.push (.ite h.writeEvack
      (.ite h.writeLaunch (.ite h.writeSeal (.ite (.ite h.putPort h) (.ite h.putPort (.ite h.putPort
        (.ite (h.owned fun _ h => h.writeWindow) h.writeConfig)))))))))))))

theorem MemInv.execBar2Access (h : MemInv s) {write : Bool} {addr : Nat} : (Machine.execBar2Access port write addr value s).Keeps MemInv := by
  have hw : MemInv { s with staging := s.staging.writeN addr 8 value.toNat } :=
    ⟨h.mem, h.pads, h.jobs, Memory.wf_writeN h.staging, h.firmware, h.checkpts⟩
  exact h.unless (.ite (.ite (.ite hw h.putPort) (.ite h.ignored h.putPort)) (.ite (.ite h h.putPort) (.ite h h.hostAccess)))

theorem MemInv.execSpdmRequest (h : MemInv s) : (Machine.execSpdmRequest port n s).Keeps MemInv := h.onPort (h.same rfl)

end

section
variable {s t : State} {die n i : Nat}

/-! ## Steps about a hart: traps, leases, lanes, engines, timers (R56, R58, R125, R213, R232, R343, R356) -/

theorem MemInv.onFocus (h : MemInv s) {f : State → State} (hf : ∀ s, MemInv s → MemInv (f s)) : MemInv (s.onFocus n f) := by
  unfold State.onFocus
  split
  · exact h
  · exact .ite (hf _ h.focusOn).focusOn h

theorem MemInv.onHartStep (h : MemInv s) {f : State → State} (hf : ∀ s, MemInv s → MemInv (f s)) :
    (Machine.onHartStep n s f).Keeps MemInv :=
  h.unless (h.onFocus hf)

theorem MemInv.takeAsync (h : MemInv s) (e : s.takeAsync = some t) : MemInv t := by
  unfold State.takeAsync at e
  split at e
  · contradiction
  split at e
  · cases e; exact h.onHart.takeTrap
  split at e
  · cases e; exact h.resumeTransfers.drainWork
  · contradiction

theorem MemInv.takeReady (h : MemInv s) (e : s.takeReady = some t) : MemInv t := by
  unfold State.takeReady at e
  split at e
  · cases e; exact h.takeTrap
  · split at e
    · cases e; exact h.onHart.takeTrap
    · exact h.takeAsync e
  · exact h.takeAsync e

theorem MemInv.execTrapTake (h : MemInv s) : (Machine.execTrapTake n s).Keeps MemInv := by
  refine h.onHartStep fun s h => .ite ?_ h
  cases e : s.takeReady with
  | none => exact h
  | some t => exact h.takeReady e

theorem MemInv.preemptWrite (h : MemInv s) {value : Word} {host : Bool} : MemInv (s.preemptWrite die value host) := by
  unfold State.preemptWrite
  extract_lets id
  split
  · exact h.logAll
  · exact .ite h.logAll (.ite h h.putHart)

theorem MemInv.execPreemptTimer (h : MemInv s) {value : Word} : (Machine.execPreemptTimer die value s).Keeps MemInv :=
  .ite h (h.whenRuns h.preemptWrite)

theorem MemInv.execPreemptHost (h : MemInv s) {value : Word} : (Machine.execPreemptHost die value s).Keeps MemInv :=
  .ite h (h.whenRuns h.preemptWrite)

theorem MemInv.setWatchdog (h : MemInv s) {b : Bool} : MemInv (s.putDie { s.dieAt die with watchdog := b }) := h.putDieOf (n := die) rfl

theorem MemInv.execWatchdogWrite (h : MemInv s) : (Machine.execWatchdogWrite die s).Keeps MemInv := .ite h (h.whenRuns h.setWatchdog)

theorem MemInv.execWatchdogExpiry (h : MemInv s) : (Machine.execWatchdogExpiry die s).Keeps MemInv :=
  .ite h (.ite h (.ite h.setWatchdog h.putHart.logAll.recoveryEvent))

theorem MemInv.onArbiter (h : MemInv s) {f : Hart → State} (hf : ∀ x, MemInv (f x)) : (Machine.onArbiter n s f).Keeps MemInv := by
  refine .ite h ?_
  split
  · exact h
  · exact h.whenRuns (hf _)

theorem MemInv.execStripBoundaryGrantChange (h : MemInv s) : (Machine.execStripBoundaryGrantChange n s).Keeps MemInv :=
  h.onArbiter fun _ => h.boundary

theorem MemInv.execForcedBoundary (h : MemInv s) : (Machine.execForcedBoundary n s).Keeps MemInv :=
  h.onArbiter fun _ => .ite h h.putHart.boundary

theorem MemInv.execLeaseStallPreempt (h : MemInv s) : (Machine.execLeaseStallPreempt n s).Keeps MemInv :=
  h.onArbiter fun _ => .ite h.putHart h

theorem MemInv.execClusterRetire (h : MemInv s) {stable cluster : Nat} : (Machine.execClusterRetire die stable cluster s).Keeps MemInv :=
  .ite h (h.whenRuns (.ite h.setRetired.retarget h))

theorem MemInv.execVectorEntryComplete (h : MemInv s) : (Machine.execVectorEntryComplete n s).Keeps MemInv :=
  h.onHartStep fun _ h => h.laneStep

theorem MemInv.execReadQueueReturn (h : MemInv s) : (Machine.execReadQueueReturn n s).Keeps MemInv := by
  refine h.onHartStep fun s h => ?_
  split
  · exact .ite h.laneStep h
  · exact h

theorem MemInv.execBlockGroupCommit (h : MemInv s) : (Machine.execBlockGroupCommit n s).Keeps MemInv := by
  refine h.onHartStep fun s h => ?_
  split
  · split
    case h_5 => exact h
    all_goals exact h.lanes
  · exact h

theorem MemInv.execStripAssign (h : MemInv s) : (Machine.execStripAssign n s).Keeps MemInv := by
  refine h.onHartStep fun s h => ?_
  split
  · exact .ite h.lanes h
  · exact h

theorem MemInv.execRecursionPassComplete (h : MemInv s) : (Machine.execRecursionPassComplete n s).Keeps MemInv := by
  refine h.onHartStep fun s h => ?_
  split
  · exact .ite h.laneStep h
  · exact h

theorem MemInv.chunkOf (h : MemInv s) : MemInv (s.chunkOf i) := .ite h.bridleChunk h

theorem MemInv.chunksOf (h : MemInv s) : MemInv (s.chunksOf i n) := by
  induction n generalizing s with
  | zero => exact h
  | succ n ih => exact .ite (.ite (ih h.bridleChunk) h.bridleChunk) h

theorem MemInv.onEngine (h : MemInv s) {f : State → State} {g : Nat → State} (hf : ∀ s, MemInv s → MemInv (f s))
    (hg : ∀ d, MemInv (g d)) :
    (Machine.onEngine n s f g).Keeps MemInv := .ite (MemInv.ite (hg _) h) (h.onHartStep hf)

theorem MemInv.execEngineTransferStart (h : MemInv s) : (Machine.execEngineTransferStart n i s).Keeps MemInv := by
  refine h.onEngine (fun s h => ?_) fun d => ?_
  · split
    · exact .ite h.onHart h
    · exact h
  · dsimp only
    split
    · exact h.setCopies
    · exact h

theorem MemInv.execEngineChunkComplete (h : MemInv s) : (Machine.execEngineChunkComplete n i s).Keeps MemInv :=
  h.onEngine (fun _ h => h.chunkOf) fun _ => h.copyNodeChunk

theorem MemInv.execEngineTransferComplete (h : MemInv s) : (Machine.execEngineTransferComplete n i s).Keeps MemInv := by
  refine h.onEngine (fun s h => ?_) fun d => ?_
  · split
    · exact h.chunksOf
    · exact h
  · split
    · exact h.copyNodeAll
    · exact h

theorem MemInv.execMdrainTransferComplete (h : MemInv s) : (Machine.execMdrainTransferComplete n i s).Keeps MemInv := by
  refine h.onHartStep fun s h => ?_
  split
  · split
    · exact h.chunkOf
    · exact h
  · exact h

theorem MemInv.onTimer (h : MemInv s) {f : Hart → Hart} : (Machine.onTimer n s f).Keeps MemInv := by
  refine .ite h ?_
  split
  · exact h
  · exact h.whenRuns h.putHart

theorem MemInv.execWfeTimeout (h : MemInv s) : (Machine.execWfeTimeout n s).Keeps MemInv := h.onTimer
theorem MemInv.execWaitmTimeout (h : MemInv s) : (Machine.execWaitmTimeout n s).Keeps MemInv := h.onTimer

theorem MemInv.execCycleCountAdvance (h : MemInv s) {stable : Nat} : (Machine.execCycleCountAdvance die stable n s).Keeps MemInv :=
  .ite h (h.whenRuns h.putStable)

/-! ## Errors, Burzer and recovery, shutdown (R364 to R366, R369, R370, R372) -/

theorem MemInv.execMemoryScrub (h : MemInv s) : (Machine.execMemoryScrub n s).Keeps MemInv := by
  refine .ite h (h.whenRuns ?_)
  exact MemInv.foldl h fun _ _ h => h.contain

theorem MemInv.countError (h : MemInv s) {counter : Nat} : MemInv (s.countError die counter) := by
  unfold State.countError
  extract_lets one
  have h1 (s : State) (port : Nat) (h : MemInv s) : MemInv (one s port) := .ite h.putPort.logAll.onHartId h.putPort
  exact h1 _ _ (h1 _ _ h)

theorem MemInv.execCorrectedError (h : MemInv s) {counter : Nat} : (Machine.execCorrectedError die counter s).Keeps MemInv :=
  .ite h h.countError

theorem MemInv.execBurzerCrcReplay (h : MemInv s) : (Machine.execBurzerCrcReplay n s).Keeps MemInv := by
  have hc := h.countError (die := linkDie n) (counter := 2)
  exact .ite h (.ite h (MemInv.ite (MemInv.same hc rfl) (MemInv.same hc rfl)))

theorem MemInv.execBurzerHeartbeat (h : MemInv s) : (Machine.execBurzerHeartbeat n s).Keeps MemInv := h.unless h

theorem MemInv.setLinks (h : MemInv s) {failed down : List Nat} : MemInv { s with failedDev := failed, linkDown := down } := h.same rfl

theorem MemInv.execPeerSilenceTimeout (h : MemInv s) : (Machine.execPeerSilenceTimeout n s).Keeps MemInv := .ite h (.ite h h.setLinks.logAll)

theorem MemInv.execSpareAssign (h : MemInv s) : (Machine.execSpareAssign n s).Keeps MemInv := by
  refine .ite h ?_
  exact MemInv.same h rfl

theorem MemInv.execCheckpointWrite (h : MemInv s) : (Machine.execCheckpointWrite s).Keeps MemInv := by
  unfold Machine.execCheckpointWrite
  extract_lets t rs c
  have ht : MemInv t := h.foldl fun _ _ h => h.evictU
  exact ⟨ht.mem, ht.pads, ht.jobs, ht.staging, ht.firmware, all_putBy ht.checkpts (Memory.wf_filter _ ht.mem)⟩

theorem MemInv.renew (h : MemInv s) {w : Who} {g : Graph} {k : Nat} : (s.renew w g k n).Keeps MemInv := by
  induction k generalizing s n with
  | zero => exact h
  | succ k ih => exact h.readNode.bind fun _ _ h => Res.Keeps.bind (.ite h h.setNode) fun _ _ h => (ih h).bind fun _ _ h => h

theorem MemInv.relaunch (h : MemInv s) {g : Graph} : MemInv (s.relaunch g) := by
  unfold State.relaunch
  split
  next eq => exact h.unitOf eq
  next eq =>
    have hr := (h.unitOf eq).renew (w := ‹Who›) (g := g) (k := g.count) (n := 0)
    split
    next eq => exact (hr.ok eq).putGraph.push
    next eq => exact (hr.stop eq).record10
    next eq => exact hr.wait eq

/-- Whatever bytes a checkpoint holds, its cells are written one by one, so that memory stays canonical (R370 step 5). -/
theorem MemInv.restore (h : MemInv s) {c : Checkpoint} : MemInv (s.restore c) := by
  unfold State.restore
  extract_lets line cleared coh t1 t2
  have h1 : MemInv t1 :=
    ⟨Memory.wf_foldl_write (Memory.wf_foldl_clear h.mem), h.pads_map fun _ => rfl, h.jobs, h.staging, h.firmware, h.checkpts⟩
  have h2 : MemInv t2 := h1.foldl fun _ _ h => h.touchRegion
  exact h2.foldl fun _ _ h => h.relaunch

theorem MemInv.execCheckpointRestore (h : MemInv s) : (Machine.execCheckpointRestore s).Keeps MemInv := by
  unfold Machine.execCheckpointRestore
  extract_lets buddy t
  have ht : MemInv t := h.same rfl
  refine .ite h ?_
  split
  · exact ht
  · exact MemInv.ite ht.restore ht

theorem MemInv.execInboundPeerAccess (h : MemInv s) {write : Bool} {addr : Nat × Nat} {value : Word} :
    (Machine.execInboundPeerAccess n write addr value s).Keeps MemInv := by
  unfold Machine.execInboundPeerAccess
  split
  extract_lets pa ok
  refine h.unless ?_
  split
  · exact h.contain
  · exact .ite h.physWrite h.physRead

theorem MemInv.shutdown (h : MemInv s) : MemInv (s.shutdown n) := by
  have hl := h.logAll (r := dieRecord 11 0 0 0 n)
  exact hl.withDies (hl.pads_map fun _ => rfl) rfl

theorem MemInv.execThermalShutdown (h : MemInv s) : (Machine.execThermalShutdown s).Keeps MemInv := h.shutdown
theorem MemInv.execCoolantLossShutdown (h : MemInv s) : (Machine.execCoolantLossShutdown s).Keeps MemInv := h.shutdown

theorem MemInv.execClockThrottle (h : MemInv s) {level : Nat} : (Machine.execClockThrottle die level s).Keeps MemInv := by
  have hd : MemInv (s.putDie { s.dieAt die with clock := min level s.record.clock }) := h.putDieOf (n := die) rfl
  exact h.unless hd

/-! ## Scalar floating point (R109 to R112) -/

theorem MemInv.fpOp (h : MemInv s) {r : Row} {w : BitVec 64} {d : Reg} {f : Hart → Nat × Flags} : (s.fpOp r w d f).Keeps MemInv :=
  h.scalar fun _ h => h.fpWrite

end

section
variable {s t : State}

/-! ## One step of the part -/

theorem MemInv.exec (h : MemInv s) {i : Instr} : Answer.Keeps MemInv (Machine.exec i s) := by
  unfold Machine.exec
  cases i with
  | powerGood => exact h.execPowerGood
  | bringupStageComplete => exact h.execBringupStageComplete
  | ctrlWreset => exact h.execCtrlWreset
  | ctrlBootretry => exact h.execCtrlBootretry
  | ctrlModelock => exact h.execCtrlModelock
  | ctrlCfglock => exact h.execCtrlCfglock
  | ctrlWinlock => exact h.execCtrlWinlock
  | hsemRead => exact h.execHsemRead
  | hsemRelease => exact h.execHsemRelease
  | funcmodeWrite => exact h.execFuncmodeWrite
  | registerWrite => exact h.execRegisterWrite
  | hostLinkDown => exact h.execHostLinkDown
  | wakeWindowWrite => exact h.execWakeWindowWrite
  | evackWrite => exact h.execEvackWrite
  | eventPost => exact h.execEventPost
  | launchRequestGo => exact h.execLaunchRequestGo
  | sealWindowSeal => exact h.execSealWindowSeal
  | sealWindowRevoke => exact h.execSealWindowRevoke
  | preemptTimer => exact h.execPreemptTimer
  | preemptHost => exact h.execPreemptHost
  | migrationGo => exact h.execMigrationGo
  | migrationRetire => exact h.execMigrationRetire
  | watchdogWrite => exact h.execWatchdogWrite
  | watchdogExpiry => exact h.execWatchdogExpiry
  | backgroundInitRegion => exact h.execBackgroundInitRegion
  | graphSubmissionPop => exact h.execGraphSubmissionPop
  | nodeStart => exact h.execNodeStart
  | readyRingPost => exact h.execReadyRingPost
  | nodeFinish => exact h.execNodeFinish
  | remoteSuccessorReady => exact h.execRemoteSuccessorReady
  | completionPushRetry => exact h.execCompletionPushRetry
  | admissionGranted => exact h.execAdmissionGranted
  | jobComplete => exact h.execJobComplete
  | jobEndByRecovery => exact h.execJobEndByRecovery
  | stripBoundaryGrantChange => exact h.execStripBoundaryGrantChange
  | forcedBoundary => exact h.execForcedBoundary
  | leaseStallPreempt => exact h.execLeaseStallPreempt
  | clusterRetire => exact h.execClusterRetire
  | vectorEntryComplete => exact h.execVectorEntryComplete
  | readQueueReturn => exact h.execReadQueueReturn
  | blockGroupCommit => exact h.execBlockGroupCommit
  | stripAssign => exact h.execStripAssign
  | hartHaltComplete => exact h.execHartHaltComplete
  | trapTake => exact h.execTrapTake
  | translationFaultReply => exact h.execTranslationFaultReply
  | engineTransferStart => exact h.execEngineTransferStart
  | engineChunkComplete => exact h.execEngineChunkComplete
  | engineTransferComplete => exact h.execEngineTransferComplete
  | mdrainTransferComplete => exact h.execMdrainTransferComplete
  | recursionPassComplete => exact h.execRecursionPassComplete
  | directoryReadRequest => exact h.execDirectoryReadRequest
  | directoryWriteRequest => exact h.execDirectoryWriteRequest
  | invalidation => exact h.execInvalidation
  | invalidationAck => exact h.execInvalidationAck
  | evictionNotice => exact h.execEvictionNotice
  | forwardSnoop => exact h.execForwardSnoop
  | writeBack => exact h.execWriteBack
  | backInvalidation => exact h.execBackInvalidation
  | uRequest => exact h.execURequest
  | mergeRequest => exact h.execMergeRequest
  | mergeResponse => exact h.execMergeResponse
  | movedResponse => exact h.execMovedResponse
  | hostCxlRequest => exact h.execHostCxlRequest
  | bisnpResponse => exact h.execBisnpResponse
  | hostSnoop => exact h.execHostSnoop
  | dieResetRecall => exact h.execDieResetRecall
  | dieReturn => exact h.execDieReturn
  | memoryScrub => exact h.execMemoryScrub
  | correctedError => exact h.execCorrectedError
  | burzerCrcReplay => exact h.execBurzerCrcReplay
  | burzerHeartbeat => exact h.execBurzerHeartbeat
  | peerSilenceTimeout => exact h.execPeerSilenceTimeout
  | spareAssign => exact h.execSpareAssign
  | checkpointRestore => exact h.execCheckpointRestore
  | checkpointWrite => exact h.execCheckpointWrite
  | thermalShutdown => exact h.execThermalShutdown
  | coolantLossShutdown => exact h.execCoolantLossShutdown
  | clockThrottle => exact h.execClockThrottle
  | wfeTimeout => exact h.execWfeTimeout
  | waitmTimeout => exact h.execWaitmTimeout
  | add | sub | and | or | xor | sll | srl | sra | slt | sltn | min | max | minn | maxn | andn | orn | rol | ror | addw | subw | mul
      | mulh | mulhn | mulhsn | addi | andi | ori | xori | slti | sltni | slli | srli | srai | roli | lui | auipc | clz | ctz | popc
      | bswap | sextb | sexth | sextw | zextb | zexth | zextw | cAddi | cMv | cAdd | cSub => exact h.compute
  | div | divn | rem | remn => exact h.divide
  | fadd | fsub | fmul | fdiv | fsqrt | fmin | fmax | fsgnj | fsgnjn | fsgnjx | feq | flt | fle | fclass | fma | fms | fnma | fnms |
      fcvtI32F32 | fcvtN32F32 | fcvtI64F32 | fcvtN64F32 | fcvtF32I32 | fcvtF32N32 | fcvtF32I64 | fcvtF32N64 | fcvtI32F64 |
      fcvtN32F64 | fcvtI64F64 | fcvtN64F64 | fcvtF64I32 | fcvtF64N32 | fcvtF64I64 | fcvtF64N64 | fcvtF32F64 | fcvtF64F32 => exact
      h.fpOp
  | lb | lh | lw | ld | lbn | lhn | lwn | cLd | cLw => exact h.load
  | sb | sh | sw | sd | cSd | cSw => exact h.store
  | beq | bne | blt | bge | bltn | bgen | cBeqz | cBnez => exact h.branch
  | jal => exact h.execJal
  | jalr => exact h.execJalr
  | amoswapW | amoaddW | amoandW | amoorW | amoxorW | amominW | amomaxW | amominnW | amomaxnW | amoswapD | amoaddD | amoandD |
      amoorD | amoxorD | amominD | amomaxD | amominnD | amomaxnD => exact h.amo
  | cas => exact h.execCas
  | fence => exact h.execFence
  | pause => exact h.execPause
  | waitm => exact h.execWaitm
  | arrive => exact h.execArrive
  | await => exact h.execAwait
  | gbar | gbarRlx => exact h.gangBarrier
  | csrrw | csrrs | csrrc | csrrwi | csrrsi | csrrci => exact h.csrOp
  | trap => exact h.execTrap
  | trapBrk => exact h.execTrapBrk
  | tret => exact h.execTret
  | halt => exact h.execHalt
  | wfe => exact h.execWfe
  | tlbinv => exact h.execTlbinv
  | cflush | cinval => exact h.cleanRange
  | pin => exact h.execPin
  | unpin => exact h.execUnpin
  | vqsave => exact h.execVqsave
  | vqload => exact h.execVqload
  | finval => exact h.execFinval
  | qpush => exact h.execQpush
  | qpop | qpeek => exact h.popRing
  | qwake => exact h.execQwake
  | qseal => exact h.execQseal
  | qrevoke => exact h.execQrevoke
  | qgrow => exact h.execQgrow
  | cpy => exact h.execCpy
  | cpybt => exact h.execCpybt
  | cpywait => exact h.execCpywait
  | nsub => exact h.execNsub
  | cpyfill => exact h.execCpyfill
  | vsetl | vlease | vfork | vjoin | vfetch | vfetchw | vloop | vcommit | endb | mmode | mshape | vaddVV | vaddVX | vaddVI | vsubVV
      | vsubVX | vsubVI | vrsubVV | vrsubVX | vrsubVI | vmulVV | vmulVX | vmulVI | vmulhVV | vmulhVX | vmulhVI | vmulhnVV | vmulhnVX
      | vmulhnVI | vandVV | vandVX | vandVI | vorVV | vorVX | vorVI | vxorVV | vxorVX | vxorVI | vsllVV | vsllVX | vsllVI | vsrlVV |
      vsrlVX | vsrlVI | vsraVV | vsraVX | vsraVI | vminVV | vminVX | vminVI | vmaxVV | vmaxVX | vmaxVI | vminnVV | vminnVX | vminnVI
      | vmaxnVV | vmaxnVX | vmaxnVI | vsaddVV | vsaddVX | vssubVV | vssubVX | vsaddnVV | vsaddnVX | vssubnVV | vssubnVX | vdivVV |
      vdivVX | vdivnVV | vdivnVX | vremVV | vremVX | vremnVV | vremnVX | vmaccVV | vmaccVX | vnmsacVV | vnmsacVX | vavgVV | vavgVX |
      vavgnVV | vavgnVX | vabs | vneg | vpopc | vclz | vwaddVV | vwaddVX | vwaddnVV | vwaddnVX | vwsubVV | vwsubVX | vwsubnVV |
      vwsubnVX | vwmulVV | vwmulVX | vwmulnVV | vwmulnVX | vwmaccVV | vwmaccVX | vwmaccnVV | vwmaccnVX | vnsrlVV | vnsrlVX | vnsraVV
      | vnsraVX | vnclipVV | vnclipVX | vnclipnVV | vnclipnVX | vfaddVV | vfaddVX | vfsubVV | vfsubVX | vfrsubVV | vfrsubVX |
      vfmulVV | vfmulVX | vfdivVV | vfdivVX | vfrdivVV | vfrdivVX | vfminVV | vfminVX | vfmaxVV | vfmaxVX | vfsgnjVV | vfsgnjVX |
      vfsgnjnVV | vfsgnjnVX | vfsgnjxVV | vfsgnjxVX | vfmaVV | vfmaVX | vfmsVV | vfmsVX | vfnmaVV | vfnmaVX | vfnmsVV | vfnmsVX |
      vfsqrt | vfrcp | vfrsq | vfexp2 | vflog2 | vfsinp | vfcosp | vftanh | vfabs | vfneg | vfclass | vffloor | vfceil | vfround |
      vcvtI32F32 | vcvtN32F32 | vcvtF32I32 | vcvtF32N32 | vcvtI64F64 | vcvtN64F64 | vcvtF64I64 | vcvtF64N64 | vcvtF64F32 |
      vcvtF32F64 | vcvtHF32 | vcvtBfF32 | vcvtF32H | vcvtF32Bf | vcvtB8F32 | vcvtF32B8 | vcvtB8H | vcvtHB8 | vcvtB8Bf | vcvtBfB8 |
      vcvtE4F32 | vcvtF32E4 | vcvtHE4 | vcvtQ4F32 | vcvtF32Q4 | vcvtHQ4 | vcmpEqVV | vcmpEqVX | vcmpNeVV | vcmpNeVX | vcmpLtVV |
      vcmpLtVX | vcmpLeVV | vcmpLeVX | vcmpLtnVV | vcmpLtnVX | vcmpLenVV | vcmpLenVX | vcmpGtVV | vcmpGtVX | vcmpGeVV | vcmpGeVX |
      vcmpFeqVV | vcmpFeqVX | vcmpFneVV | vcmpFneVX | vcmpFltVV | vcmpFltVX | vcmpFleVV | vcmpFleVX | vcmpFgtVV | vcmpFgtVX |
      vcmpFgeVV | vcmpFgeVX | vcmpFunordVV | vcmpFunordVX | vcmpFordVV | vcmpFordVX | kand | kor | kxor | kandn | knot | kmov | kpop
      | kfirst | kiota | vmerge | vcompress | vexpand | ksetx | vslideup | vslidedn | vpermv | vbcast | vextract | vinsert | vilv |
      vdilv | vid | vrand | vmvV | vmvX | vredsum | vredmin | vredmax | vredminn | vredmaxn | vredand | vredor | vredxor | vfsum |
      vfsumo | vfredmin | vfredmax | vwsum | vbshl | vbshr | vbfun | vternlog | vld | vldReg | vlds | vldx | vst | vstReg | vsts |
      vstx | vgll | vscc | vacc | vldwE4H | vldwE4Bf | vldwE4B8 | vldwQ4H | vldwQ4Bf | vldwQ4B8 | gsub | gadd | glen | gtag | gpack
      | gunpack | grehome | gdot | gcvt | gscl | gsettag | gmorton | gnbr | vcellins | vcellfind | recur | rspawn | rret | rkids |
      rdepth | rnkid | mzero | mrowv | mvrow | mcolv | mvcol | mdrain | mload | amerge | sacc | opacc | opsub | opaccw | cVfetch =>
      exact h.issue
  | cJ => exact h.execCJ
  | inboundPeerAccess => exact h.execInboundPeerAccess
  | spdmRequest => exact h.execSpdmRequest
  | bar2Access => exact h.execBar2Access
  | ioDomainPowerLoss => exact h.execIoDomainPowerLoss
  | powerLoss => exact h.execPowerLoss
  | cycleCountAdvance => exact h.execCycleCountAdvance

theorem MemInv.hartStep (h : MemInv s) : (Machine.hartStep s).Keeps MemInv := by
  refine .ite h ?_
  split
  next e => exact h.takeReady e
  · refine h.fetchAt.finish fun w t h => ?_
    split
    · exact h.raise
    · exact h.exec

theorem MemInv.laneTurn (h : MemInv s) {n : Nat} : MemInv (s.laneTurn n) := .ite h.laneAt h

theorem MemInv.step (h : MemInv s) : Answer.Keeps MemInv (Machine.step s) := by
  have ht {ts : List Turn} : MemInv { s with turns := ts } := h.same rfl
  unfold Machine.step
  split
  · exact .ite ht.exec ht
  · exact MemInv.ite ht.focusOn ht
  · exact .ite ht.focusOn.hartStep ht
  · exact ht.laneTurn
  · exact h.hartStep

end

/-- Settles O59: a step of every kind (an instruction, a lane or engine turn, a trap, a step of the device) changes bytes only by writes,
clears, merges and copies that keep the canonical form. -/
theorem memoryStaysCanonical : Obligations.MemoryStaysCanonical := by
  unfold Obligations.MemoryStaysCanonical
  intro s t h e
  have hs := h.step
  rw [e] at hs
  exact hs

end Sys2Proof.Machine
end

section
/-! O57: the state after reset (R19, R35, R43, R46, R47, R93). -/
namespace Sys2Proof.Machine

/-- Legality rests on `vcfg` and `status` alone. -/
theorem Hart.legal_of_csr {h : Hart} {vcfg status : Word} (hv : h.csr.vcfg = vcfg) (hs : h.csr.status = status)
    (hl : bits vcfg 0 16 ≤ vlmaxBits (bits vcfg 35 2) / sewBits (bits vcfg 16 3)) (hw : bits vcfg 16 3 ≤ 4) (hm : bits status 0 2 ≤ 2)
    (hp : bits status 2 2 ≤ 2) : h.legal = true := by
  subst hv hs
  simp only [Hart.legal, Bool.and_eq_true, decide_eq_true_eq]
  exact ⟨⟨⟨hl, hw⟩, hm⟩, hp⟩

theorem Hart.legal_reset (id : Nat) : (Hart.reset id).legal = true :=
  Hart.legal_of_csr (vcfg := 0x80000000#64) (status := 0#64) rfl rfl (by decide) (by decide) (by decide) (by decide)

theorem Hart.legal_groomReset (die : Nat) : (Hart.groomReset die).legal = true :=
  Hart.legal_of_csr (vcfg := 0x1880000000#64) (status := 2#64) rfl rfl (by decide) (by decide) (by decide) (by decide)

theorem HartInv.reset : HartInv State.reset := ⟨Hart.legal_reset 0, by simp [State.reset, Hart.legal_groomReset]⟩

/-- The groom core of each die is found after reset. -/
theorem State.findHart_reset_groom {d : Nat} (hd : d < 6) : State.reset.findHart (2304 + d) = some (Hart.groomReset d) := by
  interval_cases d <;> rfl

/-- Settles O57: each field of the reset state is at the value that its rule names. -/
theorem resetState : Obligations.ResetState := by
  refine ⟨.reset, .reset, fun _ => rfl, rfl, rfl, rfl, rfl, rfl, rfl, rfl, rfl, rfl, rfl, fun d hd => ?_⟩
  refine ⟨_, State.findHart_reset_groom hd, rfl, ?_, ?_⟩
  · show bits 2#64 0 2 = 2
    decide
  · show bits 0x1880000000#64 35 2 = 3
    decide

end Sys2Proof.Machine
end

section
/-! O24: queue instructions (R119 to R124) and the bytes of rings (R22 to R28).

An instruction whose capability passes its checks acts on the ring (`State.withCap_ready`) and returns what the action gives. For the actions
themselves, `Res.Leaves s r a m` says that `r` succeeds with `a` and leaves the state `s` as it was but for memory, which is `m`, the map of
initialised regions and the caches; reads and writes of a ring's words that can be reached are such operations, and so are their sequences. -/

namespace Sys2Proof.Machine

/-! ## The instructions -/

section

theorem bits_low {m : Nat} (w : BitVec m) (n : Nat) : bits w 0 n = w.toNat % 2 ^ n := by simp [bits, BitVec.extractLsb'_toNat]

/-- An instruction on a ring whose capability passes its checks acts on it (R20, R119). -/
theorem State.withCap_ready {s t : State} {r : Row} {w : BitVec 64} {a : Reg} {need : List Right} {c : Cap} (h : Ready s r w)
    (hf : s.hart.memHeld (s.hart.getX a).toNat 32 = false) (hc : s.presentCap (s.hartWho false) (s.hart.getX a) need = .ok c t)
    (k : Cap → State → Answer) : s.withCap r w a need k = k c t := by
  simp [State.withCap, State.scalar_ready h, State.onceFree, hf, hc]

/-- A scalar access that nothing holds back is made. -/
theorem State.onceFree_free {s : State} {a n : Nat} {write : Bool} (hf : s.hart.memHeld a n = false)
    (hw : (write && s.hart.fencedAhead) = false) (k : State → Answer) : s.onceFree a n write k = k s := by
  simp [State.onceFree, hf, hw]

theorem State.afterRelease_released {s : State} (h : s.hart.released = true) (k : State → Answer) : s.afterRelease true k = k s := by
  simp [State.afterRelease, h]

@[simp] theorem Res.orNothing_ok {α : Type} (a : α) (s t : State) : (Res.ok a t).orNothing s = .ok a t := rfl

variable {s t : State} {o : OpDAB} {c : Cap}

/-- What QPUSH returns (R120). -/
theorem exec_qpush (hr : Ready s .qpush (wordQpush o)) (hf : s.hart.memHeld (s.hart.getX o.a).toNat 32 = false)
    (hc : s.presentCap (s.hartWho false) (s.hart.getX o.a) [.push] = .ok c t) {l : List Nat} {u v : State} {q : Option Nat}
    (hb : t.hart.memHeld (t.hart.getX o.b).toNat (8 * (2 ^ c.lgsize / 8 - 1)) = false)
    (hl : t.loadWords (t.hartWho false) (t.hart.getX o.b).toNat (2 ^ c.lgsize / 8 - 1) = .ok l u) (hrel : u.hart.released = true)
    (hp : u.ringPush (u.hartWho false) c l = .ok q v) : exec (.qpush o) s = .next (v.wrote o.d (positionWord q) 4) := by
  show execQpush o s = _
  rw [execQpush, State.withCap_ready hr hf hc, State.onceFree_free hb rfl, hl, Res.finish_ok, State.afterRelease_released hrel, hp,
    Res.finish_ok, State.writeX_eq]


section
variable {r : Row} {w : BitVec 64} {take : Bool} (hr : Ready s r w) (hf : s.hart.memHeld (s.hart.getX o.a).toNat 32 = false)
  (hc : s.presentCap (s.hartWho false) (s.hart.getX o.a) [.pop] = .ok c t)
include hr hf hc

/-- A consumer that the ring lacks (R121). -/
theorem State.popRing_noConsumer (hj : c.ncons ≤ (t.hart.getX o.b).toNat % 8) :
    s.popRing r w o take = .next (t.takeTrap { cause := 0xA6, tval := t.hart.getX o.a } none) := by
  rw [State.popRing, State.withCap_ready hr hf hc]
  simp only [bits_low, Nat.reducePow]
  rw [if_pos hj, State.raise]

variable (hj : (t.hart.getX o.b).toNat % 8 < c.ncons) (hb : t.hart.memHeld ((t.hart.getX o.b).toNat / 8 * 8) (2 ^ c.lgsize - 8) = false)
  (hfe : t.hart.fencedAhead = false) {who : Who} {home : Nat} {u : State} (ho : t.ringOpen (t.hartWho false) c = .ok (who, home) u)
include hj hb hfe ho

/-- Where the consumer's slot is not full the ring is watched and −1 returned (R118, R121). -/
theorem State.popRing_none {v : State} (hp : u.ringPeek who c ((t.hart.getX o.b).toNat % 8) = .ok none v) :
    s.popRing r w o take =
      .next (State.wrote { v with hart := { v.hart with watched := some (c.owner, c.base) } } o.d (BitVec.allOnes 64) 4) := by
  rw [State.popRing, State.withCap_ready hr hf hc]
  simp only [bits_low, Nat.reducePow]
  rw [if_neg (Nat.not_le.2 hj), State.onceFree_free hb (by simp [hfe]), ho, Res.bind_ok, hp, Res.bind_ok, Res.orNothing_ok, Res.finish_ok,
    State.writeX_eq]
  rfl

variable {pos slot : Nat} {l : List Nat} {v v' : State} (hp : u.ringPeek who c ((t.hart.getX o.b).toNat % 8) = .ok (some (pos, slot, l)) v)
  (hs : v.storeWords (v.hartWho false) ((t.hart.getX o.b).toNat / 8 * 8) l = .ok () v')
include hp hs

/-- Where it is full the payload goes to the buffer, and a pop moves the cursor too (R121). -/
theorem State.popRing_found : s.popRing r w o take =
    (((if take then (v'.ringTake who c ((t.hart.getX o.b).toNat % 8) pos).bind fun _ s => .ok (some pos) s else .ok (some pos) v') :
      Res (Option Nat)).orNothing t).finish fun p s => s.writeX o.d (positionWord p) 4 := by
  rw [State.popRing, State.withCap_ready hr hf hc]
  simp only [bits_low, Nat.reducePow]
  rw [if_neg (Nat.not_le.2 hj), State.onceFree_free hb (by simp [hfe]), ho, Res.bind_ok, hp, Res.bind_ok]
  dsimp only
  rw [hs, Res.bind_ok]

end

/-- What QWAKE returns (R122). -/
theorem exec_qwake (hr : Ready s .qwake (wordQwake o)) (hf : s.hart.memHeld (s.hart.getX o.a).toNat 32 = false)
    (hc : s.presentCap (s.hartWho false) (s.hart.getX o.a) [.wake] = .ok c t) {ok : Bool} {u : State}
    (hk : t.ringWake (t.hartWho false) c (t.hart.getX o.b).toNat = .ok ok u) :
    exec (.qwake o) s = .next (u.wrote o.d (if ok then 0#64 else 1#64) 4) := by
  show execQwake o s = _
  rw [execQwake, State.withCap_ready hr hf hc, hk, Res.finish_ok, State.writeX_eq]

@[simp] theorem State.raiseFloor_hart (s : State) (ctx n : Nat) : (s.raiseFloor ctx n).hart = s.hart := by
  unfold State.raiseFloor; dsimp only; split <;> rfl

@[simp] theorem State.raiseFloor_mem (s : State) (ctx n : Nat) : (s.raiseFloor ctx n).mem = s.mem := by
  unfold State.raiseFloor; dsimp only; split <;> rfl

/-- The floor after it is raised; one of 0 is not listed (R19). -/
@[simp] theorem State.floorOf_raiseFloor (s : State) (ctx n : Nat) : (s.raiseFloor ctx n).floorOf ctx = max (s.floorOf ctx) (min n 65535) := by
  unfold State.raiseFloor
  dsimp only
  split
  · omega
  · simp [State.floorOf, findBy_putBy_same]

@[simp] theorem State.wrote_mem (s : State) (d : Reg) (v : Word) (len : Nat) : (s.wrote d v len).mem = s.mem := rfl
@[simp] theorem State.floorOf_wrote (s : State) (d : Reg) (v : Word) (len ctx : Nat) : (s.wrote d v len).floorOf ctx = s.floorOf ctx := rfl

theorem State.wrote_hart_congr {s t : State} (h : t.hart = s.hart) (d : Reg) (v : Word) (len : Nat) :
    (t.wrote d v len).hart = (s.wrote d v len).hart := by
  simp [State.wrote, State.wroteTo, h]

/-- What QREVOKE does (R124). -/
theorem exec_qrevoke (hr : Ready s .qrevoke (wordQrevoke o)) (hh : s.hostFn 5 = false) (hf : s.hart.memHeld (s.hart.getX o.a).toNat 32 = false)
    (hc : s.presentCap (s.hartWho false) (s.hart.getX o.a) [.admin] = .ok c t) : exec (.qrevoke o) s =
      .next ((t.raiseFloor c.owner (t.hart.getX o.b).toNat).wrote o.d
        (BitVec.ofNat 64 (max (t.floorOf c.owner) (min (t.hart.getX o.b).toNat 65535))) 4) := by
  show execQrevoke o s = _
  rw [execQrevoke, hh, if_neg Bool.false_ne_true, State.withCap_ready hr hf hc]
  dsimp only
  rw [State.writeX_eq, State.floorOf_raiseFloor]

section
variable (hr : Ready s .qgrow (wordQgrow o)) (hf : s.hart.memHeld (s.hart.getX o.a).toNat 32 = false)
  (hc : s.presentCap (s.hartWho false) (s.hart.getX o.a) [.grow] = .ok c t)
include hr hf hc

/-- A new segment must lie at a canonical address (R124). -/
theorem exec_qgrow_canonical (h : 2 ^ 56 ≤ (t.hart.getX o.b).toNat) :
    exec (.qgrow o) s = .next (t.takeTrap { cause := 0x46, tval := t.hart.getX o.b } none) := by
  show execQgrow o s = _
  rw [execQgrow, State.withCap_ready hr hf hc]
  dsimp only
  rw [if_pos (by simpa [canonical] using h), State.raise]

/-- It must be aligned to 128 bytes (R124). -/
theorem exec_qgrow_aligned (h : (t.hart.getX o.b).toNat < 2 ^ 56) (h7 : (t.hart.getX o.b).toNat % 128 ≠ 0) :
    exec (.qgrow o) s = .next (t.takeTrap { cause := 0x40, tval := t.hart.getX o.b } none) := by
  show execQgrow o s = _
  rw [execQgrow, State.withCap_ready hr hf hc]
  simp only [bits_low, Nat.reducePow]
  rw [if_neg (by simpa [canonical] using h), if_pos h7, State.raise]

/-- QGROW returns the segment count (R28, R124). -/
theorem exec_qgrow {n : Nat} {u : State} (h : (t.hart.getX o.b).toNat < 2 ^ 56) (h7 : (t.hart.getX o.b).toNat % 128 = 0)
    (hg : t.ringGrow (t.hartWho false) c (t.hart.getX o.b).toNat = .ok n u) : exec (.qgrow o) s = .next (u.wrote o.d (BitVec.ofNat 64 n) 4) := by
  show execQgrow o s = _
  rw [execQgrow, State.withCap_ready hr hf hc]
  simp only [bits_low, Nat.reducePow]
  rw [if_neg (by simpa [canonical] using h), if_neg (not_not.2 h7), hg, Res.finish_ok, State.writeX_eq]

end

/-- What NSUB does once it has pushed: it wakes the ring where it took a position (R123). -/
def State.submitted (s : State) (c : Cap) : Option Nat → Res (Option Nat)
  | none => .ok none s
  | some n => (s.ringWake (s.hartWho false) c (n + 1)).bind fun _ s => .ok (some n) s

section
variable (hr : Ready s .nsub (wordNsub o)) (hf : s.hart.memHeld (s.hart.getX o.a).toNat 32 = false)
  (hc : s.presentCap (s.hartWho false) (s.hart.getX o.a) [.push, .wake] = .ok c t)
include hr hf hc

/-- NSUB submits to a submission ring only (R123). -/
theorem exec_nsub_type (h : c.type ≠ 1) : exec (.nsub o) s = .next (t.takeTrap { cause := 0xA6, tval := t.hart.getX o.a } none) := by
  show execNsub o s = _
  rw [execNsub, State.withCap_ready hr hf hc]
  dsimp only
  rw [if_pos h, State.raise]

variable (h1 : c.type = 1) (hd : t.hart.memHeld (t.hart.getX o.b).toNat 32 = false) {w0 w1 w2 w3 : Nat} {u : State}
  (hl : t.loadWords (t.hartWho false) (t.hart.getX o.b).toNat 4 = .ok [w0, w1, w2, w3] u)
include h1 hd hl

/-- What NSUB does with the four fields that it has read (R123). -/
theorem exec_nsub : exec (.nsub o) s =
    if w1 = 0 ∨ 2 ^ 24 < w1 then u.raise { cause := 0xAA, tval := t.hart.getX o.b }
    else u.afterRelease true fun u =>
      (((u.ringPush (u.hartWho false) c ([w0, w1, w2, w3] ++ List.replicate (2 ^ c.lgsize / 8 - 5) 0)).bind fun p s => s.submitted c p).orNothing
        u).finish fun p s => s.writeX o.d (positionWord p) 4 := by
  show execNsub o s = _
  rw [execNsub, State.withCap_ready hr hf hc]
  dsimp only
  rw [if_neg (not_not.2 h1), State.onceFree_free hd rfl, hl, Res.finish_ok]
  rfl

/-- A count of nodes that is out of range (R123). -/
theorem exec_nsub_count (h : w1 = 0 ∨ 2 ^ 24 < w1) : exec (.nsub o) s = .next (u.takeTrap { cause := 0xAA, tval := t.hart.getX o.b } none) := by
  rw [exec_nsub hr hf hc h1 hd hl, if_pos h, State.raise]

variable (hn : w1 ≠ 0) (hm : w1 ≤ 2 ^ 24) (hrel : u.hart.released = true)
include hn hm hrel

/-- The descriptor, padded with zeros, is pushed and the ring woken (R123). -/
theorem exec_nsub_pushed {n : Nat} {v y : State} {ok : Bool}
    (hp : u.ringPush (u.hartWho false) c ([w0, w1, w2, w3] ++ List.replicate (2 ^ c.lgsize / 8 - 5) 0) = .ok (some n) v)
    (hk : v.ringWake (v.hartWho false) c (n + 1) = .ok ok y) : exec (.nsub o) s = .next (y.wrote o.d (BitVec.ofNat 64 n) 4) := by
  rw [exec_nsub hr hf hc h1 hd hl, if_neg (not_or.2 ⟨hn, Nat.not_lt.2 hm⟩), State.afterRelease_released hrel, hp, Res.bind_ok,
    State.submitted, hk, Res.bind_ok, Res.orNothing_ok, Res.finish_ok, State.writeX_eq]
  rfl

/-- A full ring takes nothing (R123). -/
theorem exec_nsub_full {v : State} (hp : u.ringPush (u.hartWho false) c ([w0, w1, w2, w3] ++ List.replicate (2 ^ c.lgsize / 8 - 5) 0) = .ok none v) :
    exec (.nsub o) s = .next (v.wrote o.d (BitVec.allOnes 64) 4) := by
  rw [exec_nsub hr hf hc h1 hd hl, if_neg (not_or.2 ⟨hn, Nat.not_lt.2 hm⟩), State.afterRelease_released hrel, hp, Res.bind_ok,
    State.submitted, Res.orNothing_ok, Res.finish_ok, State.writeX_eq]
  rfl

end

section
variable {q : OpDA} {d0 d1 d2 d3 : Word} (hr : Ready s .qseal (wordQseal q)) (hh : s.hostFn 5 = false)
  (hf : s.hart.memHeld (s.hart.getX q.a).toNat 32 = false) (hfe : s.hart.fencedAhead = false)
  (hc : s.readCap (s.hartWho false) (s.hart.getX q.a) = .ok (d0, d1, d2, d3) t)
include hr hh hf hfe hc

/-- QSEAL stores the seal at +24 and returns 0 (R18, R124). -/
theorem exec_qseal {u : State} (hk : (capOf d0 d1 d2 d3).formOk = true)
    (hs : t.storeRaw ((s.hart.getX q.a).toNat + 24) 8 8 (sealOf (Config.sealKey t.epoch) d0 d1 d2).toNat false = .ok () u) :
    exec (.qseal q) s = .next (u.wrote q.d 0#64 4) := by
  show execQseal q s = _
  rw [execQseal, hh, if_neg Bool.false_ne_true, State.scalar_ready hr]
  dsimp only
  rw [State.onceFree_free hf (by simp [hfe]), hc, Res.finish_ok, if_pos hk, hs, Res.finish_ok, State.writeX_eq]

/-- What breaks check 1 of R20 is not sealed (R124). -/
theorem exec_qseal_form (hk : (capOf d0 d1 d2 d3).formOk = false) :
    exec (.qseal q) s = .next (t.takeTrap { cause := 0xA5, tval := s.hart.getX q.a } none) := by
  show execQseal q s = _
  rw [execQseal, hh, if_neg Bool.false_ne_true, State.scalar_ready hr]
  dsimp only
  rw [State.onceFree_free hf (by simp [hfe]), hc, Res.finish_ok, if_neg (by simp [hk]), State.raise]

end

end

/-! ## Words of a ring -/

section

/-- An operation succeeds with `a` and leaves `s` as it was but for memory, which is `m`, the map of initialised regions and the caches. -/
def Res.Leaves {α : Type} (s : State) (r : Res α) (a : α) (m : Memory) : Prop := ∃ t, r = .ok a t ∧ OnlyMem s t m

variable {s t : State} {m : Memory}

theorem OnlyMem.refl (s : State) : OnlyMem s s s.mem := rfl

theorem OnlyMem.mem (h : OnlyMem s t m) : t.mem = m := by rw [show t = _ from h]

theorem OnlyMem.leaves {α : Type} (h : OnlyMem s t m) (a : α) : (Res.ok a t).Leaves s a m := ⟨t, rfl, h⟩

/-- Such operations in sequence. -/
theorem Res.Leaves.bind {α β : Type} {r : Res α} {f : α → State → Res β} {a : α} {b : β} {m' : Memory} (h : r.Leaves s a m)
    (hf : ∀ t, OnlyMem s t m → (f a t).Leaves s b m') : (r.bind f).Leaves s b m' := by
  obtain ⟨t, rfl, ht⟩ := h
  exact hf t ht

theorem Res.Leaves.orNothing {α : Type} {r : Res α} {a : α} {u : State} (h : r.Leaves s a m) : (r.orNothing u).Leaves s a m := by
  obtain ⟨t, rfl, ht⟩ := h
  exact ⟨t, rfl, ht⟩

theorem State.touchRegion_frame (s : State) (pa : Nat) : s.touchRegion pa = { s with initSet := (s.touchRegion pa).initSet } := by
  unfold State.touchRegion
  dsimp only
  split <;> rfl

/-- A write where no line is in U and no sector fails. -/
theorem State.physWrite_plain {s : State} (hu : s.ulines = []) (hf : s.failing = []) (who pa n v : Nat) :
    OnlyMem s (s.physWrite who pa n v) (s.mem.writeN pa n v) := by
  unfold OnlyMem State.physWrite
  simp only [State.mergeRange_nil hu]
  rw [State.bufferHost_frame, State.touchRegion_frame]
  simp [hf, dropBy]

section
variable {v : Who} {va pa n d : Nat} (hu : s.ulines = []) (hf : s.failing = []) (hr : RingReach s v va pa n) (h : OnlyMem s t m)
  (hd : d % 8 = 0 ∧ d < n)
include hr h hd

theorem OnlyMem.holdsBack : t.holdsBack v ((va + d) % 2 ^ 64) 8 = false := by
  have := hr.free (d / 8) (by omega)
  rw [show 8 * (d / 8) = d by omega] at this
  rw [show t = _ from h]
  exact this

theorem OnlyMem.accessAs {a : AKind} (ha : a = .load ∨ a = .store) :
    ∃ leaf, t.accessAs v ((va + d) % 2 ^ 64) 8 8 a = .ok (.phys (pa + d) leaf) t := by
  obtain ⟨leaf, hl⟩ := hr.access m t.initSet t.coh (d / 8) (by omega) a ha
  rw [show 8 * (d / 8) = d by omega] at hl
  rw [← show t = { s with mem := m, initSet := t.initSet, coh := t.coh } from h] at hl
  exact ⟨leaf, hl⟩

include hu

/-- A doubleword read where a ring can be reached. -/
theorem OnlyMem.ringRd : (t.ringRd v (va + d)).Leaves s (m.readN (pa + d) 8) m := by
  obtain ⟨leaf, hl⟩ := h.accessAs hr hd (.inl rfl)
  have ht : t.ulines = [] := by rw [show t = _ from h]; exact hu
  rw [State.ringRd, h.holdsBack hr hd, if_neg Bool.false_ne_true, State.loadAs, hl, Res.bind_ok, State.readPlace, State.physRead_nil ht]
  refine ⟨_, by rw [h.mem], ?_⟩
  rw [State.placeAs_frame, State.bufferHost_frame, show t = _ from h]
  rfl

include hf

/-- A doubleword written there. -/
theorem OnlyMem.ringWr (x : Nat) : (t.ringWr v (va + d) x).Leaves s () (m.writeN (pa + d) 8 x) := by
  obtain ⟨leaf, hl⟩ := h.accessAs hr hd (.inr rfl)
  have ht : t.ulines = [] ∧ t.failing = [] := by rw [show t = _ from h]; exact ⟨hu, hf⟩
  rw [State.ringWr, h.holdsBack hr hd, if_neg Bool.false_ne_true, State.storeAs, hl, Res.bind_ok, State.writePlace]
  refine ⟨_, rfl, ?_⟩
  have hw := State.physWrite_plain ht.1 ht.2 (t.writer v) (pa + d) 8 x
  rw [State.placeAs_frame, show _ = _ from hw, h.mem, show t = _ from h]
  rfl

end

section
variable {v : Who} {va pa n : Nat} (hu : s.ulines = []) (hf : s.failing = []) (hr : RingReach s v va pa n)
include hu hr

/-- Doublewords read one after another. -/
theorem OnlyMem.loadWords {k : Nat} : ∀ {t : State} {d : Nat}, OnlyMem s t m → d % 8 = 0 → d + 8 * k ≤ n →
    (t.loadWords v (va + d) k).Leaves s ((List.range k).map (fun i => m.readN (pa + d + 8 * i) 8)) m := by
  induction k with
  | zero => intro t d h _ _; exact h.leaves _
  | succ k ih =>
    intro t d h hd hn
    refine (h.ringRd hu hr ⟨hd, by omega⟩).bind fun u hu' => ?_
    refine (ih (d := d + 8) hu' (by omega) (by omega)).bind fun w hw => ?_
    rw [List.range_succ_eq_map, List.map_cons, List.map_map]
    refine ⟨w, ?_, hw⟩
    congr 2
    refine List.map_congr_left fun i _ => ?_
    show m.readN (pa + (d + 8) + 8 * i) 8 = m.readN (pa + d + 8 * (i + 1)) 8
    congr 1
    omega

include hf

/-- Doublewords written one after another. -/
theorem OnlyMem.storeWords {l : List Nat} : ∀ {t : State} {m : Memory} {d : Nat}, OnlyMem s t m → d % 8 = 0 → d + 8 * l.length ≤ n →
    (t.storeWords v (va + d) l).Leaves s () (m.writeWords (pa + d) l) := by
  induction l with
  | nil => intro t m d h _ _; exact h.leaves _
  | cons x l ih =>
    intro t m d h hd hn
    rw [List.length_cons] at hn
    refine (h.ringWr hu hf hr ⟨hd, by omega⟩ x).bind fun u hu' => ?_
    exact ih (d := d + 8) hu' (by omega) (by omega)

end

/-- The least of the first `n` cursors of a ring in memory `m` whose header lies at `pb`. -/
def Memory.leastCursor (m : Memory) (pb n : Nat) : Nat := (List.range n).foldl (fun k j => min k (m.readN (pb + 0x10 + 8 * j) 8)) (2 ^ 64 - 1)

theorem OnlyMem.minCursor {v : Who} {base pb : Nat} (hu : s.ulines = []) (hr : RingReach s v base pb 128) {n : Nat} :
    ∀ {t : State}, OnlyMem s t m → n ≤ 8 → (t.minCursor v base n).Leaves s (m.leastCursor pb n) m := by
  induction n with
  | zero => intro t h _; exact h.leaves _
  | succ n ih =>
    intro t h hn
    have hd : (0x10 + 8 * n) % 8 = 0 ∧ 0x10 + 8 * n < 128 := by omega
    have hl : m.leastCursor pb (n + 1) = min (m.readN (pb + (0x10 + 8 * n)) 8) (m.leastCursor pb n) := by
      rw [Memory.leastCursor, List.range_succ, List.foldl_append, ← Memory.leastCursor, Nat.min_comm, ← Nat.add_assoc]
      rfl
    rw [hl, State.minCursor, Nat.add_assoc]
    refine (h.ringRd hu hr hd).bind fun u hu' => ?_
    exact (ih hu' (by omega)).bind fun w hw => hw.leaves _

/-- Segment `i` of a chain whose laps start at `first` holds position `p` (R23). -/
def SegHolds (first : Nat → Nat) (lap p i : Nat) : Prop := first i ≤ p ∧ p < first i + lap

/-- What the search of the segments `lo` to `hi` - 1 for position `p` finds: none that holds it; or the one whose lap starts last, and of two
that start at one position the one linked last (R23, R28). -/
def LastSeg (first : Nat → Nat) (lap p lo hi : Nat) : Option Nat → Prop
  | none => ∀ k, lo ≤ k → k < hi → ¬SegHolds first lap p k
  | some b => (lo ≤ b ∧ b < hi) ∧ SegHolds first lap p b ∧
    ∀ k, lo ≤ k → k < hi → SegHolds first lap p k → first k < first b ∨ (first k = first b ∧ k ≤ b)

section
variable {first : Nat → Nat} {lap p lo hi b i : Nat} {r : Option Nat}

theorem LastSeg.eq_none (h : LastSeg first lap p lo hi r) (hn : ∀ k, k < hi → ¬SegHolds first lap p k) : r = none := by
  cases r with
  | none => rfl
  | some b => exact absurd h.2.1 (hn b h.1.2)

theorem LastSeg.eq_some (h : LastSeg first lap p lo hi r) (hb : LastSeg first lap p lo hi (some b)) : r = some b := by
  obtain ⟨⟨hlo, hhi⟩, hh, hlast⟩ := hb
  cases r with
  | none => exact absurd hh (h b hlo hhi)
  | some a =>
    obtain ⟨⟨hlo', hhi'⟩, hh', hlast'⟩ := h
    have h1 := hlast a hlo' hhi' hh'
    have h2 := hlast' b hlo hhi hh
    rw [show a = b by omega]

/-- A segment before the others that does not hold the position. -/
theorem LastSeg.skip (h : LastSeg first lap p (i + 1) hi r) (hs : ¬SegHolds first lap p i) : LastSeg first lap p i hi r := by
  have hlt {k : Nat} (hk : i ≤ k) (hh : SegHolds first lap p k) : i + 1 ≤ k := by
    rcases Nat.eq_or_lt_of_le hk with rfl | hk
    · exact absurd hh hs
    · exact hk
  cases r with
  | none => exact fun k h1 h2 hk => h k (hlt h1 hk) h2 hk
  | some b =>
    obtain ⟨⟨hlo, hhi⟩, hh, hlast⟩ := h
    exact ⟨⟨by omega, hhi⟩, hh, fun k h1 h2 hk => hlast k (hlt h1 hk) h2 hk⟩

/-- One that holds it where no other does. -/
theorem LastSeg.only (h : LastSeg first lap p (i + 1) hi none) (hlt : i < hi) (hs : SegHolds first lap p i) : LastSeg first lap p i hi (some i) := by
  refine ⟨⟨Nat.le_refl i, hlt⟩, hs, fun k h1 h2 hk => ?_⟩
  rcases Nat.eq_or_lt_of_le h1 with rfl | h1
  · exact .inr ⟨rfl, Nat.le_refl _⟩
  · exact absurd hk (h k h1 h2)

/-- One that holds it before another that does. -/
theorem LastSeg.later (h : LastSeg first lap p (i + 1) hi (some b)) (hlt : i < hi) (hs : SegHolds first lap p i) :
    LastSeg first lap p i hi (some (if first b < first i then i else b)) := by
  obtain ⟨⟨hlo, hhi⟩, hh, hlast⟩ := h
  split
  · refine ⟨⟨Nat.le_refl i, hlt⟩, hs, fun k h1 h2 hk => ?_⟩
    rcases Nat.eq_or_lt_of_le h1 with rfl | h1
    · exact .inr ⟨rfl, Nat.le_refl _⟩
    · have := hlast k h1 h2 hk
      omega
  · refine ⟨⟨by omega, hhi⟩, hh, fun k h1 h2 hk => ?_⟩
    rcases Nat.eq_or_lt_of_le h1 with rfl | h1
    · omega
    · exact hlast k h1 h2 hk

end

section
variable {v : Who} {c : Cap} {p nseg n : Nat} {va ph : Nat → Nat} {first : Nat → Nat} (hu : s.ulines = []) (hn : 128 ≤ n)
  (hseg : ∀ i, i < nseg → RingReach s v (va i) (ph i) n ∧ m.readN (ph i + 0x58) 8 = va (i + 1)) (hfirst : ∀ i, m.readN (ph i + 0x50) 8 = first i)
include hu hn hseg hfirst

/-- The search along the chain finds the last segment that holds the position, if one does (R23). -/
theorem OnlyMem.segmentOf {k : Nat} : ∀ {t : State} {i : Nat}, OnlyMem s t m → i + k = nseg →
    ∃ r, LastSeg first c.lap p i nseg r ∧ (t.segmentOf v c p k (va i)).Leaves s (r.map fun j => (va j, first j)) m := by
  induction k with
  | zero => intro t i h hi; exact ⟨none, fun j h1 h2 => by omega, h.leaves _⟩
  | succ k ih =>
    intro t i h hi
    obtain ⟨hr, hnext⟩ := hseg i (by omega)
    obtain ⟨t1, e1, h1⟩ := h.ringRd hu hr (d := 0x50) (by omega)
    obtain ⟨t2, e2, h2⟩ := h1.ringRd hu hr (d := 0x58) (by omega)
    obtain ⟨r, hl, t3, e3, h3⟩ := ih h2 (show i + 1 + k = nseg by omega)
    rw [State.segmentOf, e1, Res.bind_ok, e2, Res.bind_ok, hnext, e3, Res.bind_ok, hfirst]
    by_cases hh : first i ≤ p ∧ p < first i + c.lap
    · dsimp only
      rw [if_pos hh]
      cases r with
      | none => exact ⟨some i, hl.only (by omega) hh, h3.leaves _⟩
      | some b => exact ⟨_, hl.later (by omega) hh, t3, by simp only [Option.map_some]; split <;> rfl, h3⟩
    · dsimp only
      rw [if_neg hh]
      exact ⟨r, hl.skip hh, h3.leaves _⟩

end

/-! ## Ring actions -/

theorem three_le_minLgsize (type : Nat) : 3 ≤ minLgsize type := by
  unfold minLgsize
  split
  · decide
  · split <;> decide

/-- The bounds of a ring's geometry (R20, R24). -/
theorem Cap.geometry {c : Cap} (h : c.formOk = true) : c.ncons ≤ 8 ∧ 2 ^ c.lgsize % 8 = 0 ∧ 0 < c.lap := by
  simp only [Cap.formOk, Bool.and_eq_true, decide_eq_true_eq] at h
  obtain ⟨⟨⟨_, hn⟩, hs⟩, _⟩ := h
  have h4 : 3 ≤ c.lgsize := Nat.le_trans (three_le_minLgsize _) hs.1
  refine ⟨hn.2, ?_, Nat.two_pow_pos _⟩
  exact Nat.mod_eq_zero_of_dvd (Nat.pow_dvd_pow 2 h4 : 2 ^ 3 ∣ 2 ^ c.lgsize)

/-- The slots of a segment lie behind its 128 bytes of header, at multiples of 8 (R22). -/
theorem slot_within {k lap size n : Nat} (hk : k < lap) (hs : size % 8 = 0) (hn : n ≤ size) :
    (0x80 + k * size) % 8 = 0 ∧ 0x80 + k * size + n ≤ 128 + lap * size := by
  have h1 : (k + 1) * size ≤ lap * size := Nat.mul_le_mul_right _ hk
  rw [Nat.add_mul, Nat.one_mul] at h1
  have h2 : k * size % 8 = 0 := by rw [Nat.mul_mod, hs, Nat.mul_zero, Nat.zero_mod]
  omega

@[simp] theorem State.postEvent_mem (s : State) (port source cause die ctx : Nat) (value detail : Word) :
    (s.postEvent port source cause die ctx value detail).mem = s.mem := by
  unfold State.postEvent; dsimp only; split <;> rfl

@[simp] theorem State.agentEvent_mem (s : State) (fn cause die ctx : Nat) (value detail : Word) :
    (s.agentEvent fn cause die ctx value detail).mem = s.mem := by
  unfold State.agentEvent
  split
  · exact State.postEvent_mem ..
  · rfl

@[simp] theorem State.putHart_mem (s : State) (h : Hart) : (s.putHart h).mem = s.mem := by
  unfold State.putHart; split <;> rfl

@[simp] theorem State.onHartId_mem (s : State) (id : Nat) (f : Hart → Hart) : (s.onHartId id f).mem = s.mem := by
  unfold State.onHartId
  split
  · exact State.putHart_mem ..
  · rfl

@[simp] theorem State.setPendingBit_mem (s : State) (die n : Nat) : (s.setPendingBit die n).mem = s.mem := by
  unfold State.setPendingBit
  dsimp only
  split
  · rfl
  · exact State.onHartId_mem ..

@[simp] theorem State.wakeAccepted_mem (s : State) (c : Cap) (home pbit : Nat) : (s.wakeAccepted c home pbit).mem = s.mem := by
  have h : (if pbit ≤ 4093 then s.setPendingBit home pbit else s).mem = s.mem := by
    split
    · exact State.setPendingBit_mem ..
    · rfl
  unfold State.wakeAccepted
  dsimp only
  split <;> exact h

/-- A slot filled: the payload, then the sequence number (R120). -/
theorem OnlyMem.fillSlot {v : Who} {seg ps k lap size p : Nat} {pl : List Nat} (hu : s.ulines = []) (hf : s.failing = [])
    (hr : RingReach s v seg ps (128 + lap * size)) (hk : k < lap) (hs : size % 8 = 0) (hl : 8 * (pl.length + 1) ≤ size) (h : OnlyMem s t m) :
    ((t.storeWords v (seg + 0x80 + k * size + 8) pl).bind fun _ s => (s.ringWr v (seg + 0x80 + k * size) (p + 1)).bind fun _ s =>
      .ok (some p) s).Leaves s (some p) ((m.writeWords (ps + 0x80 + k * size + 8) pl).writeN (ps + 0x80 + k * size) 8 (p + 1)) := by
  obtain ⟨h8, hn⟩ := slot_within hk hs hl
  have e (a : Nat) : a + 0x80 + k * size = a + (0x80 + k * size) := Nat.add_assoc ..
  rw [e seg, e ps, Nat.add_assoc seg _ 8, Nat.add_assoc ps _ 8]
  refine (h.storeWords (l := pl) hu hf hr (d := 0x80 + k * size + 8) (by omega) (by omega)).bind fun u hu' => ?_
  exact (hu'.ringWr hu hf hr (d := 0x80 + k * size) (by omega) (p + 1)).bind fun u hu' => hu'.leaves _

/-- The doubleword at a physical address. -/
abbrev State.word (s : State) (a : Nat) : Nat := s.mem.readN a 8

section
variable {w v : Who} {c : Cap} {home pb ps pn : Nat} {pl : List Nat} (hu : s.ulines = []) (hf : s.failing = []) (hk : c.formOk = true)
  (ho : s.ringOpen w c = .ok (v, home) s) (hr : RingReach s v c.base pb 128)
include hu hf hk ho hr

section
variable (hps : RingReach s v (s.word (pb + 0x60)) ps (128 + c.lap * 2 ^ c.lgsize))
include hps

/-- A push into the segment that producers fill (R23, R25). -/
theorem ringPush_inLap (hl : 8 * (pl.length + 1) ≤ 2 ^ c.lgsize) (h1 : s.word (ps + 0x50) ≤ s.word pb)
    (h2 : s.word pb < s.word (ps + 0x50) + c.lap) :
    (s.ringPush w c pl).Leaves s (some (s.word pb))
      (((s.mem.writeN pb 8 (s.word pb + 1)).writeWords
        (ps + 0x80 + (s.word pb - s.word (ps + 0x50)) * 2 ^ c.lgsize + 8) pl).writeN
        (ps + 0x80 + (s.word pb - s.word (ps + 0x50)) * 2 ^ c.lgsize) 8 (s.word pb + 1)) := by
  obtain ⟨_, h8, _⟩ := Cap.geometry hk
  refine Res.Leaves.orNothing ?_
  rw [ho, Res.bind_ok, State.ringClaim]
  obtain ⟨t1, e1, h⟩ := (OnlyMem.refl s).ringRd hu hr (d := 0) (by omega)
  obtain ⟨t2, e2, h⟩ := h.ringRd hu hr (d := 0x60) (by omega)
  obtain ⟨t3, e3, h⟩ := h.ringRd hu hps (d := 0x50) (by omega)
  obtain ⟨t4, e4, h⟩ := h.ringWr hu hf hr (d := 0) (by omega) (s.word pb + 1)
  simp only [Nat.add_zero] at e1 e4 h
  rw [e1, Res.bind_ok, e2, Res.bind_ok, e3, Res.bind_ok, if_pos h2, e4]
  exact h.fillSlot hu hf hps (Nat.sub_lt_left_of_lt_add h1 h2) h8 hl

variable (hpn : RingReach s v (s.word (ps + 0x58)) pn (128 + c.lap * 2 ^ c.lgsize))
  (h2 : s.word (ps + 0x50) + c.lap ≤ s.word pb)
include hpn h2

omit hf ho in
/-- What a claim beyond the lap reads: the next segment, the least cursor, and where the next segment's lap starts (R25). -/
theorem ringClaim_beyond : ∃ t, OnlyMem s t s.mem ∧ s.ringClaim v c home =
    if s.word (pn + 0x50) + c.lap ≤ s.mem.leastCursor pb c.ncons then
      (t.ringWr v (s.word (ps + 0x58) + 0x50) (s.word pb)).bind fun _ t =>
      (t.ringWr v (c.base + 0x60) (s.word (ps + 0x58))).bind fun _ t =>
      (t.ringWr v c.base (s.word pb + 1)).bind fun _ t =>
        .ok (some (s.word pb, c.slot (s.word (ps + 0x58)) (s.word pb) (s.word pb))) t
    else
      (t.ringRd v (c.base + 0x68)).bind fun g t =>
      if c.has .grow && g / 256 % 2 == 0 then
        (t.ringWr v (c.base + 0x68) (g + 256)).bind fun _ t => .ok none (t.agentEvent 2 0xA4 home c.owner (BitVec.ofNat 64 c.base) 0#64)
      else .ok none t := by
  obtain ⟨hc, _, _⟩ := Cap.geometry hk
  obtain ⟨t1, e1, h⟩ := (OnlyMem.refl s).ringRd hu hr (d := 0) (by omega)
  obtain ⟨t2, e2, h⟩ := h.ringRd hu hr (d := 0x60) (by omega)
  obtain ⟨t3, e3, h⟩ := h.ringRd hu hps (d := 0x50) (by omega)
  obtain ⟨t4, e4, h⟩ := h.ringRd hu hps (d := 0x58) (by omega)
  obtain ⟨t5, e5, h⟩ := h.minCursor hu hr hc
  obtain ⟨t6, e6, h⟩ := h.ringRd hu hpn (d := 0x50) (by omega)
  simp only [Nat.add_zero] at e1
  refine ⟨t6, h, ?_⟩
  rw [State.ringClaim, e1, Res.bind_ok, e2, Res.bind_ok, e3, Res.bind_ok, if_neg (Nat.not_lt.2 h2), e4, Res.bind_ok, e5, Res.bind_ok, e6,
    Res.bind_ok]

/-- A push into the next segment, which every consumer has left (R25). -/
theorem ringPush_next (hl : 8 * (pl.length + 1) ≤ 2 ^ c.lgsize) (h3 : s.word (pn + 0x50) + c.lap ≤ s.mem.leastCursor pb c.ncons) :
    (s.ringPush w c pl).Leaves s (some (s.word pb))
      (((((s.mem.writeN (pn + 0x50) 8 (s.word pb)).writeN (pb + 0x60) 8 (s.word (ps + 0x58))).writeN pb 8
        (s.word pb + 1)).writeWords (pn + 0x80 + 8) pl).writeN (pn + 0x80) 8 (s.word pb + 1)) := by
  obtain ⟨_, h8, hlap⟩ := Cap.geometry hk
  obtain ⟨t, h, e⟩ := ringClaim_beyond hu hk hr hps hpn h2
  refine Res.Leaves.orNothing ?_
  obtain ⟨t1, e1, h⟩ := h.ringWr hu hf hpn (d := 0x50) (by omega) (s.word pb)
  obtain ⟨t2, e2, h⟩ := h.ringWr hu hf hr (d := 0x60) (by omega) (s.word (ps + 0x58))
  obtain ⟨t3, e3, h⟩ := h.ringWr hu hf hr (d := 0) (by omega) (s.word pb + 1)
  simp only [Nat.add_zero] at e3 h
  rw [ho, Res.bind_ok, e, if_pos h3, e1, Res.bind_ok, e2, Res.bind_ok, e3, Res.bind_ok, Res.bind_ok]
  have := h.fillSlot (k := 0) (p := s.word pb) hu hf hpn hlap h8 hl
  simpa [Cap.slot] using this

variable (h3 : s.mem.leastCursor pb c.ncons < s.word (pn + 0x50) + c.lap)
include h3

/-- A full ring that may grow asks for it once (R25). -/
theorem ringPush_asks (hg : c.has .grow = true) (hp : s.word (pb + 0x68) / 256 % 2 = 0) :
    ∃ t, s.ringPush w c pl = .ok none t ∧ t.mem = s.mem.writeN (pb + 0x68) 8 (s.word (pb + 0x68) + 256) := by
  obtain ⟨t, h, e⟩ := ringClaim_beyond hu hk hr hps hpn h2
  obtain ⟨t1, e1, h⟩ := h.ringRd hu hr (d := 0x68) (by omega)
  obtain ⟨t2, e2, h⟩ := h.ringWr hu hf hr (d := 0x68) (by omega) (s.word (pb + 0x68) + 256)
  rw [State.ringPush, ho, Res.bind_ok, e, if_neg (Nat.not_le.2 h3), e1, Res.bind_ok, if_pos (by simp [hg, hp]), e2, Res.bind_ok, Res.bind_ok]
  exact ⟨_, rfl, (State.agentEvent_mem ..).trans h.mem⟩

omit hf in
/-- A full ring that may not grow, or that has asked for it, is left as it is (R25). -/
theorem ringPush_full (hg : c.has .grow = false ∨ s.word (pb + 0x68) / 256 % 2 = 1) : (s.ringPush w c pl).Leaves s none s.mem := by
  obtain ⟨t, h, e⟩ := ringClaim_beyond hu hk hr hps hpn h2
  obtain ⟨t1, e1, h⟩ := h.ringRd hu hr (d := 0x68) (by omega)
  rw [State.ringPush, ho, Res.bind_ok, e, if_neg (Nat.not_le.2 h3), e1, Res.bind_ok, if_neg (by rcases hg with hg | hg <;> simp [hg]), Res.bind_ok]
  exact (h.leaves _).orNothing

end

omit hf hk in
/-- What a wake reads: the tail, and the word that holds the segment count and the pending bit (R27). -/
theorem ringWake_reads {T : Nat} : ∃ t, OnlyMem s t s.mem ∧ s.ringWake w c T =
    (if T ≤ s.word (pb + 8) then .ok true (t.wakeAccepted c home (s.word (pb + 0x68) / 65536 % 65536))
    else (t.minCursor v c.base c.ncons).bind fun m t =>
      if m + s.word (pb + 0x68) % 32 * c.lap < T then .ok false (t.toGroom home (stopAt 0xA7 c.base))
      else (t.ringWr v (c.base + 8) T).bind fun _ t => .ok true (t.wakeAccepted c home (s.word (pb + 0x68) / 65536 % 65536))).orNothing s := by
  obtain ⟨t1, e1, h⟩ := (OnlyMem.refl s).ringRd hu hr (d := 8) (by omega)
  obtain ⟨t2, e2, h⟩ := h.ringRd hu hr (d := 0x68) (by omega)
  refine ⟨t2, h, ?_⟩
  rw [State.ringWake, ho, Res.bind_ok, e1, Res.bind_ok, e2, Res.bind_ok]

omit hf hk in
/-- A wake at or below the tail writes nothing (R27). -/
theorem ringWake_below {T : Nat} (hT : T ≤ s.word (pb + 8)) : ∃ t, s.ringWake w c T = .ok true t ∧ t.mem = s.mem := by
  obtain ⟨t, h, e⟩ := ringWake_reads hu ho hr (T := T)
  rw [e, if_pos hT]
  exact ⟨_, rfl, (State.wakeAccepted_mem ..).trans h.mem⟩

omit hf in
/-- A wake beyond what the segments can hold is refused (R27). -/
theorem ringWake_refused {T : Nat} (hT : s.word (pb + 8) < T)
    (hc : s.mem.leastCursor pb c.ncons + s.word (pb + 0x68) % 32 * c.lap < T) : ∃ t, s.ringWake w c T = .ok false t ∧ t.mem = s.mem := by
  obtain ⟨t, h, e⟩ := ringWake_reads hu ho hr (T := T)
  obtain ⟨u, e1, h⟩ := h.minCursor hu hr (Cap.geometry hk).1
  rw [e, if_neg (Nat.not_le.2 hT), e1, Res.bind_ok, if_pos hc]
  exact ⟨_, rfl, h.mem⟩

/-- Any other wake writes the tail (R27). -/
theorem ringWake_writes {T : Nat} (hT : s.word (pb + 8) < T)
    (hc : T ≤ s.mem.leastCursor pb c.ncons + s.word (pb + 0x68) % 32 * c.lap) :
    ∃ t, s.ringWake w c T = .ok true t ∧ t.mem = s.mem.writeN (pb + 8) 8 T := by
  obtain ⟨t, h, e⟩ := ringWake_reads hu ho hr (T := T)
  obtain ⟨u, e1, h⟩ := h.minCursor hu hr (Cap.geometry hk).1
  obtain ⟨x, e2, h⟩ := h.ringWr hu hf hr (d := 8) (by omega) T
  rw [e, if_neg (Nat.not_le.2 hT), e1, Res.bind_ok, if_neg (Nat.not_lt.2 hc), e2, Res.bind_ok]
  exact ⟨_, rfl, (State.wakeAccepted_mem ..).trans h.mem⟩

omit hk in
/-- A ring of 16 segments grows no further: only the request for growth is cleared (R28). -/
theorem ringGrow_most {g : Nat} (h16 : 16 ≤ s.word (pb + 0x68) % 32) :
    (s.ringGrow w c g).Leaves s (s.word (pb + 0x68) % 32)
      (s.mem.writeN (pb + 0x68) 8 (s.word (pb + 0x68) - s.word (pb + 0x68) / 256 % 2 * 256)) := by
  refine Res.Leaves.orNothing ?_
  rw [ho, Res.bind_ok]
  obtain ⟨t1, e1, h⟩ := (OnlyMem.refl s).ringRd hu hr (d := 0x68) (by omega)
  dsimp only
  rw [e1, Res.bind_ok, if_pos h16]
  exact (h.ringWr hu hf hr (d := 0x68) (by omega) _).bind fun t ht => ht.leaves _

omit hk in
/-- Growth links the segment behind the one that producers fill, and counts it (R28). -/
theorem ringGrow_links {g pg : Nat} (hg : RingReach s v g pg 128) (hp : RingReach s v (s.word (pb + 0x60)) ps 128)
    (h16 : s.word (pb + 0x68) % 32 < 16) :
    (s.ringGrow w c g).Leaves s (s.word (pb + 0x68) % 32 + 1)
      (((((s.mem.writeN (pg + 0x50) 8 (s.word pb)).writeN (pg + 0x58) 8 (s.word (ps + 0x58))).writeN (ps + 0x58) 8 g).writeN
        (pb + 0x60) 8 g).writeN (pb + 0x68) 8 (s.word (pb + 0x68) - s.word (pb + 0x68) / 256 % 2 * 256 + 1)) := by
  refine Res.Leaves.orNothing ?_
  rw [ho, Res.bind_ok]
  obtain ⟨t1, e1, h⟩ := (OnlyMem.refl s).ringRd hu hr (d := 0x68) (by omega)
  obtain ⟨t2, e2, h⟩ := h.ringRd hu hr (d := 0) (by omega)
  obtain ⟨t3, e3, h⟩ := h.ringRd hu hr (d := 0x60) (by omega)
  obtain ⟨t4, e4, h⟩ := h.ringRd hu hp (d := 0x58) (by omega)
  simp only [Nat.add_zero] at e2
  dsimp only
  rw [e1, Res.bind_ok, if_neg (Nat.not_le.2 h16), e2, Res.bind_ok, e3, Res.bind_ok, e4, Res.bind_ok]
  refine (h.ringWr hu hf hg (d := 0x50) (by omega) _).bind fun t h => ?_
  refine (h.ringWr hu hf hg (d := 0x58) (by omega) _).bind fun t h => ?_
  refine (h.ringWr hu hf hp (d := 0x58) (by omega) _).bind fun t h => ?_
  refine (h.ringWr hu hf hr (d := 0x60) (by omega) _).bind fun t h => ?_
  exact (h.ringWr hu hf hr (d := 0x68) (by omega) _).bind fun t h => h.leaves _

omit ho in
/-- A pop moves its consumer's cursor (R26). -/
theorem ringTake_writes {j p : Nat} (hj : j < c.ncons) : (s.ringTake v c j p).Leaves s () (s.mem.writeN (pb + 0x10 + 8 * j) 8 (p + 1)) := by
  have hc := (Cap.geometry hk).1
  rw [State.ringTake, Nat.add_assoc c.base, Nat.add_assoc pb]
  exact (OnlyMem.refl s).ringWr hu hf hr (d := 0x10 + 8 * j) (by omega) (p + 1)

section
variable {j : Nat} {va ph first : Nat → Nat} (hj : j < c.ncons) (h0 : va 0 = c.base) (hfirst : ∀ i, s.word (ph i + 0x50) = first i)
  (hseg : ∀ i, i < s.word (pb + 0x68) % 32 →
    RingReach s v (va i) (ph i) (128 + c.lap * 2 ^ c.lgsize) ∧ s.word (ph i + 0x58) = va (i + 1))
include hj h0 hfirst hseg

omit hf ho in
/-- What a peek reads: the cursor, the segment count, and along the chain the segment that holds the cursor (R23, R26). -/
theorem ringPeek_reads : ∃ r t, LastSeg first c.lap (s.word (pb + 0x10 + 8 * j)) 0 (s.word (pb + 0x68) % 32) r ∧ OnlyMem s t s.mem ∧
    s.ringPeek v c j = match r.map fun i => c.slot (va i) (first i) (s.word (pb + 0x10 + 8 * j)) with
      | none => .ok none t
      | some a => (t.ringRd v a).bind fun seq t =>
        if seq = (s.word (pb + 0x10 + 8 * j) + 1) % 2 ^ 64 then
          (t.loadWords v (a + 8) (2 ^ c.lgsize / 8 - 1)).bind fun pl t => .ok (some (s.word (pb + 0x10 + 8 * j), a, pl)) t
        else .ok none t := by
  have hc := (Cap.geometry hk).1
  obtain ⟨t1, e1, h⟩ := (OnlyMem.refl s).ringRd hu hr (d := 0x10 + 8 * j) (by omega)
  obtain ⟨t2, e2, h⟩ := h.ringRd hu hr (d := 0x68) (by omega)
  obtain ⟨r, hl, t3, e3, h⟩ := h.segmentOf (c := c) (p := s.word (pb + 0x10 + 8 * j)) hu (by omega) hseg hfirst (i := 0) (Nat.zero_add _)
  refine ⟨r, t3, hl, h, ?_⟩
  rw [← Nat.add_assoc, ← Nat.add_assoc] at e1
  rw [State.ringPeek, e1, Res.bind_ok, e2, Res.bind_ok, State.slotOf, ← h0, e3, Res.bind_ok, Res.bind_ok, Option.map_map] <;> rfl

omit hf ho in
/-- A peek where no segment holds the cursor (R26). -/
theorem ringPeek_noSegment (hn : ∀ i, i < s.word (pb + 0x68) % 32 → ¬SegHolds first c.lap (s.word (pb + 0x10 + 8 * j)) i) :
    (s.ringPeek v c j).Leaves s none s.mem := by
  obtain ⟨r, t, hl, h, e⟩ := ringPeek_reads hu hk hr hj h0 hfirst hseg
  rw [e, hl.eq_none hn]
  exact h.leaves _

section
variable {i : Nat} (hi : LastSeg first c.lap (s.word (pb + 0x10 + 8 * j)) 0 (s.word (pb + 0x68) % 32) (some i))
include hi

omit hf ho in
/-- A peek in the segment that holds the cursor: the payload is there exactly if the sequence number is the cursor's (R26, R120). -/
theorem ringPeek_slot : (s.ringPeek v c j).Leaves s
    (if s.word (ph i + (0x80 + (s.mem.readN (pb + 0x10 + 8 * j) 8 - first i) * 2 ^ c.lgsize)) = (s.word (pb + 0x10 + 8 * j) + 1) % 2 ^ 64 then
      some (s.word (pb + 0x10 + 8 * j), va i + (0x80 + (s.word (pb + 0x10 + 8 * j) - first i) * 2 ^ c.lgsize),
        (List.range (2 ^ c.lgsize / 8 - 1)).map fun k =>
          s.word (ph i + (0x80 + (s.mem.readN (pb + 0x10 + 8 * j) 8 - first i) * 2 ^ c.lgsize) + 8 + 8 * k))
    else none) s.mem := by
  obtain ⟨r, t, hl, h, e⟩ := ringPeek_reads hu hk hr hj h0 hfirst hseg
  have ⟨hlt, ⟨h1, h2⟩, _⟩ := hi
  obtain ⟨_, h8, _⟩ := Cap.geometry hk
  obtain ⟨hs, _⟩ := hseg i hlt.2
  obtain ⟨hd, hn⟩ := slot_within (k := s.word (pb + 0x10 + 8 * j) - first i) (lap := c.lap) (by omega) h8 (Nat.le_refl _)
  have hpos : 0 < 2 ^ c.lgsize := Nat.two_pow_pos _
  rw [e, hl.eq_some hi, Option.map_some, Cap.slot, Nat.add_assoc]
  dsimp only
  refine (h.ringRd hu hs ⟨hd, by omega⟩).bind fun t h => ?_
  split
  · rw [Nat.add_assoc (va i), Nat.add_assoc (ph i)]
    refine (h.loadWords hu hs (k := 2 ^ c.lgsize / 8 - 1) (d := 0x80 + (s.word (pb + 0x10 + 8 * j) - first i) * 2 ^ c.lgsize + 8)
      (by omega) (by omega)).bind fun t h => h.leaves _
  · exact h.leaves _

end
end
end

end

/-- Settles O24: an instruction passes its checks and returns what its ring action gives; a ring action reads, and then writes, the words of
the ring one after another. -/
theorem queueInstructionResults : Obligations.QueueInstructionResults := by
  unfold Obligations.QueueInstructionResults
  refine ⟨⟨?_, ?_⟩, ?_⟩
  · intro s t o c p x at4 hf
    refine ⟨?_, ?_, ?_, ?_, ?_, ?_⟩
    · intro hr hc n b l u q v hb hl hrel hp
      exact exec_qpush hr hf hc hb hl hrel hp
    · intro take hr hc
      have hr' : ∃ r w, Ready s r w ∧ exec (if take then .qpop o else .qpeek o) s = s.popRing r w o take := by
        cases take with
        | true => exact ⟨_, _, hr, rfl⟩
        | false => exact ⟨_, _, hr, rfl⟩
      obtain ⟨r, w, hr, e⟩ := hr'
      intro j b i
      refine ⟨fun hj => e.trans (State.popRing_noConsumer hr hf hc hj), fun hj hb hfe who home u ho => ⟨fun v hp => ?_, ?_⟩⟩
      · exact e.trans (State.popRing_none hr hf hc hj hb hfe ho hp)
      · intro pos slot l v v' hp hs
        have e := e.trans (State.popRing_found hr hf hc hj hb hfe ho hp hs)
        refine ⟨?_, ?_⟩
        · rintro rfl
          rw [e, if_neg Bool.false_ne_true, Res.orNothing_ok, Res.finish_ok, State.writeX_eq]
          rfl
        · rintro v2 rfl ht
          rw [e, if_pos rfl, ht, Res.bind_ok, Res.orNothing_ok, Res.finish_ok, State.writeX_eq]
          rfl
    · intro hr hc ok u hk
      exact exec_qwake hr hf hc hk
    · intro hr hh hc
      exact ⟨_, exec_qrevoke hr hh hf hc, State.wrote_hart_congr (State.raiseFloor_hart ..) .., by simp, by simp⟩
    · intro hr hc
      exact ⟨exec_qgrow_canonical hr hf hc, exec_qgrow_aligned hr hf hc, fun n u => exec_qgrow hr hf hc⟩
    · intro hr hc
      refine ⟨exec_nsub_type hr hf hc, ?_⟩
      intro h1 d hd w0 w1 w2 w3 u hl
      refine ⟨exec_nsub_count hr hf hc h1 hd hl, ?_, ?_⟩
      · intro n v ok y hn hm hrel hp hk
        exact exec_nsub_pushed hr hf hc h1 hd hl hn hm hrel hp hk
      · intro v hn hm hrel hp
        exact exec_nsub_full hr hf hc h1 hd hl hn hm hrel hp
  · intro s t u o a b c d p hr hh hf hfe hc
    exact ⟨fun hk => exec_qseal hr hh hf hfe hc hk, exec_qseal_form hr hh hf hfe hc⟩
  · intro s w v c home pb hu hf hk ho hr rd size claim tail cur pseg flags nseg growpend least
    refine ⟨?_, ?_, ?_, ?_, ?_⟩
    · intro pl ps hps hl first
      refine ⟨ringPush_inLap hu hf hk ho hr hps hl, ?_⟩
      intro h2 next pn hpn slot
      refine ⟨?_, ?_, ?_⟩
      · exact ringPush_next hu hf hk ho hr hps hpn h2 hl
      · exact ringPush_asks hu hf hk ho hr hps hpn h2
      · exact ringPush_full hu hk ho hr hps hpn h2
    · intro j va ph hj h0 hseg p first holds
      refine ⟨fun hn => ?_, fun i hi hlast => ?_⟩
      · exact ringPeek_noSegment hu hk hr hj h0 (fun _ => rfl) hseg fun i hi hh => hn i ⟨hi, hh⟩
      · have hi' : LastSeg first c.lap p 0 nseg (some i) := ⟨⟨Nat.zero_le i, hi.1⟩, hi.2, fun k _ hk hh => hlast k ⟨hk, hh⟩⟩
        have hp := ringPeek_slot hu hk hr hj h0 (fun _ => rfl) hseg hi'
        refine ⟨fun hs => ?_, fun hs => ?_⟩
        · rwa [if_pos hs] at hp
        · rwa [if_neg hs] at hp
    · intro j p hj
      exact ringTake_writes hu hf hk hr hj
    · intro T
      exact ⟨ringWake_below hu ho hr, ringWake_refused hu hk ho hr, ringWake_writes hu hf hk ho hr⟩
    · intro g pg ps hg hp
      exact ⟨ringGrow_most hu hf ho hr, ringGrow_links hu hf ho hr hg hp⟩

end Sys2Proof.Machine
end

section
/-! O55: launches (R39), the start and the end of a gang (R12, R15, R117, R363) and the steps of graphs (R30 to R33, R40).

Most clauses follow a unit's step by the results of its operations. The ends of gangs turn on one fact: the arbiter's steps keep memory, the
jobs and which job each hart belongs to (`KeepsJobs`). -/

namespace Sys2Proof.Machine

theorem State.whenRuns_running {s : State} {die : Nat} (h : (s.dieAt die).run = .running) (a : Answer) : s.whenRuns die a = a := if_pos h
theorem State.whenRuns_not {s : State} {die : Nat} (h : ¬ (s.dieAt die).run = .running) (a : Answer) : s.whenRuns die a = .next s := if_neg h

/-! ## Launch requests -/

section
variable {s : State} {host : Bool} {n : Nat}

theorem exec_launchRequestGo_absent (h : 6 ≤ n ∨ (host = true ∧ 2 ≤ n)) : exec (.launchRequestGo host n) s = .next s :=
  if_pos (by simpa [or_comm] using h)

/-- A request that a unit of the part has: whether it is under way decides its step. -/
theorem exec_launchRequestGo (h : n < 6) (hp : host = true → n < 2) : exec (.launchRequestGo host n) s =
    match s.takenRequest host n with
    | some q => s.whenRuns (requestFrom host n q.words).die (s.serveRequest q)
    | none =>
      if host && !s.hostFn 0 then .next (s.logPort n (dieRecord 1 0 (3 * n) 0x318 0))
      else s.whenRuns (s.requestOf host n).die <|
        if (s.requestOf host n).stray || decide (48 ≤ (s.requestOf host n).stable) || decide (6 ≤ (s.requestOf host n).die) then
          .next (s.setRequest host n false 3)
        else ((s.setRequest host n true 0).takeRequest host n).2.serveRequest ((s.setRequest host n true 0).takeRequest host n).1 := by
  have hb : ¬ ((host && decide (2 ≤ n)) || decide (6 ≤ n)) = true := by
    cases host <;> simp_all
  exact if_neg hb

/-- A request that is taken is under way, with its words as they stood. -/
theorem State.takeRequest_spec (s : State) (host : Bool) (n : Nat) :
    (s.takeRequest host n).2.takenRequest host n = some (s.takeRequest host n).1 ∧
      (s.takeRequest host n).1.words = s.requestWords host n := by
  refine ⟨?_, rfl⟩
  simp [State.takeRequest, State.takenRequest, findBy]

/-- A request goes through its steps as its node and its image are found. -/
theorem State.serveRequest_cases (s : State) (q : TakenLaunch) :
    (∀ v, s.requestNode (requestFrom q.host q.n q.words) q.root = .ok none v → s.serveRequest q = .next (v.endRequest q.host q.n 3)) ∧
    (∀ v, s.requestNode (requestFrom q.host q.n q.words) q.root = .wait v → s.serveRequest q = .next (s.keepAttempt v true)) ∧
    (∀ node v, s.requestNode (requestFrom q.host q.n q.words) q.root = .ok (some node) v →
      (∀ k t, v.offerImage (requestFrom q.host q.n q.words) node q.entry = .ok k t → s.serveRequest q = .next (t.endRequest q.host q.n k)) ∧
      (∀ t, v.offerImage (requestFrom q.host q.n q.words) node q.entry = .wait t → s.serveRequest q = .next (s.keepAttempt t true))) := by
  refine ⟨fun v e => ?_, fun v e => ?_, fun node v e => ⟨fun k t e2 => ?_, fun t e2 => ?_⟩⟩
  · rw [State.serveRequest, e]; rfl
  · rw [State.serveRequest, e]; rfl
  · rw [State.serveRequest, e, Res.bind_ok]; dsimp only; rw [e2]
  · rw [State.serveRequest, e, Res.bind_ok]; dsimp only; rw [e2]

theorem exec_launchRequestGo_results (s : State) (host : Bool) (n : Nat) :
    (6 ≤ n ∨ (host = true ∧ 2 ≤ n) → exec (.launchRequestGo host n) s = .next s) ∧
    (host = true → n < 2 → s.hostFn 0 = false → s.takenRequest host n = none →
      exec (.launchRequestGo host n) s = .next (s.logPort n (dieRecord 1 0 (3 * n) 0x318 0))) ∧
    (n < 6 → (host = true → n < 2) →
      (s.takenRequest host n = none → (host = true → s.hostFn 0 = true) →
        let r := s.requestOf host n; let p := (s.setRequest host n true 0).takeRequest host n;
        (¬ (s.dieAt r.die).run = .running → exec (.launchRequestGo host n) s = .next s) ∧
        ((s.dieAt r.die).run = .running → r.stray = true ∨ 48 ≤ r.stable ∨ 6 ≤ r.die →
          exec (.launchRequestGo host n) s = .next (s.setRequest host n false 3)) ∧
        ((s.dieAt r.die).run = .running → r.stray = false → r.stable < 48 → r.die < 6 →
          exec (.launchRequestGo host n) s = p.2.serveRequest p.1 ∧ p.2.takenRequest host n = some p.1 ∧
          p.1.words = (s.setRequest host n true 0).requestWords host n)) ∧
      (∀ q, s.takenRequest host n = some q → let r := requestFrom host n q.words;
        (¬ (s.dieAt r.die).run = .running → exec (.launchRequestGo host n) s = .next s) ∧
        ((s.dieAt r.die).run = .running → exec (.launchRequestGo host n) s = s.serveRequest q))) := by
  refine ⟨exec_launchRequestGo_absent, fun hh hn hf ht => ?_, fun hn hp => ⟨fun ht hf => ?_, fun q hq => ?_⟩⟩
  · rw [exec_launchRequestGo (by omega) (fun _ => hn), ht]
    simp [hh, hf]
  · have hg : (host && !s.hostFn 0) = false := by cases host <;> simp_all
    rw [exec_launchRequestGo hn hp, ht]
    dsimp only
    rw [hg, if_neg Bool.false_ne_true]
    refine ⟨fun hr => State.whenRuns_not hr _, fun hr hb => ?_, fun hr hs h48 h6 => ?_⟩
    · rw [State.whenRuns_running hr, if_pos (by simpa [or_assoc] using hb)]
    · rw [State.whenRuns_running hr, if_neg (by simp [hs, h48, h6])]
      exact ⟨rfl, State.takeRequest_spec _ host n⟩
  · rw [exec_launchRequestGo hn hp, hq]
    exact ⟨fun hr => State.whenRuns_not hr _, fun hr => State.whenRuns_running hr _⟩

end

/-! ## The harts of a gang -/

section
variable {s t u : State}

theorem State.findHart_id {id : Nat} {h : Hart} (e : s.findHart id = some h) : h.id = id := by
  unfold State.findHart at e
  split at e
  · cases e; assumption
  · simpa using findBy_some e

theorem State.findHart_putHart_other {h : Hart} {id : Nat} (hn : h.id ≠ id) : (s.putHart h).findHart id = s.findHart id := by
  unfold State.putHart
  split
  · rename_i e
    simp [State.findHart, hn, e]
  · unfold State.findHart
    dsimp only
    rw [findBy_putBy_other]
    · simpa using hn
    · intro g hg
      simp only [beq_iff_eq] at hg
      simpa [hg] using hn

theorem State.findHart_onHartId {f : Hart → Hart} (hf : ∀ h, (f h).id = h.id) (id m : Nat) :
    (s.onHartId id f).findHart m = if m = id then (s.findHart m).map f else s.findHart m := by
  unfold State.onHartId
  by_cases hm : m = id
  · subst hm
    rw [if_pos rfl]
    cases e : s.findHart m with
    | none => exact e
    | some h =>
      have hid : (f h).id = m := (hf h).trans (State.findHart_id e)
      simpa [hid] using State.findHart_putHart s (f h)
  · rw [if_neg hm]
    cases e : s.findHart id with
    | none => rfl
    | some h =>
      refine State.findHart_putHart_other ?_
      rw [hf, State.findHart_id e]
      exact Ne.symm hm

/-- A change of each hart of a gang in turn changes each once. -/
theorem State.findHart_foldl_onHartId {f : Hart → Hart} (hf : ∀ h, (f h).id = h.id) {ids : List Nat} (hd : ids.Nodup) (m : Nat) :
    (ids.foldl (fun t id => t.onHartId id f) s).findHart m = if m ∈ ids then (s.findHart m).map f else s.findHart m := by
  induction ids generalizing s with
  | nil => rfl
  | cons id ids ih =>
    obtain ⟨hid, hd⟩ := List.nodup_cons.mp hd
    rw [List.foldl_cons, ih hd, State.findHart_onHartId hf]
    by_cases hm : m = id
    · subst hm; simp [hid]
    · simp [hm]

theorem Hart.loadRegs_id (h : Hart) (xs vs ks zs : List (Nat × Nat)) : (h.loadRegs xs vs ks zs).id = h.id := by
  have keeps {f : Hart → Nat × Nat → Hart} (hf : ∀ g p, (f g p).id = g.id) (l : List (Nat × Nat)) (g : Hart) : (l.foldl f g).id = g.id := by
    induction l generalizing g with
    | nil => rfl
    | cons p l ih => rw [List.foldl_cons, ih, hf]
  unfold Hart.loadRegs
  refine (keeps ?_ zs _).trans ((keeps ?_ ks _).trans ((keeps ?_ vs _).trans (keeps ?_ xs h)))
  · exact fun _ _ => rfl
  · exact fun _ _ => rfl
  · exact fun _ _ => rfl
  · exact fun _ _ => Hart.setX_id ..

/-- A hart as it starts, with the registers of its image (R12). -/
def Hart.started (xs vs ks zs : List (Nat × Nat)) (h : Hart) : Hart := { h.loadRegs xs vs ks zs with run := .running }

theorem State.putHart_pending (h : Hart) : (s.putHart h).pending = s.pending := by
  unfold State.putHart
  split <;> rfl

theorem State.foldl_onHartId_frame (f : Hart → Hart) (ids : List Nat) :
    (ids.foldl (fun t id => t.onHartId id f) s).mem = s.mem ∧ (ids.foldl (fun t id => t.onHartId id f) s).pending = s.pending := by
  induction ids generalizing s with
  | nil => exact ⟨rfl, rfl⟩
  | cons id ids ih =>
    have hp : (s.onHartId id f).pending = s.pending := by
      unfold State.onHartId
      split
      · exact State.putHart_pending _
      · rfl
    rw [List.foldl_cons, ih.1, ih.2, State.onHartId_mem, hp]
    exact ⟨rfl, rfl⟩

theorem State.freshCode_frame (stable : Nat) :
    (s.freshCode stable).mem = s.mem ∧ (s.freshCode stable).pending = s.pending ∧ ∀ m, (s.freshCode stable).findHart m = s.findHart m := by
  unfold State.freshCode
  dsimp only
  split
  · exact ⟨rfl, rfl, fun _ => rfl⟩
  · exact ⟨rfl, rfl, fun _ => rfl⟩

/-- The harts of a gang as it starts (R12). -/
def State.startHarts (s : State) (j : Job) (xs vs ks zs : List (Nat × Nat)) : State :=
  (j.members.map (fun m => m.hart)).foldl (fun t id => t.onHartId id (Hart.started xs vs ks zs)) (s.freshCode j.stable)

theorem State.startHarts_frame (j : Job) (xs vs ks zs : List (Nat × Nat)) :
    (s.startHarts j xs vs ks zs).mem = s.mem ∧ (s.startHarts j xs vs ks zs).pending = s.pending := by
  obtain ⟨hmem, hpend⟩ := State.foldl_onHartId_frame (s := s.freshCode j.stable) (Hart.started xs vs ks zs) (j.members.map (fun m => m.hart))
  obtain ⟨cmem, cpend, -⟩ := State.freshCode_frame (s := s) j.stable
  exact ⟨hmem.trans cmem, hpend.trans cpend⟩

theorem State.findHart_startHarts {j : Job} (hd : (j.members.map (fun m => m.hart)).Nodup) {m : Member} (hm : m ∈ j.members)
    (xs vs ks zs : List (Nat × Nat)) : (s.startHarts j xs vs ks zs).findHart m.hart = (s.findHart m.hart).map (Hart.started xs vs ks zs) := by
  obtain ⟨-, -, cfind⟩ := State.freshCode_frame (s := s) j.stable
  refine (State.findHart_foldl_onHartId (f := Hart.started xs vs ks zs) (fun h => Hart.loadRegs_id h xs vs ks zs) hd m.hart).trans ?_
  rw [cfind, if_pos (List.mem_map_of_mem hm)]

/-- A gang whose harts hold their minimums starts with the registers of its image (R12). -/
theorem exec_admissionGranted_start {r gang : Nat} {j : Job} (hg : nth s.pending r = some gang) (hj : s.jobAt gang = some j)
    (hrun : (s.dieAt (j.stable / 48)).run = .running) (hheld : ∀ m ∈ j.members, ∃ h, s.findHart m.hart = some h ∧ h.csr.leaseMin ≤ h.csr.grant)
    (hd : (j.members.map (fun m => m.hart)).Nodup) {xs vs ks zs : List (Nat × Nat)}
    (hi : s.readImage (unitWho (j.stable / 48) j.ctx j.pgroot) j.image j.vcode j.xdecl j.vdecl j.kdecl j.zdecl = .ok (xs, vs, ks, zs) u) :
    ∃ t, exec (.admissionGranted r) s = .next t ∧ t.pending = dropBy (fun g : Nat => g == gang) u.pending ∧ t.mem = u.mem ∧
      ∀ m ∈ j.members, ∀ h, u.findHart m.hart = some h → t.findHart m.hart = some { h.loadRegs xs vs ks zs with run := .running } := by
  obtain ⟨hmem, hpend⟩ := u.startHarts_frame j xs vs ks zs
  refine ⟨{ u.startHarts j xs vs ks zs with pending := dropBy (fun g : Nat => g == gang) (u.startHarts j xs vs ks zs).pending }, ?_,
    congrArg (dropBy _) hpend, hmem, fun m hm h e => ?_⟩
  · show execAdmissionGranted r s = _
    simp only [execAdmissionGranted, hg, hj]
    refine (State.whenRuns_running hrun _).trans ((if_neg ?_).trans ?_)
    · simp only [Bool.not_eq_true, Bool.not_eq_false', List.all_map, List.all_eq_true, Function.comp_apply]
      intro m hm
      obtain ⟨h, e, hle⟩ := hheld m hm
      simp [e, hle]
    · rw [hi]
      rfl
  · refine (State.findHart_startHarts hd hm xs vs ks zs).trans ?_
    rw [e]
    rfl

theorem exec_admissionGranted_results (s : State) (r : Nat) : (nth s.pending r = none → exec (.admissionGranted r) s = .next s) ∧
    (∀ gang, nth s.pending r = some gang →
      (s.jobAt gang = none → exec (.admissionGranted r) s = .next s) ∧
      (∀ j, s.jobAt gang = some j →
        (¬ (s.dieAt (j.stable / 48)).run = .running ∨ (∃ m ∈ j.members, ∃ h, s.findHart m.hart = some h ∧ h.csr.grant < h.csr.leaseMin) →
          exec (.admissionGranted r) s = .next s) ∧
        (∀ xs vs ks zs u, (s.dieAt (j.stable / 48)).run = .running →
          (∀ m ∈ j.members, ∃ h, s.findHart m.hart = some h ∧ h.csr.leaseMin ≤ h.csr.grant) →
          (j.members.map (fun m => m.hart)).Nodup →
          s.readImage (unitWho (j.stable / 48) j.ctx j.pgroot) j.image j.vcode j.xdecl j.vdecl j.kdecl j.zdecl = .ok (xs, vs, ks, zs) u →
          ∃ t, exec (.admissionGranted r) s = .next t ∧ t.pending = dropBy (fun g : Nat => g == gang) u.pending ∧ t.mem = u.mem ∧
            ∀ m ∈ j.members, ∀ h, u.findHart m.hart = some h → t.findHart m.hart = some { h.loadRegs xs vs ks zs with run := .running }))) := by
  refine ⟨fun hn => ?_, fun gang hg => ⟨fun hj => ?_, fun j hj => ⟨fun hw => ?_, fun xs vs ks zs u hrun hheld hd hi =>
    exec_admissionGranted_start hg hj hrun hheld hd hi⟩⟩⟩ <;> show execAdmissionGranted r s = _
  · simp only [execAdmissionGranted, hn]
  · simp only [execAdmissionGranted, hg, hj]
  · simp only [execAdmissionGranted, hg, hj]
    by_cases hrun : (s.dieAt (j.stable / 48)).run = .running
    · rw [State.whenRuns_running hrun]
      obtain ⟨m, hm, h, e, hlt⟩ := hw.resolve_left (not_not_intro hrun)
      refine if_pos ?_
      simp only [Bool.not_eq_true', List.all_map, List.all_eq_false, Function.comp_apply]
      exact ⟨m, hm, by simp [e]; omega⟩
    · exact State.whenRuns_not hrun _

end

/-! ## The arbiter keeps the jobs -/

/-- `t` has the memory and the jobs of `s`, and each hart that it has belongs to the job that it belongs to in `s`. -/
structure KeepsJobs (s t : State) : Prop where
  mem : t.mem = s.mem
  jobs : t.jobs = s.jobs
  harts : ∀ id, (t.findHart id).map Hart.job = (s.findHart id).map Hart.job

section
variable {s t u : State}

theorem KeepsJobs.refl (s : State) : KeepsJobs s s := ⟨rfl, rfl, fun _ => rfl⟩

theorem KeepsJobs.trans (h : KeepsJobs s t) (k : KeepsJobs t u) : KeepsJobs s u :=
  ⟨k.mem.trans h.mem, k.jobs.trans h.jobs, fun id => (k.harts id).trans (h.harts id)⟩

theorem KeepsJobs.jobAt (h : KeepsJobs s t) (g : Nat) : t.jobAt g = s.jobAt g := by simp only [State.jobAt, h.jobs]

theorem findBy_map {α : Type} {p : α → Bool} {f : α → α} (hp : ∀ a, p (f a) = p a) (l : List α) : findBy p (l.map f) = (findBy p l).map f := by
  induction l with
  | nil => rfl
  | cons a l ih =>
    simp only [List.map_cons, findBy, hp]
    split
    · rfl
    · exact ih

theorem KeepsJobs.mapHarts {f : Hart → Hart} (hid : ∀ h, (f h).id = h.id) (hjob : ∀ h, (f h).job = h.job) : KeepsJobs s (s.mapHarts f) := by
  refine ⟨rfl, rfl, fun id => ?_⟩
  simp only [State.findHart, State.mapHarts, hid]
  split
  · simp [hjob]
  · rw [findBy_map (fun h => by simp [hid]), Option.map_map]
    exact congrArg (fun g => Option.map g _) (funext hjob)

/-- Control registers of some harts change. -/
theorem KeepsJobs.mapCsr (p : Hart → Bool) (c : Hart → Csrs) : KeepsJobs s (s.mapHarts (fun h => if p h then { h with csr := c h } else h)) :=
  .mapHarts (fun h => by split <;> rfl) (fun h => by split <;> rfl)

theorem KeepsJobs.putHart {g h : Hart} (e : s.findHart h.id = some g) (hjob : h.job = g.job) : KeepsJobs s (s.putHart h) := by
  refine ⟨State.putHart_mem .., by unfold State.putHart; split <;> rfl, fun id => ?_⟩
  by_cases hi : h.id = id
  · subst hi; rw [State.findHart_putHart, e]; simp [hjob]
  · rw [State.findHart_putHart_other hi]

/-- A hart that is found is put back with its id and its job. -/
theorem KeepsJobs.putFound {id : Nat} {g h : Hart} (e : s.findHart id = some g) (hid : h.id = g.id) (hjob : h.job = g.job) :
    KeepsJobs s (s.putHart h) :=
  .putHart (by rw [hid, State.findHart_id e]; exact e) hjob

theorem KeepsJobs.foldl {α : Type} {f : State → α → State} (hf : ∀ s a, KeepsJobs s (f s a)) (l : List α) : KeepsJobs s (l.foldl f s) := by
  induction l generalizing s with
  | nil => exact .refl s
  | cons a l ih => exact (hf s a).trans ih

theorem State.retarget_keepsJobs (s : State) (n : Nat) : KeepsJobs s (s.retarget n) := by
  unfold State.retarget
  exact .mapCsr _ _

theorem State.applyGrant_keepsJobs (s : State) (id : Nat) : KeepsJobs s (s.applyGrant id) := by
  unfold State.applyGrant
  split
  · exact .refl s
  · rename_i h e
    dsimp only
    generalize (if h.csr.target ≤ h.csr.grant then _ else _ : Nat) = new
    split
    · exact .refl s
    · split
      · exact .putFound e rfl rfl
      · exact .putFound e rfl rfl

theorem State.dealFree_keepsJobs (s : State) (n : Nat) : KeepsJobs s (s.dealFree n) := .foldl (fun t (h : Hart) => t.applyGrant_keepsJobs h.id) _

theorem State.setRetired_keepsJobs (s : State) (n : Nat) (r : BitVec 16) : KeepsJobs s (s.setRetired n r) := by
  unfold State.setRetired
  exact .trans (t := s.putStable { s.stableAt n with retired := r }) ⟨rfl, rfl, fun _ => rfl⟩ (.mapCsr _ _)

theorem State.retireClusters_keepsJobs (s : State) (n : Nat) : KeepsJobs s (s.retireClusters n) := by
  unfold State.retireClusters
  dsimp only
  split
  · exact .refl s
  · exact s.setRetired_keepsJobs ..

theorem State.push_keepsJobs (s : State) (l : List Instr) : KeepsJobs s (s.push l) := ⟨rfl, rfl, fun _ => rfl⟩

theorem State.retryPending_keepsJobs (s : State) : KeepsJobs s s.retryPending := s.push_keepsJobs _

theorem State.boundary_keepsJobs (s : State) (id : Nat) : KeepsJobs s (s.boundary id) := by
  unfold State.boundary
  split
  · exact .refl s
  · rename_i h e
    split
    · have hhold : KeepsJobs s (if (h.hold && !h.inLoop) = true then s.putHart { h with hold := false } else s) := by
        split
        · exact .putFound e rfl rfl
        · exact .refl s
      exact hhold.trans ((State.applyGrant_keepsJobs ..).trans ((State.retireClusters_keepsJobs ..).trans
        ((State.dealFree_keepsJobs ..).trans (State.retryPending_keepsJobs _))))
    · exact .refl s

/-- What follows the end of a job: marked clusters retire, the targets are set anew and free clusters are dealt (R55, R216). -/
theorem State.arbitrate_keepsJobs (s : State) (n : Nat) : KeepsJobs s (((s.retireClusters n).retarget n).dealFree n) :=
  (s.retireClusters_keepsJobs n).trans ((State.retarget_keepsJobs ..).trans (State.dealFree_keepsJobs ..))

/-! ## A hart that halts (R117, R310) -/

theorem anyBy_eq_false {α : Type} {p : α → Bool} {l : List α} (h : ∀ a ∈ l, p a = false) : anyBy p l = false := by
  induction l with
  | nil => rfl
  | cons a l ih =>
    rw [List.forall_mem_cons] at h
    rw [anyBy, h.1, ih h.2]
    rfl

theorem State.jobAt_gang {g : Nat} {j : Job} (e : s.jobAt g = some j) : j.gang = g := by simpa using findBy_some e

/-- A job after its hart `h` has halted and that member has left the gang barrier. -/
def Job.halted (j : Job) (h member : Nat) : Job :=
  ({ j with members := j.members.map (fun m : Member => if m.hart = h then { m with halted := true } else m) }).leave member

theorem Job.halted_frame (j : Job) (h member : Nat) : (j.halted h member).gang = j.gang ∧
    (j.halted h member).members = j.members.map (fun m => if m.hart = h then { m with halted := true } else m) ∧
    (j.halted h member).mask = j.mask &&& ~~~(1#8 <<< member) := by
  have settle (k : Job) : k.settle.gang = k.gang ∧ k.settle.members = k.members ∧ k.settle.mask = k.mask := by
    unfold Job.settle
    split <;> exact ⟨rfl, rfl, rfl⟩
  exact settle _

/-- A hart that halts leaves the gang barrier. -/
theorem exec_hartHaltComplete_leaves {h g : Nat} {j : Job} (hlt : h < 2310) (hh : h = s.hart.id) (hrun : (s.dieAt s.hart.die).run = .running)
    (hg : s.hart.job = some g) (hj : s.jobAt g = some j) (hidle : s.hart.idle = true)
    (hm : ∀ m ∈ j.members, m.hart = h → m.halted = false) :
    ∃ t k, exec (.hartHaltComplete h) s = .next t ∧ t.jobAt g = some k ∧
      k.members = j.members.map (fun m => if m.hart = h then { m with halted := true } else m) ∧
      k.mask = j.mask &&& ~~~(1#8 <<< s.hart.csr.member) ∧ t.mem = s.mem := by
  obtain ⟨kgang, kmembers, kmask⟩ := j.halted_frame h s.hart.csr.member
  generalize hk : j.halted h s.hart.csr.member = k at *
  have hput : (s.putJob k).jobAt g = some k := by rw [← State.jobAt_gang hj, ← kgang]; exact State.jobAt_putJob s k
  have hb : KeepsJobs (s.putJob k) (((s.putJob k).retarget s.hart.stable).boundary h) :=
    (State.retarget_keepsJobs ..).trans (State.boundary_keepsJobs ..)
  have hany : anyBy (fun m : Member => m.hart == h && m.halted) j.members = false := anyBy_eq_false fun m hm' => by
    by_cases e : m.hart = h <;> simp [e, hm m hm']
  have hexec : exec (.hartHaltComplete h) s = .next (if (j.members.map (fun m => if m.hart = h then { m with halted := true } else m)).all
      (fun m => m.halted) then (((s.putJob k).retarget s.hart.stable).boundary h).push [.jobComplete g]
      else ((s.putJob k).retarget s.hart.stable).boundary h) := by
    show execHartHaltComplete h s = _
    have hf : s.findHart h = some s.hart := by rw [hh]; exact s.findHart_focus
    simp only [execHartHaltComplete, if_neg (Nat.not_le.mpr hlt), hf, hg, hj]
    rw [State.whenRuns_running hrun, hany, hidle, if_neg (by decide), ← hk]
    rfl
  split at hexec
  · exact ⟨_, k, hexec, (hb.trans (State.push_keepsJobs ..)).jobAt g ▸ hput, kmembers, kmask, hb.mem⟩
  · exact ⟨_, k, hexec, hb.jobAt g ▸ hput, kmembers, kmask, hb.mem⟩

theorem exec_hartHaltComplete_none {h : Nat} (hlt : h < 2310) (hh : h = s.hart.id) (hn : s.hart.job = none) :
    exec (.hartHaltComplete h) s = .next s := by
  have hf : s.findHart h = some s.hart := by rw [hh]; exact s.findHart_focus
  show execHartHaltComplete h s = _
  simp only [execHartHaltComplete, if_neg (Nat.not_le.mpr hlt), hf, hn]

/-! ## The end of a gang (R15, R363) -/

/-- No hart of that id belongs to a job. -/
def Released (s : State) (id : Nat) : Prop := ∀ h, s.findHart id = some h → h.job = none

theorem Released.keep {id : Nat} (hr : Released s id) (h : KeepsJobs s t) : Released t id := by
  intro g e
  have hg := h.harts id
  rw [e] at hg
  cases e' : s.findHart id with
  | none => simp [e'] at hg
  | some g' =>
    rw [e'] at hg
    exact (Option.some.inj hg).trans (hr g' e')

theorem State.findHart_freeHart_other {id m : Nat} (hn : m ≠ id) : (s.freeHart id).findHart m = s.findHart m := by
  unfold State.freeHart
  dsimp only
  split
  · rename_i e
    have hid : (Hart.reset id).id = id := rfl
    simp [State.findHart, hid, e, hn.symm]
  · unfold State.findHart
    dsimp only
    rw [findBy_dropBy_other]
    intro a ha
    simp only [beq_iff_eq] at ha
    simpa [ha] using hn.symm

theorem State.freeHart_released (s : State) (id : Nat) : Released (s.freeHart id) id := by
  intro h e
  unfold State.freeHart at e
  dsimp only at e
  split at e
  · have hid : (Hart.reset id).id = id := rfl
    simp only [State.findHart, hid, if_true, Option.some.injEq] at e
    rw [← e]
    rfl
  · rename_i hn
    simp only [State.findHart, hn, if_false, findBy_dropBy_same] at e
    cases e

theorem Released.freeHart {m : Nat} (hr : Released s m) (id : Nat) : Released (s.freeHart id) m := by
  by_cases e : m = id
  · exact e ▸ s.freeHart_released id
  · intro h eh
    exact hr h (by rwa [State.findHart_freeHart_other e] at eh)

/-- All harts of a gang are released one after the other; memory stands. -/
theorem State.freeHarts_spec (ms : List Member) : (ms.foldl (fun t m => t.freeHart m.hart) s).mem = s.mem ∧
    (∀ m ∈ ms, Released (ms.foldl (fun t m => t.freeHart m.hart) s) m.hart) ∧
    ∀ id, Released s id → Released (ms.foldl (fun t m => t.freeHart m.hart) s) id := by
  induction ms generalizing s with
  | nil => exact ⟨rfl, by simp, fun _ h => h⟩
  | cons m ms ih =>
    obtain ⟨hmem, hall, hkeep⟩ := ih (s := s.freeHart m.hart)
    refine ⟨hmem.trans (by unfold State.freeHart; dsimp only; split <;> rfl), ?_, fun id h => hkeep id (h.freeHart _)⟩
    rw [List.forall_mem_cons]
    exact ⟨hkeep _ (s.freeHart_released _), hall⟩

theorem State.dropJob_spec (j : Job) : (s.dropJob j).jobAt j.gang = none ∧ (s.dropJob j).mem = s.mem ∧
    ∀ m ∈ j.members, Released (s.dropJob j) m.hart := by
  obtain ⟨hmem, hall, -⟩ := State.freeHarts_spec (s := s) j.members
  have hk := State.arbitrate_keepsJobs { j.members.foldl (fun t m => t.freeHart m.hart) s with
    jobs := dropBy (fun k : Job => k.gang == j.gang) (j.members.foldl (fun t m => t.freeHart m.hart) s).jobs
    pending := dropBy (fun g : Nat => g == j.gang) (j.members.foldl (fun t m => t.freeHart m.hart) s).pending } j.stable
  refine ⟨(hk.jobAt j.gang).trans (findBy_dropBy_same _ _), hk.mem.trans hmem, fun m hm => Released.keep ?_ hk⟩
  exact hall m hm

theorem layout_none (start vcode : Nat) : layout start vcode 0#32 0#32 0#8 0#2 = ([], [], [], [], start) := by
  simp [layout, fileSection, show declared 0#32 = [] from by decide, show declared 0#8 = [] from by decide, show declared 0#2 = [] from by decide]

/-- A job that names no registers to spill stores nothing. -/
theorem State.spillAll_none {w : Who} {j : Job} (hx : j.xspill = 0#32) (hv : j.vspill = 0#32) (hk : j.kspill = 0#8) (hz : j.zspill = 0#2)
    (size : Nat) (ms : List Member) : s.spillAll w j size ms = .ok () s := by
  induction ms with
  | nil => rfl
  | cons m ms ih =>
    have hone (base : Nat) (h : Hart) : s.spillHart w j base h = .ok () s := by
      simp [State.spillHart, hx, hv, hk, hz, layout_none, State.storeRegs]
    rw [State.spillAll]
    split
    · exact ih
    · dsimp only
      rw [hone, Res.bind_ok, ih]

theorem State.signal_zero (w : Who) (v : BitVec 8) : s.signal w 0 v = .ok () s := if_pos rfl

end

section
variable {s t u : State} {g : Nat} {j : Job}

/-- The end of a job without a node whose signal address is 0 and which spills nothing (R15). -/
theorem exec_jobComplete_frees (hj : s.jobAt g = some j) (hrun : (s.dieAt (j.stable / 48)).run = .running) (hsig : j.sigaddr = 0)
    (hnode : j.node = none) (hend : j.ending = false)
    (hdone : ∀ m ∈ j.members, m.halted = true ∧ ∀ h, s.findHart m.hart = some h → h.idle = true)
    (hx : j.xspill = 0#32) (hv : j.vspill = 0#32) (hk : j.kspill = 0#8) (hz : j.zspill = 0#2) :
    exec (.jobComplete g) s = .next (s.dropJob j).retryPending := by
  have hall : (!j.ending && j.members.all (fun m => m.halted && (match s.findHart m.hart with | some h => h.idle | none => true))) = true := by
    simp only [hend, Bool.not_false, Bool.true_and, List.all_eq_true, Bool.and_eq_true]
    intro m hm
    refine ⟨(hdone m hm).1, ?_⟩
    split
    · rename_i h e
      exact (hdone m hm).2 h e
    · rfl
  show execJobComplete g s = _
  simp only [execJobComplete, hj]
  refine (State.whenRuns_running hrun _).trans ((if_neg ?_).trans ?_)
  · rw [Bool.not_eq_true, Bool.not_eq_false']
    exact hall
  · rw [State.spillAll_none hx hv hk hz, Res.bind_ok, hsig, State.signal_zero]
    simp only [hnode]

theorem exec_jobComplete_waits (hj : s.jobAt g = some j)
    (hw : ¬ (s.dieAt (j.stable / 48)).run = .running ∨ (∃ m ∈ j.members, m.halted = false) ∨ j.ending = true) :
    exec (.jobComplete g) s = .next s := by
  show execJobComplete g s = _
  simp only [execJobComplete, hj]
  by_cases hrun : (s.dieAt (j.stable / 48)).run = .running
  · refine (State.whenRuns_running hrun _).trans (if_pos ?_)
    rw [Bool.not_eq_true', Bool.and_eq_false_iff]
    rcases hw.resolve_left (not_not_intro hrun) with ⟨m, hm, hh⟩ | he
    · exact .inr (List.all_eq_false.mpr ⟨m, hm, by simp [hh]⟩)
    · exact .inl (by rw [he]; rfl)
  · exact State.whenRuns_not hrun _

/-- The harts that have the transfer phase of an `MDRAIN` under way (R213). -/
def State.openDrains (s : State) (ids : List Nat) : List Nat :=
  ids.filter (fun id => match s.findHart id with | some h => h.bridle.any (fun t => t.isDrain && !t.held) | none => false)

/-- Recovery ends a job: its record of class 9 is made, and its harts and its scratchpad are free (R363). -/
def State.recovered (s : State) (k : Job) : State :=
  let t := s.logAll { dieRecord 9 0 (k.stable / 48) k.image 0 with ctx := k.ctx }
  let t := k.members.foldl (fun t m => t.freeHart m.hart) t
  let t := t.putJob { k with ending := true, members := [], spbytes := 0, pad := [] }
  { t with pending := dropBy (fun g : Nat => g == k.gang) t.pending }

theorem State.recovered_spec (j : Job) : (s.recovered j).mem = s.mem ∧ ∀ m ∈ j.members, Released (s.recovered j) m.hart := by
  obtain ⟨hmem, hall, -⟩ := State.freeHarts_spec (s := s.logAll { dieRecord 9 0 (j.stable / 48) j.image 0 with ctx := j.ctx }) j.members
  exact ⟨hmem, hall⟩

/-- The last part of the end of a job by recovery, in a state `v` where its harts are free: the signal, the job's node, and the removal (R363). -/
def State.signalEnd (v : State) (k : Job) (g : Nat) : Answer :=
  let fin (t : State) : State :=
    let t := { t with jobs := dropBy (fun q : Job => q.gang == g) t.jobs }
    (match k.node with | some p => t.endNode p false | none => t).retryPending
  match v.signal (unitWho (k.stable / 48) k.ctx k.pgroot) k.sigaddr k.sigval with
  | .ok _ t => .next (fin t)
  | .wait t => .next (v.keepAttempt t true)
  | .stop c t => .next (fin (t.record10 (k.stable / 48) k.ctx c k.image))

/-- A job without a node whose signal address is 0 is removed. -/
theorem State.signalEnd_silent (v : State) (hsig : j.sigaddr = 0) (hnode : j.node = none) :
    v.signalEnd j g = .next ({ v with jobs := dropBy (fun q : Job => q.gang == g) v.jobs } : State).retryPending := by
  simp only [State.signalEnd, hsig, State.signal_zero, hnode]

/-- A job without a node whose signal address is 0 ends by recovery once its drains have ended (R363). -/
theorem exec_jobEndByRecovery_frees (hj : s.jobAt g = some j) (hrun : (s.dieAt (j.stable / 48)).run = .running) (hsig : j.sigaddr = 0)
    (hnode : j.node = none) (hend : j.ending = false) (hu : (j.members.map (fun m => m.hart)).foldl State.endHart s = u)
    (hd : u.openDrains (j.members.map (fun m => m.hart)) = []) {v : State}
    (hv : (((u.recovered j).retireClusters j.stable).retarget j.stable).dealFree j.stable = v) :
    exec (.jobEndByRecovery g) s = .next ({ v with jobs := dropBy (fun q : Job => q.gang == g) v.jobs } : State).retryPending := by
  show execJobEndByRecovery g s = _
  simp only [execJobEndByRecovery, hj]
  refine (State.whenRuns_running hrun _).trans ((if_neg ?_).trans ?_)
  · rw [hu, Bool.not_eq_true, Bool.not_eq_false', List.isEmpty_iff]
    exact hd
  · rw [hend, hu, if_neg Bool.false_ne_true, ← State.signalEnd_silent v hsig hnode, ← hv]
    rfl

theorem exec_jobEndByRecovery_drains (hj : s.jobAt g = some j) (hrun : (s.dieAt (j.stable / 48)).run = .running)
    (hu : (j.members.map (fun m => m.hart)).foldl State.endHart s = u) (hd : u.openDrains (j.members.map (fun m => m.hart)) ≠ []) :
    exec (.jobEndByRecovery g) s = .next ((u.drainHarts (u.openDrains (j.members.map (fun m => m.hart)))).push [.jobEndByRecovery g]) := by
  show execJobEndByRecovery g s = _
  simp only [execJobEndByRecovery, hj]
  refine (State.whenRuns_running hrun _).trans ((if_pos ?_).trans ?_)
  · rw [hu, Bool.not_eq_true', List.isEmpty_eq_false_iff]
    exact hd
  · rw [hu]
    rfl

theorem exec_jobEnd_results (s : State) (g : Nat) :
    (s.jobAt g = none → exec (.jobComplete g) s = .next s ∧ exec (.jobEndByRecovery g) s = .next s) ∧
    (∀ j, s.jobAt g = some j → let ids := j.members.map (fun m => m.hart); let u := ids.foldl State.endHart s
      let drains := ids.filter (fun id => match u.findHart id with | some h => h.bridle.any (fun t => t.isDrain && !t.held) | none => false);
      (¬ (s.dieAt (j.stable / 48)).run = .running ∨ (∃ m ∈ j.members, m.halted = false) ∨ j.ending = true → exec (.jobComplete g) s = .next s) ∧
      ((s.dieAt (j.stable / 48)).run = .running → drains ≠ [] →
        exec (.jobEndByRecovery g) s = .next ((u.drainHarts drains).push [.jobEndByRecovery g])) ∧
      ((s.dieAt (j.stable / 48)).run = .running → j.sigaddr = 0 → j.node = none → j.ending = false →
        ((∀ m ∈ j.members, m.halted = true ∧ ∀ h, s.findHart m.hart = some h → h.idle = true) →
          j.xspill = 0#32 → j.vspill = 0#32 → j.kspill = 0#8 → j.zspill = 0#2 →
          ∃ t, exec (.jobComplete g) s = .next t ∧ t.jobAt g = none ∧ t.mem = s.mem ∧
            ∀ m ∈ j.members, ∀ h, t.findHart m.hart = some h → h.job = none) ∧
        (drains = [] → ∃ t, exec (.jobEndByRecovery g) s = .next t ∧ t.jobAt g = none ∧ t.mem = u.mem ∧
          ∀ m ∈ j.members, ∀ h, t.findHart m.hart = some h → h.job = none))) := by
  refine ⟨fun hn => ⟨?_, ?_⟩, fun j hj => ?_⟩
  · show execJobComplete g s = _
    simp only [execJobComplete, hn]
  · show execJobEndByRecovery g s = _
    simp only [execJobEndByRecovery, hn]
  intro ids u drains
  refine ⟨exec_jobComplete_waits hj, fun hrun hd => exec_jobEndByRecovery_drains hj hrun rfl hd, fun hrun hsig hnode hend =>
    ⟨fun hdone hx hv hk hz => ⟨_, exec_jobComplete_frees hj hrun hsig hnode hend hdone hx hv hk hz, ?_⟩, fun hd =>
      ⟨_, exec_jobEndByRecovery_frees hj hrun hsig hnode hend rfl hd rfl, ?_⟩⟩⟩
  · obtain ⟨hjob, hmem, hrel⟩ := s.dropJob_spec j
    have hp := (s.dropJob j).retryPending_keepsJobs
    rw [State.jobAt_gang hj] at hjob
    exact ⟨(hp.jobAt g).trans hjob, hp.mem.trans hmem, fun m hm => (hrel m hm).keep hp⟩
  · obtain ⟨hmem, hrel⟩ := u.recovered_spec j
    have hk := (u.recovered j).arbitrate_keepsJobs j.stable
    have hfree (m : Member) (hm : m ∈ j.members) :
        Released ((((u.recovered j).retireClusters j.stable).retarget j.stable).dealFree j.stable) m.hart :=
      (hrel m hm).keep hk
    exact ⟨findBy_dropBy_same _ _, hk.mem.trans hmem, hfree⟩

end

section
variable {s t u : State} {g n : Nat} {q : Graph}

/-! ## Submissions (R30) -/

theorem State.graphAt_n (e : s.graphAt g = some q) : q.n = g := by simpa using findBy_some e

theorem State.graphAt_dropGraph (s : State) (g : Nat) : (s.dropGraph g).graphAt g = none := findBy_dropBy_same _ _

theorem State.agentEvent_nextGraph (s : State) (fn cause die ctx : Nat) (value detail : Word) :
    (s.agentEvent fn cause die ctx value detail).nextGraph = s.nextGraph := by
  unfold State.agentEvent State.postEvent
  dsimp only
  split
  · split <;> rfl
  · rfl

/-- A completion record with no ring to go to leaves nothing of its graph. -/
theorem State.pushCompletion_none (s : State) (h : q.compl = 0) : s.pushCompletion q = s.dropGraph q.n := if_pos h

/-- A graph all of whose nodes have ended is gone where it has no completion ring (R33). -/
theorem State.settleGraph_done (s : State) (h : q.done + q.failed = q.count) (hc : q.compl = 0) : s.settleGraph q = s.dropGraph q.n :=
  (if_pos h).trans (s.pushCompletion_none hc)

/-- A submission of no nodes with no completion ring leaves no graph. -/
theorem State.startGraph_empty {die slot : Nat} {c : Cap} {pl : List Nat} (hk : (nth pl 1).getD 0 % 2 ^ 32 = 0) (hc : (nth pl 2).getD 0 = 0) :
    u.startGraph die c slot pl =
      .ok ((({ u with nextGraph := u.nextGraph + 1 } : State).agentEvent 0 0xAA die c.owner (BitVec.ofNat 64 slot) 0#64).dropGraph u.nextGraph)
        { u with nextGraph := u.nextGraph + 1 } := by
  unfold State.startGraph
  simp only [hk, true_or, if_true]
  exact congrArg (Res.ok · _) (State.settleGraph_done (q := Graph.mk ..) _ rfl hc)

theorem exec_graphSubmissionPop_results (s : State) (ring : Nat) : (nth s.rings ring = none → exec (.graphSubmissionPop ring) s = .next s) ∧
    (∀ die c, nth s.rings ring = some (die, c) → (s.dieAt die).run = .running →
      (∀ u, s.popSlot (unitWho die c.owner 0#64) c = .ok none u → exec (.graphSubmissionPop ring) s = .next u) ∧
      (∀ slot pl u t x, s.popSlot (unitWho die c.owner 0#64) c = .ok (some (slot, pl)) u → u.startGraph die c slot pl = .ok t x →
        exec (.graphSubmissionPop ring) s = .next t) ∧
      (∀ slot pl u, let k := (nth pl 1).getD 0;
        s.popSlot (unitWho die c.owner 0#64) c = .ok (some (slot, pl)) u → k % 2 ^ 32 = 0 → (nth pl 2).getD 0 = 0 → u.graphAt u.nextGraph = none →
        ∃ t, exec (.graphSubmissionPop ring) s = .next t ∧ t.graphAt u.nextGraph = none ∧ t.nextGraph = u.nextGraph + 1 ∧ t.mem = u.mem)) := by
  refine ⟨fun hn => ?_, fun die c hc hrun => ?_⟩
  · show execGraphSubmissionPop ring s = _
    simp only [execGraphSubmissionPop, hn]
  have popped {slot : Nat} {pl : List Nat} {u t x : State} (hp : s.popSlot (unitWho die c.owner 0#64) c = .ok (some (slot, pl)) u)
      (ht : u.startGraph die c slot pl = .ok t x) : exec (.graphSubmissionPop ring) s = .next t := by
    show execGraphSubmissionPop ring s = _
    simp only [execGraphSubmissionPop, hc]
    rw [State.whenRuns_running hrun, hp, Res.bind_ok]
    dsimp only
    rw [ht]
  refine ⟨fun u hp => ?_, fun slot pl u t x => popped, ?_⟩
  · show execGraphSubmissionPop ring s = _
    simp only [execGraphSubmissionPop, hc]
    rw [State.whenRuns_running hrun, hp, Res.bind_ok]
  · intro slot pl u k hp hk hcompl _
    exact ⟨_, popped hp (State.startGraph_empty hk hcompl), State.graphAt_dropGraph .., State.agentEvent_nextGraph .., State.agentEvent_mem ..⟩

/-! ## Nodes (R31, R32, R40) -/

/-- A walker's operation on a node, by what the operation answers. -/
theorem State.walkNode_ok {die : Nat} {f : State → Who → Res State} {w : Who} (hu : s.unitOf die q.ctx = (some w, u)) {v x : State}
    (hf : f u w = .ok v x) : s.walkNode q n die f = v := by simp only [State.walkNode, hu, hf]

theorem State.walkNode_stop {die : Nat} {f : State → Who → Res State} {w : Who} (hu : s.unitOf die q.ctx = (some w, u)) {c : Stop} {v : State}
    (hf : f u w = .stop c v) :
    s.walkNode q n die f = (((s.keepAttempt v false).record10 die q.ctx c (q.va n)).putGraph (q.run n die)).endNode (q.n, n) false := by
  simp only [State.walkNode, hu, hf]

theorem exec_nodeStart_walks {die : Nat} (hq : s.graphAt g = some q) (hr : findBy (fun p : Nat × Nat => p.1 == n) q.ready = some (n, die))
    (hrun : (s.dieAt die).run = .running) :
    exec (.nodeStart g n) s = .next (s.walkNode q n die (fun t w => t.startNode w q n die)) := by
  show execNodeStart g n s = _
  simp only [execNodeStart, hq, hr]
  exact State.whenRuns_running hrun _

theorem exec_readyRingPost_posts {die : Nat} (hq : s.graphAt g = some q) (hr : findBy (fun p : Nat × Nat => p.1 == n) q.ready = some (n, die))
    (hrun : (s.dieAt die).run = .running) {w : Who} (hu : s.unitOf die q.ctx = (some w, u)) {y : GNode} {v : State}
    (hy : u.readNode w q n = .ok y v) (htype : y.type = 1) (hfn : v.hostFn 0 = false) (hfree : (v.dieAt die).readyFree = true) :
    exec (.readyRingPost g n) s =
      .next ((v.postReady die (q.va n) y.work q.ctx).putGraph { q with ready := dropKey n q.ready, offered := q.offered ++ [(n, die)] }) := by
  show execReadyRingPost g n s = _
  simp only [execReadyRingPost, hq, hr]
  refine (State.whenRuns_running hrun _).trans (congrArg _ (State.walkNode_ok (x := v) hu ?_))
  rw [hy, Res.bind_ok, if_neg (by simp [htype, hfn, hfree])]

/-- A graph, or a node in its lists, that does not exist has no steps. -/
theorem exec_graph_none (s : State) {g : Nat} (n : Nat) (h : s.graphAt g = none) :
    exec (.nodeStart g n) s = .next s ∧ exec (.readyRingPost g n) s = .next s ∧ exec (.remoteSuccessorReady g n) s = .next s ∧
      exec (.nodeFinish g n) s = .next s ∧ exec (.completionPushRetry g) s = .next s := by
  refine ⟨?_, ?_, ?_, ?_, ?_⟩
  · show execNodeStart g n s = _; simp only [execNodeStart, h]
  · show execReadyRingPost g n s = _; simp only [execReadyRingPost, h]
  · show execRemoteSuccessorReady g n s = _; simp only [execRemoteSuccessorReady, h]
  · show execNodeFinish g n s = _; simp only [execNodeFinish, h]
  · show execCompletionPushRetry g s = _; simp only [execCompletionPushRetry, h]

theorem exec_node_notReady (hq : s.graphAt g = some q) (h : findBy (fun p : Nat × Nat => p.1 == n) q.ready = none) :
    exec (.nodeStart g n) s = .next s ∧ exec (.readyRingPost g n) s = .next s := by
  refine ⟨?_, ?_⟩
  · show execNodeStart g n s = _; simp only [execNodeStart, hq, h]
  · show execReadyRingPost g n s = _; simp only [execReadyRingPost, hq, h]

theorem exec_remoteSuccessorReady_none (hq : s.graphAt g = some q) (h : findBy (fun p : Nat × Nat => p.1 == n) q.remote = none) :
    exec (.remoteSuccessorReady g n) s = .next s := by
  show execRemoteSuccessorReady g n s = _; simp only [execRemoteSuccessorReady, hq, h]

theorem exec_remoteSuccessorReady_readies (hq : s.graphAt g = some q) {p : Nat × Nat}
    (hp : findBy (fun p : Nat × Nat => p.1 == n) q.remote = some p) (hrun : (s.dieAt p.2).run = .running) :
    exec (.remoteSuccessorReady g n) s =
      .next ((s.putGraph { q with remote := dropKey n q.remote, ready := q.ready ++ [p] }).push [.nodeStart g n]) := by
  show execRemoteSuccessorReady g n s = _
  simp only [execRemoteSuccessorReady, hq, hp]
  exact State.whenRuns_running hrun _

theorem exec_nodeFinish_none (hq : s.graphAt g = some q) (h : findBy (fun p : Nat × Bool => p.1 == n) q.ended = none) :
    exec (.nodeFinish g n) s = .next s := by
  show execNodeFinish g n s = _; simp only [execNodeFinish, hq, h]

theorem exec_nodeFinish_ends {ok : Bool} {die : Nat} (hq : s.graphAt g = some q)
    (he : findBy (fun p : Nat × Bool => p.1 == n) q.ended = some (n, ok)) (hr : findBy (fun p : Nat × Nat => p.1 == n) q.running = some (n, die))
    (hrun : (s.dieAt die).run = .running) {w : Who} (hu : s.unitOf die q.ctx = (some w, u)) {x : State}
    (hf : (if ok then u.finishNode w q n die else u.failNode w q n) = .ok t x) : exec (.nodeFinish g n) s = .next t := by
  show execNodeFinish g n s = _
  simp only [execNodeFinish, hq, he, hr]
  rw [State.whenRuns_running hrun, hu]
  dsimp only
  rw [hf]

/-! ## Completion records (R33) -/

theorem exec_completionPushRetry_idle (hq : s.graphAt g = some q) (hr : q.retry = false) : exec (.completionPushRetry g) s = .next s := by
  show execCompletionPushRetry g s = _
  simp only [execCompletionPushRetry, hq, hr]
  exact ite_self _

theorem exec_completionPushRetry_pushes (hq : s.graphAt g = some q) (hrun : (s.dieAt q.die).run = .running) (hr : q.retry = true) :
    exec (.completionPushRetry g) s = .next (s.pushCompletion q) := by
  show execCompletionPushRetry g s = _
  simp only [execCompletionPushRetry, hq, hr]
  exact State.whenRuns_running hrun _

/-- A completion record that cannot be pushed: the fault is reported and recorded, and the graph is gone. -/
def State.failCompletion (s : State) (q : Graph) (c : Stop) : State :=
  ((s.agentEvent 0 c.cause q.die q.ctx (BitVec.ofNat 64 q.compl) 0#64).record10 q.die q.ctx c q.compl).dropGraph q.n

/-- The push of a completion record. -/
def State.completionPush (s : State) (w : Who) (q : Graph) : Res (Option Nat) :=
  (s.presentTyped w (BitVec.ofNat 64 q.compl) [.push, .wake] 2).bind fun c s =>
    (s.ringPush w c ([q.tag.toNat, q.done % 2 ^ 32 + q.failed % 2 ^ 32 * 2 ^ 32] ++ List.replicate (2 ^ c.lgsize / 8 - 3) 0)).bind fun p s =>
      match p with
      | none => .ok none s
      | some n => (s.ringWake w c (n + 1)).bind fun _ s => .ok (some n) s

theorem State.pushCompletion_noUnit (hc : q.compl ≠ 0) (hu : s.unitOf q.die q.ctx = (none, u)) :
    s.pushCompletion q = u.failCompletion q (stopAt 0x41 q.compl) := by
  rw [State.pushCompletion, if_neg hc, hu]
  rfl

theorem State.pushCompletion_unit (hc : q.compl ≠ 0) {w : Who} (hu : s.unitOf q.die q.ctx = (some w, u)) :
    s.pushCompletion q =
      match u.completionPush w q with
      | .ok (some _) t => t.dropGraph q.n
      | .ok none t => t.putGraph { q with retry := true }
      | .stop c t => (u.keepAttempt t false).failCompletion q c
      | .wait t => (u.keepAttempt t true).putGraph { q with retry := true } := by
  rw [State.pushCompletion, if_neg hc, hu]
  show (match (u.completionPush w q).orNothing u with
    | .ok (some _) t => t.dropGraph q.n
    | .ok none t => t.putGraph { q with retry := true }
    | .stop c t => t.failCompletion q c
    | .wait t => t.putGraph { q with retry := true }) = _
  cases u.completionPush w q with
  | ok a t => cases a <;> rfl
  | stop c t => rfl
  | wait t => rfl

/-- The walker tries a completion record again (R33): pushed, its graph is gone; a ring still full leaves it; a fault is reported and
recorded. -/
theorem exec_completionPushRetry_results (hq : s.graphAt g = some q) (hrun : (s.dieAt q.die).run = .running) (hr : q.retry = true)
    (hc : q.compl ≠ 0) :
    let fails (c : Stop) (t : State) : State :=
      ((t.agentEvent 0 c.cause q.die q.ctx (BitVec.ofNat 64 q.compl) 0#64).record10 q.die q.ctx c q.compl).dropGraph g
    (∀ u, s.unitOf q.die q.ctx = (none, u) → exec (.completionPushRetry g) s = .next (fails (stopAt 0x41 q.compl) u)) ∧
    (∀ w u, s.unitOf q.die q.ctx = (some w, u) → let cap := u.presentTyped w (BitVec.ofNat 64 q.compl) [.push, .wake] 2;
      (∀ c v, cap = .stop c v → exec (.completionPushRetry g) s = .next (fails c (u.keepAttempt v false))) ∧
      (∀ v, cap = .wait v → exec (.completionPushRetry g) s = .next ((u.keepAttempt v true).putGraph { q with retry := true })) ∧
      (∀ c v, cap = .ok c v →
        let push := v.ringPush w c ([q.tag.toNat, q.done % 2 ^ 32 + q.failed % 2 ^ 32 * 2 ^ 32] ++ List.replicate (2 ^ c.lgsize / 8 - 3) 0);
        (∀ t, push = .ok none t → exec (.completionPushRetry g) s = .next (t.putGraph { q with retry := true })) ∧
        (∀ n t a z, push = .ok (some n) t → t.ringWake w c (n + 1) = .ok a z →
          ∃ e, exec (.completionPushRetry g) s = .next e ∧ e.graphAt g = none ∧ e.mem = z.mem ∧ e = { z with graphs := e.graphs }) ∧
        (∀ x t, push = .stop x t → exec (.completionPushRetry g) s = .next (fails x (u.keepAttempt t false))))) := by
  have hid := State.graphAt_n hq
  have hexec := exec_completionPushRetry_pushes hq hrun hr
  refine ⟨fun u hu => ?_, fun w u hu => ⟨fun c v hcap => ?_, fun v hcap => ?_, fun c v hcap =>
    ⟨fun t hp => ?_, fun n t a z hp hw => ?_, fun x t hp => ?_⟩⟩⟩
  · rw [hexec, State.pushCompletion_noUnit hc hu, State.failCompletion, hid]
  all_goals rw [hexec, State.pushCompletion_unit hc hu, State.completionPush, hcap]
  · rw [Res.bind_stop]
    dsimp only
    rw [State.failCompletion, hid]
  · rfl
  all_goals rw [Res.bind_ok, hp]
  · rfl
  · rw [Res.bind_ok]
    dsimp only
    rw [hw, Res.bind_ok, hid]
    exact ⟨_, rfl, State.graphAt_dropGraph .., rfl, rfl⟩
  · rw [Res.bind_stop]
    dsimp only
    rw [State.failCompletion, hid]

/-- Settles O55: by unit, from the result of each operation in a step; the ends of gangs by what the arbiter keeps. -/
theorem launchAndGraphResults : Obligations.LaunchAndGraphResults := by
  unfold Obligations.LaunchAndGraphResults
  intro s runs
  refine ⟨exec_launchRequestGo_results s, s.serveRequest_cases, exec_admissionGranted_results s,
    fun h hlt hh => ⟨exec_hartHaltComplete_none hlt hh, fun g j hrun hg hj hidle hm => exec_hartHaltComplete_leaves hlt hh hrun hg hj hidle hm⟩,
    exec_jobEnd_results s, exec_graphSubmissionPop_results s, fun g n => ⟨exec_graph_none s n, fun q hq => ?_⟩⟩
  have hid := State.graphAt_n hq
  refine ⟨exec_node_notReady hq, fun die w u t x hr hrun hu => ⟨fun hf => ?_, fun c hf => ?_, fun y v hy htype hfn hfree => ?_⟩,
    exec_remoteSuccessorReady_none hq, fun p hp hrun => ⟨_, exec_remoteSuccessorReady_readies hq hp hrun, ?_, rfl⟩, exec_nodeFinish_none hq,
    fun ok die w u t x he hr hrun hu hf => exec_nodeFinish_ends hq he hr hrun hu hf, exec_completionPushRetry_idle hq, fun hrun hr hc => ?_,
    fun hrun hr hc => exec_completionPushRetry_results hq hrun hr hc⟩
  · rw [exec_nodeStart_walks hq hr hrun, State.walkNode_ok hu hf]
  · rw [exec_nodeStart_walks hq hr hrun, State.walkNode_stop hu hf, hid]
  · exact exec_readyRingPost_posts hq hr hrun hu hy htype hfn hfree
  · rw [← hid]
    exact State.graphAt_putGraph s { q with remote := dropKey n q.remote, ready := q.ready ++ [p] }
  · rw [exec_completionPushRetry_pushes hq hrun hr, State.pushCompletion_none s hc, hid]
    rfl

end

end Sys2Proof.Machine
end

section
/-! O52: power and bring-up (R47 to R49), links (R324), errors (R364 to R366), recovery (R369, R370) and shutdown (R372).

Most clauses evaluate one step of the device. What needs an argument is memory after it has been cleared, filtered or restored
(`Memory.read_filter_addr`, `Memory.read_foldl_write`), what a merge that a returning die makes can change (`MergeFrame`), and what the homes
keep of a host whose link has gone (`State.homeAt_portsGone`). -/

namespace Sys2Proof.Machine

/-! ## Memory cleared, filtered and restored -/

section
variable {m : Memory}

/-- The cells at the addresses that meet `q`. -/
theorem Memory.read_filter_addr (q : Nat → Bool) {lo : Nat} (w : m.wfFrom lo = true) (k : Nat) :
    Memory.read (m.filter (fun c => q c.1)) k = if q k then m.read k else 0#8 := by
  induction m generalizing lo with
  | nil => simp [Memory.read]
  | cons c r ih =>
    obtain ⟨a, b⟩ := c
    simp only [Memory.wfFrom, Bool.and_eq_true] at w
    have hr := ih w.2
    have below (h : k ≤ a) : Memory.read r k = 0#8 := Memory.read_below w.2 (by omega)
    by_cases hq : q a
    · rw [List.filter_cons_of_pos (by exact hq)]
      simp only [Memory.read]
      rcases Nat.lt_trichotomy a k with h | h | h
      · simp [h.ne, Nat.not_lt.mpr h.le, hr]
      · subst h; simp [hq]
      · simp [h.ne', h]
    · rw [List.filter_cons_of_neg (by exact hq), hr]
      simp only [Memory.read]
      rcases Nat.lt_trichotomy a k with h | h | h
      · simp [h.ne, Nat.not_lt.mpr h.le]
      · subst h; simp [hq]
      · simp [h.ne', h, below h.le]

theorem Memory.read_clear (w : m.wf = true) (lo hi k : Nat) : (m.clear lo hi).read k = if lo ≤ k ∧ k < hi then 0#8 else m.read k := by
  rw [Memory.clear_eq_filter, Memory.read_filter_addr (fun a => !decide (lo ≤ a ∧ a < hi)) w k]
  by_cases h : lo ≤ k ∧ k < hi <;> simp [h]

theorem Memory.read_outside (w : m.wf = true) (k : Nat) : m.outside.read k = if k < deviceTop then 0#8 else m.read k := by
  rw [Memory.outside, Memory.read_clear w]
  simp

theorem Memory.read_foldl_clear (l : List Range) (w : m.wf = true) (k : Nat) :
    Memory.read (l.foldl (fun (m : Memory) r => m.clear r.lo (r.lo + r.len)) m) k = if inRanges l k then 0#8 else m.read k := by
  induction l generalizing m with
  | nil => rfl
  | cons r l ih =>
    rw [List.foldl_cons, ih (Memory.wf_clear w), Memory.read_clear w]
    by_cases h : r.lo ≤ k ∧ k < r.lo + r.len <;> simp [inRanges, h]

/-- The cells of `c` written over `m`. -/
theorem Memory.read_foldl_write {c : Memory} {lo : Nat} (wc : c.wfFrom lo = true) (w : m.wf = true) (k : Nat) :
    Memory.read (c.foldl (fun (m : Memory) p => m.write p.1 p.2) m) k = if c.read k = 0#8 then m.read k else c.read k := by
  induction c generalizing m lo with
  | nil => rfl
  | cons p r ih =>
    obtain ⟨a, b⟩ := p
    simp only [Memory.wfFrom, Bool.and_eq_true, bne_iff_ne, ne_eq] at wc
    obtain ⟨⟨-, hb⟩, wr⟩ := wc
    rw [List.foldl_cons, ih wr (Memory.wf_write w)]
    have below (h : k ≤ a) : Memory.read r k = 0#8 := Memory.read_below wr (by omega)
    simp only [Memory.read]
    rcases Nat.lt_trichotomy a k with h | h | h
    · rw [Memory.read_write_other w h.ne']
      simp [h.ne, Nat.not_lt.mpr h.le]
    · subst h
      simp [below le_rfl, Memory.read_write_same w, hb]
    · rw [Memory.read_write_other w h.ne]
      simp [below h.le, h, h.ne']

end

/-! ## Power and bring-up (R47 to R49) -/

section
variable {s t : State}

theorem exec_powerGood_results (hm : MemOk s) : ∃ t, exec .powerGood s = .next t ∧ t.epoch = s.epoch + 1 ∧ t.stage = 1 ∧ t.bringup = true ∧
    t.ready = false ∧ t.secver = s.secver ∧ t.hart = State.reset.hart ∧ t.others = State.reset.others ∧ t.jobs = [] ∧ t.stables = [] ∧ t.floors = [] ∧
    t.rings = [] ∧ t.graphs = [] ∧ (∀ a, a < deviceTop → t.mem.read a = 0#8) ∧ (∀ a, deviceTop ≤ a → t.mem.read a = s.mem.read a) := by
  refine ⟨_, rfl, rfl, rfl, rfl, rfl, rfl, rfl, rfl, rfl, rfl, rfl, rfl, rfl, fun a h => ?_, fun a h => ?_⟩
  · exact (Memory.read_outside hm a).trans (if_pos h)
  · exact (Memory.read_outside hm a).trans (if_neg (Nat.not_lt.mpr h))

theorem exec_powerLoss_results (hm : MemOk s) : ∃ t, exec .powerLoss s = .next t ∧ t.epoch = s.epoch ∧ t.stage = 0 ∧ t.others = [] ∧
    t.hart = State.reset.hart ∧ t.jobs = [] ∧ (∀ d, d < 6 → (t.dieAt d).run = .stopped) ∧ (∀ p, p < 2 → (t.portAt p).up = false) ∧
    (∀ a, a < deviceTop → t.mem.read a = 0#8) ∧ (∀ a, deviceTop ≤ a → t.mem.read a = s.mem.read a) := by
  refine ⟨_, rfl, rfl, rfl, rfl, rfl, rfl, ?_, ?_, fun a h => ?_, fun a h => ?_⟩
  · exact (by decide : ∀ d, d < 6 → ((findBy (fun e : Die => e.n == d)
      (State.reset.dies.map (fun d => { d with run := .stopped }))).getD (Die.reset d)).run = .stopped)
  · exact (by decide : ∀ p, p < 2 → ((findBy (fun q : Port => q.n == p)
      (State.reset.ports.map (fun p => { p with up := false }))).getD (Port.reset p)).up = false)
  · exact (Memory.read_outside hm a).trans (if_pos h)
  · exact (Memory.read_outside hm a).trans (if_neg (Nat.not_lt.mpr h))

/-- What a merge of a line in U may change: memory with its map of initialised regions, the lines in U, what caches, directories and homes
hold, and where it meets a failing sector the logs and the inboxes (R331, R332, R365). -/
structure MergeFrame (s t : State) : Prop where
  frame : t = { s with mem := t.mem, initSet := t.initSet, ulines := t.ulines, satf := t.satf, ports := t.ports, dies := t.dies, coh := t.coh }

theorem MergeFrame.refl (s : State) : MergeFrame s s := ⟨rfl⟩

theorem MergeFrame.trans {u : State} (h : MergeFrame s t) (k : MergeFrame t u) : MergeFrame s u := ⟨by rw [k.frame, h.frame]⟩

theorem MergeFrame.foldl {α : Type} {f : State → α → State} (hf : ∀ s a, MergeFrame s (f s a)) (l : List α) : MergeFrame s (l.foldl f s) := by
  induction l generalizing s with
  | nil => exact .refl s
  | cons a l ih => exact (hf s a).trans ih

theorem State.contain_mergeFrame (s : State) (r : ErrRecord) : MergeFrame s (s.contain r) := by
  unfold State.contain State.recoveryEvent State.postEvent
  dsimp only
  split
  · split <;> exact ⟨rfl⟩
  · exact ⟨rfl⟩

theorem State.mergeU_mergeFrame (s : State) (line : Nat) : MergeFrame s (s.mergeU line) := by
  unfold State.mergeU
  split
  · exact .refl s
  · dsimp only
    rw [State.touchRegion_frame]
    exact ⟨rfl⟩

theorem State.evictU_mergeFrame (s : State) (die line : Nat) : MergeFrame s (s.evictU die line).2 := by
  unfold State.evictU
  split
  · exact ⟨rfl⟩
  · split
    · dsimp only
      split
      · exact .refl s
      · exact s.contain_mergeFrame _
    · exact s.mergeU_mergeFrame line

theorem State.filterRoom_mergeFrame (s : State) (die line : Nat) : MergeFrame s (s.filterRoom die line) := by
  unfold State.filterRoom
  split
  · exact .refl s
  · split
    · exact .refl s
    · rename_i v _
      split
      · exact .refl s
      · dsimp only
        split
        · exact (s.evictU_mergeFrame (homeDie v) v).trans ⟨rfl⟩
        · exact s.evictU_mergeFrame (homeDie v) v

theorem State.loadCopy_mergeFrame (s : State) (c : Nat × Nat × Bool) : MergeFrame s (s.loadCopy c) :=
  (s.filterRoom_mergeFrame 6 c.1).trans ⟨rfl⟩

/-- The copies that the returning dies load merge lines in U only. -/
theorem State.diesReturn_mergeFrame (s : State) : MergeFrame s s.diesReturn :=
  (MergeFrame.foldl (fun _ (d : Die) => .foldl State.loadCopy_mergeFrame d.table) _).trans ⟨rfl⟩

theorem State.loadCopy_nil (hu : s.ulines = []) (c : Nat × Nat × Bool) : s.loadCopy c = { s with coh := (s.loadCopy c).coh } := by
  have hroom : s.filterRoom 6 c.1 = { s with coh := (s.filterRoom 6 c.1).coh } := by
    unfold State.filterRoom
    split
    · rfl
    · split
      · rfl
      · split
        · rfl
        · simp only [State.evictU, hu, anyBy]
          rfl
  unfold State.loadCopy
  dsimp only
  rw [hroom]
  rfl

theorem State.diesReturn_mem (hu : s.ulines = []) : s.diesReturn.mem = s.mem := by
  have copies (l : List (Nat × Nat × Bool)) {t : State} (ht : t.ulines = []) :
      (l.foldl State.loadCopy t).mem = t.mem ∧ (l.foldl State.loadCopy t).ulines = [] := by
    induction l generalizing t with
    | nil => exact ⟨rfl, ht⟩
    | cons c l ih =>
      have h := State.loadCopy_nil ht c
      obtain ⟨hmem, hul⟩ := ih (t := t.loadCopy c) (by rw [h]; exact ht)
      exact ⟨hmem.trans (by rw [h]), hul⟩
  have dies (l : List Die) {t : State} (ht : t.ulines = []) :
      (l.foldl (fun (t : State) d => d.table.foldl State.loadCopy t) t).mem = t.mem := by
    induction l generalizing t with
    | nil => rfl
    | cons d l ih => exact (ih (copies d.table ht).2).trans (copies d.table ht).1
  exact dies _ hu

theorem State.diesReturn_run (s : State) : ∀ d ∈ s.diesReturn.dies, d.run ≠ .reset := by
  intro d hd
  unfold State.diesReturn at hd
  simp only [List.mem_map] at hd
  obtain ⟨e, -, rfl⟩ := hd
  split <;> simp_all

end

section
variable {s t : State}

theorem MergeFrame.boot (h : MergeFrame s t) : t.recovery = s.recovery ∧ t.hart = s.hart ∧ t.fwok = s.fwok ∧ t.secver = s.secver ∧
    t.fwver = s.fwver ∧ t.stage = s.stage := by
  rw [h.frame]
  exact ⟨rfl, rfl, rfl, rfl, rfl, rfl⟩

/-- What the stage that has ended leaves: which stage follows, what it has fixed, and what stays (R47, R48). -/
theorem exec_bringupStageComplete_ends {err : Nat} (hb : s.bringup = true)
    (hf : ¬ ((err % 256 ≠ 0 ∧ bootError s.stage (err % 256) ≠ 0) ∨ (s.stage = 3 ∧ err / 512 < s.secver))) :
    ∃ t, exec (.bringupStageComplete err) s = .next t ∧ t.recovery = s.recovery ∧ t.hart = s.hart ∧
      (s.stage ≠ 9 ∨ s.ulines = [] → t.mem = s.mem) ∧
      t.stage = (if s.stage = 9 ∨ (s.stage = 7 ∧ s.ready = true) then 9 else s.stage + 1) ∧ t.fwok = (s.fwok || decide (s.stage = 2)) ∧
      t.secver = (if s.stage = 3 ∧ err / 256 % 2 = 1 then err / 512 else s.secver) ∧ t.fwver = (if s.stage = 3 then err / 512 else s.fwver) ∧
      t.ready = (s.ready || decide (s.stage = 9)) ∧ t.bringup = decide (s.stage ≠ 9) ∧
      (s.stage = 8 → t.initNext = 0 ∧ t.initSet = [] ∧ t.initdone = false) ∧ (s.stage = 9 → ∀ d ∈ t.dies, d.run ≠ .reset) := by
  have hexec : exec (.bringupStageComplete err) s = match s.stage with
      | 2 => .next { s with fwok := true, stage := 3 }
      | 3 => .next { s with fwver := err / 512, secver := if err / 256 % 2 = 1 then err / 512 else s.secver, stage := 4 }
      | 7 => .next { s with stage := if s.ready then 9 else 8 }
      | 8 =>
        let t := { s with initNext := 0, initSet := [], initdone := false, stage := 9 }
        .next (if s.initdone then t.statusChanged else t)
      | 9 =>
        let t := { s.diesReturn with ready := true, bringup := false }
        .next (if s.ready then t else t.statusChanged)
      | n => .next { s with stage := n + 1 } :=
    (if_neg (by rw [hb]; decide)).trans (if_neg hf)
  split at hexec <;> rename_i hs
  · refine ⟨_, hexec, rfl, rfl, fun _ => rfl, ?_⟩
    simp [hs, hb]
  · refine ⟨_, hexec, rfl, rfl, fun _ => rfl, ?_⟩
    simp [hs, hb]
  · refine ⟨_, hexec, rfl, rfl, fun _ => rfl, ?_⟩
    simp [hs, hb]
  · refine ⟨_, hexec, ?_⟩
    split <;> simp [hs, hb, State.statusChanged]
  · refine ⟨_, hexec, ?_⟩
    obtain ⟨hrec, hhart, hfwok, hsec, hver, hstage⟩ := s.diesReturn_mergeFrame.boot
    have hrun := s.diesReturn_run
    have hmem (h : s.ulines = []) : s.diesReturn.mem = s.mem := s.diesReturn_mem h
    split <;> simp_all [State.statusChanged]
  · refine ⟨_, hexec, rfl, rfl, fun _ => rfl, ?_⟩
    simp_all
theorem exec_bringupStageComplete_fails {err : Nat} (hb : s.bringup = true)
    (hf : (err % 256 ≠ 0 ∧ bootError s.stage (err % 256) ≠ 0) ∨ (s.stage = 3 ∧ err / 512 < s.secver)) :
    exec (.bringupStageComplete err) s = .next (s.bootFails (err % 256)) := by
  show execBringupStageComplete err s = _
  unfold execBringupStageComplete
  dsimp only
  rw [hb, if_neg (by decide), if_pos hf]

theorem exec_bringupStageComplete_off {err : Nat} (hb : s.bringup = false) : exec (.bringupStageComplete err) s = .next s := by
  show execBringupStageComplete err s = _
  unfold execBringupStageComplete
  dsimp only
  rw [hb, if_pos (by decide)]

/-! ## Resets through a port that holds HSEM (R44, R47, R48) -/

/-- A control written through the port that holds `HSEM` acts. -/
theorem State.onPort_owned {port off : Nat} (hp : port < 2) (ho : s.hsem = port + 1) (f : State → State) :
    s.onPort port (s.owned port off f) = .next (f s) := by
  have hown : s.owns port = true := by simp [State.owns, ho]
  rw [State.onPort, State.unless, State.owned, hown, if_pos rfl, if_neg (by simpa using hp)]

/-- A die after a reset that keeps power: stopped as it was, or in reset with the copies that hosts hold. -/
def State.warmDie (s : State) (d : Die) : Die :=
  if (s.dieAt d.n).run = .stopped then { d with run := .stopped } else { d with run := .reset, table := s.hostCopies d.n }

/-- The part after a reset that keeps power, before what the ports keep waiting is done again. -/
def State.warmBase (s : State) : State := { s with
  hart := Hart.reset 0, others := State.reset.others, jobs := [], stables := []
  dies := State.reset.dies.map s.warmDie
  ports := s.ports.map Port.warmReset
  funcmode := 0#64, modelock := false, cfglock := false, winlock := false, booterr := 0, recovery := false, hsem := 0, windows := []
  rings := [], graphs := [], pending := [], taken := [], pins := []
  coh := { Coherence.reset with caches := s.caches.filter (fun c => decide (hostBuffer 0 ≤ c.cache)), uses := s.coh.uses }
  ulines := [], satf := [], movedPages := [] }

theorem State.warmReset_nil (hu : s.ulines = []) : s.warmReset = (s.warmBase.portAgain 0 0).portAgain 1 0 := by
  unfold State.warmReset
  rw [hu]
  rfl

theorem State.portAt_warmBase (s : State) (q : Nat) : s.warmBase.portAt q = (s.portAt q).warmReset := by
  show (findBy (fun p : Port => p.n == q) (s.ports.map Port.warmReset)).getD (Port.reset q) = _
  rw [findBy_map (f := Port.warmReset) (fun _ => rfl)]
  unfold State.portAt
  cases findBy (fun p : Port => p.n == q) s.ports <;> rfl

theorem State.portAt_putPort_n (s : State) {p : Port} {n : Nat} (h : p.n = n) : (s.putPort p).portAt n = p := h ▸ s.portAt_putPort p

theorem State.portAt_portAgain (s : State) (port n q : Nat) :
    (s.portAgain port n).portAt q = if q = port then { s.portAt port with pending := [], writes := [], behind := [] } else s.portAt q := by
  have hn := s.portAt_n port
  by_cases hq : q = port
  · rw [if_pos hq]
    exact State.portAt_putPort_n s (p := { s.portAt port with pending := [], writes := [], behind := [] }) (hn.trans hq.symm)
  · rw [if_neg hq]
    exact State.portAt_putPort_other s { s.portAt port with pending := [], writes := [], behind := [] } q (fun e => hq (e.symm.trans hn))

theorem State.portAgain_turns (s : State) (port : Nat) :
    (s.portAgain port 0).turns = (s.portAt port).arrivals.map Turn.device ++ s.turns := rfl

theorem State.dieAt_warmBase (s : State) {d : Nat} (hd : d < 6) : s.warmBase.dieAt d = s.warmDie (Die.reset d) := by
  have hfind : findBy (fun e : Die => e.n == d) State.reset.dies = some (Die.reset d) := by interval_cases d <;> rfl
  show (findBy (fun e : Die => e.n == d) (State.reset.dies.map s.warmDie)).getD (Die.reset d) = _
  rw [findBy_map (fun e => by unfold State.warmDie; split <;> rfl), hfind]
  rfl

/-- A warm reset through the port that holds `HSEM` (R47). -/
theorem exec_ctrlWreset_results {port : Nat} (hp : port < 2) (ho : s.hsem = port + 1) (hu : s.ulines = []) :
    ∃ t, exec (.ctrlWreset port) s = .next t ∧ t.stage = 4 ∧ t.bringup = true ∧ t.ready = s.ready ∧ t.mem = s.mem ∧ t.jobs = [] ∧ t.graphs = [] ∧
      t.rings = [] ∧ t.pending = [] ∧ t.taken = [] ∧ t.windows = [] ∧ t.hart = State.reset.hart ∧ t.others = State.reset.others ∧ t.funcmode = 0#64 ∧
      t.hsem = 0 ∧ t.modelock = false ∧ t.cfglock = false ∧ t.winlock = false ∧ t.booterr = 0 ∧ t.recovery = false ∧ t.epoch = s.epoch ∧
      t.floors = s.floors ∧ t.coh.homes = [] ∧ t.coh.dir = [] ∧ t.coh.links = [] ∧
      t.coh.caches = s.caches.filter (fun c => decide (hostBuffer 0 ≤ c.cache)) ∧
      t.turns = ([1, 0].flatMap (fun q => ({ s.portAt q with writes := [] } : Port).arrivals)).map Turn.device ++ s.turns ∧
      (∀ d, d < 6 → ((s.dieAt d).run = .stopped → t.dieAt d = { Die.reset d with run := .stopped }) ∧
        ((s.dieAt d).run ≠ .stopped → t.dieAt d = { Die.reset d with run := .reset, table := s.hostCopies d })) ∧
      ∀ q, q < 2 → (t.portAt q).errTail = 0 ∧ (t.portAt q).errOvf = false ∧ (t.portAt q).cethr = 0 ∧ (t.portAt q).errHead = (s.portAt q).errHead := by
  refine ⟨{ (s.warmBase.portAgain 0 0).portAgain 1 0 with stage := 4, bringup := true }, ?_, rfl, rfl, rfl, rfl, rfl, rfl, rfl, rfl, rfl, rfl, rfl,
    rfl, rfl, rfl, rfl, rfl, rfl, rfl, rfl, rfl, rfl, rfl, rfl, rfl, rfl, ?_, fun d hd => ?_, fun q hq => ?_⟩
  · rw [← State.warmReset_nil hu]
    exact State.onPort_owned hp ho _
  · show ((s.warmBase.portAgain 0 0).portAgain 1 0).turns = _
    rw [State.portAgain_turns, State.portAgain_turns, State.portAt_portAgain, if_neg (by decide), State.portAt_warmBase, State.portAt_warmBase]
    simp only [List.flatMap_cons, List.flatMap_nil, List.append_nil, List.map_append, List.append_assoc]
    rfl
  · have hdie : State.dieAt _ d = _ := s.dieAt_warmBase hd
    exact ⟨fun h => hdie.trans (if_pos h), fun h => hdie.trans (if_neg h)⟩
  · have hport : ((s.warmBase.portAgain 0 0).portAgain 1 0).portAt q =
        { (s.portAt q).warmReset with pending := [], writes := [], behind := [] } := by
      rw [State.portAt_portAgain, State.portAt_portAgain, State.portAt_portAgain, State.portAt_warmBase, State.portAt_warmBase, State.portAt_warmBase]
      interval_cases q <;> rfl
    show (((s.warmBase.portAgain 0 0).portAgain 1 0).portAt q).errTail = 0 ∧ (((s.warmBase.portAgain 0 0).portAgain 1 0).portAt q).errOvf = false ∧
      (((s.warmBase.portAgain 0 0).portAgain 1 0).portAt q).cethr = 0 ∧ (((s.warmBase.portAgain 0 0).portAgain 1 0).portAt q).errHead = _
    rw [hport]
    exact ⟨rfl, rfl, rfl, rfl⟩

/-- A boot from the staged image through the port that holds `HSEM` (R48). -/
theorem exec_ctrlBootretry_results {port : Nat} (hp : port < 2) (ho : s.hsem = port + 1) :
    (s.recovery = false → exec (.ctrlBootretry port) s = .next s) ∧
    (s.recovery = true → ∃ t, exec (.ctrlBootretry port) s = .next t ∧
      t = { s with ports := t.ports, recovery := false, booterr := 0, fwok := false, firmware := s.staging, stage := 2, bringup := true }) := by
  have hexec : exec (.ctrlBootretry port) s = _ := State.onPort_owned hp ho _
  refine ⟨fun hr => ?_, fun hr => ⟨_, hexec, ?_⟩⟩
  · rw [hexec, hr, if_neg Bool.false_ne_true]
  · rw [hr, if_pos rfl]
    rfl

/-! ## Background initialisation (R49) -/

/-- The next region is zeroed, and heals, unless a write has touched it. -/
theorem exec_backgroundInitRegion_results (hm : MemOk s) (hn : s.initNext < 589824) : ∃ t, exec .backgroundInitRegion s = .next t ∧
    t.initNext = s.initNext + 1 ∧ t.hart = s.hart ∧ t.initdone = (s.initdone || decide (s.initNext = 589823)) ∧
    t.failing = (if s.initSet.contains s.initNext = true then s.failing else dropBy (fun f => f * 32 / 2097152 == s.initNext) s.failing) ∧
    (∀ a, t.mem.read a =
      if s.initNext * 2097152 ≤ a ∧ a < (s.initNext + 1) * 2097152 ∧ s.initSet.contains s.initNext = false then 0#8 else s.mem.read a) := by
  have hmem (a : Nat) : (if s.initSet.contains s.initNext then s.mem
      else s.mem.clear (s.initNext * 2097152) ((s.initNext + 1) * 2097152)).read a =
      if s.initNext * 2097152 ≤ a ∧ a < (s.initNext + 1) * 2097152 ∧ s.initSet.contains s.initNext = false then 0#8 else s.mem.read a := by
    cases s.initSet.contains s.initNext with
    | true => simp
    | false => simpa using Memory.read_clear hm _ _ a
  have hexec : exec .backgroundInitRegion s = _ := if_neg (Nat.not_le.mpr hn)
  refine ⟨_, hexec, ?_⟩
  split
  · rename_i h
    exact ⟨rfl, rfl, by simp [State.statusChanged, show s.initNext = 589823 by omega], rfl, hmem⟩
  · rename_i h
    exact ⟨rfl, rfl, by simp [show s.initNext ≠ 589823 by omega], rfl, hmem⟩

end

/-! ## Links of hosts (R44, R324) -/

section
variable {s t : State} {port line : Nat}

theorem State.homeAt_line (s : State) (line : Nat) : (s.homeAt line).line = line := by
  unfold State.homeAt Coherence.homeAt
  cases h : findBy (fun e : HomeEntry => e.line == line) s.coh.homes with
  | none => rfl
  | some e => simpa using findBy_some h

theorem findBy_append {α : Type} (p : α → Bool) (l k : List α) : findBy p (l ++ k) = (findBy p l).or (findBy p k) := by
  induction l with
  | nil => rfl
  | cons a l ih =>
    simp only [List.cons_append, findBy]
    split
    · rfl
    · exact ih

/-- A home's record replaced is found; one that lists nothing reads as the empty record of its line. -/
theorem State.homeAt_putHome (s : State) (e : HomeEntry) :
    (s.putHome e).homeAt e.line = if e.state = .i ∧ e.ask = none ∧ e.rest = [] then .empty e.line else e := by
  unfold State.homeAt State.putHome Coherence.putHome Coherence.homeAt
  dsimp only
  split
  · rw [findBy_dropBy_same]; rfl
  · rw [findBy_append, findBy_dropBy_same]
    simp [findBy]

theorem State.homeAt_putHome_other (s : State) (e : HomeEntry) (h : e.line ≠ line) : (s.putHome e).homeAt line = s.homeAt line := by
  have hd : findBy (fun f : HomeEntry => f.line == line) (dropBy (fun f : HomeEntry => f.line == e.line) s.coh.homes) =
      findBy (fun f : HomeEntry => f.line == line) s.coh.homes := by
    refine findBy_dropBy_other _ _ _ fun a ha => ?_
    simp only [beq_iff_eq] at ha
    simpa [ha] using h
  unfold State.homeAt State.putHome Coherence.putHome Coherence.homeAt
  dsimp only
  split
  · rw [hd]
  · rw [findBy_append, hd]
    simp [findBy, h]

/-- A home's record without a port's host: what is served and what waits stays, and in I it has no port left. -/
theorem HomeEntry.withoutPort_frame (e : HomeEntry) (port : Nat) : (e.withoutPort port).line = e.line ∧ (e.withoutPort port).ask = e.ask ∧
    (e.withoutPort port).rest = e.rest ∧ (e.withoutPort port).ports = e.ports &&& ~~~(1#2 <<< port) ∧
    (e.state ≠ .u → (e.withoutPort port).state ≠ .u) ∧
    ((e.state = .i → e.ports = 0#2) → (e.withoutPort port).state = .i → (e.withoutPort port).ports = 0#2) := by
  have without (d : Nat) : (e.without d).line = e.line ∧ (e.without d).ask = e.ask ∧ (e.without d).rest = e.rest ∧
      (e.state ≠ .u → (e.without d).state ≠ .u) := by
    unfold HomeEntry.without
    dsimp only
    split
    · simp
    · split
      · simp_all
      · split
        · simp
        · split <;> simp_all
      · simp_all
      · split <;> simp_all
  obtain ⟨hline, hask, hrest, hstate⟩ := without 6
  unfold HomeEntry.withoutPort
  dsimp only
  split
  · rename_i h
    simp [h]
  · split
    · rename_i h
      simp [h, hline, hask, hrest]
      exact hstate
    · rename_i hp h
      exact ⟨rfl, rfl, rfl, rfl, id, fun hi hs => absurd (hi hs) hp⟩

/-- The home's record of a line after a port's host is gone from it. -/
def HomeEntry.gone (e : HomeEntry) (port : Nat) : HomeEntry := if e.state = .u then e else e.withoutPort port

/-- A home that serves no request drops a port's host and does nothing more. -/
theorem State.portGone_idle (h : (s.homeAt line).ask = none) : s.portGone port line = s.putHome ((s.homeAt line).gone port) := by
  obtain ⟨hline, hask, -, -, -, -⟩ := (s.homeAt line).withoutPort_frame port
  have hgask : ((s.homeAt line).gone port).ask = none := by
    unfold HomeEntry.gone
    split
    · exact h
    · exact hask.trans h
  have hgline : ((s.homeAt line).gone port).line = line := by
    unfold HomeEntry.gone
    split
    · exact s.homeAt_line line
    · exact hline.trans (s.homeAt_line line)
  have hsame : ({ (s.homeAt line).gone port with ask := none } : HomeEntry) = (s.homeAt line).gone port := by rw [← hgask]
  have hidle : ((s.putHome ((s.homeAt line).gone port)).homeAt line).ask = none := by
    have hput := s.homeAt_putHome ((s.homeAt line).gone port)
    rw [hgline] at hput
    rw [hput]
    split
    · rfl
    · exact hgask
  unfold State.portGone
  dsimp only
  rw [h, Option.map_none, show (if (s.homeAt line).state = .u then _ else _ : HomeEntry) = (s.homeAt line).gone port from rfl, hsame]
  simp only [State.homeSettle, hidle]

/-- A line that is in I at its home has no port left there. -/
def HomeEntry.PortsFit (e : HomeEntry) : Prop := e.state ≠ .u ∧ (e.state = .i → e.ports = 0#2)

/-- One port gone from the line of one home: its host's bit goes there, and no other line changes. -/
theorem State.homeAt_portGone {l : Nat} (h : (s.homeAt l).ask = none) (hf : (s.homeAt line).PortsFit) :
    ((s.portGone port l).homeAt line).PortsFit ∧
      ((s.portGone port l).homeAt line).ports = if line = l then (s.homeAt line).ports &&& ~~~(1#2 <<< port) else (s.homeAt line).ports := by
  obtain ⟨hu, hi⟩ := hf
  rw [State.portGone_idle h]
  by_cases hl : line = l
  · subst hl
    obtain ⟨hline, -, -, hports, hgu, hgi⟩ := (s.homeAt line).withoutPort_frame port
    have hgone : (s.homeAt line).gone port = (s.homeAt line).withoutPort port := if_neg hu
    have hput := s.homeAt_putHome ((s.homeAt line).withoutPort port)
    rw [hline, s.homeAt_line line] at hput
    rw [hgone, hput, if_pos rfl, ← hports]
    split
    · rename_i hempty
      exact ⟨⟨by simp [HomeEntry.empty], fun _ => rfl⟩, (hgi hi hempty.1).symm⟩
    · exact ⟨⟨hgu hu, hgi hi⟩, rfl⟩
  · have hgl : ((s.homeAt l).gone port).line = l := by
      unfold HomeEntry.gone
      split
      · exact s.homeAt_line l
      · exact ((s.homeAt l).withoutPort_frame port).1.trans (s.homeAt_line l)
    rw [State.homeAt_putHome_other _ _ (by rw [hgl]; exact Ne.symm hl), if_neg hl]
    exact ⟨⟨hu, hi⟩, rfl⟩

theorem State.portGone_idle_ask {l : Nat} (h : ∀ k, (s.homeAt k).ask = none) (k : Nat) : ((s.portGone port l).homeAt k).ask = none := by
  rw [State.portGone_idle (h l)]
  obtain ⟨-, hask, -⟩ := (s.homeAt l).withoutPort_frame port
  have hg : ((s.homeAt l).gone port).ask = none := by
    unfold HomeEntry.gone
    split
    · exact h l
    · exact hask.trans (h l)
  by_cases hk : ((s.homeAt l).gone port).line = k
  · rw [← hk, State.homeAt_putHome]
    split
    · rfl
    · exact hg
  · rw [State.homeAt_putHome_other _ _ hk]
    exact h k

/-- A port gone from the homes of some lines that serve no request: only the records of homes change, and the host's bit goes there. -/
theorem State.homeAt_portsGone (es : List HomeEntry) (h : ∀ k, (s.homeAt k).ask = none) :
    (∃ hs, es.foldl (fun (t : State) (e : HomeEntry) => t.portGone port e.line) s = { s with coh.homes := hs }) ∧
    ∀ line, (s.homeAt line).PortsFit → ((es.foldl (fun (t : State) (e : HomeEntry) => t.portGone port e.line) s).homeAt line).ports =
      if line ∈ es.map (fun e => e.line) then (s.homeAt line).ports &&& ~~~(1#2 <<< port) else (s.homeAt line).ports := by
  induction es generalizing s with
  | nil => exact ⟨⟨s.homes, rfl⟩, fun _ _ => rfl⟩
  | cons e es ih =>
    obtain ⟨⟨hs, hframe⟩, hports⟩ := ih (s := s.portGone port e.line) (fun k => State.portGone_idle_ask h k)
    refine ⟨⟨hs, ?_⟩, fun line hf => ?_⟩
    · rw [List.foldl_cons, hframe, State.portGone_idle (h e.line)]
      rfl
    · obtain ⟨hf', hone⟩ := State.homeAt_portGone (port := port) (h e.line) hf
      rw [List.foldl_cons, hports line hf', hone]
      by_cases he : line = e.line
      · simp [he, BitVec.and_assoc]
      · simp [he]

/-- A home's record without the requests of one requester that wait there. -/
def HomeEntry.withdrawn (e : HomeEntry) (who : Nat) : HomeEntry := { e with rest := e.rest.filter (fun q => q.who != who) }

theorem State.homeAt_withdrawn (s : State) (who line : Nat) :
    ({ s with coh.homes := s.homes.map (fun e => e.withdrawn who) } : State).homeAt line = (s.homeAt line).withdrawn who := by
  show (findBy (fun e : HomeEntry => e.line == line) (s.homes.map (fun e => e.withdrawn who))).getD (.empty line) = _
  rw [findBy_map (f := fun e : HomeEntry => e.withdrawn who) (fun _ => rfl)]
  unfold State.homeAt Coherence.homeAt
  cases findBy (fun e : HomeEntry => e.line == line) s.homes <;> rfl

/-- Where no home serves a request, a host's requests leave those that wait. -/
theorem State.withdraw_idle (h : ∀ e ∈ s.homes, e.ask = none) (who : Nat) :
    s.withdraw who = { s with coh.homes := s.homes.map (fun e => e.withdrawn who) } := by
  have hserved : (s.homes.map (fun e => e.withdrawn who)).filter
      (fun e : HomeEntry => match e.ask with | some g => g.req.who == who | none => false) = [] := by
    rw [List.filter_eq_nil_iff]
    intro e he
    obtain ⟨f, hf, rfl⟩ := List.mem_map.mp he
    simp [show (f.withdrawn who).ask = none from h f hf]
  unfold State.withdraw
  dsimp only
  exact congrArg (fun l : List HomeEntry => l.foldl _ _) hserved

theorem State.homeAt_ask (h : ∀ e ∈ s.homes, e.ask = none) (k : Nat) : (s.homeAt k).ask = none := by
  unfold State.homeAt Coherence.homeAt
  cases e : findBy (fun e : HomeEntry => e.line == k) s.coh.homes with
  | none => rfl
  | some f => exact h f (findBy_mem e)

theorem noHomes_ask (h : s.homes = []) : ∀ e ∈ s.homes, e.ask = none := by simp [h]

/-- The state after a port's link has gone, before what arrived behind it is done again; `homes` are what the homes then hold. -/
def State.linkLost (s : State) (port : Nat) (homes : List HomeEntry) : State :=
  { s.putPort { s.portAt port with up := false, pending := [] } with
    hsem := if s.owns port then 0 else s.hsem
    coh := { s.coh with caches := dropBy (fun c : CacheLine => c.cache == hostBuffer port) s.caches, homes := homes } }

/-- The lines of which a home says that a port's host has a copy. -/
def State.copiesOf (s : State) (port : Nat) : List HomeEntry := s.homes.filter (fun e => e.ports.getLsbD port)

/-- The state after a port's link has gone and its host's requests have left the homes. -/
def State.linkWithdrawn (s : State) (port : Nat) : State := s.linkLost port (s.homes.map (fun e => e.withdrawn (6 + port)))

theorem clearBit_of_clear {v : BitVec 2} {port : Nat} (h : v.getLsbD port = false) : v &&& ~~~(1#2 <<< port) = v := by
  ext i hi
  by_cases hv : v[i] = true
  · have hne : i ≠ port := by
      rintro rfl
      rw [BitVec.getLsbD_eq_getElem hi, hv] at h
      cases h
    simp [hv]
    omega
  · simp [hv]

/-- A line at whose home a port's host has no copy. -/
theorem State.noCopy {s : State} {port line : Nat} (h : line ∉ ((s.linkWithdrawn port).copiesOf port).map (fun e => e.line)) :
    (s.homeAt line).ports.getLsbD port = false := by
  cases e : findBy (fun e : HomeEntry => e.line == line) s.coh.homes with
  | none => simp [State.homeAt, Coherence.homeAt, e, HomeEntry.empty]
  | some f =>
    have hf : s.homeAt line = f := by simp [State.homeAt, Coherence.homeAt, e]
    rw [hf, ← Bool.not_eq_true]
    intro hb
    have hline : f.line = line := by simpa using findBy_some e
    refine h (List.mem_map.mpr ⟨f.withdrawn (6 + port), ?_, hline⟩)
    exact List.mem_filter.mpr ⟨List.mem_map_of_mem (findBy_mem e), hb⟩

/-- Where no home serves a request, a link that goes takes its host's bit from every line. -/
theorem State.linkDrop_idle (h : ∀ e ∈ s.homes, e.ask = none) (port : Nat) : ∃ homes, s.linkDrop port = (s.linkLost port homes).portAgain port 0 ∧
    (s.homes = [] → homes = []) ∧
    ∀ line, (s.homeAt line).PortsFit → ((s.linkLost port homes).homeAt line).ports = (s.homeAt line).ports &&& ~~~(1#2 <<< port) := by
  have hat (k : Nat) : (s.linkWithdrawn port).homeAt k = (s.homeAt k).withdrawn (6 + port) := s.homeAt_withdrawn (6 + port) k
  have hask (k : Nat) : ((s.linkWithdrawn port).homeAt k).ask = none := by rw [hat]; exact State.homeAt_ask h k
  obtain ⟨⟨hs, hframe⟩, hports⟩ := State.homeAt_portsGone (port := port) ((s.linkWithdrawn port).copiesOf port) hask
  have hdrop : s.linkDrop port = (((s.linkWithdrawn port).copiesOf port).foldl (fun (t : State) (e : HomeEntry) => t.portGone port e.line)
      (s.linkWithdrawn port)).portAgain port 0 := by
    unfold State.linkDrop
    rw [State.withdraw_idle (s := s.putPort _) h]
    rfl
  refine ⟨hs, hdrop.trans (by rw [hframe]; rfl), fun he => ?_, fun line hf => ?_⟩
  · have hhomes : (s.linkWithdrawn port).homes = [] := congrArg (List.map (fun e : HomeEntry => e.withdrawn (6 + port))) he
    rw [State.copiesOf, hhomes] at hframe
    exact (congrArg State.homes hframe).symm.trans hhomes
  · have hline := hports line (by rw [hat]; exact hf)
    rw [hframe, hat] at hline
    refine Eq.trans hline ?_
    split
    · rfl
    · rename_i hn
      exact (clearBit_of_clear (State.noCopy hn)).symm

/-- What is left of a port whose link has gone. -/
theorem State.linkLost_again (s : State) (port : Nat) (homes : List HomeEntry) :
    ((s.linkLost port homes).portAgain port 0).portAt port = { s.portAt port with up := false, pending := [], writes := [], behind := [] } ∧
      (∀ q, q ≠ port → ((s.linkLost port homes).portAgain port 0).portAt q = s.portAt q) ∧
      ((s.linkLost port homes).portAgain port 0).turns = ({ s.portAt port with pending := [] } : Port).arrivals.map Turn.device ++ s.turns := by
  have hlost : (s.linkLost port homes).portAt port = { s.portAt port with up := false, pending := [] } :=
    State.portAt_putPort_n s (p := { s.portAt port with up := false, pending := [] }) (s.portAt_n port)
  refine ⟨?_, fun q hq => ?_, ?_⟩
  · rw [State.portAt_portAgain, if_pos rfl, hlost]
  · rw [State.portAt_portAgain, if_neg hq]
    exact State.portAt_putPort_other s { s.portAt port with up := false, pending := [] } q (fun e => hq (e.symm.trans (s.portAt_n port)))
  · rw [State.portAgain_turns, hlost]
    rfl

theorem exec_hostLink_absent (h : 2 ≤ port) : exec (.hostLinkDown port) s = .next s ∧ exec (.ioDomainPowerLoss port) s = .next s := by
  have hp : decide (2 ≤ port) = true := by simpa using h
  refine ⟨?_, ?_⟩
  · show s.onPort port _ = _
    rw [State.onPort, State.unless, hp, if_pos rfl]
  · show s.onPort port _ = _
    rw [State.onPort, State.unless, hp, if_pos rfl]

theorem exec_hostLink_present (h : port < 2) : exec (.hostLinkDown port) s = .next (s.linkDrop port) ∧ exec (.ioDomainPowerLoss port) s =
    .next (((s.putPort { s.portAt port with writes := [], behind := [] }).linkDrop port).putPort { Port.reset port with up := false }) := by
  have hp : decide (2 ≤ port) = false := by simpa using h
  refine ⟨?_, ?_⟩
  · show s.onPort port _ = _
    rw [State.onPort, State.unless, hp, if_neg Bool.false_ne_true]
  · show s.onPort port _ = _
    rw [State.onPort, State.unless, hp, if_neg Bool.false_ne_true]

/-- Where the homes hold nothing, a link that goes changes its port, `HSEM`, its host's buffer, and what is done again. -/
theorem State.linkDrop_noHomes (h : s.homes = []) (port : Nat) : ∃ ports, s.linkDrop port =
    { s with
      ports := ports, hsem := if s.hsem = port + 1 then 0 else s.hsem
      coh := { s.coh with caches := dropBy (fun c : CacheLine => c.cache == hostBuffer port) s.caches }
      turns := ({ s.portAt port with pending := [] } : Port).arrivals.map Turn.device ++ s.turns } := by
  obtain ⟨homes, hdrop, hnil, -⟩ := State.linkDrop_idle (noHomes_ask h) port
  obtain ⟨-, -, hturns⟩ := s.linkLost_again port homes
  have hown : (if s.owns port then 0 else s.hsem) = if s.hsem = port + 1 then 0 else s.hsem := by simp [State.owns]
  refine ⟨((s.linkLost port homes).portAgain port 0).ports, hdrop.trans ?_⟩
  rw [← hown, ← hturns, hnil h, ← h]
  rfl

theorem State.portAt_linkDrop (h : ∀ e ∈ s.homes, e.ask = none) (port : Nat) :
    (s.linkDrop port).portAt port = { s.portAt port with up := false, pending := [], writes := [], behind := [] } ∧
      ∀ q, q ≠ port → (s.linkDrop port).portAt q = s.portAt q := by
  obtain ⟨homes, hdrop, -⟩ := State.linkDrop_idle h port
  obtain ⟨hport, hother, -⟩ := s.linkLost_again port homes
  rw [hdrop]
  exact ⟨hport, hother⟩

/-- The link of a host that goes (R324). -/
theorem exec_hostLinkDown_results (hp : port < 2) :
    (s.homes = [] → ∃ t, exec (.hostLinkDown port) s = .next t ∧
      t.portAt port = { s.portAt port with up := false, pending := [], writes := [], behind := [] } ∧ (∀ q, q ≠ port → t.portAt q = s.portAt q) ∧
      t = { s with
        ports := t.ports, hsem := if s.hsem = port + 1 then 0 else s.hsem
        coh := { s.coh with caches := dropBy (fun c : CacheLine => c.cache == hostBuffer port) s.caches }
        turns := ({ s.portAt port with pending := [] } : Port).arrivals.map Turn.device ++ s.turns }) ∧
    ((∀ e ∈ s.homes, e.ask = none) → ∃ t, exec (.hostLinkDown port) s = .next t ∧ (t.portAt port).up = false ∧
      t.caches = dropBy (fun c : CacheLine => c.cache == hostBuffer port) s.caches ∧ t.mem = s.mem ∧
      ∀ line, (s.homeAt line).state ≠ .i → (s.homeAt line).state ≠ .u →
        (t.homeAt line).ports = (s.homeAt line).ports &&& ~~~(1#2 <<< port)) := by
  obtain ⟨hexec, -⟩ := exec_hostLink_present (s := s) hp
  refine ⟨fun h => ?_, fun h => ?_⟩
  · obtain ⟨hport, hother⟩ := State.portAt_linkDrop (noHomes_ask h) port
    obtain ⟨ports, hdrop⟩ := State.linkDrop_noHomes h port
    exact ⟨_, hexec, hport, hother, by rw [hdrop]⟩
  · obtain ⟨hport, -⟩ := State.portAt_linkDrop h port
    obtain ⟨homes, hdrop, -, hbits⟩ := State.linkDrop_idle h port
    refine ⟨_, hexec, by rw [hport], by rw [hdrop]; rfl, by rw [hdrop]; rfl, fun line hi hu => ?_⟩
    rw [hdrop]
    exact hbits line ⟨hu, fun e => absurd e hi⟩

/-- The I/O domain of a port that loses its power (R323). -/
theorem exec_ioDomainPowerLoss_results (hp : port < 2) (h : s.homes = []) : ∃ t, exec (.ioDomainPowerLoss port) s = .next t ∧
    t.portAt port = { Port.reset port with up := false } ∧ (∀ q, q ≠ port → t.portAt q = s.portAt q) ∧
    t = { s with
      ports := t.ports, hsem := if s.hsem = port + 1 then 0 else s.hsem
      coh := { s.coh with caches := dropBy (fun c : CacheLine => c.cache == hostBuffer port) s.caches } } := by
  obtain ⟨-, hexec⟩ := exec_hostLink_present (s := s) hp
  have hkept : (s.putPort { s.portAt port with writes := [], behind := [] }).portAt port = { s.portAt port with writes := [], behind := [] } :=
    State.portAt_putPort_n s (p := { s.portAt port with writes := [], behind := [] }) (s.portAt_n port)
  obtain ⟨-, hother⟩ := State.portAt_linkDrop (s := s.putPort { s.portAt port with writes := [], behind := [] }) (noHomes_ask h) port
  obtain ⟨ports, hdrop⟩ := State.linkDrop_noHomes (s := s.putPort { s.portAt port with writes := [], behind := [] }) h port
  refine ⟨_, hexec, State.portAt_putPort_n _ rfl, fun q hq => ?_, ?_⟩
  · rw [State.portAt_putPort_other _ _ _ (fun e => hq (e.symm.trans rfl)), hother q hq]
    exact State.portAt_putPort_other s { s.portAt port with writes := [], behind := [] } q (fun e => hq (e.symm.trans (s.portAt_n port)))
  · rw [hdrop, hkept]
    rfl

end

/-! ## Shutdown, clocks and errors (R364 to R366, R372) -/

section
variable {s t : State}

theorem State.shutdown_results (s : State) (n : Nat) :
    (∀ d ∈ (s.shutdown n).dies, d.run = .stopped) ∧ s.shutdown n = { s.logAll (dieRecord 11 0 0 0 n) with dies := (s.shutdown n).dies } := by
  refine ⟨fun d hd => ?_, rfl⟩
  unfold State.shutdown at hd
  simp only [List.mem_map] at hd
  obtain ⟨e, -, rfl⟩ := hd
  rfl

theorem State.portAt_putPort_eq (s : State) (p : Port) (q : Nat) : (s.putPort p).portAt q = if q = p.n then p else s.portAt q := by
  by_cases h : q = p.n
  · rw [if_pos h, h, State.portAt_putPort]
  · rw [if_neg h, State.portAt_putPort_other _ _ _ (Ne.symm h)]

theorem State.portAt_logPort (s : State) (port : Nat) (r : ErrRecord) (q : Nat) :
    (s.logPort port r).portAt q = if q = port then (s.portAt port).logRecord r else s.portAt q := by
  rw [State.logPort, State.portAt_putPort_eq, show ((s.portAt port).logRecord r).n = port from s.portAt_n port]

/-- Both ports log a record that is about the whole device. -/
theorem State.portAt_logAll (s : State) (r : ErrRecord) {q : Nat} (hq : q < 2) : (s.logAll r).portAt q = (s.portAt q).logRecord r := by
  rw [State.logAll]
  interval_cases q <;> simp [State.portAt_logPort]

theorem State.onHartId_frame (s : State) (id : Nat) (f : Hart → Hart) :
    s.onHartId id f = { s with hart := (s.onHartId id f).hart, others := (s.onHartId id f).others } := by
  unfold State.onHartId
  split
  · unfold State.putHart
    split <;> rfl
  · rfl

theorem State.portAt_onHartId (s : State) (id : Nat) (f : Hart → Hart) (q : Nat) : (s.onHartId id f).portAt q = s.portAt q := by
  rw [State.onHartId_frame]
  rfl

/-- One more corrected error in one counter, and the others as they were. -/
theorem Port.corrected_countError (p : Port) {n m : Nat} (hn : n < 3) (hm : m < 3) :
    (p.countError n).corrected m = if m = n then min 65535 (p.corrected n + 1) else p.corrected m := by
  interval_cases n <;> interval_cases m <;> rfl

theorem Port.countError_frame (p : Port) (n : Nat) : (p.countError n).n = p.n ∧ (p.countError n).cethr = p.cethr := by
  unfold Port.countError
  dsimp only
  split
  · exact ⟨rfl, rfl⟩
  · split <;> exact ⟨rfl, rfl⟩

/-- A corrected error counted by one port. -/
def State.countAt (s : State) (die counter port : Nat) : State :=
  let p := s.portAt port
  let q := p.countError counter
  let t := s.putPort q
  if p.notifies q counter then
    (t.logAll (dieRecord 7 0xB1 die counter 0)).onHartId (2304 + die) (fun h => { h with softErr := h.softErr ++ [counter], event := true })
  else t

/-- What counting an error may change: the ports, and the harts, of which a groom core may be told. -/
structure CountFrame (s t : State) : Prop where
  frame : t = { s with ports := t.ports, hart := t.hart, others := t.others }

theorem CountFrame.trans {u : State} (h : CountFrame s t) (k : CountFrame t u) : CountFrame s u := ⟨by rw [k.frame, h.frame]⟩

theorem State.countAt_frame (s : State) (die n port : Nat) : CountFrame s (s.countAt die n port) := by
  unfold State.countAt
  dsimp only
  split
  · rw [State.onHartId_frame]
    exact ⟨rfl⟩
  · exact ⟨rfl⟩

theorem State.countError_frame (s : State) (die n : Nat) : CountFrame s (s.countError die n) :=
  (s.countAt_frame die n 0).trans (State.countAt_frame _ die n 1)

theorem State.countAt_noThreshold (die n : Nat) {port : Nat} (h : (s.portAt port).cethr = 0) :
    s.countAt die n port = { s with ports := (s.countAt die n port).ports } := by
  have hno : (s.portAt port).notifies ((s.portAt port).countError n) n = false := by
    rw [Port.notifies, ((s.portAt port).countError_frame n).2, h]
    rfl
  unfold State.countAt
  dsimp only
  rw [hno]
  rfl

/-- A record in the logs changes no counter. -/
theorem State.portAt_countAt (s : State) (die n : Nat) {port q : Nat} (hq : q < 2) :
    (∀ m, ((s.countAt die n port).portAt q).corrected m = (if q = port then (s.portAt port).countError n else s.portAt q).corrected m) ∧
      ((s.countAt die n port).portAt q).cethr = (s.portAt q).cethr := by
  obtain ⟨hn, hc⟩ := (s.portAt port).countError_frame n
  have hput : (s.putPort ((s.portAt port).countError n)).portAt q = if q = port then (s.portAt port).countError n else s.portAt q := by
    rw [State.portAt_putPort_eq, hn, State.portAt_n]
  have hcethr : (if q = port then (s.portAt port).countError n else s.portAt q).cethr = (s.portAt q).cethr := by
    split
    · rename_i h; rw [hc, h]
    · rfl
  unfold State.countAt
  dsimp only
  split
  · rw [State.portAt_onHartId, State.portAt_logAll _ _ hq, hput]
    exact ⟨fun _ => rfl, hcethr⟩
  · rw [hput]
    exact ⟨fun _ => rfl, hcethr⟩

/-- A corrected error counts in both ports (R366). -/
theorem exec_correctedError_results {die n : Nat} (hd : die < 6) (hn : n < 3) : ∃ t, exec (.correctedError die n) s = .next t ∧
    (∀ q, q < 2 → (t.portAt q).corrected n = min 65535 ((s.portAt q).corrected n + 1) ∧
      ∀ m, m < 3 → m ≠ n → (t.portAt q).corrected m = (s.portAt q).corrected m) ∧
    t.mem = s.mem ∧ ((s.portAt 0).cethr = 0 → (s.portAt 1).cethr = 0 → t = { s with ports := t.ports }) := by
  have hexec : exec (.correctedError die n) s = .next (s.countError die n) := if_neg (by omega)
  have hzero (q m : Nat) (hq : q < 2) := (s.portAt_countAt die n (port := 0) hq).1 m
  have hone (q m : Nat) (hq : q < 2) := ((s.countAt die n 0).portAt_countAt die n (port := 1) hq).1 m
  have hcount (q : Nat) (hq : q < 2) (m : Nat) (hm : m < 3) :
      ((s.countError die n).portAt q).corrected m = if m = n then min 65535 ((s.portAt q).corrected n + 1) else (s.portAt q).corrected m := by
    refine (hone q m hq).trans ?_
    interval_cases q
    · exact (hzero 0 m hq).trans (Port.corrected_countError _ hn hm)
    · refine (Port.corrected_countError _ hn hm).trans ?_
      rw [hzero 1 n hq, hzero 1 m hq]
      rfl
  refine ⟨_, hexec, fun q hq => ⟨?_, fun m hm hne => ?_⟩, ?_, fun h0 h1 => ?_⟩
  · rw [hcount q hq n hn, if_pos rfl]
  · rw [hcount q hq m hm, if_neg hne]
  · rw [(s.countError_frame die n).frame]
  · have h1' : ((s.countAt die n 0).portAt 1).cethr = 0 := (s.portAt_countAt die n (by decide)).2.trans h1
    show (s.countAt die n 0).countAt die n 1 = { s with ports := ((s.countAt die n 0).countAt die n 1).ports }
    rw [State.countAt_noThreshold die n h1', State.countAt_noThreshold die n h0]

/-! ## Scrubs (R364, R365) -/

/-- What a record in the logs, with its event for the error recovery agent, may change. -/
structure LogFrame (s t : State) : Prop where
  frame : t = { s with ports := t.ports, dies := t.dies }

theorem LogFrame.trans {u : State} (h : LogFrame s t) (k : LogFrame t u) : LogFrame s u := ⟨by rw [k.frame, h.frame]⟩

theorem LogFrame.hostFn (h : LogFrame s t) (f : Nat) : t.hostFn f = s.hostFn f := by rw [h.frame]; rfl

theorem State.contain_logFrame (s : State) (r : ErrRecord) : LogFrame s (s.contain r) := by
  unfold State.contain State.recoveryEvent State.postEvent
  dsimp only
  split
  · split <;> exact ⟨rfl⟩
  · exact ⟨rfl⟩

/-- An event leaves the count of records as it is. -/
theorem State.postEvent_errHead (s : State) (port source cause die ctx : Nat) (value detail : Word) (q : Nat) :
    ((s.postEvent port source cause die ctx value detail).portAt q).errHead = (s.portAt q).errHead := by
  have hn := s.portAt_n port
  unfold State.postEvent
  dsimp only
  split
  · rw [State.portAt_putPort_eq]
    split
    · rename_i h; rw [h, show (s.portAt port).n = port from hn]
    · rfl
  · rw [State.portAt_putPort_eq]
    split
    · rename_i h; rw [h, show (s.portAt port).n = port from hn]
    · rfl

theorem State.contain_errHead (s : State) (r : ErrRecord) {q : Nat} (hq : q < 2) :
    ((s.contain r).portAt q).errHead = ((s.portAt q).errHead + 1) % 2 ^ 32 := by
  have hlog : ((s.logAll r).portAt q).errHead = ((s.portAt q).errHead + 1) % 2 ^ 32 := by rw [State.portAt_logAll _ _ hq]; rfl
  unfold State.contain State.recoveryEvent
  split
  · rw [State.postEvent_errHead, hlog]
  · exact hlog

/-- Where die 0's groom core is the agent, the cause comes to its inbox. -/
theorem State.contain_inbox {r : ErrRecord} (h : s.hostFn 4 = false) (hc : r.cause ≠ 0xB0) :
    ((s.contain r).dieAt 0).inbox = (s.dieAt 0).inbox ++ [stopAt r.cause r.addr] := by
  have hfn : (s.logAll r).hostFn 4 = false := h
  unfold State.contain State.recoveryEvent
  rw [hfn, if_neg Bool.false_ne_true, if_neg (by simp [hc])]
  have hput := (s.logAll r).dieAt_putDie { s.dieAt 0 with inbox := (s.dieAt 0).inbox ++ [stopAt r.cause r.addr] }
  rw [show ({ s.dieAt 0 with inbox := (s.dieAt 0).inbox ++ [stopAt r.cause r.addr] } : Die).n = 0 from s.dieAt_n 0] at hput
  exact congrArg Die.inbox hput

/-- Failing sectors found in turn: a record and a cause for each. -/
theorem State.foldl_contain_spec (die : Nat) (bad : List Nat) :
    LogFrame s (bad.foldl (fun t f => t.contain (dieRecord 3 0 die (f * 32) 0)) s) ∧
    (s.hostFn 4 = false → ((bad.foldl (fun t f => t.contain (dieRecord 3 0 die (f * 32) 0)) s).dieAt 0).inbox =
      (s.dieAt 0).inbox ++ bad.map (fun f => stopAt 0 (f * 32))) ∧
    ∀ q, q < 2 → bad ≠ [] → ((bad.foldl (fun t f => t.contain (dieRecord 3 0 die (f * 32) 0)) s).portAt q).errHead =
      ((s.portAt q).errHead + bad.length) % 2 ^ 32 := by
  induction bad generalizing s with
  | nil => exact ⟨⟨rfl⟩, fun _ => (List.append_nil _).symm, fun _ _ h => absurd rfl h⟩
  | cons f l ih =>
    obtain ⟨hframe, hinbox, hhead⟩ := ih (s := s.contain (dieRecord 3 0 die (f * 32) 0))
    have hc := s.contain_logFrame (dieRecord 3 0 die (f * 32) 0)
    refine ⟨hc.trans hframe, fun h => ?_, fun q hq _ => ?_⟩
    · rw [List.foldl_cons, hinbox ((hc.hostFn 4).trans h), State.contain_inbox h (by decide : (0 : Nat) ≠ 0xB0), List.append_assoc]
      rfl
    · have hone := s.contain_errHead (dieRecord 3 0 die (f * 32) 0) hq
      rw [List.foldl_cons]
      cases l with
      | nil => exact hone
      | cons g l =>
        rw [hhead q hq (List.cons_ne_nil _ _), hone]
        simp only [List.length_cons]
        omega

/-- A scrub of a line contains an error for each of its failing sectors. -/
theorem exec_memoryScrub_results (s : State) (addr : Nat) : let bad := (countFrom (addr / 128 * 4) 4).filter (fun f => s.failing.contains f);
    (deviceTop ≤ addr ∨ (s.dieAt (addr / dieBytes)).run ≠ .running ∨ bad = [] → exec (.memoryScrub addr) s = .next s) ∧
    (addr < deviceTop → (s.dieAt (addr / dieBytes)).run = .running → ∃ t, exec (.memoryScrub addr) s = .next t ∧
      t = { s with ports := t.ports, dies := t.dies } ∧
      (s.hostFn 4 = false → (t.dieAt 0).inbox = (s.dieAt 0).inbox ++ bad.map (fun f => stopAt 0 (f * 32))) ∧
      ∀ q, q < 2 → (t.portAt q).errHead = ((s.portAt q).errHead + bad.length) % 2 ^ 32 ∨ (bad = [] ∧ t = s)) := by
  intro bad
  have hexec (ha : addr < deviceTop) (hrun : (s.dieAt (addr / dieBytes)).run = .running) :
      exec (.memoryScrub addr) s = .next (bad.foldl (fun t f => t.contain (dieRecord 3 0 (addr / dieBytes) (f * 32) 0)) s) :=
    (if_neg (Nat.not_le.mpr ha)).trans (State.whenRuns_running hrun _)
  refine ⟨fun h => ?_, fun ha hrun => ?_⟩
  · by_cases ha : deviceTop ≤ addr
    · exact if_pos ha
    · by_cases hrun : (s.dieAt (addr / dieBytes)).run = .running
      · rw [hexec (by omega) hrun, (h.resolve_left ha).resolve_left (not_not_intro hrun)]
        rfl
      · exact (if_neg ha).trans (State.whenRuns_not hrun _)
  · obtain ⟨hframe, hinbox, hhead⟩ := State.foldl_contain_spec (s := s) (addr / dieBytes) bad
    refine ⟨_, hexec ha hrun, hframe.frame, hinbox, fun q hq => ?_⟩
    by_cases hb : bad = []
    · exact .inr ⟨hb, by rw [hb]; rfl⟩
    · exact .inl (hhead q hq hb)

/-! ## Burzer links and peers (R369, R370) -/

/-- A replayed flit of a link that is up (R369). -/
theorem exec_burzerCrcReplay_results {link : Nat} (hl : link < 16) (hd : s.linkDown.contains link = false) :
    ∃ t n, exec (.burzerCrcReplay link) s = .next t ∧ t.mem = s.mem ∧ 1 ≤ n ∧ n ≤ s.replaysOf link + 1 ∧
      t.linkDown = (if 16 ≤ n then link :: s.linkDown else s.linkDown) ∧ (n < 16 → t.replaysOf link = n) := by
  have hframe := (s.countError_frame (linkDie link) 2).frame
  have hmem : (s.countError (linkDie link) 2).mem = s.mem := by rw [hframe]
  have hdown : (s.countError (linkDie link) 2).linkDown = s.linkDown := by rw [hframe]
  have hexec : exec (.burzerCrcReplay link) s = _ := (if_neg (Nat.not_le.mpr hl)).trans (if_neg (by rw [hd]; exact Bool.false_ne_true))
  refine ⟨_, min (s.replaysOf link) (Config.recentReplays s.fresh) + 1, hexec, ?_, by omega, by omega, ?_, fun hn => ?_⟩
  · split <;> exact hmem
  · split
    · exact congrArg _ hdown
    · exact hdown
  · rw [if_neg (by omega)]
    simp [State.replaysOf, findBy_putBy_same]

theorem exec_burzerCrcReplay_none {link : Nat} (h : 16 ≤ link ∨ s.linkDown.contains link = true) : exec (.burzerCrcReplay link) s = .next s := by
  by_cases hl : 16 ≤ link
  · exact if_pos hl
  · exact (if_neg hl).trans (if_pos (h.resolve_left hl))

/-- A peer that is silent, and a spare that takes its number (R370). -/
theorem exec_peer_results (s : State) (dev : Nat) :
    exec (.peerSilenceTimeout dev) s = .next (if dev < 8192 ∧ s.peers.contains dev = true ∧ s.failedDev.contains dev = false then
      State.logAll { s with failedDev := dev :: s.failedDev, linkDown := (s.linksTo dev).filter (fun l => !s.linkDown.contains l) ++ s.linkDown }
        (dieRecord 8 0 0 0 dev)
      else s) ∧
    exec (.spareAssign dev) s = .next (if dev < 8192 ∧ s.ready = true then
      { s with device := dev, failedDev := dropBy (fun d : Nat => d == dev) s.failedDev,
               peers := dropBy (fun d : Nat => d == dev) s.peers } else s) := by
  refine ⟨?_, ?_⟩
  · show execPeerSilenceTimeout dev s = _
    unfold execPeerSilenceTimeout
    by_cases h : dev < 8192 ∧ s.peers.contains dev = true ∧ s.failedDev.contains dev = false
    · obtain ⟨hd, hp, hf⟩ := h
      rw [if_neg (Nat.not_le.mpr hd), hp, hf, if_neg (by decide), if_pos ⟨hd, rfl, rfl⟩]
    · rw [if_neg h]
      split
      · rfl
      · rename_i hd
        refine if_pos ?_
        by_contra hb
        exact h ⟨Nat.not_le.mp hd, by simpa using hb⟩
  · show execSpareAssign dev s = _
    unfold execSpareAssign
    by_cases h : dev < 8192 ∧ s.ready = true
    · rw [if_pos h, if_neg (by simp [h])]
    · rw [if_neg h, if_pos (by simpa [imp_iff_not_or] using h)]

/-! ## Checkpoints (R370) -/

/-- A checkpoint holds what the ranges that it is of hold. -/
theorem exec_checkpointWrite_results (hm : MemOk s) (hu : s.ulines = []) : ∃ t c, exec .checkpointWrite s = .next t ∧
    t = { s with checkpts := t.checkpts } ∧ findBy (fun p : Nat × Checkpoint => p.1 == s.device) t.checkpts = some (s.device, c) ∧
    c.rings = s.rings ∧ c.graphs = s.graphs ∧ c.ranges = s.checkpointRanges ∧
    ∀ a, c.mem.read a = if inRanges s.checkpointRanges a then s.mem.read a else 0#8 := by
  have hexec : exec .checkpointWrite s = execCheckpointWrite s := rfl
  unfold execCheckpointWrite at hexec
  rw [hu] at hexec
  exact ⟨_, _, hexec, rfl, findBy_putBy_same _ _ _ (by simp), rfl, rfl, rfl, Memory.read_filter_addr (inRanges s.checkpointRanges) hm⟩

theorem State.lastCheckpoint_own {c : Checkpoint} (h : findBy (fun p : Nat × Checkpoint => p.1 == s.device) s.checkpts = some (s.device, c)) :
    s.lastCheckpoint = some c := by
  simp only [State.lastCheckpoint, h]

theorem State.foldl_touchRegion_frame (l : Memory) : l.foldl (fun (t : State) p => t.touchRegion p.1) s =
    { s with initSet := (l.foldl (fun (t : State) p => t.touchRegion p.1) s).initSet } := by
  induction l generalizing s with
  | nil => rfl
  | cons p l ih =>
    rw [List.foldl_cons, ih, State.touchRegion_frame]

/-- A checkpoint of no graphs restored: rings and memory are as it holds them. -/
theorem State.restore_spec {c : Checkpoint} (hm : MemOk s) (hwf : c.mem.wf = true) (hg : c.graphs = []) :
    (s.restore c).rings = c.rings ∧ (s.restore c).graphs = [] ∧ (s.restore c).hart = s.hart ∧
    ∀ a, (inRanges c.ranges a = true → (s.restore c).mem.read a = c.mem.read a) ∧
      (inRanges c.ranges a = false → c.mem.read a = 0#8 → (s.restore c).mem.read a = s.mem.read a) := by
  obtain ⟨hrings, hgraphs, hhart, hmem⟩ : (s.restore c).rings = c.rings ∧ (s.restore c).graphs = [] ∧ (s.restore c).hart = s.hart ∧
      (s.restore c).mem = c.mem.foldl (fun (m : Memory) p => m.write p.1 p.2)
        (c.ranges.foldl (fun (m : Memory) r => m.clear r.lo (r.lo + r.len)) s.mem) := by
    unfold State.restore
    dsimp only
    rw [hg, List.foldl_nil, State.foldl_touchRegion_frame]
    exact ⟨rfl, rfl, rfl, rfl⟩
  have hread (a : Nat) : (s.restore c).mem.read a =
      if c.mem.read a = 0#8 then (if inRanges c.ranges a then 0#8 else s.mem.read a) else c.mem.read a := by
    rw [hmem, Memory.read_foldl_write hwf (Memory.wf_foldl_clear hm), Memory.read_foldl_clear _ hm]
  refine ⟨hrings, hgraphs, hhart, fun a => ⟨fun h => ?_, fun h hc => ?_⟩⟩
  · rw [hread, h, if_pos rfl]
    split
    · rename_i h0; exact h0.symm
    · rfl
  · rw [hread, h, hc, if_pos rfl, if_neg Bool.false_ne_true]

/-- The links over which a checkpoint comes from the buddy of this device. -/
def State.buddyLinks (s : State) : Nat :=
  ((s.linksTo (if s.device % 2 = 0 then s.device + 1 else s.device - 1)).filter (fun l => !s.linkDown.contains l)).length

theorem exec_checkpointRestore (h : 4 ≤ s.buddyLinks) : exec .checkpointRestore s = match s.lastCheckpoint with
    | none => .next { s with fresh := s.fresh + 1 }
    | some c => .next (if sumBy (fun r : Range => r.len) c.ranges ≤ 2 ^ 36 then ({ s with fresh := s.fresh + 1 } : State).restore c
        else { s with fresh := s.fresh + 1 }) :=
  if_neg (Nat.not_lt.mpr h)

/-- A restore from the buddy: over four links at least, 64 GiB at most. -/
theorem exec_checkpointRestore_results (hm : MemOk s) :
    (∀ c, findBy (fun p : Nat × Checkpoint => p.1 == s.device) s.checkpts = some (s.device, c) → s.lastCheckpoint = some c) ∧
    (s.buddyLinks < 4 → exec .checkpointRestore s = .next s) ∧
    (4 ≤ s.buddyLinks → s.lastCheckpoint = none → exec .checkpointRestore s = .next { s with fresh := s.fresh + 1 }) ∧
    (∀ c, 4 ≤ s.buddyLinks → s.lastCheckpoint = some c → let size := sumBy (fun r : Range => r.len) c.ranges;
      (2 ^ 36 < size → exec .checkpointRestore s = .next { s with fresh := s.fresh + 1 }) ∧
      (size ≤ 2 ^ 36 → c.mem.wf = true → c.graphs = [] → ∃ t, exec .checkpointRestore s = .next t ∧ t.rings = c.rings ∧ t.graphs = [] ∧
        t.hart = s.hart ∧ ∀ a, (inRanges c.ranges a = true → t.mem.read a = c.mem.read a) ∧
          (inRanges c.ranges a = false → c.mem.read a = 0#8 → t.mem.read a = s.mem.read a))) := by
  refine ⟨fun c h => State.lastCheckpoint_own h, fun h => if_pos h, fun h hc => ?_, fun c h hc => ⟨fun hs => ?_, fun hs hwf hg => ?_⟩⟩
  · rw [exec_checkpointRestore h, hc]
  · rw [exec_checkpointRestore h, hc]
    dsimp only
    rw [if_neg (Nat.not_le.mpr hs)]
  · rw [exec_checkpointRestore h, hc]
    dsimp only
    rw [if_pos hs]
    exact ⟨_, rfl, State.restore_spec (s := { s with fresh := s.fresh + 1 }) hm hwf hg⟩

/-! ## Accesses of peers (R369) -/

/-- A write where no line is in U stores its bytes and leaves the harts. -/
theorem State.physWrite_nil (hu : s.ulines = []) (who pa n v : Nat) : (s.physWrite who pa n v).mem = s.mem.writeN pa n v ∧
    (s.physWrite who pa n v).hart = s.hart := by
  unfold State.physWrite
  simp only [State.mergeRange_nil hu]
  rw [State.bufferHost_frame, State.touchRegion_frame]
  exact ⟨rfl, rfl⟩

/-- An access to device memory where no line is in U: only a read that meets a failing sector fails. -/
theorem State.dataFault_device (hu : s.ulines = []) {pa n : Nat} (hpa : pa < deviceTop) (write : Bool) :
    s.dataFault pa n write = if s.failsAt pa n && !write then some (0x49, 3) else none := by
  simp [State.dataFault, targetOf, hpa, hu, anyBy]

theorem State.physRead_device (hu : s.ulines = []) {pa n : Nat} (hpa : pa < deviceTop) : (s.physRead pa n).2 = s := by
  rw [State.physRead_nil hu]
  simp [State.bufferHost, targetOf, hpa]

/-- What a peer's access makes at a physical address of this device. -/
def State.peerAccess (s : State) (link : Nat) (write : Bool) (pa bytes : Nat) (value : Word) : State :=
  match s.dataFault pa bytes write with
  | some (c, cls) => s.contain (dieRecord cls c (pa / dieBytes) pa 0)
  | none => if write then s.physWrite (6000 + link) pa bytes value.toNat else (s.physRead pa bytes).2

/-- An access of a peer that lies in its slice of memory, of 1, 2, 4 or 8 bytes and naturally aligned (R369). -/
def State.peerFits (s : State) (bytes addr : Nat) : Prop :=
  (bytes = 1 ∨ bytes = 2 ∨ bytes = 4 ∨ bytes = 8) ∧ addr % bytes = 0 ∧ addr + bytes ≤ 2 ^ 37 ∧ s.exportSlice * 2 ^ 37 + addr + bytes ≤ deviceTop

/-- Nothing comes of an access by a link that is down, to a die that does not run, of a moved line, or that does not fit. -/
theorem exec_inboundPeerAccess_none {link bytes addr pa : Nat} {write : Bool} {value : Word} (hpa : s.exportSlice * 2 ^ 37 + addr = pa)
    (h : 16 ≤ link ∨ s.linkDown.contains link = true ∨ ¬ s.peerFits bytes addr ∨
      ¬ ((s.dieAt (linkDie link)).run = .running ∧ (s.dieAt (pa / dieBytes)).run = .running) ∨ s.movedLine (pa / 128) = true) :
    exec (.inboundPeerAccess link write (addr, bytes) value) s = .next s := by
  show execInboundPeerAccess link write (addr, bytes) value s = _
  unfold execInboundPeerAccess
  dsimp only
  rw [hpa, State.unless, if_pos]
  unfold State.peerFits at h
  rw [hpa] at h
  simp only [Bool.or_eq_true, decide_eq_true_eq, Bool.not_eq_true', decide_eq_false_iff_not, bne_iff_ne]
  rw [not_and_or] at h
  tauto

/-- An access that fits, by a link that is up, is made. -/
theorem exec_inboundPeerAccess_made {link bytes addr pa : Nat} {write : Bool} {value : Word} (hpa : s.exportSlice * 2 ^ 37 + addr = pa)
    (hl : link < 16) (hd : s.linkDown.contains link = false) (hok : s.peerFits bytes addr) (hfrom : (s.dieAt (linkDie link)).run = .running)
    (hto : (s.dieAt (pa / dieBytes)).run = .running) (hmv : s.movedLine (pa / 128) = false) :
    exec (.inboundPeerAccess link write (addr, bytes) value) s = .next (s.peerAccess link write pa bytes value) := by
  show execInboundPeerAccess link write (addr, bytes) value s = _
  unfold execInboundPeerAccess
  dsimp only
  rw [hpa, State.unless, if_neg]
  · rfl
  · unfold State.peerFits at hok
    rw [hpa] at hok
    simp only [Bool.or_eq_true, decide_eq_true_eq, Bool.not_eq_true', decide_eq_false_iff_not, bne_iff_ne]
    rw [hd, hmv]
    simp only [hfrom, hto, hok, Nat.not_le.mpr hl, and_self, not_true_eq_false, ne_eq, Bool.false_eq_true, or_self, not_false_eq_true]

/-- An access that is made stores its bytes, or reads, and a read that meets a failing sector is a contained error (R365). -/
theorem State.peerAccess_results (hm : MemOk s) (hu : s.ulines = []) {bytes addr pa : Nat} (hpa : s.exportSlice * 2 ^ 37 + addr = pa)
    (hok : s.peerFits bytes addr) (link : Nat) (value : Word) :
    (Stored s (s.peerAccess link true pa bytes value) pa bytes value.toNat ∧ (s.peerAccess link true pa bytes value).hart = s.hart) ∧
    (s.failsAt pa bytes = false → s.peerAccess link false pa bytes value = s) ∧
    (s.failsAt pa bytes = true → s.peerAccess link false pa bytes value = s.contain (dieRecord 3 0x49 (pa / dieBytes) pa 0)) := by
  obtain ⟨hb, -, -, htop⟩ := hok
  rw [hpa] at htop
  have hdev : pa < deviceTop := by omega
  have hfault := State.dataFault_device (n := bytes) hu hdev
  refine ⟨?_, fun hf => ?_, fun hf => ?_⟩
  · obtain ⟨hmem, hhart⟩ := State.physWrite_nil hu (6000 + link) pa bytes value.toNat
    have hstore : s.peerAccess link true pa bytes value = s.physWrite (6000 + link) pa bytes value.toNat := by simp [State.peerAccess, hfault]
    rw [hstore]
    refine ⟨⟨fun i hi => ?_, fun a ha => ?_⟩, hhart⟩
    · rw [hmem, Memory.read_writeN hm, if_pos (by omega), Nat.add_sub_cancel_left]
    · rw [hmem, Memory.read_writeN hm, if_neg (by omega)]
  · rw [State.peerAccess, hfault, hf]
    exact State.physRead_device hu hdev
  · rw [State.peerAccess, hfault, hf]
    rfl

theorem exec_inboundPeerAccess_results (hm : MemOk s) (link bytes addr : Nat) (write : Bool) (value : Word) : let pa := s.exportSlice * 2 ^ 37 + addr
    let ok := (bytes = 1 ∨ bytes = 2 ∨ bytes = 4 ∨ bytes = 8) ∧ addr % bytes = 0 ∧ addr + bytes ≤ 2 ^ 37 ∧ pa + bytes ≤ deviceTop
    let runs := (s.dieAt (linkDie link)).run = .running ∧ (s.dieAt (pa / dieBytes)).run = .running;
    (16 ≤ link ∨ s.linkDown.contains link = true ∨ ¬ ok ∨ ¬ runs ∨ s.movedLine (pa / 128) = true →
      exec (.inboundPeerAccess link write (addr, bytes) value) s = .next s) ∧
    (link < 16 → s.linkDown.contains link = false → ok → runs → s.movedLine (pa / 128) = false → s.ulines = [] →
      (∃ t, exec (.inboundPeerAccess link true (addr, bytes) value) s = .next t ∧ Stored s t pa bytes value.toNat ∧ t.hart = s.hart) ∧
      (s.failsAt pa bytes = false → exec (.inboundPeerAccess link false (addr, bytes) value) s = .next s) ∧
      (s.failsAt pa bytes = true →
        exec (.inboundPeerAccess link false (addr, bytes) value) s = .next (s.contain (dieRecord 3 0x49 (pa / dieBytes) pa 0)))) := by
  intro pa ok runs
  refine ⟨exec_inboundPeerAccess_none rfl, fun hl hd hok hruns hmv hu => ?_⟩
  obtain ⟨hstore, hread, hfails⟩ := State.peerAccess_results hm hu rfl hok link value
  have hgo (write : Bool) : exec (.inboundPeerAccess link write (addr, bytes) value) s = .next (s.peerAccess link write pa bytes value) :=
    exec_inboundPeerAccess_made rfl hl hd hok hruns.1 hruns.2 hmv
  exact ⟨⟨_, hgo true, hstore⟩, fun hf => by rw [hgo, hread hf], fun hf => by rw [hgo, hfails hf]⟩

end

/-- Settles O52: step by step of the device; memory by what clearing, filtering and restoring read, a link by what its homes keep. -/
theorem powerAndErrorResults : Obligations.PowerAndErrorResults := by
  unfold Obligations.PowerAndErrorResults
  intro s hm
  refine ⟨exec_powerGood_results hm, exec_powerLoss_results hm, fun err => ?_, fun port hp ho => ?_, fun h => if_pos h,
    exec_backgroundInitRegion_results hm, fun port => ⟨exec_hostLink_absent, fun hp => ?_⟩, ?_, ?_, fun die n => ?_, exec_memoryScrub_results s,
    fun link => ⟨?_, exec_burzerCrcReplay_none, exec_burzerCrcReplay_results⟩, exec_peer_results s, exec_checkpointWrite_results hm,
    exec_checkpointRestore_results hm, exec_inboundPeerAccess_results hm⟩
  · intro fails
    exact ⟨exec_bringupStageComplete_off, fun hb hf => ⟨_, exec_bringupStageComplete_fails hb hf, rfl⟩, exec_bringupStageComplete_ends⟩
  · exact ⟨exec_ctrlWreset_results hp ho, exec_ctrlBootretry_results hp ho⟩
  · obtain ⟨hnone, hidle⟩ := exec_hostLinkDown_results (s := s) hp
    exact ⟨fun h => ⟨hnone h, exec_ioDomainPowerLoss_results hp h⟩, hidle⟩
  · exact ⟨_, rfl, s.shutdown_results 0⟩
  · exact ⟨_, rfl, s.shutdown_results 1⟩
  · refine ⟨fun hd => ⟨?_, if_pos (.inl hd)⟩, fun hn => if_pos (.inr hn), fun hd => ?_, exec_correctedError_results⟩
    · show s.unless _ _ = _
      rw [State.unless, if_pos (by simpa using hd)]
    · show s.unless _ _ = _
      rw [State.unless, if_neg (by simpa using hd)]
  · show s.unless _ s = _
    rw [State.unless, ite_self]

end Sys2Proof.Machine
end

section
/-! O51: what a host does at a port (R36, R37, R41 to R48, R358, R366, R368, R371).

Each clause is one step at a port. A port that exists gets past the check of its number (`State.onPort_present`, `State.portChoice`), and a control
past that of its owner (`State.onPort_owned`, `State.onPort_notOwned`); what is left is the branch that the clause names. -/

namespace Sys2Proof.Machine

/-! ## Which ports there are, and which holds `HSEM` (R43, R44) -/

section
variable {s : State} {port off : Nat} {value : Word}

theorem State.unless_absent {b : Bool} (h : b = true) (t : State) : s.unless b t = .next s := by rw [State.unless, if_pos h]

theorem State.unless_present {b : Bool} (h : b = false) (t : State) : s.unless b t = .next t := by
  rw [State.unless, h, if_neg Bool.false_ne_true]

theorem State.onPort_absent (h : 2 ≤ port) (t : State) : s.onPort port t = .next s := State.unless_absent (decide_eq_true h) t

theorem State.onPort_present (h : port < 2) (t : State) : s.onPort port t = .next t :=
  State.unless_present (decide_eq_false (Nat.not_le.mpr h)) t

/-- A control written through a port that does not hold `HSEM` is ignored and recorded. -/
theorem State.onPort_notOwned (hp : port < 2) (ho : s.hsem ≠ port + 1) (f : State → State) :
    s.onPort port (s.owned port off f) = .next (s.logPort port (dieRecord 1 0 (3 * port) off 0)) := by
  have hown : s.owns port = false := by simpa [State.owns] using ho
  rw [State.onPort_present hp, State.owned, hown]
  rfl

theorem exec_hostPort_absent (h : 2 ≤ port) : exec (.hsemRead port) s = .next s ∧ exec (.hsemRelease port) s = .next s ∧
    exec (.ctrlModelock port) s = .next s ∧ exec (.ctrlCfglock port) s = .next s ∧ exec (.ctrlWinlock port) s = .next s ∧
    exec (.funcmodeWrite port value) s = .next s ∧ exec (.wakeWindowWrite port off value) s = .next s ∧ exec (.eventPost port) s = .next s ∧
    exec (.evackWrite port value) s = .next s ∧ exec (.sealWindowSeal port) s = .next s ∧ exec (.sealWindowRevoke port) s = .next s ∧
    exec (.spdmRequest port off) s = .next s ∧ exec (.bar2Access port true off value) s = .next s := by
  refine ⟨State.onPort_absent h _, State.onPort_absent h _, State.onPort_absent h _, State.onPort_absent h _, State.onPort_absent h _,
    State.onPort_absent h _, State.unless_absent ?_ _, State.onPort_absent h _, State.onPort_absent h _, State.onPort_absent h _,
    State.onPort_absent h _, State.onPort_absent h _, State.unless_absent ?_ _⟩
  · simp [h]
  · simp [h]

/-- `HSEM` read and released (R44). -/
theorem exec_hsem_results (hp : port < 2) :
    exec (.hsemRead port) s = .next { s.putPort { s.portAt port with reply := BitVec.ofNat 64 s.hsem } with
      hsem := if s.hsem = 0 then port + 1 else s.hsem } ∧
    exec (.hsemRelease port) s = .next { s with hsem := if s.hsem = port + 1 then 0 else s.hsem } := by
  refine ⟨State.onPort_present hp _, (State.onPort_present hp _).trans (congrArg _ ?_)⟩
  by_cases ho : s.hsem = port + 1
  · simp [State.owns, ho]
  · simp [State.owns, ho]

theorem exec_controls_owned (hp : port < 2) (ho : s.hsem = port + 1) :
    exec (.funcmodeWrite port value) s = .next { s with funcmode := if s.modelock then s.funcmode else value &&& 0x3F3F#64 } ∧
    exec (.ctrlModelock port) s = .next { s with modelock := true } ∧ exec (.ctrlCfglock port) s = .next { s with cfglock := true } ∧
    exec (.ctrlWinlock port) s = .next { s with winlock := true } := by
  refine ⟨(State.onPort_owned hp ho _).trans (congrArg _ ?_), State.onPort_owned hp ho _, State.onPort_owned hp ho _, State.onPort_owned hp ho _⟩
  unfold State.writeFuncmode
  split
  · rfl
  · rfl

theorem exec_controls_notOwned (hp : port < 2) (ho : s.hsem ≠ port + 1) :
    let log (a : Nat) : State := s.logPort port (dieRecord 1 0 (3 * port) a 0)
    exec (.funcmodeWrite port value) s = .next (log 0x18) ∧ exec (.ctrlModelock port) s = .next (log 0x20) ∧
    exec (.ctrlCfglock port) s = .next (log 0x20) ∧ exec (.ctrlWinlock port) s = .next (log 0x20) ∧
    exec (.ctrlWreset port) s = .next (log 0x20) ∧ exec (.ctrlBootretry port) s = .next (log 0x20) :=
  ⟨State.onPort_notOwned hp ho _, State.onPort_notOwned hp ho _, State.onPort_notOwned hp ho _, State.onPort_notOwned hp ho _,
    State.onPort_notOwned hp ho _, State.onPort_notOwned hp ho _⟩

/-! ## Registers that are read (R43, R45) -/

theorem bits_ofNat {lo n v : Nat} (h : lo + n ≤ 64) : bits (BitVec.ofNat 64 v) lo n = v / 2 ^ lo % 2 ^ n := by
  have hpow : (2 : Nat) ^ 64 = 2 ^ lo * 2 ^ (64 - lo) := by rw [← Nat.pow_add]; congr 1; omega
  rw [bits, BitVec.extractLsb'_toNat, BitVec.toNat_ofNat, Nat.shiftRight_eq_div_pow, hpow, Nat.mod_mul_right_div_self,
    Nat.mod_mod_of_dvd _ (Nat.pow_dvd_pow 2 (by omega))]

theorem readRegister_images (hp : port < 2) :
    bits (s.readRegister port 0) 0 16 = 0x5A36 ∧ bits (s.readRegister port 0) 32 1 = port ∧
    bits (s.readRegister port 8) 0 1 = s.ready.toNat ∧ bits (s.readRegister port 8) 8 4 = s.stage % 16 ∧
    bits (s.readRegister port 8) 12 4 = s.booterr % 16 := by
  have hid : s.readRegister port 0 = BitVec.ofNat 64 (s.idImage port) := rfl
  have hstatus : s.readRegister port 8 = BitVec.ofNat 64 s.statusImage := rfl
  have hready := s.ready.toNat_le
  have hfwok := s.fwok.toNat_le
  have hdone := s.initdone.toNat_le
  have hrec := s.recovery.toNat_le
  rw [hid, hstatus, bits_ofNat (by decide), bits_ofNat (by decide), bits_ofNat (by decide), bits_ofNat (by decide), bits_ofNat (by decide),
    State.idImage, State.statusImage]
  refine ⟨?_, ?_, ?_, ?_, ?_⟩ <;> omega

theorem readRegister_eventWord {i : Nat} (hi : i < 8) (hoff : off = 0x200 + 8 * i) :
    s.readRegister port off = BitVec.ofNat 64 ((nth (s.portAt port).eventWords i).getD 0) := by
  have hword : (off - 0x200) / 8 = i := by omega
  unfold State.readRegister
  dsimp only
  rw [if_neg (by omega), if_neg (by omega), if_neg (by omega), if_neg (by omega), if_neg (by omega), if_neg (by omega), if_pos (by omega), hword]

theorem nth_cons_zero {α : Type} (a : α) (l : List α) : nth (a :: l) 0 = some a := rfl

theorem nth_cons_succ {α : Type} (a : α) (l : List α) (n : Nat) : nth (a :: l) (n + 1) = nth l n := rfl

theorem Port.eventWords_nil {p : Port} (h : p.events = []) : p.eventWords = [0xFF] := by rw [Port.eventWords, h]

theorem Port.eventWords_cons {p : Port} {e : EventRec} {l : List EventRec} (h : p.events = e :: l) : p.eventWords =
    [e.source % 256 + e.cause % 256 * 2 ^ 8 + e.die % 8 * 2 ^ 16 + e.seq % 2 ^ 32 * 2 ^ 32, e.value.toNat, e.ctx % 2 ^ 24, e.detail.toNat] := by
  rw [Port.eventWords, h]

/-- `EVENT`: source 0xFF where nothing is held, else the oldest event. -/
theorem readRegister_event :
    ((s.portAt port).events = [] → bits (s.readRegister port 0x200) 0 8 = 0xFF) ∧
    (∀ e l, (s.portAt port).events = e :: l →
      bits (s.readRegister port 0x200) 32 32 = e.seq % 2 ^ 32 ∧ s.readRegister port 0x208 = e.value) := by
  have hfirst : s.readRegister port 0x200 = _ := readRegister_eventWord (i := 0) (by decide) rfl
  have hsecond : s.readRegister port 0x208 = _ := readRegister_eventWord (i := 1) (by decide) rfl
  refine ⟨fun h => ?_, fun e l h => ⟨?_, ?_⟩⟩
  · rw [hfirst, Port.eventWords_nil h]
    decide
  · rw [hfirst, Port.eventWords_cons h, nth_cons_zero, Option.getD_some, bits_ofNat (by decide)]
    omega
  · rw [hsecond, Port.eventWords_cons h, nth_cons_succ, nth_cons_zero, Option.getD_some, BitVec.ofNat_toNat, BitVec.setWidth_eq]

/-! ## The wake window (R45) -/

theorem exec_wakeWindowWrite_none (h : off % 8 ≠ 0 ∨ 64 ≤ off) : exec (.wakeWindowWrite port off value) s = .next s :=
  State.unless_absent (decide_eq_true (by tauto)) _

/-- Behind something that waits at its port a write waits (R312). -/
theorem exec_wakeWindowWrite_behind (hp : port < 2) (hb : (s.portAt port).blocked = true) (h8 : off % 8 = 0) (h64 : off < 64) :
    exec (.wakeWindowWrite port off value) s =
      .next (s.putPort { s.portAt port with behind := (s.portAt port).behind ++ [.wakeWindowWrite port off value] }) :=
  (State.unless_present (decide_eq_false (by omega)) _).trans (congrArg _ (if_pos hb))

/-- The state with a doubleword of a port's wake window written. -/
def State.putWake (s : State) (port off : Nat) (value : Word) : State :=
  s.putPort { s.portAt port with wake := putBytes (s.portAt port).wake off value.toNat }

/-- A write that does not wait: below the tail it is kept, above the tail nothing comes of it. -/
theorem exec_wakeWindowWrite_plain (hp : port < 2) (hb : (s.portAt port).blocked = false) (h8 : off % 8 = 0) :
    (off < 32 → exec (.wakeWindowWrite port off value) s = .next (s.putWake port off value)) ∧
    (32 < off → off < 64 → exec (.wakeWindowWrite port off value) s = .next s) := by
  have hgo (h64 : off < 64) (hne : off ≠ 32) : exec (.wakeWindowWrite port off value) s =
      .next (if off ≤ 32 then s.putWake port off value else s) :=
    (State.unless_present (decide_eq_false (by omega)) _).trans
      (congrArg _ ((if_neg (ne_true_of_eq_false hb)).trans (if_pos hne)))
  refine ⟨fun h => ?_, fun h h64 => ?_⟩
  · rw [hgo (by omega) (by omega), if_pos (by omega)]
  · rw [hgo h64 (by omega), if_neg (by omega)]

/-- A write of the tail that does not wait performs the wake, and is kept where the wake must be waited for. -/
theorem exec_wakeWindowWrite_tail (hp : port < 2) (hb : (s.portAt port).blocked = false) : let r := (s.putWake port 32 value).windowWake port
    exec (.wakeWindowWrite port 32 value) s =
      .next (if r.1 then r.2 else r.2.putPort { r.2.portAt port with writes := [(32, value)] }) := by
  intro r
  refine (State.unless_present (decide_eq_false (by omega)) _).trans (congrArg _ ((if_neg (ne_true_of_eq_false hb)).trans
    ((if_neg (not_not_intro rfl)).trans ?_)))
  dsimp only
  rw [if_pos le_rfl]
  split
  · rename_i u h
    rw [show r = (true, u) from h]
    rfl
  · rename_i u h
    rw [show r = (false, u) from h]
    rfl

/-- What comes of a wake by the window, as its capability and its ring answer (R20, R27, R45). -/
theorem State.windowWake_cases {w : List Byte} (hw : (s.portAt port).wake = w) :
    let d (i : Nat) : Word := BitVec.ofNat 64 (getBytes w (8 * i))
    let c := capOf (d 0) (d 1) (d 2) (d 3)
    let r := s.ringWake { unitWho (3 * port) c.owner 0#64 with service := false } c (getBytes w 32)
    (∀ x, s.capFails (d 0) (d 1) (d 2) (d 3) [.wake, .host] = some x →
      s.windowWake port = (true, s.logPort port (dieRecord 0 x (3 * port) 0 (getBytes w 32)))) ∧
    (s.capFails (d 0) (d 1) (d 2) (d 3) [.wake, .host] = none →
      (∀ x t, r = .ok x t → s.windowWake port = (true, t)) ∧
      (∀ x t, r = .stop x t → s.windowWake port =
        (true, (s.keepAttempt t false).logPort port (dieRecord 0 x.cause (3 * port) x.tval.toNat (getBytes w 32)))) ∧
      (∀ t, r = .wait t → s.windowWake port = (false, s.keepAttempt t true))) := by
  subst hw
  unfold State.windowWake
  dsimp only
  refine ⟨fun x h => ?_, fun h => ⟨fun x t hr => ?_, fun x t hr => ?_, fun t hr => ?_⟩⟩
  · rw [h]
    rfl
  · rw [h]
    dsimp only
    rw [hr]
  · rw [h]
    dsimp only
    rw [hr]
    rfl
  · rw [h]
    dsimp only
    rw [hr]

/-- A wake asked for by a write of the tail: discarded with a record, performed, or kept until it can be made. -/
theorem exec_wakeWindowWrite_tail_results (hp : port < 2) (hb : (s.portAt port).blocked = false) :
    let w := putBytes (s.portAt port).wake 32 value.toNat
    let d (i : Nat) : Word := BitVec.ofNat 64 (getBytes w (8 * i))
    let u := s.putWake port 32 value
    (∀ c, u.capFails (d 0) (d 1) (d 2) (d 3) [.wake, .host] = some c →
      exec (.wakeWindowWrite port 32 value) s = .next (u.logPort port (dieRecord 0 c (3 * port) 0 (getBytes w 32)))) ∧
    (u.capFails (d 0) (d 1) (d 2) (d 3) [.wake, .host] = none → let c := capOf (d 0) (d 1) (d 2) (d 3)
      let r := u.ringWake { unitWho (3 * port) c.owner 0#64 with service := false } c (getBytes w 32)
      (∀ x t, r = .ok x t → exec (.wakeWindowWrite port 32 value) s = .next t) ∧
      (∀ x t, r = .stop x t → exec (.wakeWindowWrite port 32 value) s =
        .next ((u.keepAttempt t false).logPort port (dieRecord 0 x.cause (3 * port) x.tval.toNat (getBytes w 32)))) ∧
      (∀ t, r = .wait t → let v := u.keepAttempt t true
        exec (.wakeWindowWrite port 32 value) s = .next (v.putPort { v.portAt port with writes := [(32, value)] }))) := by
  intro w d u
  have hw : (u.portAt port).wake = w :=
    congrArg Port.wake (State.portAt_putPort_n s (p := { s.portAt port with wake := w }) (s.portAt_n port))
  obtain ⟨hfails, hholds⟩ := State.windowWake_cases hw
  rw [exec_wakeWindowWrite_tail hp hb]
  refine ⟨fun c h => ?_, fun h => ?_⟩
  · rw [hfails c h]
    rfl
  · obtain ⟨hmade, hstops, hwaits⟩ := hholds h
    refine ⟨fun x t hr => ?_, fun x t hr => ?_, fun t hr => ?_⟩
    · rw [hmade x t hr]
      rfl
    · rw [hstops x t hr]
      rfl
    · rw [hwaits t hr]
      rfl

/-! ## Events (R45) -/

theorem exec_eventPost_results (hp : port < 2) : let p := s.portAt port
    (p.waiting = [] → exec (.eventPost port) s = .next s) ∧
    (∀ e l, p.waiting = e :: l → exec (.eventPost port) s = .next (if p.events.length < 64 then
      s.putPort { p with events := p.events ++ [{ e with seq := p.seq }], waiting := l, seq := (p.seq + 1) % 2 ^ 32, msix := p.msix ++ [e.source] }
      else s)) := by
  refine ⟨fun h => (State.onPort_present hp _).trans ?_, fun e l h => (State.onPort_present hp _).trans ?_⟩
  · rw [h]
  · rw [h]

theorem State.writeEvack_nil (h : (s.portAt port).events = []) : s.writeEvack port value = s := by
  unfold State.writeEvack
  dsimp only
  rw [h]

theorem State.writeEvack_cons {e : EventRec} {l : List EventRec} (h : (s.portAt port).events = e :: l) :
    (e.seq ≠ bits value 0 32 → s.writeEvack port value = s) ∧
    (e.seq = bits value 0 32 → e.source ≠ 1 → e.source ≠ 6 → (s.portAt port).waiting = [] →
      s.writeEvack port value = s.putPort { s.portAt port with events := l }) := by
  unfold State.writeEvack
  dsimp only
  rw [h]
  refine ⟨fun hseq => if_pos hseq, fun hseq h1 h6 hw => ?_⟩
  dsimp only
  rw [if_neg (not_not_intro hseq), if_pos hw, State.eventAnswered, if_neg h6, if_neg h1]

/-- The oldest event, of a source that nothing answers to, is retired by its sequence number. -/
theorem exec_evackWrite_results (hp : port < 2) : let p := s.portAt port
    (p.events = [] → exec (.evackWrite port value) s = .next s) ∧
    (∀ e l, p.events = e :: l → (e.seq ≠ bits value 0 32 → exec (.evackWrite port value) s = .next s) ∧
      (e.seq = bits value 0 32 → e.source ≠ 1 → e.source ≠ 6 → p.waiting = [] →
        exec (.evackWrite port value) s = .next (s.putPort { p with events := l }))) := by
  intro p
  have hexec : exec (.evackWrite port value) s = .next (s.writeEvack port value) := State.onPort_present hp _
  rw [hexec]
  refine ⟨fun h => congrArg _ (State.writeEvack_nil h), fun e l h => ?_⟩
  obtain ⟨hother, hretires⟩ := State.writeEvack_cons (value := value) h
  exact ⟨fun hseq => congrArg _ (hother hseq), fun hseq h1 h6 hw => congrArg _ (hretires hseq h1 h6 hw)⟩

/-! ## The SEAL window (R41) -/

theorem exec_sealWindow_off (hp : port < 2) (hf : s.hostFn 5 = false) :
    exec (.sealWindowSeal port) s = .next (s.logPort port (dieRecord 1 0 (3 * port) 0x420 0)) ∧
    exec (.sealWindowRevoke port) s = .next (s.logPort port (dieRecord 1 0 (3 * port) 0x420 0)) :=
  ⟨(State.onPort_present hp _).trans (congrArg _ (if_pos (by rw [hf]; rfl))),
    (State.onPort_present hp _).trans (congrArg _ (if_pos (by rw [hf]; rfl)))⟩

/-- Where function 5 is the host's, the window seals a capability of a right form, and an administrator's raises the floor of its owner. -/
theorem exec_sealWindow_on (hp : port < 2) (hf : s.hostFn 5 = true) : let p := s.portAt port
    let d (i : Nat) : Word := BitVec.ofNat 64 (getBytes p.sealWin (8 * i))
    let c := capOf (d 0) (d 1) (d 2) (d 3)
    (c.formOk = true → exec (.sealWindowSeal port) s =
      .next (s.putPort ({ p with sealWin := putBytes p.sealWin 24 (sealOf (Config.sealKey s.epoch) (d 0) (d 1) (d 2)).toNat }.sealResult 0))) ∧
    (c.formOk = false → exec (.sealWindowSeal port) s = .next (s.putPort (p.sealResult 0xA5))) ∧
    (∀ x, s.capFails (d 0) (d 1) (d 2) (d 3) [.admin] = some x → exec (.sealWindowRevoke port) s = .next (s.putPort (p.sealResult x))) ∧
    (s.capFails (d 0) (d 1) (d 2) (d 3) [.admin] = none → let u := s.raiseFloor c.owner (getBytes p.sealWin 0x28 % 65536)
      exec (.sealWindowRevoke port) s = .next (u.putPort ({ p with sealWin := putBytes p.sealWin 0x38 (u.floorOf c.owner) }.sealResult 0))) := by
  have hon : ¬ (!s.hostFn 5) = true := by rw [hf]; decide
  have hseal : exec (.sealWindowSeal port) s = _ := (State.onPort_present hp _).trans (congrArg _ (if_neg hon))
  have hrevoke : exec (.sealWindowRevoke port) s = _ := (State.onPort_present hp _).trans (congrArg _ (if_neg hon))
  refine ⟨fun h => hseal.trans (congrArg _ (if_pos h)), fun h => hseal.trans (congrArg _ (if_neg (ne_true_of_eq_false h))),
    fun x h => hrevoke.trans ?_, fun h => hrevoke.trans ?_⟩
  · rw [h]
  · rw [h]

/-! ## Registers that are written (R37, R43, R366) -/

theorem exec_registerWrite_absent (h : 8 ≤ port) : exec (.registerWrite port off value) s = .next s := State.unless_absent (decide_eq_true h) _

/-- A write of a doubleword goes by who writes: a port, or a groom core under a number from 2 on. -/
theorem State.portChoice (hp : port < 8) (h8 : off % 8 = 0) (odd groom host : State) :
    s.unless (decide (8 ≤ port)) (if off % 8 ≠ 0 then odd else if 2 ≤ port then groom else host) =
      .next (if 2 ≤ port then groom else host) :=
  (State.unless_present (decide_eq_false (by omega)) _).trans (congrArg _ (if_neg (not_not_intro h8)))

/-- A groom core writes configuration until `cfglock` is set. -/
theorem exec_registerWrite_groom (h2 : 2 ≤ port) (hp : port < 8) (h8 : off % 8 = 0) (hoff : 0x10000 ≤ off) :
    exec (.registerWrite port off value) s =
      .next (if s.cfglock then s.logAll (dieRecord 1 0 (port - 2) off 0) else s.writeConfig off value true) :=
  (State.portChoice hp h8 _ _ _).trans (congrArg _ ((if_pos h2).trans (if_neg (Nat.not_lt.mpr hoff))))

theorem exec_registerWrite_exportSlice (h2 : 2 ≤ port) (hp : port < 8) (hc : s.cfglock = false) :
    exec (.registerWrite port 0x10008 value) s = .next { s with exportSlice := min 8 value.toNat } :=
  (exec_registerWrite_groom h2 hp (by decide) (by decide)).trans (congrArg _ (if_neg (ne_true_of_eq_false hc)))

/-- The window, from 0x100 on, takes its writes in the order of their arrival. -/
theorem exec_registerWrite_wake (hp : port < 2) (h8 : off % 8 = 0) (h64 : off < 64) :
    exec (.registerWrite port (0x100 + off) value) s = .next (s.push [.wakeWindowWrite port off value]) := by
  refine ((State.portChoice (by omega) (by omega) _ _ _).trans (congrArg _ (if_neg (Nat.not_le.mpr hp)))).trans (congrArg _ ?_)
  rw [if_neg (by omega), if_neg (by omega), if_neg (by omega), if_pos (by omega), Nat.add_sub_cancel_left]

theorem exec_registerWrite_results (hp : port < 2) : let p := s.portAt port
    exec (.registerWrite port 0x10 value) s = .next { s with hsem := if bits value 0 2 = 0 ∧ s.hsem = port + 1 then 0 else s.hsem } ∧
    exec (.registerWrite port 0x18 value) s = exec (.funcmodeWrite port value) s ∧
    exec (.registerWrite port 0x240 value) s = exec (.evackWrite port value) s ∧
    exec (.registerWrite port 0x1000 value) s = .next (if bit value 32 then s.putPort { p with errOvf := false } else s) ∧
    exec (.registerWrite port 0x1008 value) s = .next (s.putPort { p with errTail := bits value 0 32 }) ∧
    exec (.registerWrite port 0x1010 value) s = .next (s.putPort
      { p with sramce := bits value 48 16, memce := bits value 32 16, linkce := bits value 16 16, cethr := bits value 0 16 }) := by
  have hgo {off : Nat} (h8 : off % 8 = 0) : exec (.registerWrite port off value) s = _ :=
    (State.portChoice (by omega) h8 _ _ _).trans (congrArg _ (if_neg (Nat.not_le.mpr hp)))
  refine ⟨?_, ?_, ?_, ?_, ?_, ?_⟩
  · refine (hgo (by decide)).trans (congrArg _ ((if_pos rfl).trans ?_))
    by_cases h : bits value 0 2 = 0 ∧ s.hsem = port + 1
    · rw [if_pos h, if_pos (by simpa [State.owns] using h)]
    · rw [if_neg h, if_neg (by simpa [State.owns] using h)]
  · exact (hgo (by decide)).trans (State.onPort_present hp _).symm
  · exact (hgo (by decide)).trans (State.onPort_present hp _).symm
  · exact hgo (by decide)
  · exact hgo (by decide)
  · exact hgo (by decide)

/-! ## The SPDM responder (R371) -/

theorem exec_spdmRequest_results (hp : port < 2) :
    (off / 2 ^ 32 % 2 = 0 → exec (.spdmRequest port off) s = .next { s.putPort { s.portAt port with
      doe := [off, (Config.digest s.firmware).toNat, (Config.recordDigest s.record).toNat, s.fwver, s.secver, Config.signature s.fresh] }
      with fresh := s.fresh + 1 }) ∧
    (off / 2 ^ 32 % 2 = 1 → exec (.spdmRequest port off) s =
      .next { s.putPort { s.portAt port with doe := [off, (Config.openWord s.fresh).toNat] } with fresh := s.fresh + 1 }) := by
  refine ⟨fun h => (State.onPort_present hp _).trans ?_, fun h => (State.onPort_present hp _).trans ?_⟩
  · rw [if_neg (by omega)]
  · rw [if_pos h]

/-! ## Accesses of a host through BAR 2 (R47, R48, R365, R368) -/

theorem exec_bar2Access_down {write : Bool} (hup : (s.portAt port).up = false) : exec (.bar2Access port write off value) s = .next s :=
  State.unless_absent (by rw [hup, Bool.not_false, Bool.or_true]) _

/-- The check of a port that exists and whose link is up. -/
theorem State.bar2_present (hp : port < 2) (hup : (s.portAt port).up = true) (t : State) :
    s.unless (decide (2 ≤ port) || !(s.portAt port).up) t = .next t :=
  State.unless_present (by rw [hup, decide_eq_false (Nat.not_le.mpr hp)]; rfl) t

/-- Before `ready`, reads return all-ones and writes are recorded, but for the staging window of a device in recovery. -/
theorem exec_bar2Access_unready (hp : port < 2) (hup : (s.portAt port).up = true) (hr : s.ready = false) :
    let answers (w : Word) : State := s.putPort { s.portAt port with reply := w }
    (s.recovery = false ∨ 2 ^ 26 < off + 8 →
      exec (.bar2Access port true off value) s = .next (s.logPort port (dieRecord 1 0 (3 * port) off 0)) ∧
      exec (.bar2Access port false off value) s = .next (answers (BitVec.allOnes 64))) ∧
    (s.recovery = true → off + 8 ≤ 2 ^ 26 →
      exec (.bar2Access port true off value) s = .next { s with staging := s.staging.writeN off 8 value.toNat } ∧
      exec (.bar2Access port false off value) s = .next (answers (BitVec.ofNat 64 (s.staging.readN off 8)))) := by
  have hunready : (!s.ready) = true := by rw [hr]; rfl
  have hgo (write : Bool) : exec (.bar2Access port write off value) s = _ :=
    (State.bar2_present hp hup _).trans (congrArg _ (if_pos hunready))
  refine ⟨fun h => ?_, fun hrec hoff =>
    ⟨(hgo true).trans (congrArg _ (if_pos ⟨hrec, hoff⟩)), (hgo false).trans (congrArg _ (if_pos ⟨hrec, hoff⟩))⟩⟩
  have hclosed : ¬ (s.recovery = true ∧ off + 8 ≤ 67108864) := by
    rintro ⟨hrec, hoff⟩
    rcases h with h | h
    · rw [hrec] at h
      cases h
    · omega
  exact ⟨(hgo true).trans (congrArg _ (if_neg hclosed)), (hgo false).trans (congrArg _ (if_neg hclosed))⟩

/-- An access of a host to device memory where no line is in U (R365, R368). -/
theorem State.hostAccess_device (hm : MemOk s) (hu : s.ulines = []) (hoff : off < deviceTop) :
    Stored s (s.hostAccess port off true value) off 8 value.toNat ∧ (s.hostAccess port off true value).hart = s.hart ∧
    (s.failsAt off 8 = false → s.hostAccess port off false value =
      s.putPort { s.portAt port with reply := BitVec.ofNat 64 (s.mem.readN off 8) }) ∧
    (s.failsAt off 8 = true → s.hostAccess port off false value = s.contain (dieRecord 3 0x49 (off / dieBytes) off 0)) := by
  have hfault := State.dataFault_device (n := 8) hu hoff
  obtain ⟨hmem, hhart⟩ := State.physWrite_nil hu (5000 + port) off 8 value.toNat
  have hstore : s.hostAccess port off true value = s.physWrite (5000 + port) off 8 value.toNat := by simp [State.hostAccess, hfault]
  refine ⟨⟨fun i hi => ?_, fun a ha => ?_⟩, hstore ▸ hhart, fun hf => ?_, fun hf => ?_⟩
  · rw [hstore, hmem, Memory.read_writeN hm, if_pos (by omega), Nat.add_sub_cancel_left]
  · rw [hstore, hmem, Memory.read_writeN hm, if_neg (by omega)]
  · have hread : s.physRead off 8 = (s.mem.readN off 8, s) := Prod.ext (by rw [State.physRead_nil hu]) (State.physRead_device hu hoff)
    rw [State.hostAccess, hfault, hf]
    dsimp only
    rw [hread]
    rfl
  · rw [State.hostAccess, hfault, hf]
    rfl

/-- From `ready` on, device memory is read and written, and above it reads return all-ones. -/
theorem exec_bar2Access_ready (hp : port < 2) (hup : (s.portAt port).up = true) (hr : s.ready = true) :
    let answers (w : Word) : State := s.putPort { s.portAt port with reply := w }
    (deviceTop < off + 8 → exec (.bar2Access port true off value) s = .next s ∧
      exec (.bar2Access port false off value) s = .next (answers (BitVec.allOnes 64))) ∧
    (MemOk s → s.ulines = [] → s.movedLine (off / 128) = false → off + 8 ≤ deviceTop →
      (∃ t, exec (.bar2Access port true off value) s = .next t ∧ Stored s t off 8 value.toNat ∧ t.hart = s.hart) ∧
      (s.failsAt off 8 = false → exec (.bar2Access port false off value) s = .next (answers (BitVec.ofNat 64 (s.mem.readN off 8)))) ∧
      (s.failsAt off 8 = true →
        exec (.bar2Access port false off value) s = .next (s.contain (dieRecord 3 0x49 (off / dieBytes) off 0)))) := by
  have hready : ¬ (!s.ready) = true := by rw [hr]; decide
  have hgo (write : Bool) : exec (.bar2Access port write off value) s = _ :=
    (State.bar2_present hp hup _).trans (congrArg _ (if_neg hready))
  refine ⟨fun h => ⟨(hgo true).trans (congrArg _ (if_pos h)), (hgo false).trans (congrArg _ (if_pos h))⟩, fun hm hu hmv hoff => ?_⟩
  have hmade (write : Bool) : exec (.bar2Access port write off value) s = .next (s.hostAccess port off write value) :=
    (hgo write).trans (congrArg _ ((if_neg (Nat.not_lt.mpr hoff)).trans (if_neg (ne_true_of_eq_false hmv))))
  obtain ⟨hstored, hhart, hread, hfails⟩ := State.hostAccess_device (port := port) (value := value) hm hu (show off < deviceTop by omega)
  exact ⟨⟨_, hmade true, hstored, hhart⟩, fun hf => (hmade false).trans (congrArg _ (hread hf)),
    fun hf => (hmade false).trans (congrArg _ (hfails hf))⟩

/-! ## Replies to translation faults (R358) -/

/-- A reply to a fault of the hart in focus: a retry drops its offer, a raise lets its access take the cause. -/
theorem State.answerFault_focus (die record : Nat) (raise : Bool) (hid : s.hart.id < 2304) : s.answerFault die s.hart.id record raise =
    { s with hart := { s.hart with
      offers := if raise then s.hart.offers.map (fun o => if o.record = record then { o with answer := some true } else o)
        else dropBy (fun o : Offer => o.record == record) s.hart.offers } } := by
  have hput (h : Hart) (hh : h.id = s.hart.id) : s.putHart h = { s with hart := h } := if_pos hh.symm
  have hne : s.hart.id ≠ 0xFFF := by omega
  unfold State.answerFault
  dsimp only
  rw [if_neg hne, if_pos hid, State.onHartId, s.findHart_focus]
  exact hput _ rfl

theorem exec_translationFaultReply_results {die slot : Nat} : let d := s.dieAt die
    let w := d.pad.readN (8192 + 64 * slot + 8) 8
    let reply := (d.pad.read (8192 + 64 * slot + 16)).toNat
    let posted := (d.faultAt + 31 - slot) / 32
    let record := 32 * (posted - 1) + slot
    (6 ≤ die ∨ 32 ≤ slot → exec (.translationFaultReply die slot) s = .next s) ∧
    (die < 6 → slot < 32 →
      (reply ≠ 1 → reply ≠ 2 → exec (.translationFaultReply die slot) s = .next s) ∧
      (posted = 0 → w / 2 ^ 24 % 4096 ≠ 0xFFF → exec (.translationFaultReply die slot) s = .next s) ∧
      (posted ≠ 0 → w / 2 ^ 24 % 4096 = s.hart.id → s.hart.id < 2304 →
        (reply = 1 → exec (.translationFaultReply die slot) s =
          .next { s with hart := { s.hart with offers := dropBy (fun o : Offer => o.record == record) s.hart.offers } }) ∧
        (reply = 2 → exec (.translationFaultReply die slot) s =
          .next { s with hart := { s.hart with
            offers := s.hart.offers.map (fun o => if o.record = record then { o with answer := some true } else o) } }))) := by
  intro d w reply posted record
  refine ⟨fun h => if_pos h, fun hd hs => ?_⟩
  have hunit : ¬ (6 ≤ die ∨ 32 ≤ slot) := by omega
  have hgo (hr : reply = 1 ∨ reply = 2) (hw : w / 2 ^ 24 % 4096 ≠ 0xFFF) : exec (.translationFaultReply die slot) s =
      .next (if posted = 0 then s else s.answerFault die (w / 2 ^ 24 % 4096) record (reply == 2)) :=
    (if_neg hunit).trans ((if_neg fun h => hr.elim h.1 h.2).trans (congrArg _ (if_neg hw)))
  refine ⟨fun h1 h2 => (if_neg hunit).trans (if_pos ⟨h1, h2⟩), fun hposted hw => ?_, fun hposted hw hid => ?_⟩
  · by_cases hr : reply = 1 ∨ reply = 2
    · rw [hgo hr hw, if_pos hposted]
    · exact (if_neg hunit).trans (if_pos (not_or.mp hr))
  · have hne : w / 2 ^ 24 % 4096 ≠ 0xFFF := by omega
    refine ⟨fun hr => ?_, fun hr => ?_⟩
    · rw [hgo (.inl hr) hne, if_neg hposted, hw, hr]
      exact congrArg _ (s.answerFault_focus die record false hid)
    · rw [hgo (.inr hr) hne, if_neg hposted, hw, hr]
      exact congrArg _ (s.answerFault_focus die record true hid)

end

/-- Settles O51: each clause by the step at a port, a window, a register or a record that it names. -/
theorem hostPortResults : Obligations.HostPortResults := by
  unfold Obligations.HostPortResults
  intro s port off value hm p log answers
  refine ⟨exec_hostPort_absent, exec_registerWrite_absent, fun h2 hp h8 hoff =>
    ⟨exec_registerWrite_groom h2 hp h8 hoff, exec_registerWrite_exportSlice h2 hp⟩, fun hp => ?_,
    fun die slot => exec_translationFaultReply_results⟩
  obtain ⟨hread, hrelease⟩ := exec_hsem_results (s := s) hp
  obtain ⟨hidMagic, hidPort, hready, hstage, hbooterr⟩ := readRegister_images (s := s) hp
  obtain ⟨hnoEvent, hevent⟩ := readRegister_event (s := s) (port := port)
  obtain ⟨hnoPost, hpost⟩ := exec_eventPost_results (s := s) hp
  obtain ⟨hnoAck, hack⟩ := exec_evackWrite_results (s := s) (value := value) hp
  obtain ⟨hregHsem, hregFuncmode, hregEvack, hregOvf, hregTail, hregCounts⟩ := exec_registerWrite_results (s := s) (value := value) hp
  obtain ⟨hspdm, hcxl⟩ := exec_spdmRequest_results (s := s) (off := off) hp
  exact ⟨hread, hrelease, hregHsem, exec_controls_owned hp, exec_controls_notOwned hp, hidMagic, hidPort, hready, hstage, hbooterr, hnoEvent,
    hevent, exec_wakeWindowWrite_behind hp, fun hb h8 => (exec_wakeWindowWrite_plain hp hb h8).1, fun hb h8 => (exec_wakeWindowWrite_plain hp hb h8).2,
    exec_wakeWindowWrite_none, exec_wakeWindowWrite_tail_results hp, hnoPost, hpost, hnoAck, hack, exec_sealWindow_off hp, exec_sealWindow_on hp,
    hregFuncmode, hregEvack, hregOvf, hregTail, hregCounts, fun h64 h8 => exec_registerWrite_wake hp h8 h64, hspdm, hcxl,
    fun hup => ⟨exec_bar2Access_down hup, exec_bar2Access_down hup⟩, fun hup hr => (exec_bar2Access_unready hp hup hr).1,
    fun hup hr => (exec_bar2Access_unready hp hup hr).2, fun hup hr => (exec_bar2Access_ready hp hup hr).1,
    fun hup hr => (exec_bar2Access_ready hp hup hr).2 hm⟩

end Sys2Proof.Machine
end

section
/-! O54: what happens at a hart beside its instructions (R58, R125).

One clause fails: that an event of the lanes changes nothing where the queue is empty. The step by which the lanes complete an entry also takes
the boundary that the arbiter forces (R58), and does so where no entry is left. -/

namespace Sys2Proof.Machine

section
variable {s : State}

/-- A step about the hart in focus, on a die that runs. -/
theorem onHartStep_focus (hid : s.hart.id < 2310) (hrun : (s.dieAt s.hart.die).run = .running) {f : State → State}
    (hf : (f s).hart.id = s.hart.id) : onHartStep s.hart.id s f = .next (f s) := by
  have hfocus : (f s).focusOn s.hart.id = f s := hf ▸ (f s).focusOn_self
  rw [onHartStep, State.unless_present (decide_eq_false (Nat.not_le.mpr hid)), State.onFocus, s.findHart_focus]
  dsimp only
  rw [if_pos hrun, s.focusOn_self, hfocus]

/-- Where the queue is empty and the arbiter holds the next entry back, a step of the lanes takes the forced boundary. -/
theorem State.laneStep_held (hq : s.hart.queue = []) (hh : s.hart.hold = true) (hv : s.hart.vcause = none) :
    s.laneStep = s.boundary s.hart.id := by
  have hlanes : s.lanes true = s.boundary s.hart.id := by simp [State.lanes, hq, hh, hv]
  rw [State.laneStep, hlanes]
  split
  · rename_i hlen
    rw [hlen, hq]
    rfl
  · rfl

end

/-- Hart 0 is to give one of its two clusters back; its last entry has completed, and the arbiter holds the next one back. -/
def heldIdle : State :=
  { State.reset with
    hart := { State.reset.hart with run := .running, hold := true, csr := { State.reset.hart.csr with grant := 2, target := 1 } } }

/-- The boundary leaves that hart one cluster. -/
theorem heldIdle_boundary : (heldIdle.boundary 0).hart.id = 0 ∧ (heldIdle.boundary 0).hart.csr.grant = 1 := by decide

/-- Refutes O54: the queue of `heldIdle` is empty, and yet the step by which its lanes complete an entry changes its state: it takes the forced
boundary, and the grant falls from 2 to 1 (R58). The clause lacks the hypothesis that `hold` is false. -/
theorem not_hartEventResults : ¬ Obligations.HartEventResults := by
  unfold Obligations.HartEventResults
  intro hall
  obtain ⟨-, -, -, hruns, -⟩ := hall heldIdle 0 0
  obtain ⟨-, -, -, -, hempty, -⟩ := hruns (by decide) rfl rfl
  obtain ⟨hstays, -⟩ := hempty rfl
  obtain ⟨hid, hgrant⟩ := heldIdle_boundary
  have hlanes : heldIdle.laneStep = heldIdle.boundary 0 := State.laneStep_held rfl rfl rfl
  have hmoves : exec (.vectorEntryComplete 0) heldIdle = .next (heldIdle.boundary 0) := by
    rw [← hlanes]
    exact onHartStep_focus (s := heldIdle) (by decide) rfl (by rw [hlanes]; exact hid)
  have hsame : heldIdle.boundary 0 = heldIdle := by injection hmoves.symm.trans hstays
  have hgrants : heldIdle.hart.csr.grant = 2 := rfl
  rw [hsame, hgrants] at hgrant
  cases hgrant

end Sys2Proof.Machine
end

section
/-! O17: the control registers, field by field (R59, R93 to R99).

Most registers are a mask of the word written, and their clauses hold by evaluation. What needs an argument are the fields that overlap
(`writeStatus`, `writeAwcfg`, `setBits`), the registers put together from several counts (`gbar`, `pinquota`, `lease`), and what the arbiter
changes where a register sets it to work (`State.retarget_eq`, `RetiresOn`). -/

namespace Sys2Proof.Machine

/-! ## Bit fields -/

section
variable {m : Nat} {lo n : Nat}

theorem bits_eq_div_mod (w : BitVec m) (lo n : Nat) : bits w lo n = w.toNat / 2 ^ lo % 2 ^ n := by
  rw [bits, BitVec.extractLsb'_toNat, Nat.shiftRight_eq_div_pow]

theorem getLsbD_setBits (w : BitVec m) (lo n v : Nat) {j : Nat} (hj : j < m) :
    (setBits w lo n v).getLsbD j = if lo ≤ j ∧ j < lo + n then v.testBit (j - lo) else w.getLsbD j := by
  unfold setBits
  simp only [BitVec.getLsbD_or, BitVec.getLsbD_and, BitVec.getLsbD_not, BitVec.getLsbD_shiftLeft, BitVec.getLsbD_ofNat,
    Nat.testBit_two_pow_sub_one, Nat.testBit_mod_two_pow, hj, decide_true, Bool.true_and]
  by_cases hlo : lo ≤ j
  · have hm : j - lo < m := by omega
    have hn : j - lo < n ↔ j < lo + n := by omega
    by_cases h : j < lo + n <;> simp [hlo, hm, hn, h, Nat.not_lt.mpr hlo]
  · have h : j < lo := by omega
    simp [hlo, h]

/-- A field that has been written holds the low bits of the value. -/
theorem bits_setBits_same (w : BitVec m) (v : Nat) (h : lo + n ≤ m) : bits (setBits w lo n v) lo n = v % 2 ^ n := by
  have hfield : (setBits w lo n v).extractLsb' lo n = BitVec.ofNat n v := by
    ext j hj
    rw [BitVec.getElem_extractLsb', getLsbD_setBits _ _ _ _ (by omega), if_pos (by omega), Nat.add_sub_cancel_left]
    simp [← BitVec.getLsbD_eq_getElem, BitVec.getLsbD_ofNat, hj]
  rw [bits, hfield, BitVec.toNat_ofNat]

/-- A field apart from the one that has been written stays. -/
theorem bits_setBits_apart (w : BitVec m) (v : Nat) {lo' n' : Nat} (h : lo' + n' ≤ m) (ha : lo' + n' ≤ lo ∨ lo + n ≤ lo') :
    bits (setBits w lo n v) lo' n' = bits w lo' n' := by
  have hfield : (setBits w lo n v).extractLsb' lo' n' = w.extractLsb' lo' n' := by
    ext j hj
    rw [BitVec.getElem_extractLsb', BitVec.getElem_extractLsb', getLsbD_setBits _ _ _ _ (by omega), if_neg (by omega)]
  rw [bits, hfield, bits]

theorem toNat_and_low (w : Word) {k : Nat} (hk : k ≤ 64) : (w &&& BitVec.ofNat 64 (2 ^ k - 1)).toNat = w.toNat % 2 ^ k := by
  have hlt : 2 ^ k - 1 < 2 ^ 64 := Nat.lt_of_lt_of_le (Nat.sub_one_lt (Nat.two_pow_pos k).ne') (Nat.pow_le_pow_right (by decide) hk)
  rw [BitVec.toNat_and, BitVec.toNat_ofNat, Nat.mod_eq_of_lt hlt, Nat.and_two_pow_sub_one_eq_mod]

end

/-! ## `status`, `awcfg` and the registers of W1C bits (R93, R98) -/

/-- `status` written: its two modes, where 3 leaves the old one, and the six bits above them. -/
theorem writeStatus_eq (old v : Word) : writeStatus old v =
    BitVec.ofNat 64 ((if v.toNat % 4 = 3 then old.toNat % 4 else v.toNat % 4) +
      (if v.toNat / 4 % 4 = 3 then old.toNat / 4 % 4 else v.toNat / 4 % 4) * 4 + v.toNat / 2 ^ 4 % 2 ^ 6 * 2 ^ 4) := by
  have field (w : Word) {lo n lo' n' x : Nat} (p : Prop) [Decidable p] (h : lo' + n' ≤ 64) (ha : lo' + n' ≤ lo ∨ lo + n ≤ lo') :
      bits (if p then setBits w lo n x else w) lo' n' = bits w lo' n' := by
    split
    · exact bits_setBits_apart w x h ha
    · rfl
  have mode (w x : Word) {lo : Nat} (p : Prop) [Decidable p] (h : lo + 2 ≤ 64) :
      bits (if p then setBits w lo 2 (bits x lo 2) else w) lo 2 = if p then bits x lo 2 else bits w lo 2 := by
    split
    · rw [bits_setBits_same _ _ h]
      exact Nat.mod_eq_of_lt (BitVec.isLt _)
    · rfl
  unfold writeStatus
  extract_lets v1 v2
  have h0 : bits v2 0 2 = if bits v 0 2 = 3 then bits old 0 2 else bits v 0 2 :=
    (field v1 _ (by decide) (by decide)).trans (mode v old _ (by decide))
  have hv1 : bits v1 2 2 = bits v 2 2 := field v _ (by decide) (by decide)
  have h2 : bits v2 2 2 = if bits v 2 2 = 3 then bits old 2 2 else bits v 2 2 := by
    rw [← hv1]
    exact mode v1 old _ (by decide)
  have h4 : bits v2 4 6 = bits v 4 6 := (field v1 _ (by decide) (by decide)).trans (field v _ (by decide) (by decide))
  simp only [bits_eq_div_mod, Nat.pow_zero, Nat.div_one, Nat.reducePow] at h0 h2 h4
  apply BitVec.eq_of_toNat_eq
  rw [show (0x3FF#64) = BitVec.ofNat 64 (2 ^ 10 - 1) from rfl, toNat_and_low _ (by decide), BitVec.toNat_ofNat, ← h0, ← h2]
  omega

theorem clearBits_and (mask old clr : Word) : clearBits mask old clr &&& mask = old &&& ~~~clr &&& mask := by
  ext j
  simp only [clearBits, BitVec.getElem_and, BitVec.getElem_not]
  grind

/-- `awcfg` written: its fields, and `en` unless the operator is one of 13 to 15. -/
theorem writeAwcfg_eq (v : Word) : writeAwcfg v =
    (v &&& 0xFFFFFF00FFF0#64) ||| (if v.toNat / 2 ^ 4 % 16 < 13 then v &&& 1#64 else 0#64) := by
  have hop : bits (v &&& 0xFFFFFF00FFF1#64) 4 4 = v.toNat / 2 ^ 4 % 16 := by
    have hand : (v &&& 0xFFFFFF00FFF1#64).extractLsb' 4 4 = v.extractLsb' 4 4 := by
      rw [BitVec.extractLsb'_and]
      exact BitVec.and_allOnes
    rw [bits, hand]
    exact bits_eq_div_mod v 4 4
  unfold writeAwcfg
  dsimp only
  rw [hop]
  by_cases h : v.toNat / 2 ^ 4 % 16 < 13
  · rw [if_neg (by omega), if_pos h, ← BitVec.and_or_distrib_left]
    rfl
  · rw [if_pos (by omega), if_neg h]
    show (v &&& 0xFFFFFF00FFF1#64 &&& ~~~1#64) ||| 0#64 = (v &&& 0xFFFFFF00FFF0#64) ||| 0#64
    rw [BitVec.and_assoc]
    rfl

theorem anyBy_dropBy {α : Type} (p : α → Bool) (l : List α) : anyBy p (dropBy p l) = false := by
  induction l with
  | nil => rfl
  | cons a l ih =>
    unfold dropBy
    split
    · exact ih
    · simp [anyBy, *]

/-- `satf` is the one bit of `awcfg` that a merge sets and a 1 clears. -/
theorem setBit_satf (w a c : Word) (b : Bool) (hw : w &&& 0x10000#64 = 0#64) :
    setBit w 16 (b && !c.getLsbD 16) = w ||| (setBit a 16 b &&& ~~~c &&& 0x10000#64) := by
  have hmask (j : Nat) : (0x10000#64).getLsbD j = decide (j = 16) := by
    rw [show (0x10000#64) = BitVec.twoPow 64 16 from rfl, BitVec.getLsbD_twoPow]
    simp [eq_comm]
  have hbit (x : Bool) : x.toNat.testBit 0 = x := by cases x <;> rfl
  have hw16 : w.getLsbD 16 = false := by
    have := congrArg (fun x : Word => x.getLsbD 16) hw
    simpa [hmask] using this
  refine BitVec.eq_of_getLsbD_eq fun j hj => ?_
  simp only [BitVec.getLsbD_or, BitVec.getLsbD_and, BitVec.getLsbD_not, hmask, setBit, getLsbD_setBits _ _ _ _ hj, hj]
  by_cases h : j = 16
  · subst h
    rw [hw16]
    simp [hbit, -Nat.testBit_zero]
  · have : ¬ (16 ≤ j ∧ j < 16 + 1) := by omega
    simp [this, h]

/-! ## Registers put together from counts (R95, R99) -/

/-- `gbar` reads as it was written. -/
theorem Job.gbarImage_written (j : Job) (v : Word) :
    ({ j with arrived := v.setWidth 8, mask := (v >>> 8).setWidth 8, phase := v.toNat / 2 ^ 16 % 2 ^ 16 } : Job).gbarImage =
      v &&& 0xFFFFFFFF#64 := by
  apply BitVec.eq_of_toNat_eq
  rw [show (0xFFFFFFFF#64) = BitVec.ofNat 64 (2 ^ 32 - 1) from rfl, toNat_and_low _ (by decide), Job.gbarImage]
  simp only [BitVec.toNat_ofNat, BitVec.toNat_setWidth, BitVec.toNat_ushiftRight, Nat.shiftRight_eq_div_pow]
  omega

/-- `pinquota` has the quota below and the count of pins above. -/
theorem pinquota_written (v : Word) (q p : Nat) (hq : q < 2 ^ 32) : BitVec.ofNat 64 ((v.setWidth 32).toNat + p * 2 ^ 32) =
    (v &&& 0xFFFFFFFF#64) ||| (BitVec.ofNat 64 (q + p * 2 ^ 32) &&& 0xFFFFFFFF00000000#64) := by
  have word (a : Nat) (ha : a < 2 ^ 32) {j : Nat} (hj : j < 64) :
      (BitVec.ofNat 64 (a + p * 2 ^ 32)).getLsbD j = if j < 32 then a.testBit j else p.testBit (j - 32) := by
    rw [BitVec.getLsbD_ofNat, Nat.add_comm, Nat.mul_comm, Nat.testBit_two_pow_mul_add _ ha]
    simp [hj]
  have low (j : Nat) : (0xFFFFFFFF#64).getLsbD j = decide (j < 32) := by
    rw [show (0xFFFFFFFF#64) = (BitVec.allOnes 32).setWidth 64 from rfl, BitVec.getLsbD_setWidth, BitVec.getLsbD_allOnes]
    simp; omega
  have high {j : Nat} (hj : j < 64) : (0xFFFFFFFF00000000#64).getLsbD j = !decide (j < 32) := by
    rw [show (0xFFFFFFFF00000000#64) = ~~~0xFFFFFFFF#64 from rfl, BitVec.getLsbD_not, low]
    simp [hj]
  refine BitVec.eq_of_getLsbD_eq fun j hj => ?_
  rw [BitVec.getLsbD_or, BitVec.getLsbD_and, BitVec.getLsbD_and, low, high hj, word _ (BitVec.isLt _) hj, word _ hq hj]
  by_cases h : j < 32
  · simp [h, BitVec.testBit_toNat, -BitVec.toNat_setWidth]
  · simp [h]

/-- The fields of the `lease` image (R59). -/
theorem Hart.leaseImage_fields (h : Hart) : h.leaseImage.toNat % 32 = h.csr.grant % 32 ∧ h.leaseImage.toNat / 2 ^ 8 % 32 = h.csr.leaseMin % 32 ∧
    h.leaseImage.toNat / 2 ^ 16 % 32 = h.csr.leasePref % 32 ∧ h.leaseImage.toNat / 2 ^ 32 = h.csr.frozen.toNat := by
  have hf := Bool.toNat_lt h.csr.frozen
  rw [Hart.leaseImage, BitVec.toNat_ofNat]
  omega

/-! ## What the arbiter changes (R53, R55, R216) -/

/-- The clusters that the arbiter deals out on a stable (R55). -/
def State.dealt (s : State) (t : Nat) : List Claim :=
  let claims := ((s.byAge t).filter (fun h => !h.idle)).map (fun h => (h.id, h.csr.leaseMin, h.csr.leasePref))
  dealAll (s.stableAt t).usable claims ((s.stableAt t).usable - sumBy (fun c : Claim => c.2.1) claims)

/-- The target of a hart once those of a stable have been recomputed: a hart that is not admitted there keeps its own (R55). -/
def State.targetOn (s : State) (t : Nat) (h : Hart) : Nat :=
  if h.job.isSome && !h.isGroom && h.stable == t then
    ((findBy (fun c : Claim => c.1 == h.id) (s.dealt t)).map (fun c => c.2.1)).getD 0
  else h.csr.target

/-- The arbiter changes targets only. -/
theorem State.retarget_eq (s : State) (t : Nat) :
    s.retarget t = s.mapHarts (fun h => { h with csr := { h.csr with target := s.targetOn t h } }) := by
  unfold State.retarget State.targetOn State.dealt
  refine congrArg s.mapHarts (funext fun h => ?_)
  by_cases hc : (h.job.isSome && !h.isGroom && h.stable == t) = true
  · rw [if_pos hc, if_pos hc]
    dsimp only
    generalize findBy (fun c : Claim => c.1 == h.id) _ = o
    cases o <;> rfl
  · rw [if_neg hc, if_neg hc]

/-- The minimum that a request leaves: one that would raise the sum of the minimums above N is not applied (R59). -/
def State.leaseMinFor (s : State) (m : Nat) : Nat :=
  let n := (s.stableAt s.hart.stable).live
  let m := max 1 (min m n)
  if s.hart.csr.leaseMin < m ∧ n < s.minSum s.hart.stable - s.hart.csr.leaseMin + m then s.hart.csr.leaseMin else m

/-- The preferred count that a request leaves (R59). -/
def State.leasePrefFor (s : State) (m p : Nat) : Nat := max (s.leaseMinFor m) (min p (s.stableAt s.hart.stable).live)

/-- The hart in focus with its request recorded and dated (R53, R59). -/
def State.leaseAsked (s : State) (m p : Nat) : State :=
  { s with
    clock := s.clock + 1
    hart := { s.hart with age := s.clock + 1, csr := { s.hart.csr with leaseMin := s.leaseMinFor m, leasePref := s.leasePrefFor m p } } }

/-- A request of the hart in focus is recorded, and the targets of its stable follow. -/
theorem State.requestLease_focus (s : State) (m p : Nat) : s.requestLease s.hart.id m p = (s.leaseAsked m p).retarget s.hart.stable := by
  unfold State.requestLease
  rw [State.findHart_focus]
  simp only [State.putHart, if_true]
  rfl

theorem State.stableAt_putStable_n (s : State) {t : Stable} {n : Nat} (h : t.n = n) : (s.putStable t).stableAt n = t := h ▸ s.stableAt_putStable t

/-- What the retirement of clusters on a stable may change: which are retired, and of harts the bounds of their leases and their targets. -/
structure RetiresOn (n : Nat) (s t : State) : Prop where
  frame : t = { s with stables := t.stables, others := t.others, hart := { s.hart with csr := { s.hart.csr with
    leaseMin := t.hart.csr.leaseMin, leasePref := t.hart.csr.leasePref, target := t.hart.csr.target } } }
  here : t.stableAt n = { s.stableAt n with retired := (t.stableAt n).retired }
  elsewhere : ∀ m, m ≠ n → t.stableAt m = s.stableAt m

theorem RetiresOn.refl (n : Nat) (s : State) : RetiresOn n s s := ⟨rfl, rfl, fun _ _ => rfl⟩

theorem RetiresOn.trans {n : Nat} {s t u : State} (h : RetiresOn n s t) (k : RetiresOn n t u) : RetiresOn n s u :=
  ⟨by rw [k.frame, h.frame], by rw [k.here, h.here], fun m hm => (k.elsewhere m hm).trans (h.elsewhere m hm)⟩

theorem State.retarget_retiresOn (s : State) (t n : Nat) : RetiresOn n s (s.retarget t) := by
  rw [State.retarget_eq]
  exact ⟨rfl, rfl, fun _ _ => rfl⟩

theorem State.setRetired_retiresOn (s : State) (n : Nat) (r : BitVec 16) : RetiresOn n s (s.setRetired n r) := by
  have hn : ({ s.stableAt n with retired := r } : Stable).n = n := s.stableAt_n n
  have hput := s.stableAt_putStable_n hn
  have hmap (f : Hart → Hart) (m : Nat) : ((s.putStable { s.stableAt n with retired := r }).mapHarts f).stableAt m =
      (s.putStable { s.stableAt n with retired := r }).stableAt m := rfl
  unfold State.setRetired
  refine ⟨?_, ?_, fun m hm => ?_⟩
  · simp only [State.mapHarts]
    split <;> rfl
  · dsimp only
    rw [hmap, hput]
  · dsimp only
    rw [hmap, State.stableAt_putStable_other _ _ _ (by rw [hn]; exact Ne.symm hm)]

theorem State.retireClusters_retiresOn (s : State) (n : Nat) : RetiresOn n s (s.retireClusters n) := by
  unfold State.retireClusters
  dsimp only
  split
  · exact .refl n s
  · exact s.setRetired_retiresOn ..

/-! ## The registers that set more than themselves (R93, R95, R98, R59, R99) -/

theorem getLsbD_writeStatus (old v : Word) : (writeStatus old v).getLsbD 9 = v.getLsbD 9 := by
  have field (w : Word) {lo x : Nat} (p : Prop) [Decidable p] (h : lo + 2 ≤ 9) :
      (if p then setBits w lo 2 x else w).getLsbD 9 = w.getLsbD 9 := by
    split
    · rw [getLsbD_setBits _ _ _ _ (by decide), if_neg (by omega)]
    · rfl
  unfold writeStatus
  extract_lets v1 v2
  rw [BitVec.getLsbD_and, show v2.getLsbD 9 = v.getLsbD 9 from (field v1 _ (by decide)).trans (field v _ (by decide))]
  exact Bool.and_true _

/-- The state with `awcfg` of a window written as `w`, and `satf` cleared where `clr` says so (R98). -/
def State.windowWritten (s : State) (i : Fin 4) (w : Word) (clr : Bool) : State :=
  { s with
    hart := { s.hart with csr := { s.hart.csr with awcfg := s.hart.csr.awcfg.set i w } }
    satf := if clr then dropBy (fun p : Nat × Nat => p == (s.hart.ctx, i.val)) s.satf else s.satf }

section
variable {s : State} (v c : Word)

/-- `status` written: with `qip` written as 0 the image buffer is emptied (R93). -/
theorem State.writeCsr_status : s.writeCsr 0x00 v c = { s with hart := { s.hart with
    csr := { s.hart.csr with status := writeStatus s.hart.csr.status v }, image := if v.getLsbD 9 then s.hart.image else .empty } } := by
  show (if (writeStatus s.hart.csr.status v).getLsbD 9 then _ else _) = _
  rw [getLsbD_writeStatus]
  split <;> rfl

/-- `lease` written: a request for its two counts, from which the targets of the stable follow (R59). -/
theorem State.writeCsr_lease : s.writeCsr 0x14 v c = (s.leaseAsked (v.toNat / 2 ^ 8 % 2 ^ 5) (v.toNat / 2 ^ 16 % 2 ^ 5)).retarget s.hart.stable := by
  rw [← State.requestLease_focus, ← bits_eq_div_mod, ← bits_eq_div_mod]
  rfl

/-- The job of the hart in focus after its record is replaced. -/
theorem State.job_putJob {j k : Job} (hj : s.job = some j) (hk : k.gang = j.gang) : (s.putJob k).job = some k := by
  unfold State.job at hj ⊢
  rw [State.putJob_hart]
  cases hg : s.hart.job with
  | none => rw [hg] at hj; cases hj
  | some g =>
    rw [hg] at hj
    have hgang : k.gang = g := hk.trans (State.jobAt_gang hj)
    exact hgang ▸ s.jobAt_putJob k

/-- `gbar` written is the gang's barrier, and reads as written (R95). -/
theorem State.writeCsr_gbar {j : Job} (hj : s.job = some j) :
    s.writeCsr 0x15 v c = s.putJob { j with arrived := v.setWidth 8, mask := (v >>> 8).setWidth 8, phase := v.toNat / 2 ^ 16 % 2 ^ 16 } ∧
    (s.writeCsr 0x15 v c).readCsr 0x15 = v &&& 0xFFFFFFFF#64 := by
  have hw : s.writeCsr 0x15 v c = s.putJob { j with arrived := v.setWidth 8, mask := (v >>> 8).setWidth 8, phase := v.toNat / 2 ^ 16 % 2 ^ 16 } := by
    have ha : v.extractLsb' 0 8 = v.setWidth 8 := BitVec.eq_of_toNat_eq (by simp [BitVec.extractLsb'_toNat])
    have hm : v.extractLsb' 8 8 = (v >>> 8).setWidth 8 := BitVec.eq_of_toNat_eq (by simp [BitVec.extractLsb'_toNat])
    rw [← bits_eq_div_mod v 16 16, ← ha, ← hm]
    show (match s.job with | some j => _ | none => _) = _
    rw [hj]
    rfl
  refine ⟨hw, ?_⟩
  have hjob := State.job_putJob (s := s) hj (k := { j with arrived := v.setWidth 8, mask := (v >>> 8).setWidth 8, phase := v.toNat / 2 ^ 16 % 2 ^ 16 }) rfl
  rw [hw]
  show (match State.job _ with | some j => j.gbarImage | none => 0#64) = _
  rw [hjob]
  exact j.gbarImage_written v

/-- Without a job there is no gang barrier (R95, log 22). -/
theorem State.writeCsr_gbar_none (hj : s.job = none) : s.writeCsr 0x15 v c = s ∧ s.readCsr 0x15 = 0#64 := by
  constructor
  · show (match s.job with | some j => _ | none => _) = _
    rw [hj]
    rfl
  · show (match s.job with | some j => j.gbarImage | none => 0#64) = _
    rw [hj]

theorem State.readCsr_awcfg (i : Fin 4) : s.readCsr (0x3C + i) = s.awcfgImage i := by
  match i with
  | 0 | 1 | 2 | 3 => rfl

/-- `awcfg` of a window written (R98). -/
theorem State.writeCsr_window (i : Fin 4) : s.writeCsr (0x3C + i) v c = s.windowWritten i (writeAwcfg v) (c.getLsbD 16) := by
  match i with
  | 0 | 1 | 2 | 3 =>
    show (if c.getLsbD 16 then _ else _) = s.windowWritten _ _ (c.getLsbD 16)
    cases c.getLsbD 16 <;> rfl

/-- A window written reads as written, with what is left of `satf` (R98, R336). -/
theorem State.awcfgImage_windowWritten (i : Fin 4) {w : Word} (hw : w &&& 0x10000#64 = 0#64) :
    (s.windowWritten i w (c.getLsbD 16)).awcfgImage i = w ||| (s.awcfgImage i &&& ~~~c &&& 0x10000#64) := by
  have hsatf : anyBy (fun p : Nat × Nat => p == (s.hart.ctx, i.val)) (s.windowWritten i w (c.getLsbD 16)).satf =
      (anyBy (fun p : Nat × Nat => p == (s.hart.ctx, i.val)) s.satf && !c.getLsbD 16) := by
    unfold State.windowWritten
    cases c.getLsbD 16
    · exact (Bool.and_true _).symm
    · exact (anyBy_dropBy _ _).trans (Bool.and_false _).symm
  have hset : (s.windowWritten i w (c.getLsbD 16)).hart.csr.awcfg[i] = w := Vector.getElem_set_self _
  rw [State.awcfgImage, hset]
  exact (congrArg (setBit w 16) hsatf).trans (setBit_satf w _ c _ hw)

/-- What a write leaves in `awcfg` has no `satf` in it. -/
theorem writeAwcfg_noSatf : ((v &&& 0xFFFFFF00FFF0#64) ||| (if v.toNat / 2 ^ 4 % 16 < 13 then v &&& 1#64 else 0#64)) &&& 0x10000#64 = 0#64 := by
  rw [BitVec.and_or_distrib_right, BitVec.and_assoc]
  split
  · rw [BitVec.and_assoc]
    show (v &&& 0#64) ||| (v &&& 0#64) = 0#64
    rw [BitVec.and_zero, BitVec.or_zero]
  · show (v &&& 0#64) ||| 0#64 = 0#64
    rw [BitVec.and_zero, BitVec.or_zero]

/-- The window registers of `awcfg`, one for each number (R98). -/
theorem State.writeCsr_awcfg (i : Fin 4) :
    let w : Word := (v &&& 0xFFFFFF00FFF0#64) ||| (if v.toNat / 2 ^ 4 % 16 < 13 then v &&& 1#64 else 0#64)
    s.writeCsr (0x3C + i) v c = s.windowWritten i w (c.getLsbD 16) ∧
    State.readCsr (s.writeCsr (0x3C + i) v c) (0x3C + i) = w ||| (s.readCsr (0x3C + i) &&& ~~~c &&& 0x10000#64) := by
  rw [State.writeCsr_window, writeAwcfg_eq, State.readCsr_awcfg, State.readCsr_awcfg]
  exact ⟨rfl, State.awcfgImage_windowWritten c i (writeAwcfg_noSatf v)⟩

theorem State.writeCsr_lanedis_eq (s : State) (v c : Word) : s.writeCsr 0x61 v c =
    let t := s.stableAt s.hart.stable
    let d := if s.hart.mode = 2 then v.setWidth 16 else t.lanedis ||| v.setWidth 16
    (((s.putStable { t with lanedis := d }).setRetired t.n (t.retired &&& d)).retireClusters t.n).retarget t.n := rfl

/-- `lanedis` as a write of it leaves it: only farrier mode clears marks (R99). -/
def State.lanedisFor (s : State) (v : Word) : BitVec 16 :=
  if s.hart.mode = 2 then v.setWidth 16 else (s.stableAt s.hart.stable).lanedis ||| v.setWidth 16

/-- The state with `lanedis` of the stable of the hart in focus written. -/
def State.lanedisPut (s : State) (v : Word) : State := s.putStable { s.stableAt s.hart.stable with lanedis := s.lanedisFor v }

/-- `lanedis` written: the marks are set, and clusters may retire and targets change for them (R99, R216). -/
theorem State.writeCsr_lanedis : RetiresOn s.hart.stable (s.lanedisPut v) (s.writeCsr 0x61 v c) := by
  have h : s.writeCsr 0x61 v c = ((((s.lanedisPut v).setRetired (s.stableAt s.hart.stable).n
    ((s.stableAt s.hart.stable).retired &&& s.lanedisFor v)).retireClusters (s.stableAt s.hart.stable).n).retarget (s.stableAt s.hart.stable).n) := rfl
  rw [h, State.stableAt_n]
  exact (State.setRetired_retiresOn ..).trans ((State.retireClusters_retiresOn ..).trans (State.retarget_retiresOn ..))

theorem State.stableAt_lanedisPut (n : Nat) : (s.lanedisPut v).stableAt n =
    if n = s.hart.stable then { s.stableAt s.hart.stable with lanedis := s.lanedisFor v } else s.stableAt n := by
  have hn : ({ s.stableAt s.hart.stable with lanedis := s.lanedisFor v } : Stable).n = s.hart.stable := s.stableAt_n _
  unfold State.lanedisPut
  split
  · rename_i h
    exact State.stableAt_putStable_n _ (hn.trans h.symm)
  · rename_i h
    exact State.stableAt_putStable_other _ _ _ (by rw [hn]; exact Ne.symm h)

/-- `lanedis` written, as the stables show it. -/
theorem State.writeCsr_lanedis_results :
    let d := (s.stableAt s.hart.stable).lanedis; let new := if s.hart.mode = 2 then v.setWidth 16 else d ||| v.setWidth 16
    let t := s.writeCsr 0x61 v c
    t.readCsr 0x61 = new.setWidth 64 ∧ t.stableAt s.hart.stable = { s.stableAt s.hart.stable with lanedis := new, retired := (t.stableAt s.hart.stable).retired } ∧
    (∀ n, n ≠ s.hart.stable → t.stableAt n = s.stableAt n) ∧
    t = { s with stables := t.stables, others := t.others, hart := { s.hart with csr := { s.hart.csr with
      leaseMin := t.hart.csr.leaseMin, leasePref := t.hart.csr.leasePref, target := t.hart.csr.target } } } := by
  obtain ⟨hframe, hhere, helse⟩ := s.writeCsr_lanedis v c
  rw [State.stableAt_lanedisPut, if_pos rfl] at hhere
  have hstable : (s.writeCsr 0x61 v c).hart.stable = s.hart.stable := by rw [hframe]; rfl
  refine ⟨?_, hhere, fun n hn => (helse n hn).trans ?_, hframe⟩
  · show ((s.writeCsr 0x61 v c).stableAt (s.writeCsr 0x61 v c).hart.stable).lanedis.setWidth 64 = _
    rw [hstable, hhere]
    rfl
  · rw [State.stableAt_lanedisPut, if_neg hn]

/-- `lease` written, as its image shows it (R59). -/
theorem State.writeCsr_lease_results :
    let n := (s.stableAt s.hart.stable).live; let m := max 1 (min (v.toNat / 2 ^ 8 % 32) n); let old := s.hart.csr.leaseMin
    let new := if old < m ∧ n < s.minSum s.hart.stable - old + m then old else m
    let pref := max new (min (v.toNat / 2 ^ 16 % 32) n)
    let t := s.writeCsr 0x14 v c; let r := (t.readCsr 0x14).toNat
    t = { s with clock := s.clock + 1, others := t.others, hart := { s.hart with
      age := s.clock + 1, csr := { s.hart.csr with leaseMin := new, leasePref := pref, target := t.hart.csr.target } } } ∧
    r % 32 = s.hart.csr.grant % 32 ∧ r / 2 ^ 8 % 32 = new % 32 ∧ r / 2 ^ 16 % 32 = pref % 32 ∧ r / 2 ^ 32 = s.hart.csr.frozen.toNat := by
  have hw := State.retarget_eq (s.leaseAsked (v.toNat / 2 ^ 8 % 2 ^ 5) (v.toNat / 2 ^ 16 % 2 ^ 5)) s.hart.stable
  rw [← State.writeCsr_lease v c] at hw
  have himage := (s.writeCsr 0x14 v c).hart.leaseImage_fields
  refine ⟨by rw [hw]; rfl, ?_⟩
  rw [show ∀ t : State, t.readCsr 0x14 = t.hart.leaseImage from fun _ => rfl]
  rw [hw] at himage ⊢
  exact himage

/-- The window registers of `awbase`, one for each number (R98). -/
theorem State.writeCsr_awbase (i : Fin 4) :
    s.writeCsr (0x38 + i) v c = { s with hart := { s.hart with csr := { s.hart.csr with awbase := s.hart.csr.awbase.set i (v &&& 0xFFFFFFFFFF0000#64) } } } ∧
    State.readCsr (s.writeCsr (0x38 + i) v c) (0x38 + i) = v &&& 0xFFFFFFFFFF0000#64 := by
  match i with
  | 0 | 1 | 2 | 3 => exact ⟨rfl, Vector.getElem_set_self _⟩

theorem State.writeCsr_cycle : s.writeCsr 0x48 v c = s.putStable { s.stableAt s.hart.stable with cycle := v } ∧
    (s.writeCsr 0x48 v c).readCsr 0x48 = v :=
  ⟨rfl, congrArg Stable.cycle (s.stableAt_putStable_n (t := { s.stableAt s.hart.stable with cycle := v }) (s.stableAt_n _))⟩

theorem State.readCsr_quota : (s.writeCsr 0x52 v c).readCsr 0x52 = (v &&& 0xFFFFFFFF#64) ||| (s.readCsr 0x52 &&& 0xFFFFFFFF00000000#64) :=
  pinquota_written v s.hart.csr.quota.toNat _ s.hart.csr.quota.isLt

/-- `fcfg` and `errinfo` written: the fields of the value, and of the old word the W1C bits that are not cleared (R98, R59). -/
theorem State.writeCsr_w1c :
    s.writeCsr 0x32 v c = { s with hart := { s.hart with csr := { s.hart.csr with fcfg := (v &&& 3#64) ||| (s.hart.csr.fcfg &&& ~~~c &&& 4#64) } } } ∧
    s.writeCsr 0x60 v c = { s with hart := { s.hart with csr := { s.hart.csr with
      errinfo := (v &&& 0x1F1FFF007F#64) ||| (s.hart.csr.errinfo &&& ~~~c &&& 0x8000000000000000#64) } } } := by
  rw [← clearBits_and, ← clearBits_and]
  exact ⟨rfl, rfl⟩

end

/-- Settles O17. The registers that are a mask of what was written come by evaluation, the others by the lemma on each. -/
theorem csrFields : Obligations.CsrFields := by
  intro s v c
  obtain ⟨hfcfg, herrinfo⟩ := s.writeCsr_w1c v c
  have hbase := s.writeCsr_awbase v c
  have hstatus := s.writeCsr_status v c
  rw [writeStatus_eq] at hstatus
  refine ⟨rfl, rfl, rfl, rfl, rfl, rfl, rfl, rfl, rfl, rfl, rfl, rfl, rfl, rfl, rfl, rfl, rfl, rfl, rfl, rfl, rfl, rfl, rfl, rfl, rfl, rfl,
    rfl, rfl, rfl, rfl, rfl, rfl, rfl, rfl, rfl, rfl, rfl, rfl, rfl, rfl, rfl, rfl, rfl, rfl, rfl, rfl,
    hfcfg, congrArg (fun t : State => t.hart.csr.fcfg) hfcfg, herrinfo, congrArg (fun t : State => t.hart.csr.errinfo) herrinfo, ?_,
    ⟨hstatus, congrArg (fun t : State => t.hart.csr.status) hstatus⟩, s.writeCsr_lease_results v c, fun j => State.writeCsr_gbar v c,
    State.writeCsr_gbar_none v c, (hbase 0).1, (hbase 0).2, (hbase 1).1, (hbase 1).2, (hbase 2).1, (hbase 2).2, (hbase 3).1, (hbase 3).2,
    s.writeCsr_awcfg v c 0, s.writeCsr_awcfg v c 1, s.writeCsr_awcfg v c 2, s.writeCsr_awcfg v c 3, s.writeCsr_cycle v c,
    rfl, s.readCsr_quota v c, s.writeCsr_lanedis_results v c⟩
  rintro n (rfl | rfl | rfl) <;> rfl

end Sys2Proof.Machine
end

section
/-! O49: lane management (R59, R61, R62, R141 to R144, R148).

A lane instruction that finds its hart's queue empty enters it, works at once as its only entry, and leaves. The one idea is that the entry
does not matter to its effect: what the effect does to the state without the entry, it does under `Hart.holding` too (the `_holding`
lemmas), and `State.headDone_holding` says that the hart has then passed the instruction. -/

namespace Sys2Proof.Machine

/-! ## What leaves a stable cache, whatever the hart in focus is (R64, R331) -/

section
variable {s : State} (f : Hart → Hart)

theorem State.postEvent_onHart (port source cause die ctx : Nat) (value detail : Word) :
    (s.onHart f).postEvent port source cause die ctx value detail = (s.postEvent port source cause die ctx value detail).onHart f := by
  have hport : (s.onHart f).portAt port = s.portAt port := rfl
  unfold State.postEvent
  rw [hport]
  dsimp only
  split <;> rfl

theorem State.contain_onHart (r : ErrRecord) : (s.onHart f).contain r = (s.contain r).onHart f := by
  have hlog : (s.onHart f).logAll r = (s.logAll r).onHart f := rfl
  have hfn : ((s.logAll r).onHart f).hostFn 4 = (s.logAll r).hostFn 4 := rfl
  have hport : ((s.logAll r).onHart f).fnPort 4 = (s.logAll r).fnPort 4 := rfl
  unfold State.contain State.recoveryEvent
  rw [hlog, hfn, hport, State.postEvent_onHart]
  split <;> rfl

theorem State.touchRegion_onHart (pa : Nat) : (s.onHart f).touchRegion pa = (s.touchRegion pa).onHart f := by
  unfold State.touchRegion
  dsimp only
  rw [apply_ite (fun t : State => t.onHart f)]
  rfl

theorem State.mergeU_onHart (line : Nat) : (s.onHart f).mergeU line = (s.mergeU line).onHart f := by
  unfold State.mergeU
  rw [State.onHart_ulines]
  split
  · rfl
  · dsimp only
    rw [State.touchRegion_onHart]
    rfl

theorem State.evictU_onHart (die line : Nat) : ((s.onHart f).evictU die line).2 = ((s.evictU die line).2).onHart f := by
  have hfault : (s.onHart f).dataFault (line * 128) 128 true = s.dataFault (line * 128) 128 true := rfl
  unfold State.evictU
  rw [State.onHart_ulines, hfault]
  split
  · rfl
  · split
    · split
      · rfl
      · exact State.contain_onHart f _
    · exact State.mergeU_onHart f line

theorem State.evictAgent_onHart (die agent line : Nat) : (s.onHart f).evictAgent die agent line = (s.evictAgent die agent line).onHart f := by
  have hdir : (s.onHart f).dirAt die line = s.dirAt die line := rfl
  unfold State.evictAgent
  dsimp only
  rw [hdir, show (s.onHart f).caches = s.caches from rfl]
  split
  · exact State.evictU_onHart f die line
  · rfl

/-- What leaves a stable cache does not depend on the hart in focus, but for the banks in use. -/
theorem State.moveBanks_onHart {t before : Nat} (hb : (s.onHart f).banksUsed t = s.banksUsed t) :
    (s.onHart f).moveBanks t before = (s.moveBanks t before).onHart f := by
  have hfold (l : List Nat) (u : State) : l.foldl (fun (v : State) l => v.evictAgent (t / 48) (stableAgent t) l) (u.onHart f) =
      (l.foldl (fun (v : State) l => v.evictAgent (t / 48) (stableAgent t) l) u).onHart f := by
    induction l generalizing u with
    | nil => rfl
    | cons a l ih => rw [List.foldl_cons, List.foldl_cons, State.evictAgent_onHart, ih]
  unfold State.moveBanks
  rw [hb]
  split
  · rfl
  · exact hfold _ { s with fresh := s.fresh + 1 }

end

/-! ## The fields of the lane instructions (R68) -/

section
open BitVec

theorem lenOf_four {w : BitVec 64} (h : w.extractLsb' 0 2 = 2#2) : lenOf w = 4 := by
  have hlow : (w.extractLsb' 0 16).extractLsb' 0 2 = 2#2 := by
    rw [← h]
    refine BitVec.eq_of_getLsbD_eq fun i hi => ?_
    simp only [BitVec.getLsbD_extractLsb', hi, decide_true, Bool.true_and, Nat.zero_add]
    rw [decide_eq_true (by omega), Bool.true_and]
  unfold lenOf lengthOf
  rw [hlow]
  rfl

theorem OpDAB.get_pack (o : OpDAB) (g0 : BitVec 8) (g1 : BitVec 9) : OpDAB.get (o.pack g0 g1) = o := by
  have hd : (o.pack g0 g1).extractLsb' 8 5 = o.d := (extractLsb'_append_eq_of_le (by decide)).trans extractLsb'_append_eq_right
  have ha : (o.pack g0 g1).extractLsb' 13 5 = o.a :=
    (extractLsb'_append_eq_of_le (by decide)).trans ((extractLsb'_append_eq_of_le (by decide)).trans extractLsb'_append_eq_right)
  have hb : (o.pack g0 g1).extractLsb' 18 5 = o.b :=
    (extractLsb'_append_eq_of_le (by decide)).trans ((extractLsb'_append_eq_of_le (by decide)).trans
      ((extractLsb'_append_eq_of_le (by decide)).trans extractLsb'_append_eq_right))
  rw [OpDAB.get, hd, ha, hb]

theorem OpDA.get_pack (o : OpDA) (g0 : BitVec 8) (g1 : BitVec 14) : OpDA.get (o.pack g0 g1) = o := by
  have hd : (o.pack g0 g1).extractLsb' 8 5 = o.d := (extractLsb'_append_eq_of_le (by decide)).trans extractLsb'_append_eq_right
  have ha : (o.pack g0 g1).extractLsb' 13 5 = o.a :=
    (extractLsb'_append_eq_of_le (by decide)).trans ((extractLsb'_append_eq_of_le (by decide)).trans extractLsb'_append_eq_right)
  rw [OpDA.get, hd, ha]

end

/-- A register that an instruction names in the five bits at `lo` is the one in that field. -/
theorem reg_of_field (w : BitVec 32) {lo : Nat} (h : lo + 5 ≤ 64) : BitVec.ofNat 5 (0 + bits (w.setWidth 64) lo 5) = w.extractLsb' lo 5 := by
  rw [Nat.zero_add, bits, BitVec.extractLsb'_setWidth_of_le h, BitVec.ofNat_toNat, BitVec.setWidth_eq]

/-- The fields of the word of `VSETL` or `VLEASE` (R68). -/
theorem OpDAB.fields (o : OpDAB) (g : BitVec 9) : let w := (o.pack 2#8 g).setWidth 64
    BitVec.ofNat 5 (0 + bits w 13 5) = o.a ∧ BitVec.ofNat 5 (0 + bits w 18 5) = o.b ∧ w.extractLsb' 8 5 = o.d ∧ lenOf w = 4 := by
  have hget := OpDAB.get_pack o 2#8 g
  refine ⟨(reg_of_field _ (by decide)).trans (congrArg OpDAB.a hget), (reg_of_field _ (by decide)).trans (congrArg OpDAB.b hget),
    (BitVec.extractLsb'_setWidth_of_le (by decide)).trans (congrArg OpDAB.d hget), lenOf_four ?_⟩
  exact (BitVec.extractLsb'_setWidth_of_le (by decide)).trans (BitVec.extractLsb'_append_eq_of_add_le (by decide))

/-- The fields of the word of `VFORK` or `VJOIN` (R68). -/
theorem OpDA.fields (o : OpDA) (g : BitVec 14) : let w := (o.pack 2#8 g).setWidth 64
    BitVec.ofNat 5 (0 + bits w 13 5) = o.a ∧ w.extractLsb' 8 5 = o.d ∧ lenOf w = 4 := by
  have hget := OpDA.get_pack o 2#8 g
  refine ⟨(reg_of_field _ (by decide)).trans (congrArg OpDA.a hget),
    (BitVec.extractLsb'_setWidth_of_le (by decide)).trans (congrArg OpDA.d hget), lenOf_four ?_⟩
  exact (BitVec.extractLsb'_setWidth_of_le (by decide)).trans (BitVec.extractLsb'_append_eq_of_add_le (by decide))

/-! ## The only entry of a queue (R125, R135) -/

/-- The hart with a vector instruction as the only entry of its queue, and the control thread gone on to `pc` (R101, R125). -/
def Hart.holding (e : QEntry) (pc : Word) (h : Hart) : Hart := { h.passed pc with queue := [e] }

/-- The hart once the only entry of its queue has completed (R125, R135). -/
def Hart.emptied (h : Hart) : Hart :=
  { h with queue := [], bridle := h.bridleLeft, ecauses := h.causesLeft, csr := { h.csr with vstart := 0#64 } }

theorem State.headDone_only {t : State} {e : QEntry} (hq : t.hart.queue = [e]) (hr : e.ret = none) (hv : t.hart.vlmaxTo = none) :
    t.headDone = t.onHart Hart.emptied := by
  simp [State.headDone, State.takeVlmax, State.onHart, State.onHead, Hart.leave, Hart.deliver, anyBy, leaveDone, Hart.bridleLeft,
    Hart.causesLeft, Hart.emptied, Hart.setVstart, hq, hr, hv]

/-- An effect on the hart that holds the entry, where the entry does not matter to it: the hart has passed the instruction. -/
theorem State.headDone_holding {t : State} {e : QEntry} (pc : Word) (hq : t.hart.queue = []) (hr : e.ret = none) (hv : t.hart.vlmaxTo = none) :
    (t.onHart (Hart.holding e pc)).headDone = { t with hart := t.hart.vectorPassed pc } := by
  rw [State.headDone_only (t := t.onHart (Hart.holding e pc)) rfl hr hv]
  show ({ t with hart := { t.hart.vectorPassed pc with queue := [] } } : State) = _
  rw [← hq]
  rfl

/-- The only entry, where it has not been begun and nothing holds it back: a step of the lanes works on it. -/
theorem State.lanes_only {t : State} {e : QEntry} (hq : t.hart.queue = [e]) (hs : e.state = 1) (hc : t.hart.vcause = none)
    (hh : t.hart.hold = false) : t.lanes true = t.headWork e true := by
  simp [State.lanes, hq, hs, hc, hh, Hart.heldBack]

section
variable {s : State} {r : Row} {w : BitVec 64} {F : QEntry → State → State}

/-- A lane instruction enters an empty queue, and the lanes do its work at once. -/
theorem State.issue_lane (h : VReady s r w) (hb : s.blockFor r w = .ok [] s) (hl : lenOf w = 4)
    (hF : ∀ e t, e.row = r → t.hart.fenceHolds 0 e = false → t.headWork e true = F e t) :
    s.issue r w = .next (F (s.hart.entry r w s.hart.pc []) (s.onHart (Hart.holding (s.hart.entry r w s.hart.pc []) (s.hart.pc + 4#64)))) := by
  have hqueued : s.queued r w [] 4 = s.onHart (Hart.holding (s.hart.entry r w s.hart.pc []) (s.hart.pc + 4#64)) := by
    rw [State.queued, h.empty]
    rfl
  have hfence := State.fenceHolds_queued (r := r) (w := w) (b := []) 4 h.fence
  rw [State.issue_ready h hb, hl, hqueued]
  rw [hqueued] at hfence
  rw [← hF _ _ rfl hfence]
  exact congrArg Host.Outcome.next (State.lanes_only (e := s.hart.entry r w s.hart.pc []) rfl rfl h.clean h.unheld)


/-- `VSETL` and `VLEASE` as the only entry of the queue, with the values that the entry captures (R125). -/
theorem State.issue_dab {o : OpDAB} {g : BitVec 9} (hr : r = .vsetl ∨ r = .vlease) (h : VReady s r w) (hw : w = (o.pack 2#8 g).setWidth 64)
    (hF : ∀ e t, e.row = r → t.hart.fenceHolds 0 e = false → t.headWork e true = F e t) :
    ∃ e : QEntry, e.opa = s.hart.getX o.a ∧ e.opb = s.hart.getX o.b ∧ e.fd = o.d ∧ e.ret = none ∧
      s.issue r w = .next (F e (s.onHart (Hart.holding e (s.hart.pc + 4#64)))) := by
  subst hw
  obtain ⟨ha, hb, hd, hl⟩ := OpDAB.fields o g
  refine ⟨s.hart.entry r ((o.pack 2#8 g).setWidth 64) s.hart.pc [], ?_, ?_, hd, rfl, State.issue_lane h ?_ hl hF⟩
  · rcases hr with rfl | rfl <;> exact congrArg s.hart.getX ha
  · rcases hr with rfl | rfl <;> exact congrArg s.hart.getX hb
  · rcases hr with rfl | rfl <;> rfl

/-- `VFORK` and `VJOIN` as the only entry of the queue, with the value that the entry captures (R125). -/
theorem State.issue_da {o : OpDA} {g : BitVec 14} (hr : r = .vfork ∨ r = .vjoin) (h : VReady s r w) (hw : w = (o.pack 2#8 g).setWidth 64)
    (hF : ∀ e t, e.row = r → t.hart.fenceHolds 0 e = false → t.headWork e true = F e t) :
    ∃ e : QEntry, e.opa = s.hart.getX o.a ∧ e.fd = o.d ∧ e.ret = none ∧
      s.issue r w = .next (F e (s.onHart (Hart.holding e (s.hart.pc + 4#64)))) := by
  subst hw
  obtain ⟨ha, hd, hl⟩ := OpDA.fields o g
  refine ⟨s.hart.entry r ((o.pack 2#8 g).setWidth 64) s.hart.pc [], ?_, hd, rfl, State.issue_lane h ?_ hl hF⟩
  · rcases hr with rfl | rfl <;> exact congrArg s.hart.getX ha
  · rcases hr with rfl | rfl <;> rfl

end

/-! ## What does not depend on the entry: banks, minimums and free cores (R55, R63, R143) -/

section
variable {s : State} (e : QEntry) (pc : Word)

theorem Hart.setX_holding (h : Hart) (d : Reg) (v : Word) : (h.holding e pc).setX d v = (h.setX d v).holding e pc := by
  unfold Hart.setX
  rw [apply_ite (Hart.holding e pc)]
  rfl

theorem Hart.setVlmax_holding (h : Hart) (code : Nat) : (h.holding e pc).setVlmax code = (h.setVlmax code).holding e pc := by
  unfold Hart.setVlmax
  dsimp only
  rw [apply_ite (Hart.holding e pc)]
  rfl

/-- The harts admitted to a stable are the same but for the entry of the one in focus, where it is one of them. -/
theorem State.admitted_holding (s : State) (t : Nat) : ∃ l,
    s.admitted t = l ∧ (s.onHart (Hart.holding e pc)).admitted t = l ∨
    s.admitted t = s.hart :: l ∧ (s.onHart (Hart.holding e pc)).admitted t = s.hart.holding e pc :: l := by
  let p (h : Hart) : Bool := h.job.isSome && !h.isGroom && h.stable == t
  have hp : p (s.hart.holding e pc) = p s.hart := rfl
  refine ⟨s.others.filter p, ?_⟩
  show List.filter p (s.hart :: s.others) = _ ∧ List.filter p (s.hart.holding e pc :: s.others) = _ ∨
    List.filter p (s.hart :: s.others) = _ ∧ List.filter p (s.hart.holding e pc :: s.others) = _
  rw [List.filter_cons, List.filter_cons, hp]
  cases p s.hart with
  | false => exact .inl ⟨rfl, rfl⟩
  | true => exact .inr ⟨rfl, rfl⟩

/-- A sum over the harts of a stable of what the entry does not matter to. -/
theorem State.sumBy_admitted_holding {g : Hart → Nat} (t : Nat) (hg : g (s.hart.holding e pc) = g s.hart) :
    sumBy g ((s.onHart (Hart.holding e pc)).admitted t) = sumBy g (s.admitted t) := by
  obtain ⟨l, ⟨hs, hh⟩ | ⟨hs, hh⟩⟩ := s.admitted_holding e pc t
  · rw [hs, hh]
  · rw [hs, hh]
    exact congrArg (· + sumBy g l) hg

theorem State.banksUsed_holding (t : Nat) : (s.onHart (Hart.holding e pc)).banksUsed t = s.banksUsed t := State.sumBy_admitted_holding e pc t rfl

theorem State.minSum_holding (t : Nat) : (s.onHart (Hart.holding e pc)).minSum t = s.minSum t := State.sumBy_admitted_holding e pc t rfl

theorem State.banksFit_holding (t more : Nat) : (s.onHart (Hart.holding e pc)).banksFit t more = s.banksFit t more := by
  rw [State.banksFit, State.banksUsed_holding, State.banksFit]

theorem State.freeCore_holding (t : Nat) : (s.onHart (Hart.holding e pc)).freeCore t = s.freeCore t := by
  unfold State.freeCore State.findHart
  refine congrArg (fun p => findBy p (countFrom (8 * t) 8)) (funext fun id => ?_)
  by_cases h : s.hart.id = id
  · rw [if_pos h, if_pos (show (s.onHart (Hart.holding e pc)).hart.id = id from h)]
    rfl
  · rw [if_neg h, if_neg (show ¬ (s.onHart (Hart.holding e pc)).hart.id = id from h)]
    rfl

/-! ## `VSETL` (R64, R65, R141) -/

/-- The grant to a request of the hart in focus counts that hart at the code requested, whatever is in its queue. -/
theorem State.storageGrant_holding {g : Nat} (hg : s.hart.job = some g) (t code : Nat) :
    (s.onHart (Hart.holding e pc)).storageGrant t g code = s.storageGrant t g code := by
  have hbanks (k : Nat) : (s.onHart (Hart.holding e pc)).banksUnder t g k = s.banksUnder t g k := by
    refine State.sumBy_admitted_holding e pc t ?_
    show extraBanks (if s.hart.job = some g then (if s.hart.id = s.hart.id then k else _) else _) =
      extraBanks (if s.hart.job = some g then (if s.hart.id = s.hart.id then k else _) else _)
    rw [if_pos hg, if_pos rfl, if_pos hg, if_pos rfl]
  unfold State.storageGrant
  simp only [hbanks]
  rfl

theorem State.job_gang {j : Job} (hj : s.job = some j) : s.hart.job = some j.gang := by
  unfold State.job at hj
  cases hg : s.hart.job with
  | none => rw [hg] at hj; cases hj
  | some g => rw [hg] at hj; rw [State.jobAt_gang hj]

/-- The hart in focus at a VLMAX code that its gang has been granted, and the change on its way to the gang's others (R65). -/
def State.vlmaxGiven (s : State) (j : Job) (c : Nat) : State :=
  { s with hart := s.hart.setVlmax c, others := s.others.map (fun h => if h.job = some j.gang then h.offerVlmax c else h) }

theorem State.requestStorage_job {j : Job} (hj : s.job = some j) (code : Nat) : s.requestStorage code =
    (s.vlmaxGiven j (s.storageGrant j.stable j.gang code)).moveBanks j.stable (s.banksUsed j.stable) := by
  rw [State.requestStorage, hj]
  rfl

theorem State.requestStorage_none (hj : s.job = none) (code : Nat) : s.requestStorage code = s := by rw [State.requestStorage, hj]

theorem State.requestStorage_holding (code : Nat) :
    (s.onHart (Hart.holding e pc)).requestStorage code = (s.requestStorage code).onHart (Hart.holding e pc) := by
  cases hj : s.job with
  | none => rw [State.requestStorage_none hj, State.requestStorage_none (s := s.onHart (Hart.holding e pc)) hj]
  | some j =>
    have hgiven (c : Nat) : (s.onHart (Hart.holding e pc)).vlmaxGiven j c = (s.vlmaxGiven j c).onHart (Hart.holding e pc) := by
      rw [State.vlmaxGiven, State.onHart_hart, Hart.setVlmax_holding]
      rfl
    rw [State.requestStorage_job hj, State.requestStorage_job (s := s.onHart (Hart.holding e pc)) hj, hgiven,
      State.storageGrant_holding e pc (State.job_gang hj), State.banksUsed_holding, State.moveBanks_onHart _ (State.banksUsed_holding ..)]

/-- What leaves a stable cache with the banks that move changes no hart (R64). -/
theorem State.moveBanks_frame (s : State) (t before : Nat) : MergeFrame { s with fresh := (s.moveBanks t before).fresh } (s.moveBanks t before) := by
  have hagent (u : State) (l : Nat) : MergeFrame u (u.evictAgent (t / 48) (stableAgent t) l) := by
    unfold State.evictAgent
    dsimp only
    split
    · exact u.evictU_mergeFrame ..
    · exact ⟨rfl⟩
  unfold State.moveBanks
  split
  · exact .refl s
  · have h := MergeFrame.foldl hagent ((s.caches.filter (fun c => c.cache == stableCache t && Config.bankMoves s.fresh c.line)).map (fun c => c.line))
      (s := { s with fresh := s.fresh + 1 })
    have hfresh := congrArg State.fresh h.frame
    exact ⟨by rw [hfresh]; exact h.frame⟩

/-- A line that is not in U leaves an agent's cache, and memory stays. -/
theorem State.evictAgent_nil {s : State} (hu : s.ulines = []) (die agent line : Nat) :
    s.evictAgent die agent line = { s with coh := (s.evictAgent die agent line).coh } := by
  have hevict : s.evictU die line = (true, { s with coh := s.unfolded line }) := if_pos (by rw [hu]; rfl)
  unfold State.evictAgent
  rw [hevict]
  dsimp only
  split <;> rfl

/-- Where no line is in U, none of them merges. -/
theorem State.moveBanks_mem {s : State} (hu : s.ulines = []) (t before : Nat) : (s.moveBanks t before).mem = s.mem := by
  have hfold (l : List Nat) {u : State} (hu : u.ulines = []) :
      (l.foldl (fun (v : State) l => v.evictAgent (t / 48) (stableAgent t) l) u).mem = u.mem := by
    induction l generalizing u with
    | nil => rfl
    | cons a l ih =>
      have h := State.evictAgent_nil hu (t / 48) (stableAgent t) a
      rw [List.foldl_cons, ih (by rw [h]; exact hu), h]
  unfold State.moveBanks
  split
  · rfl
  · exact hfold _ (u := { s with fresh := s.fresh + 1 }) hu

theorem State.moveBanks_hart (s : State) (t before : Nat) : (s.moveBanks t before).hart = s.hart := by
  rw [(s.moveBanks_frame t before).frame]

theorem Hart.setVlmax_keeps (h : Hart) (code : Nat) : (h.setVlmax code).queue = h.queue ∧ (h.setVlmax code).vlmaxTo = none := by
  unfold Hart.setVlmax
  dsimp only
  rw [apply_ite Hart.queue, apply_ite Hart.vlmaxTo]
  exact ⟨ite_self _, ite_self _⟩

theorem State.requestStorage_keeps {s : State} (hv : s.hart.vlmaxTo = none) (code : Nat) :
    (s.requestStorage code).hart.queue = s.hart.queue ∧ (s.requestStorage code).hart.vlmaxTo = none := by
  cases hj : s.job with
  | none => rw [State.requestStorage_none hj]; exact ⟨rfl, hv⟩
  | some j => rw [State.requestStorage_job hj, State.moveBanks_hart]; exact Hart.setVlmax_keeps ..

/-- The storage request of `VSETL`: for the length asked for, or for the largest that the live clusters allow (R141, R216). -/
def State.storageAsked (s : State) (q : Word) : State :=
  let most := codeLimit (s.stableAt s.hart.stable).live
  if bits q 5 2 ≠ 3 then s.requestStorage (bits q 5 2) else if most < bits s.hart.csr.vcfg 35 2 then s.requestStorage most else s

theorem State.storageAsked_holding (q : Word) :
    (s.onHart (Hart.holding e pc)).storageAsked q = (s.storageAsked q).onHart (Hart.holding e pc) := by
  unfold State.storageAsked
  dsimp only
  rw [State.requestStorage_holding, State.requestStorage_holding, apply_ite (State.onHart · (Hart.holding e pc)),
    apply_ite (State.onHart · (Hart.holding e pc))]
  rfl

theorem State.storageAsked_keeps {s : State} (hv : s.hart.vlmaxTo = none) (q : Word) :
    (s.storageAsked q).hart.queue = s.hart.queue ∧ (s.storageAsked q).hart.vlmaxTo = none := by
  unfold State.storageAsked
  dsimp only
  split
  · exact State.requestStorage_keeps hv _
  · split
    · exact State.requestStorage_keeps hv _
    · exact ⟨rfl, hv⟩

/-- The width and the layout that `VSETL` sets (R141). -/
def Hart.shaped (h : Hart) (q : Word) : Hart := { h with csr := { h.csr with vcfg := setBits (setBits h.csr.vcfg 16 3 (bits q 0 3)) 22 2 (bits q 3 2) } }

/-- The new length in `vcfg` and in `xd` (R141). -/
def Hart.lengthSet (h : Hart) (q : Word) (a : Nat) (d : Reg) : Hart :=
  let n := newVl a (h.shaped q).perReg (h.shaped q).la
  ((h.shaped q).setVl n).setX d (BitVec.ofNat 64 n)

theorem Hart.lengthSet_holding (h : Hart) (q : Word) (a : Nat) (d : Reg) :
    (h.holding e pc).lengthSet q a d = (h.lengthSet q a d).holding e pc := Hart.setX_holding e pc ((h.shaped q).setVl _) d _

theorem Hart.lengthSet_keeps (h : Hart) (q : Word) (a : Nat) (d : Reg) :
    (h.lengthSet q a d).queue = h.queue ∧ (h.lengthSet q a d).vlmaxTo = h.vlmaxTo := ⟨Hart.setX_queue .., Hart.setX_vlmaxTo ..⟩

theorem effVsetl_done {d : QEntry} (hq : d.opb.toNat < 128) (hs : bits d.opb 0 3 < 5) : effVsetl d (s.onHart (Hart.holding e pc)) =
    .done (((s.storageAsked d.opb).onHart (fun h => h.lengthSet d.opb d.opa.toNat d.fd)).onHart (Hart.holding e pc)) := by
  have hok : ¬ (d.opb.toNat / 128 ≠ 0 ∨ 5 ≤ bits d.opb 0 3) := by omega
  have heff : effVsetl d (s.onHart (Hart.holding e pc)) =
      .done (((s.onHart (Hart.holding e pc)).storageAsked d.opb).onHart (fun h => h.lengthSet d.opb d.opa.toNat d.fd)) := if_neg hok
  rw [heff, State.storageAsked_holding]
  exact congrArg (fun h => Eff.done { s.storageAsked d.opb with hart := h }) (Hart.lengthSet_holding ..)

theorem effVsetl_refused {d : QEntry} (h : 128 ≤ d.opb.toNat ∨ 5 ≤ bits d.opb 0 3) : effVsetl d s = s.startFault (s.openStop 0x0B) :=
  if_pos (by omega)

end

section
variable {s : State}

theorem exec_vsetl_results (o : OpDAB) (h : VReady s .vsetl (wordVsetl o)) :
    let q := s.hart.getX o.b
    (q.toNat < 128 → bits q 0 3 < 5 → exec (.vsetl o) s = .next { s.storageAsked q with
      hart := ((s.storageAsked q).hart.lengthSet q (s.hart.getX o.a).toNat o.d).vectorPassed (s.hart.pc + 4#64) }) ∧
    (128 ≤ q.toNat ∨ 5 ≤ bits q 0 3 → ∃ t v, exec (.vsetl o) s = .next t ∧ VRefused s t { cause := 0x0B, tval := v }) := by
  obtain ⟨e, ha, hb, hd, hr, hexec⟩ := State.issue_dab (F := fun e t => t.vctlStep e (effVsetl e t)) (.inl rfl) h rfl
    (fun e t hr hf => by rw [State.headWork, hf, hr]; rfl)
  rw [show exec (.vsetl o) s = s.issue .vsetl (wordVsetl o) from rfl, hexec]
  constructor
  · intro hq hs
    obtain ⟨hqueue, hv⟩ := State.storageAsked_keeps h.steady (s.hart.getX o.b)
    obtain ⟨hqueue', hv'⟩ := (s.storageAsked (s.hart.getX o.b)).hart.lengthSet_keeps (s.hart.getX o.b) (s.hart.getX o.a).toNat o.d
    rw [effVsetl_done _ _ (hb ▸ hq) (hb ▸ hs), ha, hb, hd]
    exact congrArg Host.Outcome.next (State.headDone_holding _ (hqueue'.trans (hqueue.trans h.empty)) hr (hv'.trans hv))
  · intro hbad
    rw [effVsetl_refused (hb ▸ hbad)]
    exact ⟨_, _, rfl, rfl, rfl, ⟨rfl, rfl, rfl, rfl, rfl⟩, ⟨rfl, rfl, rfl⟩, rfl⟩

/-! ## `VCOMMIT` and `VLEASE` (R59, R142, R148) -/

theorem exec_vcommit_results (h : VReady s .vcommit wordVcommit) (hb : s.hart.bridle.all (fun t => t.after != 0 || t.held) = true) :
    exec .vcommit s = .next { s with hart := s.hart.vectorPassed (s.hart.pc + 4#64) } := by
  have hissue := State.issue_lane (F := fun e t => t.vctlStep e (effVcommit t)) h rfl rfl (fun e t hr hf => by rw [State.headWork, hf, hr]; rfl)
  have heff (e : QEntry) (pc : Word) : effVcommit (s.onHart (Hart.holding e pc)) = .done (s.onHart (Hart.holding e pc)) := if_pos hb
  rw [show exec .vcommit s = s.issue .vcommit wordVcommit from rfl, hissue, heff]
  exact congrArg Host.Outcome.next (State.headDone_holding _ h.empty rfl h.steady)

/-- What the arbiter reads of a hart: its id, its job, the age and the two counts of its request, and whether it is idle (R53, R55). -/
def Hart.asSeen (h : Hart) : Hart :=
  { Hart.reset h.id with
    run := if h.idle then .halted else .running, job := h.job, age := h.age
    csr := { Csrs.reset with leaseMin := h.csr.leaseMin, leasePref := h.csr.leasePref } }

theorem Hart.asSeen_idle (h : Hart) : h.asSeen.idle = h.idle := by
  unfold Hart.asSeen
  cases hi : h.idle <;> simp [Hart.idle, Hart.reset]

/-- The claims that harts make, oldest request first (R53, R55). -/
def claimsOf (l : List Hart) : List Claim :=
  ((l.foldl (fun l h => insertByAge h l) []).filter (fun h => !h.idle)).map (fun h => (h.id, h.csr.leaseMin, h.csr.leasePref))

theorem State.dealt_eq (s : State) (t : Nat) : s.dealt t = dealAll (s.stableAt t).usable (claimsOf (s.admitted t))
    ((s.stableAt t).usable - sumBy (fun c : Claim => c.2.1) (claimsOf (s.admitted t))) := rfl

theorem insertByAge_asSeen (h : Hart) (l : List Hart) : (insertByAge h l).map Hart.asSeen = insertByAge h.asSeen (l.map Hart.asSeen) := by
  induction l with
  | nil => rfl
  | cons g l ih =>
    have hold : h.asSeen.olderThan g.asSeen = h.olderThan g := rfl
    simp only [insertByAge, List.map_cons, hold]
    split
    · rfl
    · rw [List.map_cons, ih]

theorem claimsOf_asSeen (l : List Hart) : claimsOf (l.map Hart.asSeen) = claimsOf l := by
  have hsort (l acc : List Hart) : (l.map Hart.asSeen).foldl (fun l h => insertByAge h l) (acc.map Hart.asSeen) =
      (l.foldl (fun l h => insertByAge h l) acc).map Hart.asSeen := by
    induction l generalizing acc with
    | nil => rfl
    | cons h l ih => rw [List.map_cons, List.foldl_cons, List.foldl_cons, ← insertByAge_asSeen, ih]
  have hidle : (fun h : Hart => !h.idle) ∘ Hart.asSeen = fun h => !h.idle := funext fun h => congrArg Bool.not h.asSeen_idle
  rw [claimsOf, show (l.map Hart.asSeen).foldl (fun l h => insertByAge h l) [] = _ from hsort l [], List.filter_map, hidle, List.map_map]
  rfl

/-- The entry does not matter to the claims of a hart that runs. -/
theorem State.dealt_holding (e : QEntry) (pc : Word) (hrun : s.hart.run = .running) (t : Nat) : (s.onHart (Hart.holding e pc)).dealt t = s.dealt t := by
  have hidle (h : Hart) (hr : h.run = .running) : h.idle = false := by simp [Hart.idle, hr]
  have hseen : (s.hart.holding e pc).asSeen = s.hart.asSeen := by
    rw [Hart.asSeen, Hart.asSeen, hidle _ hrun, hidle (s.hart.holding e pc) hrun]
    rfl
  have hadmitted : ((s.onHart (Hart.holding e pc)).admitted t).map Hart.asSeen = (s.admitted t).map Hart.asSeen := by
    obtain ⟨l, ⟨hs, hh⟩ | ⟨hs, hh⟩⟩ := s.admitted_holding e pc t
    · rw [hs, hh]
    · rw [hs, hh, List.map_cons, List.map_cons, hseen]
  have hclaims : claimsOf ((s.onHart (Hart.holding e pc)).admitted t) = claimsOf (s.admitted t) := by
    rw [← claimsOf_asSeen, hadmitted, claimsOf_asSeen]
  have hstable : (s.onHart (Hart.holding e pc)).stableAt t = s.stableAt t := rfl
  rw [State.dealt_eq, State.dealt_eq, hclaims, hstable]

theorem State.retarget_holding (e : QEntry) (pc : Word) (hrun : s.hart.run = .running) (t : Nat) :
    (s.onHart (Hart.holding e pc)).retarget t = (s.retarget t).onHart (Hart.holding e pc) := by
  have htarget (h : Hart) : (s.onHart (Hart.holding e pc)).targetOn t h = s.targetOn t h := by
    rw [State.targetOn, State.dealt_holding e pc hrun, State.targetOn]
  rw [State.retarget_eq, State.retarget_eq]
  simp only [htarget]
  rfl

/-- The entry does not matter to a request for clusters. -/
theorem State.leaseAsked_holding (e : QEntry) (pc : Word) (m p : Nat) :
    (s.onHart (Hart.holding e pc)).leaseAsked m p = (s.leaseAsked m p).onHart (Hart.holding e pc) := by
  have hmin : (s.onHart (Hart.holding e pc)).leaseMinFor m = s.leaseMinFor m := by
    have hsum := s.minSum_holding e pc s.hart.stable
    exact congrArg (fun k => if s.hart.csr.leaseMin < max 1 (min m (s.stableAt s.hart.stable).live) ∧
      (s.stableAt s.hart.stable).live < k - s.hart.csr.leaseMin + max 1 (min m (s.stableAt s.hart.stable).live) then s.hart.csr.leaseMin
      else max 1 (min m (s.stableAt s.hart.stable).live)) hsum
  rw [State.leaseAsked, State.leasePrefFor, hmin]
  rfl

theorem exec_vlease_results (o : OpDAB) (hrun : s.hart.run = .running) (h : VReady s .vlease (wordVlease o)) :
    let u := (s.leaseAsked (s.hart.getX o.a).toNat (s.hart.getX o.b).toNat).retarget s.hart.stable
    exec (.vlease o) s = .next { u with hart := (u.hart.setX o.d u.hart.leaseImage).vectorPassed (s.hart.pc + 4#64) } := by
  intro u
  obtain ⟨e, ha, hb, hd, hr, hexec⟩ := State.issue_dab (F := fun e t => t.vctlStep e (effVlease e t)) (.inr rfl) h rfl
    (fun e t hr hf => by rw [State.headWork, hf, hr]; rfl)
  have hrequest (pc : Word) : (s.onHart (Hart.holding e pc)).requestLease s.hart.id (s.hart.getX o.a).toNat (s.hart.getX o.b).toNat =
      u.onHart (Hart.holding e pc) := by
    have hfocus := (s.onHart (Hart.holding e pc)).requestLease_focus (s.hart.getX o.a).toNat (s.hart.getX o.b).toNat
    rw [State.leaseAsked_holding] at hfocus
    exact hfocus.trans (State.retarget_holding (s := s.leaseAsked _ _) e pc hrun _)
  have heff (pc : Word) : effVlease e (s.onHart (Hart.holding e pc)) =
      .done ((u.onHart (fun h => h.setX o.d h.leaseImage)).onHart (Hart.holding e pc)) := by
    rw [effVlease, ha, hb, hd]
    refine (congrArg (fun t : State => Eff.done (t.onHart (fun h => h.setX o.d h.leaseImage))) (hrequest pc)).trans ?_
    exact congrArg (fun h => Eff.done { u with hart := h }) (Hart.setX_holding e pc u.hart o.d u.hart.leaseImage)
  have hu : u.hart.queue = [] ∧ u.hart.vlmaxTo = none := by
    rw [show u = _ from State.retarget_eq ..]
    exact ⟨h.empty, h.steady⟩
  rw [show exec (.vlease o) s = s.issue .vlease (wordVlease o) from rfl, hexec, heff]
  exact congrArg Host.Outcome.next (State.headDone_holding _ ((Hart.setX_queue ..).trans hu.1) hr ((Hart.setX_vlmaxTo ..).trans hu.2))

end

/-! ## `VFORK` (R61, R143) -/

/-- The parent of a fork: it keeps the clusters, and of its request what its minimum leaves, that it does not hand to the child. -/
def Hart.parted (h : Hart) (num age : Nat) : Hart :=
  let k := h.csr.grant / 2
  let m2 := max 1 (h.csr.leaseMin - k)
  { h with
    age := age
    forks := h.forks ++ [({ member := num, k := k, d := h.csr.leaseMin - m2 } : Fork)]
    csr := { h.csr with leaseMin := m2, leasePref := max m2 (h.csr.leasePref - k), grant := h.csr.grant - k } }

/-- A job with one more member, on the core `id`. -/
def Job.forked (j : Job) (id : Nat) : Job :=
  { j with
    members := j.members ++ [({ n := j.freeMember, hart := id, launched := false, halted := false } : Member)]
    mask := j.mask ||| (1#8 <<< j.freeMember), arrived := j.arrived &&& ~~~(1#8 <<< j.freeMember) }

/-- The hart in focus split: its child on the core `id` starts at `pc`. -/
def State.forked (s : State) (j : Job) (id : Nat) (pc : Word) (d : Reg) : State :=
  { s with
    clock := s.clock + 1
    hart := (s.hart.parted j.freeMember (s.clock + 1)).setX d (BitVec.ofNat 64 j.freeMember)
    others := putBy (fun g : Hart => g.id == id) (forkChild s.hart id j.freeMember pc d (s.hart.csr.grant / 2) (s.clock + 1)) s.others
    jobs := putBy (fun q : Job => q.gang == j.gang) (j.forked id) s.jobs }

/-- What a split on a free core can still lack: clusters, a member number, banks, or minimums that fit (R143). -/
def State.cannotSplit (s : State) (j : Job) : Bool :=
  let m := s.hart.csr.leaseMin
  let m2 := max 1 (m - s.hart.csr.grant / 2)
  decide (s.hart.csr.grant < 2) || decide (8 ≤ j.members.length) || !s.banksFit s.hart.stable (extraBanks (bits s.hart.csr.vcfg 35 2)) ||
    decide (m < m2 + 1 ∧ (s.stableAt s.hart.stable).live < s.minSum s.hart.stable - m + m2 + 1)

theorem forkChild_id (p : Hart) (id member : Nat) (pc : Word) (d : Reg) (k age : Nat) : (forkChild p id member pc d k age).id = id := Hart.setX_id ..

section
variable {s : State} {e : QEntry}

theorem State.cannotSplit_iff {j : Job} : s.cannotSplit j = true ↔
    let m := s.hart.csr.leaseMin; let m2 := max 1 (m - s.hart.csr.grant / 2)
    s.hart.csr.grant < 2 ∨ 8 ≤ j.members.length ∨ s.banksFit s.hart.stable (extraBanks (bits s.hart.csr.vcfg 35 2)) = false ∨
      (m < m2 + 1 ∧ (s.stableAt s.hart.stable).live < s.minSum s.hart.stable - m + m2 + 1) := by
  simp only [State.cannotSplit, Bool.or_eq_true, decide_eq_true_eq, Bool.not_eq_true', or_assoc]

/-- A free core is not the one that runs. -/
theorem State.freeCore_apart {t id : Nat} (hrun : s.hart.run = .running) (h : s.freeCore t = some id) : s.hart.id ≠ id := by
  rintro rfl
  have hfree := findBy_some h
  rw [State.findHart_focus] at hfree
  simp [hrun] at hfree

theorem State.onHart_fixed {f : Hart → Hart} (h : f s.hart = s.hart) : s.onHart f = s := by rw [State.onHart, h]

theorem effVfork_fails (hv : s.hart.vlmaxTo = none) (ht : badTarget e.opa = none)
    (h : ∀ j, s.job = some j → s.freeCore s.hart.stable = none ∨ s.cannotSplit j = true) :
    effVfork e s = .done (s.onHart (fun h => h.setX e.fd (BitVec.allOnes 64))) := by
  unfold effVfork
  rw [State.onHart_fixed (s := s) (by rw [hv])]
  dsimp only
  rw [ht]
  cases hj : s.job with
  | none => rfl
  | some j =>
    cases hc : s.freeCore s.hart.stable with
    | none => rfl
    | some id => exact if_pos ((h j hj).resolve_left (by simp [hc]))

theorem effVfork_splits {j : Job} {id : Nat} (hv : s.hart.vlmaxTo = none) (ht : badTarget e.opa = none) (hj : s.job = some j)
    (hc : s.freeCore s.hart.stable = some id) (hs : ¬ s.cannotSplit j = true) (hid : s.hart.id ≠ id) :
    effVfork e s = .done (((s.forked j id e.opa e.fd).retarget s.hart.stable).moveBanks s.hart.stable (s.banksUsed s.hart.stable)) := by
  have hput (h : Hart) (hn : h.id = id) : ({ s with clock := s.clock + 1 } : State).putHart h =
      { s with clock := s.clock + 1, others := putBy (fun g : Hart => g.id == id) h s.others } := by
    subst hn
    exact if_neg hid
  unfold effVfork
  rw [State.onHart_fixed (s := s) (by rw [hv])]
  dsimp only
  rw [ht, hj, hc]
  dsimp only
  rw [hput _ (forkChild_id ..)]
  exact if_neg hs

end

section
variable {s : State} (e : QEntry) (pc : Word)

theorem State.cannotSplit_holding (j : Job) : (s.onHart (Hart.holding e pc)).cannotSplit j = s.cannotSplit j := by
  have hfit := s.banksFit_holding e pc s.hart.stable (extraBanks (bits s.hart.csr.vcfg 35 2))
  have hsum := s.minSum_holding e pc s.hart.stable
  rw [Bool.eq_iff_iff, State.cannotSplit_iff, State.cannotSplit_iff]
  show _ ∨ _ ∨ (s.onHart (Hart.holding e pc)).banksFit s.hart.stable (extraBanks (bits s.hart.csr.vcfg 35 2)) = false ∨
    (_ ∧ _ < (s.onHart (Hart.holding e pc)).minSum s.hart.stable - _ + _ + 1) ↔ _
  rw [hfit, hsum]
  rfl

theorem State.forked_holding (j : Job) (id : Nat) (a : Word) (d : Reg) :
    (s.onHart (Hart.holding e pc)).forked j id a d = (s.forked j id a d).onHart (Hart.holding e pc) := by
  have hparted (v : Word) : ((s.hart.holding e pc).parted j.freeMember (s.clock + 1)).setX d v =
      ((s.hart.parted j.freeMember (s.clock + 1)).setX d v).holding e pc := Hart.setX_holding e pc (s.hart.parted ..) d v
  exact congrArg (fun h => { s.forked j id a d with hart := h }) (hparted _)

end

/-- Of `status` a child takes the mode and the interrupt enable of its parent (R143). -/
theorem forkChild_status (p : Hart) (id member : Nat) (pc : Word) (d : Reg) (k age : Nat) :
    (forkChild p id member pc d k age).mode = p.mode ∧ (forkChild p id member pc d k age).ie = p.ie := by
  have hmode : bits p.csr.status 0 2 % 2 ^ 2 = bits p.csr.status 0 2 := Nat.mod_eq_of_lt (BitVec.isLt _)
  have hie : (bit p.csr.status 4).toNat.testBit 0 = bit p.csr.status 4 := by cases bit p.csr.status 4 <;> rfl
  rw [forkChild]
  constructor
  · rw [Hart.mode, Hart.setX_csr, bits_setBits_apart _ _ (by decide) (by decide), bits_setBits_apart _ _ (by decide) (by decide),
      bits_setBits_same _ _ (by decide)]
    exact hmode
  · rw [Hart.ie, Hart.setX_csr, bit, getLsbD_setBits _ _ _ _ (by decide), getLsbD_setBits _ _ _ _ (by decide), getLsbD_setBits _ _ _ _ (by decide), setBit,
      getLsbD_setBits _ _ _ _ (by decide)]
    exact hie

/-- A hart whose target the arbiter has set. -/
def Hart.aimed (h : Hart) (n : Nat) : Hart := { h with csr := { h.csr with target := n } }

section
variable {s : State}

theorem State.retarget_aimed (s : State) (t : Nat) : s.retarget t = s.mapHarts (fun h => h.aimed (s.targetOn t h)) := s.retarget_eq t

theorem State.findHart_retarget (s : State) (t id : Nat) :
    (s.retarget t).findHart id = (s.findHart id).map (fun h => h.aimed (s.targetOn t h)) := by
  rw [State.retarget_aimed]
  unfold State.findHart
  rw [apply_ite (Option.map _)]
  exact congrArg (fun o => if s.hart.id = id then some (s.hart.aimed (s.targetOn t s.hart)) else o)
    (findBy_map (f := fun h => h.aimed (s.targetOn t h)) (fun _ => rfl) s.others)

theorem State.findHart_moveBanks (s : State) (t before id : Nat) : (s.moveBanks t before).findHart id = s.findHart id := by
  rw [(s.moveBanks_frame t before).frame]
  rfl

/-- Another hart is found as before when the one in focus is replaced. -/
theorem State.findHart_focus_apart {h : Hart} {id : Nat} (hh : h.id ≠ id) (hs : s.hart.id ≠ id) :
    ({ s with hart := h } : State).findHart id = s.findHart id := by
  rw [State.findHart, State.findHart, if_neg hh, if_neg hs]

/-- A split after the arbiter has dealt anew and the banks that the child takes have moved (R55, R64). -/
def State.split (s : State) (j : Job) (id : Nat) (pc : Word) (d : Reg) : State :=
  ((s.forked j id pc d).retarget s.hart.stable).moveBanks s.hart.stable (s.banksUsed s.hart.stable)

theorem State.split_hart (s : State) (j : Job) (id : Nat) (pc : Word) (d : Reg) : ∃ n, (s.split j id pc d).hart =
    ((s.hart.parted j.freeMember (s.clock + 1)).setX d (BitVec.ofNat 64 j.freeMember)).aimed n := by
  rw [State.split, State.moveBanks_hart, State.retarget_aimed]
  exact ⟨_, rfl⟩

theorem State.split_child {j : Job} {id : Nat} (hid : s.hart.id ≠ id) (pc : Word) (d : Reg) : ∃ n, (s.split j id pc d).findHart id =
    some ((forkChild s.hart id j.freeMember pc d (s.hart.csr.grant / 2) (s.clock + 1)).aimed n) := by
  have hfocus : (s.forked j id pc d).hart.id ≠ id := (Hart.setX_id (s.hart.parted ..) d _).trans_ne hid
  have hforked : (s.forked j id pc d).findHart id = some (forkChild s.hart id j.freeMember pc d (s.hart.csr.grant / 2) (s.clock + 1)) := by
    rw [State.findHart, if_neg hfocus]
    exact findBy_putBy_same _ _ _ (by simp [forkChild_id])
  rw [State.split, State.findHart_moveBanks, State.findHart_retarget, hforked]
  exact ⟨_, rfl⟩

theorem State.split_mem (hu : s.ulines = []) (j : Job) (id : Nat) (pc : Word) (d : Reg) : (s.split j id pc d).mem = s.mem := by
  rw [State.split, State.retarget_aimed]
  exact State.moveBanks_mem (s := (s.forked j id pc d).mapHarts _) hu ..

/-- The entry does not matter to a split. -/
theorem State.split_holding {id : Nat} (e : QEntry) (p : Word) (hrun : s.hart.run = .running) (j : Job) (pc : Word) (d : Reg) :
    (s.onHart (Hart.holding e p)).split j id pc d = (s.split j id pc d).onHart (Hart.holding e p) := by
  have hrun' : (s.forked j id pc d).hart.run = .running := (Hart.setX_run ..).trans hrun
  have hstable : (s.onHart (Hart.holding e p)).hart.stable = s.hart.stable := rfl
  rw [State.split, hstable, State.forked_holding, State.retarget_holding e p hrun', State.banksUsed_holding,
    State.moveBanks_onHart _ (State.banksUsed_holding ..), State.split]

theorem exec_vfork_fails (o : OpDA) (h : VReady s .vfork (wordVfork o)) (ht : badTarget (s.hart.getX o.a) = none)
    (hf : ∀ j, s.job = some j → s.freeCore s.hart.stable = none ∨ s.cannotSplit j = true) :
    exec (.vfork o) s = .next { s with hart := (s.hart.setX o.d (BitVec.allOnes 64)).vectorPassed (s.hart.pc + 4#64) } := by
  obtain ⟨e, ha, hd, hr, hexec⟩ := State.issue_da (F := fun e t => t.vctlStep e (effVfork e t)) (.inl rfl) h rfl
    (fun e t hr hf => by rw [State.headWork, hf, hr]; rfl)
  have heff (pc : Word) : effVfork e (s.onHart (Hart.holding e pc)) =
      .done ((s.onHart (fun h => h.setX o.d (BitVec.allOnes 64))).onHart (Hart.holding e pc)) := by
    rw [effVfork_fails (s := s.onHart (Hart.holding e pc)) h.steady (ha ▸ ht)
      (fun j hj => by rw [State.cannotSplit_holding]; exact (hf j hj).imp_left (s.freeCore_holding e pc s.hart.stable).trans), hd]
    exact congrArg (fun h => Eff.done { s with hart := h }) (Hart.setX_holding ..)
  rw [show exec (.vfork o) s = s.issue .vfork (wordVfork o) from rfl, hexec, heff]
  exact congrArg Host.Outcome.next (State.headDone_holding _ ((Hart.setX_queue ..).trans h.empty) hr ((Hart.setX_vlmaxTo ..).trans h.steady))

theorem exec_vfork_splits (o : OpDA) {j : Job} {id : Nat} (hrun : s.hart.run = .running) (h : VReady s .vfork (wordVfork o))
    (ht : badTarget (s.hart.getX o.a) = none) (hj : s.job = some j) (hc : s.freeCore s.hart.stable = some id) (hs : ¬ s.cannotSplit j = true) :
    let t := s.split j id (s.hart.getX o.a) o.d
    exec (.vfork o) s = .next { t with hart := t.hart.vectorPassed (s.hart.pc + 4#64) } := by
  intro t
  obtain ⟨e, ha, hd, hr, hexec⟩ := State.issue_da (F := fun e t => t.vctlStep e (effVfork e t)) (.inl rfl) h rfl
    (fun e t hr hf => by rw [State.headWork, hf, hr]; rfl)
  have hid : s.hart.id ≠ id := State.freeCore_apart hrun hc
  have heff (pc : Word) : effVfork e (s.onHart (Hart.holding e pc)) = .done (t.onHart (Hart.holding e pc)) := by
    rw [effVfork_splits (s := s.onHart (Hart.holding e pc)) h.steady (ha ▸ ht) hj ((s.freeCore_holding e pc s.hart.stable).trans hc)
      (by rw [State.cannotSplit_holding]; exact hs) hid, ha, hd]
    exact congrArg Eff.done (State.split_holding e pc hrun ..)
  have hkeeps : t.hart.queue = [] ∧ t.hart.vlmaxTo = none := by
    obtain ⟨n, hn⟩ := s.split_hart j id (s.hart.getX o.a) o.d
    rw [show t.hart = _ from hn]
    exact ⟨(Hart.setX_queue ..).trans h.empty, (Hart.setX_vlmaxTo ..).trans h.steady⟩
  rw [show exec (.vfork o) s = s.issue .vfork (wordVfork o) from rfl, hexec, heff]
  exact congrArg Host.Outcome.next (State.headDone_holding _ hkeeps.1 hr hkeeps.2)

end

/-- What a child starts with (R143): its registers are zeros but for `x`, its control registers the parent's or as after reset. -/
theorem forkChild_fields (p : Hart) (id member : Nat) (pc : Word) (d : Reg) (k age n : Nat) : let c := (forkChild p id member pc d k age).aimed n
    c.run = .running ∧ c.pc = pc ∧ c.x = (p.setX d 0#64).x ∧ c.v = Vector.replicate 32 0#65536 ∧ c.z = Vector.replicate 2 0#524288 ∧
    (∀ r, r ≠ 0#3 → c.getK r = 0#8192) ∧ c.csr.vcfg = p.csr.vcfg ∧ c.csr.fen = p.csr.fen ∧ c.csr.rkey = p.csr.rkey ∧
    c.csr.bypth = p.csr.bypth ∧ c.mode = p.mode ∧ c.ie = p.ie ∧ c.csr.vstart = 0#64 ∧ c.csr.vsc = 0#64 ∧ c.csr.vdirty = 0#64 ∧
    c.csr.fflags = 0#64 ∧ c.job = p.job ∧ c.csr.member = member ∧ c.csr.grant = k ∧ c.csr.leaseMin = 1 := by
  intro c
  obtain ⟨hmode, hie⟩ := forkChild_status p id member pc d k age
  have hk : ∀ r : KReg, r ≠ 0#3 → c.getK r = 0#8192 := by
    intro r hr
    have hne : (0 : Nat) ≠ r.toNat := fun h => hr (BitVec.eq_of_toNat_eq h.symm)
    simp [c, Hart.getK, Hart.aimed, forkChild, Hart.reset, hr, Vector.getElem_set_ne, hne]
  have hcsr : c.csr = _ := congrArg (fun r : Csrs => { r with target := n }) (Hart.setX_csr ..)
  refine ⟨Hart.setX_run .., Hart.setX_pc .., ?_, Hart.setX_v .., Hart.setX_z .., hk, ?_⟩
  · simp [c, Hart.aimed, forkChild]
  · rw [hcsr]
    exact ⟨rfl, rfl, rfl, rfl, hmode, hie, rfl, rfl, rfl, rfl, Hart.setX_job .., rfl, rfl, rfl⟩

/-- What the parent keeps (R61, R143), once it has passed its `VFORK`. -/
theorem Hart.parted_fields (h : Hart) (num age n : Nat) (d : Reg) (pc : Word) : let k := h.csr.grant / 2; let m2 := max 1 (h.csr.leaseMin - k)
    let p := (((h.parted num age).setX d (BitVec.ofNat 64 num)).aimed n).vectorPassed pc
    p.x = (h.setX d (BitVec.ofNat 64 num)).x ∧ p.csr.grant = h.csr.grant - k ∧ p.csr.leaseMin = m2 ∧
      p.csr.leasePref = max m2 (h.csr.leasePref - k) ∧ p.pc = pc ∧ p.csr.instret = h.csr.instret + 1#64 ∧ p.v = h.v ∧ p.k = h.k ∧ p.z = h.z := by
  have hx : ((h.parted num age).setX d (BitVec.ofNat 64 num)).x = (h.setX d (BitVec.ofNat 64 num)).x :=
    (Hart.setX_x (h.parted num age) ..).trans (Hart.setX_x h ..).symm
  intro k m2 p
  have hcsr : p.csr = { (h.parted num age).csr with target := n, instret := h.csr.instret + 1#64, vstart := 0#64 } := by
    simp only [p, Hart.vectorPassed, Hart.passed, Hart.aimed, Hart.setX_csr]
    rfl
  rw [hcsr]
  exact ⟨hx, rfl, rfl, rfl, rfl, rfl, Hart.setX_v .., Hart.setX_k .., Hart.setX_z ..⟩

section
variable {s : State}

theorem exec_vfork_results (o : OpDA) (hrun : s.hart.run = .running) (h : VReady s .vfork (wordVfork o))
    (ht : badTarget (s.hart.getX o.a) = none) : let g := s.hart.csr.grant; let m := s.hart.csr.leaseMin; let m2 := max 1 (m - g / 2)
    ∀ j id, s.job = some j → s.freeCore s.hart.stable = some id → ¬ s.cannotSplit j = true →
      ∃ t c, exec (.vfork o) s = .next t ∧ t.findHart id = some c ∧ c.run = .running ∧ c.pc = s.hart.getX o.a ∧ c.x = (s.hart.setX o.d 0#64).x ∧
        c.v = Vector.replicate 32 0#65536 ∧ c.z = Vector.replicate 2 0#524288 ∧ (∀ r, r ≠ 0#3 → c.getK r = 0#8192) ∧ c.csr.vcfg = s.hart.csr.vcfg ∧
        c.csr.fen = s.hart.csr.fen ∧ c.csr.rkey = s.hart.csr.rkey ∧ c.csr.bypth = s.hart.csr.bypth ∧ c.mode = s.hart.mode ∧ c.ie = s.hart.ie ∧
        c.csr.vstart = 0#64 ∧ c.csr.vsc = 0#64 ∧ c.csr.vdirty = 0#64 ∧ c.csr.fflags = 0#64 ∧ c.job = s.hart.job ∧
        c.csr.member = j.freeMember ∧ c.csr.grant = g / 2 ∧ c.csr.leaseMin = 1 ∧
        t.hart.x = (s.hart.setX o.d (BitVec.ofNat 64 j.freeMember)).x ∧ t.hart.csr.grant = g - g / 2 ∧ t.hart.csr.leaseMin = m2 ∧
        t.hart.csr.leasePref = max m2 (s.hart.csr.leasePref - g / 2) ∧ t.hart.pc = s.hart.pc + 4#64 ∧ t.hart.csr.instret = s.hart.csr.instret + 1#64 ∧
        t.hart.v = s.hart.v ∧ t.hart.k = s.hart.k ∧ t.hart.z = s.hart.z ∧ (s.ulines = [] → t.mem = s.mem) := by
  intro g m m2 j id hj hc hs
  have hid : s.hart.id ≠ id := State.freeCore_apart hrun hc
  obtain ⟨n, hparent⟩ := s.split_hart j id (s.hart.getX o.a) o.d
  obtain ⟨n', hchild⟩ := State.split_child hid (s.hart.getX o.a) o.d
  have hfocus : (s.split j id (s.hart.getX o.a) o.d).hart.id ≠ id := by
    rw [hparent]
    exact (Hart.setX_id (s.hart.parted ..) o.d _).trans_ne hid
  have hfound := State.findHart_focus_apart (s := s.split j id (s.hart.getX o.a) o.d)
    (h := (s.split j id (s.hart.getX o.a) o.d).hart.vectorPassed (s.hart.pc + 4#64)) hfocus hfocus
  have hstart := forkChild_fields s.hart id j.freeMember (s.hart.getX o.a) o.d (g / 2) (s.clock + 1) n'
  have hkept := s.hart.parted_fields j.freeMember (s.clock + 1) n o.d (s.hart.pc + 4#64)
  rw [← hparent] at hkept
  have hmem (hu : s.ulines = []) := s.split_mem hu j id (s.hart.getX o.a) o.d
  refine ⟨_, _, exec_vfork_splits o hrun h ht hj hc hs, hfound.trans hchild, ?_⟩
  simpa only [and_assoc] using And.intro hstart (And.intro hkept hmem)

end

/-! ## `VJOIN` (R62, R144) -/

/-- The parent of a fork that has taken its child back: the child's clusters, its flags and what of the request goes back to the parent. -/
def Hart.regained (h : Hart) (f : Fork) (c : Hart) (n sum age : Nat) : Hart :=
  let m2 := h.csr.leaseMin + min f.d (n - (sum - c.csr.leaseMin))
  { h with
    age := age
    forks := dropBy (fun g : Fork => g.member == f.member) h.forks
    csr := { h.csr with
      leaseMin := m2, leasePref := min n (max m2 (h.csr.leasePref + f.k)), grant := h.csr.grant + c.csr.grant
      fflags := h.csr.fflags ||| c.csr.fflags } }

/-- A job that the member of a fork has left. -/
def Job.rejoined (j : Job) (f : Fork) : Job := ({ j with members := dropBy (fun q : Member => q.n == f.member) j.members }).leave f.member

/-- The child of a fork taken back by the hart in focus: its core is free again. -/
def State.joined (s : State) (j : Job) (f : Fork) (c : Hart) (d : Reg) : State :=
  { s with
    clock := s.clock + 1
    hart := (s.hart.regained f c (s.stableAt s.hart.stable).live (s.minSum s.hart.stable) (s.clock + 1)).setX d 0#64
    others := putBy (fun g : Hart => g.id == c.id) (Hart.reset c.id) s.others
    jobs := putBy (fun q : Job => q.gang == (j.rejoined f).gang) (j.rejoined f) s.jobs }

section
variable {s : State} {e : QEntry}

theorem effVjoin_none (h : findBy (fun f : Fork => f.member == e.opa.toNat) s.hart.forks = none) :
    effVjoin e s = .done (s.onHart (fun h => h.setX e.fd (BitVec.allOnes 64))) := by
  unfold effVjoin
  dsimp only
  rw [h]

theorem effVjoin_idle {f : Fork} {j : Job} {m : Member} {c : Hart} (hf : findBy (fun f : Fork => f.member == e.opa.toNat) s.hart.forks = some f)
    (hj : s.job = some j) (hm : findBy (fun m : Member => m.n == f.member) j.members = some m) (hc : s.findHart m.hart = some c)
    (hi : c.idle = true) (hid : s.hart.id ≠ c.id) : effVjoin e s = .done ((s.joined j f c e.fd).retarget s.hart.stable) := by
  have hput : ({ s with clock := s.clock + 1 } : State).putHart (Hart.reset c.id) =
      { s with clock := s.clock + 1, others := putBy (fun g : Hart => g.id == c.id) (Hart.reset c.id) s.others } := if_neg hid
  unfold effVjoin
  dsimp only
  rw [hf, hj]
  dsimp only
  rw [hm]
  dsimp only
  rw [hc, Option.getD_some, if_pos hi, hput]
  rfl

/-- A child that is idle is not the hart that runs. -/
theorem State.idle_apart {id : Nat} {c : Hart} (hrun : s.hart.run = .running) (hc : s.findHart id = some c) (hi : c.idle = true) : s.hart.id ≠ id := by
  rintro rfl
  rw [State.findHart_focus] at hc
  cases hc
  simp [Hart.idle, hrun] at hi

/-- The entry does not matter to a join. -/
theorem State.joined_holding (e : QEntry) (pc : Word) (j : Job) (f : Fork) (c : Hart) (d : Reg) :
    (s.onHart (Hart.holding e pc)).joined j f c d = (s.joined j f c d).onHart (Hart.holding e pc) := by
  have hsum := s.minSum_holding e pc s.hart.stable
  have hhart : ((s.hart.holding e pc).regained f c (s.stableAt s.hart.stable).live ((s.onHart (Hart.holding e pc)).minSum s.hart.stable)
      (s.clock + 1)).setX d 0#64 = (s.joined j f c d).hart.holding e pc := by
    rw [hsum]
    exact Hart.setX_holding e pc (s.hart.regained ..) d _
  exact congrArg (fun h => { s.joined j f c d with hart := h }) hhart

theorem exec_vjoin_none (o : OpDA) (h : VReady s .vjoin (wordVjoin o))
    (hf : findBy (fun f : Fork => f.member == (s.hart.getX o.a).toNat) s.hart.forks = none) :
    exec (.vjoin o) s = .next (State.boundary { s with hart := (s.hart.setX o.d (BitVec.allOnes 64)).vectorPassed (s.hart.pc + 4#64) } s.hart.id) := by
  obtain ⟨e, ha, hd, hr, hexec⟩ := State.issue_da (F := fun e t => (t.vctlStep e (effVjoin e t)).boundary t.hart.id) (.inr rfl) h rfl
    (fun e t hr hf => by rw [State.headWork, hf, hr]; rfl)
  have heff (pc : Word) : effVjoin e (s.onHart (Hart.holding e pc)) =
      .done ((s.onHart (fun h => h.setX o.d (BitVec.allOnes 64))).onHart (Hart.holding e pc)) := by
    rw [effVjoin_none (s := s.onHart (Hart.holding e pc)) (ha ▸ hf), hd]
    exact congrArg (fun h => Eff.done { s with hart := h }) (Hart.setX_holding ..)
  rw [show exec (.vjoin o) s = s.issue .vjoin (wordVjoin o) from rfl, hexec, heff]
  exact congrArg (fun t : State => Host.Outcome.next (t.boundary s.hart.id))
    (State.headDone_holding _ ((Hart.setX_queue ..).trans h.empty) hr ((Hart.setX_vlmaxTo ..).trans h.steady))

theorem exec_vjoin_idle (o : OpDA) {f : Fork} {j : Job} {m : Member} {c : Hart} (hrun : s.hart.run = .running) (h : VReady s .vjoin (wordVjoin o))
    (hf : findBy (fun f : Fork => f.member == (s.hart.getX o.a).toNat) s.hart.forks = some f) (hj : s.job = some j)
    (hm : findBy (fun m : Member => m.n == f.member) j.members = some m) (hc : s.findHart m.hart = some c) (hi : c.idle = true) :
    let t := (s.joined j f c o.d).retarget s.hart.stable
    exec (.vjoin o) s = .next (State.boundary { t with hart := t.hart.vectorPassed (s.hart.pc + 4#64) } s.hart.id) := by
  intro t
  obtain ⟨e, ha, hd, hr, hexec⟩ := State.issue_da (F := fun e t => (t.vctlStep e (effVjoin e t)).boundary t.hart.id) (.inr rfl) h rfl
    (fun e t hr hf => by rw [State.headWork, hf, hr]; rfl)
  have hid : s.hart.id ≠ m.hart := State.idle_apart hrun hc hi
  have hrun' : (s.joined j f c o.d).hart.run = .running := (Hart.setX_run ..).trans hrun
  have heff (pc : Word) : effVjoin e (s.onHart (Hart.holding e pc)) = .done (t.onHart (Hart.holding e pc)) := by
    have hc' : (s.onHart (Hart.holding e pc)).findHart m.hart = some c := (State.findHart_focus_apart (h := s.hart.holding e pc) hid hid).trans hc
    rw [effVjoin_idle (s := s.onHart (Hart.holding e pc)) (ha ▸ hf) hj hm hc' hi ((State.findHart_id hc).symm ▸ hid), hd, State.joined_holding]
    exact congrArg Eff.done (State.retarget_holding e pc hrun' _)
  have hkeeps : t.hart.queue = [] ∧ t.hart.vlmaxTo = none := by
    rw [show t = _ from State.retarget_aimed ..]
    exact ⟨(Hart.setX_queue ..).trans h.empty, (Hart.setX_vlmaxTo ..).trans h.steady⟩
  rw [show exec (.vjoin o) s = s.issue .vjoin (wordVjoin o) from rfl, hexec, heff]
  exact congrArg (fun t : State => Host.Outcome.next (t.boundary s.hart.id)) (State.headDone_holding _ hkeeps.1 hr hkeeps.2)

end

/-- What the parent has back (R62, R144), once it has passed its `VJOIN`. -/
theorem Hart.regained_fields (h : Hart) (f : Fork) (c : Hart) (n sum age g : Nat) (d : Reg) (pc : Word) :
    let m2 := h.csr.leaseMin + min f.d (n - (sum - c.csr.leaseMin))
    let p := (((h.regained f c n sum age).setX d 0#64).aimed g).vectorPassed pc
    p.x = (h.setX d 0#64).x ∧ p.csr.fflags = h.csr.fflags ||| c.csr.fflags ∧ p.csr.leaseMin = m2 ∧
      p.csr.leasePref = min n (max m2 (h.csr.leasePref + f.k)) ∧ p.forks = dropBy (fun g : Fork => g.member == f.member) h.forks ∧
      p.pc = pc ∧ p.csr.instret = h.csr.instret + 1#64 ∧ p.v = h.v ∧ p.k = h.k ∧ p.z = h.z := by
  have hx : ((h.regained f c n sum age).setX d 0#64).x = (h.setX d 0#64).x :=
    (Hart.setX_x (h.regained f c n sum age) ..).trans (Hart.setX_x h ..).symm
  intro m2 p
  have hcsr : p.csr = { (h.regained f c n sum age).csr with target := g, instret := h.csr.instret + 1#64, vstart := 0#64 } := by
    simp only [p, Hart.vectorPassed, Hart.passed, Hart.aimed, Hart.setX_csr]
    rfl
  rw [hcsr]
  exact ⟨hx, rfl, rfl, rfl, Hart.setX_forks .., rfl, rfl, Hart.setX_v .., Hart.setX_k .., Hart.setX_z ..⟩

/-- Settles O49, instruction by instruction: each does its work as the only entry of the queue, and that entry does not matter to it, so
its effect commutes with holding the entry, and the hart is left as one that has passed the instruction. -/
theorem laneManagementResults : Obligations.LaneManagementResults := by
  intro s hrun
  refine ⟨exec_vsetl_results, fun o => exec_vlease_results o hrun, exec_vcommit_results, fun o h ht => ⟨fun hf => ?_, ?_⟩,
    fun o h => ⟨exec_vjoin_none o h, fun f j m c hf hj hm hc hi => ?_⟩⟩
  · exact exec_vfork_fails o h ht fun j hj => (hf j hj).imp_right State.cannotSplit_iff.mpr
  · intro j id hj hc hg hmembers hfit hmin
    refine exec_vfork_results o hrun h ht j id hj hc fun hs => ?_
    rcases State.cannotSplit_iff.mp hs with hs | hs | hs | hs
    · exact absurd hg (Nat.not_le.mpr hs)
    · exact absurd hmembers (Nat.not_lt.mpr hs)
    · rw [hfit] at hs; cases hs
    · exact hmin.elim (Nat.not_le.mpr hs.1) (Nat.not_le.mpr hs.2)
  · have hexec := exec_vjoin_idle o hrun h hf hj hm hc hi
    rw [State.retarget_aimed] at hexec
    obtain ⟨hx, hflags, hm2, hpref, hforks, hpc, hret, hv, hk, hz⟩ := s.hart.regained_fields f c
      (s.stableAt s.hart.stable).live (s.minSum s.hart.stable) (s.clock + 1)
      ((s.joined j f c o.d).targetOn s.hart.stable (s.joined j f c o.d).hart) o.d (s.hart.pc + 4#64)
    exact ⟨_, hexec, hx, hflags, hm2, hpref, hforks, hpc, hret, hv, hk, hz, rfl⟩

end Sys2Proof.Machine
end

section
/-!
# The encoder and the decoder agree (O58; R66 to R75)

A word is decoded by its length, its opcode and the fields of its sub-operation. Each layout's fields are apart (`pack_fields`), an opcode
leads to the decoder of its operations (`decode32_*`), and there the operands do not matter (`decodeOp*_pack`).
-/

namespace Sys2Proof
open Machine
open BitVec renaming extractLsb'_append_eq_of_add_le → slice_low, extractLsb'_append_eq_of_le → slice_high,
  extractLsb'_eq_self → slice_self
open BitVec (extractLsb'_setWidth_of_le extractLsb'_extractLsb'_of_le)
open Bool (eq_false_of_not_eq_true')

/-! ## Words of 32, 16 and 64 bits -/

/-- An instruction is decoded from its own word, which gives its length. -/
structure Decodes (i : Instr) : Prop where
  decode : decode (encode i) = .ok i
  len : lenOf (encode i) = i.len

/-- Whether a word is of 32 bits, and how long it is, is in its low two bits (R66). -/
theorem decode_word32 {w : BitVec 32} {r : Row} (hlow : fld w 0 2 = 1#2 ∨ fld w 0 2 = 2#2) (h : decode32 w = .ok r) :
    decode (w.setWidth 64) = .ok (r.instr (w.setWidth 64)) ∧ lenOf (w.setWidth 64) = 4 := by
  have h2 : (w.setWidth 64).extractLsb' 0 2 = fld w 0 2 := extractLsb'_setWidth_of_le (by decide)
  have h32 : (w.setWidth 64).extractLsb' 0 32 = w := (extractLsb'_setWidth_of_le (by decide)).trans slice_self
  have hrow : decodeRow (w.setWidth 64) = decode32 w := by
    rw [decodeRow, h2, h32]
    rcases hlow with hlow | hlow <;> rw [hlow] <;> rfl
  refine ⟨by rw [decode, hrow, h], ?_⟩
  rw [lenOf, lengthOf, extractLsb'_extractLsb'_of_le (by decide), h2]
  rcases hlow with hlow | hlow <;> rw [hlow] <;> rfl

theorem decode_word16 {w : BitVec 16} {r : Row} (hlow : w.extractLsb' 0 2 = 0#2) (h : decode16 w = .ok r) :
    decode (w.setWidth 64) = .ok (r.instr (w.setWidth 64)) ∧ lenOf (w.setWidth 64) = 2 := by
  have h2 : (w.setWidth 64).extractLsb' 0 2 = 0#2 := (extractLsb'_setWidth_of_le (by decide)).trans hlow
  have h16 : (w.setWidth 64).extractLsb' 0 16 = w := (extractLsb'_setWidth_of_le (by decide)).trans slice_self
  have hrow : decodeRow (w.setWidth 64) = decode16 w := by
    rw [decodeRow, h2, h16]
    rfl
  refine ⟨by rw [decode, hrow, h], ?_⟩
  rw [lenOf, lengthOf, h16, hlow]
  rfl

theorem decode_word64 {w : BitVec 64} {r : Row} (hlow : w.extractLsb' 0 2 = 3#2) (h : decode64 w = .ok r) :
    decode w = .ok (r.instr w) ∧ lenOf w = 8 := by
  have hrow : decodeRow w = decode64 w := by
    rw [decodeRow, hlow]
    rfl
  refine ⟨by rw [decode, hrow, h], ?_⟩
  rw [lenOf, lengthOf, extractLsb'_extractLsb'_of_le (by decide), hlow]
  rfl

section
variable {α : Type} {mk : α → Instr} {o : α} {r : Row}

/-- An instruction of 32 bits decodes where its fields are read back from its word and the decoder finds its row there. -/
theorem Decodes.of32 {get : BitVec 32 → α} {w : BitVec 32} {c : BitVec 8} {e : DecodedRow} (hw : encode (mk o) = w.setWidth 64)
    (hfields : get w = o ∧ fld w 0 8 = c) (hop : fld w 0 8 = c → decode32 w = e) (hrow : e = .ok r)
    (hi : ∀ v, r.instr v = mk (get (v.extractLsb' 0 32)) := by exact fun _ => rfl)
    (hlow : c.extractLsb' 0 2 = 1#2 ∨ c.extractLsb' 0 2 = 2#2 := by decide) (hl : (mk o).len = 4 := by rfl) : Decodes (mk o) := by
  obtain ⟨hget, hc⟩ := hfields
  have h32 : (w.setWidth 64).extractLsb' 0 32 = w := (extractLsb'_setWidth_of_le (by decide)).trans slice_self
  have hlow' : fld w 0 2 = c.extractLsb' 0 2 := by rw [← hc, extractLsb'_extractLsb'_of_le (by decide)]
  obtain ⟨hdec, hlen⟩ := decode_word32 (hlow' ▸ hlow) ((hop hc).trans hrow)
  exact ⟨by rw [hw, hdec, hi, h32, hget], by rw [hw, hl, hlen]⟩

/-- An instruction of 16 bits likewise. -/
theorem Decodes.of16 {get : BitVec 16 → α} {w : BitVec 16} {c : BitVec 6} (hw : encode (mk o) = w.setWidth 64)
    (hfields : get w = o ∧ w.extractLsb' 0 6 = c) (hrow : decode16 w = .ok r)
    (hi : ∀ v, r.instr v = mk (get (v.extractLsb' 0 16)) := by exact fun _ => rfl)
    (hlow : c.extractLsb' 0 2 = 0#2 := by decide) (hl : (mk o).len = 2 := by rfl) : Decodes (mk o) := by
  obtain ⟨hget, hop⟩ := hfields
  have h16 : (w.setWidth 64).extractLsb' 0 16 = w := (extractLsb'_setWidth_of_le (by decide)).trans slice_self
  have hlow' : w.extractLsb' 0 2 = c.extractLsb' 0 2 := by rw [← hop, extractLsb'_extractLsb'_of_le (by decide)]
  obtain ⟨hdec, hlen⟩ := decode_word16 (hlow'.trans hlow) hrow
  exact ⟨by rw [hw, hdec, hi, h16, hget], by rw [hw, hl, hlen]⟩

/-- A tile form likewise. -/
theorem Decodes.of64 {get : BitVec 64 → α} {w : BitVec 64} (hw : encode (mk o) = w)
    (hfields : get w = o ∧ w.extractLsb' 0 2 = 3#2) (hrow : decode64 w = .ok r)
    (hi : ∀ v, r.instr v = mk (get v) := by exact fun _ => rfl) (hl : (mk o).len = 8 := by rfl) : Decodes (mk o) := by
  obtain ⟨hget, hlow⟩ := hfields
  obtain ⟨hdec, hlen⟩ := decode_word64 hlow hrow
  exact ⟨by rw [hw, hdec, hi, hget], by rw [hw, hl, hlen]⟩

end

/-! ## The layouts of 32 bits keep their fields apart, and their opcode is in the low byte (R69) -/

theorem OpDAB.pack_fields (o : OpDAB) (g0 : BitVec 8) (g1 : BitVec 9) :
    OpDAB.get (o.pack g0 g1) = o ∧ fld (o.pack g0 g1) 0 8 = g0 := by
  simp (disch := decide) only [OpDAB.get, OpDAB.pack, slice_low, slice_high, slice_self, Nat.reduceSub, and_self]

theorem OpDABFR.pack_fields (o : OpDABFR) (g0 : BitVec 8) (g1 : BitVec 5) :
    OpDABFR.get (o.pack g0 g1) = o ∧ fld (o.pack g0 g1) 0 8 = g0 := by
  simp (disch := decide) only [OpDABFR.get, OpDABFR.pack, slice_low, slice_high, slice_self, Nat.reduceSub, and_self]

theorem OpDAFR.pack_fields (o : OpDAFR) (g0 : BitVec 8) (g1 : BitVec 10) :
    OpDAFR.get (o.pack g0 g1) = o ∧ fld (o.pack g0 g1) 0 8 = g0 := by
  simp (disch := decide) only [OpDAFR.get, OpDAFR.pack, slice_low, slice_high, slice_self, Nat.reduceSub, and_self]

theorem OpDABF.pack_fields (o : OpDABF) (g0 : BitVec 8) (g1 : BitVec 5) (g2 : BitVec 3) :
    OpDABF.get (o.pack g0 g1 g2) = o ∧ fld (o.pack g0 g1 g2) 0 8 = g0 := by
  simp (disch := decide) only [OpDABF.get, OpDABF.pack, slice_low, slice_high, slice_self, Nat.reduceSub, and_self]

theorem OpDAF.pack_fields (o : OpDAF) (g0 : BitVec 8) (g1 : BitVec 10) (g2 : BitVec 3) :
    OpDAF.get (o.pack g0 g1 g2) = o ∧ fld (o.pack g0 g1 g2) 0 8 = g0 := by
  simp (disch := decide) only [OpDAF.get, OpDAF.pack, slice_low, slice_high, slice_self, Nat.reduceSub, and_self]

theorem OpDABEF.pack_fields (o : OpDABEF) (g0 : BitVec 8) (g1 : BitVec 2) (g2 : BitVec 1) :
    OpDABEF.get (o.pack g0 g1 g2) = o ∧ fld (o.pack g0 g1 g2) 0 8 = g0 := by
  simp (disch := decide) only [OpDABEF.get, OpDABEF.pack, slice_low, slice_high, slice_self, Nat.reduceSub, and_self]

theorem OpDAI.pack_fields (o : OpDAI) (g0 : BitVec 8) : OpDAI.get (o.pack g0) = o ∧ fld (o.pack g0) 0 8 = g0 := by
  simp (disch := decide) only [OpDAI.get, OpDAI.pack, slice_low, slice_high, slice_self, Nat.reduceSub, and_self]

theorem OpDAS.pack_fields (o : OpDAS) (g0 : BitVec 8) (g1 : BitVec 8) :
    OpDAS.get (o.pack g0 g1) = o ∧ fld (o.pack g0 g1) 0 8 = g0 := by
  simp (disch := decide) only [OpDAS.get, OpDAS.pack, slice_low, slice_high, slice_self, Nat.reduceSub, and_self]

theorem OpDI.pack_fields (o : OpDI) (g0 : BitVec 8) : OpDI.get (o.pack g0) = o ∧ fld (o.pack g0) 0 8 = g0 := by
  simp (disch := decide) only [OpDI.get, OpDI.pack, slice_low, slice_high, slice_self, Nat.reduceSub, and_self]

theorem OpSAI.pack_fields (o : OpSAI) (g0 : BitVec 8) : OpSAI.get (o.pack g0) = o ∧ fld (o.pack g0) 0 8 = g0 := by
  simp (disch := decide) only [OpSAI.get, OpSAI.pack, slice_low, slice_high, slice_self, Nat.reduceSub, and_self]

theorem OpABI.pack_fields (o : OpABI) (g0 : BitVec 8) : OpABI.get (o.pack g0) = o ∧ fld (o.pack g0) 0 8 = g0 := by
  simp (disch := decide) only [OpABI.get, OpABI.pack, slice_low, slice_high, slice_self, Nat.reduceSub, and_self]

theorem OpDABO.pack_fields (o : OpDABO) (g0 : BitVec 8) (g1 : BitVec 7) :
    OpDABO.get (o.pack g0 g1) = o ∧ fld (o.pack g0 g1) 0 8 = g0 := by
  simp (disch := decide) only [OpDABO.get, OpDABO.pack, slice_low, slice_high, slice_self, Nat.reduceSub, and_self]

theorem OpDABEWO.pack_fields (o : OpDABEWO) (g0 : BitVec 8) (g1 : BitVec 1) :
    OpDABEWO.get (o.pack g0 g1) = o ∧ fld (o.pack g0 g1) 0 8 = g0 := by
  simp (disch := decide) only [OpDABEWO.get, OpDABEWO.pack, slice_low, slice_high, slice_self, Nat.reduceSub, and_self]

theorem OpSK.pack_fields (o : OpSK) (g0 : BitVec 18) (g1 : BitVec 9) :
    OpSK.get (o.pack g0 g1) = o ∧ fld (o.pack g0 g1) 0 8 = g0.extractLsb' 0 8 := by
  simp (disch := decide) only [OpSK.get, OpSK.pack, slice_low, slice_high, slice_self, Nat.reduceSub, and_self]

theorem OpD.pack_fields (o : OpD) (g0 : BitVec 8) (g1 : BitVec 19) :
    OpD.get (o.pack g0 g1) = o ∧ fld (o.pack g0 g1) 0 8 = g0 := by
  simp (disch := decide) only [OpD.get, OpD.pack, slice_low, slice_high, slice_self, Nat.reduceSub, and_self]

theorem OpDACsr.pack_fields (o : OpDACsr) (g0 : BitVec 8) (g1 : BitVec 3) :
    OpDACsr.get (o.pack g0 g1) = o ∧ fld (o.pack g0 g1) 0 8 = g0 := by
  simp (disch := decide) only [OpDACsr.get, OpDACsr.pack, slice_low, slice_high, slice_self, Nat.reduceSub, and_self]

theorem OpDUCsr.pack_fields (o : OpDUCsr) (g0 : BitVec 8) (g1 : BitVec 3) :
    OpDUCsr.get (o.pack g0 g1) = o ∧ fld (o.pack g0 g1) 0 8 = g0 := by
  simp (disch := decide) only [OpDUCsr.get, OpDUCsr.pack, slice_low, slice_high, slice_self, Nat.reduceSub, and_self]

theorem OpA.pack_fields (o : OpA) (g0 : BitVec 13) (g1 : BitVec 14) :
    OpA.get (o.pack g0 g1) = o ∧ fld (o.pack g0 g1) 0 8 = g0.extractLsb' 0 8 := by
  simp (disch := decide) only [OpA.get, OpA.pack, slice_low, slice_high, slice_self, Nat.reduceSub, and_self]

theorem OpAB.pack_fields (o : OpAB) (g0 : BitVec 13) (g1 : BitVec 9) :
    OpAB.get (o.pack g0 g1) = o ∧ fld (o.pack g0 g1) 0 8 = g0.extractLsb' 0 8 := by
  simp (disch := decide) only [OpAB.get, OpAB.pack, slice_low, slice_high, slice_self, Nat.reduceSub, and_self]

theorem OpDA.pack_fields (o : OpDA) (g0 : BitVec 8) (g1 : BitVec 14) :
    OpDA.get (o.pack g0 g1) = o ∧ fld (o.pack g0 g1) 0 8 = g0 := by
  simp (disch := decide) only [OpDA.get, OpDA.pack, slice_low, slice_high, slice_self, Nat.reduceSub, and_self]

theorem OpDAR.pack_fields (o : OpDAR) (g0 : BitVec 8) (g1 : BitVec 11) :
    OpDAR.get (o.pack g0 g1) = o ∧ fld (o.pack g0 g1) 0 8 = g0 := by
  simp (disch := decide) only [OpDAR.get, OpDAR.pack, slice_low, slice_high, slice_self, Nat.reduceSub, and_self]

theorem OpAK.pack_fields (o : OpAK) (g0 : BitVec 13) (g1 : BitVec 11) :
    OpAK.get (o.pack g0 g1) = o ∧ fld (o.pack g0 g1) 0 8 = g0.extractLsb' 0 8 := by
  simp (disch := decide) only [OpAK.get, OpAK.pack, slice_low, slice_high, slice_self, Nat.reduceSub, and_self]

theorem OpDABCEK.pack_fields (o : OpDABCEK) (g0 : BitVec 8) (g1 : BitVec 4) :
    OpDABCEK.get (o.pack g0 g1) = o ∧ fld (o.pack g0 g1) 0 8 = g0 := by
  simp (disch := decide) only [OpDABCEK.get, OpDABCEK.pack, slice_low, slice_high, slice_self, Nat.reduceSub, and_self]

theorem OpDABCK.pack_fields (o : OpDABCK) (g0 : BitVec 8) (g1 : BitVec 1) (g2 : BitVec 4) :
    OpDABCK.get (o.pack g0 g1 g2) = o ∧ fld (o.pack g0 g1 g2) 0 8 = g0 := by
  simp (disch := decide) only [OpDABCK.get, OpDABCK.pack, slice_low, slice_high, slice_self, Nat.reduceSub, and_self]

theorem OpDAICK.pack_fields (o : OpDAICK) (g0 : BitVec 8) (g1 : BitVec 1) (g2 : BitVec 4) :
    OpDAICK.get (o.pack g0 g1 g2) = o ∧ fld (o.pack g0 g1 g2) 0 8 = g0 := by
  simp (disch := decide) only [OpDAICK.get, OpDAICK.pack, slice_low, slice_high, slice_self, Nat.reduceSub, and_self]

theorem OpDBEK.pack_fields (o : OpDBEK) (g0 : BitVec 8) (g1 : BitVec 5) (g2 : BitVec 1) (g3 : BitVec 4) :
    OpDBEK.get (o.pack g0 g1 g2 g3) = o ∧ fld (o.pack g0 g1 g2 g3) 0 8 = g0 := by
  simp (disch := decide) only [OpDBEK.get, OpDBEK.pack, slice_low, slice_high, slice_self, Nat.reduceSub, and_self]

theorem OpDBEKR.pack_fields (o : OpDBEKR) (g0 : BitVec 8) (g1 : BitVec 5) (g2 : BitVec 1) :
    OpDBEKR.get (o.pack g0 g1 g2) = o ∧ fld (o.pack g0 g1 g2) 0 8 = g0 := by
  simp (disch := decide) only [OpDBEKR.get, OpDBEKR.pack, slice_low, slice_high, slice_self, Nat.reduceSub, and_self]

theorem OpDBEKSR.pack_fields (o : OpDBEKSR) (g0 : BitVec 8) (g1 : BitVec 5) (g2 : BitVec 1) :
    OpDBEKSR.get (o.pack g0 g1 g2) = o ∧ fld (o.pack g0 g1 g2) 0 8 = g0 := by
  simp (disch := decide) only [OpDBEKSR.get, OpDBEKSR.pack, slice_low, slice_high, slice_self, Nat.reduceSub, and_self]

theorem OpD3ABCEK.pack_fields (o : OpD3ABCEK) (g0 : BitVec 8) (g1 : BitVec 2) (g2 : BitVec 4) :
    OpD3ABCEK.get (o.pack g0 g1 g2) = o ∧ fld (o.pack g0 g1 g2) 0 8 = g0 := by
  simp (disch := decide) only [OpD3ABCEK.get, OpD3ABCEK.pack, slice_low, slice_high, slice_self, Nat.reduceSub, and_self]

theorem OpD3ABCK.pack_fields (o : OpD3ABCK) (g0 : BitVec 8) (g1 : BitVec 2) (g2 : BitVec 1) (g3 : BitVec 4) :
    OpD3ABCK.get (o.pack g0 g1 g2 g3) = o ∧ fld (o.pack g0 g1 g2 g3) 0 8 = g0 := by
  simp (disch := decide) only [OpD3ABCK.get, OpD3ABCK.pack, slice_low, slice_high, slice_self, Nat.reduceSub, and_self]

theorem OpD3A3B3CEK.pack_fields (o : OpD3A3B3CEK) (g0 : BitVec 8) (g1 : BitVec 2) (g2 : BitVec 2) (g3 : BitVec 2)
    (g4 : BitVec 4) :
    OpD3A3B3CEK.get (o.pack g0 g1 g2 g3 g4) = o ∧ fld (o.pack g0 g1 g2 g3 g4) 0 8 = g0 := by
  simp (disch := decide) only [OpD3A3B3CEK.get, OpD3A3B3CEK.pack, slice_low, slice_high, slice_self, Nat.reduceSub, and_self]

theorem OpD3B3EK.pack_fields (o : OpD3B3EK) (g0 : BitVec 8) (g1 : BitVec 7) (g2 : BitVec 3) (g3 : BitVec 4) :
    OpD3B3EK.get (o.pack g0 g1 g2 g3) = o ∧ fld (o.pack g0 g1 g2 g3) 0 8 = g0 := by
  simp (disch := decide) only [OpD3B3EK.get, OpD3B3EK.pack, slice_low, slice_high, slice_self, Nat.reduceSub, and_self]

theorem OpDB3EK.pack_fields (o : OpDB3EK) (g0 : BitVec 8) (g1 : BitVec 5) (g2 : BitVec 3) (g3 : BitVec 4) :
    OpDB3EK.get (o.pack g0 g1 g2 g3) = o ∧ fld (o.pack g0 g1 g2 g3) 0 8 = g0 := by
  simp (disch := decide) only [OpDB3EK.get, OpDB3EK.pack, slice_low, slice_high, slice_self, Nat.reduceSub, and_self]

theorem OpD3ABK.pack_fields (o : OpD3ABK) (g0 : BitVec 8) (g1 : BitVec 2) (g2 : BitVec 2) (g3 : BitVec 4) :
    OpD3ABK.get (o.pack g0 g1 g2 g3) = o ∧ fld (o.pack g0 g1 g2 g3) 0 8 = g0 := by
  simp (disch := decide) only [OpD3ABK.get, OpD3ABK.pack, slice_low, slice_high, slice_self, Nat.reduceSub, and_self]

theorem OpDABC.pack_fields (o : OpDABC) (g0 : BitVec 8) (g1 : BitVec 8) :
    OpDABC.get (o.pack g0 g1) = o ∧ fld (o.pack g0 g1) 0 8 = g0 := by
  simp (disch := decide) only [OpDABC.get, OpDABC.pack, slice_low, slice_high, slice_self, Nat.reduceSub, and_self]

theorem OpDACK.pack_fields (o : OpDACK) (g0 : BitVec 8) (g1 : BitVec 5) (g2 : BitVec 1) (g3 : BitVec 4) :
    OpDACK.get (o.pack g0 g1 g2 g3) = o ∧ fld (o.pack g0 g1 g2 g3) 0 8 = g0 := by
  simp (disch := decide) only [OpDACK.get, OpDACK.pack, slice_low, slice_high, slice_self, Nat.reduceSub, and_self]

theorem OpDK.pack_fields (o : OpDK) (g0 : BitVec 8) (g1 : BitVec 12) (g2 : BitVec 4) :
    OpDK.get (o.pack g0 g1 g2) = o ∧ fld (o.pack g0 g1 g2) 0 8 = g0 := by
  simp (disch := decide) only [OpDK.get, OpDK.pack, slice_low, slice_high, slice_self, Nat.reduceSub, and_self]

theorem OpDAK.pack_fields (o : OpDAK) (g0 : BitVec 8) (g1 : BitVec 7) (g2 : BitVec 4) :
    OpDAK.get (o.pack g0 g1 g2) = o ∧ fld (o.pack g0 g1 g2) 0 8 = g0 := by
  simp (disch := decide) only [OpDAK.get, OpDAK.pack, slice_low, slice_high, slice_self, Nat.reduceSub, and_self]

theorem OpDBK.pack_fields (o : OpDBK) (g0 : BitVec 8) (g1 : BitVec 5) (g2 : BitVec 2) (g3 : BitVec 4) :
    OpDBK.get (o.pack g0 g1 g2 g3) = o ∧ fld (o.pack g0 g1 g2 g3) 0 8 = g0 := by
  simp (disch := decide) only [OpDBK.get, OpDBK.pack, slice_low, slice_high, slice_self, Nat.reduceSub, and_self]

theorem OpDABI.pack_fields (o : OpDABI) (g0 : BitVec 8) (g1 : BitVec 1) :
    OpDABI.get (o.pack g0 g1) = o ∧ fld (o.pack g0 g1) 0 8 = g0 := by
  simp (disch := decide) only [OpDABI.get, OpDABI.pack, slice_low, slice_high, slice_self, Nat.reduceSub, and_self]

theorem OpDAOK.pack_fields (o : OpDAOK) (g0 : BitVec 8) (g1 : BitVec 6) (g2 : BitVec 4) :
    OpDAOK.get (o.pack g0 g1 g2) = o ∧ fld (o.pack g0 g1 g2) 0 8 = g0 := by
  simp (disch := decide) only [OpDAOK.get, OpDAOK.pack, slice_low, slice_high, slice_self, Nat.reduceSub, and_self]

theorem OpDABOK.pack_fields (o : OpDABOK) (g0 : BitVec 8) (g1 : BitVec 1) (g2 : BitVec 4) :
    OpDABOK.get (o.pack g0 g1 g2) = o ∧ fld (o.pack g0 g1 g2) 0 8 = g0 := by
  simp (disch := decide) only [OpDABOK.get, OpDABOK.pack, slice_low, slice_high, slice_self, Nat.reduceSub, and_self]

theorem OpDABCOK.pack_fields (o : OpDABCOK) (g0 : BitVec 8) (g1 : BitVec 4) :
    OpDABCOK.get (o.pack g0 g1) = o ∧ fld (o.pack g0 g1) 0 8 = g0 := by
  simp (disch := decide) only [OpDABCOK.get, OpDABCOK.pack, slice_low, slice_high, slice_self, Nat.reduceSub, and_self]

theorem OpDACOK.pack_fields (o : OpDACOK) (g0 : BitVec 8) (g1 : BitVec 5) (g2 : BitVec 4) :
    OpDACOK.get (o.pack g0 g1 g2) = o ∧ fld (o.pack g0 g1 g2) 0 8 = g0 := by
  simp (disch := decide) only [OpDACOK.get, OpDACOK.pack, slice_low, slice_high, slice_self, Nat.reduceSub, and_self]

theorem OpDAC.pack_fields (o : OpDAC) (g0 : BitVec 8) (g1 : BitVec 5) (g2 : BitVec 8) :
    OpDAC.get (o.pack g0 g1 g2) = o ∧ fld (o.pack g0 g1 g2) 0 8 = g0 := by
  simp (disch := decide) only [OpDAC.get, OpDAC.pack, slice_low, slice_high, slice_self, Nat.reduceSub, and_self]

theorem OpDABK.pack_fields (o : OpDABK) (g0 : BitVec 8) (g1 : BitVec 2) (g2 : BitVec 4) :
    OpDABK.get (o.pack g0 g1 g2) = o ∧ fld (o.pack g0 g1 g2) 0 8 = g0 := by
  simp (disch := decide) only [OpDABK.get, OpDABK.pack, slice_low, slice_high, slice_self, Nat.reduceSub, and_self]

theorem OpDABEK.pack_fields (o : OpDABEK) (g0 : BitVec 8) (g1 : BitVec 1) (g2 : BitVec 4) :
    OpDABEK.get (o.pack g0 g1 g2) = o ∧ fld (o.pack g0 g1 g2) 0 8 = g0 := by
  simp (disch := decide) only [OpDABEK.get, OpDABEK.pack, slice_low, slice_high, slice_self, Nat.reduceSub, and_self]

theorem OpACK.pack_fields (o : OpACK) (g0 : BitVec 13) (g1 : BitVec 5) (g2 : BitVec 1) (g3 : BitVec 4) :
    OpACK.get (o.pack g0 g1 g2 g3) = o ∧ fld (o.pack g0 g1 g2 g3) 0 8 = g0.extractLsb' 0 8 := by
  simp (disch := decide) only [OpACK.get, OpACK.pack, slice_low, slice_high, slice_self, Nat.reduceSub, and_self]

/-! ## An opcode leads to the decoder of its operations, or to its one operation (R70, R71) -/

section
variable {w : BitVec 32}
theorem decode32_01 (h : fld w 0 8 = 0x01#8) : decode32 w = decodeOp01 w := by rw [decode32, h]; rfl
theorem decode32_02 (h : fld w 0 8 = 0x02#8) : decode32 w = decodeOp02 w := by rw [decode32, h]; rfl
theorem decode32_05 (h : fld w 0 8 = 0x05#8) : decode32 w = decodeOp05 w := by rw [decode32, h]; rfl
theorem decode32_06 (h : fld w 0 8 = 0x06#8) : decode32 w = decodeOp06 w := by rw [decode32, h]; rfl
theorem decode32_09 (h : fld w 0 8 = 0x09#8) : decode32 w = decodeOp09 w := by rw [decode32, h]; rfl
theorem decode32_0A (h : fld w 0 8 = 0x0A#8) : decode32 w = decodeOp0A w := by rw [decode32, h]; rfl
theorem decode32_0D (h : fld w 0 8 = 0x0D#8) : decode32 w = decodeOp0D w := by rw [decode32, h]; rfl
theorem decode32_0E (h : fld w 0 8 = 0x0E#8) : decode32 w = decodeOp0E w := by rw [decode32, h]; rfl
theorem decode32_12 (h : fld w 0 8 = 0x12#8) : decode32 w = decodeOp12 w := by rw [decode32, h]; rfl
theorem decode32_16 (h : fld w 0 8 = 0x16#8) : decode32 w = decodeOp16 w := by rw [decode32, h]; rfl
theorem decode32_1A (h : fld w 0 8 = 0x1A#8) : decode32 w = decodeOp1A w := by rw [decode32, h]; rfl
theorem decode32_1E (h : fld w 0 8 = 0x1E#8) : decode32 w = decodeOp1E w := by rw [decode32, h]; rfl
theorem decode32_22 (h : fld w 0 8 = 0x22#8) : decode32 w = decodeOp22 w := by rw [decode32, h]; rfl
theorem decode32_26 (h : fld w 0 8 = 0x26#8) : decode32 w = decodeOp26 w := by rw [decode32, h]; rfl
theorem decode32_29 (h : fld w 0 8 = 0x29#8) : decode32 w = decodeOp29 w := by rw [decode32, h]; rfl
theorem decode32_2A (h : fld w 0 8 = 0x2A#8) : decode32 w = decodeOp2A w := by rw [decode32, h]; rfl
theorem decode32_2E (h : fld w 0 8 = 0x2E#8) : decode32 w = decodeOp2E w := by rw [decode32, h]; rfl
theorem decode32_32 (h : fld w 0 8 = 0x32#8) : decode32 w = decodeOp32 w := by rw [decode32, h]; rfl
theorem decode32_36 (h : fld w 0 8 = 0x36#8) : decode32 w = decodeOp36 w := by rw [decode32, h]; rfl
theorem decode32_3A (h : fld w 0 8 = 0x3A#8) : decode32 w = decodeOp3A w := by rw [decode32, h]; rfl
theorem decode32_3E (h : fld w 0 8 = 0x3E#8) : decode32 w = decodeOp3E w := by rw [decode32, h]; rfl
theorem decode32_42 (h : fld w 0 8 = 0x42#8) : decode32 w = decodeOp42 w := by rw [decode32, h]; rfl
theorem decode32_46 (h : fld w 0 8 = 0x46#8) : decode32 w = decodeOp46 w := by rw [decode32, h]; rfl
theorem decode32_4A (h : fld w 0 8 = 0x4A#8) : decode32 w = decodeOp4A w := by rw [decode32, h]; rfl
theorem decode32_4E (h : fld w 0 8 = 0x4E#8) : decode32 w = decodeOp4E w := by rw [decode32, h]; rfl
theorem decode32_52 (h : fld w 0 8 = 0x52#8) : decode32 w = decodeOp52 w := by rw [decode32, h]; rfl
theorem decode32_56 (h : fld w 0 8 = 0x56#8) : decode32 w = decodeOp56 w := by rw [decode32, h]; rfl
theorem decode32_5A (h : fld w 0 8 = 0x5A#8) : decode32 w = decodeOp5A w := by rw [decode32, h]; rfl
theorem decode32_5E (h : fld w 0 8 = 0x5E#8) : decode32 w = decodeOp5E w := by rw [decode32, h]; rfl
theorem decode32_62 (h : fld w 0 8 = 0x62#8) : decode32 w = decodeOp62 w := by rw [decode32, h]; rfl
theorem decode32_66 (h : fld w 0 8 = 0x66#8) : decode32 w = decodeOp66 w := by rw [decode32, h]; rfl
theorem decode32_6A (h : fld w 0 8 = 0x6A#8) : decode32 w = decodeOp6A w := by rw [decode32, h]; rfl
theorem decode32_6E (h : fld w 0 8 = 0x6E#8) : decode32 w = decodeOp6E w := by rw [decode32, h]; rfl
theorem decode32_72 (h : fld w 0 8 = 0x72#8) : decode32 w = decodeOp72 w := by rw [decode32, h]; rfl
theorem decode32_76 (h : fld w 0 8 = 0x76#8) : decode32 w = decodeOp76 w := by rw [decode32, h]; rfl
theorem decode32_7A (h : fld w 0 8 = 0x7A#8) : decode32 w = decodeOp7A w := by rw [decode32, h]; rfl
theorem decode32_7E (h : fld w 0 8 = 0x7E#8) : decode32 w = decodeOp7E w := by rw [decode32, h]; rfl
theorem decode32_81 (h : fld w 0 8 = 0x81#8) : decode32 w = decodeOp81 w := by rw [decode32, h]; rfl
theorem decode32_82 (h : fld w 0 8 = 0x82#8) : decode32 w = decodeOp82 w := by rw [decode32, h]; rfl
theorem decode32_85 (h : fld w 0 8 = 0x85#8) : decode32 w = decodeOp85 w := by rw [decode32, h]; rfl
theorem decode32_86 (h : fld w 0 8 = 0x86#8) : decode32 w = decodeOp86 w := by rw [decode32, h]; rfl
theorem decode32_89 (h : fld w 0 8 = 0x89#8) : decode32 w = decodeOp89 w := by rw [decode32, h]; rfl
theorem decode32_8A (h : fld w 0 8 = 0x8A#8) : decode32 w = decodeOp8A w := by rw [decode32, h]; rfl
theorem decode32_8D (h : fld w 0 8 = 0x8D#8) : decode32 w = decodeOp8D w := by rw [decode32, h]; rfl
theorem decode32_91 (h : fld w 0 8 = 0x91#8) : decode32 w = decodeOp91 w := by rw [decode32, h]; rfl
theorem decode32_95 (h : fld w 0 8 = 0x95#8) : decode32 w = decodeOp95 w := by rw [decode32, h]; rfl
theorem decode32_99 (h : fld w 0 8 = 0x99#8) : decode32 w = decodeOp99 w := by rw [decode32, h]; rfl
theorem decode32_9D (h : fld w 0 8 = 0x9D#8) : decode32 w = decodeOp9D w := by rw [decode32, h]; rfl
theorem decode32_A1 (h : fld w 0 8 = 0xA1#8) : decode32 w = decodeOpA1 w := by rw [decode32, h]; rfl
theorem decode32_A5 (h : fld w 0 8 = 0xA5#8) : decode32 w = decodeOpA5 w := by rw [decode32, h]; rfl
theorem decode32_addi (h : fld w 0 8 = 0x11#8) : decode32 w = .ok .addi := by rw [decode32, h]; rfl
theorem decode32_andi (h : fld w 0 8 = 0x15#8) : decode32 w = .ok .andi := by rw [decode32, h]; rfl
theorem decode32_ori (h : fld w 0 8 = 0x19#8) : decode32 w = .ok .ori := by rw [decode32, h]; rfl
theorem decode32_xori (h : fld w 0 8 = 0x1D#8) : decode32 w = .ok .xori := by rw [decode32, h]; rfl
theorem decode32_slti (h : fld w 0 8 = 0x21#8) : decode32 w = .ok .slti := by rw [decode32, h]; rfl
theorem decode32_sltni (h : fld w 0 8 = 0x25#8) : decode32 w = .ok .sltni := by rw [decode32, h]; rfl
theorem decode32_lui (h : fld w 0 8 = 0x2D#8) : decode32 w = .ok .lui := by rw [decode32, h]; rfl
theorem decode32_auipc (h : fld w 0 8 = 0x31#8) : decode32 w = .ok .auipc := by rw [decode32, h]; rfl
theorem decode32_lb (h : fld w 0 8 = 0x35#8) : decode32 w = .ok .lb := by rw [decode32, h]; rfl
theorem decode32_lh (h : fld w 0 8 = 0x39#8) : decode32 w = .ok .lh := by rw [decode32, h]; rfl
theorem decode32_lw (h : fld w 0 8 = 0x3D#8) : decode32 w = .ok .lw := by rw [decode32, h]; rfl
theorem decode32_ld (h : fld w 0 8 = 0x41#8) : decode32 w = .ok .ld := by rw [decode32, h]; rfl
theorem decode32_lbn (h : fld w 0 8 = 0x45#8) : decode32 w = .ok .lbn := by rw [decode32, h]; rfl
theorem decode32_lhn (h : fld w 0 8 = 0x49#8) : decode32 w = .ok .lhn := by rw [decode32, h]; rfl
theorem decode32_lwn (h : fld w 0 8 = 0x4D#8) : decode32 w = .ok .lwn := by rw [decode32, h]; rfl
theorem decode32_sb (h : fld w 0 8 = 0x51#8) : decode32 w = .ok .sb := by rw [decode32, h]; rfl
theorem decode32_sh (h : fld w 0 8 = 0x55#8) : decode32 w = .ok .sh := by rw [decode32, h]; rfl
theorem decode32_sw (h : fld w 0 8 = 0x59#8) : decode32 w = .ok .sw := by rw [decode32, h]; rfl
theorem decode32_sd (h : fld w 0 8 = 0x5D#8) : decode32 w = .ok .sd := by rw [decode32, h]; rfl
theorem decode32_beq (h : fld w 0 8 = 0x61#8) : decode32 w = .ok .beq := by rw [decode32, h]; rfl
theorem decode32_bne (h : fld w 0 8 = 0x65#8) : decode32 w = .ok .bne := by rw [decode32, h]; rfl
theorem decode32_blt (h : fld w 0 8 = 0x69#8) : decode32 w = .ok .blt := by rw [decode32, h]; rfl
theorem decode32_bge (h : fld w 0 8 = 0x6D#8) : decode32 w = .ok .bge := by rw [decode32, h]; rfl
theorem decode32_bltn (h : fld w 0 8 = 0x71#8) : decode32 w = .ok .bltn := by rw [decode32, h]; rfl
theorem decode32_bgen (h : fld w 0 8 = 0x75#8) : decode32 w = .ok .bgen := by rw [decode32, h]; rfl
theorem decode32_jal (h : fld w 0 8 = 0x79#8) : decode32 w = .ok .jal := by rw [decode32, h]; rfl
theorem decode32_jalr (h : fld w 0 8 = 0x7D#8) : decode32 w = .ok .jalr := by rw [decode32, h]; rfl
end

/-! ## Operands do not matter to which operation a word is (R71 to R73)

The zero operands on the right stand for any: the operation is then found by evaluation. Where an operation has a field of reserved values,
the operands are those that `Instr.wf` admits. -/

theorem OpDAB.decodeOp01_pack (o : OpDAB) {g : BitVec 9} :
    decodeOp01 (o.pack 1#8 g) = decodeOp01 (OpDAB.pack ⟨0, 0, 0⟩ 1#8 g) := by
  simp (disch := decide) only [decodeOp01, OpDAB.pack, slice_high, slice_self, Nat.reduceSub]

theorem OpDAB.decodeOp05_pack (o : OpDAB) {g : BitVec 9} :
    decodeOp05 (o.pack 5#8 g) = decodeOp05 (OpDAB.pack ⟨0, 0, 0⟩ 5#8 g) := by
  simp (disch := decide) only [decodeOp05, OpDAB.pack, slice_high, slice_self, Nat.reduceSub]

theorem OpDABFR.decodeOp09_pack (o : OpDABFR) (h : badRound o.r = false) {g : BitVec 5} (hg : g ∈ [0#5, 1#5, 2#5, 3#5]) :
    decodeOp09 (o.pack 9#8 g) = decodeOp09 (OpDABFR.pack ⟨0, 0, 0, 0, 0⟩ 9#8 g) := by
  simp only [List.mem_cons, List.not_mem_nil, or_false] at hg
  rcases hg with rfl | rfl | rfl | rfl <;>
    simp (disch := decide) only [decodeOp09, OpDABFR.pack, slice_low, slice_high, slice_self, Nat.reduceSub, h,
      BitVec.reduceToNat] <;> rfl

theorem OpDAFR.decodeOp09_pack (o : OpDAFR) (h : badRound o.r = false) : decodeOp09 (o.pack 9#8 128#10) = .ok .fsqrt := by
  simp (disch := decide) only [decodeOp09, OpDAFR.pack, slice_low, slice_high, slice_self, Nat.reduceSub, h]
  rfl

theorem OpDABF.decodeOp09_pack (o : OpDABF) {g : BitVec 5} (hg : g ∈ [5#5, 6#5, 7#5, 8#5, 9#5, 10#5, 11#5, 12#5]) :
    decodeOp09 (o.pack 9#8 g 0#3) = decodeOp09 (OpDABF.pack ⟨0, 0, 0, 0⟩ 9#8 g 0#3) := by
  simp only [List.mem_cons, List.not_mem_nil, or_false] at hg
  rcases hg with rfl | rfl | rfl | rfl | rfl | rfl | rfl | rfl <;>
    simp (disch := decide) only [decodeOp09, OpDABF.pack, slice_low, slice_high, slice_self, Nat.reduceSub, BitVec.reduceToNat]

theorem OpDAF.decodeOp09_pack (o : OpDAF) : decodeOp09 (o.pack 9#8 416#10 0#3) = .ok .fclass := by
  simp (disch := decide) only [decodeOp09, OpDAF.pack, slice_low, slice_high, slice_self, Nat.reduceSub]
  rfl

theorem OpDABEF.decodeOp0D_pack (o : OpDABEF) {g : BitVec 2} :
    decodeOp0D (o.pack 13#8 g 0#1) = decodeOp0D (OpDABEF.pack ⟨0, 0, 0, 0, 0⟩ 13#8 g 0#1) := by
  simp (disch := decide) only [decodeOp0D, OpDABEF.pack, slice_low, slice_high, slice_self, Nat.reduceSub]

theorem OpDAS.decodeOp29_pack (o : OpDAS) {g : BitVec 8} :
    decodeOp29 (o.pack 41#8 g) = decodeOp29 (OpDAS.pack ⟨0, 0, 0⟩ 41#8 g) := by
  simp (disch := decide) only [decodeOp29, OpDAS.pack, slice_high, slice_self, Nat.reduceSub]

theorem OpDABO.decodeOp81_pack (o : OpDABO) {g : BitVec 7} :
    decodeOp81 (o.pack 129#8 g) = decodeOp81 (OpDABO.pack ⟨0, 0, 0, 0⟩ 129#8 g) := by
  simp (disch := decide) only [decodeOp81, OpDABO.pack, slice_high, Nat.reduceSub]

theorem OpDABO.decodeOp85_pack (o : OpDABO) {g : BitVec 7} :
    decodeOp85 (o.pack 133#8 g) = decodeOp85 (OpDABO.pack ⟨0, 0, 0, 0⟩ 133#8 g) := by
  simp (disch := decide) only [decodeOp85, OpDABO.pack, slice_high, Nat.reduceSub]

theorem OpDABEWO.decodeOp89_pack (o : OpDABEWO) : decodeOp89 (o.pack 137#8 0#1) = .ok .cas := by
  simp (disch := decide) only [decodeOp89, OpDABEWO.pack, slice_high, slice_self, Nat.reduceSub]
  rfl

theorem OpSK.decodeOp8D_pack (o : OpSK) (h : (decide (5#3 < o.s) || o.k == 3#2) = false) :
    decodeOp8D (o.pack 141#18 0#9) = .ok .fence := by
  simp (disch := decide) only [decodeOp8D, OpSK.pack, slice_low, slice_high, slice_self, Nat.reduceSub, h]
  rfl

theorem OpDAB.decodeOp8D_pack (o : OpDAB) {g : BitVec 9} (hg : g ∈ [2#9, 3#9, 4#9]) :
    decodeOp8D (o.pack 141#8 g) = decodeOp8D (OpDAB.pack ⟨0, 0, 0⟩ 141#8 g) := by
  simp only [List.mem_cons, List.not_mem_nil, or_false] at hg
  rcases hg with rfl | rfl | rfl <;>
    simp (disch := decide) only [decodeOp8D, OpDAB.pack, slice_high, slice_self, Nat.reduceSub, BitVec.reduceToNat]

theorem OpD.decodeOp8D_pack (o : OpD) {g : BitVec 19} (hg : g ∈ [5120#19, 5152#19]) :
    decodeOp8D (o.pack 141#8 g) = decodeOp8D (OpD.pack ⟨0⟩ 141#8 g) := by
  simp only [List.mem_cons, List.not_mem_nil, or_false] at hg
  rcases hg with rfl | rfl <;>
    simp (disch := decide) only [decodeOp8D, OpD.pack, slice_high, Nat.reduceSub, BitVec.reduceExtractLsb', BitVec.reduceToNat]

theorem OpDACsr.decodeOp91_pack (o : OpDACsr) (h : badCsr o.c true = false) : decodeOp91 (o.pack 145#8 0#3) = .ok .csrrw := by
  simp (disch := decide) only [decodeOp91, OpDACsr.pack, slice_low, slice_high, slice_self, Nat.reduceSub, h]
  rfl

theorem OpDACsr.decodeOp91_pack_setClear (o : OpDACsr) (h : badCsr o.c (o.a != 0#5) = false) {g : BitVec 3} (hg : g ∈ [1#3,
    2#3]) :
    decodeOp91 (o.pack 145#8 g) = decodeOp91 (OpDACsr.pack ⟨0, 0, 0⟩ 145#8 g) := by
  simp only [List.mem_cons, List.not_mem_nil, or_false] at hg
  rcases hg with rfl | rfl <;>
    simp (disch := decide) only [decodeOp91, OpDACsr.pack, slice_low, slice_high, slice_self, Nat.reduceSub, h,
      BitVec.reduceToNat] <;> rfl

theorem OpDUCsr.decodeOp91_pack (o : OpDUCsr) (h : badCsr o.c true = false) : decodeOp91 (o.pack 145#8 4#3) = .ok .csrrwi := by
  simp (disch := decide) only [decodeOp91, OpDUCsr.pack, slice_low, slice_high, slice_self, Nat.reduceSub, h]
  rfl

theorem OpDUCsr.decodeOp91_pack_setClear (o : OpDUCsr) (h : badCsr o.c (o.u != 0#5) = false) {g : BitVec 3} (hg : g ∈ [5#3,
    6#3]) :
    decodeOp91 (o.pack 145#8 g) = decodeOp91 (OpDUCsr.pack ⟨0, 0, 0⟩ 145#8 g) := by
  simp only [List.mem_cons, List.not_mem_nil, or_false] at hg
  rcases hg with rfl | rfl <;>
    simp (disch := decide) only [decodeOp91, OpDUCsr.pack, slice_low, slice_high, slice_self, Nat.reduceSub, h,
      BitVec.reduceToNat] <;> rfl

theorem OpA.decodeOp95_pack (o : OpA) {g : BitVec 14} (hg : g ∈ [0#14, 288#14, 320#14, 352#14]) :
    decodeOp95 (o.pack 149#13 g) = decodeOp95 (OpA.pack ⟨0⟩ 149#13 g) := by
  simp only [List.mem_cons, List.not_mem_nil, or_false] at hg
  rcases hg with rfl | rfl | rfl | rfl <;>
    simp (disch := decide) only [decodeOp95, OpA.pack, slice_low, slice_high, slice_self, Nat.reduceSub,
      BitVec.reduceExtractLsb', BitVec.reduceToNat]
  rfl

theorem OpAB.decodeOp95_pack (o : OpAB) {g : BitVec 9} (hg : g ∈ [4#9, 5#9, 6#9]) :
    decodeOp95 (o.pack 149#13 g) = decodeOp95 (OpAB.pack ⟨0, 0⟩ 149#13 g) := by
  simp only [List.mem_cons, List.not_mem_nil, or_false] at hg
  rcases hg with rfl | rfl | rfl <;>
    simp (disch := decide) only [decodeOp95, OpAB.pack, slice_low, slice_high, slice_self, Nat.reduceSub,
      BitVec.reduceExtractLsb', BitVec.reduceToNat]

theorem OpDAB.decodeOp95_pack (o : OpDAB) {g : BitVec 9} (hg : g ∈ [7#9, 8#9]) :
    decodeOp95 (o.pack 149#8 g) = decodeOp95 (OpDAB.pack ⟨0, 0, 0⟩ 149#8 g) := by
  simp only [List.mem_cons, List.not_mem_nil, or_false] at hg
  rcases hg with rfl | rfl <;>
    simp (disch := decide) only [decodeOp95, OpDAB.pack, slice_high, slice_self, Nat.reduceSub, BitVec.reduceToNat]

theorem OpDA.decodeOp99_pack (o : OpDA) {g : BitVec 14} :
    decodeOp99 (o.pack 153#8 g) = decodeOp99 (OpDA.pack ⟨0, 0⟩ 153#8 g) := by
  simp (disch := decide) only [decodeOp99, OpDA.pack, slice_high, Nat.reduceSub]

theorem OpDAB.decodeOp9D_pack (o : OpDAB) {g : BitVec 9} (hg : g ∈ [0#9, 1#9, 2#9, 3#9, 5#9, 6#9]) :
    decodeOp9D (o.pack 157#8 g) = decodeOp9D (OpDAB.pack ⟨0, 0, 0⟩ 157#8 g) := by
  simp only [List.mem_cons, List.not_mem_nil, or_false] at hg
  rcases hg with rfl | rfl | rfl | rfl | rfl | rfl <;>
    simp (disch := decide) only [decodeOp9D, OpDAB.pack, slice_high, slice_self, Nat.reduceSub, BitVec.reduceToNat]

theorem OpDA.decodeOp9D_pack (o : OpDA) : decodeOp9D (o.pack 157#8 128#14) = .ok .qseal := by
  simp (disch := decide) only [decodeOp9D, OpDA.pack, slice_high, Nat.reduceSub]
  rfl

theorem OpDAB.decodeOpA1_pack (o : OpDAB) {g : BitVec 9} (hg : g ∈ [0#9, 3#9, 4#9]) :
    decodeOpA1 (o.pack 161#8 g) = decodeOpA1 (OpDAB.pack ⟨0, 0, 0⟩ 161#8 g) := by
  simp only [List.mem_cons, List.not_mem_nil, or_false] at hg
  rcases hg with rfl | rfl | rfl <;>
    simp (disch := decide) only [decodeOpA1, OpDAB.pack, slice_high, slice_self, Nat.reduceSub, BitVec.reduceToNat]

theorem OpA.decodeOpA1_pack (o : OpA) : decodeOpA1 (o.pack 161#13 32#14) = .ok .cpybt := by
  simp (disch := decide) only [decodeOpA1, OpA.pack, slice_low, slice_high, Nat.reduceSub]
  rfl

theorem OpDAR.decodeOpA5_pack (o : OpDAR) (h : badRound o.r = false) {g : BitVec 11} :
    decodeOpA5 (o.pack 165#8 g) = decodeOpA5 (OpDAR.pack ⟨0, 0, 0⟩ 165#8 g) := by
  simp (disch := decide) only [decodeOpA5, OpDAR.pack, slice_low, slice_high, slice_self, Nat.reduceSub, h,
    (by decide : badRound 0 = false)]

theorem OpDAB.decodeOp02_pack (o : OpDAB) {g : BitVec 9} (hg : g ∈ [0#9, 1#9]) :
    decodeOp02 (o.pack 2#8 g) = decodeOp02 (OpDAB.pack ⟨0, 0, 0⟩ 2#8 g) := by
  simp only [List.mem_cons, List.not_mem_nil, or_false] at hg
  rcases hg with rfl | rfl <;>
    simp (disch := decide) only [decodeOp02, OpDAB.pack, slice_high, slice_self, Nat.reduceSub, BitVec.reduceToNat]

theorem OpDA.decodeOp02_pack (o : OpDA) {g : BitVec 14} (hg : g ∈ [64#14, 96#14, 320#14]) :
    decodeOp02 (o.pack 2#8 g) = decodeOp02 (OpDA.pack ⟨0, 0⟩ 2#8 g) := by
  simp only [List.mem_cons, List.not_mem_nil, or_false] at hg
  rcases hg with rfl | rfl | rfl <;>
    simp (disch := decide) only [decodeOp02, OpDA.pack, slice_high, Nat.reduceSub, BitVec.reduceExtractLsb', BitVec.reduceToNat]

theorem OpA.decodeOp02_pack (o : OpA) {g : BitVec 14} (hg : g ∈ [128#14, 288#14]) :
    decodeOp02 (o.pack 2#13 g) = decodeOp02 (OpA.pack ⟨0⟩ 2#13 g) := by
  simp only [List.mem_cons, List.not_mem_nil, or_false] at hg
  rcases hg with rfl | rfl <;>
    simp (disch := decide) only [decodeOp02, OpA.pack, slice_low, slice_high, Nat.reduceSub, BitVec.reduceExtractLsb',
      BitVec.reduceToNat]

theorem OpAK.decodeOp02_pack (o : OpAK) (h : (o.k == 0#3) = false) : decodeOp02 (o.pack 2#13 20#11) = .ok .vfetchw := by
  simp (disch := decide) only [decodeOp02, OpAK.pack, slice_low, slice_high, slice_self, Nat.reduceSub, h]
  rfl

theorem OpAB.decodeOp02_pack (o : OpAB) : decodeOp02 (o.pack 2#13 6#9) = .ok .vloop := by
  simp (disch := decide) only [decodeOp02, OpAB.pack, slice_low, slice_high, slice_self, Nat.reduceSub]
  rfl

theorem OpDABCEK.decodeOp06_pack (o : OpDABCEK) {g : BitVec 4} :
    decodeOp06 (o.pack 6#8 g) = decodeOp06 (OpDABCEK.pack ⟨0, 0, 0, 0, 0, 0⟩ 6#8 g) := by
  simp (disch := decide) only [decodeOp06, OpDABCEK.pack, slice_high, slice_self, Nat.reduceSub]

theorem OpDABCK.decodeOp0A_pack (o : OpDABCK) {g : BitVec 4} :
    decodeOp0A (o.pack 10#8 0#1 g) = decodeOp0A (OpDABCK.pack ⟨0, 0, 0, 0, 0⟩ 10#8 0#1 g) := by
  simp (disch := decide) only [decodeOp0A, OpDABCK.pack, slice_low, slice_high, slice_self, Nat.reduceSub]

theorem OpDAICK.decodeOp0E_pack (o : OpDAICK) {g : BitVec 4} :
    decodeOp0E (o.pack 14#8 0#1 g) = decodeOp0E (OpDAICK.pack ⟨0, 0, 0, 0, 0⟩ 14#8 0#1 g) := by
  simp (disch := decide) only [decodeOp0E, OpDAICK.pack, slice_low, slice_high, slice_self, Nat.reduceSub]

theorem OpDABCEK.decodeOp12_pack (o : OpDABCEK) {g : BitVec 4} (hg : g ∈ [0#4, 1#4, 2#4, 3#4, 4#4, 5#4, 6#4, 7#4, 8#4, 9#4,
    10#4, 11#4]) :
    decodeOp12 (o.pack 18#8 g) = decodeOp12 (OpDABCEK.pack ⟨0, 0, 0, 0, 0, 0⟩ 18#8 g) := by
  simp only [List.mem_cons, List.not_mem_nil, or_false] at hg
  rcases hg with rfl | rfl | rfl | rfl | rfl | rfl | rfl | rfl | rfl | rfl | rfl | rfl <;>
    simp (disch := decide) only [decodeOp12, OpDABCEK.pack, slice_high, slice_self, Nat.reduceSub, BitVec.reduceToNat]

theorem OpDABCK.decodeOp16_pack (o : OpDABCK) {g : BitVec 4} :
    decodeOp16 (o.pack 22#8 0#1 g) = decodeOp16 (OpDABCK.pack ⟨0, 0, 0, 0, 0⟩ 22#8 0#1 g) := by
  simp (disch := decide) only [decodeOp16, OpDABCK.pack, slice_low, slice_high, slice_self, Nat.reduceSub]

theorem OpDBEK.decodeOp12_pack (o : OpDBEK) {g : BitVec 4} (hg : g ∈ [12#4, 13#4, 14#4, 15#4]) :
    decodeOp12 (o.pack 18#8 0#5 0#1 g) = decodeOp12 (OpDBEK.pack ⟨0, 0, 0, 0⟩ 18#8 0#5 0#1 g) := by
  simp only [List.mem_cons, List.not_mem_nil, or_false] at hg
  rcases hg with rfl | rfl | rfl | rfl <;>
    simp (disch := decide) only [decodeOp12, OpDBEK.pack, slice_low, slice_high, slice_self, Nat.reduceSub, BitVec.reduceToNat]

theorem OpDABCEK.decodeOp1A_pack (o : OpDABCEK) {g : BitVec 4} :
    decodeOp1A (o.pack 26#8 g) = decodeOp1A (OpDABCEK.pack ⟨0, 0, 0, 0, 0, 0⟩ 26#8 g) := by
  simp (disch := decide) only [decodeOp1A, OpDABCEK.pack, slice_high, slice_self, Nat.reduceSub]

theorem OpDABCK.decodeOp1E_pack (o : OpDABCK) {g : BitVec 4} :
    decodeOp1E (o.pack 30#8 0#1 g) = decodeOp1E (OpDABCK.pack ⟨0, 0, 0, 0, 0⟩ 30#8 0#1 g) := by
  simp (disch := decide) only [decodeOp1E, OpDABCK.pack, slice_low, slice_high, slice_self, Nat.reduceSub]

theorem OpDABCEK.decodeOp22_pack (o : OpDABCEK) {g : BitVec 4} :
    decodeOp22 (o.pack 34#8 g) = decodeOp22 (OpDABCEK.pack ⟨0, 0, 0, 0, 0, 0⟩ 34#8 g) := by
  simp (disch := decide) only [decodeOp22, OpDABCEK.pack, slice_high, slice_self, Nat.reduceSub]

theorem OpDABCK.decodeOp26_pack (o : OpDABCK) {g : BitVec 4} :
    decodeOp26 (o.pack 38#8 0#1 g) = decodeOp26 (OpDABCK.pack ⟨0, 0, 0, 0, 0⟩ 38#8 0#1 g) := by
  simp (disch := decide) only [decodeOp26, OpDABCK.pack, slice_low, slice_high, slice_self, Nat.reduceSub]

theorem OpDBEKR.decodeOp2A_pack (o : OpDBEKR) (h : (badVfuRound o.r || ((o.r.extractLsb' 3 1) == 0#1 &&
    (o.r.extractLsb' 0 3) != 0#3)) = false) {g : BitVec 5} :
    decodeOp2A (o.pack 42#8 g 0#1) = decodeOp2A (OpDBEKR.pack ⟨0, 0, 0, 0, 0⟩ 42#8 g 0#1) := by
  rw [Bool.or_eq_false_iff] at h
  simp (disch := decide) only [decodeOp2A, OpDBEKR.pack, slice_low, slice_high, slice_self, Nat.reduceSub, h.1, h.2,
    (by decide : badVfuRound 0 = false), BitVec.reduceExtractLsb', beq_self_eq_true, bne_self_eq_false, Bool.and_false]

theorem OpDBEKSR.decodeOp2E_pack (o : OpDBEKSR) (h : badCvtRound o.r false = false) {g : BitVec 5} (hg : g ∈ [0#5, 1#5, 2#5,
    3#5, 4#5, 5#5, 6#5, 7#5, 8#5, 9#5, 12#5, 13#5, 15#5, 21#5, 23#5, 24#5]) :
    decodeOp2E (o.pack 46#8 g 0#1) = decodeOp2E (OpDBEKSR.pack ⟨0, 0, 0, 0, 0, 0⟩ 46#8 g 0#1) := by
  simp only [List.mem_cons, List.not_mem_nil, or_false] at hg
  rcases hg with rfl | rfl | rfl | rfl | rfl | rfl | rfl | rfl | rfl | rfl | rfl | rfl | rfl | rfl | rfl | rfl <;>
    simp (disch := decide) only [decodeOp2E, OpDBEKSR.pack, slice_low, slice_high, slice_self, Nat.reduceSub, h,
      BitVec.reduceToNat] <;> rfl

theorem OpDBEKSR.decodeOp2E_pack_stochastic (o : OpDBEKSR) (h : badCvtRound o.r true = false) {g : BitVec 5} (hg : g ∈ [10#5,
    11#5, 14#5, 16#5, 17#5, 18#5, 19#5, 20#5, 22#5, 25#5]) :
    decodeOp2E (o.pack 46#8 g 0#1) = decodeOp2E (OpDBEKSR.pack ⟨0, 0, 0, 0, 0, 0⟩ 46#8 g 0#1) := by
  simp only [List.mem_cons, List.not_mem_nil, or_false] at hg
  rcases hg with rfl | rfl | rfl | rfl | rfl | rfl | rfl | rfl | rfl | rfl <;>
    simp (disch := decide) only [decodeOp2E, OpDBEKSR.pack, slice_low, slice_high, slice_self, Nat.reduceSub, h,
      BitVec.reduceToNat] <;> rfl

theorem OpD3ABCEK.decodeOp32_pack (o : OpD3ABCEK) {g : BitVec 4} :
    decodeOp32 (o.pack 50#8 0#2 g) = decodeOp32 (OpD3ABCEK.pack ⟨0, 0, 0, 0, 0, 0⟩ 50#8 0#2 g) := by
  simp (disch := decide) only [decodeOp32, OpD3ABCEK.pack, slice_low, slice_high, slice_self, Nat.reduceSub]

theorem OpD3ABCK.decodeOp36_pack (o : OpD3ABCK) {g : BitVec 4} :
    decodeOp36 (o.pack 54#8 0#2 0#1 g) = decodeOp36 (OpD3ABCK.pack ⟨0, 0, 0, 0, 0⟩ 54#8 0#2 0#1 g) := by
  simp (disch := decide) only [decodeOp36, OpD3ABCK.pack, slice_low, slice_high, slice_self, Nat.reduceSub]

theorem OpD3A3B3CEK.decodeOp3A_pack (o : OpD3A3B3CEK) {g : BitVec 4} (hg : g ∈ [0#4, 1#4, 2#4, 3#4]) :
    decodeOp3A (o.pack 58#8 0#2 0#2 0#2 g) = decodeOp3A (OpD3A3B3CEK.pack ⟨0, 0, 0, 0, 0, 0⟩ 58#8 0#2 0#2 0#2 g) := by
  simp only [List.mem_cons, List.not_mem_nil, or_false] at hg
  rcases hg with rfl | rfl | rfl | rfl <;>
    simp (disch := decide) only [decodeOp3A, OpD3A3B3CEK.pack, slice_low, slice_high, slice_self, Nat.reduceSub,
      BitVec.reduceToNat]

theorem OpD3B3EK.decodeOp3A_pack (o : OpD3B3EK) {g : BitVec 4} (hg : g ∈ [4#4, 5#4]) :
    decodeOp3A (o.pack 58#8 0#7 0#3 g) = decodeOp3A (OpD3B3EK.pack ⟨0, 0, 0, 0⟩ 58#8 0#7 0#3 g) := by
  simp only [List.mem_cons, List.not_mem_nil, or_false] at hg
  rcases hg with rfl | rfl <;>
    simp (disch := decide) only [decodeOp3A, OpD3B3EK.pack, slice_low, slice_high, slice_self, Nat.reduceSub,
      BitVec.reduceToNat]

theorem OpDB3EK.decodeOp3A_pack (o : OpDB3EK) {g : BitVec 4} (hg : g ∈ [6#4, 7#4, 8#4]) :
    decodeOp3A (o.pack 58#8 0#5 0#3 g) = decodeOp3A (OpDB3EK.pack ⟨0, 0, 0, 0⟩ 58#8 0#5 0#3 g) := by
  simp only [List.mem_cons, List.not_mem_nil, or_false] at hg
  rcases hg with rfl | rfl | rfl <;>
    simp (disch := decide) only [decodeOp3A, OpDB3EK.pack, slice_low, slice_high, slice_self, Nat.reduceSub, BitVec.reduceToNat]

theorem OpDABCEK.decodeOp3A_pack (o : OpDABCEK) : decodeOp3A (o.pack 58#8 9#4) = .ok .vmerge := by
  simp (disch := decide) only [decodeOp3A, OpDABCEK.pack, slice_low, slice_high, slice_self, Nat.reduceSub]
  rfl

theorem OpDBEK.decodeOp3A_pack (o : OpDBEK) {g : BitVec 4} (hg : g ∈ [10#4, 11#4]) :
    decodeOp3A (o.pack 58#8 0#5 0#1 g) = decodeOp3A (OpDBEK.pack ⟨0, 0, 0, 0⟩ 58#8 0#5 0#1 g) := by
  simp only [List.mem_cons, List.not_mem_nil, or_false] at hg
  rcases hg with rfl | rfl <;>
    simp (disch := decide) only [decodeOp3A, OpDBEK.pack, slice_low, slice_high, slice_self, Nat.reduceSub, BitVec.reduceToNat]

theorem OpD3ABK.decodeOp3A_pack (o : OpD3ABK) : decodeOp3A (o.pack 58#8 0#2 0#2 12#4) = .ok .ksetx := by
  simp (disch := decide) only [decodeOp3A, OpD3ABK.pack, slice_low, slice_high, slice_self, Nat.reduceSub]
  rfl

theorem OpDABCK.decodeOp3E_pack (o : OpDABCK) {g : BitVec 4} (hg : g ∈ [0#4, 1#4, 3#4]) :
    decodeOp3E (o.pack 62#8 0#1 g) = decodeOp3E (OpDABCK.pack ⟨0, 0, 0, 0, 0⟩ 62#8 0#1 g) := by
  simp only [List.mem_cons, List.not_mem_nil, or_false] at hg
  rcases hg with rfl | rfl | rfl <;>
    simp (disch := decide) only [decodeOp3E, OpDABCK.pack, slice_low, slice_high, slice_self, Nat.reduceSub, BitVec.reduceToNat]

theorem OpDABCEK.decodeOp3E_pack (o : OpDABCEK) {g : BitVec 4} (hg : g ∈ [2#4, 6#4]) :
    decodeOp3E (o.pack 62#8 g) = decodeOp3E (OpDABCEK.pack ⟨0, 0, 0, 0, 0, 0⟩ 62#8 g) := by
  simp only [List.mem_cons, List.not_mem_nil, or_false] at hg
  rcases hg with rfl | rfl <;>
    simp (disch := decide) only [decodeOp3E, OpDABCEK.pack, slice_high, slice_self, Nat.reduceSub, BitVec.reduceToNat]

theorem OpDABC.decodeOp3E_pack (o : OpDABC) : decodeOp3E (o.pack 62#8 64#8) = .ok .vextract := by
  simp (disch := decide) only [decodeOp3E, OpDABC.pack, slice_low, slice_high, slice_self, Nat.reduceSub]
  rfl

theorem OpDAB.decodeOp3E_pack (o : OpDAB) : decodeOp3E (o.pack 62#8 160#9) = .ok .vinsert := by
  simp (disch := decide) only [decodeOp3E, OpDAB.pack, slice_low, slice_high, slice_self, Nat.reduceSub]
  rfl

theorem OpDACK.decodeOp3E_pack (o : OpDACK) : decodeOp3E (o.pack 62#8 0#5 0#1 7#4) = .ok .vdilv := by
  simp (disch := decide) only [decodeOp3E, OpDACK.pack, slice_low, slice_high, slice_self, Nat.reduceSub]
  rfl

theorem OpDK.decodeOp3E_pack (o : OpDK) : decodeOp3E (o.pack 62#8 0#12 8#4) = .ok .vid := by
  simp (disch := decide) only [decodeOp3E, OpDK.pack, slice_low, slice_high, slice_self, Nat.reduceSub]
  rfl

theorem OpDAK.decodeOp3E_pack (o : OpDAK) : decodeOp3E (o.pack 62#8 0#7 9#4) = .ok .vrand := by
  simp (disch := decide) only [decodeOp3E, OpDAK.pack, slice_low, slice_high, slice_self, Nat.reduceSub]
  rfl

theorem OpDBEK.decodeOp3E_pack (o : OpDBEK) : decodeOp3E (o.pack 62#8 0#5 0#1 10#4) = .ok .vmvV := by
  simp (disch := decide) only [decodeOp3E, OpDBEK.pack, slice_low, slice_high, slice_self, Nat.reduceSub]
  rfl

theorem OpDBK.decodeOp3E_pack (o : OpDBK) : decodeOp3E (o.pack 62#8 1#5 0#2 10#4) = .ok .vmvX := by
  simp (disch := decide) only [decodeOp3E, OpDBK.pack, slice_low, slice_high, slice_self, Nat.reduceSub]
  rfl

theorem OpDABCEK.decodeOp42_pack (o : OpDABCEK) {g : BitVec 4} :
    decodeOp42 (o.pack 66#8 g) = decodeOp42 (OpDABCEK.pack ⟨0, 0, 0, 0, 0, 0⟩ 66#8 g) := by
  simp (disch := decide) only [decodeOp42, OpDABCEK.pack, slice_high, slice_self, Nat.reduceSub]

theorem OpDABCK.decodeOp46_pack (o : OpDABCK) {g : BitVec 4} :
    decodeOp46 (o.pack 70#8 0#1 g) = decodeOp46 (OpDABCK.pack ⟨0, 0, 0, 0, 0⟩ 70#8 0#1 g) := by
  simp (disch := decide) only [decodeOp46, OpDABCK.pack, slice_low, slice_high, slice_self, Nat.reduceSub]

theorem OpDABI.decodeOp4A_pack (o : OpDABI) : decodeOp4A (o.pack 74#8 0#1) = .ok .vternlog := by
  simp (disch := decide) only [decodeOp4A, OpDABI.pack, slice_high, slice_self, Nat.reduceSub]
  rfl

theorem OpDAOK.decodeOp4E_pack (o : OpDAOK) : decodeOp4E (o.pack 78#8 0#6 0#4) = .ok .vld := by
  simp (disch := decide) only [decodeOp4E, OpDAOK.pack, slice_low, slice_high, slice_self, Nat.reduceSub]
  rfl

theorem OpDA.decodeOp4E_pack (o : OpDA) : decodeOp4E (o.pack 78#8 1024#14) = .ok .vldReg := by
  simp (disch := decide) only [decodeOp4E, OpDA.pack, slice_high, Nat.reduceSub]
  rfl

theorem OpDABOK.decodeOp52_pack (o : OpDABOK) : decodeOp52 (o.pack 82#8 0#1 0#4) = .ok .vlds := by
  simp (disch := decide) only [decodeOp52, OpDABOK.pack, slice_low, slice_high, slice_self, Nat.reduceSub]
  rfl

theorem OpDABCOK.decodeOp56_pack (o : OpDABCOK) : decodeOp56 (o.pack 86#8 0#4) = .ok .vldx := by
  simp (disch := decide) only [decodeOp56, OpDABCOK.pack, slice_high, slice_self, Nat.reduceSub]
  rfl

theorem OpDACOK.decodeOp5A_pack (o : OpDACOK) : decodeOp5A (o.pack 90#8 0#5 0#4) = .ok .vst := by
  simp (disch := decide) only [decodeOp5A, OpDACOK.pack, slice_low, slice_high, slice_self, Nat.reduceSub]
  rfl

theorem OpDAC.decodeOp5A_pack (o : OpDAC) : decodeOp5A (o.pack 90#8 0#5 16#8) = .ok .vstReg := by
  simp (disch := decide) only [decodeOp5A, OpDAC.pack, slice_low, slice_high, slice_self, Nat.reduceSub]
  rfl

theorem OpDABCOK.decodeOp5E_pack (o : OpDABCOK) : decodeOp5E (o.pack 94#8 0#4) = .ok .vsts := by
  simp (disch := decide) only [decodeOp5E, OpDABCOK.pack, slice_high, slice_self, Nat.reduceSub]
  rfl

theorem OpDABCOK.decodeOp62_pack (o : OpDABCOK) : decodeOp62 (o.pack 98#8 0#4) = .ok .vstx := by
  simp (disch := decide) only [decodeOp62, OpDABCOK.pack, slice_high, slice_self, Nat.reduceSub]
  rfl

theorem OpDABCK.decodeOp66_pack (o : OpDABCK) : decodeOp66 (o.pack 102#8 0#1 0#4) = .ok .vgll := by
  simp (disch := decide) only [decodeOp66, OpDABCK.pack, slice_low, slice_high, slice_self, Nat.reduceSub]
  rfl

theorem OpDABCK.decodeOp6A_pack (o : OpDABCK) (h : (o.k == 0#3) = false) : decodeOp6A (o.pack 106#8 0#1 0#4) = .ok .vscc := by
  simp (disch := decide) only [decodeOp6A, OpDABCK.pack, slice_low, slice_high, slice_self, Nat.reduceSub, h]
  rfl

theorem OpDABCK.decodeOp6E_pack (o : OpDABCK) : decodeOp6E (o.pack 110#8 0#1 0#4) = .ok .vacc := by
  simp (disch := decide) only [decodeOp6E, OpDABCK.pack, slice_low, slice_high, slice_self, Nat.reduceSub]
  rfl

theorem OpDABK.decodeOp72_pack (o : OpDABK) {g : BitVec 4} :
    decodeOp72 (o.pack 114#8 0#2 g) = decodeOp72 (OpDABK.pack ⟨0, 0, 0, 0⟩ 114#8 0#2 g) := by
  simp (disch := decide) only [decodeOp72, OpDABK.pack, slice_low, slice_high, slice_self, Nat.reduceSub]

theorem OpDABCEK.decodeOp76_pack (o : OpDABCEK) {g : BitVec 4} (hg : g ∈ [0#4, 1#4, 4#4, 7#4]) :
    decodeOp76 (o.pack 118#8 g) = decodeOp76 (OpDABCEK.pack ⟨0, 0, 0, 0, 0, 0⟩ 118#8 g) := by
  simp only [List.mem_cons, List.not_mem_nil, or_false] at hg
  rcases hg with rfl | rfl | rfl | rfl <;>
    simp (disch := decide) only [decodeOp76, OpDABCEK.pack, slice_high, slice_self, Nat.reduceSub, BitVec.reduceToNat]

theorem OpDBEK.decodeOp76_pack (o : OpDBEK) {g : BitVec 4} (hg : g ∈ [2#4, 3#4, 5#4, 6#4]) :
    decodeOp76 (o.pack 118#8 0#5 0#1 g) = decodeOp76 (OpDBEK.pack ⟨0, 0, 0, 0⟩ 118#8 0#5 0#1 g) := by
  simp only [List.mem_cons, List.not_mem_nil, or_false] at hg
  rcases hg with rfl | rfl | rfl | rfl <;>
    simp (disch := decide) only [decodeOp76, OpDBEK.pack, slice_low, slice_high, slice_self, Nat.reduceSub, BitVec.reduceToNat]

theorem OpDABCK.decodeOp7A_pack (o : OpDABCK) {g : BitVec 4} :
    decodeOp7A (o.pack 122#8 0#1 g) = decodeOp7A (OpDABCK.pack ⟨0, 0, 0, 0, 0⟩ 122#8 0#1 g) := by
  simp (disch := decide) only [decodeOp7A, OpDABCK.pack, slice_low, slice_high, slice_self, Nat.reduceSub]

theorem OpDABCK.decodeOp7E_pack (o : OpDABCK) {g : BitVec 4} (hg : g ∈ [0#4, 1#4]) :
    decodeOp7E (o.pack 126#8 0#1 g) = decodeOp7E (OpDABCK.pack ⟨0, 0, 0, 0, 0⟩ 126#8 0#1 g) := by
  simp only [List.mem_cons, List.not_mem_nil, or_false] at hg
  rcases hg with rfl | rfl <;>
    simp (disch := decide) only [decodeOp7E, OpDABCK.pack, slice_low, slice_high, slice_self, Nat.reduceSub, BitVec.reduceToNat]

theorem OpDABEK.decodeOp7E_pack (o : OpDABEK) {g : BitVec 4} (hg : g ∈ [2#4, 3#4]) :
    decodeOp7E (o.pack 126#8 0#1 g) = decodeOp7E (OpDABEK.pack ⟨0, 0, 0, 0, 0⟩ 126#8 0#1 g) := by
  simp only [List.mem_cons, List.not_mem_nil, or_false] at hg
  rcases hg with rfl | rfl <;>
    simp (disch := decide) only [decodeOp7E, OpDABEK.pack, slice_low, slice_high, slice_self, Nat.reduceSub, BitVec.reduceToNat]

theorem OpDAB.decodeOp82_pack (o : OpDAB) : decodeOp82 (o.pack 130#8 0#9) = .ok .recur := by
  simp (disch := decide) only [decodeOp82, OpDAB.pack, slice_low, slice_high, slice_self, Nat.reduceSub]
  rfl

theorem OpACK.decodeOp82_pack (o : OpACK) {g : BitVec 4} (hg : g ∈ [1#4, 2#4]) :
    decodeOp82 (o.pack 130#13 0#5 0#1 g) = decodeOp82 (OpACK.pack ⟨0, 0, 0⟩ 130#13 0#5 0#1 g) := by
  simp only [List.mem_cons, List.not_mem_nil, or_false] at hg
  rcases hg with rfl | rfl <;>
    simp (disch := decide) only [decodeOp82, OpACK.pack, slice_low, slice_high, slice_self, Nat.reduceSub,
      BitVec.reduceExtractLsb', BitVec.reduceToNat]

theorem OpDBK.decodeOp82_pack (o : OpDBK) : decodeOp82 (o.pack 130#8 0#5 0#2 3#4) = .ok .rkids := by
  simp (disch := decide) only [decodeOp82, OpDBK.pack, slice_low, slice_high, slice_self, Nat.reduceSub]
  rfl

theorem OpDK.decodeOp82_pack (o : OpDK) {g : BitVec 4} (hg : g ∈ [4#4, 5#4]) :
    decodeOp82 (o.pack 130#8 0#12 g) = decodeOp82 (OpDK.pack ⟨0, 0⟩ 130#8 0#12 g) := by
  simp only [List.mem_cons, List.not_mem_nil, or_false] at hg
  rcases hg with rfl | rfl <;>
    simp (disch := decide) only [decodeOp82, OpDK.pack, slice_low, slice_high, slice_self, Nat.reduceSub,  BitVec.reduceToNat]

theorem OpD.decodeOp86_pack (o : OpD) (h : decide (1#5 < o.d) = false) : decodeOp86 (o.pack 134#8 0#19) = .ok .mzero := by
  simp (disch := decide) only [decodeOp86, OpD.pack, slice_low, slice_high, slice_self, Nat.reduceSub, h]
  rfl

theorem OpDABK.decodeOp86_pack (o : OpDABK) (h : decide (1#5 < o.a) = false) {g : BitVec 4} (hg : g ∈ [1#4, 3#4]) :
    decodeOp86 (o.pack 134#8 0#2 g) = decodeOp86 (OpDABK.pack ⟨0, 0, 0, 0⟩ 134#8 0#2 g) := by
  simp only [List.mem_cons, List.not_mem_nil, or_false] at hg
  rcases hg with rfl | rfl <;>
    simp (disch := decide) only [decodeOp86, OpDABK.pack, slice_low, slice_high, slice_self, Nat.reduceSub, h,
      BitVec.reduceToNat] <;> rfl

theorem OpDABCK.decodeOp86_pack (o : OpDABCK) (h : decide (1#5 < o.d) = false) {g : BitVec 4} (hg : g ∈ [2#4, 4#4]) :
    decodeOp86 (o.pack 134#8 0#1 g) = decodeOp86 (OpDABCK.pack ⟨0, 0, 0, 0, 0⟩ 134#8 0#1 g) := by
  simp only [List.mem_cons, List.not_mem_nil, or_false] at hg
  rcases hg with rfl | rfl <;>
    simp (disch := decide) only [decodeOp86, OpDABCK.pack, slice_low, slice_high, slice_self, Nat.reduceSub, h,
      BitVec.reduceToNat] <;> rfl

theorem OpDAB.decodeOp86_pack (o : OpDAB) (h : decide (1#5 < o.d) = false) {g : BitVec 9} (hg : g ∈ [160#9, 192#9]) :
    decodeOp86 (o.pack 134#8 g) = decodeOp86 (OpDAB.pack ⟨0, 0, 0⟩ 134#8 g) := by
  simp only [List.mem_cons, List.not_mem_nil, or_false] at hg
  rcases hg with rfl | rfl <;>
    simp (disch := decide) only [decodeOp86, OpDAB.pack, slice_low, slice_high, slice_self, Nat.reduceSub, h,
      BitVec.reduceExtractLsb', BitVec.reduceToNat] <;> rfl

theorem OpAB.decodeOp8A_pack (o : OpAB) {g : BitVec 9} :
    decodeOp8A (o.pack 138#13 g) = decodeOp8A (OpAB.pack ⟨0, 0⟩ 138#13 g) := by
  simp (disch := decide) only [decodeOp8A, OpAB.pack, slice_low, slice_high, Nat.reduceSub]

/-! ## The compressed forms and the tile forms (R73, R74) -/

theorem OpCDI.pack_fields (o : OpCDI) (g0 : BitVec 6) : OpCDI.get (o.pack g0) = o ∧ (o.pack g0).extractLsb' 0 6 = g0 := by
  simp (disch := decide) only [OpCDI.get, OpCDI.pack, slice_low, slice_high, slice_self, Nat.reduceSub, and_self]

theorem OpCDS.pack_fields (o : OpCDS) (g0 : BitVec 6) : OpCDS.get (o.pack g0) = o ∧ (o.pack g0).extractLsb' 0 6 = g0 := by
  simp (disch := decide) only [OpCDS.get, OpCDS.pack, slice_low, slice_high, slice_self, Nat.reduceSub, and_self]

theorem OpCDAO.pack_fields (o : OpCDAO) (g0 : BitVec 6) : OpCDAO.get (o.pack g0) = o ∧ (o.pack g0).extractLsb' 0 6 = g0 := by
  simp (disch := decide) only [OpCDAO.get, OpCDAO.pack, slice_low, slice_high, slice_self, Nat.reduceSub, and_self]

theorem OpCSAO.pack_fields (o : OpCSAO) (g0 : BitVec 6) : OpCSAO.get (o.pack g0) = o ∧ (o.pack g0).extractLsb' 0 6 = g0 := by
  simp (disch := decide) only [OpCSAO.get, OpCSAO.pack, slice_low, slice_high, slice_self, Nat.reduceSub, and_self]

theorem OpCO.pack_fields (o : OpCO) (g0 : BitVec 6) : OpCO.get (o.pack g0) = o ∧ (o.pack g0).extractLsb' 0 6 = g0 := by
  simp (disch := decide) only [OpCO.get, OpCO.pack, slice_low, slice_high, slice_self, Nat.reduceSub, and_self]

theorem OpCSO.pack_fields (o : OpCSO) (g0 : BitVec 6) : OpCSO.get (o.pack g0) = o ∧ (o.pack g0).extractLsb' 0 6 = g0 := by
  simp (disch := decide) only [OpCSO.get, OpCSO.pack, slice_low, slice_high, slice_self, Nat.reduceSub, and_self]

theorem OpCA.pack_fields (o : OpCA) (g0 : BitVec 6) (g1 : BitVec 5) :
    OpCA.get (o.pack g0 g1) = o ∧ (o.pack g0 g1).extractLsb' 0 6 = g0 := by
  simp (disch := decide) only [OpCA.get, OpCA.pack, slice_low, slice_high, slice_self, Nat.reduceSub, and_self]

theorem OpTile.pack_fields (o : OpTile) (kind : BitVec 6) :
    OpTile.get (o.pack kind) = o ∧ (o.pack kind).extractLsb' 0 2 = 3#2 := by
  simp (disch := decide) only [OpTile.get, OpTile.pack, slice_low, slice_high, slice_self, Nat.reduceSub, and_self]

/-- A compressed operation that is not 0 is not in the halfword 0. -/
theorem halfword_ne_zero {w : BitVec 16} {c : BitVec 6} (h : w.extractLsb' 0 6 = c) (hc : c ≠ 0#6) : w ≠ 0#16 := by
  rintro rfl
  exact hc h.symm

theorem OpCDI.decode16_cAddi (o : OpCDI) (h : (o.d == 0#5) = false) : decode16 (o.pack 4#6) = .ok .cAddi := by
  rw [decode16, if_neg (halfword_ne_zero (o.pack_fields 4#6).2 (by decide))]
  simp (disch := decide) only [OpCDI.pack, slice_low, slice_high, slice_self, Nat.reduceSub, BitVec.reduceExtractLsb',
    BitVec.reduceToNat, if_neg (ne_of_beq_false h)]

theorem OpCDS.decode16_cMv (o : OpCDS) (h : (o.d == 0#5) = false) : decode16 (o.pack 8#6) = .ok .cMv := by
  rw [decode16, if_neg (halfword_ne_zero (o.pack_fields 8#6).2 (by decide))]
  simp (disch := decide) only [OpCDS.pack, slice_low, slice_high, slice_self, Nat.reduceSub, BitVec.reduceExtractLsb',
    BitVec.reduceToNat, if_neg (ne_of_beq_false h)]

theorem OpCDS.decode16_cAdd (o : OpCDS) (h : (o.d == 0#5) = false) : decode16 (o.pack 12#6) = .ok .cAdd := by
  rw [decode16, if_neg (halfword_ne_zero (o.pack_fields 12#6).2 (by decide))]
  simp (disch := decide) only [OpCDS.pack, slice_low, slice_high, slice_self, Nat.reduceSub, BitVec.reduceExtractLsb',
    BitVec.reduceToNat, if_neg (ne_of_beq_false h)]

theorem OpCDS.decode16_cSub (o : OpCDS) (h : (o.d == 0#5) = false) : decode16 (o.pack 16#6) = .ok .cSub := by
  rw [decode16, if_neg (halfword_ne_zero (o.pack_fields 16#6).2 (by decide))]
  simp (disch := decide) only [OpCDS.pack, slice_low, slice_high, slice_self, Nat.reduceSub, BitVec.reduceExtractLsb',
    BitVec.reduceToNat, if_neg (ne_of_beq_false h)]

theorem OpCDAO.decode16_cLd (o : OpCDAO) : decode16 (o.pack 20#6) = .ok .cLd := by
  rw [decode16, if_neg (halfword_ne_zero (o.pack_fields 20#6).2 (by decide))]
  simp (disch := decide) only [OpCDAO.pack, slice_low, BitVec.reduceExtractLsb', BitVec.reduceToNat]

theorem OpCSAO.decode16_cSd (o : OpCSAO) : decode16 (o.pack 24#6) = .ok .cSd := by
  rw [decode16, if_neg (halfword_ne_zero (o.pack_fields 24#6).2 (by decide))]
  simp (disch := decide) only [OpCSAO.pack, slice_low, BitVec.reduceExtractLsb', BitVec.reduceToNat]

theorem OpCDAO.decode16_cLw (o : OpCDAO) : decode16 (o.pack 28#6) = .ok .cLw := by
  rw [decode16, if_neg (halfword_ne_zero (o.pack_fields 28#6).2 (by decide))]
  simp (disch := decide) only [OpCDAO.pack, slice_low, BitVec.reduceExtractLsb', BitVec.reduceToNat]

theorem OpCSAO.decode16_cSw (o : OpCSAO) : decode16 (o.pack 32#6) = .ok .cSw := by
  rw [decode16, if_neg (halfword_ne_zero (o.pack_fields 32#6).2 (by decide))]
  simp (disch := decide) only [OpCSAO.pack, slice_low, BitVec.reduceExtractLsb', BitVec.reduceToNat]

theorem OpCO.decode16_cJ (o : OpCO) : decode16 (o.pack 36#6) = .ok .cJ := by
  rw [decode16, if_neg (halfword_ne_zero (o.pack_fields 36#6).2 (by decide))]
  simp (disch := decide) only [OpCO.pack, slice_low, BitVec.reduceExtractLsb', BitVec.reduceToNat]

theorem OpCSO.decode16_cBeqz (o : OpCSO) : decode16 (o.pack 40#6) = .ok .cBeqz := by
  rw [decode16, if_neg (halfword_ne_zero (o.pack_fields 40#6).2 (by decide))]
  simp (disch := decide) only [OpCSO.pack, slice_low, BitVec.reduceExtractLsb', BitVec.reduceToNat]

theorem OpCSO.decode16_cBnez (o : OpCSO) : decode16 (o.pack 44#6) = .ok .cBnez := by
  rw [decode16, if_neg (halfword_ne_zero (o.pack_fields 44#6).2 (by decide))]
  simp (disch := decide) only [OpCSO.pack, slice_low, BitVec.reduceExtractLsb', BitVec.reduceToNat]

theorem OpCA.decode16_cVfetch (o : OpCA) : decode16 (o.pack 48#6 0#5) = .ok .cVfetch := by
  rw [decode16, if_neg (halfword_ne_zero (o.pack_fields 48#6 0#5).2 (by decide))]
  simp (disch := decide) only [OpCA.pack, slice_low, slice_high, slice_self, Nat.reduceSub, BitVec.reduceExtractLsb',
    BitVec.reduceToNat]
  rfl

theorem OpTile.decode64_opacc (o : OpTile) (h : (badRound o.arnd || decide (3#3 < o.fb) || decide (3#3 < o.fa) || decide
    (1#5 < o.zd)) = false) :
    decode64 (o.pack 0#6) = .ok .opacc := by
  simp only [Bool.or_eq_false_iff] at h
  obtain ⟨⟨⟨hr, hb⟩, ha⟩, hz⟩ := h
  simp (disch := decide) only [decode64, OpTile.pack, slice_low, slice_high, slice_self, Nat.reduceSub, hr, hb, ha, hz,
    BitVec.reduceToNat]
  rfl

theorem OpTile.decode64_opsub (o : OpTile) (h : (badRound o.arnd || decide (3#3 < o.fb) || decide (3#3 < o.fa) || decide
    (1#5 < o.zd)) = false) :
    decode64 (o.pack 1#6) = .ok .opsub := by
  simp only [Bool.or_eq_false_iff] at h
  obtain ⟨⟨⟨hr, hb⟩, ha⟩, hz⟩ := h
  simp (disch := decide) only [decode64, OpTile.pack, slice_low, slice_high, slice_self, Nat.reduceSub, hr, hb, ha, hz,
    BitVec.reduceToNat]
  rfl

theorem OpTile.decode64_opaccw (o : OpTile) (h : (badRound o.arnd || decide (3#3 < o.fb) || decide
    (3#3 < o.fa) || o.fb == 0#3 || decide (1#5 < o.zd)) = false) :
    decode64 (o.pack 2#6) = .ok .opaccw := by
  simp only [Bool.or_eq_false_iff] at h
  obtain ⟨⟨⟨⟨hr, hb⟩, ha⟩, hb0⟩, hz⟩ := h
  simp (disch := decide) only [decode64, OpTile.pack, slice_low, slice_high, slice_self, Nat.reduceSub, hr, hb, ha, hb0, hz,
    BitVec.reduceToNat]
  rfl

/-! ## Every instruction that has an encoding -/

theorem Instr.decodes (i : Instr) (hwf : i.wf = true) (hlen : i.len ≠ 0) : Decodes i := by
  cases i with
  | powerGood | bringupStageComplete | ctrlWreset | ctrlBootretry | ctrlModelock | ctrlCfglock | ctrlWinlock | hsemRead
  | hsemRelease | funcmodeWrite | registerWrite | hostLinkDown | wakeWindowWrite | evackWrite | eventPost | launchRequestGo
  | sealWindowSeal | sealWindowRevoke | preemptTimer | preemptHost | migrationGo | migrationRetire | watchdogWrite
  | watchdogExpiry | backgroundInitRegion | graphSubmissionPop | nodeStart | readyRingPost | nodeFinish | remoteSuccessorReady
  | completionPushRetry | admissionGranted | jobComplete | jobEndByRecovery | stripBoundaryGrantChange | forcedBoundary
  | leaseStallPreempt | clusterRetire | vectorEntryComplete | readQueueReturn | blockGroupCommit | stripAssign
  | hartHaltComplete | trapTake | translationFaultReply | engineTransferStart | engineChunkComplete | engineTransferComplete
  | mdrainTransferComplete | recursionPassComplete | directoryReadRequest | directoryWriteRequest | invalidation
  | invalidationAck | evictionNotice | forwardSnoop | writeBack | backInvalidation | uRequest | mergeRequest | mergeResponse
  | movedResponse | hostCxlRequest | bisnpResponse | hostSnoop | dieResetRecall | dieReturn | memoryScrub | correctedError
  | burzerCrcReplay | burzerHeartbeat | peerSilenceTimeout | spareAssign | checkpointRestore | checkpointWrite
  | thermalShutdown | coolantLossShutdown | clockThrottle | wfeTimeout | waitmTimeout | inboundPeerAccess | spdmRequest
  | bar2Access | ioDomainPowerLoss | powerLoss | cycleCountAdvance =>
    exact absurd rfl hlen
  | add o | sub o | and o | or o | xor o | sll o | srl o | sra o | slt o | sltn o | min o | max o | minn o | maxn o | andn o
  | orn o | rol o | ror o | addw o | subw o =>
    exact .of32 rfl (o.pack_fields _ _) decode32_01 (o.decodeOp01_pack.trans rfl)
  | mul o | mulh o | mulhn o | mulhsn o | div o | divn o | rem o | remn o =>
    exact .of32 rfl (o.pack_fields _ _) decode32_05 (o.decodeOp05_pack.trans rfl)
  | fadd o | fsub o | fmul o | fdiv o =>
    exact .of32 rfl (o.pack_fields _ _) decode32_09 ((o.decodeOp09_pack (eq_false_of_not_eq_true' hwf) (by decide)).trans rfl)
  | fsqrt o =>
    exact .of32 rfl (o.pack_fields _ _) decode32_09 (o.decodeOp09_pack (eq_false_of_not_eq_true' hwf))
  | fmin o | fmax o | fsgnj o | fsgnjn o | fsgnjx o | feq o | flt o | fle o =>
    exact .of32 rfl (o.pack_fields _ _ _) decode32_09 ((o.decodeOp09_pack (by decide)).trans rfl)
  | fclass o =>
    exact .of32 rfl (o.pack_fields _ _ _) decode32_09 o.decodeOp09_pack
  | fma o | fms o | fnma o | fnms o =>
    exact .of32 rfl (o.pack_fields _ _ _) decode32_0D (o.decodeOp0D_pack.trans rfl)
  | slli o | srli o | srai o | roli o =>
    exact .of32 rfl (o.pack_fields _ _) decode32_29 (o.decodeOp29_pack.trans rfl)
  | amoswapW o | amoaddW o | amoandW o | amoorW o | amoxorW o | amominW o | amomaxW o | amominnW o | amomaxnW o =>
    exact .of32 rfl (o.pack_fields _ _) decode32_81 (o.decodeOp81_pack.trans rfl)
  | amoswapD o | amoaddD o | amoandD o | amoorD o | amoxorD o | amominD o | amomaxD o | amominnD o | amomaxnD o =>
    exact .of32 rfl (o.pack_fields _ _) decode32_85 (o.decodeOp85_pack.trans rfl)
  | cas o =>
    exact .of32 rfl (o.pack_fields _ _) decode32_89 o.decodeOp89_pack
  | fence o =>
    exact .of32 rfl (o.pack_fields _ _) decode32_8D (o.decodeOp8D_pack (eq_false_of_not_eq_true' hwf))
  | waitm o | arrive o | await o =>
    exact .of32 rfl (o.pack_fields _ _) decode32_8D ((o.decodeOp8D_pack (by decide)).trans rfl)
  | gbar o | gbarRlx o =>
    exact .of32 rfl (o.pack_fields _ _) decode32_8D ((o.decodeOp8D_pack (by decide)).trans rfl)
  | csrrw o =>
    exact .of32 rfl (o.pack_fields _ _) decode32_91 (o.decodeOp91_pack (eq_false_of_not_eq_true' hwf))
  | csrrs o | csrrc o =>
    exact .of32 rfl (o.pack_fields _ _) decode32_91
      ((o.decodeOp91_pack_setClear (eq_false_of_not_eq_true' hwf) (by decide)).trans rfl)
  | csrrwi o =>
    exact .of32 rfl (o.pack_fields _ _) decode32_91 (o.decodeOp91_pack (eq_false_of_not_eq_true' hwf))
  | csrrsi o | csrrci o =>
    exact .of32 rfl (o.pack_fields _ _) decode32_91
      ((o.decodeOp91_pack_setClear (eq_false_of_not_eq_true' hwf) (by decide)).trans rfl)
  | trap o | vqsave o | vqload o | finval o =>
    exact .of32 rfl (o.pack_fields _ _) decode32_95 ((o.decodeOp95_pack (by decide)).trans rfl)
  | tlbinv o | cflush o | cinval o =>
    exact .of32 rfl (o.pack_fields _ _) decode32_95 ((o.decodeOp95_pack (by decide)).trans rfl)
  | pin o | unpin o =>
    exact .of32 rfl (o.pack_fields _ _) decode32_95 ((o.decodeOp95_pack (by decide)).trans rfl)
  | clz o | ctz o | popc o | bswap o | sextb o | sexth o | sextw o | zextb o | zexth o | zextw o =>
    exact .of32 rfl (o.pack_fields _ _) decode32_99 (o.decodeOp99_pack.trans rfl)
  | qpush o | qpop o | qpeek o | qwake o | qrevoke o | qgrow o =>
    exact .of32 rfl (o.pack_fields _ _) decode32_9D ((o.decodeOp9D_pack (by decide)).trans rfl)
  | qseal o =>
    exact .of32 rfl (o.pack_fields _ _) decode32_9D o.decodeOp9D_pack
  | cpy o | nsub o | cpyfill o =>
    exact .of32 rfl (o.pack_fields _ _) decode32_A1 ((o.decodeOpA1_pack (by decide)).trans rfl)
  | cpybt o =>
    exact .of32 rfl (o.pack_fields _ _) decode32_A1 o.decodeOpA1_pack
  | fcvtI32F32 o | fcvtN32F32 o | fcvtI64F32 o | fcvtN64F32 o | fcvtF32I32 o | fcvtF32N32 o | fcvtF32I64 o | fcvtF32N64 o
  | fcvtI32F64 o | fcvtN32F64 o | fcvtI64F64 o | fcvtN64F64 o | fcvtF64I32 o | fcvtF64N32 o | fcvtF64I64 o | fcvtF64N64 o
  | fcvtF32F64 o | fcvtF64F32 o =>
    exact .of32 rfl (o.pack_fields _ _) decode32_A5 ((o.decodeOpA5_pack (eq_false_of_not_eq_true' hwf)).trans rfl)
  | vsetl o | vlease o =>
    exact .of32 rfl (o.pack_fields _ _) decode32_02 ((o.decodeOp02_pack (by decide)).trans rfl)
  | vfork o | vjoin o | mshape o =>
    exact .of32 rfl (o.pack_fields _ _) decode32_02 ((o.decodeOp02_pack (by decide)).trans rfl)
  | vfetch o | mmode o =>
    exact .of32 rfl (o.pack_fields _ _) decode32_02 ((o.decodeOp02_pack (by decide)).trans rfl)
  | vfetchw o =>
    exact .of32 rfl (o.pack_fields _ _) decode32_02 (o.decodeOp02_pack (eq_false_of_not_eq_true' hwf))
  | vloop o =>
    exact .of32 rfl (o.pack_fields _ _) decode32_02 o.decodeOp02_pack
  | vaddVV o | vsubVV o | vrsubVV o | vmulVV o | vmulhVV o | vmulhnVV o | vandVV o | vorVV o | vxorVV o | vsllVV o | vsrlVV o
  | vsraVV o | vminVV o | vmaxVV o | vminnVV o | vmaxnVV o =>
    exact .of32 rfl (o.pack_fields _ _) decode32_06 (o.decodeOp06_pack.trans rfl)
  | vaddVX o | vsubVX o | vrsubVX o | vmulVX o | vmulhVX o | vmulhnVX o | vandVX o | vorVX o | vxorVX o | vsllVX o | vsrlVX o
  | vsraVX o | vminVX o | vmaxVX o | vminnVX o | vmaxnVX o =>
    exact .of32 rfl (o.pack_fields _ _ _) decode32_0A (o.decodeOp0A_pack.trans rfl)
  | vaddVI o | vsubVI o | vrsubVI o | vmulVI o | vmulhVI o | vmulhnVI o | vandVI o | vorVI o | vxorVI o | vsllVI o | vsrlVI o
  | vsraVI o | vminVI o | vmaxVI o | vminnVI o | vmaxnVI o =>
    exact .of32 rfl (o.pack_fields _ _ _) decode32_0E (o.decodeOp0E_pack.trans rfl)
  | vsaddVV o | vssubVV o | vsaddnVV o | vssubnVV o | vdivVV o | vdivnVV o | vremVV o | vremnVV o | vmaccVV o | vnmsacVV o
  | vavgVV o | vavgnVV o =>
    exact .of32 rfl (o.pack_fields _ _) decode32_12 ((o.decodeOp12_pack (by decide)).trans rfl)
  | vsaddVX o | vssubVX o | vsaddnVX o | vssubnVX o | vdivVX o | vdivnVX o | vremVX o | vremnVX o | vmaccVX o | vnmsacVX o
  | vavgVX o | vavgnVX o =>
    exact .of32 rfl (o.pack_fields _ _ _) decode32_16 (o.decodeOp16_pack.trans rfl)
  | vabs o | vneg o | vpopc o | vclz o =>
    exact .of32 rfl (o.pack_fields _ _ _ _) decode32_12 ((o.decodeOp12_pack (by decide)).trans rfl)
  | vwaddVV o | vwaddnVV o | vwsubVV o | vwsubnVV o | vwmulVV o | vwmulnVV o | vwmaccVV o | vwmaccnVV o | vnsrlVV o | vnsraVV o
  | vnclipVV o | vnclipnVV o =>
    exact .of32 rfl (o.pack_fields _ _) decode32_1A (o.decodeOp1A_pack.trans rfl)
  | vwaddVX o | vwaddnVX o | vwsubVX o | vwsubnVX o | vwmulVX o | vwmulnVX o | vwmaccVX o | vwmaccnVX o | vnsrlVX o | vnsraVX o
  | vnclipVX o | vnclipnVX o =>
    exact .of32 rfl (o.pack_fields _ _ _) decode32_1E (o.decodeOp1E_pack.trans rfl)
  | vfaddVV o | vfsubVV o | vfrsubVV o | vfmulVV o | vfdivVV o | vfrdivVV o | vfminVV o | vfmaxVV o | vfsgnjVV o | vfsgnjnVV o
  | vfsgnjxVV o | vfmaVV o | vfmsVV o | vfnmaVV o | vfnmsVV o =>
    exact .of32 rfl (o.pack_fields _ _) decode32_22 (o.decodeOp22_pack.trans rfl)
  | vfaddVX o | vfsubVX o | vfrsubVX o | vfmulVX o | vfdivVX o | vfrdivVX o | vfminVX o | vfmaxVX o | vfsgnjVX o | vfsgnjnVX o
  | vfsgnjxVX o | vfmaVX o | vfmsVX o | vfnmaVX o | vfnmsVX o =>
    exact .of32 rfl (o.pack_fields _ _ _) decode32_26 (o.decodeOp26_pack.trans rfl)
  | vfsqrt o | vfrcp o | vfrsq o | vfexp2 o | vflog2 o | vfsinp o | vfcosp o | vftanh o | vfabs o | vfneg o | vfclass o
  | vffloor o | vfceil o | vfround o =>
    exact .of32 rfl (o.pack_fields _ _ _) decode32_2A ((o.decodeOp2A_pack (eq_false_of_not_eq_true' hwf)).trans rfl)
  | vcvtI32F32 o | vcvtN32F32 o | vcvtF32I32 o | vcvtF32N32 o | vcvtI64F64 o | vcvtN64F64 o | vcvtF64I64 o | vcvtF64N64 o
  | vcvtF64F32 o | vcvtF32F64 o | vcvtF32H o | vcvtF32Bf o | vcvtF32B8 o | vcvtF32E4 o | vcvtQ4F32 o | vcvtF32Q4 o =>
    exact .of32 rfl (o.pack_fields _ _ _) decode32_2E ((o.decodeOp2E_pack (eq_false_of_not_eq_true' hwf) (by decide)).trans rfl)
  | vcvtHF32 o | vcvtBfF32 o | vcvtB8F32 o | vcvtB8H o | vcvtHB8 o | vcvtB8Bf o | vcvtBfB8 o | vcvtE4F32 o | vcvtHE4 o
  | vcvtHQ4 o =>
    exact .of32 rfl (o.pack_fields _ _ _) decode32_2E
      ((o.decodeOp2E_pack_stochastic (eq_false_of_not_eq_true' hwf) (by decide)).trans rfl)
  | vcmpEqVV o | vcmpNeVV o | vcmpLtVV o | vcmpLeVV o | vcmpLtnVV o | vcmpLenVV o | vcmpGtVV o | vcmpGeVV o | vcmpFeqVV o
  | vcmpFneVV o | vcmpFltVV o | vcmpFleVV o | vcmpFgtVV o | vcmpFgeVV o | vcmpFunordVV o | vcmpFordVV o =>
    exact .of32 rfl (o.pack_fields _ _ _) decode32_32 (o.decodeOp32_pack.trans rfl)
  | vcmpEqVX o | vcmpNeVX o | vcmpLtVX o | vcmpLeVX o | vcmpLtnVX o | vcmpLenVX o | vcmpGtVX o | vcmpGeVX o | vcmpFeqVX o
  | vcmpFneVX o | vcmpFltVX o | vcmpFleVX o | vcmpFgtVX o | vcmpFgeVX o | vcmpFunordVX o | vcmpFordVX o =>
    exact .of32 rfl (o.pack_fields _ _ _ _) decode32_36 (o.decodeOp36_pack.trans rfl)
  | kand o | kor o | kxor o | kandn o =>
    exact .of32 rfl (o.pack_fields _ _ _ _ _) decode32_3A ((o.decodeOp3A_pack (by decide)).trans rfl)
  | knot o | kmov o =>
    exact .of32 rfl (o.pack_fields _ _ _ _) decode32_3A ((o.decodeOp3A_pack (by decide)).trans rfl)
  | kpop o | kfirst o | kiota o =>
    exact .of32 rfl (o.pack_fields _ _ _ _) decode32_3A ((o.decodeOp3A_pack (by decide)).trans rfl)
  | vmerge o =>
    exact .of32 rfl (o.pack_fields _ _) decode32_3A o.decodeOp3A_pack
  | vcompress o | vexpand o =>
    exact .of32 rfl (o.pack_fields _ _ _ _) decode32_3A ((o.decodeOp3A_pack (by decide)).trans rfl)
  | ksetx o =>
    exact .of32 rfl (o.pack_fields _ _ _ _) decode32_3A o.decodeOp3A_pack
  | vslideup o | vslidedn o | vbcast o =>
    exact .of32 rfl (o.pack_fields _ _ _) decode32_3E ((o.decodeOp3E_pack (by decide)).trans rfl)
  | vpermv o | vilv o =>
    exact .of32 rfl (o.pack_fields _ _) decode32_3E ((o.decodeOp3E_pack (by decide)).trans rfl)
  | vextract o =>
    exact .of32 rfl (o.pack_fields _ _) decode32_3E o.decodeOp3E_pack
  | vinsert o =>
    exact .of32 rfl (o.pack_fields _ _) decode32_3E o.decodeOp3E_pack
  | vdilv o =>
    exact .of32 rfl (o.pack_fields _ _ _ _) decode32_3E o.decodeOp3E_pack
  | vid o =>
    exact .of32 rfl (o.pack_fields _ _ _) decode32_3E o.decodeOp3E_pack
  | vrand o =>
    exact .of32 rfl (o.pack_fields _ _ _) decode32_3E o.decodeOp3E_pack
  | vmvV o =>
    exact .of32 rfl (o.pack_fields _ _ _ _) decode32_3E o.decodeOp3E_pack
  | vmvX o =>
    exact .of32 rfl (o.pack_fields _ _ _ _) decode32_3E o.decodeOp3E_pack
  | vredsum o | vredmin o | vredmax o | vredminn o | vredmaxn o | vredand o | vredor o | vredxor o | vfsum o | vfsumo o
  | vfredmin o | vfredmax o | vwsum o =>
    exact .of32 rfl (o.pack_fields _ _) decode32_42 (o.decodeOp42_pack.trans rfl)
  | vbshl o | vbshr o | vbfun o =>
    exact .of32 rfl (o.pack_fields _ _ _) decode32_46 (o.decodeOp46_pack.trans rfl)
  | vternlog o =>
    exact .of32 rfl (o.pack_fields _ _) decode32_4A o.decodeOp4A_pack
  | vld o =>
    exact .of32 rfl (o.pack_fields _ _ _) decode32_4E o.decodeOp4E_pack
  | vldReg o =>
    exact .of32 rfl (o.pack_fields _ _) decode32_4E o.decodeOp4E_pack
  | vlds o =>
    exact .of32 rfl (o.pack_fields _ _ _) decode32_52 o.decodeOp52_pack
  | vldx o =>
    exact .of32 rfl (o.pack_fields _ _) decode32_56 o.decodeOp56_pack
  | vst o =>
    exact .of32 rfl (o.pack_fields _ _ _) decode32_5A o.decodeOp5A_pack
  | vstReg o =>
    exact .of32 rfl (o.pack_fields _ _ _) decode32_5A o.decodeOp5A_pack
  | vsts o =>
    exact .of32 rfl (o.pack_fields _ _) decode32_5E o.decodeOp5E_pack
  | vstx o =>
    exact .of32 rfl (o.pack_fields _ _) decode32_62 o.decodeOp62_pack
  | vgll o =>
    exact .of32 rfl (o.pack_fields _ _ _) decode32_66 o.decodeOp66_pack
  | vscc o =>
    exact .of32 rfl (o.pack_fields _ _ _) decode32_6A (o.decodeOp6A_pack (eq_false_of_not_eq_true' hwf))
  | vacc o =>
    exact .of32 rfl (o.pack_fields _ _ _) decode32_6E o.decodeOp6E_pack
  | vldwE4H o | vldwE4Bf o | vldwE4B8 o | vldwQ4H o | vldwQ4Bf o | vldwQ4B8 o =>
    exact .of32 rfl (o.pack_fields _ _ _) decode32_72 (o.decodeOp72_pack.trans rfl)
  | gsub o | gadd o | gpack o | gdot o =>
    exact .of32 rfl (o.pack_fields _ _) decode32_76 ((o.decodeOp76_pack (by decide)).trans rfl)
  | glen o | gtag o | gunpack o | grehome o =>
    exact .of32 rfl (o.pack_fields _ _ _ _) decode32_76 ((o.decodeOp76_pack (by decide)).trans rfl)
  | gcvt o | gscl o | gsettag o =>
    exact .of32 rfl (o.pack_fields _ _ _) decode32_7A (o.decodeOp7A_pack.trans rfl)
  | gmorton o | gnbr o =>
    exact .of32 rfl (o.pack_fields _ _ _) decode32_7E ((o.decodeOp7E_pack (by decide)).trans rfl)
  | vcellins o | vcellfind o =>
    exact .of32 rfl (o.pack_fields _ _ _) decode32_7E ((o.decodeOp7E_pack (by decide)).trans rfl)
  | recur o =>
    exact .of32 rfl (o.pack_fields _ _) decode32_82 o.decodeOp82_pack
  | rspawn o | rret o =>
    exact .of32 rfl (o.pack_fields _ _ _ _) decode32_82 ((o.decodeOp82_pack (by decide)).trans rfl)
  | rkids o =>
    exact .of32 rfl (o.pack_fields _ _ _ _) decode32_82 o.decodeOp82_pack
  | rdepth o | rnkid o =>
    exact .of32 rfl (o.pack_fields _ _ _) decode32_82 ((o.decodeOp82_pack (by decide)).trans rfl)
  | mzero o =>
    exact .of32 rfl (o.pack_fields _ _) decode32_86 (o.decodeOp86_pack (eq_false_of_not_eq_true' hwf))
  | mrowv o | mcolv o =>
    exact .of32 rfl (o.pack_fields _ _ _) decode32_86 ((o.decodeOp86_pack (eq_false_of_not_eq_true' hwf) (by decide)).trans rfl)
  | mvrow o | mvcol o =>
    exact .of32 rfl (o.pack_fields _ _ _) decode32_86 ((o.decodeOp86_pack (eq_false_of_not_eq_true' hwf) (by decide)).trans rfl)
  | mdrain o | mload o =>
    exact .of32 rfl (o.pack_fields _ _) decode32_86 ((o.decodeOp86_pack (eq_false_of_not_eq_true' hwf) (by decide)).trans rfl)
  | amerge o | sacc o =>
    exact .of32 rfl (o.pack_fields _ _) decode32_8A (o.decodeOp8A_pack.trans rfl)
  | addi o => exact .of32 rfl (o.pack_fields _) decode32_addi rfl
  | andi o => exact .of32 rfl (o.pack_fields _) decode32_andi rfl
  | ori o => exact .of32 rfl (o.pack_fields _) decode32_ori rfl
  | xori o => exact .of32 rfl (o.pack_fields _) decode32_xori rfl
  | slti o => exact .of32 rfl (o.pack_fields _) decode32_slti rfl
  | sltni o => exact .of32 rfl (o.pack_fields _) decode32_sltni rfl
  | lui o => exact .of32 rfl (o.pack_fields _) decode32_lui rfl
  | auipc o => exact .of32 rfl (o.pack_fields _) decode32_auipc rfl
  | lb o => exact .of32 rfl (o.pack_fields _) decode32_lb rfl
  | lh o => exact .of32 rfl (o.pack_fields _) decode32_lh rfl
  | lw o => exact .of32 rfl (o.pack_fields _) decode32_lw rfl
  | ld o => exact .of32 rfl (o.pack_fields _) decode32_ld rfl
  | lbn o => exact .of32 rfl (o.pack_fields _) decode32_lbn rfl
  | lhn o => exact .of32 rfl (o.pack_fields _) decode32_lhn rfl
  | lwn o => exact .of32 rfl (o.pack_fields _) decode32_lwn rfl
  | sb o => exact .of32 rfl (o.pack_fields _) decode32_sb rfl
  | sh o => exact .of32 rfl (o.pack_fields _) decode32_sh rfl
  | sw o => exact .of32 rfl (o.pack_fields _) decode32_sw rfl
  | sd o => exact .of32 rfl (o.pack_fields _) decode32_sd rfl
  | beq o => exact .of32 rfl (o.pack_fields _) decode32_beq rfl
  | bne o => exact .of32 rfl (o.pack_fields _) decode32_bne rfl
  | blt o => exact .of32 rfl (o.pack_fields _) decode32_blt rfl
  | bge o => exact .of32 rfl (o.pack_fields _) decode32_bge rfl
  | bltn o => exact .of32 rfl (o.pack_fields _) decode32_bltn rfl
  | bgen o => exact .of32 rfl (o.pack_fields _) decode32_bgen rfl
  | jal o => exact .of32 rfl (o.pack_fields _) decode32_jal rfl
  | jalr o => exact .of32 rfl (o.pack_fields _) decode32_jalr rfl
  | pause | trapBrk | tret | halt | wfe | cpywait | vcommit | endb =>
    exact ⟨rfl, rfl⟩
  | cAddi o => exact .of16 rfl (o.pack_fields _) (o.decode16_cAddi (eq_false_of_not_eq_true' hwf))
  | cMv o => exact .of16 rfl (o.pack_fields _) (o.decode16_cMv (eq_false_of_not_eq_true' hwf))
  | cAdd o => exact .of16 rfl (o.pack_fields _) (o.decode16_cAdd (eq_false_of_not_eq_true' hwf))
  | cSub o => exact .of16 rfl (o.pack_fields _) (o.decode16_cSub (eq_false_of_not_eq_true' hwf))
  | cLd o => exact .of16 rfl (o.pack_fields _) o.decode16_cLd
  | cSd o => exact .of16 rfl (o.pack_fields _) o.decode16_cSd
  | cLw o => exact .of16 rfl (o.pack_fields _) o.decode16_cLw
  | cSw o => exact .of16 rfl (o.pack_fields _) o.decode16_cSw
  | cJ o => exact .of16 rfl (o.pack_fields _) o.decode16_cJ
  | cBeqz o => exact .of16 rfl (o.pack_fields _) o.decode16_cBeqz
  | cBnez o => exact .of16 rfl (o.pack_fields _) o.decode16_cBnez
  | cVfetch o => exact .of16 rfl (o.pack_fields _ _) o.decode16_cVfetch
  | opacc o => exact .of64 rfl (o.pack_fields _) (o.decode64_opacc (eq_false_of_not_eq_true' hwf))
  | opsub o => exact .of64 rfl (o.pack_fields _) (o.decode64_opsub (eq_false_of_not_eq_true' hwf))
  | opaccw o => exact .of64 rfl (o.pack_fields _) (o.decode64_opaccw (eq_false_of_not_eq_true' hwf))

/-- Settles O58, instruction by instruction: those of one opcode and layout share a line. -/
theorem encodeDecode : Obligations.EncodeDecode := fun i hwf hlen =>
  ⟨(i.decodes hwf hlen).decode, (i.decodes hwf hlen).len⟩

end Sys2Proof
end

section
/-!
# Words, the step and the compressed forms (O56, O12, O3; R74, R75)
-/

namespace Sys2Proof.Machine

/-- Settles O56: the decoder evaluates each word. -/
theorem decodeWords : Obligations.DecodeWords :=
  ⟨rfl, rfl, rfl, rfl, rfl, rfl, rfl, rfl, rfl, rfl, rfl, rfl, rfl, rfl, rfl, rfl, rfl⟩

/-- Settles O3: each writes one function of the registers. -/
theorem compressedResults : Obligations.CompressedResults :=
  ⟨fun o _ h => State.compute_ready h 2 o.d fun p => p.getX o.d + o.i.signExtend 64,
    fun o _ h => State.compute_ready h 2 o.d fun p => p.getX o.s,
    fun o _ h => State.compute_ready h 2 o.d fun p => p.getX o.d + p.getX o.s,
    fun o _ h => State.compute_ready h 2 o.d fun p => p.getX o.d - p.getX o.s⟩

/-- What a step does with the bits that it fetched. -/
theorem step_of_fetched {s t : State} {w : BitVec 64} (hturns : s.turns = []) (hstill : s.still = false)
    (htrap : s.takeReady = none) (hfetch : s.fetchAt s.hart.pc.toNat = .ok w t) :
    step s = match decode w with
      | .error e => t.raise (controlStop e w)
      | .ok i => exec i t := by
  rw [step, hturns]
  dsimp only
  rw [hartStep, hstill, htrap, hfetch]
  rfl

/-- Bits of an `ENDB` but for its blank fields are a cause of row 3, whatever else is wrong with them (R149). -/
theorem controlStop_endb {e : DecodeError} {w : BitVec 64} (h : w.extractLsb' 0 8 = 0x02#8 ∧ w.extractLsb' 23 9 = 8#9) :
    controlStop e w = { cause := 0x01, tval := instrBits w } := by
  rw [controlStop, bits, bits, h.1, h.2]
  rfl

theorem controlStop_other {e : DecodeError} {w : BitVec 64} (h : ¬(w.extractLsb' 0 8 = 0x02#8 ∧ w.extractLsb' 23 9 = 8#9)) :
    controlStop e w = errorStop e w :=
  if_neg fun hb => h ⟨BitVec.eq_of_toNat_eq hb.1, BitVec.eq_of_toNat_eq hb.2⟩

/-- Settles O12: by what the fetched bits decode to, and the stop of the reason where they decode to nothing. -/
theorem stepRunsDecoded : Obligations.StepRunsDecoded := by
  intro s t w hturns hstill htrap hfetch
  have hstep := step_of_fetched hturns hstill htrap hfetch
  have hraise {e : DecodeError} (he : decode w = .error e) : step s = .next (t.takeTrap (controlStop e w) none) := by
    rw [hstep, he]
    rfl
  refine ⟨fun i hi => by rw [hstep, hi], fun e he hb => by rw [hraise he, controlStop_endb hb], ?_, ?_, ?_, ?_⟩ <;>
    exact fun he hb => by rw [hraise he, controlStop_other hb]; rfl

end Sys2Proof.Machine
end

section
/-!
# Fetch (O13; R66, R67)
-/

namespace Sys2Proof.Machine

variable {s : State} {a pa : Nat} {leaf : Word}

/-! ## Little-endian values -/

theorem Memory.readN_add (m : Memory) (a n k : Nat) : m.readN a (n + k) = m.readN a n + 256 ^ n * m.readN (a + n) k := by
  induction n generalizing a with
  | zero => simp [Memory.readN]
  | succ n ih =>
    rw [Nat.add_right_comm n 1 k, Memory.readN, Memory.readN, ih, Nat.add_right_comm a 1 n, Nat.add_assoc a n 1]
    ring

theorem Memory.readN_two_add (m : Memory) (a k : Nat) : m.readN a (2 + k) = m.readN a 2 + 65536 * m.readN (a + 2) k :=
  m.readN_add a 2 k

/-- The length of an instruction is in the low two bits of its first halfword (R66). -/
theorem lengthOf_ofNat (h : Nat) : lengthOf (BitVec.ofNat 16 h) = if h % 4 = 0 then 2 else if h % 4 = 3 then 8 else 4 := by
  have hlow : ((BitVec.ofNat 16 h).extractLsb' 0 2).toNat = h % 4 := by simp
  have hlt : h % 4 < 4 := Nat.mod_lt _ (by decide)
  rw [lengthOf, hlow]
  interval_cases h % 4 <;> rfl

theorem lengthOf_halves (h : BitVec 16) : ∃ k ≤ 3, lengthOf h = 2 + 2 * k := by
  rw [lengthOf]
  split
  · exact ⟨0, by decide, rfl⟩
  · exact ⟨3, by decide, rfl⟩
  · exact ⟨1, by decide, rfl⟩

/-! ## The halfwords of code -/

/-- A copy that agrees with memory is what is read. -/
theorem State.readCode_agrees (hu : s.ulines = []) (h : s.codeCopy pa = some (s.mem.readN pa 2)) :
    s.readCode pa = (s.mem.readN pa 2, s) := by
  rw [State.readCode, h, State.physRead_nil hu]
  exact if_pos rfl

theorem State.readCode_none (hu : s.ulines = []) (h : s.codeCopy pa = none) :
    s.readCode pa = (s.mem.readN pa 2, s.fillCode pa) := by
  rw [State.readCode, h, State.physRead_nil hu]

theorem State.fillCode_eq (hu : s.ulines = []) : s.fillCode pa =
    s.putStable { s.stableAt s.hart.stable with
      icache := (pa / 128, s.mem.filter fun c => c.1 / 128 == pa / 128) ::
        dropBy (fun c : Nat × Memory => c.1 == pa / 128) (s.stableAt s.hart.stable).icache } := by
  rw [State.fillCode, State.mergeRange_nil hu]

theorem State.codeCopy_putStable {t : Stable} (h : t.n = s.hart.stable) : (s.putStable t).codeCopy pa =
    (findBy (fun c : Nat × Memory => c.1 == pa / 128) t.icache).map fun c => c.2.readN pa 2 := by
  rw [State.codeCopy, State.putStable_hart, State.stableAt_putStable_n _ h]

/-- The two bytes of a halfword are in one line, so the line's copy holds it. -/
theorem Memory.readN_line {m : Memory} (w : m.wf = true) (hpa : pa % 2 = 0) :
    Memory.readN (m.filter fun c => c.1 / 128 == pa / 128) pa 2 = m.readN pa 2 := by
  have hread (k : Nat) (hk : k / 128 = pa / 128) : Memory.read (m.filter fun c => c.1 / 128 == pa / 128) k = m.read k := by
    rw [Memory.read_filter_addr (fun k => k / 128 == pa / 128) w, if_pos (beq_iff_eq.mpr hk)]
  simp only [Memory.readN, hread pa rfl, hread (pa + 1) (by omega)]

/-- A line that has entered the instruction cache is held there as memory holds it. -/
theorem State.codeCopy_fillCode (hm : MemOk s) (hu : s.ulines = []) (hpa : pa % 2 = 0) :
    (s.fillCode pa).codeCopy pa = some (s.mem.readN pa 2) := by
  rw [State.fillCode_eq hu]
  refine (State.codeCopy_putStable (by exact s.stableAt_n _)).trans ?_
  simp [findBy, Memory.readN_line hm hpa]

/-- With a copy there, the copy or memory is read, and neither memory nor the hart changes. -/
theorem State.readCode_copy {c : Nat} (hu : s.ulines = []) (h : s.codeCopy pa = some c) :
    ((s.readCode pa).1 = c ∨ (s.readCode pa).1 = s.mem.readN pa 2) ∧ (s.readCode pa).2.mem = s.mem ∧
      (s.readCode pa).2.hart = s.hart := by
  rw [State.readCode, h, State.physRead_nil hu]
  dsimp only
  split
  · exact ⟨.inl rfl, rfl, rfl⟩
  · split
    · exact ⟨.inl rfl, rfl, rfl⟩
    · have hu' : ({ s with fresh := s.fresh + 1 } : State).ulines = [] := hu
      rw [State.fillCode_eq hu']
      exact ⟨.inr rfl, rfl, rfl⟩

/-! ## Whole instructions -/

theorem State.fetchHalves_succ {p : Place} {t : State} {n : Nat} (ha : a < 2 ^ 64) (h : s.access a 2 2 .fetch false = .ok p t) :
    s.fetchHalves a (n + 1) =
      ((t.readCodeAt p).2.fetchHalves (a + 2) n).bind fun r u => .ok ((t.readCodeAt p).1 + 65536 * r) u := by
  rw [State.fetchHalves, Nat.mod_eq_of_lt ha, h]
  rfl

/-- Halfwords whose copies agree with memory are read as memory holds them. -/
theorem State.fetchHalves_agrees (hu : s.ulines = []) {n : Nat} (ha : a + 2 * n ≤ 2 ^ 64)
    (hplace : ∀ j, j < n → s.access (a + 2 * j) 2 2 .fetch false = .ok (.phys (pa + 2 * j) leaf) s)
    (hcopy : ∀ j, j < n → s.codeCopy (pa + 2 * j) = some (s.mem.readN (pa + 2 * j) 2)) :
    s.fetchHalves a n = .ok (s.mem.readN pa (2 * n)) s := by
  induction n generalizing a pa with
  | zero => rfl
  | succ n ih =>
    have hshift (b j : Nat) : b + 2 * (j + 1) = b + 2 + 2 * j := by omega
    have hrest := ih (a := a + 2) (pa := pa + 2) (by omega)
      (fun j hj => by rw [← hshift, ← hshift]; exact hplace (j + 1) (Nat.succ_lt_succ hj))
      (fun j hj => by rw [← hshift]; exact hcopy (j + 1) (Nat.succ_lt_succ hj))
    have hread : s.readCodeAt (.phys pa leaf) = (s.mem.readN pa 2, s) := State.readCode_agrees hu (hcopy 0 n.succ_pos)
    have hfirst : s.access a 2 2 .fetch false = .ok (.phys pa leaf) s := hplace 0 n.succ_pos
    rw [State.fetchHalves_succ (by omega) hfirst, hread, hrest, Nat.mul_add, Nat.add_comm (2 * n), Memory.readN_two_add]
    rfl

/-- The rest of an instruction, after its first halfword. -/
theorem State.fetchAt_of_first {h k : Nat} {t : State} (hfirst : s.fetchHalves a 1 = .ok h t)
    (hlen : lengthOf (BitVec.ofNat 16 h) = 2 + 2 * k) :
    s.fetchAt a = (t.fetchHalves (a + 2) k).bind fun r u => .ok (BitVec.ofNat 64 (h + 65536 * r)) u := by
  have hk : lengthOf (BitVec.ofNat 16 h) / 2 = k + 1 := by omega
  rw [State.fetchAt, hfirst, Res.bind_ok]
  dsimp only
  rw [hk]
  cases k with
  | zero => rfl
  | succ k => exact if_neg (by omega)

/-- An instruction of one halfword is what its halfword reads as. -/
theorem State.fetchAt_halfword (ha : a < 2 ^ 64) (h : s.access a 2 2 .fetch false = .ok (.phys pa leaf) s)
    (hlen : (s.readCode pa).1 % 4 = 0) : s.fetchAt a = .ok (BitVec.ofNat 64 (s.readCode pa).1) (s.readCode pa).2 := by
  have hfirst : s.fetchHalves a 1 = .ok (s.readCode pa).1 (s.readCode pa).2 := State.fetchHalves_succ ha h
  exact State.fetchAt_of_first (k := 0) hfirst ((lengthOf_ofNat _).trans (if_pos hlen))

/-- Settles O13: halfword by halfword, each read from its copy or from memory. -/
theorem fetchReadsMemory : Obligations.FetchReadsMemory := by
  refine ⟨fun s a pa n leaf ha hn hu hplace hcopy => ?_,
    fun s a pa leaf hm ha hpa hu hplace => ⟨fun hnone hlen => ?_, fun c hc hlen hlen' => ?_⟩⟩
  · rw [← lengthOf_ofNat] at hn
    obtain ⟨k, hle, hk⟩ : ∃ k ≤ 3, n = 2 + 2 * k := hn ▸ lengthOf_halves _
    have hfirst : s.fetchHalves a 1 = .ok (s.mem.readN pa 2) s :=
      State.fetchHalves_agrees hu (by omega) (fun j hj => hplace j (by omega)) fun j hj => hcopy j (by omega)
    have hrest : s.fetchHalves (a + 2) k = .ok (s.mem.readN (pa + 2) (2 * k)) s :=
      State.fetchHalves_agrees hu (by omega)
        (fun j hj => by rw [Nat.add_assoc, Nat.add_assoc, ← Nat.mul_add 2 1 j]; exact hplace (1 + j) (by omega))
        fun j hj => by rw [Nat.add_assoc, ← Nat.mul_add 2 1 j]; exact hcopy (1 + j) (by omega)
    rw [State.fetchAt_of_first hfirst (hn.symm.trans hk), hrest, hk, Memory.readN_two_add]
    rfl
  · have hread := State.readCode_none hu hnone
    refine ⟨s.fillCode pa, ?_, ?_, State.codeCopy_fillCode hm hu hpa⟩
    · rw [State.fetchAt_halfword (by omega) hplace (by rwa [hread]), hread]
    · rw [State.fillCode_eq hu]
      rfl
  · obtain ⟨hval, hmem, hhart⟩ := State.readCode_copy hu hc
    have hlow : (s.readCode pa).1 % 4 = 0 := by
      rcases hval with hval | hval <;> rwa [hval]
    refine ⟨(s.readCode pa).2, ?_, hmem, hhart⟩
    rw [State.fetchAt_halfword (by omega) hplace hlow]
    exact hval.imp (fun h => by rw [h]) fun h => by rw [h]

end Sys2Proof.Machine
end

section
/-!
# Entering the vector queue (O48; R75, R101, R125, R126, R137)
-/

namespace Sys2Proof.Machine
open BitVec (extractLsb'_setWidth_of_le extractLsb'_extractLsb'_of_le)

/-! ## The rows of the vector quadrants -/

/-- A word with low bits 00 or 01 is of no vector row but `c.vfetch` (R66). -/
theorem Row.not_isVec {r : Row} {v : BitVec 64} {n : Nat} (hv : bits v 0 2 = n) (hn : n < 2 := by decide)
    (hr : (r == .cVfetch) = false := by decide) : ¬r.isVec v = true := by
  rw [Row.isVec, hr, Bool.or_false, decide_eq_true_eq, hv]
  exact Nat.not_le.mpr hn

theorem Row.not_isVec32 {r : Row} {i : Instr} {w : BitVec 32} {c : BitVec 8} (hw : encode i = w.setWidth 64) (hop : fld w 0 8 = c)
    (hlow : c.extractLsb' 0 2 = 1#2 := by decide) (hr : (r == .cVfetch) = false := by decide) : ¬r.isVec (encode i) = true := by
  refine Row.not_isVec (n := 1) ?_ (hr := hr)
  rw [hw, bits, extractLsb'_setWidth_of_le (by decide)]
  rw [← hop, extractLsb'_extractLsb'_of_le (by decide)] at hlow
  exact congrArg BitVec.toNat hlow

theorem Row.not_isVec16 {r : Row} {i : Instr} {w : BitVec 16} {c : BitVec 6} (hw : encode i = w.setWidth 64)
    (hop : w.extractLsb' 0 6 = c) (hlow : c.extractLsb' 0 2 = 0#2 := by decide) (hr : (r == .cVfetch) = false := by decide) :
    ¬r.isVec (encode i) = true := by
  refine Row.not_isVec (n := 0) ?_ (hr := hr)
  rw [hw, bits, extractLsb'_setWidth_of_le (by decide)]
  rw [← hop, extractLsb'_extractLsb'_of_le (by decide)] at hlow
  exact congrArg BitVec.toNat hlow

/-- An instruction of the vector quadrants is issued. -/
theorem exec_of_isVec {r : Row} {w : BitVec 64} (h : r.isVec (encode (r.instr w)) = true) (s : State) :
    exec (r.instr w) s = s.issue r (encode (r.instr w)) := by
  cases r with
  | add | sub | and | or | xor | sll | srl | sra | slt | sltn | min | max | minn | maxn | andn | orn | rol | ror | addw | subw
  | mul | mulh | mulhn | mulhsn | div | divn | rem | remn | waitm | arrive | await | pin | unpin | qpush | qpop | qpeek | qwake
  | qrevoke | qgrow | cpy | nsub | cpyfill =>
    exact absurd h (Row.not_isVec32 rfl (OpDAB.pack_fields _ _ _).2)
  | fadd | fsub | fmul | fdiv => exact absurd h (Row.not_isVec32 rfl (OpDABFR.pack_fields _ _ _).2)
  | fsqrt => exact absurd h (Row.not_isVec32 rfl (OpDAFR.pack_fields _ _ _).2)
  | fmin | fmax | fsgnj | fsgnjn | fsgnjx | feq | flt | fle =>
    exact absurd h (Row.not_isVec32 rfl (OpDABF.pack_fields _ _ _ _).2)
  | fclass => exact absurd h (Row.not_isVec32 rfl (OpDAF.pack_fields _ _ _ _).2)
  | fma | fms | fnma | fnms => exact absurd h (Row.not_isVec32 rfl (OpDABEF.pack_fields _ _ _ _).2)
  | addi | andi | ori | xori | slti | sltni | lb | lh | lw | ld | lbn | lhn | lwn | jalr =>
    exact absurd h (Row.not_isVec32 rfl (OpDAI.pack_fields _ _).2)
  | slli | srli | srai | roli => exact absurd h (Row.not_isVec32 rfl (OpDAS.pack_fields _ _ _).2)
  | lui | auipc | jal => exact absurd h (Row.not_isVec32 rfl (OpDI.pack_fields _ _).2)
  | sb | sh | sw | sd => exact absurd h (Row.not_isVec32 rfl (OpSAI.pack_fields _ _).2)
  | beq | bne | blt | bge | bltn | bgen => exact absurd h (Row.not_isVec32 rfl (OpABI.pack_fields _ _).2)
  | amoswapW | amoaddW | amoandW | amoorW | amoxorW | amominW | amomaxW | amominnW | amomaxnW | amoswapD | amoaddD | amoandD
  | amoorD | amoxorD | amominD | amomaxD | amominnD | amomaxnD =>
    exact absurd h (Row.not_isVec32 rfl (OpDABO.pack_fields _ _ _).2)
  | cas => exact absurd h (Row.not_isVec32 rfl (OpDABEWO.pack_fields _ _ _).2)
  | fence => exact absurd h (Row.not_isVec32 rfl (OpSK.pack_fields _ _ _).2)
  | pause => exact absurd h (Row.not_isVec (v := wordPause) (n := 1) rfl)
  | trapBrk => exact absurd h (Row.not_isVec (v := wordTrapBrk) (n := 1) rfl)
  | tret => exact absurd h (Row.not_isVec (v := wordTret) (n := 1) rfl)
  | halt => exact absurd h (Row.not_isVec (v := wordHalt) (n := 1) rfl)
  | wfe => exact absurd h (Row.not_isVec (v := wordWfe) (n := 1) rfl)
  | cpywait => exact absurd h (Row.not_isVec (v := wordCpywait) (n := 1) rfl)
  | gbar | gbarRlx => exact absurd h (Row.not_isVec32 rfl (OpD.pack_fields _ _ _).2)
  | csrrw | csrrs | csrrc => exact absurd h (Row.not_isVec32 rfl (OpDACsr.pack_fields _ _ _).2)
  | csrrwi | csrrsi | csrrci => exact absurd h (Row.not_isVec32 rfl (OpDUCsr.pack_fields _ _ _).2)
  | trap | vqsave | vqload | finval | cpybt => exact absurd h (Row.not_isVec32 rfl (OpA.pack_fields _ _ _).2)
  | tlbinv | cflush | cinval => exact absurd h (Row.not_isVec32 rfl (OpAB.pack_fields _ _ _).2)
  | clz | ctz | popc | bswap | sextb | sexth | sextw | zextb | zexth | zextw | qseal =>
    exact absurd h (Row.not_isVec32 rfl (OpDA.pack_fields _ _ _).2)
  | fcvtI32F32 | fcvtN32F32 | fcvtI64F32 | fcvtN64F32 | fcvtF32I32 | fcvtF32N32 | fcvtF32I64 | fcvtF32N64 | fcvtI32F64
  | fcvtN32F64 | fcvtI64F64 | fcvtN64F64 | fcvtF64I32 | fcvtF64N32 | fcvtF64I64 | fcvtF64N64 | fcvtF32F64 | fcvtF64F32 =>
    exact absurd h (Row.not_isVec32 rfl (OpDAR.pack_fields _ _ _).2)
  | cAddi => exact absurd h (Row.not_isVec16 rfl (OpCDI.pack_fields _ _).2)
  | cMv | cAdd | cSub => exact absurd h (Row.not_isVec16 rfl (OpCDS.pack_fields _ _).2)
  | cLd | cLw => exact absurd h (Row.not_isVec16 rfl (OpCDAO.pack_fields _ _).2)
  | cSd | cSw => exact absurd h (Row.not_isVec16 rfl (OpCSAO.pack_fields _ _).2)
  | cJ => exact absurd h (Row.not_isVec16 rfl (OpCO.pack_fields _ _).2)
  | cBeqz | cBnez => exact absurd h (Row.not_isVec16 rfl (OpCSO.pack_fields _ _).2)
  | vsetl | vlease | vfork | vjoin | vfetch | vfetchw | vloop | vcommit | endb | mmode | mshape | vaddVV | vaddVX | vaddVI
  | vsubVV | vsubVX | vsubVI | vrsubVV | vrsubVX | vrsubVI | vmulVV | vmulVX | vmulVI | vmulhVV | vmulhVX | vmulhVI | vmulhnVV
  | vmulhnVX | vmulhnVI | vandVV | vandVX | vandVI | vorVV | vorVX | vorVI | vxorVV | vxorVX | vxorVI | vsllVV | vsllVX
  | vsllVI | vsrlVV | vsrlVX | vsrlVI | vsraVV | vsraVX | vsraVI | vminVV | vminVX | vminVI | vmaxVV | vmaxVX | vmaxVI
  | vminnVV | vminnVX | vminnVI | vmaxnVV | vmaxnVX | vmaxnVI | vsaddVV | vsaddVX | vssubVV | vssubVX | vsaddnVV | vsaddnVX
  | vssubnVV | vssubnVX | vdivVV | vdivVX | vdivnVV | vdivnVX | vremVV | vremVX | vremnVV | vremnVX | vmaccVV | vmaccVX
  | vnmsacVV | vnmsacVX | vavgVV | vavgVX | vavgnVV | vavgnVX | vabs | vneg | vpopc | vclz | vwaddVV | vwaddVX | vwaddnVV
  | vwaddnVX | vwsubVV | vwsubVX | vwsubnVV | vwsubnVX | vwmulVV | vwmulVX | vwmulnVV | vwmulnVX | vwmaccVV | vwmaccVX
  | vwmaccnVV | vwmaccnVX | vnsrlVV | vnsrlVX | vnsraVV | vnsraVX | vnclipVV | vnclipVX | vnclipnVV | vnclipnVX | vfaddVV
  | vfaddVX | vfsubVV | vfsubVX | vfrsubVV | vfrsubVX | vfmulVV | vfmulVX | vfdivVV | vfdivVX | vfrdivVV | vfrdivVX | vfminVV
  | vfminVX | vfmaxVV | vfmaxVX | vfsgnjVV | vfsgnjVX | vfsgnjnVV | vfsgnjnVX | vfsgnjxVV | vfsgnjxVX | vfmaVV | vfmaVX
  | vfmsVV | vfmsVX | vfnmaVV | vfnmaVX | vfnmsVV | vfnmsVX | vfsqrt | vfrcp | vfrsq | vfexp2 | vflog2 | vfsinp | vfcosp
  | vftanh | vfabs | vfneg | vfclass | vffloor | vfceil | vfround | vcvtI32F32 | vcvtN32F32 | vcvtF32I32 | vcvtF32N32
  | vcvtI64F64 | vcvtN64F64 | vcvtF64I64 | vcvtF64N64 | vcvtF64F32 | vcvtF32F64 | vcvtHF32 | vcvtBfF32 | vcvtF32H | vcvtF32Bf
  | vcvtB8F32 | vcvtF32B8 | vcvtB8H | vcvtHB8 | vcvtB8Bf | vcvtBfB8 | vcvtE4F32 | vcvtF32E4 | vcvtHE4 | vcvtQ4F32 | vcvtF32Q4
  | vcvtHQ4 | vcmpEqVV | vcmpEqVX | vcmpNeVV | vcmpNeVX | vcmpLtVV | vcmpLtVX | vcmpLeVV | vcmpLeVX | vcmpLtnVV | vcmpLtnVX
  | vcmpLenVV | vcmpLenVX | vcmpGtVV | vcmpGtVX | vcmpGeVV | vcmpGeVX | vcmpFeqVV | vcmpFeqVX | vcmpFneVV | vcmpFneVX
  | vcmpFltVV | vcmpFltVX | vcmpFleVV | vcmpFleVX | vcmpFgtVV | vcmpFgtVX | vcmpFgeVV | vcmpFgeVX | vcmpFunordVV | vcmpFunordVX
  | vcmpFordVV | vcmpFordVX | kand | kor | kxor | kandn | knot | kmov | kpop | kfirst | kiota | vmerge | vcompress | vexpand
  | ksetx | vslideup | vslidedn | vpermv | vbcast | vextract | vinsert | vilv | vdilv | vid | vrand | vmvV | vmvX | vredsum
  | vredmin | vredmax | vredminn | vredmaxn | vredand | vredor | vredxor | vfsum | vfsumo | vfredmin | vfredmax | vwsum | vbshl
  | vbshr | vbfun | vternlog | vld | vldReg | vlds | vldx | vst | vstReg | vsts | vstx | vgll | vscc | vacc | vldwE4H
  | vldwE4Bf | vldwE4B8 | vldwQ4H | vldwQ4Bf | vldwQ4B8 | gsub | gadd | glen | gtag | gpack | gunpack | grehome | gdot | gcvt
  | gscl | gsettag | gmorton | gnbr | vcellins | vcellfind | recur | rspawn | rret | rkids | rdepth | rnkid | mzero | mrowv
  | mvrow | mcolv | mvcol | mdrain | mload | amerge | sacc | opacc | opsub | opaccw | cVfetch =>
    rfl

section
/-! ## What a read of code leaves unchanged -/

/-- The state `s` with what `u` holds for translation, for code and for moved pages. -/
def State.caching (s u : State) : State :=
  { s with hart := { s.hart with moved := u.hart.moved }, stables := u.stables, coh := u.coh, fresh := u.fresh }

/-- A read of code has changed nothing but what is kept for translation, for code and for moved pages. -/
structure State.ReadTo (s t : State) : Prop where
  eq : t = s.caching t

variable {s t u : State} {w : Who} {va pa n a al : Nat} {k : AKind}

theorem State.ReadTo.refl (s : State) : s.ReadTo s := ⟨rfl⟩

theorem State.ReadTo.trans (h : s.ReadTo t) (h' : t.ReadTo u) : s.ReadTo u := by
  have hs := congrArg (State.caching · u) h.eq
  exact ⟨h'.eq.trans hs⟩

theorem State.ReadTo.ulines (h : s.ReadTo t) (hu : s.ulines = []) : t.ulines = [] :=
  (congrArg State.ulines h.eq).trans hu

theorem State.putStable_readTo (s : State) (c : Stable) : s.ReadTo (s.putStable c) := ⟨rfl⟩

theorem State.physRead_readTo (hu : s.ulines = []) : s.ReadTo (s.physRead pa n).2 := by
  rw [State.physRead_nil hu, State.bufferHost_frame]
  exact ⟨rfl⟩

/-- A walk of a page table reads memory alone. -/
theorem walk_readTo (hu : s.ulines = []) (levels : List Nat) (level node : Nat) : s.ReadTo (walk s va levels level node).2.2 := by
  induction levels generalizing s level node with
  | nil => exact .refl s
  | cons sh rest ih =>
    have hread : s.ReadTo (s.physRead (node + va / 2 ^ sh % 1024 * 8) 8).2 := State.physRead_readTo hu
    rw [walk]
    split
    · exact .refl s
    · split
      · exact .refl s
      · dsimp only
        split
        · exact hread
        · split
          · split <;> exact hread
          · split
            · exact hread.trans (ih (hread.ulines hu) ..)
            · exact hread

theorem State.translate_readTo (hu : s.ulines = []) (stable ctx : Nat) (pgroot : Word) :
    s.ReadTo (s.translate stable ctx pgroot va).2 := by
  rw [State.translate]
  split
  · exact .refl s
  · have hw := walk_readTo (va := va) hu [46, 36, 26, 16] 0 (bits pgroot 13 39 * 8192)
    split
    next heq =>
      rw [heq] at hw
      exact hw.trans (State.putStable_readTo ..)
    next heq =>
      rw [heq] at hw
      exact hw

theorem State.setMoved_readTo (hw : w.unit = false) (l : List (Nat × Nat × Bool)) : s.ReadTo (s.setMoved w l) := by
  rw [State.setMoved, hw]
  exact ⟨rfl⟩

/-- The check of a moved page that succeeds lets go of what the hart held for the page. -/
theorem State.movedCheck_readTo (hw : w.unit = false) (h : s.movedCheck w va pa = .ok () t) : s.ReadTo t := by
  unfold State.movedCheck at h
  dsimp only at h
  split at h
  · split at h
    · cases h
    · split at h
      · cases h
      · split at h
        · cases h
          exact State.setMoved_readTo hw _
        · split at h <;> cases h
  · split at h
    · cases h
    · cases h
      exact .refl s

theorem State.dataCheck_ok (h : s.dataCheck w va pa n k = .ok () t) : t = s := by
  unfold State.dataCheck at h
  split at h
  · cases h
  · cases h
    rfl

theorem State.notPresent_ne_ok {α : Type} {write fetch malformed : Bool} {x : α} :
    s.notPresent w va write fetch malformed ≠ .ok x t := by
  unfold State.notPresent
  split
  · nofun
  · split <;> nofun

theorem State.answered_ne_ok {α : Type} {o : Offer} {x : α} : s.answered w o ≠ .ok x t := by
  unfold State.answered
  split <;> nofun

/-- The page of an access that passes its checks has been translated, and no more. -/
theorem State.pageAs_ok {x : Nat × Word} (h : s.pageAs w va n k = .ok x t) : t = (s.translate w.stable w.ctx w.pgroot va).2 := by
  unfold State.pageAs at h
  split at h
  next => exact absurd h State.answered_ne_ok
  next => cases h
  next =>
    obtain ⟨_, _, _, h⟩ := Res.bind_eq_ok h
    cases h
  next => exact absurd h State.notPresent_ne_ok
  next heq =>
    rw [heq]
    split at h
    · exact absurd h State.notPresent_ne_ok
    · split at h
      · cases h
      · obtain ⟨_, _, rfl⟩ := Res.of_stop_or_ok h
        rfl

/-- An access of a core that may not reach the scratchpad window, where it passes its checks, lands in physical memory. -/
theorem State.accessAs_readTo {p : Place} (hu : s.ulines = []) (hw : w.unit = false) (hp : w.pad = false)
    (h : s.accessAs w va n al k = .ok p t) : s.ReadTo t ∧ ∃ pa leaf, p = .phys pa leaf := by
  unfold State.accessAs at h
  split at h
  · cases h
  split at h
  · cases h
  split at h
  · rw [hp] at h
    cases h
  · obtain ⟨x, u, hx, h⟩ := Res.bind_eq_ok h
    obtain ⟨_, v, hv, h⟩ := Res.bind_eq_ok h
    obtain ⟨_, z, hz, h⟩ := Res.bind_eq_ok h
    cases h
    obtain rfl := State.dataCheck_ok hz
    obtain rfl := State.pageAs_ok hx
    exact ⟨(State.translate_readTo hu ..).trans (State.movedCheck_readTo hw hv), _, _, rfl⟩

theorem State.fillCode_readTo (hu : s.ulines = []) : s.ReadTo (s.fillCode pa) := by
  rw [State.fillCode, State.mergeRange_nil hu]
  exact State.putStable_readTo ..

theorem State.readCode_readTo (hu : s.ulines = []) : s.ReadTo (s.readCode pa).2 := by
  unfold State.readCode
  split
  · exact State.fillCode_readTo hu
  · split
    · exact .refl s
    · have ht : s.ReadTo { s with fresh := s.fresh + 1 } := ⟨rfl⟩
      dsimp only
      split
      · exact ht
      · exact ht.trans (State.fillCode_readTo (ht.ulines hu))

theorem State.fetchHalves_readTo {v : Nat} (hu : s.ulines = []) (h : s.fetchHalves a n = .ok v t) : s.ReadTo t := by
  induction n generalizing s a v with
  | zero =>
    cases h
    exact .refl _
  | succ n ih =>
    obtain ⟨p, u, hp, h⟩ := Res.bind_eq_ok h
    obtain ⟨r, z, hz, h⟩ := Res.bind_eq_ok h
    cases h
    obtain ⟨hsu, pa, leaf, rfl⟩ := State.accessAs_readTo hu rfl rfl hp
    have hread := State.readCode_readTo (pa := pa) (hsu.ulines hu)
    exact hsu.trans (hread.trans (ih (hread.ulines (hsu.ulines hu)) hz))

theorem State.fetchAt_readTo {v : BitVec 64} (hu : s.ulines = []) (h : s.fetchAt a = .ok v t) : s.ReadTo t := by
  obtain ⟨x, u, hx, h⟩ := Res.bind_eq_ok h
  have hsu := State.fetchHalves_readTo hu hx
  dsimp only at h
  split at h
  · cases h
    exact hsu
  · obtain ⟨y, z, hz, h⟩ := Res.bind_eq_ok h
    cases h
    exact hsu.trans (State.fetchHalves_readTo (hsu.ulines hu) hz)

theorem State.readBlockFrom_readTo {start : Nat} {first : Bool} {b : List (BitVec 32)} (hu : s.ulines = [])
    (h : s.readBlockFrom start a n first = .ok b t) : s.ReadTo t := by
  induction n generalizing s a first b with
  | zero => cases h
  | succ n ih =>
    obtain ⟨v, u, hv, h⟩ := Res.bind_eq_ok h
    have hsu := State.fetchAt_readTo hu hv
    split at h
    · cases h
    · split at h
      · split at h
        · cases h
        · obtain ⟨_, _, rfl⟩ := Res.of_stop_or_ok h
          exact hsu
      · split at h
        · cases h
        · obtain ⟨l, z, hz, h⟩ := Res.bind_eq_ok h
          cases h
          exact hsu.trans (ih (hsu.ulines hu) hz)

theorem State.readBlock_readTo {a : Word} {b : List (BitVec 32)} (hu : s.ulines = []) (h : s.readBlock a = .ok b t) :
    s.ReadTo t := by
  unfold State.readBlock at h
  split at h
  · cases h
  · exact State.readBlockFrom_readTo hu h

/-- An instruction that enters the queue has read its block, if it runs one. -/
theorem State.blockFor_readTo {r : Row} {w : BitVec 64} {b : List (BitVec 32)} (hu : s.ulines = []) (h : s.blockFor r w = .ok b t) :
    s.ReadTo t := by
  unfold State.blockFor at h
  split at h
  case h_5 =>
    cases h
    exact .refl s
  all_goals
    split at h
    · exact State.readBlock_readTo hu h
    · cases h
      exact .refl s

end

/-! ## Entering the queue, by what stands in the way (R75, R125, R126, R137) -/

section
variable {s m : State} {r : Row} {v : BitVec 64} {b : List (BitVec 32)}

/-- The entries that take a result slot of the hart. -/
def Hart.slotsInUse (h : Hart) : Nat := (h.queue.filter (fun e => e.dest.isSome && (e.state != 0 || e.ret.isSome))).length

/-- The instruction cannot enter the queue yet, whatever its block holds. -/
def Hart.issueWaits (h : Hart) (r : Row) (v : BitVec 64) : Prop :=
  h.mustWait r v = true ∨ 32 ≤ h.queue.length ∨ (r.xDest v).isSome = true ∧ 8 ≤ h.slotsInUse

/-- A block reads a register that an entry has still to write. -/
def Hart.blockWaits (h : Hart) (b : List (BitVec 32)) : Prop := ∃ x ∈ h.blockReads b, x ∈ h.pendingX

theorem Hart.issueWaits_iff {h : Hart} :
    (h.mustWait r v || decide (32 ≤ h.queue.length) || ((r.xDest v).isSome && decide (8 ≤ h.slotsInUse))) = true ↔
      h.issueWaits r v := by
  simp only [Bool.or_eq_true, Bool.and_eq_true, decide_eq_true_eq, or_assoc, Hart.issueWaits]

theorem Hart.blockWaits_iff {h : Hart} :
    (!h.pendingX.isEmpty && (h.blockReads b).any fun x => h.pendingX.contains x) = true ↔ h.blockWaits b := by
  simp only [Bool.and_eq_true, List.any_eq_true, List.contains_iff_mem, Bool.not_eq_true', List.isEmpty_eq_false_iff]
  exact ⟨And.right, fun hx => ⟨List.ne_nil_of_mem hx.choose_spec.2, hx⟩⟩

theorem State.issue_stop {c : Stop} (h : s.decodeStop r v = some c) : s.issue r v = .next (s.takeTrap c none) := by
  rw [State.issue, h]
  rfl

theorem State.issue_waits (h : s.decodeStop r v = none) (hw : s.hart.issueWaits r v) : s.issue r v = .next s.idleWork := by
  rw [State.issue, h]
  exact if_pos (Hart.issueWaits_iff.mpr hw)

theorem State.issue_blockStop {c : Stop} (h : s.decodeStop r v = none) (hw : ¬s.hart.issueWaits r v)
    (hb : s.blockFor r v = .stop c m) : s.issue r v = .next (m.takeTrap c none) := by
  rw [State.issue, h, hb]
  exact if_neg (mt Hart.issueWaits_iff.mp hw)

theorem State.issue_blockWaits (h : s.decodeStop r v = none) (hw : ¬s.hart.issueWaits r v) (hb : s.blockFor r v = .ok b m)
    (hx : m.hart.blockWaits b) : s.issue r v = .next m.idleWork := by
  rw [State.issue, h, hb]
  exact (if_neg (mt Hart.issueWaits_iff.mp hw)).trans (if_pos (Hart.blockWaits_iff.mpr hx))

/-- With idle lanes, or an entry ahead of it, the instruction waits its turn in the queue. -/
theorem State.issue_enters (h : s.decodeStop r v = none) (hw : ¬s.hart.issueWaits r v) (hb : s.blockFor r v = .ok b m)
    (hx : ¬m.hart.blockWaits b) (hl : m.laneEager = false ∨ m.hart.queue ≠ []) :
    s.issue r v = .next (m.queued r v b (lenOf v)) := by
  rw [State.issue, h, hb]
  have hturn : ¬(m.laneEager && m.hart.queue.isEmpty) = true := by
    rw [Bool.and_eq_true, List.isEmpty_iff]
    exact fun ⟨he, hq⟩ => hl.elim (fun hl => Bool.false_ne_true (hl.symm.trans he)) (absurd hq)
  exact (if_neg (mt Hart.issueWaits_iff.mp hw)).trans
    ((if_neg (mt Hart.blockWaits_iff.mp hx)).trans (congrArg _ (if_neg hturn)))

end

/-- Settles O48: an instruction of a vector row is issued, and the issue goes by what stands in its way; reading its block keeps all but
what serves translation, code and moved pages. -/
theorem issueResults : Obligations.IssueResults := by
  intro s r w i v hvec
  have hexec : exec i s = s.issue r v := exec_of_isVec hvec s
  rw [hexec]
  refine ⟨fun c hc => State.issue_stop hc, fun hc hw => State.issue_waits hc hw, fun hc hm hq hs => ?_⟩
  have hw : ¬s.hart.issueWaits r v := by
    rintro (h | h | ⟨h, h'⟩)
    · exact absurd (hm.symm.trans h) Bool.false_ne_true
    · exact absurd hq (Nat.not_lt.mpr h)
    · exact absurd (hs h) (Nat.not_lt.mpr h')
  exact ⟨fun b m hb hl hx => State.issue_enters hc hw hb (fun ⟨x, hx', hp⟩ => hx x hx' hp) hl,
    fun b m hb hx => State.issue_blockWaits hc hw hb hx, fun c m hb => State.issue_blockStop hc hw hb,
    fun b m hb hu => (State.blockFor_readTo hu hb).eq⟩

end Sys2Proof.Machine
end

section
/-! O18: who may access a control register, and which instructions are privileged (R75, R91, R92). -/
namespace Sys2Proof.Machine

open BitVec renaming extractLsb'_append_eq_of_add_le → slice_low, extractLsb'_append_eq_of_le → slice_high,
  extractLsb'_eq_self → slice_self

/-! ## What decode refuses rider mode (R75 row 5, R91, R92) -/

section
variable {s : State} {r : Row} {w : BitVec 64} {n : Nat} {reads writes : Bool} {c : Stop}

theorem State.decodeStop_of_privStop (hr : r ≠ .endb) (h : privStop s.hart.mode r w = some c) : s.decodeStop r w = some c := by
  rw [State.decodeStop, if_neg hr, h]

/-- A privileged instruction is refused in rider mode before anything else of it is looked at. -/
theorem State.decodeStop_isGroom (hm : s.hart.mode = 0) (hr : r.isGroom = true) : s.decodeStop r w = some (bitsStop 0x04 w) :=
  State.decodeStop_of_privStop (by rintro rfl; cases hr) (by rw [privStop, hr, hm]; rfl)

/-- A register of groom mode is neither read nor written in rider mode. -/
theorem Hart.csrStop_groom {h : Hart} (hm : h.mode = 0)
    (ha : reads = true ∧ csrReadGroom n = true ∨ writes = true ∧ csrWriteRider n = false) :
    h.csrStop n reads writes w = some (bitsStop 0x04 w) := by
  rw [Hart.csrStop, if_neg (not_not.mpr hm), if_pos]
  rcases ha with ⟨hr, hn⟩ | ⟨hw, hn⟩
  · rw [hr, hn]; rfl
  · rw [hw, hn, Bool.or_eq_true]
    exact .inr rfl

/-- The vector registers are open to rider mode where vector state is on. -/
theorem Hart.csrStop_vector {h : Hart} (hm : h.mode = 0) (hn : 0x10 ≤ n ∧ n ≤ 0x13) (hv : h.vs = 0) :
    h.csrStop n reads writes w = some (bitsStop 0x60 w) := by
  have hr : csrReadGroom n = false := by
    simp only [csrReadGroom, Bool.or_eq_false_iff, decide_eq_false_iff_not, beq_eq_false_iff_ne]
    omega
  have hw : csrWriteRider n = true := by
    simp only [csrWriteRider, hn, and_self, decide_true, Bool.true_or]
  rw [Hart.csrStop, if_neg (not_not.mpr hm), hr, hw, decide_eq_true hn, hv]
  simp

/-- The matrix registers are read in rider mode where matrix state is on. -/
theorem Hart.csrStop_matrix {h : Hart} (hm : h.mode = 0) (hn : n = 0x18 ∨ n = 0x19) (hv : h.ms = 0) :
    h.csrStop n reads false w = some (bitsStop 0x61 w) := by
  rcases hn with rfl | rfl <;> simp [Hart.csrStop, hm, hv, csrReadGroom]

/-- Rows 1 to 5 of R75 leave a CSR instruction to the checks of R92. -/
theorem State.decodeStop_csr (hr : r ≠ .endb) (hp : ∀ m, privStop m r w = none) (hv : r.isVec w = false)
    (ha : csrAccess r w = some (n, reads, writes)) (hc : s.hart.csrStop n reads writes w = some c) : s.decodeStop r w = some c := by
  rw [State.decodeStop, if_neg hr, hp, State.offStop, hv, ha, Bool.not_false, if_pos rfl]
  dsimp only
  rw [hc]

end

/-! ## The CSR instructions (R116) -/

/-- A CSR instruction names its register, its source and its destination in fields of their own. -/
theorem csrWord_fields (c : BitVec 11) (g : BitVec 3) (a d : BitVec 5) : let w := (c ++ g ++ a ++ d ++ 145#8).setWidth 64
    bits w 21 11 = c.toNat ∧ bits w 13 5 = a.toNat ∧ bits w 8 5 = d.toNat ∧ bits w 0 2 = 1 := by
  have field {x : BitVec 32} {lo n : Nat} (h : lo + n ≤ 64) : bits (x.setWidth 64) lo n = (x.extractLsb' lo n).toNat := by
    rw [bits, BitVec.extractLsb'_setWidth_of_le h]
  refine ⟨(field (by decide)).trans ?_, (field (by decide)).trans ?_, (field (by decide)).trans ?_, (field (by decide)).trans ?_⟩ <;>
    simp (disch := decide) only [slice_low, slice_high, slice_self, Nat.reduceSub]
  rfl

section
variable {s : State} {r : Row} {w : BitVec 64} {n : Nat} {reads writes : Bool}

/-- What rider mode meets at a CSR that is refused, whatever the instruction would do with it. -/
theorem State.csrOp_rider (hm : s.hart.mode = 0) (hw : bits w 0 2 = 1) (ha : csrAccess r w = some (n, reads, writes)) {d : Reg}
    {b b' : Bool} {rw : Hart → Word → Word} {clr : Hart → Word} (hr : r ≠ .endb)
    (hc : (r == .cVfetch) = false) (hp : ∀ m, privStop m r w = none) :
    (reads = true ∧ csrReadGroom n = true ∨ writes = true ∧ csrWriteRider n = false →
      s.csrOp r w n d b b' rw clr = .next (s.takeTrap (bitsStop 0x04 w) none)) ∧
    (0x10 ≤ n ∧ n ≤ 0x13 → s.hart.vs = 0 → s.csrOp r w n d b b' rw clr = .next (s.takeTrap (bitsStop 0x60 w) none)) ∧
    (n = 0x18 ∨ n = 0x19 → writes = false → s.hart.ms = 0 →
      s.csrOp r w n d b b' rw clr = .next (s.takeTrap (bitsStop 0x61 w) none)) := by
  have hv : r.isVec w = false := Bool.eq_false_iff.mpr (Row.not_isVec hw (hr := hc))
  have hstop {c : Stop} (h : s.hart.csrStop n reads writes w = some c) : s.csrOp r w n d b b' rw clr = .next (s.takeTrap c none) :=
    State.scalar_stops (State.decodeStop_csr hr hp hv ha h) _
  exact ⟨fun h => hstop (Hart.csrStop_groom hm h), fun h hv => hstop (Hart.csrStop_vector hm h hv),
    fun h hw hv => hstop (hw ▸ Hart.csrStop_matrix hm h hv)⟩

end

/-- The registers that only groom mode reads: the trap registers and `pgroot` (R91). -/
theorem csrReadGroom_iff {n : Nat} : csrReadGroom n = true ↔ (1 ≤ n ∧ n ≤ 7) ∨ n = 0x50 := by
  simp only [csrReadGroom, Bool.or_eq_true, decide_eq_true_eq, beq_iff_eq]

/-- What only groom mode reads, only groom mode writes (R91). -/
theorem csrWriteRider_of_read {n : Nat} (h : csrReadGroom n = true) : csrWriteRider n = false := by
  rw [csrReadGroom_iff] at h
  simp only [csrWriteRider, Bool.or_eq_false_iff, decide_eq_false_iff_not, beq_eq_false_iff_ne]
  omega

/-- The registers that rider mode may read and not write (R91). -/
def RiderReads (n : Nat) : Prop :=
  n = 0x00 ∨ n = 0x14 ∨ n = 0x15 ∨ n = 0x18 ∨ n = 0x19 ∨ n = 0x30 ∨ n = 0x31 ∨ (0x38 ≤ n ∧ n ≤ 0x3F) ∨ n = 0x48 ∨ n = 0x49 ∨
    n = 0x51 ∨ n = 0x52 ∨ n = 0x60 ∨ n = 0x61

theorem RiderReads.not_written {n : Nat} (h : RiderReads n) : csrWriteRider n = false := by
  unfold RiderReads at h
  simp only [csrWriteRider, Bool.or_eq_false_iff, decide_eq_false_iff_not, beq_eq_false_iff_ne]
  omega

/-! ## Settling the statement -/

section
variable {s : State} (hm : s.hart.mode = 0) {c : BitVec 11} {d a : BitVec 5} {v : BitVec 64} {r : Row} {x : BitVec 3}
  {b b' : Bool} {rw : Hart → Word → Word} {clr : Hart → Word} {e : Answer}
include hm

/-- `CSRRS`, `CSRRC` and their immediate forms in rider mode: they read, and they write where their source is not 0 (R92, R116). -/
theorem State.csrOp_setClear_rider (hr : r ∈ [Row.csrrs, .csrrc, .csrrsi, .csrrci]) (hv : v = (c ++ x ++ a ++ d ++ 145#8).setWidth 64)
    (he : e = s.csrOp r v c.toNat d b b' rw clr) :
    (((1 ≤ c.toNat ∧ c.toNat ≤ 7) ∨ c.toNat = 0x50) ∨ (a ≠ 0#5 ∧ RiderReads c.toNat) → e = .next (s.takeTrap (bitsStop 0x04 v) none)) ∧
    (0x10 ≤ c.toNat ∧ c.toNat ≤ 0x13 → s.hart.vs = 0 → e = .next (s.takeTrap (bitsStop 0x60 v) none)) ∧
    (c.toNat = 0x18 ∨ c.toNat = 0x19 → a = 0#5 → s.hart.ms = 0 → e = .next (s.takeTrap (bitsStop 0x61 v) none)) := by
  obtain ⟨hn, ha, -, hlow⟩ := csrWord_fields c x a d
  rw [← hv] at hn ha hlow
  have hb : (bits v 13 5 != 0) = (a != 0#5) := by
    rw [ha, Bool.eq_iff_iff, bne_iff_ne, bne_iff_ne, ne_eq, ne_eq, ← BitVec.toNat_inj]
    rfl
  have hrow : csrAccess r v = some (c.toNat, true, a != 0#5) ∧ r ≠ .endb ∧ (r == .cVfetch) = false ∧ ∀ m, privStop m r v = none := by
    simp only [List.mem_cons, List.not_mem_nil, or_false] at hr
    rw [← hn, ← hb]
    rcases hr with rfl | rfl | rfl | rfl <;> exact ⟨rfl, by decide, by decide, fun _ => rfl⟩
  obtain ⟨hacc, hend, hvf, hp⟩ := hrow
  obtain ⟨h4, h60, h61⟩ := State.csrOp_rider hm hlow hacc hend hvf hp (d := d) (b := b) (b' := b') (rw := rw) (clr := clr)
  subst he
  refine ⟨fun h => h4 ?_, h60, fun h h0 => h61 h (by rw [h0]; rfl)⟩
  rcases h with h | ⟨h0, h⟩
  · exact .inl ⟨rfl, csrReadGroom_iff.mpr h⟩
  · exact .inr ⟨bne_iff_ne.mpr h0, h.not_written⟩

/-- `CSRRW` and its immediate form in rider mode: they write (R92, R116). -/
theorem State.csrOp_write_rider (hr : r ∈ [Row.csrrw, .csrrwi]) (hv : v = (c ++ x ++ a ++ d ++ 145#8).setWidth 64)
    (he : e = s.csrOp r v c.toNat d b b' rw clr) :
    (((1 ≤ c.toNat ∧ c.toNat ≤ 7) ∨ c.toNat = 0x50) ∨ RiderReads c.toNat → e = .next (s.takeTrap (bitsStop 0x04 v) none)) ∧
    (0x10 ≤ c.toNat ∧ c.toNat ≤ 0x13 → s.hart.vs = 0 → e = .next (s.takeTrap (bitsStop 0x60 v) none)) := by
  obtain ⟨hn, -, -, hlow⟩ := csrWord_fields c x a d
  rw [← hv] at hn hlow
  have hrow : csrAccess r v = some (c.toNat, bits v 8 5 != 0, true) ∧ r ≠ .endb ∧ (r == .cVfetch) = false ∧ ∀ m, privStop m r v = none := by
    simp only [List.mem_cons, List.not_mem_nil, or_false] at hr
    rw [← hn]
    rcases hr with rfl | rfl <;> exact ⟨rfl, by decide, by decide, fun _ => rfl⟩
  obtain ⟨hacc, hend, hvf, hp⟩ := hrow
  obtain ⟨h4, h60, -⟩ := State.csrOp_rider hm hlow hacc hend hvf hp (d := d) (b := b) (b' := b') (rw := rw) (clr := clr)
  subst he
  exact ⟨fun h => h4 (.inr ⟨rfl, h.elim (fun h => csrWriteRider_of_read (csrReadGroom_iff.mpr h)) RiderReads.not_written⟩), h60⟩

end

/-- A privileged instruction in rider mode traps, whatever it would do (R75 row 5). -/
theorem State.scalar_isGroom {s : State} (hm : s.hart.mode = 0) {r : Row} (hr : r.isGroom = true) (w : BitVec 64) (k : State → Answer) :
    s.scalar r w k = .next (s.takeTrap (bitsStop 0x04 w) none) := State.scalar_stops (State.decodeStop_isGroom hm hr) k

theorem State.withCap_isGroom {s : State} (hm : s.hart.mode = 0) {r : Row} (hr : r.isGroom = true) (w : BitVec 64) (a : Reg)
    (need : List Right) (k : Cap → State → Answer) : s.withCap r w a need k = .next (s.takeTrap (bitsStop 0x04 w) none) :=
  State.scalar_isGroom hm hr w _

/-- `QSEAL` and `QREVOKE` have a refusal of their own, of the same cause (R124). -/
theorem State.hostFn_isGroom {s : State} {w : BitVec 64} {a : Answer} (ha : a = .next (s.takeTrap (bitsStop 0x04 w) none)) :
    (if s.hostFn 5 then s.raise (bitsStop 0x04 w) else a) = .next (s.takeTrap (bitsStop 0x04 w) none) := by
  split
  · rfl
  · exact ha

/-- Settles O18: each refusal is one of decode, before the instruction does anything. -/
theorem privilegeTraps : Obligations.PrivilegeTraps := by
  refine ⟨fun s hm => ⟨fun o => ?_, fun o => ?_⟩, fun s o1 o2 oda o3 hm => ⟨?_, ?_, ?_, ?_, ?_, ?_, ?_⟩⟩
  · obtain ⟨s4, s60, s61⟩ := State.csrOp_setClear_rider hm (r := .csrrs) (by decide) (v := wordCsrrs o) rfl (rfl : execCsrrs o s = _)
    obtain ⟨c4, c60, c61⟩ := State.csrOp_setClear_rider hm (r := .csrrc) (by decide) (v := wordCsrrc o) rfl (rfl : execCsrrc o s = _)
    obtain ⟨w4, w60⟩ := State.csrOp_write_rider hm (r := .csrrw) (by decide) (v := wordCsrrw o) rfl (rfl : execCsrrw o s = _)
    exact ⟨fun h => ⟨s4 h, c4 h⟩, w4, fun h hv => ⟨s60 h hv, c60 h hv, w60 h hv⟩, fun h h0 hv => ⟨s61 h h0 hv, c61 h h0 hv⟩⟩
  · obtain ⟨s4, s60, s61⟩ := State.csrOp_setClear_rider hm (r := .csrrsi) (by decide) (v := wordCsrrsi o) rfl (rfl : execCsrrsi o s = _)
    obtain ⟨c4, c60, c61⟩ := State.csrOp_setClear_rider hm (r := .csrrci) (by decide) (v := wordCsrrci o) rfl (rfl : execCsrrci o s = _)
    obtain ⟨w4, w60⟩ := State.csrOp_write_rider hm (r := .csrrwi) (by decide) (v := wordCsrrwi o) rfl (rfl : execCsrrwi o s = _)
    exact ⟨fun h => ⟨s4 h, c4 h⟩, w4, fun h hv => ⟨s60 h hv, c60 h hv, w60 h hv⟩, fun h h0 hv => ⟨s61 h h0 hv, c61 h h0 hv⟩⟩
  · exact Eq.trans (b := execTret s) rfl (State.scalar_isGroom hm (r := .tret) rfl _ _)
  · exact Eq.trans (b := execTlbinv o2 s) rfl (State.scalar_isGroom hm (r := .tlbinv) rfl _ _)
  · exact Eq.trans (b := execVqsave o1 s) rfl (State.scalar_isGroom hm (r := .vqsave) rfl _ _)
  · exact Eq.trans (b := execVqload o1 s) rfl (State.scalar_isGroom hm (r := .vqload) rfl _ _)
  · exact Eq.trans (b := execQseal oda s) rfl (State.hostFn_isGroom (State.scalar_isGroom hm (r := .qseal) rfl _ _))
  · exact Eq.trans (b := execQrevoke o3 s) rfl (State.hostFn_isGroom (State.withCap_isGroom hm rfl _ _ _ _))
  · exact Eq.trans (b := execQgrow o3 s) rfl (State.withCap_isGroom hm rfl _ _ _ _)

end Sys2Proof.Machine
end

section
/-! O60: every hart stays legal (R93, R94, R141, R344, R354). A hart is legal (`Hart.legal`) where its vector length fits its registers at
its element width, the width is at most 4, and the mode and the mode before a trap are at most 2; `HartInv` says so of the hart in focus and of
every other.

Legality rests on `vcfg` and the two mode fields of `status` alone (`Hart.modes`). Few operations change them, and each keeps a legal hart
legal for a reason of its own: a trap and the return from it (R344, R354), a write of a control register that R94 does not refuse, `VSETL`
(R141) and the change of the storage of a register (R65), the child of a fork (R143), a launch with an image that R10 accepts, and a reset.
All others keep `Hart.modes`, or leave the harts alone.

As for O59, the development follows the model's definitions in their order, and `HartInv.f` says of an operation `f` on states that it keeps
the harts legal. -/

namespace Sys2Proof.Machine

/-! ## What legality rests on (R93, R94) -/

section
variable {g h : Hart} {w : Word} {lo n : Nat}

/-- The registers of a hart that its legality rests on: `vcfg`, the mode and the mode before a trap. -/
def Hart.modes (h : Hart) : Word × Nat × Nat := (h.csr.vcfg, h.mode, h.pmode)

theorem Hart.legal_iff : h.legal = true ↔ h.vl ≤ h.perReg ∧ h.sew ≤ 4 ∧ h.mode ≤ 2 ∧ h.pmode ≤ 2 := by
  simp only [Hart.legal, Bool.and_eq_true, decide_eq_true_eq, and_assoc]

theorem Hart.legal_of_modes (e : g.modes = h.modes) (hl : h.legal = true) : g.legal = true := by
  simp only [Hart.modes, Prod.mk.injEq] at e
  obtain ⟨hv, hm, hp⟩ := e
  rw [Hart.legal_iff] at hl ⊢
  simpa only [Hart.vl, Hart.perReg, Hart.vlmax, Hart.width, Hart.sew, hv, hm, hp] using hl

/-- `status` changed outside of its two modes, and `vcfg` kept. -/
theorem Hart.modes_of_status (hv : g.csr.vcfg = h.csr.vcfg)
    (hs : ∀ lo, lo ≤ 2 → bits g.csr.status lo 2 = bits h.csr.status lo 2) : g.modes = h.modes := by
  simp only [Hart.modes, Hart.mode, Hart.pmode, hv, hs 0 (by decide), hs 2 (by decide)]

theorem bits_setBits_above (v m : Nat) (hlo : lo ≤ 2) (hn : 4 ≤ n) : bits (setBits w n m v) lo 2 = bits w lo 2 :=
  bits_setBits_apart w v (by omega) (.inl (by omega))

theorem bits_vsDirty (hlo : lo ≤ 2) : bits (vsDirty w) lo 2 = bits w lo 2 := by
  unfold vsDirty
  split
  · rfl
  · exact bits_setBits_above 3 2 hlo (by decide)

theorem bits_msDirty (hlo : lo ≤ 2) : bits (msDirty w) lo 2 = bits w lo 2 := by
  unfold msDirty
  split
  · rfl
  · exact bits_setBits_above 3 2 hlo (by decide)

/-! ## What keeps the modes of a hart -/

@[simp] theorem Hart.modes_setX (r : Reg) (v : Word) : (h.setX r v).modes = h.modes := by
  simp only [Hart.modes, Hart.mode, Hart.pmode, Hart.setX_csr]

@[simp] theorem Hart.modes_setV (r : Reg) (v : VReg) : (h.setV r v).modes = h.modes := Hart.modes_of_status rfl fun _ => bits_vsDirty

@[simp] theorem Hart.modes_setK (r : KReg) (m : KMask) : (h.setK r m).modes = h.modes := by
  unfold Hart.setK
  split
  · rfl
  · exact Hart.modes_of_status rfl fun _ => bits_vsDirty

@[simp] theorem Hart.modes_setZ (n : Nat) (t chk : Tile) : (h.setZ n t chk).modes = h.modes := by
  unfold Hart.setZ
  dsimp only
  split <;> exact Hart.modes_of_status rfl fun _ => bits_msDirty

theorem Hart.modes_ite {c : Prop} [Decidable c] {f : Hart} (hf : f.modes = h.modes) (hg : g.modes = h.modes) :
    (if c then f else g).modes = h.modes := by
  split
  · exact hf
  · exact hg

theorem Hart.modes_csr {c : Csrs} (hv : c.vcfg = h.csr.vcfg) (hs : c.status = h.csr.status) :
    ({ h with csr := c } : Hart).modes = h.modes := by
  simp only [Hart.modes, Hart.mode, Hart.pmode, hv, hs]

@[simp] theorem Hart.modes_run (r : Run) : ({ h with run := r } : Hart).modes = h.modes := rfl
@[simp] theorem Hart.modes_orFlags (f : Flags) : (h.orFlags f).modes = h.modes := rfl
@[simp] theorem Hart.modes_setVstart (n : Nat) : (h.setVstart n).modes = h.modes := rfl

@[simp] theorem Hart.modes_putDst (d : Reg) (t : Dst) : (h.putDst d t).modes = h.modes := by
  unfold Hart.putDst
  dsimp only
  split <;> split <;> split <;> simp only [Hart.modes_setV]

@[simp] theorem Hart.modes_healCells (tile : Nat) (cs : List (Nat × Nat)) : (h.healCells tile cs).modes = h.modes := by
  unfold Hart.healCells
  split <;> rfl

theorem Hart.modes_foldl {α : Type} {f : Hart → α → Hart} (hf : ∀ g a, (f g a).modes = g.modes) (l : List α) :
    (l.foldl f h).modes = h.modes :=
  List.foldlRecOn (motive := fun g : Hart => g.modes = h.modes) l f rfl fun _ hg _ _ => (hf _ _).trans hg

@[simp] theorem Hart.modes_deliver : h.deliver.modes = h.modes := by
  unfold Hart.deliver
  split
  · exact Hart.modes_foldl (fun _ _ => Hart.modes_setX _ _) _
  · rfl

@[simp] theorem Hart.modes_deliverAll : h.deliverAll.modes = h.modes := by
  refine Hart.modes_foldl (fun g e => ?_) _
  split
  · exact Hart.modes_setX _ _
  · rfl

@[simp] theorem Hart.modes_leave : h.leave.modes = h.modes := by
  rw [← Hart.modes_deliver (h := h)]
  unfold Hart.leave
  dsimp only
  split
  · rfl
  · split
    · split <;> rfl
    · rfl

@[simp] theorem Hart.modes_freeze : h.freeze.modes = h.modes := by
  unfold Hart.freeze
  split
  · rfl
  · exact Hart.modes_of_status rfl fun _ hlo => bits_setBits_above _ 1 hlo (by decide)

@[simp] theorem Hart.modes_putBack (old : Hart) (n : Nat) (e : QEntry) : (h.putBack old n e).modes = h.modes := Hart.modes_deliver

@[simp] theorem Hart.modes_replay (q : List QEntry) : (h.replay q).modes = h.modes :=
  Hart.modes_of_status rfl fun _ hlo => bits_setBits_above _ 1 hlo (by decide)

@[simp] theorem Hart.modes_loadRegs (xs vs ks zs : List (Nat × Nat)) : (h.loadRegs xs vs ks zs).modes = h.modes := by
  unfold Hart.loadRegs
  dsimp only
  refine (Hart.modes_foldl ?_ _).trans ((Hart.modes_foldl ?_ _).trans ((Hart.modes_foldl ?_ _).trans (Hart.modes_foldl ?_ _)))
  · exact fun _ _ => rfl
  · exact fun _ _ => rfl
  · exact fun _ _ => rfl
  · exact fun _ _ => Hart.modes_setX _ _

@[simp] theorem Hart.modes_preempt (host : Bool) : (h.preempt host).modes = h.modes := by
  unfold Hart.preempt
  split <;> rfl

@[simp] theorem Hart.modes_dropAsync (c : Nat) : (h.dropAsync c).modes = h.modes := by
  unfold Hart.dropAsync
  split
  · rfl
  · split <;> rfl

/-! ## What changes the modes of a hart and keeps them legal -/

/-- A trap saves the mode and enters groom mode, at least (R344). -/
theorem Hart.legal_enterTrap {c : Stop} {vpc : Option Word} (hl : h.legal = true) : (h.enterTrap c vpc).legal = true := by
  have hf : h.deliverAll.leave.freeze.legal = true :=
    Hart.legal_of_modes (by simp only [Hart.modes_freeze, Hart.modes_leave, Hart.modes_deliverAll]) hl
  obtain ⟨hvl, hsew, hmode, -⟩ := Hart.legal_iff.mp hf
  refine Hart.legal_iff.mpr ⟨hvl, hsew, ?_, ?_⟩
  · change bits (trapStatus _) 0 2 ≤ 2
    rw [trapStatus, setBit, bits_setBits_above _ _ (by decide) (by decide), bits_setBits_same _ _ (by decide)]
    exact (Nat.mod_le ..).trans (max_le hmode (by decide))
  · change bits (trapStatus _) 2 2 ≤ 2
    rw [trapStatus, setBit, bits_setBits_above _ _ (by decide) (by decide), bits_setBits_apart _ _ (by decide) (.inr (by decide)),
      bits_setBits_same _ _ (by decide)]
    exact (Nat.mod_le ..).trans hmode

/-- The return from a trap goes back to the mode before it (R354). -/
theorem Hart.legal_leaveTrap (hl : h.legal = true) : h.leaveTrap.legal = true := by
  obtain ⟨hvl, hsew, -, hp⟩ := Hart.legal_iff.mp hl
  have hst {lo : Nat} (hlo : lo ≤ 2) : bits h.leaveTrap.csr.status lo 2 = bits (setBits h.csr.status 0 2 h.pmode) lo 2 := by
    change bits (if h.pmode = 0 then setBit _ 4 true else _) lo 2 = _
    split
    · exact bits_setBits_above _ 1 hlo (by decide)
    · rfl
  refine Hart.legal_iff.mpr ⟨hvl, hsew, ?_, ?_⟩
  · rw [Hart.mode, hst (by decide), bits_setBits_same _ _ (by decide)]
    exact (Nat.mod_le ..).trans hp
  · rw [Hart.pmode, hst (by decide), bits_setBits_apart _ _ (by decide) (.inr (by decide))]
    exact hp

/-- A write of `status` with 3 for a mode leaves that mode as it is (R93). -/
theorem bits_writeStatus {old v : Word} (h0 : bits old 0 2 ≤ 2) (h2 : bits old 2 2 ≤ 2) :
    bits (writeStatus old v) 0 2 ≤ 2 ∧ bits (writeStatus old v) 2 2 ≤ 2 := by
  rw [writeStatus_eq, bits_ofNat (by decide), bits_ofNat (by decide)]
  simp only [bits_eq_div_mod, Nat.reducePow, Nat.div_one] at h0 h2 ⊢
  constructor <;> split <;> split <;> omega

/-- A hart is legal with a vector length that its registers hold, whatever it was before. -/
theorem Hart.legal_setVl (hn : n ≤ h.perReg) (hs : h.sew ≤ 4) (hm : h.mode ≤ 2) (hp : h.pmode ≤ 2) : (h.setVl n).legal = true := by
  have hmax : bits (setBits h.csr.vcfg 0 16 n) 35 2 = bits h.csr.vcfg 35 2 := bits_setBits_apart _ _ (by decide) (.inr (by decide))
  have hsew : bits (setBits h.csr.vcfg 0 16 n) 16 3 = bits h.csr.vcfg 16 3 := bits_setBits_apart _ _ (by decide) (.inr (by decide))
  refine Hart.legal_of_csr (vcfg := setBits h.csr.vcfg 0 16 n) (status := h.csr.status) rfl rfl ?_ (hsew.trans_le hs) hm hp
  rw [bits_setBits_same _ _ (by decide), hmax, hsew]
  exact (Nat.mod_le ..).trans hn

/-- A storage code means at least as many bits in the two bits of its field as it does itself. -/
theorem vlmaxBits_le_mod (code : Nat) : vlmaxBits code ≤ vlmaxBits (code % 2 ^ 2) := by
  by_cases hc : code < 4
  · rw [Nat.mod_eq_of_lt (b := 2 ^ 2) hc]
  · have hbig : vlmaxBits code = 512 := by
      rw [vlmaxBits, if_neg (by omega), if_neg (by omega), if_neg (by omega)]
    have hlow : code % 2 ^ 2 < 4 := Nat.mod_lt _ (by decide)
    rw [hbig]
    interval_cases code % 2 ^ 2 <;> decide

/-- Under a new VLMAX, `vl` is brought within what a register holds (R65). -/
theorem Hart.legal_setVlmax {code : Nat} (hl : h.legal = true) : (h.setVlmax code).legal = true := by
  obtain ⟨-, hs, hm, hp⟩ := Hart.legal_iff.mp hl
  unfold Hart.setVlmax
  extract_lets n cut old g
  have hsew : g.sew ≤ 4 := (bits_setBits_apart _ _ (by decide) (.inl (by decide))).trans_le hs
  have hfit : n / g.width ≤ g.perReg := Nat.div_le_div_right (by
    rw [Hart.vlmax, show bits g.csr.vcfg 35 2 = code % 2 ^ 2 from bits_setBits_same _ _ (by decide)]
    exact vlmaxBits_le_mod code)
  split
  · exact Hart.legal_setVl hfit hsew hm hp
  next hv => exact Hart.legal_iff.mpr ⟨(Nat.not_lt.mp hv).trans hfit, hsew, hm, hp⟩

theorem Hart.legal_offerVlmax {code : Nat} (hl : h.legal = true) : (h.offerVlmax code).legal = true := by
  unfold Hart.offerVlmax
  split
  · exact hl
  · split
    · exact hl
    · exact Hart.legal_setVlmax hl

/-- `VSETL` sets a legal element width, and a length that a register holds under it (R141). -/
theorem newVl_le (a e : Nat) (la : Bool) : newVl a e la ≤ e := by
  unfold newVl
  split
  · assumption
  · split
    · dsimp only
      split <;> omega
    · exact le_rfl

/-- A field inside the mask of a write is written. -/
theorem bits_merge_inside {mask old v : Word} (h : lo + n < 64) (hm : mask.extractLsb' lo n = BitVec.allOnes n) :
    bits (merge mask old v) lo n = bits v lo n := by
  rw [bits, merge, BitVec.extractLsb'_or, BitVec.extractLsb'_and, BitVec.extractLsb'_and, BitVec.extractLsb'_not_of_lt h, hm,
    BitVec.not_allOnes, BitVec.and_zero, BitVec.zero_or, BitVec.and_allOnes, bits]

/-- A field outside the mask of a write stays. -/
theorem bits_merge_outside {mask old v : Word} (h : lo + n < 64) (hm : mask.extractLsb' lo n = 0#n) :
    bits (merge mask old v) lo n = bits old lo n := by
  rw [bits, merge, BitVec.extractLsb'_or, BitVec.extractLsb'_and, BitVec.extractLsb'_and, BitVec.extractLsb'_not_of_lt h, hm,
    BitVec.not_zero, BitVec.and_zero, BitVec.or_zero, BitVec.and_allOnes, bits]

/-- The other control registers are written without `vcfg` and `status`. -/
theorem Csrs.write_apart (c : Csrs) (v clr : Word) (h0 : n ≠ 0) (h16 : n ≠ 0x10) :
    (c.write n v clr).vcfg = c.vcfg ∧ (c.write n v clr).status = c.status := by
  unfold Csrs.write
  split
  case h_1 => contradiction
  case h_9 => contradiction
  all_goals exact ⟨rfl, rfl⟩

/-- A write of the hart's registers that R94 does not refuse leaves it legal; of `vcfg` the storage code cannot be written. -/
theorem Hart.legal_write {v clr : Word} (hl : h.legal = true) (hv : n = 0x10 → h.badVcfg v = false) :
    ({ h with csr := h.csr.write n v clr } : Hart).legal = true := by
  obtain ⟨hvl, hs, hm, hp⟩ := Hart.legal_iff.mp hl
  by_cases h0 : n = 0
  · subst h0
    obtain ⟨hm, hp⟩ := bits_writeStatus (v := v) hm hp
    exact Hart.legal_of_csr (vcfg := h.csr.vcfg) (status := writeStatus h.csr.status v) rfl rfl hvl hs hm hp
  by_cases h16 : n = 0x10
  · subst h16
    have hbad := hv rfl
    simp only [Hart.badVcfg, Bool.or_eq_false_iff, decide_eq_false_iff_not, not_le, not_lt] at hbad
    obtain ⟨⟨⟨⟨⟨hsew, -⟩, -⟩, -⟩, -⟩, hlen⟩ := hbad
    have e16 : bits (merge 0x1E7FFFFFFFF#64 h.csr.vcfg v) 16 3 = bits v 16 3 := bits_merge_inside (by decide) rfl
    refine Hart.legal_of_csr (vcfg := merge 0x1E7FFFFFFFF#64 h.csr.vcfg v) (status := h.csr.status) rfl rfl ?_ (by omega) hm hp
    rw [bits_merge_inside (by decide) rfl, e16, bits_merge_outside (by decide) rfl]
    exact hlen
  · obtain ⟨ev, es⟩ := Csrs.write_apart h.csr v clr h0 h16
    exact Hart.legal_of_csr ev es hvl hs hm hp

/-- The child of a fork has the vector state and the mode of its parent (R143). -/
theorem Hart.legal_forkChild {id member k age : Nat} {pc : Word} {xd : Reg} (hl : h.legal = true) :
    (forkChild h id member pc xd k age).legal = true := by
  obtain ⟨hvl, hs, hm, -⟩ := Hart.legal_iff.mp hl
  refine Hart.legal_of_csr (vcfg := h.csr.vcfg) ?_ rfl hvl hs ((forkChild_status ..).1.trans_le hm) ?_
  · rw [forkChild, Hart.setX_csr]
  · rw [forkChild, Hart.setX_csr, bits_setBits_above _ _ (by decide) (by decide), bits_setBits_above _ _ (by decide) (by decide),
      bits_setBits_apart _ _ (by decide) (.inr (by decide)), setBit, bits_setBits_above _ _ (by decide) (by decide)]
    decide

/-- Control registers with the image's `vcfg`, and rider mode in both mode fields of `status` (R12). -/
def Csrs.Launched (d : Header) (c : Csrs) : Prop := c.vcfg = d.vcfg0 ∧ bits c.status 0 2 = 0 ∧ bits c.status 2 2 = 0

theorem Csrs.Launched.write {d : Header} {c : Csrs} (hc : c.Launched d) (v : Word) (h0 : n ≠ 0) (h16 : n ≠ 0x10) :
    (c.write n v 0#64).Launched d := by
  obtain ⟨hv, hs⟩ := Csrs.write_apart c v 0#64 h0 h16
  rwa [Csrs.Launched, hv, hs]

theorem launchCsrs_launched (d : Header) (e : List Word) (gang member N : Nat) : (launchCsrs d e gang member N).Launched d := by
  have four {c : Csrs} {b : Nat} {w : Nat → Word} (hc : c.Launched d) (hb : 0x10 < b) :
      ((countFrom 0 4).foldl (fun c i => c.write (b + i) (w i) 0#64) c).Launched d :=
    List.foldlRecOn (motive := Csrs.Launched d) _ _ hc fun c hc i _ => hc.write (w i) (by omega) (by omega)
  unfold launchCsrs
  extract_lets w on2 st reset c c1
  have hst {lo : Nat} (hlo : lo ≤ 2) : bits st lo 2 = bits 0x10#64 lo 2 :=
    (bits_setBits_above _ _ hlo (by decide)).trans (bits_setBits_above _ _ hlo (by decide))
  have hc : c.Launched d := ⟨rfl, (hst (lo := 0) (by decide)).trans rfl, (hst (lo := 2) (by decide)).trans rfl⟩
  have set {c : Csrs} {n : Nat} (i : Nat) (hc : c.Launched d) (hn : n ≠ 0 ∧ n ≠ 0x10) : (c.write n (w i) 0#64).Launched d :=
    hc.write (w i) hn.1 hn.2
  have h1 : c1.Launched d :=
    set 6 (set 5 (set 4 (set 3 (set 2 (set 1 hc (by decide)) (by decide)) (by decide)) (by decide)) (by decide)) (by decide)
  exact four (four (set 7 h1 (by decide)) (by decide)) (by decide)

/-- A hart that starts with what an image may set is legal (R10, R12). -/
theorem Hart.legal_launched {d : Header} {m c : Nat} {e : List Word} {gang member N : Nat} (hd : d.bad m c = false)
    (hg : g.csr = launchCsrs d e gang member N) : g.legal = true := by
  obtain ⟨hv, hm, hp⟩ := launchCsrs_launched d e gang member N
  have hbad : d.badVcfg = false := by
    simp only [Header.bad, Bool.or_eq_false_iff] at hd
    tauto
  simp only [Header.badVcfg, Bool.or_eq_false_iff, decide_eq_false_iff_not, not_le, not_lt] at hbad
  obtain ⟨⟨⟨⟨⟨⟨hsew, -⟩, -⟩, -⟩, -⟩, -⟩, hlen⟩ := hbad
  rw [← hg] at hv hm hp
  exact Hart.legal_of_csr hv rfl hlen (by omega) (by omega) (by omega)

end

/-! ## The invariant and the parts of the state -/

section
variable {s t : State}

/-- The hart in focus keeps its modes, and the others stay. Where an operation leaves the harts alone outright, `HartInv` says the same of
both states by definition, and `h` itself is the proof. -/
theorem HartInv.same (h : HartInv s) (e : t.hart.modes = s.hart.modes) (o : t.others = s.others) : HartInv t :=
  ⟨Hart.legal_of_modes e h.1, o ▸ h.2⟩

theorem HartInv.onHart (h : HartInv s) {f : Hart → Hart} (hf : (f s.hart).modes = s.hart.modes) : HartInv (s.onHart f) :=
  h.same hf rfl

/-- The hart in focus may change its modes where it stays legal. -/
theorem HartInv.onHartTo (h : HartInv s) {f : Hart → Hart} (hf : s.hart.legal = true → (f s.hart).legal = true) :
    HartInv (s.onHart f) :=
  ⟨hf h.1, h.2⟩

theorem all_legal_map {f : Hart → Hart} {l : List Hart} (hl : l.all Hart.legal = true) (hf : ∀ g, g.legal = true → (f g).legal = true) :
    (l.map f).all Hart.legal = true := by
  simp only [List.all_map, List.all_eq_true, Function.comp_apply] at hl ⊢
  exact fun g hg => hf g (hl g hg)

theorem HartInv.mapHarts (h : HartInv s) {f : Hart → Hart} (hf : ∀ g, (f g).modes = g.modes) :
    HartInv (s.mapHarts f) :=
  ⟨Hart.legal_of_modes (hf _) h.1, all_legal_map h.2 fun g => Hart.legal_of_modes (hf g)⟩

theorem HartInv.findHart (h : HartInv s) {id : Nat} {g : Hart} (e : s.findHart id = some g) : g.legal = true := by
  unfold State.findHart at e
  split at e
  · cases e; exact h.1
  · exact all_findBy h.2 e

theorem HartInv.putHart (h : HartInv s) {g : Hart} (hg : g.legal = true) : HartInv (s.putHart g) := by
  unfold State.putHart
  split
  · exact ⟨hg, h.2⟩
  · exact ⟨h.1, all_putBy h.2 hg⟩

/-- A hart that was found is put back with the modes that it had. -/
theorem HartInv.putHartOf (h : HartInv s) {id : Nat} {g k : Hart} (e : s.findHart id = some g) (hk : k.modes = g.modes) :
    HartInv (s.putHart k) := h.putHart (Hart.legal_of_modes hk (h.findHart e))

theorem HartInv.onHartId (h : HartInv s) {id : Nat} {f : Hart → Hart} (hf : ∀ g, (f g).modes = g.modes) :
    HartInv (s.onHartId id f) := by
  unfold State.onHartId
  split
  next e => exact h.putHartOf e (hf _)
  · exact h

theorem HartInv.focusOn (h : HartInv s) {id : Nat} : HartInv (s.focusOn id) := by
  unfold State.focusOn
  split
  · exact h
  · refine ⟨?_, by simp only [List.all_cons, h.1, all_dropBy h.2, Bool.and_self]⟩
    dsimp only
    cases e : findBy (fun h : Hart => h.id == id) s.others with
    | none => exact Hart.legal_reset id
    | some g => exact all_findBy h.2 e

theorem HartInv.freeHart (h : HartInv s) {id : Nat} : HartInv (s.freeHart id) := by
  unfold State.freeHart
  dsimp only
  split
  · exact ⟨Hart.legal_reset id, h.2⟩
  · exact ⟨h.1, all_dropBy h.2⟩

end

/-! ## Parts of the state put back, and branches -/

section
variable {s t : State}

theorem HartInv.putDie (h : HartInv s) {d : Die} : HartInv (s.putDie d) := h

theorem HartInv.putJob (h : HartInv s) {j : Job} : HartInv (s.putJob j) := h

theorem HartInv.putPort (h : HartInv s) {p : Port} : HartInv (s.putPort p) := h
theorem HartInv.putStable (h : HartInv s) {c : Stable} : HartInv (s.putStable c) := h
theorem HartInv.putDir (h : HartInv s) {e : DirEntry} : HartInv (s.putDir e) := h
theorem HartInv.putHome (h : HartInv s) {e : HomeEntry} : HartInv (s.putHome e) := h

theorem HartInv.setCoh (h : HartInv s) {c : Coherence} : HartInv { s with coh := c } := h
theorem HartInv.setFresh (h : HartInv s) {n : Nat} : HartInv { s with fresh := n } := h
theorem HartInv.setFailing (h : HartInv s) {l : List Nat} : HartInv { s with failing := l } := h

theorem HartInv.foldl {α : Type} {l : List α} {f : State → α → State} (h : HartInv s) (hf : ∀ t a, HartInv t → HartInv (f t a)) :
    HartInv (l.foldl f s) := List.foldlRecOn l f h fun t ht a _ => hf t a ht

theorem HartInv.ite {c : Prop} [Decidable c] (hs : HartInv s) (ht : HartInv t) : HartInv (if c then s else t) := by
  split
  · exact hs
  · exact ht

theorem HartInv.fst_ite {α : Type} {c : Prop} [Decidable c] {x y : State × α} (hx : HartInv x.1) (hy : HartInv y.1) :
    HartInv (if c then x else y).1 := by
  split
  · exact hx
  · exact hy

theorem HartInv.snd_ite {α : Type} {c : Prop} [Decidable c] {x y : α × State} (hx : HartInv x.2) (hy : HartInv y.2) :
    HartInv (if c then x else y).2 := by
  split
  · exact hx
  · exact hy

/-! ## Physical accesses -/

theorem HartInv.touchRegion (h : HartInv s) {pa : Nat} : HartInv (s.touchRegion pa) := by
  unfold State.touchRegion
  dsimp only
  split
  · exact h
  · exact h

theorem HartInv.mergeU (h : HartInv s) {line : Nat} : HartInv (s.mergeU line) := by
  unfold State.mergeU
  split
  · exact h
  · exact h.touchRegion.same rfl rfl

theorem HartInv.mergeRange (h : HartInv s) {a n : Nat} : HartInv (s.mergeRange a n) := by
  unfold State.mergeRange
  split
  · exact h
  · exact h.foldl fun _ _ h => h.mergeU

theorem HartInv.bufferHost (h : HartInv s) {pa n : Nat} {w : Bool} : HartInv (s.bufferHost pa n w) := by
  rw [State.bufferHost_frame]
  exact h

theorem HartInv.physRead (h : HartInv s) {pa n : Nat} : HartInv (s.physRead pa n).2 := h.mergeRange.bufferHost

theorem HartInv.physWrite (h : HartInv s) {who pa n v : Nat} : HartInv (s.physWrite who pa n v) := by
  have ht {coh : Coherence} : HartInv { (s.mergeRange pa n).touchRegion pa with coh } := h.mergeRange.touchRegion
  exact ht.bufferHost.same (by rfl) (by rfl)

/-! ## Records and events -/

theorem HartInv.logPort (h : HartInv s) {port : Nat} {r : ErrRecord} : HartInv (s.logPort port r) := h.putPort
theorem HartInv.logAll (h : HartInv s) {r : ErrRecord} : HartInv (s.logAll r) := h.logPort.logPort

theorem HartInv.postEvent (h : HartInv s) {port source cause die ctx : Nat} {value detail : Word} :
    HartInv (s.postEvent port source cause die ctx value detail) := by
  unfold State.postEvent
  dsimp only
  split <;> exact h.putPort

theorem HartInv.setPendingBit (h : HartInv s) {die n : Nat} : HartInv (s.setPendingBit die n) := by
  unfold State.setPendingBit
  dsimp only
  split
  · exact h
  · exact h.putDie.onHartId fun _ => rfl

theorem HartInv.toGroom (h : HartInv s) {die : Nat} {c : Stop} : HartInv (s.toGroom die c) := h

theorem HartInv.agentEvent (h : HartInv s) {fn cause die ctx : Nat} {value detail : Word} :
    HartInv (s.agentEvent fn cause die ctx value detail) := by
  unfold State.agentEvent
  split
  · exact h.postEvent
  · exact h.toGroom

theorem HartInv.recoveryEvent (h : HartInv s) {cause die ctx : Nat} {value : Word} : HartInv (s.recoveryEvent cause die ctx value) := by
  unfold State.recoveryEvent
  split
  · exact h.postEvent
  · exact h.toGroom

theorem HartInv.contain (h : HartInv s) {r : ErrRecord} : HartInv (s.contain r) := h.logAll.recoveryEvent

theorem HartInv.evictU (h : HartInv s) {die line : Nat} : HartInv (s.evictU die line).2 := by
  unfold State.evictU
  split
  · exact h
  split
  · dsimp only
    split
    · exact h
    · exact h.contain
  · exact h.mergeU

/-! ## Translation and the checks of an access -/

theorem HartInv.walk (h : HartInv s) {va level node : Nat} {shifts : List Nat} :
    HartInv (Machine.walk s va shifts level node).2.2 := by
  induction shifts generalizing s level node with
  | nil => exact h
  | cons sh rest ih =>
    have hr := h.physRead (pa := node + (va / 2 ^ sh % 1024) * 8) (n := 8)
    unfold Machine.walk
    dsimp only
    split
    · exact h
    split
    · exact h
    split
    · exact hr
    split
    · split <;> exact hr
    split
    · exact ih hr
    · exact hr

theorem HartInv.translate (h : HartInv s) {stable ctx va : Nat} {root : Word} {x : Xlat}
    (e : s.translate stable ctx root va = (x, t)) : HartInv t := by
  have hw := h.walk (va := va) (level := 0) (node := bits root 13 39 * 8192) (shifts := [46, 36, 26, 16])
  unfold State.translate at e
  split at e
  · cases e; exact h
  split at e
  all_goals
    rename_i eq
    rw [eq] at hw
    cases e
  · exact hw.putStable
  · exact hw

theorem HartInv.offerFault (h : HartInv s) {die va ctx hart n : Nat} {write fetch malformed : Bool}
    (e : s.offerFault die va ctx hart write fetch malformed = some (n, t)) : HartInv t := by
  unfold State.offerFault at e
  dsimp only at e
  split at e
  · cases e; exact h.postEvent
  split at e
  · contradiction
  · cases e
    exact h.putDie.setPendingBit

theorem HartInv.setOffers (h : HartInv s) {w : Who} {l : List Offer} : HartInv (s.setOffers w l) := by
  unfold State.setOffers
  split
  · exact h
  · exact h.onHart rfl

theorem HartInv.setMoved (h : HartInv s) {w : Who} {l : List (Nat × Nat × Bool)} : HartInv (s.setMoved w l) := by
  unfold State.setMoved
  split
  · exact h
  · exact h.onHart rfl

theorem HartInv.answered {α : Type} (h : HartInv s) {w : Who} {o : Offer} : (s.answered w o : Res α).Keeps HartInv := by
  unfold State.answered
  split
  · exact h.setOffers
  · exact h

theorem HartInv.notPresent {α : Type} (h : HartInv s) {w : Who} {va : Nat} {write fetch malformed : Bool} :
    (s.notPresent w va write fetch malformed : Res α).Keeps HartInv := by
  unfold State.notPresent
  split
  · exact h
  split
  next e => exact (h.offerFault e).setOffers
  · exact h

theorem HartInv.movedCheck (h : HartInv s) {w : Who} {va pa : Nat} : (s.movedCheck w va pa).Keeps HartInv := by
  unfold State.movedCheck
  dsimp only
  split
  · split
    · exact h.setMoved
    split
    · exact h
    split
    · exact h.setMoved
    split
    · exact h.setMoved
    · exact h.setMoved
  · split
    · exact h.setMoved
    · exact h

theorem HartInv.dataStop {α : Type} (h : HartInv s) {w : Who} {va cause cls pa : Nat} :
    (s.dataStop w va cause cls pa : Res α).Keeps HartInv := by
  change HartInv (if cls = 0 then s else _)
  split
  · exact h
  · exact h.contain

theorem HartInv.dataCheck (h : HartInv s) {w : Who} {va pa n : Nat} {k : AKind} : (s.dataCheck w va pa n k).Keeps HartInv := by
  unfold State.dataCheck
  split
  · exact h.dataStop
  · exact h

theorem HartInv.pageAs (h : HartInv s) {w : Who} {va n : Nat} {k : AKind} : (s.pageAs w va n k).Keeps HartInv := by
  unfold State.pageAs
  split
  · exact h.answered
  next e => exact (h.translate e).dataStop
  next e => exact (h.translate e).movedCheck.bind fun _ _ h => h
  next e => exact (h.translate e).notPresent
  next t e =>
    have ht := h.translate e
    split
    · exact ht.notPresent
    split
    · exact ht
    exact .ite ht.logAll ht

theorem HartInv.accessAs (h : HartInv s) {w : Who} {va n al : Nat} {k : AKind} : (s.accessAs w va n al k).Keeps HartInv := by
  unfold State.accessAs
  split
  · exact h
  split
  · exact h
  split
  · split <;> exact h
  · exact h.pageAs.bind fun _ _ h => h.movedCheck.bind fun _ _ h => h.dataCheck.bind fun _ _ h => h

theorem HartInv.access (h : HartInv s) {va n al : Nat} {k : AKind} {window : Bool} : (s.access va n al k window).Keeps HartInv := h.accessAs

/-! ## Places read and written -/

theorem HartInv.padWrite (h : HartInv s) {off n v : Nat} : HartInv (s.padWrite off n v) := by
  unfold State.padWrite
  split
  · exact h
  split
  · exact h
  · exact h

theorem HartInv.readPlace (h : HartInv s) {p : Place} {n : Nat} : HartInv (s.readPlace p n).2 := by
  cases p with
  | phys pa leaf => exact h.physRead
  | pad off => exact h

theorem HartInv.writePlace (h : HartInv s) {w : Who} {p : Place} {n v : Nat} : HartInv (s.writePlace w p n v) := by
  cases p with
  | phys pa leaf => exact h.physWrite
  | pad off => exact h.padWrite

theorem HartInv.readLines (h : HartInv s) {die prio pa n : Nat} {a : Option Nat} : HartInv (s.readLines die a prio pa n) := by
  rw [State.readLines_frame]
  exact h

theorem HartInv.placeAs (h : HartInv s) {w : Who} {p : Place} {n : Nat} {write : Bool} : HartInv (s.placeAs w p n write) := by
  rw [State.placeAs_frame]
  exact h

theorem HartInv.placeVector (h : HartInv s) {f n : Nat} {w : Bool} {p : Place} : HartInv (s.placeVector f w p n) := by
  rw [State.placeVector_frame]
  exact h

theorem HartInv.loadAs (h : HartInv s) {w : Who} {va n al : Nat} : (s.loadAs w va n al).Keeps HartInv :=
  h.accessAs.bind fun _ _ h => h.readPlace.placeAs

theorem HartInv.storeAs (h : HartInv s) {w : Who} {va n al v : Nat} : (s.storeAs w va n al v).Keeps HartInv :=
  h.accessAs.bind fun _ _ h => h.writePlace.placeAs

theorem HartInv.loadRaw (h : HartInv s) {va n al : Nat} {window : Bool} : (s.loadRaw va n al window).Keeps HartInv := h.loadAs
theorem HartInv.storeRaw (h : HartInv s) {va n al v : Nat} {window : Bool} : (s.storeRaw va n al v window).Keeps HartInv := h.storeAs

theorem HartInv.keepAttempt (h : HartInv s) {waits : Bool} : HartInv (s.keepAttempt t waits) := by
  unfold State.keepAttempt
  split
  · exact ⟨Hart.legal_of_modes rfl h.1, all_legal_map h.2 fun _ => Hart.legal_of_modes rfl⟩
  · exact h

theorem Res.Keeps.harts_orNothing {α : Type} {r : Res α} (hr : r.Keeps HartInv) (h : HartInv s) : (r.orNothing s).Keeps HartInv := by
  cases r with
  | ok a t => exact hr
  | stop c t => exact h.keepAttempt
  | wait t => exact h.keepAttempt

/-! ## Recursion records and traps -/

theorem HartInv.setStoreTail (h : HartInv s) {r : RecRun} {i v : Nat} : HartInv (s.setStoreTail r i v) := h.padWrite

theorem HartInv.storeAll (h : HartInv s) {w : Who} {a : Nat} {vs : List Nat} : (s.storeAll w a vs).Keeps HartInv := by
  induction vs generalizing s a with
  | nil => exact h
  | cons v vs ih => exact h.storeAs.bind fun _ _ h => ih h

theorem HartInv.engineWords (h : HartInv s) {a : Nat} {vals : List Nat} : HartInv (s.engineWords a vals) := by
  unfold State.engineWords
  split
  next e => exact h.storeAll.ok e
  · exact h.keepAttempt.onHart rfl
  · exact h.keepAttempt.onHart rfl

theorem HartInv.saveRecursion (h : HartInv s) : HartInv s.saveRecursion := by
  unfold State.saveRecursion
  split
  · exact h
  · exact (HartInv.ite (h.engineWords.foldl fun _ _ h => .ite h.setStoreTail h) h.engineWords).onHart rfl

theorem HartInv.dropRecursion (h : HartInv s) : HartInv s.dropRecursion := by
  unfold State.dropRecursion
  split
  · exact h
  · exact h.onHart rfl

theorem HartInv.withdrawArrival (h : HartInv s) : HartInv s.withdrawArrival := by
  unfold State.withdrawArrival
  split
  · exact h
  dsimp only
  split
  · exact .ite (h.onHart rfl).putJob (h.onHart rfl)
  · exact h.onHart rfl

theorem HartInv.dropLinks (h : HartInv s) : HartInv s.dropLinks := h

theorem HartInv.enterTrap (h : HartInv s) {c : Stop} {vpc : Option Word} : HartInv (s.enterTrap c vpc) := by
  unfold State.enterTrap
  refine HartInv.onHartTo (HartInv.ite h.dropRecursion h.saveRecursion).withdrawArrival.dropLinks.setFresh fun hl => ?_
  dsimp only
  split
  · exact Hart.legal_of_modes rfl (Hart.legal_enterTrap hl)
  · exact Hart.legal_enterTrap hl

theorem HartInv.advance (h : HartInv s) {len : Nat} : HartInv (s.advance len) := h.onHart rfl

/-! ## Fetching -/

theorem HartInv.fillCode (h : HartInv s) {pa : Nat} : HartInv (s.fillCode pa) := h.mergeRange.putStable

theorem HartInv.readCode (h : HartInv s) {pa : Nat} : HartInv (s.readCode pa).2 := by
  unfold State.readCode
  split
  · exact h.fillCode
  split
  · exact h
  dsimp only
  split
  · exact h.setFresh
  · exact h.setFresh.fillCode

theorem HartInv.readCodeAt (h : HartInv s) {p : Place} : HartInv (s.readCodeAt p).2 := by
  cases p with
  | phys pa leaf => exact h.readCode
  | pad off => exact h.readPlace

theorem HartInv.fetchHalves (h : HartInv s) {a n : Nat} : (s.fetchHalves a n).Keeps HartInv := by
  induction n generalizing s a with
  | zero => exact h
  | succ n ih => exact h.access.bind fun _ _ h => (ih h.readCodeAt).bind fun _ _ h => h

theorem HartInv.fetchAt (h : HartInv s) {a : Nat} : (s.fetchAt a).Keeps HartInv :=
  h.fetchHalves.bind fun _ _ h => .ite h (h.fetchHalves.bind fun _ _ h => h)

theorem HartInv.readBlockFrom (h : HartInv s) {start a n : Nat} {first : Bool} : (s.readBlockFrom start a n first).Keeps HartInv := by
  induction n generalizing s a first with
  | zero => exact h
  | succ n ih =>
    refine h.fetchAt.bind fun w s h => ?_
    split
    · exact h
    split
    · exact .ite h (.ite h h)
    split
    · exact h
    · exact (ih h).bind fun _ _ h => h

theorem HartInv.readBlock (h : HartInv s) {a : Word} : (s.readBlock a).Keeps HartInv := by
  unfold State.readBlock
  split
  · exact h
  · exact h.readBlockFrom

/-! ## Rings -/

theorem HartInv.entryRead (h : HartInv s) {die ctx pa n : Nat} : HartInv (s.entryRead die ctx pa n).2 := by
  unfold State.entryRead
  split
  · exact .ite h h.contain
  · exact h.physRead

theorem HartInv.ctxRoot (h : HartInv s) {die ctx : Nat} {r : Option Word} (e : s.ctxRoot die ctx = (r, t)) : HartInv t := by
  unfold State.ctxRoot at e
  split at e
  · cases e; exact h
  next pa _ =>
    have hr := h.entryRead (die := die) (ctx := ctx) (pa := pa) (n := 16)
    split at e
    all_goals
      rename_i eq
      rw [eq] at hr
      cases e
      exact hr

theorem HartInv.ringRd (h : HartInv s) {w : Who} {a : Nat} : (s.ringRd w a).Keeps HartInv := by
  unfold State.ringRd
  exact .ite h h.loadAs

theorem HartInv.ringWr (h : HartInv s) {w : Who} {a v : Nat} : (s.ringWr w a v).Keeps HartInv := by
  unfold State.ringWr
  exact .ite h h.storeAs

theorem HartInv.loadWords (h : HartInv s) {w : Who} {a n : Nat} : (s.loadWords w a n).Keeps HartInv := by
  induction n generalizing s a with
  | zero => exact h
  | succ n ih => exact h.ringRd.bind fun _ _ h => (ih h).bind fun _ _ h => h

theorem HartInv.storeWords (h : HartInv s) {w : Who} {a : Nat} {vs : List Nat} : (s.storeWords w a vs).Keeps HartInv := by
  induction vs generalizing s a with
  | nil => exact h
  | cons v vs ih => exact h.ringWr.bind fun _ _ h => ih h

theorem HartInv.ringOpen (h : HartInv s) {w : Who} {c : Cap} : (s.ringOpen w c).Keeps HartInv := by
  unfold State.ringOpen
  split
  next e => exact h.ctxRoot e
  next e =>
    refine .ite (h.ctxRoot e) ((h.ctxRoot e).accessAs.bind fun p _ h => ?_)
    cases p <;> exact h

theorem HartInv.minCursor (h : HartInv s) {w : Who} {base n : Nat} : (s.minCursor w base n).Keeps HartInv := by
  induction n generalizing s with
  | zero => exact h
  | succ n ih => exact h.ringRd.bind fun _ _ h => (ih h).bind fun _ _ h => h

theorem HartInv.segmentOf (h : HartInv s) {w : Who} {c : Cap} {p n seg : Nat} : (s.segmentOf w c p n seg).Keeps HartInv := by
  induction n generalizing s seg with
  | zero => exact h
  | succ n ih =>
    refine h.ringRd.bind fun _ _ h => h.ringRd.bind fun _ _ h => (ih h).bind fun _ _ h => ?_
    dsimp only
    split <;> exact h

theorem HartInv.slotOf (h : HartInv s) {w : Who} {c : Cap} {p n seg : Nat} : (s.slotOf w c p n seg).Keeps HartInv :=
  h.segmentOf.bind fun _ _ h => h

theorem HartInv.ringClaim (h : HartInv s) {w : Who} {c : Cap} {home : Nat} : (s.ringClaim w c home).Keeps HartInv := by
  unfold State.ringClaim
  refine h.ringRd.bind fun _ _ h => h.ringRd.bind fun _ _ h => h.ringRd.bind fun _ _ h => .ite ?_ ?_
  · exact h.ringWr.bind fun _ _ h => h
  refine h.ringRd.bind fun _ _ h => h.minCursor.bind fun _ _ h => h.ringRd.bind fun _ _ h => .ite ?_ ?_
  · exact h.ringWr.bind fun _ _ h => h.ringWr.bind fun _ _ h => h.ringWr.bind fun _ _ h => h
  · exact h.ringRd.bind fun _ _ h => .ite (h.ringWr.bind fun _ _ h => h.agentEvent) h

theorem HartInv.ringPush (h : HartInv s) {w : Who} {c : Cap} {payload : List Nat} : (s.ringPush w c payload).Keeps HartInv := by
  refine Res.Keeps.harts_orNothing (h.ringOpen.bind fun _ _ h => h.ringClaim.bind fun r _ h => ?_) h
  cases r with
  | none => exact h
  | some r => exact h.storeWords.bind fun _ _ h => h.ringWr.bind fun _ _ h => h

theorem HartInv.ringPeek (h : HartInv s) {w : Who} {c : Cap} {j : Nat} : (s.ringPeek w c j).Keeps HartInv := by
  refine h.ringRd.bind fun _ _ h => h.ringRd.bind fun _ _ h => h.slotOf.bind fun slot _ h => ?_
  cases slot with
  | none => exact h
  | some a => exact h.ringRd.bind fun _ _ h => .ite (h.loadWords.bind fun _ _ h => h) h

theorem HartInv.ringTake (h : HartInv s) {w : Who} {c : Cap} {j pos : Nat} : (s.ringTake w c j pos).Keeps HartInv := h.ringWr

theorem HartInv.wakeWatchers (h : HartInv s) {owner base : Nat} : HartInv (s.wakeWatchers owner base) :=
  h.mapHarts fun g => by split <;> rfl

theorem HartInv.wakeAccepted (h : HartInv s) {c : Cap} {home pbit : Nat} : HartInv (s.wakeAccepted c home pbit) := by
  have hw : HartInv ((if pbit ≤ 4093 then s.setPendingBit home pbit else s).wakeWatchers c.owner c.base) :=
    (HartInv.ite h.setPendingBit h).wakeWatchers
  exact .ite hw hw

theorem HartInv.ringWake (h : HartInv s) {w : Who} {c : Cap} {n : Nat} : (s.ringWake w c n).Keeps HartInv :=
  Res.Keeps.harts_orNothing (h.ringOpen.bind fun _ _ h => h.ringRd.bind fun _ _ h => h.ringRd.bind fun _ _ h =>
    .ite h.wakeAccepted (h.minCursor.bind fun _ _ h => .ite h.toGroom (h.ringWr.bind fun _ _ h => h.wakeAccepted))) h

theorem HartInv.ringGrow (h : HartInv s) {w : Who} {c : Cap} {g : Nat} : (s.ringGrow w c g).Keeps HartInv :=
  Res.Keeps.harts_orNothing (h.ringOpen.bind fun _ _ h => h.ringRd.bind fun _ _ h =>
    .ite (h.ringWr.bind fun _ _ h => h) (h.ringRd.bind fun _ _ h => h.ringRd.bind fun _ _ h => h.ringRd.bind fun _ _ h =>
      h.ringWr.bind fun _ _ h => h.ringWr.bind fun _ _ h => h.ringWr.bind fun _ _ h => h.ringWr.bind fun _ _ h =>
      h.ringWr.bind fun _ _ h => h)) h

theorem HartInv.readCap (h : HartInv s) {w : Who} {a : Word} : (s.readCap w a).Keeps HartInv := by
  refine .ite h (.ite h (h.loadWords.bind fun _ _ h => ?_))
  split <;> exact h

theorem HartInv.presentCap (h : HartInv s) {w : Who} {a : Word} {need : List Right} : (s.presentCap w a need).Keeps HartInv := by
  refine h.readCap.bind fun _ _ h => ?_
  split <;> exact h

theorem HartInv.presentTyped (h : HartInv s) {w : Who} {a : Word} {need : List Right} {type : Nat} :
    (s.presentTyped w a need type).Keeps HartInv := h.presentCap.bind fun _ _ h => .ite h h

/-! ## Engine transfers -/

theorem HartInv.loadPieces (h : HartInv s) {w : Who} {ps : List (Nat × Nat)} : (s.loadPieces w ps).Keeps HartInv := by
  induction ps generalizing s with
  | nil => exact h
  | cons p ps ih => exact h.loadAs.bind fun _ _ h => (ih h).bind fun _ _ h => h

theorem HartInv.loadBytes (h : HartInv s) {w : Who} {a n : Nat} : (s.loadBytes w a n).Keeps HartInv := h.loadPieces

theorem HartInv.storePieces (h : HartInv s) {w : Who} {ps : List (Nat × Nat)} {bs : List Byte} : (s.storePieces w ps bs).Keeps HartInv := by
  induction ps generalizing s bs with
  | nil => exact h
  | cons p ps ih => exact h.storeAs.bind fun _ _ h => ih h

theorem HartInv.storeBytes (h : HartInv s) {w : Who} {a : Nat} {bs : List Byte} : (s.storeBytes w a bs).Keeps HartInv := h.storePieces

theorem HartInv.peekPieces (h : HartInv s) {w : Who} {ps : List (Nat × Nat)} : (s.peekPieces w ps).Keeps HartInv := by
  induction ps generalizing s with
  | nil => exact h
  | cons p ps ih => exact h.accessAs.bind fun _ _ h => (ih h.readPlace).bind fun _ _ h => h

theorem HartInv.readSource (h : HartInv s) {w : Who} {x : Transfer} {a n : Nat} : (s.readSource w x a n).Keeps HartInv :=
  h.loadBytes.bind fun _ _ h => .ite h h

theorem HartInv.writeDest (h : HartInv s) {w : Who} {x : Transfer} {a : Nat} {bs : List Byte} : (s.writeDest w x a bs).Keeps HartInv :=
  .ite (h.peekPieces.bind fun _ _ h => h.storeBytes.bind fun _ _ h => h) (h.storeBytes.bind fun _ _ h => h)

theorem HartInv.gatherBytes (h : HartInv s) {w : Who} {x : Transfer} {table lgbs pool f pos n : Nat} :
    (s.gatherBytes w x table lgbs pool f pos n).Keeps HartInv := by
  induction f generalizing s pos n with
  | zero => exact h
  | succ f ih =>
    unfold State.gatherBytes
    exact .ite h (h.readSource.bind fun _ _ h => .ite h (h.readSource.bind fun _ _ h => (ih h).bind fun _ _ h => h))

theorem HartInv.copyChunk (h : HartInv s) {w : Who} {x : Transfer} {dst src len : Nat} : (s.copyChunk w x dst src len).Keeps HartInv :=
  h.readSource.bind fun _ _ h => h.writeDest.bind fun _ _ h => h

theorem HartInv.appendChunk (h : HartInv s) {w : Who} {x : Transfer} {desc table lgbs pool data frcap rcbase entry off len : Nat} :
    (s.appendChunk w x desc table lgbs pool data frcap rcbase entry off len).Keeps HartInv := by
  unfold State.appendChunk
  dsimp only
  split
  · refine h.loadBytes.bind fun _ _ h => .ite h (.ite h (h.presentTyped.bind fun _ _ h => h.ringOpen.bind fun _ _ h =>
      h.ringPeek.bind fun r _ h => ?_))
    cases r with
    | none => exact h
    | some r => exact h.ringTake.bind fun _ _ h => .ite h h
  · exact h.copyChunk
  · exact h.copyChunk.bind fun _ _ h => h
  · exact h.copyChunk.bind fun _ _ h => h
  · exact h.storeBytes.bind fun _ _ h => h
  · exact h.storeBytes.bind fun _ _ h => h
  · exact h.loadBytes.bind fun _ _ h => .ite h (h.storeBytes.bind fun _ _ h => h)
  · refine h.presentTyped.bind fun _ _ h => h.ringPush.bind fun r _ h => ?_
    cases r <;> exact h

theorem HartInv.drainRows (h : HartInv s) {w : Who} {base stride m : Nat} {rows : List DrainRow} :
    (s.drainRows w base stride m rows).Keeps HartInv := by
  induction rows generalizing s m with
  | nil => exact h
  | cons r rs ih => exact h.storeBytes.bind fun _ _ h => ih h.setFailing

theorem HartInv.drainChunk (h : HartInv s) {w : Who} {x : Transfer} {base stride : Nat} {rows : List DrainRow} :
    (s.drainChunk w x base stride rows).Keeps HartInv := by
  refine (Res.Keeps.harts_orNothing h.drainRows h).bind fun _ _ h => .ite h ?_
  split
  · exact h
  · exact h.contain

theorem HartInv.chunk (h : HartInv s) {w : Who} {x : Transfer} : (s.chunk w x).Keeps HartInv := by
  unfold State.chunk
  split
  · exact h.copyChunk.harts_orNothing h
  · exact Res.Keeps.harts_orNothing (h.storeBytes.bind fun _ _ h => h) h
  · exact Res.Keeps.harts_orNothing (h.gatherBytes.bind fun _ _ h => h.writeDest.bind fun _ _ h => h) h
  · exact h.appendChunk.harts_orNothing h
  · exact h.drainChunk
  · exact Res.Keeps.harts_orNothing (h.storeAll.bind fun _ _ h => h) h

theorem HartInv.bridleChunk (h : HartInv s) {i : Nat} : HartInv (s.bridleChunk i).1 := by
  unfold State.bridleChunk
  split
  · exact h
  split <;> dsimp only
  next e => exact (h.chunk.ok e).onHart rfl
  next e => exact (h.chunk.ok e).onHart rfl
  next e => exact (h.chunk.stop e).onHart rfl
  next e => exact h.chunk.wait e

theorem HartInv.engineTry (h : HartInv s) {n i : Nat} : HartInv (s.engineTry n i) := by
  induction n generalizing s i with
  | zero => exact h
  | succ n ih => exact .ite (.ite h.bridleChunk (ih h.bridleChunk)) (ih h)

theorem HartInv.engineWork (h : HartInv s) : HartInv s.engineWork := h.engineTry
theorem HartInv.resumeTransfers (h : HartInv s) : HartInv s.resumeTransfers := h.onHart rfl

theorem HartInv.drainWork (h : HartInv s) : HartInv s.drainWork := by
  unfold State.drainWork
  dsimp only
  split
  · exact h.bridleChunk
  · exact h

theorem HartInv.headIdle (h : HartInv s) : HartInv s.headIdle := (HartInv.ite h.resumeTransfers h).engineWork
theorem HartInv.takeBridle (h : HartInv s) {x : Transfer} : HartInv (s.takeBridle x) := h.onHart rfl

/-! ## Accumulation -/

theorem HartInv.accTargetAt (h : HartInv s) {w : Option Nat} {a : Nat} : (s.accTargetAt w a).Keeps HartInv := by
  refine .ite h (.ite h (h.pageAs.bind fun _ _ h => ?_))
  dsimp only
  split
  · exact h
  · exact .ite h (.ite h (.ite h (.ite h (h.movedCheck.bind fun _ _ h => h))))

theorem HartInv.filterRoom (h : HartInv s) {die line : Nat} : HartInv (s.filterRoom die line) := by
  unfold State.filterRoom
  split
  · exact h
  split
  · exact h
  · exact .ite h (.ite (h.evictU.same rfl rfl) h.evictU)

theorem HartInv.makeWay (h : HartInv s) {cache line : Nat} : HartInv (s.makeWay cache line) := by
  unfold State.makeWay
  split
  · exact h
  dsimp only
  split
  · exact h
  · exact h.evictU

theorem HartInv.enterU (h : HartInv s) {die stable line op : Nat} : HartInv (s.enterU die stable line op) := by
  have h1 := h.filterRoom (die := die) (line := line)
  unfold State.enterU
  generalize s.filterRoom die line = s1 at h1 ⊢
  dsimp only
  split
  · exact h1.setCoh.makeWay.makeWay.setCoh
  · exact h1.setCoh

theorem HartInv.clearLinks (h : HartInv s) {who line : Nat} : HartInv (s.clearLinks who line) := h

theorem HartInv.fold (h : HartInv s) {g : AccFold} : HartInv (s.fold g) := by
  unfold State.fold
  extract_lets line off s1 s2 new u s3 p
  have h1 : HartInv s1 := by
    dsimp only [s1]
    split
    · exact .ite h h.mergeU
    · exact h
  have h3 : HartInv s3 := .ite h1.clearLinks h1.clearLinks.enterU
  exact h3

theorem HartInv.accumulate (h : HartInv s) {i a x : Nat} {g : AccTarget} : (s.accumulate i a g x).Keeps HartInv := by
  refine .ite h.contain ?_
  split
  · exact h.onHart rfl
  · exact h.fold

theorem HartInv.foldGroup (h : HartInv s) : HartInv s.foldGroup := by
  unfold State.foldGroup
  split
  · exact (h.onHart rfl).foldl fun _ _ h => h.fold
  · exact h

end

/-! ## Work of the lanes -/

section
variable {s t : State}

theorem HartInv.startFault (h : HartInv s) {c : Stop} : (s.startFault c).Keeps HartInv := h

theorem HartInv.needSew (h : HartInv s) {ok : Bool} {k : Eff} (hk : k.Keeps HartInv) : (s.needSew ok k).Keeps HartInv := by
  unfold State.needSew
  exact .ite hk h.startFault

theorem HartInv.needZero (h : HartInv s) {k : Eff} (hk : k.Keeps HartInv) : (s.needZero k).Keeps HartInv := by
  unfold State.needZero
  exact .ite hk h.startFault

theorem HartInv.vmap (h : HartInv s) {d : Reg} {k : KReg} {per w : Nat} {els : Elems} {f : Nat → Nat → Nat × Flags} :
    (s.vmap d k per w els f).Keeps HartInv := by
  unfold State.vmap
  dsimp only
  split
  · exact h.onHart (by simp)
  · exact h.onHart (by simp)

theorem HartInv.kmap (h : HartInv s) {kd k : KReg} {els : Elems} {f : Nat → Nat → Bool × Flags} : (s.kmap kd k els f).Keeps HartInv := by
  have hk {b : Bool} {m : KMask} {fl : Flags} : HartInv (s.onHart fun h => (if b then h.setK kd m else h).orFlags fl) := by
    refine h.onHart ?_
    split <;> simp
  unfold State.kmap
  dsimp only
  split
  · exact hk
  · exact hk

theorem HartInv.setEl (h : HartInv s) {d : Reg} {w p v : Nat} : HartInv (s.setEl d w p v) := h.onHart (by simp)
theorem HartInv.giveX (h : HartInv s) {e : QEntry} {v : Word} : (s.giveX e v).Keeps HartInv := h.onHart (by simp)

theorem HartInv.each (h : HartInv s) {els : Elems} {f : Nat → Nat → State → Res Unit}
    (hf : ∀ i p s, HartInv s → (f i p s).Keeps HartInv) : (State.each f els s).Keeps HartInv := by
  induction els generalizing s with
  | nil => exact h
  | cons q els ih =>
    have hq := hf q.1 q.2 s h
    unfold State.each
    split
    next e => exact ih (hq.ok e)
    next e => exact hq.stop e
    next e => exact hq.wait e

variable {e : QEntry} {els : Elems} {b : BForm}

/-! ## The forms of the arithmetic instructions -/

theorem HartInv.vcmpInt (h : HartInv s) {c : ICond} : (s.vcmpInt e els b c).Keeps HartInv := h.needSew h.kmap
theorem HartInv.vcmpFp (h : HartInv s) {c : FCond} : (s.vcmpFp e els b c).Keeps HartInv := h.needSew h.kmap

/-! ## Masks, moves, reductions and bit strings -/

theorem HartInv.vreduce (h : HartInv s) {f : Nat → Nat → Nat → Nat} : (s.vreduce e els f).Keeps HartInv :=
  h.needZero (h.needSew (.ite h (h.onHart (by simp))))

theorem HartInv.fpReduced (h : HartInv s) {r : Nat × Flags} : (s.fpReduced e r).Keeps HartInv := by
  unfold State.fpReduced
  dsimp only
  split
  · exact h.startFault
  · exact h.onHart (by simp)

theorem HartInv.effVwsum (h : HartInv s) : (effVwsum e els s).Keeps HartInv := h.needZero (h.needSew (.ite h (h.onHart (by simp))))

/-! ## Loads and stores -/

theorem HartInv.settleGroup (h : HartInv s) {pa n : Nat} : HartInv (s.settleGroup pa n) := by
  unfold State.settleGroup
  split
  · exact .ite h.foldGroup h
  · exact h

theorem HartInv.loadVec (h : HartInv s) {f a n al : Nat} {window : Bool} : (s.loadVec f a n al window).Keeps HartInv := by
  refine h.access.bind fun p t h => ?_
  cases p <;> dsimp only
  · exact h.settleGroup.readPlace.placeVector
  · exact h.readPlace.placeVector

theorem HartInv.loadEl (h : HartInv s) {f a n al : Nat} {window : Bool} : (s.loadEl f a n al window).Keeps HartInv := by
  unfold State.loadEl
  exact .ite h h.loadVec

theorem HartInv.writeVec (h : HartInv s) {p : Place} {n v : Nat} : HartInv (s.writeVec p n v) := by
  cases p with
  | phys pa leaf => exact h.physWrite
  | pad off => exact h.padWrite

theorem HartInv.storeEl (h : HartInv s) {f a n al v : Nat} {window : Bool} : (s.storeEl f a n al v window).Keeps HartInv := by
  refine .ite h (h.access.bind fun p t h => ?_)
  cases p with
  | phys pa leaf => exact h.settleGroup.writeVec.placeVector
  | pad off => exact h.writeVec.placeVector

theorem HartInv.heal (h : HartInv s) {l : List (Nat × Nat)} : HartInv (s.heal l) := by
  unfold State.heal
  exact .ite h h

theorem Eff.Keeps.harts_heals {x : Eff} (h : x.Keeps HartInv) {f : Option Nat → List (Nat × Nat)} : (x.heals f).Keeps HartInv := by
  cases x with
  | done t => exact HartInv.heal h
  | fault i c t => exact HartInv.heal h
  | wait i t => exact HartInv.heal h

theorem HartInv.vload (h : HartInv s) {f : Nat} {addr : Hart → Nat → Nat → Nat} : (s.vload e els f addr).Keeps HartInv :=
  h.each fun _ _ _ h => h.loadEl.bind fun _ _ h => h.setEl

theorem HartInv.vstore (h : HartInv s) {f : Nat} {addr : Hart → Nat → Nat → Nat} : (s.vstore e els f addr).Keeps HartInv := by
  unfold State.vstore
  exact Eff.Keeps.harts_heals (h.each fun _ _ _ h => h.storeEl)

theorem HartInv.wholeBase (h : HartInv s) {k : Eff} (hk : k.Keeps HartInv) : (s.wholeBase e k).Keeps HartInv := by
  unfold State.wholeBase
  exact .ite h.startFault hk

theorem HartInv.effVldReg (h : HartInv s) : (effVldReg e els s).Keeps HartInv :=
  h.wholeBase (h.each fun _ _ _ h => h.loadEl.bind fun _ _ h => h.setEl)

theorem HartInv.effVstReg (h : HartInv s) : (effVstReg e els s).Keeps HartInv :=
  h.wholeBase (Eff.Keeps.harts_heals (h.each fun _ _ _ h => h.storeEl))

theorem HartInv.effVgll (h : HartInv s) : (effVgll e els s).Keeps HartInv := by
  refine h.needSew (h.each fun _ _ _ h => .ite h (h.access.bind fun p _ h => ?_))
  have hp {n f : Nat} := (h.readPlace (p := p) (n := n)).placeVector (f := f) (w := false) (p := p) (n := n)
  cases p with
  | phys pa leaf => exact hp.setCoh.setEl
  | pad off => exact hp.setEl

theorem HartInv.vscc (h : HartInv s) {w f : Nat} {seen : List Nat} : (State.vscc e w f els seen s).Keeps HartInv := by
  induction els generalizing s seen with
  | nil => exact h.dropLinks
  | cons q els ih =>
    refine .ite h ?_
    dsimp only
    split
    next eq => exact h.access.stop eq
    next eq => exact h.access.wait eq
    next eq =>
      have ha := h.access.ok eq
      exact ih ((HartInv.ite ha.writeVec.placeVector ha).onHart (by simp))

theorem HartInv.effVscc (h : HartInv s) : (effVscc e els s).Keeps HartInv := by
  refine h.needSew ?_
  split
  · exact h.keepAttempt
  · exact h.vscc

theorem HartInv.vldw (h : HartInv s) {q4 : Bool} {f : FpFmt} {w : Nat} : (s.vldw e els q4 f w).Keeps HartInv := by
  refine h.needSew (h.each fun _ _ _ h => h.loadEl.bind fun _ _ h => h.loadEl.bind fun _ _ h => ?_)
  dsimp only
  split
  · exact h.onHart rfl
  · exact (h.onHart rfl).setEl

theorem HartInv.effVacc (h : HartInv s) : (effVacc e els s).Keeps HartInv :=
  h.needSew (h.each fun _ _ _ h => h.accTargetAt.bind fun _ _ h => h.accumulate)

theorem HartInv.effSacc (h : HartInv s) : (effSacc e els s).Keeps HartInv := by
  refine h.needZero ?_
  have ha := (h.accTargetAt (w := none) (a := e.opa.toNat)).bind fun t _ h =>
    h.accumulate (i := 0) (a := e.opa.toNat) (g := t) (x := e.opb.toNat % 2 ^ accInput t.op)
  dsimp only
  split
  next eq => exact ha.ok eq
  next eq => exact ha.stop eq
  next eq => exact ha.wait eq

end

section
variable {s t : State} {e : QEntry} {els : Elems}

/-! ## Lines of a range -/

theorem HartInv.leavesIn (h : HartInv s) {lo hi level node va : Nat} {shifts : List Nat} :
    HartInv (s.leavesIn lo hi shifts level node va).s := by
  induction shifts generalizing s level node va with
  | nil => exact h
  | cons sh rest ih =>
    unfold State.leavesIn
    extract_lets i0 i1
    split
    · exact h
    refine List.foldlRecOn (motive := fun l : Leaves => HartInv l.s) _ _ h fun acc ha i _ => ?_
    have hr {a : Nat} := ha.physRead (pa := a) (n := 8)
    split
    · exact ha
    dsimp only
    split
    · exact ha
    split
    · exact hr
    split
    · split <;> exact hr
    split
    · exact ih hr
    · exact hr

theorem HartInv.uLinesIn (h : HartInv s) {lo n : Nat} : (s.uLinesIn lo n).Keeps HartInv := by
  have hl := h.leavesIn (lo := lo) (hi := lo + n) (shifts := [46, 36, 26, 16]) (level := 0)
    (node := bits s.hart.csr.pgroot 13 39 * 8192) (va := 0)
  refine .ite h ?_
  dsimp only
  split
  · exact hl.dataStop
  · exact hl.movedCheck.bind fun _ _ h => h
  · exact hl

theorem HartInv.mergeLines (h : HartInv s) {ls : List (Nat × Nat)} : (s.mergeLines ls).Keeps HartInv := by
  induction ls generalizing s with
  | nil => exact h
  | cons l ls ih =>
    unfold State.mergeLines
    split
    · exact h.dataStop
    · exact ih h.mergeU

theorem HartInv.mergeVirtual (h : HartInv s) {lo n : Nat} : (s.mergeVirtual lo n).Keeps HartInv := by
  unfold State.mergeVirtual
  split
  · exact h
  · exact .ite h (h.uLinesIn.bind fun _ _ h => h.mergeLines)

theorem HartInv.effAmerge (h : HartInv s) : (effAmerge e els s).Keeps HartInv := by
  refine h.needZero ?_
  split
  next eq => exact h.mergeVirtual.ok eq
  next eq => exact h.mergeVirtual.stop eq
  next eq => exact h.mergeVirtual.wait eq

/-! ## Recursion routines -/

theorem HartInv.putVp (h : HartInv s) {p : RVp} : HartInv (s.putVp p) := h.onHart (by split <;> rfl)

theorem HartInv.inRoutine (h : HartInv s) {routs : List Nat} {act : Elems} {k : RecRun → Eff} (hk : ∀ r, (k r).Keeps HartInv) :
    (s.inRoutine routs act k).Keeps HartInv := by
  unfold State.inRoutine
  split
  · exact h
  · exact h
  · exact .ite (hk _) h

theorem HartInv.regsFit (h : HartInv s) {a n : Nat} {act : Elems} {k : Eff} (hk : k.Keeps HartInv) : (s.regsFit a n act k).Keeps HartInv := by
  unfold State.regsFit
  split
  · exact .ite h hk
  · exact hk

theorem HartInv.effRspawn (h : HartInv s) : (effRspawn e els s).Keeps HartInv := by
  refine h.inRoutine fun r => h.regsFit (h.each fun i p s h => ?_)
  split
  · exact h
  · exact .ite h (.ite (.ite h h) h.putVp)

theorem HartInv.effRret (h : HartInv s) : (effRret e els s).Keeps HartInv := by
  refine h.inRoutine fun r => .ite h (h.regsFit (h.each fun i p s h => ?_))
  split
  · exact h
  · exact h.putVp

theorem HartInv.effRkids (h : HartInv s) : (effRkids e els s).Keeps HartInv := by
  refine h.inRoutine fun r => h.each fun i p s h => ?_
  dsimp only
  split
  · exact h
  · exact h.setEl.setEl.onHart (by simp)

theorem HartInv.effRdepth (h : HartInv s) : (effRdepth e els s).Keeps HartInv := by
  refine h.inRoutine fun r => h.each fun i p s h => ?_
  split
  · exact h
  · exact h.setEl

theorem HartInv.effRnkid (h : HartInv s) : (effRnkid e els s).Keeps HartInv := by
  refine h.inRoutine fun r => h.each fun i p s h => ?_
  split
  · exact h
  · exact h.setEl

/-! ## The matrix unit -/

theorem HartInv.setShape (h : HartInv s) {d : Reg} {w : Word} :
    HartInv (s.onHart fun h => { h with csr := { h.csr with mshape := w } }.setX d w) := h.onHart (Hart.modes_setX ..)

theorem HartInv.effMshape (h : HartInv s) : (effMshape e els s).Keeps HartInv :=
  h.needZero (.ite h.startFault (h.needSew h.setShape))

theorem HartInv.effMzero (h : HartInv s) : (effMzero e els s).Keeps HartInv :=
  h.needZero (h.onHart ((Hart.modes_healCells ..).trans (Hart.modes_setZ ..)))

theorem HartInv.laneError (h : HartInv s) {reg el lane tval : Nat} : HartInv (s.laneError reg el lane tval).1 := by
  unfold State.laneError
  extract_lets t
  have ht : HartInv t := h.onHart (Hart.modes_ite rfl (Hart.modes_csr rfl rfl))
  exact ht.contain.logAll

theorem HartInv.wordStop (h : HartInv s) {b : BadWord} {el : Nat} : HartInv (s.wordStop b el).1 := h.laneError
theorem HartInv.cellStop (h : HartInv s) {b : BadWord} : (s.cellStop b).Keeps HartInv := h.laneError.startFault

theorem HartInv.readCells (h : HartInv s) {tile : Nat} {cs : List (Nat × Nat)} {k : Eff} (hk : k.Keeps HartInv) :
    (s.readCells tile cs k).Keeps HartInv := by
  unfold State.readCells
  split
  · exact h.cellStop
  · exact hk

theorem HartInv.tileOp (h : HartInv s) {kind : TileKind} : (s.tileOp e kind).Keeps HartInv := by
  refine h.needZero (.ite h.startFault ?_)
  dsimp only
  split
  · exact .ite h.cellStop h.wordStop.startFault
  · exact .ite h (h.onHart (by simp))

theorem HartInv.slice (h : HartInv s) {k : Nat → Eff} (hk : ∀ n, (k n).Keeps HartInv) : (s.slice e els k).Keeps HartInv :=
  h.needZero (h.needSew (.ite h (.ite h.startFault (hk _))))

theorem HartInv.fromTile (h : HartInv s) {f : Nat → Nat × Nat} : (s.fromTile e els f).Keeps HartInv :=
  h.readCells (h.foldl fun _ _ h => h.setEl)

theorem HartInv.toTile (h : HartInv s) {f : Nat → Nat × Nat} : (s.toTile e els f).Keeps HartInv := .ite h (h.onHart (by simp))

theorem HartInv.checkCells (h : HartInv s) {f : State → Nat → Res Nat} (hf : ∀ s a, HartInv s → (f s a).Keeps HartInv) {as : List Nat} :
    HartInv (s.checkCells f as).s := by
  refine List.foldlRecOn (motive := fun c : Checked => HartInv c.s) as _ h fun acc ha a _ => ?_
  have hr := hf acc.s a ha
  split
  next eq => exact hr.ok eq
  next eq => exact hr.wait eq
  next eq =>
    split
    · split <;> exact hr.stop eq
    · exact hr.stop eq

theorem Checked.harts_andThen {c : Checked} (h : HartInv c.s) {k : State → Eff} (hk : ∀ s, HartInv s → (k s).Keeps HartInv) :
    (c.andThen k).Keeps HartInv := by
  unfold Checked.andThen
  refine .ite h ?_
  split
  · exact h
  · exact hk _ h

theorem HartInv.effMload (h : HartInv s) : (effMload e els s).Keeps HartInv := by
  refine h.needZero (.ite h.startFault (.ite h.startFault (.ite h.startFault (.ite h
    (Checked.harts_andThen (h.checkCells fun _ _ h => h.loadVec) fun u hu => ?_)))))
  generalize hr : List.foldl _ _ _ = r
  have hk : r.Keeps HartInv := by
    rw [← hr]
    refine List.foldlRecOn (motive := Res.Keeps HartInv) _ _ hu fun acc ha q _ => ?_
    split
    · exact (HartInv.loadVec ha).bind fun _ _ h => h
    · exact ha
  rcases r with ⟨⟨t, chk⟩, v⟩ | ⟨c, v⟩ | v
  · exact HartInv.onHart hk (by simp)
  · exact hk
  · exact hk

theorem HartInv.effMdrain (h : HartInv s) : (effMdrain e els s).Keeps HartInv := by
  refine h.needZero (.ite h.startFault (.ite h.startFault (.ite h.startFault (h.readCells ?_))))
  split
  · exact h.startFault
  · refine Checked.harts_andThen (h.checkCells ?_) fun _ h => .ite h h.takeBridle
    exact fun _ _ h => h.access.bind fun _ _ h => h

end

section
variable {s t : State} {e : QEntry} {els : Elems}

/-! ## Positions and frames -/

theorem HartInv.rawFrame (h : HartInv s) {n : Nat} : (s.rawFrame n).Keeps HartInv := by
  refine .ite h (.ite h (h.accessAs.bind fun p _ h => ?_))
  cases p <;> dsimp only
  · exact h.settleGroup.readPlace
  · exact h.readPlace

theorem HartInv.frame (h : HartInv s) {n : Nat} : (s.frame n).Keeps HartInv :=
  h.rawFrame.bind fun _ _ h => .ite h (.ite h (h.rawFrame.bind fun _ _ h => .ite h h))

theorem HartInv.climb (h : HartInv s) {l : List Hop} : (s.climb l).Keeps HartInv := by
  cases l with
  | nil => exact h
  | cons a l => exact h.frame.bind fun _ _ h => h

theorem HartInv.climbBoth (h : HartInv s) {vtag n : Nat} {a b : List Hop} : (s.climbBoth vtag n a b).Keeps HartInv := by
  induction n generalizing s a b with
  | zero => exact h
  | succ n ih =>
    unfold State.climbBoth
    exact .ite (h.climb.bind fun _ _ h => ih h) (.ite (h.climb.bind fun _ _ h => ih h)
      (.ite h (.ite h (h.climb.bind fun _ _ h => h.climb.bind fun _ _ h => ih h))))

theorem HartInv.xform (h : HartInv s) {a b vtag : Nat} : (s.xform a b vtag).Keeps HartInv := by
  refine .ite h ?_
  dsimp only
  split
  · exact h.putStable
  refine h.frame.bind fun _ _ h => .ite h (h.frame.bind fun _ _ h => .ite h (h.climbBoth.bind fun _ _ h => ?_))
  split
  · exact h
  · exact h.putStable

theorem HartInv.follow (h : HartInv s) {n hops : Nat} {p : Pos} {fl : Flags} : (s.follow n p fl hops).Keeps HartInv := by
  induction n generalizing s p fl hops with
  | zero => exact h
  | succ n ih =>
    refine h.frame.bind fun _ _ h => .ite h (.ite h ?_)
    dsimp only
    split
    · exact h
    · exact .ite h (.ite h (h.frame.bind fun _ _ h => h.xform.bind fun _ _ h => ih h))

theorem HartInv.resolve (h : HartInv s) {p : Pos} : (s.resolve p).Keeps HartInv :=
  h.follow.bind fun _ _ h => HartInv.ite h.agentEvent h

theorem HartInv.needTag (h : HartInv s) {tags : List Nat} : (needTag s tags).Keeps HartInv := by
  unfold Machine.needTag
  split
  · exact h
  · exact h

theorem HartInv.target (h : HartInv s) {x : Word} : (s.target x).Keeps HartInv := h.frame.bind fun _ _ h => .ite h h

theorem HartInv.gpos (h : HartInv s) {w : Nat} {f : Nat → Nat → State → Res (Nat × Flags)}
    (hf : ∀ i p s, HartInv s → (f i p s).Keeps HartInv) : (s.gpos e els w f).Keeps HartInv := by
  refine h.needSew (h.each fun i p s h => ?_)
  have hr := hf i p s h
  split
  next eq => exact hr.wait eq
  next eq => exact hr.stop eq
  next eq =>
    have hv := hr.ok eq
    dsimp only
    split
    · exact hv.onHart rfl
    · exact (hv.onHart rfl).setEl

theorem HartInv.combine (h : HartInv s) {sub : Bool} : (s.combine e els sub).Keeps HartInv := by
  refine h.gpos fun _ p s h => h.needTag.bind fun _ _ h => ?_
  dsimp only
  split
  · exact h
  · exact h.resolve.bind fun _ _ h => h.resolve.bind fun _ _ h => h.xform.bind fun _ _ h => h

theorem HartInv.effGlen (h : HartInv s) : (effGlen e els s).Keeps HartInv := h.gpos fun _ _ _ h => h.needTag.bind fun _ _ h => .ite h h
theorem HartInv.effGunpack (h : HartInv s) : (effGunpack e els s).Keeps HartInv := h.needSew (h.each fun _ _ _ h => h.setEl.setEl.setEl)

theorem HartInv.effGrehome (h : HartInv s) : (effGrehome e els s).Keeps HartInv :=
  h.gpos fun _ _ _ h => .ite h (h.resolve.bind fun _ _ h => h)

theorem HartInv.effGdot (h : HartInv s) : (effGdot e els s).Keeps HartInv :=
  h.gpos fun _ _ _ h => h.needTag.bind fun _ _ h => .ite h (.ite h
    (h.resolve.bind fun _ _ h => h.resolve.bind fun _ _ h => h.xform.bind fun _ _ h => h))

theorem HartInv.effGcvt (h : HartInv s) : (effGcvt e els s).Keeps HartInv :=
  h.gpos fun _ _ _ h => h.needTag.bind fun _ _ h => h.resolve.bind fun _ _ h => h.target.bind fun _ _ h => h.xform.bind fun _ _ h => h

theorem HartInv.effGscl (h : HartInv s) : (effGscl e els s).Keeps HartInv :=
  h.gpos fun _ _ _ h => h.needTag.bind fun _ _ h => .ite h (h.resolve.bind fun _ _ h => h)

theorem HartInv.effGmorton (h : HartInv s) : (effGmorton e els s).Keeps HartInv :=
  h.gpos fun _ _ _ h => h.needTag.bind fun _ _ h => .ite h
    (h.resolve.bind fun _ _ h => h.target.bind fun _ _ h => .ite h (h.xform.bind fun _ _ h => h))

theorem HartInv.effGnbr (h : HartInv s) : (effGnbr e els s).Keeps HartInv := by
  refine h.needSew ?_
  split
  · exact h
  dsimp only
  split
  · exact .ite h (h.each fun _ _ _ h => h.setEl)
  · exact h

/-! ## Cell tables -/

theorem HartInv.loadElWords (h : HartInv s) {a n : Nat} : (s.loadElWords a n).Keeps HartInv := by
  induction n generalizing s a with
  | zero => exact h
  | succ n ih => exact h.loadEl.bind fun _ _ h => (ih h).bind fun _ _ h => h

theorem HartInv.cellHead (h : HartInv s) {a : Nat} : (s.cellHead a).Keeps HartInv := by
  refine h.loadElWords.bind fun _ _ h => ?_
  split
  · exact .ite h h
  · exact h

theorem HartInv.probe (h : HartInv s) {table k hash n i : Nat} {c : CellHead} : (s.probe table c k hash n i).Keeps HartInv := by
  induction n generalizing s i with
  | zero => exact h
  | succ n ih =>
    refine h.loadElWords.bind fun _ _ h => ?_
    split
    · exact .ite (.ite h h) (.ite h (ih h))
    · exact h

theorem HartInv.withTable (h : HartInv s) {k : Elems → State → Eff} (hk : ∀ els s, HartInv s → (k els s).Keeps HartInv) :
    (s.withTable e els k).Keeps HartInv := by
  refine h.needSew ?_
  split
  · exact h
  refine .ite h ?_
  split
  next eq => exact hk _ _ (h.cellHead.ok eq)
  next eq => exact h.cellHead.stop eq
  next eq => exact h.cellHead.wait eq

theorem HartInv.cellInsert (h : HartInv s) {table k i first : Nat} : (s.cellInsert table k i first).Keeps HartInv := by
  refine Res.Keeps.harts_orNothing (h.cellHead.bind fun _ _ h => h.probe.bind fun r _ h => ?_) h
  cases r with
  | held slot w => exact h.storeEl.bind fun _ _ h => h
  | free slot =>
    exact .ite (h.storeEl.bind fun _ _ h => h.storeEl.bind fun _ _ h => h.storeEl.bind fun _ _ h => h)
      (.ite h (h.storeEl.bind fun _ _ h => (h.onHart rfl)))
  | none => exact .ite h (h.storeEl.bind fun _ _ h => (h.onHart rfl))

theorem HartInv.effVcellins (h : HartInv s) : (effVcellins e els s).Keeps HartInv :=
  h.withTable fun _ _ h => h.each fun _ _ _ h => .ite h.setEl (h.cellInsert.bind fun _ _ h => h.setEl)

theorem HartInv.effVcellfind (h : HartInv s) : (effVcellfind e els s).Keeps HartInv :=
  h.withTable fun _ _ h => h.each fun _ _ _ h => .ite h.setEl (h.cellHead.bind fun _ _ h => h.probe.bind fun _ _ h => h.setEl)

/-! ## The work of every row -/

theorem HartInv.laneWork (h : HartInv s) : (Machine.laneWork e els s).Keeps HartInv := by
  unfold Machine.laneWork
  cases e.row with
  | mmode => exact h.needZero (.ite h.startFault (h.onHart rfl))
  | mshape => exact h.effMshape
  | vaddVV | vaddVX | vaddVI | vsubVV | vsubVX | vsubVI | vrsubVV | vrsubVX | vrsubVI | vmulVV | vmulVX | vmulVI | vmulhVV | vmulhVX |
      vmulhVI | vmulhnVV | vmulhnVX | vmulhnVI | vandVV | vandVX | vandVI | vorVV | vorVX | vorVI | vxorVV | vxorVX | vxorVI | vsllVV |
      vsllVX | vsllVI | vsrlVV | vsrlVX | vsrlVI | vsraVV | vsraVX | vsraVI | vminVV | vminVX | vminVI | vmaxVV | vmaxVX | vmaxVI |
      vminnVV | vminnVX | vminnVI | vmaxnVV | vmaxnVX | vmaxnVI | vsaddVV | vsaddVX | vssubVV | vssubVX | vsaddnVV | vsaddnVX | vssubnVV |
      vssubnVX | vavgVV | vavgVX | vavgnVV | vavgnVX | vdivVV | vdivVX | vdivnVV | vdivnVX | vremVV | vremVX | vremnVV | vremnVX | vmaccVV
      | vmaccVX | vnmsacVV | vnmsacVX | vabs | vneg | vpopc | vclz | vwaddVV | vwaddVX | vwaddnVV | vwaddnVX | vwsubVV | vwsubVX |
      vwsubnVV | vwsubnVX | vwmulVV | vwmulVX | vwmulnVV | vwmulnVX | vwmaccVV | vwmaccVX | vwmaccnVV | vwmaccnVX | vnsrlVV | vnsrlVX |
      vnsraVV | vnsraVX | vnclipVV | vnclipVX | vnclipnVV | vnclipnVX | vfaddVV | vfaddVX | vfsubVV | vfsubVX | vfrsubVV | vfrsubVX |
      vfmulVV | vfmulVX | vfdivVV | vfdivVX | vfrdivVV | vfrdivVX | vfminVV | vfminVX | vfmaxVV | vfmaxVX | vfsgnjVV | vfsgnjVX |
      vfsgnjnVV | vfsgnjnVX | vfsgnjxVV | vfsgnjxVX | vfmaVV | vfmaVX | vfmsVV | vfmsVX | vfnmaVV | vfnmaVX | vfnmsVV | vfnmsVX | vfsqrt |
      vfrcp | vfrsq | vfexp2 | vflog2 | vfsinp | vfcosp | vftanh | vfabs | vfneg | vfclass | vffloor | vfceil | vfround | vcvtI32F32 |
      vcvtN32F32 | vcvtF32I32 | vcvtF32N32 | vcvtI64F64 | vcvtN64F64 | vcvtF64I64 | vcvtF64N64 | vcvtF64F32 | vcvtF32F64 | vcvtHF32 |
      vcvtBfF32 | vcvtF32H | vcvtF32Bf | vcvtB8F32 | vcvtF32B8 | vcvtB8H | vcvtHB8 | vcvtB8Bf | vcvtBfB8 | vcvtE4F32 | vcvtF32E4 | vcvtHE4
      | vcvtQ4F32 | vcvtF32Q4 | vcvtHQ4 | vinsert | vid | vrand | vmvX => exact h.needSew h.vmap
  | vcmpEqVV | vcmpEqVX | vcmpNeVV | vcmpNeVX | vcmpLtVV | vcmpLtVX | vcmpLeVV | vcmpLeVX | vcmpLtnVV | vcmpLtnVX | vcmpLenVV | vcmpLenVX
      | vcmpGtVV | vcmpGtVX | vcmpGeVV | vcmpGeVX => exact h.vcmpInt
  | vcmpFeqVV | vcmpFeqVX | vcmpFneVV | vcmpFneVX | vcmpFltVV | vcmpFltVX | vcmpFleVV | vcmpFleVX | vcmpFgtVV | vcmpFgtVX | vcmpFgeVV |
      vcmpFgeVX | vcmpFunordVV | vcmpFunordVX | vcmpFordVV | vcmpFordVX => exact h.vcmpFp
  | kand | kor | kxor | kandn | knot | kmov | ksetx => exact h.kmap
  | kpop | kfirst => exact h.needZero h.giveX
  | kiota => exact h.needZero (h.needSew h.vmap)
  | vmerge | vmvV | vternlog => exact h.vmap
  | vcompress | vexpand | vslideup | vslidedn | vpermv | vbcast | vilv | vdilv | vbshl | vbshr | vbfun => exact h.needZero h.vmap
  | vextract => exact h.needZero (h.needSew h.giveX)
  | vredsum | vredmin | vredmax | vredminn | vredmaxn | vredand | vredor | vredxor => exact h.vreduce
  | vfsum | vfsumo | vfredmin | vfredmax => exact h.needZero (h.needSew (.ite h h.fpReduced))
  | vwsum => exact h.effVwsum
  | vld | vlds | vldx => exact h.vload
  | vldReg => exact h.effVldReg
  | vst | vsts | vstx => exact h.vstore
  | vstReg => exact h.effVstReg
  | vgll => exact h.effVgll
  | vscc => exact h.effVscc
  | vacc => exact h.effVacc
  | vldwE4H | vldwE4Bf | vldwE4B8 | vldwQ4H | vldwQ4Bf | vldwQ4B8 => exact h.vldw
  | gsub | gadd => exact h.combine
  | glen => exact h.effGlen
  | gtag | gpack | gsettag => exact h.gpos fun _ _ _ h => h
  | gunpack => exact h.effGunpack
  | grehome => exact h.effGrehome
  | gdot => exact h.effGdot
  | gcvt => exact h.effGcvt
  | gscl => exact h.effGscl
  | gmorton => exact h.effGmorton
  | gnbr => exact h.effGnbr
  | vcellins => exact h.effVcellins
  | vcellfind => exact h.effVcellfind
  | rspawn => exact h.effRspawn
  | rret => exact h.effRret
  | rkids => exact h.effRkids
  | rdepth => exact h.effRdepth
  | rnkid => exact h.effRnkid
  | mzero => exact h.effMzero
  | mrowv | mcolv => exact h.slice fun _ => h.fromTile
  | mvrow | mvcol => exact h.slice fun _ => h.toTile
  | mdrain => exact h.effMdrain
  | mload => exact h.effMload
  | amerge => exact h.effAmerge
  | sacc => exact h.effSacc
  | opacc | opsub | opaccw => exact h.tileOp
  | _ => exact h

theorem Eff.Keeps.harts_healed {x : Eff} (hx : x.Keeps HartInv) {g : Hart} : (x.healed e els g).Keeps HartInv := by
  cases x with
  | done s => exact hx.onHart rfl
  | fault i c s => exact HartInv.ite hx (hx.onHart rfl)
  | wait i s => exact HartInv.ite hx (hx.onHart rfl)

theorem HartInv.laneEffect (h : HartInv s) : (Machine.laneEffect e els s).Keeps HartInv := by
  refine .ite h.laneWork ?_
  split
  · exact h.laneWork.harts_healed
  split
  next eq => exact h.laneWork.fault eq
  next =>
    exact .ite (h.wordStop.startFault) (h.laneWork.harts_healed.andThen fun _ h => h.wordStop)

end

section
variable {s t : State} {e : QEntry} {els : Elems} {block : List (BitVec 32)}

/-! ## Leases, grants and register storage (R53 to R65, R310) -/

theorem HartInv.push (h : HartInv s) {l : List Instr} : HartInv (s.push l) := h
theorem HartInv.portAgain (h : HartInv s) {port n : Nat} : HartInv (s.portAgain port n) := h
theorem HartInv.retryPending (h : HartInv s) : HartInv s.retryPending := h

theorem HartInv.retarget (h : HartInv s) {n : Nat} : HartInv (s.retarget n) :=
  h.mapHarts fun _ => Hart.modes_ite (Hart.modes_csr rfl rfl) rfl

theorem HartInv.requestLease (h : HartInv s) {id m p : Nat} : HartInv (s.requestLease id m p) := by
  unfold State.requestLease
  split
  · exact h
  next x e =>
    extract_lets n m old new pref t c u
    have ht : HartInv t := h
    have hu : HartInv u := ht.putHart (Hart.legal_of_modes (h := x) rfl (h.findHart e))
    exact hu.retarget

theorem HartInv.applyGrant (h : HartInv s) {id : Nat} : HartInv (s.applyGrant id) := by
  unfold State.applyGrant
  split
  · exact h
  next e =>
    extract_lets
    exact HartInv.ite h (h.putHartOf e (Hart.modes_ite (Hart.modes_csr rfl rfl) (Hart.modes_csr rfl rfl)))

theorem HartInv.dealFree (h : HartInv s) {n : Nat} : HartInv (s.dealFree n) := h.foldl fun _ _ h => h.applyGrant

theorem HartInv.setRetired (h : HartInv s) {n : Nat} {r : BitVec 16} : HartInv (s.setRetired n r) :=
  h.putStable.mapHarts fun _ => Hart.modes_ite (Hart.modes_csr rfl rfl) rfl

theorem HartInv.retireClusters (h : HartInv s) {n : Nat} : HartInv (s.retireClusters n) := .ite h h.setRetired

theorem HartInv.boundary (h : HartInv s) {id : Nat} : HartInv (s.boundary id) := by
  unfold State.boundary
  split
  · exact h
  next e => exact .ite (HartInv.ite (h.putHartOf e (by rfl)) h).applyGrant.retireClusters.dealFree.retryPending h

theorem HartInv.evictAgent (h : HartInv s) {die agent line : Nat} : HartInv (s.evictAgent die agent line) := .ite h.evictU h.setCoh

theorem HartInv.moveBanks (h : HartInv s) {n before : Nat} : HartInv (s.moveBanks n before) :=
  .ite h (h.setFresh.foldl fun _ _ h => h.evictAgent)

theorem HartInv.requestStorage (h : HartInv s) {code : Nat} : HartInv (s.requestStorage code) := by
  unfold State.requestStorage
  split
  · exact h
  next j eq =>
    have ho (c : Nat) : (s.others.map fun g => if g.job = some j.gang then g.offerVlmax c else g).all Hart.legal = true :=
      all_legal_map h.2 fun g hg => by
        split
        · exact Hart.legal_offerVlmax hg
        · exact hg
    have hc (c : Nat) : HartInv { s with
        hart := s.hart.setVlmax c, others := s.others.map fun g => if g.job = some j.gang then g.offerVlmax c else g } :=
      ⟨Hart.legal_setVlmax h.1, ho _⟩
    exact (hc _).moveBanks

theorem HartInv.takeVlmax (h : HartInv s) : HartInv s.takeVlmax := by
  unfold State.takeVlmax
  split
  · exact .ite h (h.onHartTo Hart.legal_setVlmax)
  · exact h

/-! ## Groups of a block (R138, R139) -/

theorem HartInv.runWords (h : HartInv s) {pc : Word} {ws : List (BitVec 32)} : (s.runWords pc els ws).Keeps HartInv := by
  induction ws generalizing s pc with
  | nil => exact h
  | cons w ws ih =>
    unfold State.runWords
    split
    · exact h
    split
    next eq => exact ih (h.laneEffect.done eq)
    next eq => exact h.laneEffect.fault eq
    next eq => exact h.laneEffect.wait eq

theorem HartInv.runGroup (h : HartInv s) {base : Word} : (s.runGroup block base els).Keeps HartInv := by
  unfold State.runGroup
  split
  next eq => exact ((h.onHart rfl).runWords.done eq).foldGroup.onHart rfl
  next eq => exact h.keepAttempt
  next eq => exact h.keepAttempt

theorem HartInv.onHead (h : HartInv s) {f : QEntry → QEntry} : HartInv (s.onHead f) := h.onHart rfl
theorem HartInv.headWaits (h : HartInv s) : HartInv s.headWaits := h.onHead.headIdle
theorem HartInv.headDone (h : HartInv s) : HartInv s.headDone := (h.onHead.onHart (by simp)).takeVlmax
theorem HartInv.headCause (h : HartInv s) {c : Stop} {vpc : Word} : HartInv (s.headCause c vpc) := h.onHart rfl

theorem HartInv.withBlock (h : HartInv s) {k : List (BitVec 32) → State → State} (hk : ∀ b s, HartInv s → HartInv (k b s)) :
    HartInv (s.withBlock e k) := by
  unfold State.withBlock
  split
  · exact hk _ _ h
  split
  next eq => exact hk _ _ (h.readBlock.ok eq).onHead
  next eq => exact (h.readBlock.stop eq).headCause
  next eq => exact (h.readBlock.wait eq).headIdle

theorem HartInv.fetchGroup (h : HartInv s) : HartInv (s.fetchGroup e block).1 := by
  unfold State.fetchGroup
  extract_lets
  split
  · exact h.headDone
  split
  next eq =>
    exact .fst_ite (h.runGroup.done eq).headDone ((h.runGroup.done eq).onHart rfl).onHead
  next eq => exact (h.runGroup.fault eq).headCause
  next eq => exact (h.runGroup.wait eq).headWaits

theorem HartInv.fetchGroups (h : HartInv s) {n : Nat} : HartInv (s.fetchGroups n) := by
  induction n generalizing s with
  | zero => exact h
  | succ n ih =>
    unfold State.fetchGroups
    split
    · exact h
    · exact .ite (ih h.fetchGroup) h.fetchGroup

theorem HartInv.markFetch (h : HartInv s) : HartInv (s.markFetch e) := .ite h.onHead h

theorem HartInv.vfetchStep (h : HartInv s) {all : Bool} : HartInv (s.vfetchStep e all) := h.withBlock fun _ _ h => h.markFetch.fetchGroups

theorem HartInv.passGroups (h : HartInv s) {kw : KReg} {n : Nat} : HartInv (s.passGroups kw block n) := by
  induction n generalizing s with
  | zero => exact h
  | succ n ih =>
    unfold State.passGroups
    split
    · exact h
    refine .ite (.ite h.onHead h.headDone) ?_
    dsimp only
    split
    next eq => exact ih (h.runGroup.done eq).onHead
    next eq => exact (h.runGroup.fault eq).headCause
    next eq => exact (h.runGroup.wait eq).headWaits

theorem HartInv.vfetchwStep (h : HartInv s) {all : Bool} : HartInv (s.vfetchwStep e all) :=
  .ite h.headCause (h.withBlock fun _ _ h => h.passGroups)

theorem HartInv.stripGroups (h : HartInv s) {n : Nat} : HartInv (s.stripGroups block n) := by
  induction n generalizing s with
  | zero => exact h
  | succ n ih =>
    unfold State.stripGroups
    split
    · exact h
    refine .ite (.ite (h.onHart rfl).headDone (h.onHart rfl).onHead) ?_
    dsimp only
    split
    next eq => exact ih (h.runGroup.done eq).onHead
    next eq => exact (h.runGroup.fault eq).headCause
    next eq => exact (h.runGroup.wait eq).headIdle

theorem HartInv.vloopStep (h : HartInv s) {all : Bool} : HartInv (s.vloopStep e all) :=
  .ite h.headCause (h.withBlock fun _ _ h => .ite (h.onHart rfl).headDone (HartInv.ite h h.onHead).stripGroups)

end

section
variable {s t : State} {e : QEntry} {r : RecRun} {w : Who}

/-! ## The unfolding engine (R265 to R275) -/

theorem HartInv.loadSeq (h : HartInv s) {a b n : Nat} : (s.loadSeq w a b n).Keeps HartInv := by
  induction n generalizing s a with
  | zero => exact h
  | succ n ih => exact h.loadAs.bind fun _ _ h => (ih h).bind fun _ _ h => h

theorem HartInv.storeSeq (h : HartInv s) {a b : Nat} {l : List Nat} : (s.storeSeq w a b l).Keeps HartInv := by
  induction l generalizing s a with
  | nil => exact h
  | cons v vs ih => exact h.storeAs.bind fun _ _ h => ih h

theorem HartInv.recurStart (h : HartInv s) : (s.recurStart e).Keeps HartInv := by
  refine .ite h (.ite h (.ite h (.ite h (h.loadSeq.bind fun _ s h => .ite h (.ite h (Res.Keeps.bind (.ite h h.loadSeq) fun _ s h => ?_))))))
  exact .ite h (.ite h (.ite h (h.loadAs.bind fun _ _ h => .ite h
    (h.storeAs.bind fun _ _ h => h.storeSeq.bind fun _ _ h => (h.setStoreTail.onHart rfl)))))

theorem HartInv.recurLoad (h : HartInv s) {a : List Nat} : HartInv (s.recurLoad r a).2 :=
  .ite (h.foldl fun _ _ h => .ite h.setStoreTail h) h

theorem HartInv.objectKept (h : HartInv s) {obj : Nat} : (s.objectKept w obj).Keeps HartInv := by
  unfold State.objectKept
  split
  · exact h
  · exact h.loadSeq.bind fun _ _ h => h

theorem HartInv.recurResume (h : HartInv s) {a : List Nat} : (s.recurResume e a).Keeps HartInv :=
  h.objectKept.bind fun _ _ h => .ite h.recurLoad h.recurLoad

theorem HartInv.resultWords (h : HartInv s) {a : Nat} : (s.resultWords w r a).Keeps HartInv := h.loadSeq

theorem HartInv.resultsOf (h : HartInv s) {l : List Nat} : (s.resultsOf w r l).Keeps HartInv := by
  induction l generalizing s with
  | nil => exact h
  | cons a as ih => exact h.resultWords.bind fun _ _ h => (ih h).bind fun _ _ h => h

theorem HartInv.tailAt (h : HartInv s) {a : Nat} : (s.tailAt w r a).Keeps HartInv := h.loadAs

theorem HartInv.loadVps (h : HartInv s) {l : List Frm} : (s.loadVps w r l).Keeps HartInv := by
  induction l generalizing s with
  | nil => exact h
  | cons f fs ih =>
    exact h.loadSeq.bind fun _ _ h => h.tailAt.bind fun _ _ h => Res.Keeps.bind (.ite h.resultsOf h) fun _ _ h => (ih h).bind fun _ _ h => h

theorem HartInv.setVp (h : HartInv s) {p : RVp} : HartInv (s.setVp r p) := h.setEl.setEl.foldl fun _ _ h => h.setEl

theorem HartInv.putKids (h : HartInv s) {a prec dep j : Nat} {l : List (List Nat)} : (s.putKids w r a prec dep l j).Keeps HartInv := by
  induction l generalizing s a j with
  | nil => exact h
  | cons k ks ih => exact h.storeSeq.bind fun _ _ h => h.storeAs.bind fun _ _ h => ih h

theorem HartInv.commitVp (h : HartInv s) {p : RVp} : (s.commitVp w r p).Keeps HartInv := by
  refine .ite (h.tailAt.bind fun _ _ h => h.storeAs.bind fun _ _ h =>
    .ite (h.putKids.bind fun _ _ h => h) (h.putKids.bind fun _ _ h => h)) ?_
  split
  · exact h
  · exact h.storeSeq.bind fun _ _ h => h

theorem HartInv.commitVps (h : HartInv s) {l : List RVp} : (s.commitVps w r l).Keeps HartInv := by
  induction l generalizing s r with
  | nil => exact h
  | cons p ps ih => exact h.commitVp.bind fun _ _ h => ih h

theorem HartInv.recurGroup (h : HartInv s) {fs : List Frm} {after : RecRun → List RVp → State → Res RecRun}
    (ha : ∀ r vps s, HartInv s → (after r vps s).Keeps HartInv) : (s.recurGroup e r fs after).Keeps HartInv := by
  unfold State.recurGroup
  extract_lets
  split
  next eq => exact h.readBlock.stop eq
  next eq => exact h.readBlock.wait eq
  next eq =>
    refine (h.readBlock.ok eq).loadVps.step fun vps s h => ?_
    have hg := HartInv.onHart (h.foldl (l := vps) fun _ p h => h.setVp (r := r) (p := p)) (hf := rfl)
      (f := fun g => { g with recur := some { r with vps := vps } })
    dsimp only
    split
    next eq =>
      have ht := hg.runGroup.done eq
      split
      · exact ht
      · exact (ht.commitVps.bind fun _ _ h => ha _ _ _ h).step fun _ _ h => h
    next eq => exact hg.runGroup.fault eq
    next eq => exact hg.runGroup.wait eq

theorem HartInv.settleStep (h : HartInv s) {o : RStep} (ho : o.Keeps HartInv) : HartInv (s.settleStep r o) := by
  unfold State.settleStep
  cases o with
  | ok q t => exact HartInv.onHart ho rfl
  | cause vpc c t => exact (h.keepAttempt.onHart rfl).headCause
  | engine c t => exact h.keepAttempt.onHart rfl
  | wait t => exact (h.keepAttempt.onHart rfl).headIdle

/-! ### The depth-first phase (R271) -/

theorem HartInv.loadHead (h : HartInv s) {v : Nat} : (s.loadHead w r v).Keeps HartInv := h.loadSeq.bind fun _ _ h => h
theorem HartInv.storeHead (h : HartInv s) {v : Nat} {q : Head} : (s.storeHead w r v q).Keeps HartInv := h.storeSeq

theorem HartInv.initHeads (h : HartInv s) {l : List Nat} : (s.initHeads w r l).Keeps HartInv := by
  induction l generalizing s with
  | nil => exact h
  | cons v vs ih => exact h.storeHead.bind fun _ _ h => ih h

theorem HartInv.divided (h : HartInv s) {a k : Nat} : (s.divided w r a k).Keeps HartInv := by
  induction k generalizing s a with
  | zero => exact h
  | succ k ih => exact h.tailAt.bind fun _ _ h => .ite ((ih h).bind fun _ _ h => h) h

theorem HartInv.path (h : HartInv s) {v n cur idx pos : Nat} {q : Head} {acc : List Step} :
    (s.path w r v q n cur idx pos acc).Keeps HartInv := by
  induction n generalizing s cur idx pos acc with
  | zero => exact h
  | succ n ih => exact h.tailAt.bind fun _ _ h => .ite h (h.divided.bind fun _ _ h => ih h)

theorem HartInv.pathOf (h : HartInv s) {v : Nat} {q : Head} : (s.pathOf w r v q).Keeps HartInv := h.path

theorem HartInv.settledHead (h : HartInv s) {v : Nat} {q : Head} : (s.settledHead w r v q).Keeps HartInv := by
  refine .ite h (.ite h (h.pathOf.bind fun _ _ h => ?_))
  split
  · exact h
  · exact h

theorem HartInv.workOf (h : HartInv s) {v : Nat} {q : Head} : (s.workOf w r v q).Keeps HartInv := by
  refine .ite h (h.pathOf.bind fun _ _ h => ?_)
  split
  · exact h
  · exact .ite h (.ite h h)

theorem HartInv.workFrom (h : HartInv s) {v n : Nat} : (s.workFrom w r v n).Keeps HartInv := by
  induction n generalizing s v with
  | zero => exact h
  | succ n ih => exact h.loadHead.bind fun _ _ h => h.settledHead.bind fun _ _ h => h.workOf.bind fun _ _ h => (ih h).bind fun _ _ h => h

theorem HartInv.nextHeads (h : HartInv s) {l : List (RVp × Work)} : (s.nextHeads w r l).Keeps HartInv := by
  induction l generalizing s with
  | nil => exact h
  | cons p ps ih => exact h.storeHead.bind fun _ _ h => ih h

theorem HartInv.depthGroup (h : HartInv s) {work : List Work} {o : RStep} (eq : s.depthGroup e r work = some o) : o.Keeps HartInv := by
  cases work with
  | nil => cases eq
  | cons q work => cases eq; exact h.recurGroup fun _ _ _ h => h.nextHeads.bind fun _ _ h => h

/-! ### The run (R269, R274) -/

theorem HartInv.passDone (h : HartInv s) : (s.passDone r).Keeps HartInv :=
  .ite (.ite h (.ite h (.ite (h.initHeads.bind fun _ _ h => h) h))) (.ite h (.ite h h))

theorem HartInv.recurEnd (h : HartInv s) : (s.recurEnd e r).Keeps HartInv :=
  .ite h (h.resultWords.bind fun _ _ h => Res.Keeps.bind (.ite h h.storeSeq) fun _ _ h =>
    h.storeSeq.bind fun _ _ h => h.storeAs.bind fun _ _ h => h.onHart (Hart.modes_setX ..))

theorem HartInv.recurRun (h : HartInv s) {n : Nat} : HartInv (s.recurRun e r n) := by
  induction n generalizing s r with
  | zero => exact h.onHart rfl
  | succ n ih =>
    have turn : ∀ u : State, HartInv u → HartInv (match (u.passDone r).orNothing u with
        | .ok q t => State.recurRun t e q n
        | .stop c t => u.settleStep r (.engine c t)
        | .wait t => u.settleStep r (.wait t)) := fun u h => by
      have hp := h.passDone (r := r) |>.harts_orNothing h
      split
      next eq => exact ih (hp.ok eq)
      next eq => exact h.settleStep (hp.stop eq)
      next eq => exact h.settleStep (hp.wait eq)
    unfold State.recurRun
    refine .ite ?_ (.ite ?_ ?_)
    · have he := h.recurEnd (e := e) (r := r) |>.harts_orNothing h
      split
      next eq => exact (he.ok eq).headDone
      next eq => exact h.settleStep (he.stop eq)
      next eq => exact h.settleStep (he.wait eq)
    · split
      next eq => exact h.settleStep (h.workFrom.stop eq)
      next eq => exact h.settleStep (h.workFrom.wait eq)
      next eq =>
        have ht := h.workFrom.ok eq
        split
        · exact turn _ ht
        next eq => exact ht.settleStep (ht.depthGroup eq)
    · split
      · exact turn _ h
      · exact h.settleStep (h.recurGroup fun _ _ _ h => h)

theorem HartInv.recurBegin (h : HartInv s) {o : Started} (ho : o.Keeps HartInv) : HartInv (s.recurBegin e o) := by
  have ho := ho.harts_orNothing h
  unfold State.recurBegin
  split
  next eq => exact HartInv.headCause (ho.stop eq)
  next eq => exact HartInv.headIdle (ho.wait eq)
  next eq => exact HartInv.onHart (HartInv.onHead (ho.ok eq)) rfl

theorem HartInv.recurRestart (h : HartInv s) : HartInv (s.recurRestart e) := by
  refine .ite h.headIdle ?_
  have hl := h.loadSeq (w := { s.recurWho with pad := false }) (a := e.opa.toNat + 0x48) (b := 8) (n := 7) |>.harts_orNothing h
  split
  next eq => exact HartInv.onHart (hl.stop eq) rfl
  next eq => exact HartInv.headIdle (hl.wait eq)
  next t eq =>
    have ht : HartInv t := hl.ok eq
    refine .ite (h.recurBegin ht.recurResume) (.ite ?_ ht.headCause)
    have hr := ht.recurStart (e := e) |>.harts_orNothing h
    split
    next eq => exact HartInv.headCause (HartInv.onHead (hr.stop eq))
    · exact h.recurBegin hr

theorem HartInv.recurStep (h : HartInv s) : HartInv (s.recurStep e) := by
  refine .ite h ?_
  split
  · exact h.recurRun
  · exact .ite h.recurRestart (h.recurBegin h.recurStart)

end

section
variable {s t : State} {e : QEntry} {r : Row} {block : List (BitVec 32)}

/-! ## The lanes (R125 to R135, R141 to R148) -/

theorem HartInv.entryAt (h : HartInv s) {i : Nat} : HartInv (s.entryAt r i) := (h.onHart rfl).onHead

theorem HartInv.plainTo (h : HartInv s) {hi : Nat} : HartInv (s.plainTo e hi) := by
  unfold State.plainTo
  split
  next eq => exact .ite (h.laneEffect.done eq).entryAt (h.laneEffect.done eq).headDone
  next eq => exact (h.laneEffect.fault eq).entryAt.headCause
  next eq => exact (h.laneEffect.wait eq).entryAt.headWaits

theorem HartInv.plainStep (h : HartInv s) : HartInv (s.plainStep e) := h.plainTo

theorem HartInv.effVsetl (h : HartInv s) : (Machine.effVsetl e s).Keeps HartInv := by
  unfold Machine.effVsetl
  extract_lets q most s1 s2 v
  split
  · exact h.startFault
  next hq =>
    have h1 : HartInv s1 := HartInv.ite h.requestStorage (HartInv.ite h.requestStorage h)
    obtain ⟨-, -, hm, hp⟩ := Hart.legal_iff.mp h1.1
    have hsew : s2.hart.sew ≤ 4 := by
      change bits (setBits (setBits s1.hart.csr.vcfg 16 3 (bits q 0 3)) 22 2 _) 16 3 ≤ 4
      rw [bits_setBits_apart _ _ (by decide) (.inl (by decide)), bits_setBits_same _ _ (by decide)]
      exact (Nat.mod_le ..).trans (by omega)
    have hl : (s2.hart.setVl v).legal = true := Hart.legal_setVl (newVl_le ..) hsew hm hp
    exact ⟨Hart.legal_of_modes (Hart.modes_setX ..) hl, h1.2⟩

theorem HartInv.effVlease (h : HartInv s) : (Machine.effVlease e s).Keeps HartInv := h.requestLease.onHart (Hart.modes_setX ..)

theorem HartInv.effVcommit (h : HartInv s) : (Machine.effVcommit s).Keeps HartInv := .ite h h

theorem HartInv.effVfork (h : HartInv s) : (Machine.effVfork e s).Keeps HartInv := by
  unfold Machine.effVfork
  extract_lets s1 p fail c k m lp m2 n t
  have h1 : HartInv s1 := h.onHartTo fun hl => by
    split
    · exact Hart.legal_setVlmax hl
    · exact hl
  have hfail : fail.Keeps HartInv := h1.onHart (Hart.modes_setX ..)
  split
  · exact h1.startFault
  split
  · exact hfail
  split
  · exact hfail
  refine .ite hfail ?_
  extract_lets num t1 t2 t3
  have ht1 : HartInv t1 := HartInv.putHart (s := t) h1 (Hart.legal_forkChild h1.1)
  have ht2 : HartInv t2 := ht1.onHart (Hart.modes_setX ..)
  exact ht2.putJob.retarget.moveBanks

theorem HartInv.effVjoin (h : HartInv s) : (Machine.effVjoin e s).Keeps HartInv := by
  unfold Machine.effVjoin
  extract_lets p fail n t
  have hfail : fail.Keeps HartInv := h.onHart (Hart.modes_setX ..)
  split
  · split
    · exact hfail
    extract_lets child sum m2 p2 t1 t2 t3
    have ht1 : HartInv t1 := HartInv.putHart (s := t) h (Hart.legal_reset _)
    have ht3 : HartInv t3 := ht1.putJob.onHart (Hart.modes_setX ..)
    exact .ite ht3.retarget h
  · exact hfail

theorem HartInv.vctlStep (h : HartInv s) {o : Eff} (ho : o.Keeps HartInv) : HartInv (s.vctlStep e o) := by
  unfold State.vctlStep
  cases o with
  | done t => exact HartInv.headDone ho
  | fault i c t => exact HartInv.headCause ho
  | wait i t => exact h.keepAttempt.headWaits

theorem HartInv.headWork (h : HartInv s) {all : Bool} : HartInv (s.headWork e all) := by
  refine .ite h.headIdle ?_
  split
  · exact h.vfetchStep
  · exact h.vfetchStep
  · exact h.vfetchwStep
  · exact h.vloopStep
  · exact h.recurStep
  · exact h.vctlStep h.effVsetl
  · exact h.vctlStep h.effVlease
  · exact h.vctlStep h.effVfork
  · exact (h.vctlStep h.effVjoin).boundary
  · exact h.vctlStep h.effVcommit
  · exact h.plainStep

theorem HartInv.lanes (h : HartInv s) {all : Bool} : HartInv (s.lanes all) := by
  refine .ite h (.ite h.boundary ?_)
  split
  · exact h
  · exact .ite (h.onHart Hart.modes_leave) (.ite h h.headWork)

theorem HartInv.someGroups (h : HartInv s) {base : Word} {top n l : Nat} : (s.someGroups block base top n l).Keeps HartInv := by
  induction n generalizing s l with
  | zero => exact h
  | succ n ih =>
    unfold State.someGroups
    split
    · exact h
    dsimp only
    split
    next eq => exact ih (h.runGroup.done eq)
    · exact h.runGroup

theorem HartInv.asideWork (h : HartInv s) {lo hi : Nat} : (s.asideWork e lo hi).Keeps HartInv := by
  have groups {top : Nat} : (match s.someGroups e.block e.opa top 8192 (lo / s.hart.perGroup) with
      | .done t => Eff.done t
      | .fault _ c t => .fault lo c t
      | .wait t => .wait lo t).Keeps HartInv := by
    split
    next eq => exact h.someGroups.done eq
    next eq => exact h.someGroups.fault eq
    next eq => exact h.someGroups.wait eq
  unfold State.asideWork
  split
  · exact h.effVjoin
  · exact h.effVlease
  · exact groups
  · exact groups
  · exact h.laneEffect

theorem HartInv.youngWork (h : HartInv s) {n : Nat} : HartInv (s.youngWork n).1 := by
  unfold State.youngWork
  extract_lets
  split
  · exact h
  extract_lets
  refine .fst_ite h ?_
  split <;> dsimp only
  next eq => exact ((h.onHart rfl).asideWork.done eq).onHart (by simp)
  next eq => exact h
  next eq => exact h.keepAttempt

theorem HartInv.youngTry (h : HartInv s) {k n : Nat} : HartInv (s.youngTry k n) := by
  induction k generalizing s n with
  | zero => exact h
  | succ k ih => exact .ite h.youngWork (ih h.youngWork)

theorem HartInv.laneStep (h : HartInv s) : HartInv s.laneStep := .ite h.lanes.youngTry h.lanes
theorem HartInv.laneAt (h : HartInv s) {n : Nat} : HartInv (s.laneAt n) := .ite h.lanes h.youngWork
theorem HartInv.idleWork (h : HartInv s) : HartInv s.idleWork := .ite h.engineWork h.laneStep

theorem HartInv.fetchToGranule (h : HartInv s) {n : Nat} : HartInv (s.fetchToGranule n) := by
  induction n generalizing s with
  | zero => exact h
  | succ n ih =>
    unfold State.fetchToGranule
    split
    · exact h
    · exact .ite (ih h.fetchGroup) h.fetchGroup

theorem HartInv.stopHead (h : HartInv s) : HartInv (s.stopHead e) := by
  unfold State.stopHead
  exact HartInv.onHart (hf := rfl) (.ite h (.ite (h.withBlock fun _ _ h => h.markFetch.fetchToGranule)
    (.ite h.headWork (.ite (.ite h.plainStep h) h.plainTo))))

theorem HartInv.settle (h : HartInv s) : HartInv s.settle := by
  refine .ite h ?_
  dsimp only
  split
  · exact h.onHart (by simp)
  · exact HartInv.stopHead (h.onHart (by simp))

theorem HartInv.takeTrap (h : HartInv s) {c : Stop} {vpc : Option Word} : HartInv (s.takeTrap c vpc) :=
  .ite (h.settle.onHart rfl).enterTrap.boundary (h.settle.onHart rfl).enterTrap

/-! ## What an instruction answers -/

theorem HartInv.raise (h : HartInv s) {c : Stop} : (s.raise c).Keeps HartInv := h.takeTrap

theorem Res.Keeps.harts_finish {α : Type} {x : Res α} {k : α → State → Answer} (h : x.Keeps HartInv)
    (hk : ∀ a s, HartInv s → (k a s).Keeps HartInv) : (x.finish k).Keeps HartInv := by
  cases x with
  | ok a s => exact hk a s h
  | stop c s => exact HartInv.raise h
  | wait s => exact HartInv.idleWork h

theorem HartInv.writeX (h : HartInv s) {d : Reg} {v : Word} {len : Nat} : (s.writeX d v len).Keeps HartInv :=
  HartInv.advance (h.onHart (by simp))

theorem HartInv.fpWrite (h : HartInv s) {d : Reg} {v : Word} {fl : Flags} {len : Nat} : (s.fpWrite d v fl len).Keeps HartInv := by
  unfold State.fpWrite
  extract_lets
  split
  · exact (h.onHart rfl).raise
  · exact (h.onHart rfl).writeX

theorem HartInv.blockFor (h : HartInv s) {w : BitVec 64} : (s.blockFor r w).Keeps HartInv := by
  unfold State.blockFor
  split
  case h_5 => exact h
  all_goals
    split
    · exact h.readBlock
    · exact h

theorem HartInv.issue (h : HartInv s) {w : BitVec 64} : (s.issue r w).Keeps HartInv := by
  unfold State.issue
  split
  · exact h.raise
  · exact .ite h.idleWork (h.blockFor.harts_finish fun _ _ h => .ite h.idleWork
      (HartInv.ite (h.onHart rfl).advance.laneStep (h.onHart rfl).advance))

/-! ## The frame of a scalar instruction (R101, R102) -/

variable {w : BitVec 64} {len : Nat} {k : State → Answer}

theorem HartInv.waitOlder (h : HartInv s) : s.waitOlder.Keeps HartInv := h.resumeTransfers.idleWork

theorem HartInv.scalar (h : HartInv s) (hk : ∀ s, HartInv s → (k s).Keeps HartInv) : (s.scalar r w k).Keeps HartInv := by
  unfold State.scalar
  split
  · exact h.raise
  · exact .ite h.idleWork (.ite h.waitOlder (hk _ h))

theorem HartInv.compute (h : HartInv s) {d : Reg} {f : Hart → Word} : (s.compute r w len d f).Keeps HartInv := h.scalar fun _ h => h.writeX

theorem HartInv.onceFree (h : HartInv s) {a n : Nat} {write : Bool} (hk : (k s).Keeps HartInv) : (s.onceFree a n write k).Keeps HartInv :=
  .ite h.waitOlder hk

theorem HartInv.afterRelease (h : HartInv s) {release : Bool} (hk : (k s).Keeps HartInv) : (s.afterRelease release k).Keeps HartInv :=
  .ite h.waitOlder hk

theorem HartInv.afterQueue (h : HartInv s) (hk : (k s).Keeps HartInv) : (s.afterQueue k).Keeps HartInv := .ite hk h.laneStep

end

section
variable {s t : State} {r : Row} {w : BitVec 64} {len : Nat}

/-! ## Control registers (R91 to R100, R116) -/

theorem HartInv.retire (h : HartInv s) : (s.retire len).Keeps HartInv := h.advance
theorem HartInv.retireTo (h : HartInv s) {pc : Word} : (s.retireTo pc).Keeps HartInv := h.onHart rfl

theorem HartInv.writeCsr (h : HartInv s) {n : Nat} {v clr : Word} (hv : n = 0x10 → s.hart.badVcfg v = false) :
    HartInv (s.writeCsr n v clr) := by
  unfold State.writeCsr
  extract_lets s'
  have hs : HartInv s' := h.onHartTo fun hl => Hart.legal_write hl hv
  split
  · exact .ite hs (hs.onHart rfl)
  · exact hs.requestLease
  · split
    · exact hs.putJob
    · exact hs
  iterate 4 exact .ite hs hs
  · exact hs.putStable
  · exact hs.putStable.setRetired.retireClusters.retarget
  · exact hs

theorem HartInv.csrOp (h : HartInv s) {n : Nat} {d : Reg} {reads writes : Bool} {rw : Hart → Word → Word} {clr : Hart → Word} :
    (s.csrOp r w n d reads writes rw clr).Keeps HartInv := by
  refine h.scalar fun s h => ?_
  extract_lets go
  have hgo : (go s).Keeps HartInv := by
    dsimp only [go]
    split
    · exact h.raise
    next hbad =>
      have ht : HartInv (if writes then s.writeCsr n (rw s.hart (s.readCsr n)) (clr s.hart) else s) := by
        split
        next hw => exact h.writeCsr fun hn => by simpa [hw, hn] using hbad
        · exact h
      exact .ite ht.writeX ht.retire
  exact .ite (h.afterQueue hgo) hgo

/-! ## Copies (R232 to R237) -/

theorem HartInv.hand (h : HartInv s) {k : TransferKind} {reads writes : List Range} : (s.hand k reads writes).Keeps HartInv :=
  .ite h.waitOlder h.takeBridle.retire

theorem HartInv.execCpy (h : HartInv s) {o : OpDAB} : (Machine.execCpy o s).Keeps HartInv := by
  refine h.scalar fun s h => .ite h.retire ?_
  split
  · exact h.raise
  · exact h.hand

theorem HartInv.execCpyfill (h : HartInv s) {o : OpDAB} : (Machine.execCpyfill o s).Keeps HartInv := by
  refine h.scalar fun s h => .ite h.retire ?_
  split
  · exact h.raise
  · exact h.hand

theorem HartInv.execCpywait (h : HartInv s) : (Machine.execCpywait s).Keeps HartInv :=
  h.scalar fun _ h => .ite h.resumeTransfers.laneStep (.ite h.resumeTransfers.retire
    (.ite h.resumeTransfers.idleWork.engineWork h.resumeTransfers.engineWork))

theorem HartInv.ringSegments (h : HartInv s) {v : Who} {c : Cap} {n seg : Nat} : (s.ringSegments v c n seg).Keeps HartInv := by
  induction n generalizing s seg with
  | zero => exact h
  | succ n ih => exact h.ringRd.bind fun _ _ h => .ite h ((ih h).bind fun _ _ h => h)

theorem HartInv.freeRing (h : HartInv s) {a : Nat} : (s.freeRing a).Keeps HartInv :=
  h.readCap.bind fun _ _ h => h.ringOpen.bind fun _ _ h => h.ringSegments

theorem HartInv.execCpybt (h : HartInv s) {o : OpA} : (Machine.execCpybt o s).Keeps HartInv :=
  h.scalar fun _ h => .ite h.raise (.ite h.raise (h.onceFree (h.loadWords.harts_finish fun _ _ h =>
    .ite h.raise (.ite h.hand (h.freeRing.harts_finish fun _ _ h => h.hand)))))

/-! ## The dependence graph and the ready ring (R29 to R34, R40) -/

section
variable {α : Type} {v : Who} {g : Graph} {die n : Nat} {a : Answer}

theorem HartInv.unless (h : HartInv s) {absent : Bool} (ht : HartInv t) : (s.unless absent t).Keeps HartInv := HartInv.ite h ht
theorem HartInv.whenRuns (h : HartInv s) (ha : a.Keeps HartInv) : (s.whenRuns die a).Keeps HartInv := .ite ha h
theorem HartInv.record10 (h : HartInv s) {ctx detail : Nat} {c : Stop} : HartInv (s.record10 die ctx c detail) := h.logAll

theorem HartInv.unitOf (h : HartInv s) {ctx : Nat} {o : Option Who} (e : s.unitOf die ctx = (o, t)) : HartInv t := by
  unfold State.unitOf at e
  split at e
  next eq => cases e; exact h.ctxRoot eq
  next eq => cases e; exact h.ctxRoot eq

theorem HartInv.bumpAs (h : HartInv s) {x : Nat} {f : Nat → Nat} : (s.bumpAs v x n f).Keeps HartInv :=
  h.accessAs.bind fun _ _ h => h.loadAs.bind fun _ _ h => h.storeAs.bind fun _ _ h => h

theorem HartInv.signal (h : HartInv s) {x : Nat} {b : BitVec 8} : (s.signal v x b).Keeps HartInv := .ite h (h.bumpAs.bind fun _ _ h => h)

theorem HartInv.putGraph (h : HartInv s) : HartInv (s.putGraph g) := h
theorem HartInv.dropGraph (h : HartInv s) : HartInv (s.dropGraph n) := h
theorem HartInv.setRings (h : HartInv s) {l : List (Nat × Cap)} : HartInv { s with rings := l } := h

theorem HartInv.setCopies (h : HartInv s) {l : List Transfer} : HartInv (s.putDie { s.dieAt die with copies := l }) := h

theorem HartInv.readNode (h : HartInv s) : (s.readNode v g n).Keeps HartInv := h.loadWords.bind fun _ _ h => h

theorem HartInv.loadU32s (h : HartInv s) {x : Nat} : (s.loadU32s v x n).Keeps HartInv := by
  induction n generalizing s x with
  | zero => exact h
  | succ n ih => exact h.loadAs.bind fun _ _ h => (ih h).bind fun _ _ h => h

theorem HartInv.successors (h : HartInv s) {q : GNode} : (s.successors v q).Keeps HartInv :=
  .ite h (.ite h (h.loadAs.bind fun _ _ h => .ite h (h.loadU32s.bind fun _ _ h => h)))

theorem HartInv.setNode (h : HartInv s) {st : Nat} : (s.setNode v g n st).Keeps HartInv := h.loadAs.bind fun _ _ h => h.storeAs

theorem HartInv.checkNode (h : HartInv s) : (s.checkNode v g n).Keeps HartInv := by
  refine h.readNode.bind fun _ _ h => .ite h (h.successors.bind fun l _ h => ?_)
  cases l with
  | none => exact h
  | some l => exact h

theorem HartInv.checkNodes (h : HartInv s) {k : Nat} : (s.checkNodes v g k n).Keeps HartInv := by
  induction k generalizing s n with
  | zero => exact h
  | succ k ih =>
    unfold State.checkNodes
    split
    next eq => exact h.checkNode.wait eq
    next eq => exact h.checkNode.stop eq
    next eq =>
      have ht := h.checkNode.ok eq
      exact .ite ht ((ih ht).bind fun _ _ h => h)

theorem HartInv.makeReady (h : HartInv s) {at' : Nat} : (s.makeReady v g at' n).Keeps HartInv :=
  h.readNode.bind fun _ _ h => h.setNode.bind fun _ _ h => .ite h.push h.push

theorem HartInv.makeAllReady (h : HartInv s) {at' : Nat} {l : List Nat} : (s.makeAllReady v at' g l).Keeps HartInv := by
  induction l generalizing s g with
  | nil => exact h
  | cons n ns ih => exact h.makeReady.bind fun _ _ h => ih h

theorem HartInv.pushCompletion (h : HartInv s) : HartInv (s.pushCompletion g) := by
  refine .ite h.dropGraph ?_
  extract_lets fail
  have hfail (c : Stop) (s : State) (h : HartInv s) : HartInv (fail c s) := h.agentEvent.record10.dropGraph
  split
  next eq => exact hfail _ _ (h.unitOf eq)
  next s' eq =>
    have h := h.unitOf eq
    extract_lets x
    have hx : x.Keeps HartInv := Res.Keeps.harts_orNothing (h.presentTyped.bind fun _ _ h => h.ringPush.bind fun p _ h => by
      cases p with
      | none => exact h
      | some m => exact h.ringWake.bind fun _ _ h => h) h
    clear_value x
    split
    · exact HartInv.dropGraph hx
    · exact HartInv.putGraph hx
    · exact hfail _ _ hx
    · exact HartInv.putGraph hx

theorem HartInv.settleGraph (h : HartInv s) : HartInv (s.settleGraph g) := .ite h.pushCompletion h.putGraph

theorem HartInv.endNode (h : HartInv s) {node : Nat × Nat} {ok : Bool} : HartInv (s.endNode node ok) := by
  unfold State.endNode
  split
  · exact h
  · exact h.putGraph.push

theorem HartInv.popSlot (h : HartInv s) {c : Cap} : (s.popSlot v c).Keeps HartInv := by
  refine h.ringOpen.bind fun _ _ h => h.ringRd.bind fun _ _ h => h.ringPeek.bind fun x _ h => ?_
  split
  · exact h
  · exact .ite h (h.ringTake.bind fun _ _ h => h)

theorem HartInv.startGraph (h : HartInv s) {c : Cap} {slot : Nat} {pl : List Nat} : (s.startGraph die c slot pl).Gives HartInv := by
  unfold State.startGraph
  extract_lets field count g s1 all broken
  have h1 : HartInv s1 := h
  have hb (s : State) (n : Nat) (x : Option Stop) (h : HartInv s) : HartInv (broken s n x) := by
    cases x with
    | none => exact h.agentEvent.settleGraph
    | some c => exact h.agentEvent.record10.settleGraph
  clear_value field count g s1 all broken
  refine .ite ⟨h1.agentEvent.settleGraph, h1⟩ ?_
  split
  next eq => exact ⟨hb _ _ _ (h1.unitOf eq), h1.unitOf eq⟩
  next eq =>
    refine (h1.unitOf eq).checkNodes.bindGives fun x s h => ?_
    split
    · exact ⟨hb _ _ _ h, h⟩
    split
    next eq => exact ⟨(h.makeAllReady.ok eq).settleGraph, h.makeAllReady.ok eq⟩
    next eq => exact ⟨(h.makeAllReady.stop eq).record10.settleGraph, h.makeAllReady.stop eq⟩
    next eq => exact h.makeAllReady.wait eq

theorem HartInv.execGraphSubmissionPop (h : HartInv s) {ring : Nat} : (Machine.execGraphSubmissionPop ring s).Keeps HartInv := by
  unfold Machine.execGraphSubmissionPop
  split
  · exact h
  refine h.whenRuns ?_
  have hg {d : Nat} {c : Cap} : ((s.popSlot (unitWho d c.owner 0#64) c).bind fun r t =>
      match r with
      | none => Res.ok t t
      | some (slot, pl) => t.startGraph d c slot pl).Gives HartInv := h.popSlot.bindGives fun r _ h => by
    cases r with
    | none => exact ⟨h, h⟩
    | some p => exact h.startGraph
  split
  next eq => exact hg.ok eq
  next eq => exact h.keepAttempt
  next x t eq =>
    have hk : HartInv (s.keepAttempt t false) := h.keepAttempt
    exact hk.agentEvent.record10.setRings

theorem HartInv.nodeTransfer (h : HartInv s) {work : Nat} {node : Nat × Nat} : (s.nodeTransfer v work node).Keeps HartInv := by
  refine .ite h (h.loadWords.bind fun _ _ h => ?_)
  dsimp only
  split
  · exact .ite h h
  · exact .ite h h
  · exact .ite h (h.loadWords.bind fun _ _ h => .ite h (.ite h h))
  · exact h

theorem HartInv.postReady (h : HartInv s) {node image ctx : Nat} : HartInv (s.postReady die node image ctx) :=
  h.putDie.setPendingBit

theorem HartInv.startNode (h : HartInv s) : (s.startNode v g n die).Gives HartInv := by
  refine h.readNode.bindGives fun q s h => ?_
  split
  · split
    · exact ⟨h.postEvent.putGraph, h⟩
    · exact ⟨h.push, h⟩
  · refine h.setNode.bindGives fun _ s h => ?_
    have hn := h.nodeTransfer (v := v) (work := q.work) (node := (g.n, n))
    dsimp only
    split
    next eq =>
      have hu := hn.ok eq
      exact ⟨hu.putGraph.setCopies.push, hu.putGraph⟩
    · exact ⟨h.putGraph.endNode, h.putGraph⟩
    · exact ⟨h.putGraph.record10.endNode, h.putGraph⟩
    next eq => exact ⟨(hn.stop eq).putGraph.record10.endNode, hn.stop eq⟩
    next eq => exact hn.wait eq
  · exact h.setNode.bindGives fun _ _ h => ⟨h.putGraph.endNode, h⟩
  · exact h.setNode.bindGives fun _ _ h => ⟨h.putGraph.postEvent, h⟩

theorem HartInv.walkNode (h : HartInv s) {f : State → Who → Res State} (hf : ∀ v t, HartInv t → (f t v).Gives HartInv) :
    HartInv (s.walkNode g n die f) := by
  unfold State.walkNode
  extract_lets fail
  have hfail (c : Stop) (t : State) : HartInv (fail c t) := h.keepAttempt.record10.putGraph.endNode
  split
  · exact hfail _ _
  next v t eq =>
    have hg := hf v t (h.unitOf eq)
    split
    next eq => exact hg.ok eq
    · exact hfail _ _
    · exact h.keepAttempt

theorem HartInv.execNodeStart (h : HartInv s) {i : Nat} : (Machine.execNodeStart i n s).Keeps HartInv := by
  unfold Machine.execNodeStart
  split
  · exact h
  split
  · exact h
  · exact h.whenRuns (h.walkNode fun _ _ h => h.startNode)

theorem HartInv.execReadyRingPost (h : HartInv s) {i : Nat} : (Machine.execReadyRingPost i n s).Keeps HartInv := by
  unfold Machine.execReadyRingPost
  split
  · exact h
  split
  · exact h
  · exact h.whenRuns (h.walkNode fun _ _ h => h.readNode.bindGives fun _ _ h => .ite ⟨h, h⟩ ⟨h.postReady.putGraph, h⟩)

theorem HartInv.execRemoteSuccessorReady (h : HartInv s) {i : Nat} : (Machine.execRemoteSuccessorReady i n s).Keeps HartInv := by
  unfold Machine.execRemoteSuccessorReady
  split
  · exact h
  split
  · exact h
  · exact h.whenRuns h.putGraph.push

theorem HartInv.decrement (h : HartInv s) {l : List Nat} : (s.decrement v die g l).Keeps HartInv := by
  induction l generalizing s g with
  | nil => exact h
  | cons i l ih =>
    exact h.bumpAs.bind fun _ _ h => .ite ((ih h).bind fun _ _ h => h)
      (.ite (h.readNode.bind fun _ _ h => .ite (ih h) (h.makeReady.bind fun _ _ h => ih h)) (ih h))

theorem HartInv.finishNode (h : HartInv s) : (s.finishNode v g n die).Gives HartInv := by
  refine h.readNode.bindGives fun q s h => ?_
  refine Res.Keeps.bindGives (P := HartInv) ?_ fun bad s h => h.setNode.bindGives fun _ s h => h.successors.bindGives fun l s h =>
    h.decrement.bindGives fun x s h =>
      ⟨HartInv.settleGraph (HartInv.foldl ?_ fun _ _ h => h.agentEvent), HartInv.foldl ?_ fun _ _ h => h.agentEvent⟩
  · have hs := h.signal (v := v) (x := q.sigaddr) (b := q.sigval)
    split
    next eq => exact hs.ok eq
    next eq => exact hs.stop eq
    next eq => exact hs.wait eq
  all_goals
    cases bad with
    | none => exact h
    | some c => exact h.record10

theorem HartInv.cancel (h : HartInv s) {f : Nat} {seen l : List Nat} : (s.cancel v f g seen l).Keeps HartInv := by
  induction f generalizing s g seen l with
  | zero => exact h
  | succ f ih =>
    cases l with
    | nil => exact h
    | cons i l =>
      exact .ite (ih h) (h.readNode.bind fun _ _ h => .ite (h.successors.bind fun _ _ h => ih h) (.ite (ih h)
        (h.setNode.bind fun _ _ h => h.successors.bind fun _ _ h => ih h)))

theorem HartInv.failNode (h : HartInv s) : (s.failNode v g n).Gives HartInv :=
  h.readNode.bindGives fun _ _ h => h.setNode.bindGives fun _ _ h => h.successors.bindGives fun _ _ h =>
    h.cancel.bindGives fun _ _ h => ⟨h.settleGraph, h⟩

theorem HartInv.loseNode (h : HartInv s) {c : Stop} : HartInv (s.loseNode g n die c) := h.record10.settleGraph

theorem HartInv.execNodeFinish (h : HartInv s) {i : Nat} : (Machine.execNodeFinish i n s).Keeps HartInv := by
  unfold Machine.execNodeFinish
  split
  · exact h
  split
  · exact h
  refine h.whenRuns ?_
  split
  next eq => exact (h.unitOf eq).loseNode
  next eq =>
    have ht := h.unitOf eq
    split
    next eq => exact Res.Gives.ok (.ite ht.finishNode ht.failNode) eq
    · exact h.keepAttempt.loseNode
    · exact h.keepAttempt

theorem HartInv.execCompletionPushRetry (h : HartInv s) {i : Nat} : (Machine.execCompletionPushRetry i s).Keeps HartInv := by
  unfold Machine.execCompletionPushRetry
  split
  · exact h
  · exact h.whenRuns (HartInv.ite h.pushCompletion h)

theorem HartInv.copyNodeChunk (h : HartInv s) {i : Nat} : HartInv (s.copyNodeChunk die i).1 := by
  unfold State.copyNodeChunk
  extract_lets d out
  split
  · exact h
  next x _ =>
    have hc := h.chunk (w := { unitWho die x.ctx x.pgroot with engine := true }) (x := { x with started := true })
    extract_lets node w
    have hout (s : State) (h : HartInv s) : HartInv (out s) := h.setCopies
    split
    next eq => exact (hc.ok eq).setCopies
    next eq => exact (hout _ (hc.ok eq)).endNode
    next eq => exact (hout _ (hc.stop eq)).record10.endNode
    next eq => exact hc.wait eq

theorem HartInv.copyNodeAll (h : HartInv s) {i : Nat} : HartInv (s.copyNodeAll die i n) := by
  induction n generalizing s with
  | zero => exact h
  | succ n ih => exact .ite (ih h.copyNodeChunk) h.copyNodeChunk

end
end

section
variable {s t : State} {r : Row} {w : BitVec 64} {len n : Nat}

/-! ## Integers, branches, loads and stores, atomics (R103 to R108, R113 to R115) -/

theorem HartInv.divide (h : HartInv s) {o : OpDAB} {f : Nat → Nat → Nat → Nat × Flags} : (s.divide r w o f).Keeps HartInv :=
  h.scalar fun _ h => h.fpWrite

theorem HartInv.branch (h : HartInv s) {c : Hart → Bool} {off : Word} : (s.branch r w len c off).Keeps HartInv :=
  h.scalar fun _ h => .ite h.retireTo h.retire

theorem HartInv.load (h : HartInv s) {d : Reg} {addr : Hart → Word} {f : Nat → Word} : (s.load r w len d addr n f).Keeps HartInv :=
  h.scalar fun _ h => h.onceFree (h.loadRaw.harts_finish fun _ _ h => h.writeX)

theorem HartInv.store (h : HartInv s) {addr : Hart → Word} {src : Reg} : (s.store r w len addr n src).Keeps HartInv :=
  h.scalar fun _ h => h.onceFree (h.storeRaw.harts_finish fun _ _ h => h.retire)

theorem HartInv.modify (h : HartInv s) {a : Nat} {f : Nat → Option Nat} : (s.modify a n f).Keeps HartInv := by
  refine h.access.bind fun p s h => Res.Keeps.bind (P := HartInv) ?_ fun _ s h => ?_
  · cases p with
    | phys pa leaf => exact h.dataCheck
    | pad off => exact h
  · dsimp only
    split
    · exact h.readPlace.placeAs
    · exact h.readPlace.writePlace.placeAs

theorem HartInv.amo (h : HartInv s) {o : OpDABO} {f : BitVec (8 * n) → BitVec (8 * n) → BitVec (8 * n)} : (s.amo r w o n f).Keeps HartInv :=
  h.scalar fun _ h => h.afterRelease (h.onceFree (h.modify.harts_finish fun _ _ h => h.writeX))

/-! ## Queue instructions (R119 to R124) -/

theorem HartInv.withCap (h : HartInv s) {a : Reg} {need : List Right} {k : Cap → State → Answer}
    (hk : ∀ c s, HartInv s → (k c s).Keeps HartInv) : (s.withCap r w a need k).Keeps HartInv :=
  h.scalar fun _ h => h.onceFree (h.presentCap.harts_finish hk)

theorem HartInv.execQpush (h : HartInv s) {o : OpDAB} : (Machine.execQpush o s).Keeps HartInv :=
  h.withCap fun _ _ h => h.onceFree (h.loadWords.harts_finish fun _ _ h => h.afterRelease (h.ringPush.harts_finish fun _ _ h => h.writeX))

theorem HartInv.popRing (h : HartInv s) {o : OpDAB} {take : Bool} : (s.popRing r w o take).Keeps HartInv := by
  refine h.withCap fun _ _ h => .ite h.raise (h.onceFree (Res.Keeps.harts_finish (Res.Keeps.harts_orNothing ?_ h) fun _ _ h => h.writeX))
  refine h.ringOpen.bind fun _ _ h => h.ringPeek.bind fun q _ h => ?_
  split
  · exact h.onHart rfl
  · exact h.storeWords.bind fun _ _ h => .ite (h.ringTake.bind fun _ _ h => h) h

theorem HartInv.execQseal (h : HartInv s) {o : OpDA} : (Machine.execQseal o s).Keeps HartInv :=
  .ite h.raise (h.scalar fun _ h => h.onceFree (h.readCap.harts_finish fun _ _ h =>
    .ite (h.storeRaw.harts_finish fun _ _ h => h.writeX) h.raise))

theorem HartInv.raiseFloor (h : HartInv s) {ctx : Nat} : HartInv (s.raiseFloor ctx n) := .ite h h

theorem HartInv.execNsub (h : HartInv s) {o : OpDAB} : (Machine.execNsub o s).Keeps HartInv := by
  refine h.withCap fun _ _ h => .ite h.raise (h.onceFree (h.loadWords.harts_finish fun _ _ h => .ite h.raise (h.afterRelease ?_)))
  refine Res.Keeps.harts_finish (Res.Keeps.harts_orNothing (h.ringPush.bind fun p _ h => ?_) h) fun _ _ h => h.writeX
  cases p with
  | none => exact h
  | some m => exact h.ringWake.bind fun _ _ h => h

/-! ## Synchronisation (R302 to R311) -/

theorem HartInv.stay (h : HartInv s) : HartInv s.stay := (h.onHart rfl).idleWork

theorem HartInv.asyncTrap (h : HartInv s) : HartInv s.asyncTrap := by
  refine .ite ?_ h.stay
  split
  · exact (h.onHart (Hart.modes_dropAsync _)).takeTrap
  · exact h.stay

theorem HartInv.execFence (h : HartInv s) {o : OpSK} : (Machine.execFence o s).Keeps HartInv :=
  h.scalar fun _ h => .ite h.retire (.ite (h.afterRelease h.retire)
    (.ite (.ite h.retire h.waitOlder) (.ite h.retire (h.onHart rfl).retire)))

theorem HartInv.execArrive (h : HartInv s) {o : OpDAB} : (Machine.execArrive o s).Keeps HartInv :=
  h.scalar fun _ h => h.onceFree (h.access.harts_finish fun _ _ h => h.afterRelease
    (h.modify.harts_finish fun _ _ h => .ite h.raise h.writeX))

theorem HartInv.gangBarrier (h : HartInv s) {d : Reg} {release : Bool} : (s.gangBarrier r w d release).Keeps HartInv := by
  refine h.scalar fun s h => ?_
  split
  · exact h.raise
  · split
    · exact h.afterRelease (.ite h.putJob.writeX (h.putJob.onHart rfl).stay)
    · exact .ite (h.onHart rfl).writeX h.asyncTrap

/-! ## System instructions -/

theorem HartInv.setTurns (h : HartInv s) {l : List Turn} : HartInv { s with turns := l } := h

theorem HartInv.presentAt (h : HartInv s) {a : Nat} : (s.presentAt a).Keeps HartInv := by
  refine .ite h ?_
  split
  next eq => exact h.translate eq
  next eq => exact h.translate eq
  next eq => exact (h.translate eq).dataStop
  next eq => exact (h.translate eq).movedCheck.bind fun _ _ h => h

theorem HartInv.cleanPages (h : HartInv s) {drop : Bool} {l : List (Nat × Nat)} : (s.cleanPages drop l).Keeps HartInv := by
  induction l generalizing s with
  | nil => exact h
  | cons p l ih =>
    refine h.presentAt.bind fun p _ h => ?_
    cases p with
    | none => exact ih h
    | some q => exact h.mergeLines.bind fun _ _ h => ih (.ite h.putStable.setCoh h.setCoh)

theorem HartInv.cleanRange (h : HartInv s) {o : OpAB} {drop : Bool} : (s.cleanRange r w o drop).Keeps HartInv := by
  refine h.scalar fun s h => ?_
  dsimp only
  split
  · exact h.raise
  · exact .ite h.retire (h.onceFree (.ite h.retire (h.cleanPages.harts_finish fun _ _ h => h.retire)))

theorem HartInv.setPins (h : HartInv s) {l : List Pin} : HartInv { s with pins := l } := h

theorem HartInv.pinLines (h : HartInv s) {l acc : Nat} : HartInv (s.pinLines n l acc).2 := by
  induction n generalizing s l acc with
  | zero => exact h
  | succ n ih =>
    unfold State.pinLines
    have hp := h.presentAt (a := l * 128)
    dsimp only
    split
    next eq => exact ih (hp.stop eq)
    next eq => exact ih (hp.wait eq)
    next eq => exact ih (hp.ok eq)
    next t eq =>
      have ht : HartInv t := hp.ok eq
      split
      · exact ih ht
      split
      · exact ih (HartInv.ite ht ht.readLines).setPins
      · exact ih ht

theorem HartInv.unpinLines (h : HartInv s) {l acc : Nat} : HartInv (s.unpinLines n l acc).2 := by
  induction n generalizing s l acc with
  | zero => exact h
  | succ n ih =>
    unfold State.unpinLines
    have hp := h.presentAt (a := l * 128)
    dsimp only
    split
    next eq => exact ih (hp.stop eq)
    next eq => exact ih (hp.wait eq)
    next eq => exact ih (hp.ok eq)
    next t eq =>
      have ht : HartInv t := hp.ok eq
      split
      · exact ih ht.setPins
      · exact ih ht

theorem HartInv.pinRange (h : HartInv s) {o : OpDAB} {f : State → Nat → Nat → Nat × State}
    (hf : ∀ s n l, HartInv s → HartInv (f s n l).2) :
    (s.pinRange r w o f).Keeps HartInv := by
  refine h.scalar fun s h => ?_
  dsimp only
  split
  · exact h.raise
  · exact .ite h.writeX (hf _ _ _ h).writeX

theorem HartInv.invalidate (h : HartInv s) {ctx : Nat} {va : Word} : HartInv (s.invalidate ctx va) := by
  unfold State.invalidate
  extract_lets gone pinGone t again
  have ht : HartInv t := h
  exact (ht.mapHarts fun _ => by rfl).foldl fun _ _ h => .ite h h.portAgain

theorem HartInv.drainHarts (h : HartInv s) {ids : List Nat} : HartInv (s.drainHarts ids) :=
  (h.foldl fun _ _ h => h.focusOn.drainWork).focusOn

theorem HartInv.execTlbinv (h : HartInv s) {o : OpAB} : (Machine.execTlbinv o s).Keeps HartInv := by
  refine h.scalar fun s h => .ite h.raise (h.afterRelease ?_)
  split
  · exact h.invalidate.retire
  · exact h.drainHarts

theorem HartInv.setStables (h : HartInv s) {l : List Stable} : HartInv { s with stables := l } := h

theorem HartInv.storeRun (h : HartInv s) {a : Nat} {l : List Nat} : (s.storeRun a l).Keeps HartInv := by
  induction l generalizing s a with
  | nil => exact h
  | cons v vs ih => exact h.storeRaw.bind fun _ _ h => ih h

theorem HartInv.loadRun (h : HartInv s) {a : Nat} : (s.loadRun a n).Keeps HartInv := by
  induction n generalizing s a with
  | zero => exact h
  | succ n ih => exact h.loadRaw.bind fun _ _ h => (ih h).bind fun _ _ h => h

theorem HartInv.execVqsave (h : HartInv s) {o : OpA} : (Machine.execVqsave o s).Keeps HartInv := by
  refine h.scalar fun s h => ?_
  dsimp only
  split
  · exact h.raise
  · exact .ite h.waitOlder (h.storeRun.harts_finish fun _ _ h => h.retire)

theorem HartInv.execVqload (h : HartInv s) {o : OpA} : (Machine.execVqload o s).Keeps HartInv := by
  refine h.scalar fun s h => ?_
  dsimp only
  split
  · exact h.raise
  refine h.onceFree (h.loadRun.harts_finish fun _ s h => ?_)
  split
  · exact h.raise
  · exact (h.onHart (Hart.modes_of_status rfl fun _ hlo => bits_setBits_above _ 1 hlo (by decide))).retire

theorem HartInv.trapReturn (h : HartInv s) : HartInv s.trapReturn := by
  unfold State.trapReturn
  extract_lets t resumed q
  have ht : HartInv t := h.onHartTo Hart.legal_leaveTrap
  have hr (s : State) (h : HartInv s) : HartInv (resumed s) := .ite h.resumeTransfers h
  refine .ite (hr _ (ht.onHart (by split <;> rfl))) (.ite ht.takeTrap (.ite ht.takeTrap ?_))
  cases q with
  | nil => exact hr _ (ht.onHart (Hart.modes_replay _))
  | cons e q => exact .ite ht.takeTrap (hr _ (ht.onHart (Hart.modes_replay _)))

end

section
variable {s t : State} {v : Who} {die n : Nat} {j : Job}

/-! ## Launches, admission and completion (R8 to R16, R38, R39, R54, R117, R363) -/

theorem HartInv.createContext (h : HartInv s) {ctx : Nat} : HartInv (s.createContext ctx) := .ite h h

theorem HartInv.usableEntry (h : HartInv s) {ctx : Nat} : HartInv (s.usableEntry die ctx).2.2 := by
  unfold State.usableEntry
  split
  · exact h
  next pa _ =>
    have hr := h.entryRead (die := die) (ctx := ctx) (pa := pa) (n := 128)
    split
    next eq => rw [eq] at hr; exact hr
    next eq => rw [eq] at hr; exact .ite (HartInv.createContext hr) hr

theorem HartInv.setRequest (h : HartInv s) {host busy : Bool} {result : Nat} : HartInv (s.setRequest host n busy result) := by
  unfold State.setRequest
  extract_lets w
  exact .ite h.putPort h.putDie

theorem HartInv.setTaken (h : HartInv s) {l : List TakenLaunch} : HartInv { s with taken := l } := h
theorem HartInv.setPending (h : HartInv s) {l : List Nat} : HartInv { s with pending := l } := h

theorem HartInv.takeRequest (h : HartInv s) {host : Bool} : HartInv (s.takeRequest host n).2 := h.usableEntry.setTaken

theorem HartInv.requestNode (h : HartInv s) {r : Request} {root : Option Word} : (s.requestNode r root).Keeps HartInv := by
  refine .ite h ?_
  split
  · exact h
  split
  next g root _ _ =>
    split
    next eq => exact h.readNode.ok eq
    next eq => exact h.readNode.stop eq
    next eq => exact h.readNode.wait eq
  · exact h

theorem HartInv.admitOne (h : HartInv s) {k image : Nat} {root : Word} {d : Header} {e : List Word} {node : Option (Nat × Nat)} {m c : Nat}
    (hd : d.bad m c = false) : HartInv (s.admitOne k image root d e node) := by
  unfold State.admitOne
  extract_lets gang cores live before s1 job s2 s3
  have h2 : HartInv s2 := h
  have h3 : HartInv s3 := h2.foldl fun _ _ h => h.putHart (Hart.legal_launched hd rfl)
  exact h3.retarget.dealFree.moveBanks.push

theorem HartInv.readRegs (h : HartInv s) {image size : Nat} {l : List (Nat × Nat)} : (s.readRegs v image size l).Keeps HartInv := by
  induction l generalizing s with
  | nil => exact h
  | cons p l ih => exact h.loadBytes.bind fun _ _ h => (ih h).bind fun _ _ h => h

theorem HartInv.readImage (h : HartInv s) {image vcode : Nat} {xd vd : BitVec 32} {kd : BitVec 8} {zd : BitVec 2} :
    (s.readImage v image vcode xd vd kd zd).Keeps HartInv :=
  h.readRegs.bind fun _ _ h => h.readRegs.bind fun _ _ h => h.readRegs.bind fun _ _ h => h.readRegs.bind fun _ _ h => h

theorem HartInv.badImageReport (h : HartInv s) {ctx image : Nat} {node : Option (Nat × Nat)} :
    HartInv (s.badImageReport die ctx image node) := by
  cases node with
  | none => exact h.agentEvent
  | some p => exact h.agentEvent.endNode

theorem HartInv.tryAdmit (h : HartInv s) {r : Request} {node : Option (Nat × Nat)} {root : Word} {d : Header} {e : List Word}
    {m c : Nat} (hd : d.bad m c = false) : (s.tryAdmit r node root d e).Keeps HartInv := by
  refine .ite h ?_
  split
  · exact h.admitOne hd
  split
  · exact h.admitOne hd
  next g _ =>
    split
    next eq => exact h.setNode.wait eq
    next eq => exact h.setNode.stop eq
    next eq => exact HartInv.admitOne (HartInv.putGraph (h.setNode.ok eq)) hd

theorem HartInv.offerImage (h : HartInv s) {r : Request} {node : Option (Nat × Nat)} {entry : Option (List Word)} :
    (s.offerImage r node entry).Keeps HartInv := by
  unfold State.offerImage
  split
  · exact h.badImageReport
  refine .ite h.badImageReport ?_
  split
  next eq => exact h.loadWords.wait eq
  next eq => exact HartInv.badImageReport (h.loadWords.stop eq)
  next eq =>
    have h := h.loadWords.ok eq
    dsimp only
    split
    · exact HartInv.badImageReport h
    next hd =>
      split
      next eq => exact (HartInv.readImage h).wait eq
      next eq => exact HartInv.badImageReport ((HartInv.readImage h).stop eq)
      next eq => exact HartInv.tryAdmit ((HartInv.readImage h).ok eq) (Bool.eq_false_iff.mpr hd)

theorem HartInv.endRequest (h : HartInv s) {host : Bool} {result : Nat} : HartInv (s.endRequest host n result) := h.setRequest.setTaken

theorem HartInv.serveRequest (h : HartInv s) {q : TakenLaunch} : (s.serveRequest q).Keeps HartInv := by
  have hq : ((s.requestNode (requestFrom q.host q.n q.words) q.root).bind fun p t =>
      match p with
      | none => Res.ok 3 t
      | some node => t.offerImage (requestFrom q.host q.n q.words) node q.entry).Keeps HartInv := h.requestNode.bind fun p _ h => by
    cases p with
    | none => exact h
    | some p => exact h.offerImage
  unfold State.serveRequest
  dsimp only
  split
  next eq => exact HartInv.endRequest (hq.ok eq)
  next eq => exact HartInv.endRequest (hq.stop eq)
  next eq => exact h.keepAttempt

theorem HartInv.execLaunchRequestGo (h : HartInv s) {host : Bool} : (Machine.execLaunchRequestGo host n s).Keeps HartInv := by
  refine .ite h ?_
  split
  · exact h.whenRuns h.serveRequest
  · exact .ite h.logPort (h.whenRuns (.ite h.setRequest h.setRequest.takeRequest.serveRequest))

theorem HartInv.dropJob (h : HartInv s) : HartInv (s.dropJob j) := by
  unfold State.dropJob
  extract_lets s1 s2
  have h1 : HartInv s1 := h.foldl fun _ _ h => h.freeHart
  have h2 : HartInv s2 := h1
  exact h2.retireClusters.retarget.dealFree

theorem HartInv.freshCode (h : HartInv s) : HartInv (s.freshCode n) := .ite h h.putStable

theorem HartInv.loadHart (h : HartInv s) {id : Nat} {xs vs ks zs : List (Nat × Nat)} :
    HartInv (s.onHartId id fun h => { h.loadRegs xs vs ks zs with run := .running }) :=
  h.onHartId fun _ => (Hart.modes_run _).trans (Hart.modes_loadRegs ..)

theorem HartInv.execAdmissionGranted (h : HartInv s) : (Machine.execAdmissionGranted n s).Keeps HartInv := by
  unfold Machine.execAdmissionGranted
  split
  · exact h
  split
  · exact h
  next j _ =>
    refine h.whenRuns (.ite h ?_)
    have hi := h.readImage (v := unitWho (j.stable / 48) j.ctx j.pgroot) (image := j.image) (vcode := j.vcode) (xd := j.xdecl)
      (vd := j.vdecl) (kd := j.kdecl) (zd := j.zdecl)
    dsimp only
    split
    next eq => exact h.keepAttempt
    next eq => exact HartInv.dropJob (HartInv.badImageReport (hi.stop eq))
    next eq => exact HartInv.setPending (HartInv.foldl (HartInv.freshCode (hi.ok eq)) fun _ _ h => h.loadHart)

theorem HartInv.execHartHaltComplete (h : HartInv s) : (Machine.execHartHaltComplete n s).Keeps HartInv := by
  refine .ite h ?_
  split
  · exact h
  split
  · exact h
  split
  · exact h
  · refine h.whenRuns (.ite h ?_)
    extract_lets ms k t
    have ht : HartInv t := h.putJob.retarget.boundary
    exact HartInv.ite ht.push ht

theorem HartInv.storeRegs (h : HartInv s) {base size : Nat} {val : Nat → Nat} {l : List (Nat × Nat)} :
    (s.storeRegs v base size val l).Keeps HartInv := by
  induction l generalizing s with
  | nil => exact h
  | cons p l ih => exact h.storeBytes.bind fun _ _ h => ih h

theorem HartInv.spillHart (h : HartInv s) {base : Nat} {g : Hart} : (s.spillHart v j base g).Keeps HartInv :=
  h.storeRegs.bind fun _ _ h => h.storeRegs.bind fun _ _ h => h.storeRegs.bind fun _ _ h => h.storeRegs

theorem HartInv.spillAll (h : HartInv s) {size : Nat} {l : List Member} : (s.spillAll v j size l).Keeps HartInv := by
  induction l generalizing s with
  | nil => exact h
  | cons m l ih => exact .ite (ih h) (h.spillHart.bind fun _ _ h => ih h)

theorem HartInv.execJobComplete (h : HartInv s) : (Machine.execJobComplete n s).Keeps HartInv := by
  unfold Machine.execJobComplete
  split
  · exact h
  next k _ =>
    refine h.whenRuns (.ite h ?_)
    extract_lets w fin
    have hfin (ok : Bool) (t : State) (h : HartInv t) : HartInv (fin ok t) := by
      refine HartInv.retryPending (HartInv.dropJob ?_)
      cases k.node with
      | none => exact h
      | some p => exact h.endNode
    have hs {size : Nat} := (h.spillAll (v := w) (j := k) (size := size) (l := k.members)).bind fun _ _ h =>
      h.signal (v := w) (x := k.sigaddr) (b := k.sigval)
    split
    split
    next eq => exact hfin _ _ (hs.ok eq)
    next eq => exact h.keepAttempt
    next eq => exact hfin _ _ (HartInv.record10 (hs.stop eq))

theorem HartInv.endHart (h : HartInv s) {id : Nat} : HartInv (s.endHart id) := by
  unfold State.endHart
  exact HartInv.focusOn (.ite (HartInv.onHart (.ite h.focusOn.settle.dropRecursion h.focusOn.settle.saveRecursion) rfl) h.focusOn)

theorem HartInv.execJobEndByRecovery (h : HartInv s) : (Machine.execJobEndByRecovery n s).Keeps HartInv := by
  unfold Machine.execJobEndByRecovery
  split
  · exact h
  next k _ =>
    refine h.whenRuns ?_
    extract_lets ids s1 busy r t1 t2 t3 t4 s2 w fin
    have h1 : HartInv s1 := h.foldl fun _ _ h => h.endHart
    refine .ite h1.drainHarts.push ?_
    have h2 : HartInv t2 := h1.logAll.foldl fun _ _ h => h.freeHart
    have h3 : HartInv t3 := h2.putJob
    have hs2 : HartInv s2 := .ite h1 h3.setPending.retireClusters.retarget.dealFree
    have hfin (t : State) (h : HartInv t) : HartInv (fin t) := by
      have hd : HartInv { t with jobs := dropBy (fun q : Job => q.gang == n) t.jobs } := h
      refine HartInv.retryPending ?_
      split
      · exact hd.endNode
      · exact hd
    have hs := hs2.signal (v := w) (x := k.sigaddr) (b := k.sigval)
    split
    next eq => exact hfin _ (hs.ok eq)
    next eq => exact hs2.keepAttempt
    next eq => exact hfin _ (HartInv.record10 (hs.stop eq))

end

section
variable {s t : State} {die line n : Nat} {q : LineReq}

/-! ## Directories, homes and the host (R315 to R324) -/

theorem HartInv.leaveCache (h : HartInv s) {agent : Nat} : HartInv (s.leaveCache die agent line) := h.setCoh
theorem HartInv.recallDie (h : HartInv s) : HartInv (s.recallDie die line) := h.setCoh
theorem HartInv.leaveU (h : HartInv s) : HartInv (s.leaveU line).2 := h.evictU

theorem HartInv.seat (h : HartInv s) {agent : Option Nat} {st : LineState} : HartInv (s.seat die agent line st) := by
  unfold State.seat
  extract_lets s1 c s2
  have h2 : HartInv s2 := h.makeWay
  split
  · exact h2
  · exact (HartInv.makeWay h2).setCoh

theorem HartInv.dirSettle (h : HartInv s) : HartInv (s.dirSettle die line) := by
  unfold State.dirSettle
  extract_lets e
  split
  · exact h
  · exact .ite h h.putDir.seat.push

theorem HartInv.notePerm (h : HartInv s) {e : HomeEntry} : HartInv (s.notePerm q e) := h.putDir
theorem HartInv.openU (h : HartInv s) {op : Nat} : HartInv (s.openU line op) := .ite h h

theorem HartInv.hostAccess (h : HartInv s) {port addr : Nat} {write : Bool} {value : Word} : HartInv (s.hostAccess port addr write value) := by
  unfold State.hostAccess
  split
  · exact h.contain
  · exact .ite h.physWrite h.physRead.putPort

theorem HartInv.hostDone (h : HartInv s) {port : Nat} : HartInv (s.hostDone port) := h.portAgain

theorem HartInv.hostPerform (h : HartInv s) {port : Nat} : HartInv (s.hostPerform port) := by
  unfold State.hostPerform
  split
  · exact h.hostAccess.hostDone
  · exact h

theorem HartInv.dropRequest (h : HartInv s) : HartInv (s.dropRequest q) := .ite h h.hostDone

theorem HartInv.homeGrant (h : HartInv s) : HartInv (s.homeGrant q) := by
  unfold State.homeGrant
  extract_lets e e' c s1
  have h1 : HartInv s1 := h
  exact .ite (HartInv.ite h1.putHome.openU h1.putHome).notePerm.seat.dirSettle h1.putHome.hostPerform.putHome

theorem HartInv.backInvalidate (h : HartInv s) : HartInv (s.backInvalidate line) := .ite h.leaveU h.leaveU.putHome

theorem HartInv.homeServe (h : HartInv s) : HartInv (s.homeServe q) := by
  have hl : HartInv (if (s.homeAt q.line).state = .u then s.leaveU q.line else (true, s)).2 := .snd_ite h.leaveU h
  exact .ite h.homeGrant (.ite hl.dropRequest (.ite hl.putHome.homeGrant hl.putHome))

theorem HartInv.homeRequest (h : HartInv s) : HartInv (s.homeRequest q) := by
  refine .ite h.dropRequest ?_
  split
  · exact h.putHome
  split
  · exact h.homeServe
  · exact .ite (HartInv.ite h h.backInvalidate).putHome (HartInv.ite h h.backInvalidate).homeServe

theorem HartInv.homeSettle (h : HartInv s) : HartInv (s.homeSettle line) := by
  unfold State.homeSettle
  extract_lets e
  split
  · exact h
  next g _ =>
    have hl : HartInv (if e.state = .u ∧ g.req.kind ≠ e.op + 2 then (s.putHome { e with ask := none, rest := [] }).leaveU line
        else (true, s.putHome { e with ask := none, rest := [] })).2 := .snd_ite h.putHome.leaveU h.putHome
    exact .ite h (HartInv.foldl (.ite h.putHome (.ite hl.homeGrant hl.dropRequest)) fun _ _ h => h.homeRequest)

theorem HartInv.askAgain (h : HartInv s) : HartInv (s.askAgain die line) := by
  unfold State.askAgain
  extract_lets e
  split
  · exact .ite h h.homeRequest
  · exact h

theorem HartInv.recallSettle (h : HartInv s) : HartInv (s.recallSettle die line) := by
  unfold State.recallSettle
  split
  · exact h
  refine .ite h (HartInv.askAgain ?_)
  dsimp only
  split
  · exact .ite h.recallDie.putDir h.recallDie.putDir.putHome.homeSettle
  · exact h.recallDie.putDir

theorem HartInv.startRecall (h : HartInv s) {kind : Nat} : HartInv (s.startRecall die line kind) := .ite h h.putDir.recallSettle

theorem HartInv.dirRequest (h : HartInv s) : HartInv (s.dirRequest die q) := by
  refine .ite h (.ite h.putDir ?_)
  have hl : HartInv (if (s.dirAt die q.line).st = 4 ∧ q.kind ≠ (s.dirAt die q.line).op + 2 then s.leaveU q.line else (true, s)).2 :=
    .snd_ite h.leaveU h
  refine .ite hl ?_
  dsimp only
  split
  · exact .ite hl.putDir.askAgain.dirSettle hl.putDir.askAgain.putDir
  · exact hl.putDir.askAgain

theorem HartInv.onAgent (h : HartInv s) {agent : Nat} (ht : HartInv t) : (s.onAgent die agent line t).Keeps HartInv := h.unless ht

theorem HartInv.execInvalidation (h : HartInv s) {agent : Nat} : (Machine.execInvalidation die agent line s).Keeps HartInv := by
  refine h.onAgent (.ite ?_ (.ite h.putDir.leaveCache h))
  split
  · exact .ite h.startRecall h
  · exact h

theorem HartInv.dieEvicts (h : HartInv s) : HartInv (s.dieEvicts die line) := .ite h.recallDie h.recallDie.putHome.homeSettle

theorem HartInv.agentEvicts (h : HartInv s) {agent : Nat} : HartInv (s.agentEvicts die agent line) :=
  .ite h.leaveCache h.setCoh.putDir.dirSettle

theorem HartInv.execEvictionNotice (h : HartInv s) {agent : Nat} : (Machine.execEvictionNotice die agent line s).Keeps HartInv := by
  have hl : HartInv (if s.heldInU die agent line then s.leaveU line else (true, s)).2 := .snd_ite h.leaveU h
  exact h.onAgent (.ite h (.ite hl (.ite hl.dieEvicts hl.agentEvicts)))

theorem HartInv.snooped (h : HartInv s) : HartInv (s.snooped die line) := h.setCoh.putDir.putHome

theorem HartInv.execForwardSnoop (h : HartInv s) {agent : Nat} : (Machine.execForwardSnoop die agent line s).Keeps HartInv := by
  refine h.onAgent (.ite ?_ ?_)
  · dsimp only
    split
    · exact .ite h (.ite h.snooped.homeSettle.askAgain (.ite h.startRecall h))
    · exact h
  · split
    · exact .ite h h.setCoh.putDir.dirSettle
    · exact h

theorem HartInv.portGone (h : HartInv s) {port : Nat} : HartInv (s.portGone port line) := h.putHome.homeSettle

theorem HartInv.portAnswered (h : HartInv s) {port : Nat} : HartInv (s.portAnswered port line) := by
  unfold State.portAnswered
  extract_lets e
  split
  · exact .ite h.portGone (.ite h.putHome.homeSettle h)
  · exact h.portGone

theorem HartInv.execHostCxlRequest (h : HartInv s) {port addr : Nat} {write : Bool} {value : Word} :
    (Machine.execHostCxlRequest port write addr value s).Keeps HartInv := by
  have hd : HartInv (s.putDie ((s.dieAt (homeDie (addr / 128))).record (addr / 128) port write)) := h
  exact .ite h (.ite h (.ite (HartInv.ite h.logPort h.putPort) (.ite h.putPort (.ite hd.hostAccess h.putPort.homeRequest))))

theorem HartInv.execMergeRequest (h : HartInv s) : (Machine.execMergeRequest line s).Keeps HartInv := by
  unfold Machine.execMergeRequest
  split
  · exact h
  split
  · exact h
  · exact h

theorem HartInv.setULines (h : HartInv s) {l : List ULine} : HartInv { s with ulines := l } := h

theorem HartInv.execMergeResponse (h : HartInv s) : (Machine.execMergeResponse line s).Keeps HartInv := by
  unfold Machine.execMergeResponse
  split
  · exact h
  · exact .ite h (HartInv.ite h.setULines h.leaveU)

/-! ## Page migration and dies in reset (R324 to R327) -/

theorem HartInv.answerAll (h : HartInv s) {g : Grant} : HartInv (s.answerAll line g) :=
  (h.foldl fun _ _ h => .ite h (.ite h.recallDie h.snooped)).putHome.homeSettle

theorem HartInv.finishLine (h : HartInv s) : HartInv (s.finishLine line n) := by
  induction n generalizing s with
  | zero => exact h
  | succ n ih =>
    unfold State.finishLine
    split
    · exact h
    split
    · exact h
    · exact ih h.answerAll

theorem HartInv.recallAll (h : HartInv s) : HartInv (s.recallAll line) := (h.foldl fun _ _ h => h.recallDie.putDir).putHome

theorem HartInv.copyFailing (h : HartInv s) {src dst : Nat} : HartInv (s.copyFailing src dst n) := h

theorem HartInv.moveLine (h : HartInv s) {src dst : Nat} : HartInv (s.moveLine die src dst) :=
  h.finishLine.leaveU.recallAll.recallAll.setULines.physWrite.copyFailing

theorem HartInv.setMovedPages (h : HartInv s) {l : List Nat} : HartInv { s with movedPages := l } := h

theorem HartInv.execMigrationGo (h : HartInv s) : (Machine.execMigrationGo die s).Keeps HartInv := by
  unfold Machine.execMigrationGo
  extract_lets pad src dst flags stuck t
  have hf (s : State) (v : Nat) (h : HartInv s) : HartInv (flags s v) := h
  have ht : HartInv t := h.foldl fun _ _ h => h.moveLine
  clear_value pad src dst flags stuck t
  exact .ite h (.ite (hf _ _ h) (.ite (hf _ _ (h.foldl fun _ _ h => h.leaveU)) (hf _ _ ht.setMovedPages)))

theorem HartInv.execDieResetRecall (h : HartInv s) : (Machine.execDieResetRecall die s).Keeps HartInv := by
  refine .ite h ?_
  extract_lets homed s1 s2 s3 s4 c d t1 t2 t3
  have h1 : HartInv s1 := h.foldl fun _ _ h => h.leaveU
  have h3 : HartInv s3 := h1.setULines.foldl fun _ _ h => h.dropJob
  have ht1 : HartInv t1 := (h3.putHart (Hart.legal_groomReset die)).putDie
  have ht2 : HartInv t2 := ht1
  have ht3 : HartInv t3 := ht2.foldl fun _ _ h => h.homeSettle
  exact HartInv.foldl ht3 fun _ _ h => .ite h.portAgain h

theorem HartInv.loadCopy (h : HartInv s) {c : Nat × Nat × Bool} : HartInv (s.loadCopy c) := by
  unfold State.loadCopy
  extract_lets s1 e k f c s2
  have h2 : HartInv s2 := h.filterRoom
  exact h2.putHome

theorem HartInv.execDieReturn (h : HartInv s) : (Machine.execDieReturn die s).Keeps HartInv := by
  unfold Machine.execDieReturn
  extract_lets d waits t d'
  have ht : HartInv t := h.foldl fun _ _ h => h.loadCopy
  have hd : HartInv (t.putDie { d' with run := .running, table := [] }) := ht
  exact .ite h (HartInv.ite hd.push h)

end

section
variable {s t : State} {port off n : Nat} {value : Word}

/-! ## Host ports, wake and SEAL windows (R41 to R46, R366 to R368, R371) -/

theorem HartInv.ignored (h : HartInv s) : HartInv (s.ignored port off) := h.logPort
theorem HartInv.onPort (h : HartInv s) (ht : HartInv t) : (s.onPort port t).Keeps HartInv := h.unless ht

theorem HartInv.owned (h : HartInv s) {f : State → State} (hf : ∀ s, HartInv s → HartInv (f s)) : HartInv (s.owned port off f) :=
  .ite (hf _ h) h.ignored

theorem HartInv.statusChanged (h : HartInv s) : HartInv s.statusChanged := h.putPort.putPort

theorem HartInv.setHsem (h : HartInv s) : HartInv { s with hsem := n } := h

theorem HartInv.writeFuncmode (h : HartInv s) : HartInv (s.writeFuncmode value) := .ite h h

theorem HartInv.wakeDiscarded (h : HartInv s) {c : Stop} {tail : Nat} : HartInv (s.wakeDiscarded port c tail) := h.logPort

theorem HartInv.windowWake (h : HartInv s) : HartInv (s.windowWake port).2 := by
  unfold State.windowWake
  extract_lets p d tail c w
  split
  · exact h.wakeDiscarded
  have hr := h.ringWake (w := { w with service := false }) (c := c) (n := tail)
  split <;> dsimp only
  next eq => exact hr.ok eq
  next eq => exact h.keepAttempt.wakeDiscarded
  next eq => exact h.keepAttempt

theorem HartInv.execWakeWindowWrite (h : HartInv s) : (Machine.execWakeWindowWrite port off value s).Keeps HartInv := by
  have ht : HartInv (if off ≤ 0x20 then s.putPort { s.portAt port with wake := putBytes (s.portAt port).wake off value.toNat } else s) :=
    .ite h.putPort h
  have hw := ht.windowWake (port := port)
  refine h.unless (.ite h.putPort (.ite ht ?_))
  dsimp only
  split
  next eq => rw [eq] at hw; exact hw
  next eq => rw [eq] at hw; exact HartInv.putPort hw

theorem HartInv.answerFault (h : HartInv s) {die hart record : Nat} {raise : Bool} : HartInv (s.answerFault die hart record raise) := by
  unfold State.answerFault
  extract_lets f d
  have hd : HartInv (s.putDie { d with offers := f d.offers }) := h
  exact .ite hd (h.onHartId fun _ => rfl)

theorem HartInv.retryUnits (h : HartInv s) {die : Nat} : HartInv (s.retryUnits die) := h.push.retryPending

theorem HartInv.eventAnswered (h : HartInv s) {e : EventRec} {fail : Bool} : HartInv (s.eventAnswered e fail) := by
  refine .ite ?_ (.ite (.ite h.answerFault.retryUnits h.answerFault) h)
  split
  · exact h.endNode
  · exact h

theorem HartInv.execEventPost (h : HartInv s) : (Machine.execEventPost port s).Keeps HartInv := by
  unfold Machine.execEventPost
  extract_lets p
  refine h.onPort ?_
  split
  · exact h
  · exact .ite h.putPort h

theorem HartInv.writeEvack (h : HartInv s) : HartInv (s.writeEvack port value) := by
  unfold State.writeEvack
  extract_lets p
  split
  · exact h
  · exact .ite h (.ite h.putPort.eventAnswered h.putPort.eventAnswered.push)

theorem HartInv.windowSeal (h : HartInv s) : HartInv (s.windowSeal port) := .ite h.ignored (.ite h.putPort h.putPort)

theorem HartInv.windowRevoke (h : HartInv s) : HartInv (s.windowRevoke port) := by
  refine .ite h.ignored ?_
  split
  · exact h.putPort
  · exact h.raiseFloor.putPort

theorem HartInv.withdraw (h : HartInv s) {who : Nat} : HartInv (s.withdraw who) := by
  unfold State.withdraw
  extract_lets c t served
  have ht : HartInv t := h
  exact ht.foldl fun _ _ h => h.putHome.foldl fun _ _ h => h.homeRequest

theorem HartInv.linkDrop (h : HartInv s) : HartInv (s.linkDrop port) := by
  unfold State.linkDrop
  extract_lets p t1 t2 c t3
  have h1 : HartInv t1 := h.putPort.withdraw
  have h2 : HartInv t2 := h1
  have h3 : HartInv t3 := h2
  exact (h3.foldl fun _ _ h => h.portGone).portAgain

/-! ## Bring-up, reset and power (R18, R47 to R49, R324) -/

theorem HartInv.warmReset : HartInv s.warmReset := ⟨Hart.legal_reset 0, HartInv.reset.2⟩

theorem HartInv.setStage (h : HartInv s) {b : Bool} : HartInv { s with stage := n, bringup := b } := h

theorem HartInv.bootFails (h : HartInv s) : HartInv (s.bootFails n) := HartInv.statusChanged h

theorem HartInv.diesReturn (h : HartInv s) : HartInv s.diesReturn := by
  unfold State.diesReturn
  extract_lets back t
  have ht : HartInv t := h.foldl fun _ _ h => h.foldl fun _ _ h => h.loadCopy
  exact ht

theorem HartInv.execBringupStageComplete (h : HartInv s) : (Machine.execBringupStageComplete n s).Keeps HartInv := by
  refine .ite h (.ite h.bootFails ?_)
  split
  · exact h
  · exact h
  · exact h
  · exact HartInv.ite (HartInv.statusChanged h) h
  · have hd := h.diesReturn
    exact HartInv.ite hd (HartInv.statusChanged hd)
  · exact h

theorem HartInv.execBackgroundInitRegion (h : HartInv s) : (Machine.execBackgroundInitRegion s).Keeps HartInv := by
  unfold Machine.execBackgroundInitRegion
  extract_lets r was t
  refine .ite h ?_
  have ht : HartInv t := h
  exact HartInv.ite (HartInv.statusChanged ht) ht

/-! ## Registers and host accesses (R39, R43, R46 to R48, R366 to R371) -/

theorem HartInv.writeWindow (h : HartInv s) : HartInv (s.writeWindow off value) := .ite h h

theorem HartInv.writeCtrl (h : HartInv s) : HartInv (Machine.writeCtrl port value s) := by
  unfold Machine.writeCtrl
  extract_lets s1 s2 s3
  have h1 : HartInv s1 := .ite h h
  have h2 : HartInv s2 := .ite h1 h1
  have h3 : HartInv s3 := .ite h2 h2
  exact h3.push

theorem HartInv.writeLaunch (h : HartInv s) : HartInv (s.writeLaunch port off value) := .ite h.ignored (.ite (.ite h.push h) h.putPort)

theorem HartInv.writeSeal (h : HartInv s) : HartInv (s.writeSeal port off value) :=
  .ite h.ignored (.ite (.ite h.push (.ite h.push h)) (.ite h.putPort (.ite h.putPort h)))

theorem HartInv.writeConfig (h : HartInv s) {groom : Bool} : HartInv (s.writeConfig off value groom) :=
  .ite h (.ite (.ite h h) (.ite h (.ite h
    (.ite (.ite h (.ite h h)) (.ite h h)))))

theorem HartInv.execRegisterWrite (h : HartInv s) : (Machine.execRegisterWrite port off value s).Keeps HartInv :=
  h.unless (.ite h (.ite (.ite h (.ite h.logAll h.writeConfig)) (.ite (.ite h.setHsem h)
    (.ite (h.owned fun _ h => h.writeFuncmode) (.ite (h.owned fun _ h => h.writeCtrl) (.ite h.push (.ite h.writeEvack
      (.ite h.writeLaunch (.ite h.writeSeal (.ite (.ite h.putPort h) (.ite h.putPort (.ite h.putPort
        (.ite (h.owned fun _ h => h.writeWindow) h.writeConfig)))))))))))))

theorem HartInv.execBar2Access (h : HartInv s) {write : Bool} {addr : Nat} : (Machine.execBar2Access port write addr value s).Keeps HartInv := by
  have hw : HartInv { s with staging := s.staging.writeN addr 8 value.toNat } := h
  exact h.unless (.ite (.ite (.ite hw h.putPort) (.ite h.ignored h.putPort)) (.ite (.ite h h.putPort) (.ite h h.hostAccess)))

end

section
variable {s t : State} {die n i : Nat}

/-! ## Steps about a hart: traps, leases, lanes, engines, timers (R56, R58, R125, R213, R232, R343, R356) -/

theorem HartInv.onFocus (h : HartInv s) {f : State → State} (hf : ∀ s, HartInv s → HartInv (f s)) : HartInv (s.onFocus n f) := by
  unfold State.onFocus
  split
  · exact h
  · exact .ite (hf _ h.focusOn).focusOn h

theorem HartInv.onHartStep (h : HartInv s) {f : State → State} (hf : ∀ s, HartInv s → HartInv (f s)) :
    (Machine.onHartStep n s f).Keeps HartInv :=
  h.unless (h.onFocus hf)

theorem HartInv.takeAsync (h : HartInv s) (e : s.takeAsync = some t) : HartInv t := by
  unfold State.takeAsync at e
  split at e
  · contradiction
  split at e
  · cases e; exact (h.onHart (Hart.modes_dropAsync _)).takeTrap
  split at e
  · cases e; exact h.resumeTransfers.drainWork
  · contradiction

theorem HartInv.takeReady (h : HartInv s) (e : s.takeReady = some t) : HartInv t := by
  unfold State.takeReady at e
  split at e
  · cases e; exact h.takeTrap
  · split at e
    · cases e; exact (h.onHart rfl).takeTrap
    · exact h.takeAsync e
  · exact h.takeAsync e

theorem HartInv.execTrapTake (h : HartInv s) : (Machine.execTrapTake n s).Keeps HartInv := by
  refine h.onHartStep fun s h => .ite ?_ h
  cases e : s.takeReady with
  | none => exact h
  | some t => exact h.takeReady e

theorem HartInv.preemptWrite (h : HartInv s) {value : Word} {host : Bool} : HartInv (s.preemptWrite die value host) := by
  unfold State.preemptWrite
  extract_lets id
  split
  · exact h.logAll
  next x e =>
    split at e
    · exact .ite h.logAll (.ite h (h.putHartOf e (Hart.modes_preempt _)))
    · contradiction

theorem HartInv.setWatchdog (h : HartInv s) {b : Bool} : HartInv (s.putDie { s.dieAt die with watchdog := b }) := h

theorem HartInv.onArbiter (h : HartInv s) {f : Hart → State} (hf : ∀ x, s.findHart n = some x → HartInv (f x)) :
    (Machine.onArbiter n s f).Keeps HartInv := by
  refine .ite h ?_
  split
  · exact h
  next e => exact h.whenRuns (hf _ e)

theorem HartInv.execReadQueueReturn (h : HartInv s) : (Machine.execReadQueueReturn n s).Keeps HartInv := by
  refine h.onHartStep fun s h => ?_
  split
  · exact .ite h.laneStep h
  · exact h

theorem HartInv.execBlockGroupCommit (h : HartInv s) : (Machine.execBlockGroupCommit n s).Keeps HartInv := by
  refine h.onHartStep fun s h => ?_
  split
  · split
    case h_5 => exact h
    all_goals exact h.lanes
  · exact h

theorem HartInv.execStripAssign (h : HartInv s) : (Machine.execStripAssign n s).Keeps HartInv := by
  refine h.onHartStep fun s h => ?_
  split
  · exact .ite h.lanes h
  · exact h

theorem HartInv.execRecursionPassComplete (h : HartInv s) : (Machine.execRecursionPassComplete n s).Keeps HartInv := by
  refine h.onHartStep fun s h => ?_
  split
  · exact .ite h.laneStep h
  · exact h

theorem HartInv.chunkOf (h : HartInv s) : HartInv (s.chunkOf i) := .ite h.bridleChunk h

theorem HartInv.chunksOf (h : HartInv s) : HartInv (s.chunksOf i n) := by
  induction n generalizing s with
  | zero => exact h
  | succ n ih => exact .ite (.ite (ih h.bridleChunk) h.bridleChunk) h

theorem HartInv.onEngine (h : HartInv s) {f : State → State} {g : Nat → State} (hf : ∀ s, HartInv s → HartInv (f s))
    (hg : ∀ d, HartInv (g d)) :
    (Machine.onEngine n s f g).Keeps HartInv := .ite (HartInv.ite (hg _) h) (h.onHartStep hf)

theorem HartInv.execEngineTransferStart (h : HartInv s) : (Machine.execEngineTransferStart n i s).Keeps HartInv := by
  refine h.onEngine (fun s h => ?_) fun d => ?_
  · split
    · exact .ite (h.onHart (by rfl)) h
    · exact h
  · dsimp only
    split
    · exact h.setCopies
    · exact h

theorem HartInv.execEngineTransferComplete (h : HartInv s) : (Machine.execEngineTransferComplete n i s).Keeps HartInv := by
  refine h.onEngine (fun s h => ?_) fun d => ?_
  · split
    · exact h.chunksOf
    · exact h
  · split
    · exact h.copyNodeAll
    · exact h

theorem HartInv.execMdrainTransferComplete (h : HartInv s) : (Machine.execMdrainTransferComplete n i s).Keeps HartInv := by
  refine h.onHartStep fun s h => ?_
  split
  · split
    · exact h.chunkOf
    · exact h
  · exact h

theorem HartInv.onTimer (h : HartInv s) {f : Hart → Hart} (hf : ∀ g, (f g).modes = g.modes) : (Machine.onTimer n s f).Keeps HartInv := by
  refine .ite h ?_
  split
  · exact h
  next e => exact h.whenRuns (h.putHartOf e (hf _))

/-! ## Errors, Burzer and recovery, shutdown (R364 to R366, R369, R370, R372) -/

theorem HartInv.countError (h : HartInv s) {counter : Nat} : HartInv (s.countError die counter) := by
  unfold State.countError
  extract_lets one
  have h1 (s : State) (port : Nat) (h : HartInv s) : HartInv (one s port) := .ite (h.putPort.logAll.onHartId fun _ => rfl) h.putPort
  exact h1 _ _ (h1 _ _ h)

theorem HartInv.execBurzerCrcReplay (h : HartInv s) : (Machine.execBurzerCrcReplay n s).Keeps HartInv := by
  have hc := h.countError (die := linkDie n) (counter := 2)
  exact .ite h (.ite h (HartInv.ite hc hc))

theorem HartInv.setLinks (h : HartInv s) {failed down : List Nat} : HartInv { s with failedDev := failed, linkDown := down } := h

theorem HartInv.execCheckpointWrite (h : HartInv s) : (Machine.execCheckpointWrite s).Keeps HartInv := by
  unfold Machine.execCheckpointWrite
  extract_lets t rs c
  have ht : HartInv t := h.foldl fun _ _ h => h.evictU
  exact ht

theorem HartInv.renew (h : HartInv s) {w : Who} {g : Graph} {k : Nat} : (s.renew w g k n).Keeps HartInv := by
  induction k generalizing s n with
  | zero => exact h
  | succ k ih => exact h.readNode.bind fun _ _ h => Res.Keeps.bind (.ite h h.setNode) fun _ _ h => (ih h).bind fun _ _ h => h

theorem HartInv.relaunch (h : HartInv s) {g : Graph} : HartInv (s.relaunch g) := by
  unfold State.relaunch
  split
  next eq => exact h.unitOf eq
  next eq =>
    have hr := (h.unitOf eq).renew (w := ‹Who›) (g := g) (k := g.count) (n := 0)
    split
    next eq => exact (hr.ok eq).putGraph.push
    next eq => exact (hr.stop eq).record10
    next eq => exact hr.wait eq

theorem HartInv.restore (h : HartInv s) {c : Checkpoint} : HartInv (s.restore c) := by
  unfold State.restore
  extract_lets line cleared coh t1 t2
  have h1 : HartInv t1 := h
  have h2 : HartInv t2 := h1.foldl fun _ _ h => h.touchRegion
  exact h2.foldl fun _ _ h => h.relaunch

theorem HartInv.execCheckpointRestore (h : HartInv s) : (Machine.execCheckpointRestore s).Keeps HartInv := by
  unfold Machine.execCheckpointRestore
  extract_lets buddy t
  have ht : HartInv t := h
  refine .ite h ?_
  split
  · exact ht
  · exact HartInv.ite ht.restore ht

theorem HartInv.execInboundPeerAccess (h : HartInv s) {write : Bool} {addr : Nat × Nat} {value : Word} :
    (Machine.execInboundPeerAccess n write addr value s).Keeps HartInv := by
  unfold Machine.execInboundPeerAccess
  split
  extract_lets pa ok
  refine h.unless ?_
  split
  · exact h.contain
  · exact .ite h.physWrite h.physRead

theorem HartInv.shutdown (h : HartInv s) : HartInv (s.shutdown n) :=
  (h.logAll (r := dieRecord 11 0 0 0 n))

theorem HartInv.execClockThrottle (h : HartInv s) {level : Nat} : (Machine.execClockThrottle die level s).Keeps HartInv := by
  have hd : HartInv (s.putDie { s.dieAt die with clock := min level s.record.clock }) := h
  exact h.unless hd

/-! ## Scalar floating point (R109 to R112) -/

theorem HartInv.fpOp (h : HartInv s) {r : Row} {w : BitVec 64} {d : Reg} {f : Hart → Nat × Flags} : (s.fpOp r w d f).Keeps HartInv :=
  h.scalar fun _ h => h.fpWrite

end

section
variable {s t : State}

/-! ## One step of the part -/

theorem HartInv.exec (h : HartInv s) {i : Instr} : Answer.Keeps HartInv (Machine.exec i s) := by
  unfold Machine.exec
  cases i with
  | powerGood => exact HartInv.reset
  | bringupStageComplete => exact h.execBringupStageComplete
  | ctrlWreset => exact h.onPort (h.owned fun _ _ => HartInv.setStage HartInv.warmReset)
  | ctrlBootretry => exact h.onPort (h.owned fun _ h => .ite h.statusChanged h)
  | ctrlModelock => exact h.onPort (h.owned fun _ h => h)
  | ctrlCfglock => exact h.onPort (h.owned fun _ h => h)
  | ctrlWinlock => exact h.onPort (h.owned fun _ h => h)
  | hsemRead => exact h.onPort h
  | hsemRelease => exact h.onPort (.ite h.setHsem h)
  | funcmodeWrite => exact h.onPort (h.owned fun _ h => h.writeFuncmode)
  | registerWrite => exact h.execRegisterWrite
  | hostLinkDown => exact h.onPort h.linkDrop
  | wakeWindowWrite => exact h.execWakeWindowWrite
  | evackWrite => exact h.onPort h.writeEvack
  | eventPost => exact h.execEventPost
  | launchRequestGo => exact h.execLaunchRequestGo
  | sealWindowSeal => exact h.onPort h.windowSeal
  | sealWindowRevoke => exact h.onPort h.windowRevoke
  | preemptTimer => exact .ite h (h.whenRuns h.preemptWrite)
  | preemptHost => exact .ite h (h.whenRuns h.preemptWrite)
  | migrationGo => exact h.execMigrationGo
  | migrationRetire => exact .ite h h.setMovedPages
  | watchdogWrite => exact .ite h (h.whenRuns h.setWatchdog)
  | watchdogExpiry => exact .ite h (.ite h (.ite h.setWatchdog (h.putHart (Hart.legal_groomReset _)).logAll.recoveryEvent))
  | backgroundInitRegion => exact h.execBackgroundInitRegion
  | graphSubmissionPop => exact h.execGraphSubmissionPop
  | nodeStart => exact h.execNodeStart
  | readyRingPost => exact h.execReadyRingPost
  | nodeFinish => exact h.execNodeFinish
  | remoteSuccessorReady => exact h.execRemoteSuccessorReady
  | completionPushRetry => exact h.execCompletionPushRetry
  | admissionGranted => exact h.execAdmissionGranted
  | jobComplete => exact h.execJobComplete
  | jobEndByRecovery => exact h.execJobEndByRecovery
  | stripBoundaryGrantChange => exact h.onArbiter fun _ _ => h.boundary
  | forcedBoundary => exact h.onArbiter fun _ e => .ite h (h.putHartOf e (by rfl)).boundary
  | leaseStallPreempt => exact h.onArbiter fun _ e => .ite (h.putHartOf e (Hart.modes_preempt _)) h
  | clusterRetire => exact .ite h (h.whenRuns (.ite h.setRetired.retarget h))
  | vectorEntryComplete => exact h.onHartStep fun _ h => h.laneStep
  | readQueueReturn => exact h.execReadQueueReturn
  | blockGroupCommit => exact h.execBlockGroupCommit
  | stripAssign => exact h.execStripAssign
  | hartHaltComplete => exact h.execHartHaltComplete
  | trapTake => exact h.execTrapTake
  | translationFaultReply => exact .ite h (.ite h (HartInv.ite (HartInv.ite h h.answerFault).retryUnits (HartInv.ite h h.answerFault)))
  | engineTransferStart => exact h.execEngineTransferStart
  | engineChunkComplete => exact h.onEngine (fun _ h => h.chunkOf) fun _ => h.copyNodeChunk
  | engineTransferComplete => exact h.execEngineTransferComplete
  | mdrainTransferComplete => exact h.execMdrainTransferComplete
  | recursionPassComplete => exact h.execRecursionPassComplete
  | directoryReadRequest => exact h.onAgent (.ite h.homeRequest h.dirRequest)
  | directoryWriteRequest => exact h.onAgent (.ite h.homeRequest h.dirRequest)
  | invalidation => exact h.execInvalidation
  | invalidationAck => exact h.onAgent (.ite h.putHome.homeSettle h.putDir.recallSettle.dirSettle.askAgain)
  | evictionNotice => exact h.execEvictionNotice
  | forwardSnoop => exact h.execForwardSnoop
  | writeBack => exact h.onAgent (.ite (.ite h h.dieEvicts) (.ite h.agentEvicts h))
  | backInvalidation => exact HartInv.ite h h.backInvalidate
  | uRequest => exact .ite h (h.onAgent (.ite h.homeRequest h.dirRequest))
  | mergeRequest => exact h.execMergeRequest
  | mergeResponse => exact h.execMergeResponse
  | movedResponse => exact .ite h (h.onHartId fun _ => by split <;> rfl)
  | hostCxlRequest => exact h.execHostCxlRequest
  | bisnpResponse => exact .ite h h.portAnswered
  | hostSnoop => exact .ite h h.setCoh
  | dieResetRecall => exact h.execDieResetRecall
  | dieReturn => exact h.execDieReturn
  | memoryScrub => exact .ite h (h.whenRuns (HartInv.foldl h fun _ _ h => h.contain))
  | correctedError => exact .ite h h.countError
  | burzerCrcReplay => exact h.execBurzerCrcReplay
  | burzerHeartbeat => exact h.unless h
  | peerSilenceTimeout => exact .ite h (.ite h h.setLinks.logAll)
  | spareAssign => exact .ite h h
  | checkpointRestore => exact h.execCheckpointRestore
  | checkpointWrite => exact h.execCheckpointWrite
  | thermalShutdown => exact h.shutdown
  | coolantLossShutdown => exact h.shutdown
  | clockThrottle => exact h.execClockThrottle
  | wfeTimeout => exact h.onTimer fun _ => rfl
  | waitmTimeout => exact h.onTimer fun _ => by split <;> rfl
  | add | sub | and | or | xor | sll | srl | sra | slt | sltn | min | max | minn | maxn | andn | orn | rol | ror | addw | subw | mul
      | mulh | mulhn | mulhsn | addi | andi | ori | xori | slti | sltni | slli | srli | srai | roli | lui | auipc | clz | ctz | popc
      | bswap | sextb | sexth | sextw | zextb | zexth | zextw | cAddi | cMv | cAdd | cSub => exact h.compute
  | div | divn | rem | remn => exact h.divide
  | fadd | fsub | fmul | fdiv | fsqrt | fmin | fmax | fsgnj | fsgnjn | fsgnjx | feq | flt | fle | fclass | fma | fms | fnma | fnms |
      fcvtI32F32 | fcvtN32F32 | fcvtI64F32 | fcvtN64F32 | fcvtF32I32 | fcvtF32N32 | fcvtF32I64 | fcvtF32N64 | fcvtI32F64 |
      fcvtN32F64 | fcvtI64F64 | fcvtN64F64 | fcvtF64I32 | fcvtF64N32 | fcvtF64I64 | fcvtF64N64 | fcvtF32F64 | fcvtF64F32 => exact
      h.fpOp
  | lb | lh | lw | ld | lbn | lhn | lwn | cLd | cLw => exact h.load
  | sb | sh | sw | sd | cSd | cSw => exact h.store
  | beq | bne | blt | bge | bltn | bgen | cBeqz | cBnez => exact h.branch
  | jal => exact h.scalar fun _ h => (h.onHart (Hart.modes_setX ..)).retireTo
  | jalr => exact h.scalar fun _ h => .ite h.raise (.ite h.raise (h.onHart (Hart.modes_setX ..)).retireTo)
  | amoswapW | amoaddW | amoandW | amoorW | amoxorW | amominW | amomaxW | amominnW | amomaxnW | amoswapD | amoaddD | amoandD |
      amoorD | amoxorD | amominD | amomaxD | amominnD | amomaxnD => exact h.amo
  | cas => exact h.scalar fun _ h => h.afterRelease (h.onceFree (h.modify.harts_finish fun _ _ h => h.writeX))
  | fence => exact h.execFence
  | pause => exact h.scalar fun _ h => h.retire
  | waitm => exact h.scalar fun _ h => h.onceFree (h.loadRaw.harts_finish fun _ _ h => .ite h.writeX h.stay)
  | arrive => exact h.execArrive
  | await => exact h.scalar fun _ h => h.onceFree (h.loadRaw.harts_finish fun _ _ h => .ite h.writeX h.asyncTrap)
  | gbar | gbarRlx => exact h.gangBarrier
  | csrrw | csrrs | csrrc | csrrwi | csrrsi | csrrci => exact h.csrOp
  | trap => exact h.scalar fun _ h => h.raise
  | trapBrk => exact h.scalar fun _ h => h.raise
  | tret => exact h.scalar fun _ h => h.afterQueue (.ite h.raise (h.onHart rfl).trapReturn)
  | halt => exact h.scalar fun _ h => .ite (HartInv.ite (h.advance.onHart rfl) (h.advance.onHart rfl).setTurns) h.resumeTransfers.idleWork
  | wfe => exact h.scalar fun _ h => .ite (h.onHart rfl).retire h.stay
  | tlbinv => exact h.execTlbinv
  | cflush | cinval => exact h.cleanRange
  | pin => exact h.pinRange fun _ _ _ h => h.pinLines
  | unpin => exact h.pinRange fun _ _ _ h => h.unpinLines
  | vqsave => exact h.execVqsave
  | vqload => exact h.execVqload
  | finval => exact h.scalar fun _ h => h.afterQueue (.ite h.resumeTransfers.engineWork h.resumeTransfers.setStables.retire)
  | qpush => exact h.execQpush
  | qpop | qpeek => exact h.popRing
  | qwake => exact h.withCap fun _ _ h => h.ringWake.harts_finish fun _ _ h => h.writeX
  | qseal => exact h.execQseal
  | qrevoke => exact .ite h.raise (h.withCap fun _ _ h => h.raiseFloor.writeX)
  | qgrow => exact h.withCap fun _ _ h => .ite h.raise (.ite h.raise (h.ringGrow.harts_finish fun _ _ h => h.writeX))
  | cpy => exact h.execCpy
  | cpybt => exact h.execCpybt
  | cpywait => exact h.execCpywait
  | nsub => exact h.execNsub
  | cpyfill => exact h.execCpyfill
  | cJ => exact h.scalar fun _ h => h.retireTo
  | inboundPeerAccess => exact h.execInboundPeerAccess
  | spdmRequest => exact h.onPort h
  | bar2Access => exact h.execBar2Access
  | ioDomainPowerLoss => exact h.onPort h.putPort.linkDrop.putPort
  | powerLoss => exact ⟨Hart.legal_reset 0, rfl⟩
  | cycleCountAdvance => exact .ite h (h.whenRuns h.putStable)
  | _ => exact h.issue

theorem HartInv.hartStep (h : HartInv s) : (Machine.hartStep s).Keeps HartInv := by
  refine .ite h ?_
  split
  next e => exact h.takeReady e
  · refine h.fetchAt.harts_finish fun w t h => ?_
    split
    · exact h.raise
    · exact h.exec

theorem HartInv.laneTurn (h : HartInv s) {n : Nat} : HartInv (s.laneTurn n) := .ite h.laneAt h

theorem HartInv.step (h : HartInv s) : Answer.Keeps HartInv (Machine.step s) := by
  have ht {ts : List Turn} : HartInv { s with turns := ts } := h
  unfold Machine.step
  split
  · exact .ite ht.exec ht
  · exact HartInv.ite ht.focusOn ht
  · exact .ite ht.focusOn.hartStep ht
  · exact ht.laneTurn
  · exact h.hartStep

end

/-- Settles O60: a step of every kind changes `vcfg`, the mode and the mode before a trap only by the writes, grants, traps, returns,
launches and resets that keep them legal. -/
theorem hartsStayLegal : Obligations.HartsStayLegal := by
  unfold Obligations.HartsStayLegal
  intro s t h e
  have hs := h.step
  rw [e] at hs
  exact hs

end Sys2Proof.Machine
end
